-- ==== Sys2Proof/Word.lean ====
section
/-! DEFINITION. Words and bytes of the ZH1024, and the shape of a sparse table.
Registers are 32 bits wide (R5). -/
namespace Sys2Proof

/-- A register value (R5). -/
abbrev Word := BitVec 32

/-- A byte. -/
abbrev Byte := BitVec 8

/-- A sparse table: pairs of a key and a value, keys strictly rising, no value equal to the table's default. -/
abbrev Tab (β : Type) := List (Nat × β)

end Sys2Proof
end

