-- ==== Sys2Proof/Syntax.lean ====
section
/-! DEFINITION. The commands: one constructor per row of spec/opcode_table.json, with the operands that stand for what
the row's event carries (the row's bits are not given by the table, log 1). `t` is always the instant of the command,
in ns of always-on uptime. The types before `Instr` are the shapes of operands. -/
namespace Sys2Proof

/-- A path into the device for Fratin messages (R48, R97). -/
inductive MsgPath where
  | mgt (port : Nat)
  | mailbox
  deriving DecidableEq, Repr

/-- A datagram as it reaches a management port (R97): source address and port, destination address and port, whether it is a fragment, and its UDP payload,
which is the message. The mailbox carries the message alone. -/
structure Datagram where
  ip : Nat
  udp : Nat
  dst : Nat
  dport : Nat
  fragment : Bool
  data : List Byte
  deriving DecidableEq, Repr

/-- An image slot (R30). -/
inductive Slot where
  | a
  | b
  deriving DecidableEq, Repr

/-- One entry of a salvo (R103). -/
structure Entry where
  levels : Nat
  dest : Nat
  src : Nat
  amap : Nat
  deriving DecidableEq, Repr

/-- One entry of a LIVE_SET (R109); `value` is its 8 bytes. -/
structure LiveEntry where
  param : Nat
  sub : Nat
  index : Nat
  value : List Byte
  deriving DecidableEq, Repr

/-- The kind of an effective time (R83, R104). -/
inductive EffTime where
  | next
  | frame (tg frame : Nat)
  | time (ns : Nat)
  deriving DecidableEq, Repr

/-- A HEARTBEAT body (R221); times in ns of device time, the hash as 32 bytes. -/
structure Heartbeat where
  systemId : Nat
  side : Nat
  pairId : Nat
  mode : Nat
  role : Nat
  keyOut : Bool
  keyIn : Bool
  claiming : Bool
  seesUp : Bool
  count : Nat
  time : Nat
  compat : Nat
  genCommitted : Nat
  genOnAir : Nat
  score : Nat
  tableCrc : Nat
  hash : List Byte
  deriving DecidableEq, Repr

/-- One record of a DECISION (R222). -/
structure DecisionRec where
  kind : Nat
  tg : Nat
  index : Nat
  at_ : Nat
  value : Nat
  deriving DecidableEq, Repr

/-- A TAKE_ORDER body (R223): ORDER 0 a salvo, 1 a LIVE_SET, 2 a LINTEL message; the headland frame of each group (0:
the order touches no destination of it). -/
structure Order where
  order : Nat
  sender : Nat
  id : Nat
  gen : Nat
  commit : Nat
  frames : List Nat
  entries : List Entry
  live : List LiveEntry
  lintel : List Byte
  deriving DecidableEq, Repr

/-- One record of a DIGEST (R224). -/
structure DigestRec where
  kind : Nat
  localCause : Bool
  dark : Bool
  id : Nat
  crc : Nat
  deriving DecidableEq, Repr

/-- One record of an ARBITRATE INPUTS message (R224): input, arrival in ns of device time, CRC. -/
structure InputRec where
  input : Nat
  arrival : Nat
  crc : Nat
  deriving DecidableEq, Repr

/-- A row of a video table (R114 tables 0 and 1). -/
structure VRow where
  srcV : Nat
  srcN : Nat
  amap : Nat
  pass : Bool
  gen : Nat
  deriving DecidableEq, Repr

/-- A row of an audio table (R114 tables 2 and 3). -/
structure ARow where
  src : Option Nat
  gen : Nat
  deriving DecidableEq, Repr

/-- A compositor's part of STATE section 7 (R237). -/
structure JoinCmp where
  frames : Nat
  change : Bool
  pinned : List Nat
  deriving DecidableEq, Repr

/-- A stored stream's part of STATE section 9 (R237). -/
structure JoinStream where
  index : Nat
  widx : Nat
  arrival : Nat
  lastRead : Nat
  loss : Nat
  mode : Nat
  deriving DecidableEq, Repr

/-- An audio input's part of STATE section 9 (R237). -/
structure JoinAudio where
  index : Nat
  block : Nat
  direction : Nat
  deriving DecidableEq, Repr

/-- A sender's part of STATE section 10 (R237); `seen` lists the sequence numbers seen below the highest. -/
structure JoinSender where
  sender : Nat
  session : Nat
  highest : Nat
  seen : List Nat
  deriving DecidableEq, Repr

/-- A held salvo part (R105, R237). -/
structure PartRec where
  sender : Nat
  salvo : Nat
  index : Nat
  count : Nat
  entries : List Entry
  deriving DecidableEq, Repr

/-- A STATE section with its data (R237). Section 0 is the request. The words of a table are those of R114, in order. -/
inductive Section where
  | request
  | instant (tJ genCommitted genOnAir : Nat)
  | videoCommitted (words : List Nat)
  | audioCommitted (words : List Nat)
  | orders (os : List Order)
  | placement (words : List (Nat × Nat))
  | live (es : List LiveEntry)
  | compositors (cs : List (Nat × JoinCmp))
  | lintel (msgMask decided : Nat) (slots : List (List Byte))
  | streams (ss : List JoinStream) (audio : List JoinAudio)
  | senders (ss : List JoinSender) (parts : List PartRec)
  | videoOnAir (words : List Nat)
  | audioOnAir (words : List Nat)
  deriving DecidableEq, Repr

/-- An event of the placement history (R26): the entries of a committed salvo, or the address of a retired slot. -/
inductive HistEvent where
  | salvo (entries : List Entry)
  | retired (addr : Nat)
  deriving DecidableEq, Repr

/-- What the party wall carries: the messages of R219 and the RESEND control block (R215, R217). -/
inductive WallMsg where
  | heartbeat (hb : Heartbeat)
  | giveUp (reason : Nat)
  | decision (recs : List DecisionRec)
  | takeOrder (o : Order)
  | arbitrate (phase result event units : Nat) (inputs : List InputRec)
  | handover (op tg frame : Nat)
  | digest (tg frame : Nat) (recs : List DigestRec)
  | health (score : Nat) (capped : Bool) (words : List Nat)
  | state (sec : Section)
  | replyRelay (ip udp mgt : Nat) (bytes : List Byte)
  | fragment (bytes : List Byte)
  | block (bseq : Nat)
  | resend (bseq : Nat)
  deriving DecidableEq, Repr

/-- An Announce message's data set (IEEE 1588-2019, 9.3.4). -/
structure AnnounceBody where
  domain : Nat
  version : Nat
  priority1 : Nat
  clockClass : Nat
  accuracy : Nat
  variance : Nat
  priority2 : Nat
  identity : Nat
  steps : Nat
  sender : Nat
  deriving DecidableEq, Repr

/-- A host configuration request to the card port (R427). -/
inductive CfgReq where
  | bar0 (addr : Nat)
  | bar2 (addr : Nat)
  | busMaster (on : Bool)
  | msix (enable mask : Bool)
  | d3hot (on : Bool)
  deriving DecidableEq, Repr


/-! Shapes of the image's content (R38). Records 0x0011 and 0x0013 have no byte layout in the spec: RECORDS_APPLIED carries
what each of them says (log 30). -/

/-- A video format: FORMAT and RATE codes of TMG_TGg_CFG, SAMPLING code of SDIn_RX_CFG, MAP of R309 (15: an IP essence). -/
structure VFormat where
  raster : Nat
  rate : Nat
  sampling : Nat
  map : Nat
  deriving DecidableEq, Repr

/-- What feeds a video source: the SDI port of a lead lane or a receive context (R18). -/
inductive Input where
  | sdi (lane : Nat)
  | rxc (n : Nat)
  deriving DecidableEq, Repr

/-- A video source 0–3,967 of the image (R18, R71, R73): its input, side B of a paired input (R232), format, window depth
(0: XPT_CFG.WIN_DEFAULT), whether it is read from the frame store, its read group. -/
structure SrcCfg where
  input : Input
  pairB : Option Nat
  fmt : VFormat
  depth : Nat
  synced : Bool
  readGroup : Nat
  deriving DecidableEq, Repr

/-- A video destination 0–3,583 (R21, R24): the lead lane of its SDI output or of path A of its transmit context; the -20
context, if IP; the timing group; format; LINTEL_GUARDED (R87); output delay in frames, 0 for DIRECT (R123). -/
structure DstCfg where
  lane : Nat
  txc : Option Nat
  tg : Nat
  fmt : VFormat
  guarded : Bool
  outDelay : Nat
  deriving DecidableEq, Repr

/-- A stored stream (R115–R117, R128): code 0 RAW … 4 C4; stored format 0 4:2:2 10, 1 4:4:4 10, 2 4:4:4 12, 3 RGBA 8, 4 RGBA
10; R'G'B' planes; tiles per frame; window offset of its first slot; ring depth and greatest delay; ancillary KiB; read group; initial mode
and delay. -/
structure StreamCfg where
  code : Nat
  stored : Nat
  rgb : Bool
  tiles : Nat
  base : Nat
  depth : Nat
  maxDelay : Nat
  ancKib : Nat
  readGroup : Nat
  mode : Nat
  delay : Nat
  deriving DecidableEq, Repr

/-- A slate (R96): its content, as slots in raster tile order, and its size in samples. -/
structure SlateCfg where
  content : StreamCfg
  width : Nat
  height : Nat
  deriving DecidableEq, Repr

/-- A text message of the lintel layer (R166). -/
structure LintelText where
  centreX : Nat
  centreY : Nat
  fg : Nat
  bg : Nat
  scale : Nat
  text : List Byte
  deriving DecidableEq, Repr

/-- The content of a lintel slot (R166); a bitmap lies at a window offset of the protected region. -/
inductive LintelMsg where
  | text (m : LintelText)
  | bitmap (base x y width height : Nat) (premult : Bool)
  deriving DecidableEq, Repr

/-- What one record of type 0x0011 says (R38): rows of the initial video table, and the source of audio destinations. -/
structure InitialRec where
  video : List (Nat × VRow)
  audio : List (Nat × Nat)
  deriving DecidableEq, Repr

/-- What one record of type 0x0013 says (R38): the lintel authority key, messages of lintel slots. -/
structure LintelRec where
  key : Option (List Byte)
  slots : List (Nat × LintelMsg)
  deriving DecidableEq, Repr

/-- What the records of types 0x0011 and 0x0013 say, one entry a record in body order, none for content that cannot be interpreted (R517);
and the settings fixed in the image for which the spec names no record (log 30). `loaded` lists registers loaded at boot that the
image sets though software cannot (CMP pages, R173); `holds` HOLD_FRAMES of layers (16c + n); `pinned` the words of the placement tables under PLACEMENT=HOST (table × 16,384 + entry, R114). -/
structure ImageDesc where
  initial : List (Option InitialRec)
  lintel : List (Option LintelRec)
  srcs : List (Nat × SrcCfg)
  dsts : List (Nat × DstCfg)
  streams : List (Nat × StreamCfg)
  paired : Bool
  selfPlaced : Bool
  immediate : Bool
  udpPort : Nat
  pinMask : Nat
  protBase : Nat
  protLength : Nat
  glyphW : Nat
  glyphH : Nat
  font : List (Nat × List Nat)
  substGlyph : List Nat
  slates : List (Nat × SlateCfg)
  tallies : Nat
  allow : List (Nat × Nat)
  loaded : List (Nat × Nat)
  holds : List (Nat × Nat)
  loopHz : List (Nat × Nat)
  pinned : List (Nat × Nat)
  deriving DecidableEq, Repr


/-- An ancillary packet of a line (R126, R318): its line number; its data stream (2 × sub-image, links in turn, 1 added in a colour-difference stream); its
horizontal position in words of that stream, 0 the first active one; its words from DID to checksum. -/
structure AncPacket where
  line : Nat
  stream : Nat
  pos : Nat
  words : List Nat
  deriving DecidableEq, Repr

/-- A received line of an SDI port (R312–R318): its line, in the sub-image structure of a 2160p or 4320p format (R512); CRC mismatch on a stream of a link; line
number word wrong; TRS missing or misplaced beyond correction; TRS error corrected by its protection bits; wrong length; the words received, link 1, then link 2
and so on. -/
structure SdiLine where
  line : Nat
  crcBad : Bool
  lnBad : Bool
  trsBad : Bool
  trsCorrected : Bool
  lengthBad : Bool
  words : List Nat
  deriving DecidableEq, Repr

/-- What an SDI port measured over a frame (R312–R316): the formats its structure fits, whether the frame period lies within ±300 ppm of
their rate, the payload ID received (0: none, else byte 1 in bits 31:24), the format that ID names, whether every line was right, the link skew in
ns. -/
structure SdiFrame where
  fits : List VFormat
  rateOk : Bool
  pid : Option Nat
  pidFormat : Option VFormat
  clean : Bool
  skew : Nat
  deriving DecidableEq, Repr

/-- A copy of a paired-input frame (R233, R322): still being written; its twin sequence packet (frame count's low 32 bits, checksum right,
PAIR_ID); whether its digest matches. -/
structure PairCopy where
  writing : Bool
  packet : Option (Nat × Bool × Nat)
  digestOk : Bool
  deriving DecidableEq, Repr


/-- What the coding below an Ethernet port counted: codewords corrected and uncorrectable, error blocks (R327, R338); blocks inserted, deleted
and dropped by rate matching (R294); blocks with an invalid sync header. -/
structure CodeCounts where
  corr : Nat
  uncorr : Nat
  bad : Nat
  inserted : Nat
  deleted : Nat
  dropped : Nat
  sync : Nat
  deriving DecidableEq, Repr

/-- A block of the 64b/66b coding (R214): its sync header, 1 (0b01) for a data block and 2 (0b10) for a control block, and its 8 bytes. -/
structure Block66 where
  sync : Nat
  bytes : List Byte
  deriving DecidableEq, Repr

/-- What the party-wall lanes received since the last command: the blocks of each lane, PW0 first; how many FILLER blocks each lane's buffer deleted (R295);
by how many blocks each lane lags the first at its last ALIGN (R215). -/
structure WallRx where
  lanes : List (List Block66)
  deleted : List Nat
  skew : List Nat
  deriving DecidableEq, Repr

/-- A received Ethernet frame (R329): its bytes from destination address to FCS; whether it holds a block an FEC decoder marked;
how many of the oldest frames of the port's receive queue its drain has taken since the last command at the port (R331); whether the early
store or band store is full (R355, R357); the block counts since the last frame of the port. -/
structure EthFrame where
  bytes : List Byte
  marked : Bool
  drained : Nat
  storeFull : Bool
  codes : CodeCounts
  deriving DecidableEq, Repr


/-- What one DRAM channel reports at the end of a training step (R384, R395, R396): step 2 MR5 and MR8 of rank 0 and rank 1, with a mask of the ranks
that answered; step 3 the CA and CS codes; step 4 the four DQS codes, index 2 × rank + byte; steps 5 and 6 per index the mask of passing
codes 0–127. `ok`: a step 3 or 4 succeeded. -/
structure TrainChan where
  chan : Nat
  ok : Bool
  answers : Nat
  v : List Nat
  deriving DecidableEq, Repr



/-- The frames of slot words that a serial audio port took from APp_DI since the block before (R192–R194): as many as its clock had, which with a received or a
steered clock need not be six. -/
structure PortFrames where
  port : Nat
  frames : List (List Nat)
  deriving DecidableEq, Repr

/-- What the device meets outside itself while a register write acts: bits and errors of a PRBS checker since its last count (R303), MR4
readings (channel, rank 0, rank 1) (R394), the key hash read back from the fuses (R54). -/
structure WriteAux where
  bits : Nat
  errs : Nat
  readings : List (Nat × Nat × Nat)
  fuses : List Byte
  deriving DecidableEq, Repr


/-- The commands. -/
inductive Instr where
  /-- POWER_ON (R464): The first rise of PWRGOOD after VDD_AON is in range resets everything, the always-on domain included, and boot follows once RESET_N is high. -/
  | powerOn (t : Nat) (straps : Nat) (resetN : Bool)
  /-- RESET_N_FALL (R464): RESET_N held low for 2 µs or more while PWRGOOD is high starts reaping to S0, then the internal reset. -/
  | resetNFall (t : Nat)
  /-- RESET_N_RELEASE (R43): RESET_N rises with PWRGOOD high and reaping complete, so the device enters BOOT at S0 and samples its straps. -/
  | resetNRelease (t : Nat) (straps : Nat)
  /-- POWER_FAIL (R464): PWRGOOD falls for 1 µs or more, so the device reaps paced without a checkpoint and holds the internal reset. -/
  | powerFail (t : Nat)
  /-- POWER_FAIL_END (R464): PWRGOOD rises again while VDD_AON stayed in range, ending the power-fail reset and starting boot with the reset cause kept. -/
  | powerFailEnd (t : Nat) (straps : Nat)
  /-- CARD_PORT_RESET (R429): CP_PERST_N low or a PCIe hot reset returns the configuration space and the MSI-X table to their reset values and leaves service untouched. -/
  | cardPortReset (t : Nat) (hot : Bool)
  /-- TEST_RESET (R464): TRST_N low resets the JTAG test access logic only. -/
  | testReset (t : Nat)
  /-- INTERNAL_RESET_END (R483): The internal reset ends, the straps are sampled and by-device and fuse reset values are loaded. -/
  | internalResetEnd (t : Nat) (straps : Nat)
  /-- SOW_STAGE_START (R457): The sowing sequencer starts the next stage S0–S5 once the previous stage is complete and the mode allows it. -/
  | sowStageStart (t : Nat) (vout : Option Nat)
  /-- SOW_BLOCK (R456): After its rail wait has elapsed, the sequencer ramps the next load block on over at least 20 µs. -/
  | sowBlock (t : Nat) (rated : List (Nat × Nat))
  /-- SOW_STAGE_COMPLETE (R457): The last block of a stage has been sown, so the stage is complete. -/
  | sowStageComplete (t : Nat)
  /-- REAP_BLOCK (R458): After its rail wait has elapsed, the sequencer ramps the next sown load block off, in reverse stage order. -/
  | reapBlock (t : Nat) (rated : List (Nat × Nat))
  /-- REAPING_COMPLETE (R458): Reaping reaches the depth its cause sets, S0 for a reset or S3 kept lanes for SAFE. -/
  | reapingComplete (t : Nat)
  /-- FURROW_MOVE (R298): Every 100 µs the sowing sequencer starts the next queued furrow move into or out of LD, in request order. -/
  | furrowMove (t : Nat)
  /-- FURROW_MOVE_DONE (R297): A furrow's lanes reach their requested power state, setting PSTATE_DONE. -/
  | furrowMoveDone (t : Nat) (unit : Nat)
  /-- STOP_TAIL_END (R459): A TDM port's fade and STOP_TAIL end; when the last one ends TAIL_PENDING clears. -/
  | stopTailEnd (t : Nat) (p : Nat)
  /-- AVS_TARGET_COMPUTE (R463): Every 1 s the device recomputes the lowest 5 mV core voltage target with timing margin. -/
  | avsTargetCompute (t : Nat) (need : Nat)
  /-- AVS_STEP (R463): At least 100 ms after the previous command, the device commands VOUT_COMMAND one 5 mV step towards the target. -/
  | avsStep (t : Nat) (own : Nat) (acked : Bool)
  /-- PMBUS_IOUT_READ (R462): Every 10 ms the device reads READ_IOUT into TOP_CORE_IOUT. -/
  | pmbusIoutRead (t : Nat) (iout : Option Nat)
  /-- DIRECTORY_READ_DONE (R33): Both directory copies have been read, the valid copy with the higher SEQ is chosen, or defaults apply with DIR_DEFAULTED set. -/
  | directoryReadDone (t : Nat)
  /-- FLASH_READ_ERROR (R44): A flash read of the slot times out or errs, so the slot is refused with 0x01. -/
  | flashReadError (t : Nat)
  /-- HEADER_READ_DONE (R44): The image header has been read and its magic, version, CRC, reserved bytes, type, variant, UID and section lengths are checked. -/
  | headerReadDone (t : Nat)
  /-- FW_HEADER_READ_DONE (R44): The firmware header has been read and its magic, reserved bytes, lengths and ENTRY are checked. -/
  | fwHeaderReadDone (t : Nat)
  /-- FW_SECTION_LOADED (R44): The firmware section is in TCM and FW_HASH, the Biestorn signature and the stepping bit are checked. -/
  | fwSectionLoaded (t : Nat)
  /-- CFG_RECORD_STREAMED (R37): A configuration record streams through the signature engine and its framing, type, FLAGS and CRC are checked against code 0x0B. -/
  | cfgRecordStreamed (t : Nat)
  /-- CFG_SIGNATURE_CHECKED (R40): The configuration section has been read; the key fuse, the key hash, the customer signature and then the unit requirements are checked. -/
  | cfgSignatureChecked (t : Nat)
  /-- RECORDS_APPLIED (R38): The image loader applies the configuration records in body order to registers, DRAM and tables. -/
  | recordsApplied (t : Nat) (desc : ImageDesc)
  /-- SYNTH_LOOP_LOCKED (R274): A synthesis loop locks during S1 or S2; when all have locked, the device enters TRAIN. -/
  | synthLoopLocked (t : Nat) (n : Nat) (band : Nat)
  /-- SYNTH_LOCK_TIMEOUT (R274): A loop has not locked within 20 ms, so boot stops with refusal 0x30. -/
  | synthLockTimeout (t : Nat) (n : Nat)
  /-- FALLBACK_SLOT_TRY (R45): After reaping, the device tries the other slot; if it is accepted, FELL_BACK is set, NEXT is moved and a C3 BOOT_FELL_BACK is raised. -/
  | fallbackSlotTry (t : Nat)
  /-- DRAM_TRAIN_STEP_DONE (R395): A DRAM training step ends on every used channel; the next step starts, or training stops at the first step in which a lane failed. -/
  | dramTrainStepDone (t : Nat) (chans : List TrainChan)
  /-- TRAIN_CLOSING_CLAIM (R207): At the end of TRAIN a PAIRED device claims the key and then enters SERVICE or JOIN as its role dictates. -/
  | trainClosingClaim (t : Nat)
  /-- DIRECTORY_WRITE (R34): A queued directory write is programmed into the other directory copy, carrying every change that is due. -/
  | directoryWrite (t : Nat)
  /-- SET_NEXT_A (R53): BOOT_CTRL command 0x1 makes slot A the NEXT slot if it is eligible and no session is open. -/
  | setNextA (t : Nat) (confirm : Nat)
  /-- SET_NEXT_B (R53): BOOT_CTRL command 0x2 makes slot B the NEXT slot if it is eligible and no session is open. -/
  | setNextB (t : Nat) (confirm : Nat)
  /-- ABORT_WRITE (R48): BOOT_CTRL command 0x3 aborts the open write session whatever its path, or sets NO_SESSION. -/
  | abortWrite (t : Nat) (confirm : Nat)
  /-- RESTART (R53): BOOT_CTRL command 0x4 reaps the device and then boots it as after RESET_N, unless a session is open. -/
  | restart (t : Nat) (confirm : Nat)
  /-- BAD_COMMAND (R54): A reserved BOOT_CTRL command code is ignored and LAST_RESULT reads BAD_COMMAND. -/
  | badCommand (t : Nat) (confirm : Nat) (cmd : Nat)
  /-- FUSE_BURN (R54): BURN with CONFIRM in TEST and a blank fuse burns the staged key hash and checks it by read-back. -/
  | fuseBurn (t : Nat) (value : Nat) (got : List Byte)
  /-- IMAGE_START (R48): An IMAGE_CHUNK START opens a write session on the inactive slot and marks it WRITING. -/
  | imageStart (t : Nat)
  /-- IMAGE_DATA (R48): An IMAGE_CHUNK DATA chunk is checked against the session's expected offset and queued for programming. -/
  | imageData (t : Nat)
  /-- CHUNK_PROGRAMMED (R49): A DATA chunk has been erased, programmed and read back through the flash resource, then acknowledged or refused with FLASH_ERROR. -/
  | chunkProgrammed (t : Nat) (ok : Bool)
  /-- IMAGE_END (R48): An IMAGE_CHUNK END closes the session as WRITTEN if the length and CRC match, optionally setting NEXT. -/
  | imageEnd (t : Nat)
  /-- IMAGE_SET_NEXT (R110): An IMAGE_CHUNK SET_NEXT sets the named slot as NEXT under R53. -/
  | imageSetNext (t : Nat)
  /-- IMAGE_RESTART (R110): An IMAGE_CHUNK RESTART is acknowledged and then the device reaps and boots. -/
  | imageRestart (t : Nat)
  /-- IMAGE_ABORT_WRITE (R48): An IMAGE_CHUNK ABORT_WRITE naming the open session from its path closes it as ABORTED. -/
  | imageAbortWrite (t : Nat)
  /-- WRITE_SESSION_TIMEOUT (R49): A write session with no chunk for 60 s is aborted and its slot stays WRITING. -/
  | writeSessionTimeout (t : Nat)
  /-- ENTER_SAFE (R59): TOP_CTRL command ENTER_SAFE gives up the key, darkens the outputs and reaps into SAFE. -/
  | enterSafe (t : Nat) (confirm : Nat)
  /-- SERVICE_PERIOD (R14): Hearth runs its 100 µs service loop, carrying out its firmware duties. -/
  | servicePeriod (t : Nat)
  /-- FRATIN_RECEIVE (R99): A Fratin datagram arrives on MGT0, MGT1 or the mailbox and is authenticated, deduplicated and checked in the order of R515. -/
  | fratinReceive (t : Nat) (path : MsgPath) (d : Datagram)
  /-- TAKE (R105): A TAKE message is queued as a one-entry salvo for validation. -/
  | take (t : Nat)
  /-- SALVO_PART (R106): A SALVO_PART is held in its open salvo and acknowledged with the count of parts held. -/
  | salvoPart (t : Nat)
  /-- SALVO_COMMIT (R106): A SALVO_COMMIT closes a complete salvo and queues it for validation, or is refused as unknown or incomplete. -/
  | salvoCommit (t : Nat)
  /-- SALVO_OPEN_TIMEOUT (R106): A salvo with no part or commit for 1 s is discarded. -/
  | salvoOpenTimeout (t : Nat)
  /-- SALVO_VALIDATION (R85): The take engine validates the next complete salvo all-or-nothing and then commits or refuses it. -/
  | salvoValidation (t : Nat)
  /-- LIVE_SET (R109): A LIVE_SET is validated all-or-nothing and its values are scheduled for a decided headland or for the next service period. -/
  | liveSet (t : Nat)
  /-- QUERY (R107): A QUERY returns a committed or on-air table readback taken between two headland loads. -/
  | query (t : Nat)
  /-- STATUS_DEVICE_SUMMARY (R108): STATUS item 0x0001 returns the device summary registers. -/
  | statusDeviceSummary (t : Nat)
  /-- STATUS_TIMING_GROUP (R267): STATUS item 0x0002 returns a timing group's state. -/
  | statusTimingGroup (t : Nat)
  /-- STATUS_STORED_STREAM (R143): STATUS item 0x0003 returns a stored stream's q histogram and counts. -/
  | statusStoredStream (t : Nat)
  /-- STATUS_FAULT_SUMMARY (R425): STATUS item 0x0004 returns the fault summary. -/
  | statusFaultSummary (t : Nat)
  /-- STATUS_FLOW_CONTEXT (R363): STATUS item 0x0005 returns a flow context's page words and totals. -/
  | statusFlowContext (t : Nat)
  /-- STATUS_HEALTH (R245): STATUS item 0x0006 returns the own and peer health words and scores. -/
  | statusHealth (t : Nat)
  /-- STATUS_BOOT_REGISTERS (R108): STATUS item 0x0007 returns the BOOT registers. -/
  | statusBootRegisters (t : Nat)
  /-- STATUS_LINTEL (R172): STATUS item 0x0008 returns the lintel state. -/
  | statusLintel (t : Nat)
  /-- STATUS_AUDIO_PORT (R203): STATUS item 0x0009 returns an audio port's configuration, status, masks and counts. -/
  | statusAudioPort (t : Nat)
  /-- LINTEL_ARM_MSG (R172): A LINTEL ARM message sets MSG_MASK, taking effect at the next qualifying headland. -/
  | lintelArmMsg (t : Nat)
  /-- LINTEL_DISARM_MSG (R172): A LINTEL DISARM message clears MSG_MASK and does not override the pin mask. -/
  | lintelDisarmMsg (t : Nat)
  /-- LOAD_TEXT (R172): A LINTEL LOAD_TEXT loads a text message into a slot that the image leaves empty. -/
  | loadText (t : Nat)
  /-- CLEAR_TEXT (R172): A LINTEL CLEAR_TEXT clears a loaded text slot. -/
  | clearText (t : Nat)
  /-- LINTEL_ARM_EDGE (R168): The LINTEL_ARM pin changes level and qualification starts. -/
  | lintelArmEdge (t : Nat) (level : Bool)
  /-- LINTEL_PIN_QUALIFIED (R168): The pin level has been stable for 100 µs, so the pin mask applies from the next headland. -/
  | lintelPinQualified (t : Nat)
  /-- LATCH_INSTANT (R78): A group's latch instant falls, fixing the headland to which commits belong and starting the table loads. -/
  | latchInstant (t : Nat) (g : Nat)
  /-- SWITCH_POINT (R77): At a group's switch point the new sources, live-set values and lintel content go on air. -/
  | switchPoint (t : Nat) (g : Nat)
  /-- ON_AIR_NOTIFY (R111): The second ACK with ON_AIR set is sent within one service period of the salvo going fully on air. -/
  | onAirNotify (t : Nat)
  /-- WINDOW_LEFT (R75): An on-air source leaves its window, so the egress substitutes black lines, flags WINDOW_LOST and raises a C2 record. -/
  | windowLeft (t : Nat) (d : Nat) (line : Nat)
  /-- LAG_MEASURE (R72): At the end of a frame the ingress lag measurement decides whether each source is in window. -/
  | lagMeasure (t : Nat) (src : Nat) (g : Nat) (least : Int) (most : Int)
  /-- SNAPSHOT_START (R114): XPT_SNAP START requests a snapshot of the selected table. -/
  | snapshotStart (t : Nat) (table : Nat)
  /-- SNAPSHOT_DONE (R114): The snapshot is copied between two headland loads and DONE is set. -/
  | snapshotDone (t : Nat)
  /-- MBX_GO (R432): A GO write to CPT_MBX_IN_CTRL with a valid LENGTH submits a mailbox message and raises BUSY. -/
  | mbxGo (t : Nat) (length : Nat)
  /-- MBX_IN_TAKEN (R432): The device takes the mailbox message into its receive queue, so BUSY falls and MBX_IN_FREE is set. -/
  | mbxInTaken (t : Nat)
  /-- MBX_OUT_RELEASE (R433): Writing 1 to MBX_OUT_STATUS.VALID releases the reply buffer and presents the next queued reply. -/
  | mbxOutRelease (t : Nat)
  /-- INPUT_FRAME_COMPLETE (R117): An input frame's last tile and ancillary area are written, so the frame becomes COMPLETE with its write index. -/
  | inputFrameComplete (t : Nat) (stream : Nat)
  /-- DECISION_INSTANT (R118): At 200 µs before read start the keyholder chooses each stream's frame and each layer's readiness, and sends DECISIONs. -/
  | decisionInstant (t : Nat) (g : Nat) (frame : Nat)
  /-- READ_START (R119): At the read start a stream starts reading its decided frame, or chooses for itself if no DECISION is held. -/
  | readStart (t : Nat) (stream : Nat) (frame : Nat)
  /-- SLOT_READ (R138): A slot read completes, is checked and is substituted if it fails, raising a C1 TILE_CRC. -/
  | slotRead (t : Nat) (stream : Nat) (tile : Nat)
  /-- SCRUB_CHUNK (R400): A scrub chunk of 1 MiB is admitted on its channel group and its slots are read and checked. -/
  | scrubChunk (t : Nat) (g : Nat)
  /-- THUMBNAIL_INTERVAL (R122): At each thumbnail interval a field's engine writes one thumbnail of each of its inputs that feeds a source. -/
  | thumbnailInterval (t : Nat) (f : Nat) (pictures : (List (List Byte)))
  /-- CACHE_REBUILD (R158): A compositor writes a new static cache buffer in the frame after a change headland, at most once in 4 frames. -/
  | cacheRebuild (t : Nat) (c : Nat)
  /-- GOLDEN_TILE_TEST (R414): Each compositor frame, a golden tile is rendered and its digest compared, raising GOLDEN_MISS or SELFTEST_FAIL. -/
  | goldenTileTest (t : Nat) (c : Nat) (ok : Bool)
  /-- SRAM_BIST_CHUNK (R414): A 64 KiB March C− chunk of spare SRAM is tested each 10 ms per resource. -/
  | sramBistChunk (t : Nat) (res : Nat) (c : Nat) (ok : Bool)
  /-- AUDIO_BLOCK (R188): At each block's processing instant the engine reads a block from every input FIFO and computes the destination samples. -/
  | audioBlock (t : Nat) (b : Nat) (ins : (List PortFrames))
  /-- SLIP_APPLY (R190): At the boundary of blocks b + 8 and b + 9 the ordered drop or repeat is applied with fades. -/
  | slipApply (t : Nat) (input : Nat)
  /-- DEEMB_PACKET_ERROR (R178): A de-embedded audio packet fails its ECC or checksum and is discarded, and its samples are repeated. -/
  | deembPacketError (t : Nat) (lane : Nat)
  /-- MASK_HI_WRITE (R195): A write to APp_MASK_IN_HI or APp_MASK_OUT_HI makes the mask pair pending. -/
  | maskHiWrite (t : Nat) (p : Nat) (out : Bool) (value : Nat)
  /-- MASK_APPLY (R195): A pending slot mask takes effect at the next frame boundary. -/
  | maskApply (t : Nat) (p : Nat)
  /-- PORT_START (R196): A port starts at S5 or after recovery, running START_LEAD frames of zeros. -/
  | portStart (t : Nat) (p : Nat)
  /-- START_LEAD_END (R196): START_LEAD ends and the port carries data, fading in. -/
  | startLeadEnd (t : Nat) (p : Nat)
  /-- PORT_STOP (R196): A port stops at reaping, disable or SAFE, fading out and running STOP_TAIL. -/
  | portStop (t : Nat) (p : Nat)
  /-- PORT_CLOCK_LOSS (R197): A slave port detects clock loss, glitch or rate change, fades its inputs and stops its output. -/
  | portClockLoss (t : Nat) (p : Nat) (cause : Nat)
  /-- PORT_RECOVERY (R197): 100 ms pass with no further clock condition, so the port restarts with START_LEAD. -/
  | portRecovery (t : Nat) (p : Nat)
  /-- FOLLOW_RANGE (R198): A follow port's NCO needs more than ±100 ppm for 1 s, so it holds at the limit, raises a C2 record and slips locally. -/
  | followRange (t : Nat) (p : Nat) (low : Bool)
  /-- KEY_IN_EDGE (R210): KEY_IN changes level, restarting the 10 µs low count on a rise. -/
  | keyInEdge (t : Nat) (level : Bool)
  /-- KEY_CLAIM (R210): With KEY_IN low for 10 µs and a claim condition holding, the device drives KEY_OUT high. -/
  | keyClaim (t : Nat)
  /-- KEY_RESAMPLE (R210): 2 µs after a claim KEY_IN is sampled again; side B withdraws if it is high and otherwise the claim holds. -/
  | keyResample (t : Nat) (level : Bool)
  /-- KEY_CONFLICT (R210): Side A has had KEY_OUT and KEY_IN high for more than 10 µs, so it raises C3 KEY_CONFLICT. -/
  | keyConflict (t : Nat)
  /-- ALIVE_PEER_EDGE (R210): An edge on ALIVE_PEER restarts the 3 ms absence count. -/
  | alivePeerEdge (t : Nat) (level : Bool)
  /-- ALIVE_PEER_TIMEOUT (R210): ALIVE_PEER shows no edge for 3 ms, enabling a claim. -/
  | alivePeerTimeout (t : Nat)
  /-- WALL_DOWN_KEY_TIMEOUT (R210): With the wall down, KEY_IN low for 3 ms enables a claim. -/
  | wallDownKeyTimeout (t : Nat)
  /-- GIVE_UP (R212): TWN_CTRL command GIVE_UP makes the keyholder drop KEY_OUT and send GIVE_UP with reason 5. -/
  | giveUp (t : Nat) (confirm : Nat)
  /-- HANDOVER_ARM (R241): TWN_CTRL command HANDOVER_ARM makes the keyholder send PROPOSE for the handover frame. -/
  | handoverArm (t : Nat) (confirm : Nat)
  /-- HANDOVER_CANCEL (R241): TWN_CTRL command HANDOVER_CANCEL cancels an armed handover before T_H. -/
  | handoverCancel (t : Nat) (confirm : Nat)
  /-- RESYNC (R243): TWN_CTRL command RESYNC makes a follower darken and receive the state transfer again. -/
  | resync (t : Nat) (confirm : Nat)
  /-- ARBITRATE (R236): TWN_CTRL command ARBITRATE starts the self-test arbitration on both devices, subject to its hold-off. -/
  | arbitrate (t : Nat) (confirm : Nat)
  /-- HEARTBEAT_SEND (R219): Every 100 µs each device sends a HEARTBEAT. -/
  | heartbeatSend (t : Nat)
  /-- HEARTBEAT (R221): A valid HEARTBEAT arrives, keeping or bringing the party wall up and updating the peer state. -/
  | heartbeat (t : Nat) (hb : Heartbeat)
  /-- WALL_DOWN (R220): No valid HEARTBEAT for 300 µs declares the wall down and discards the wall blocks in flight. -/
  | wallDown (t : Nat)
  /-- WALL_BLOCK_RECEIVE (R217): A wall block arrives and is delivered or discarded with RESEND under go-back-N. -/
  | wallBlockReceive (t : Nat) (rx : WallRx)
  /-- RESEND (R217): A RESEND control block makes the sender resend from the named BSEQ. -/
  | resend (t : Nat) (bseq : Nat)
  /-- WALL_RESEND_TIMEOUT (R217): The oldest unacknowledged wall block is 20 µs old, so the sender resends from it. -/
  | wallResendTimeout (t : Nat)
  /-- WALL_REBOND (R214): A party-wall lane gains or loses block lock, so the wall re-bonds within 50 µs and resends the blocks in flight. -/
  | wallRebond (t : Nat) (lane : Nat) (lock : Bool)
  /-- GIVE_UP_MSG (R212): A GIVE_UP arrives from the peer, setting PEER_GAVE_UP and enabling a claim. -/
  | giveUpMsg (t : Nat) (reason : Nat)
  /-- DECISION (R119): A DECISION arrives and the follower stores its frame, verdict, slip, lintel or window decisions. -/
  | decision (t : Nat) (recs : (List DecisionRec))
  /-- TAKE_ORDER (R227): A TAKE_ORDER arrives and the follower schedules its changes at the named headlands, or queues it in JOIN. -/
  | takeOrder (t : Nat) (o : Order)
  /-- DIGEST_SEND (R235): Within 1 ms of a frame's last line each twin sends DIGEST for the group and frame. -/
  | digestSend (t : Nat) (tg : Nat) (frame : Nat)
  /-- DIGEST (R235): A peer DIGEST arrives and is compared, giving an explained or divergent mismatch. -/
  | digest (t : Nat) (tg : Nat) (frame : Nat) (recs : (List DigestRec))
  /-- DIGEST_MISSING (R235): A peer digest missing 5 ms after the device's own is counted and not compared. -/
  | digestMissing (t : Nat) (tg : Nat) (frame : Nat)
  /-- ARBITRATE_MSG (R236): An ARBITRATE START, RESULT or INPUTS message arrives and drives the arbitration. -/
  | arbitrateMsg (t : Nat) (phase : Nat) (result : Nat) (event : Nat) (units : Nat) (inputs : (List InputRec))
  /-- SELFTEST_DONE (R236): The arbitration self-test finishes and the device sends its RESULT. -/
  | selftestDone (t : Nat) (units : Nat) (inputs : (List InputRec))
  /-- HANDOVER (R241): A HANDOVER message (PROPOSE, ACCEPT, REFUSE or CANCEL) arrives and arms, refuses or disarms the handover. -/
  | handover (t : Nat) (opcode : Nat) (tg : Nat) (frame : Nat)
  /-- HANDOVER_REPLY_TIMEOUT (R241): No ACCEPT or REFUSE 5 ms after PROPOSE, or 10 ms before T_H, makes the keyholder send CANCEL. -/
  | handoverReplyTimeout (t : Nat)
  /-- HANDOVER_INSTANT (R241): At T_H the old keyholder gives up with reason 3, becomes ALONGSIDE and goes dark, and the new device claims. -/
  | handoverInstant (t : Nat)
  /-- HEALTH_SEND (R244): Every 10 ms each device sends HEALTH with its score and 32 health words. -/
  | healthSend (t : Nat)
  /-- HEALTH (R244): A peer HEALTH arrives and updates the peer score and health words. -/
  | health (t : Nat) (score : Nat) (capped : Bool) (words : (List Nat))
  /-- YIELD (R245): With YIELD set, 10 s of keyholder score below 500 against a peer at 500 or more make the keyholder give up with reason 4. -/
  | yield (t : Nat)
  /-- STATE_REQUEST (R237): A joining device's STATE section 0 request makes the keyholder snapshot at T_J and send sections 1–12. -/
  | stateRequest (t : Nat)
  /-- STATE (R237): A STATE section arrives and is applied by the joining or resyncing device. -/
  | state (t : Nat) (sec : Section)
  /-- JOIN_COMPLETE (R239): The last JOIN condition is met, so the device enters SERVICE as FOLLOWER and lights outputs at each group's line 1. -/
  | joinComplete (t : Nat)
  /-- JOIN_RETRY_TIMEOUT (R239): A state transfer not complete 500 ms after a request is requested again, with JOIN_STALLED after three attempts. -/
  | joinRetryTimeout (t : Nat)
  /-- REPLY_RELAY (R226): A REPLY_RELAY from the follower is sent by the keyholder from its named MGT port. -/
  | replyRelay (t : Nat) (ip : Nat) (udp : Nat) (mgt : Nat) (data : (List Byte))
  /-- PW_MAILBOX_FRAGMENT (R439): A received fragment of a firmware-handled type is placed in the lowest free receive buffer, or its wall block is discarded. -/
  | pwMailboxFragment (t : Nat) (data : (List Byte))
  /-- PWMBX_GO (R439): A write to PWMBX_GO hands transmit buffers to the party-wall engine. -/
  | pwmbxGo (t : Nat) (value : Nat)
  /-- PWMBX_FREE (R439): A write to PWMBX_FREE releases receive buffers. -/
  | pwmbxFree (t : Nat) (value : Nat)
  /-- PW_FRAGMENT_ACKED (R439): The wall block carrying a handed buffer is acknowledged, so the buffer's bit clears. -/
  | pwFragmentAcked (t : Nat) (buffer : Nat)
  /-- CANDIDATE_MEASURE (R253): Every 100 ms each present candidate's frequency offset is measured and its mean tested against tolerance. -/
  | candidateMeasure (t : Nat) (g : Nat) (k : Nat) (offset : Int) (mark : Int)
  /-- CANDIDATE_QUALIFIED (R254): A candidate has been present for 60 s within its limit and becomes qualified, triggering selection. -/
  | candidateQualified (t : Nat) (g : Nat) (k : Nat)
  /-- CANDIDATE_LOSS (R256): No expected edge within 4 periods makes a candidate lost and disqualified. -/
  | candidateLoss (t : Nat) (g : Nat) (k : Nat)
  /-- CANDIDATE_GLITCH (R256): A period outside ±1%, or a PTP master change, disqualifies the candidate at once. -/
  | candidateGlitch (t : Nat) (g : Nat) (k : Nat)
  /-- CANDIDATE_RATE_CHANGE (R256): 8 consecutive off-nominal periods disqualify the candidate with RATE_CHANGE. -/
  | candidateRateChange (t : Nat) (g : Nat) (k : Nat)
  /-- CANDIDATE_RETURN (R256): 8 consecutive valid periods make a lost candidate present again. -/
  | candidateReturn (t : Nat) (g : Nat) (k : Nat)
  /-- GROUP_ACQUIRE (R258): Before the first entry to SERVICE or JOIN, a group sets its phase to a candidate present 100 ms without a glitch and numbers its frames. -/
  | groupAcquire (t : Nat) (g : Nat) (target : Nat)
  /-- DPLL_LOCKED (R260): |φ| reaches 20 ns or less, so the group becomes LOCKED and ends any pull. -/
  | dpllLocked (t : Nat) (g : Nat) (mark : Int)
  /-- FRAME_START (R249): A group's frame starts and its frame count advances by 1. -/
  | frameStart (t : Nat) (g : Nat)
  /-- FRAME_OUT_PULSE (R264): FRAME_OUTg rises at s_F plus FO_OFFSET on matching frames and falls after the pulse width. -/
  | frameOutPulse (t : Nat) (g : Nat)
  /-- TG_REALIGN (R265): A TMG_TG_REALIGN write with CONFIRM stages a realignment of FRAME_OUT for the named groups. -/
  | tgRealign (t : Nat) (confirm : Nat) (mask : Nat)
  /-- REALIGN_APPLY (R265): At the first frame start at least 1 ms after the realign write, the staged FRAME_OUT values take effect. -/
  | realignApply (t : Nat) (g : Nat)
  /-- VFS_REF_LOST (R271): A tracked REFCLK_V or REFCLK_VF is lost, so the synthesizer holds and raises C3 REFCLK_LOST. -/
  | vfsRefLost (t : Nat) (v : Nat)
  /-- VFS_REF_REQUALIFIED (R271): The external input has been present 1 s within ±100 ppm, so the synthesizer retracks. -/
  | vfsRefRequalified (t : Nat) (v : Nat) (ppm : Int)
  /-- SYS_REF_LOST (R272): REFCLK_SYS is lost, so the always-on domain moves to the ring oscillator, a C4 record is raised and SAFE follows. -/
  | sysRefLost (t : Nat)
  /-- LOOP_UNLOCK (R281): A loop's 10 µs window reads outside ±1,000 ppm, so its island moves to shelter and the loop's handling applies. -/
  | loopUnlock (t : Nat) (n : Nat) (error : Int)
  /-- LOOP_RELOCKED (R282): 10 consecutive windows within ±200 ppm return the island from shelter. -/
  | loopRelocked (t : Nat) (n : Nat)
  /-- LOOP_SHELTER_TIMEOUT (R284): A CORE, CTRL, CMP or AUD island still on shelter after 20 ms raises a C4 record. -/
  | loopShelterTimeout (t : Nat) (n : Nat)
  /-- GUARD_TRIP (R283): An island clock above 101% of maximum is moved to shelter within 20 ns. -/
  | guardTrip (t : Nat) (n : Nat)
  /-- RELOCK (R281): SYN_CTRL command RELOCK in BOOT, TRAIN or TEST moves the named loop's island to shelter and relocks it. -/
  | relock (t : Nat) (confirm : Nat) (n : Nat)
  /-- MDLL_LOCKED (R278): A furrow MDLL locks at the first exit of its furrow from LD. -/
  | mdllLocked (t : Nat) (f : Nat)
  /-- MDLL_NO_LOCK (R278): An MDLL not locked within 20 ms in SERVICE leaves its lanes in LD and raises a C3 record. -/
  | mdllNoLock (t : Nat) (f : Nat)
  /-- LOS (R289): A receiver declares loss of signal, clears RX_LOCKED and freezes adaptation. -/
  | los (t : Nat) (lane : Nat) (signal : Bool)
  /-- RX_LOCKED (R288): A receiver's CDR is locked and its codes are stable for 1 ms, so it becomes LOCKED. -/
  | rxLocked (t : Nat) (lane : Nat) (ppm : Int)
  /-- PWR_REQ (R299): A LANn_PWR.REQ write requests L0, LS or LD, and is refused for LS or LD on a lane that carries traffic. -/
  | pwrReq (t : Nat) (lane : Nat) (value : Nat)
  /-- TX_EQ_WRITE (R291): A LANn_TX_EQ write within range changes swing and emphasis at the next word boundary. -/
  | txEqWrite (t : Nat) (lane : Nat) (value : Nat)
  /-- RX_CTRL_WRITE (R290): A LANn_RX_CTRL or LANn_RX_DFE write sets FREEZE or OVERRIDE codes, applied at the next update boundary. -/
  | rxCtrlWrite (t : Nat) (lane : Nat) (dfe : Bool) (value : Nat)
  /-- TEST_START (R302): LANn_TEST.START requests admission of a loop or PRBS test from the maintenance scheduler. -/
  | testStart (t : Nat) (lane : Nat) (value : Nat)
  /-- TEST_STOP (R302): LANn_TEST.STOP ends a running test or withdraws a queued one. -/
  | testStop (t : Nat) (lane : Nat) (bits : Nat) (errs : Nat)
  /-- TEST_DURATION_END (R302): A test's DURATION elapses and the test reads DONE. -/
  | testDurationEnd (t : Nat) (lane : Nat) (bits : Nat) (errs : Nat)
  /-- INJECT (R303): LANn_TEST.INJECT inverts one generated bit at the next word boundary. -/
  | inject (t : Nat) (lane : Nat)
  /-- PRBS_RESYNC (R303): The checker sees more than 64 errors in 1,024 bits and resynchronises. -/
  | prbsResync (t : Nat) (lane : Nat) (bits : Nat) (errs : Nat)
  /-- EYE_POINT_START (R304): LANn_EYE_CTRL.START with SCAN 0 starts a point measurement. -/
  | eyePointStart (t : Nat) (lane : Nat) (value : Nat)
  /-- EYE_SCAN_START (R304): LANn_EYE_CTRL.START with SCAN 1 starts a margin scan. -/
  | eyeScanStart (t : Nat) (lane : Nat) (value : Nat)
  /-- EYE_DONE (R304): A point measurement or margin scan completes and its result is posted. -/
  | eyeDone (t : Nat) (lane : Nat) (count : Nat) (horizontal : Nat) (vertical : Nat)
  /-- EYE_PERIODIC_SCAN (R305): Each eye-monitor interval, each locked L0 lane gets a margin scan, and EYE_LOW and C2 EYE_MARGIN_LOW follow a low result. -/
  | eyePeriodicScan (t : Nat) (lane : Nat)
  /-- SDI_LINE (R317): A received SDI line is checked for TRS, length, line number and CRC, and its ancillary packets are extracted. -/
  | sdiLine (t : Nat) (lane : Nat) (ln : SdiLine)
  /-- SDI_READY (R314): At line 1 after a clean frame that matches its configuration, an SDI port becomes ready. -/
  | sdiReady (t : Nat) (lane : Nat) (fr : SdiFrame)
  /-- SDI_LOST (R315): An SDI port becomes not ready on LOS, a TRS or line error, skew, or a payload ID failure. -/
  | sdiLost (t : Nat) (lane : Nat) (cause : Nat)
  /-- PAIRED_FRAME_COMPLETE (R323): A paired-input frame becomes COMPLETE when side A completes good or neither copy is still being written, and the copy is chosen. -/
  | pairedFrameComplete (t : Nat) (src : Nat) (a : PairCopy) (b : PairCopy)
  /-- LINK_UP (R328): After 10 ms of block lock with no fault, an Ethernet link comes up. -/
  | linkUp (t : Nat) (port : Nat)
  /-- LINK_DOWN (R328): Loss of block lock, alignment or signal, or a fault sequence, takes the Ethernet link down. -/
  | linkDown (t : Nat) (port : Nat) (cause : Nat) (rx : Bool)
  /-- FRAME_RECEIVE (R329): A received Ethernet frame is classified by length and FCS and then passed through its class filter. -/
  | frameReceive (t : Nat) (port : Nat) (fr : EthFrame)
  /-- PAUSE_HOLD_EXPIRY (R334): The received pause time runs out and the transmitter resumes. -/
  | pauseHoldExpiry (t : Nat) (port : Nat)
  /-- PAUSE_ON (R333): The queue fill passes the high watermark, so the port enters PAUSING and sends a pause frame. -/
  | pauseOn (t : Nat) (port : Nat)
  /-- PAUSE_REFRESH (R333): Every PAUSE_QUANTA / 2 quanta while PAUSING, the pause frame is sent again. -/
  | pauseRefresh (t : Nat) (port : Nat)
  /-- PAUSE_OFF (R333): The fill falls to the low watermark, so PAUSING ends and a pause time 0 frame is sent. -/
  | pauseOff (t : Nat) (port : Nat) (drained : Nat)
  /-- THROUGH_FORWARD (R360): A queued non-local frame on a THROUGH port is forwarded to its partner if it ends before the next launch. -/
  | throughForward (t : Nat) (port : Nat) (launch : (Option Nat))
  /-- LINE_DEADLINE (R354): At line n's deadline the depacketiser conceals missing samples and counts lost packets. -/
  | lineDeadline (t : Nat) (n : Nat) (ts : Nat) (row : Nat)
  /-- BAND_PASS (R357): A band of 8 lines passes to the write engine when complete, when WAIT elapses, or when the band store is full. -/
  | bandPass (t : Nat) (n : Nat) (ts : Nat) (band : Nat)
  /-- CONTEXT_NOT_READY (R352): No accepted packet for 2 ms, down links or malformed frames make a receive context not ready. -/
  | contextNotReady (t : Nat) (n : Nat) (cause : Nat)
  /-- CONTEXT_READY (R352): A clean frame, or 2 ms of audio packets, makes a receive context ready. -/
  | contextReady (t : Nat) (n : Nat)
  /-- PATH_INACTIVE (R351): A path with no accepted packet for 2 ms ceases to be active, setting PATH_DOWN. -/
  | pathInactive (t : Nat) (n : Nat) (path : Nat)
  /-- SKEW_MEASURE (R351): Each 1 s of path skew is tested against the limit, raising C2 PATH_SKEW if it is exceeded. -/
  | skewMeasure (t : Nat) (n : Nat)
  /-- LAUNCH (R377): At a frame's launch time it starts on a free port in the service order of R377. -/
  | launch (t : Nat) (txc : Nat) (frame : Nat) (packet : Nat) (ready : Nat) (lineAt : Nat)
  /-- IGMP_REPORT (R359): After S4 and 1 s later, and on queries, firmware sends IGMPv3 membership reports for the receive contexts. -/
  | igmpReport (t : Nat) (port : Nat) (query : Bool)
  /-- PTP_EVENT_RECEIVE (R373): A Sync, Follow_Up or Delay_Resp yields an offset measurement that the servo follows or refuses. -/
  | ptpEventReceive (t : Nat) (port : Nat) (kind : Nat) (domain : Nat) (version : Nat) (origin : Int) (stamp : Int) (correction : Int)
  /-- ANNOUNCE_RECEIVE (R371): An Announce arrives and the BMCA may change the master. -/
  | announceReceive (t : Nat) (port : Nat) (body : AnnounceBody)
  /-- ANNOUNCE_TIMEOUT (R373): Announce receipt timeout puts the servo into HOLDOVER. -/
  | announceTimeout (t : Nat) (port : Nat)
  /-- AUTO_STEP_ACCEPT (R375): Refused offsets steady within 1 µs for 10 s under AUTO are accepted and slewed, or set directly before first SERVICE. -/
  | autoStepAccept (t : Nat)
  /-- ACCEPT_STEP (R375): PTP_CTRL command ACCEPT_STEP, or LIVE_SET 0x1D SUB 1, accepts the refused estimate. -/
  | acceptStep (t : Nat) (confirm : Nat)
  /-- SLEW_COMPLETE (R375): The acceptance slew brings |offset| within 100 ns and normal servo control resumes. -/
  | slewComplete (t : Nat)
  /-- PTP_SEND (R372): At its interval boundary a port sends Sync, Announce or Delay_Req, with master messages gated by the key. -/
  | ptpSend (t : Nat) (port : Nat) (kind : Nat)
  /-- DELAY_REQ_RECEIVE (R369): A received Delay_Req is answered with Delay_Resp by an ungated master port. -/
  | delayReqReceive (t : Nat) (port : Nat) (domain : Nat) (version : Nat)
  /-- PPS_IN_EDGE (R378): A PPS_IN rising edge is stamped and its offset recorded. -/
  | ppsInEdge (t : Nat) (stamp : Nat)
  /-- PPS_IN_LOST (R378): PPS_IN without an edge for 2 s is declared lost. -/
  | ppsInLost (t : Nat)
  /-- PPS_OUT_PULSE (R379): PPS_OUT rises at each integer second plus offset unless held by QUALIFIED_ONLY. -/
  | ppsOutPulse (t : Nat)
  /-- REFRESH_DUE (R392): A refresh falls due and is issued, owed behind a burst, or pre-empts at the ninth owed. -/
  | refreshDue (t : Nat) (c : Nat) (rank : Nat) (burst : Option Nat) (paid : Nat)
  /-- MR4_POLL (R394): Each poll interval, MR4 is read from every rank and refresh doubling and derating are adjusted. -/
  | mr4Poll (t : Nat) (c : Nat) (r0 : Nat) (r1 : Nat)
  /-- MR4_POLL_CMD (R394): DRC_CTRL command MR4_POLL polls every used channel now without counting towards the return. -/
  | mr4PollCmd (t : Nat) (confirm : Nat) (readings : (List (Nat × Nat × Nat)))
  /-- DRAM_TRAIN_CMD (R395): DRC_CTRL command TRAIN in TEST runs DRAM training. -/
  | dramTrainCmd (t : Nat) (confirm : Nat)
  /-- DRC_RATE_WRITE (R398): A DRC_CFG.RATE write is ignored with FREQ_IGNORED during training, or staged for the next TRAIN command in TEST. -/
  | drcRateWrite (t : Nat) (rate : Nat)
  /-- ZQ_CALIBRATION (R399): Every ZQ_INT, ZQ calibration runs on a channel group when the resource admits it. -/
  | zqCalibration (t : Nat) (g : Nat)
  /-- ZQ_LATCH (R399): 1 µs after ZQCal Start the controller issues ZQCal Latch once any burst on the rank has ended. -/
  | zqLatch (t : Nat) (g : Nat)
  /-- RT_REQUEST_COMPLETE (R390): A real-time DRAM request completes, late completions being counted, raising C2 DRAM_RT_LATE and treated as failed reads. -/
  | rtRequestComplete (t : Nat) (c : Nat) (write : Bool) (deadline : Nat) (stream : Nat) (tile : Nat)
  /-- FAULT_ACCEPTED (R407): The collector accepts a fault message, escalates it, reacts by class and queues or merges the record. -/
  | faultAccepted (t : Nat)
  /-- FAULT_RECORD_REMOVE (R404): A read of FLT_REC3 removes the oldest record from the FIFO. -/
  | faultRecordRemove (t : Nat)
  /-- FLT_ACK (R408): A write to FLT_ACK acknowledges classes of a health unit. -/
  | fltAck (t : Nat) (unit : Nat) (classes : Nat)
  /-- FLT_OPEN_CLEAR (R408): Writing 1 to a bit of FLT_OPEN_Cx acknowledges that unit's class. -/
  | fltOpenClear (t : Nat) (x : Nat) (mask : Nat)
  /-- HOLD_EXPIRY (R408): C2_HOLD or C3_HOLD passes since a Hold record's acceptance and firmware acknowledges it. -/
  | holdExpiry (t : Nat)
  /-- FLT_KICK (R411): A write to FLT_KICK restarts the 2 ms watchdog. -/
  | fltKick (t : Nat)
  /-- WATCHDOG_EXPIRY (R411): No FLT_KICK for 2 ms stops ALIVE and raises C4 FW_STALL with the program counter. -/
  | watchdogExpiry (t : Nat) (pc : Nat)
  /-- ALIVE_EDGE (R410): Every 500 µs ALIVE toggles while it runs. -/
  | aliveEdge (t : Nat)
  /-- THERMAL_READ (R413): Every 1 ms the 17 diodes are read, raising THERMAL_HIGH or THERMAL_TRIP once per excursion. -/
  | thermalRead (t : Nat) (temps : (List Int))
  /-- MAINTENANCE_REQUEST (R416): A maintenance activity requests its resource and runs, queues or is refused at a full queue. -/
  | maintenanceRequest (t : Nat) (r : Nat) (code : Nat) (unit : Nat)
  /-- MAINTENANCE_DONE (R416): An activity finishes and the next queued request on its resource starts. -/
  | maintenanceDone (t : Nat) (r : Nat)
  /-- CHECKPOINT_DUE (R419): Every 10 minutes of power-on, or after a C3 or C4 at most once per 60 s, a checkpoint is queued. -/
  | checkpointDue (t : Nat)
  /-- CHECKPOINT (R426): LIFE_CTRL command CHECKPOINT queues a checkpoint now. -/
  | checkpoint (t : Nat) (confirm : Nat)
  /-- LIFE_WRITE_DONE (R417): A life-log write is programmed, or fails with FLASH_ERROR and retries at the next page. -/
  | lifeWriteDone (t : Nat) (ok : Bool)
  /-- BAR2_ACCESS (R431): A BAR2 access reaches the management area as best-effort traffic, or is dropped outside it. -/
  | bar2Access (t : Nat) (x : Nat) (n : Nat) (write : Bool) (data : (List Byte))
  /-- REGISTER_WRITE (R506): A write to a register that has no row of its own is applied under its access code and mode. -/
  | registerWrite (t : Nat) (off : Nat) (value : Nat) (fromCard : Bool) (full : Bool) (aux : WriteAux)
  /-- RC_COUNTER_READ (R337): A read of an RC counter returns its value and clears it, snapshotting HI for 64-bit counters. -/
  | rcCounterRead (t : Nat) (off : Nat)
  /-- CARD_PORT_LINK_DOWN (R429): The PCIe link goes down, resetting configuration space, failing outbound requests and raising C3 CARD_PORT_DOWN. -/
  | cardPortLinkDown (t : Nat)
  /-- CARD_PORT_LINK_UP (R429): The PCIe link comes up and LINK_UP is set. -/
  | cardPortLinkUp (t : Nat) (speed : Nat) (width : Nat)
  /-- SPI_READ (R436): An SPI READ transaction returns successive registers, or 0 with LATE if not ready. -/
  | spiRead (t : Nat) (addr : Nat) (n : Nat) (late : Bool)
  /-- SPI_WRITE (R436): An SPI WRITE transaction writes successive registers, with PARTIAL on a short word. -/
  | spiWrite (t : Nat) (addr : Nat) (words : (List Nat)) (partial_ : Bool) (aux : WriteAux)
  /-- SPI_STATUS (R436): An SPI STATUS transaction returns and clears the LATE and PARTIAL bits. -/
  | spiStatus (t : Nat)
  /-- MSIX_UNMASK (R435): Unmasking a vector whose pending bit is set sends its message if the condition still holds. -/
  | msixUnmask (t : Nat) (v : Nat)
  /-- KICK (R448): DMAc_CTRL.KICK starts, re-reads, resumes or is held for a channel by its state. -/
  | kick (t : Nat) (c : Nat) (fromCard : Bool)
  /-- DESCRIPTOR_FETCHED (R445): A descriptor read completes and is checked for validity and run. -/
  | descriptorFetched (t : Nat) (c : Nat) (err : Nat) (host : (List Byte))
  /-- DESCRIPTOR_COMPLETE (R448): A descriptor's last write is issued; write-back, IRQ and the move to LINK or IDLE_AT_END follow. -/
  | descriptorComplete (t : Nat) (c : Nat)
  /-- DMA_REQUEST (R447): A request line is asserted and the waiting channel moves one burst. -/
  | dmaRequest (t : Nat) (r : Nat)
  /-- DMA_BURST_COMPLETE (R446): A DMA burst's read and write complete. -/
  | dmaBurstComplete (t : Nat) (c : Nat) (err : Nat) (host : (List Byte))
  /-- BUS_ERROR (R449): A failed access, invalid descriptor or completion timeout stops every channel and raises C2 BUS_ERROR. -/
  | busError (t : Nat) (c : Nat) (code : Nat) (addr : Nat)
  /-- COMPLETION_TIMEOUT (R428): A device-issued read with no completion within 10 ms fails. -/
  | completionTimeout (t : Nat) (c : Nat)
  /-- CLEAR_ERR (R449): DMA_CTRL.CLEAR_ERR releases every channel to its post-error state. -/
  | clearErr (t : Nat)
  /-- DMA_DISABLE (R450): Writing DMA_CTRL.ENABLE = 0 drops all transfers and returns every channel to IDLE. -/
  | dmaDisable (t : Nat)
  /-- CAPTURE_READ (R452): A read of DMA_CAPn_DATA pops one captured sample. -/
  | captureRead (t : Nat) (n : Nat)
  /-- FST_SEL_WRITE (R146): A write to FST_SEL selects the stream whose registers later reads return. -/
  | fstSelWrite (t : Nat) (value : Nat)
  /-- FST_QMAX_READ (R146): A read of FST_QMAX returns and clears QMAX_HELD only. -/
  | fstQmaxRead (t : Nat)
  /-- PTP_TIME_FRAC_READ (R366): A read of PTP_TIME_FRAC snapshots the device time registers. -/
  | ptpTimeFracRead (t : Nat)
  /-- LO_SNAPSHOT_READ (R5): A read of a LO register snapshots its HI register. -/
  | loSnapshotRead (t : Nat) (off : Nat)
  /-- SIGNAL_DETECT (R289): A lane receiver detects signal again after LOS, resumes adaptation from the held codes and starts the acquisition that leads to LOCKED within 50 ms. -/
  | signalDetect (t : Nat) (lane : Nat)
  /-- BLOCK_LOCK_GAINED (R328): An Ethernet port's receiver gains 64b/66b block lock (and alignment on 100 Gb/s), stops sending remote fault and starts the 10 ms count towards link up. -/
  | blockLockGained (t : Nat) (port : Nat)
  /-- PRBS_CHECKER_IN_SYNC (R303): The PRBS checker has seen 64 consecutive error-free bits, sets PRBS_SYNC and starts counting bits and errors. -/
  | prbsCheckerInSync (t : Nat) (lane : Nat)
  /-- DPLL_LEAVES_LOCKED (R260): A timing group's phase error exceeds 100 ns, so its LOCKED live bit falls. -/
  | dpllLeavesLocked (t : Nat) (g : Nat) (mark : Int)
  /-- TX_STEER_LIMIT (R277): An SDI transmitter's steering demand goes beyond ±250 ppm, so the rotator holds at the limit and a class C2 TX_STEER_LIMIT record is raised, acknowledged once the demand returns within range. -/
  | txSteerLimit (t : Nat) (lane : Nat) (demand : Int)
  /-- VFS_TRACKING_AGAIN (R271): A retracking video-family synthesizer finishes its slew from the held frequency, returns to TRACKING and sets REFV_RETURNED or REFVF_RETURNED. -/
  | vfsTrackingAgain (t : Nat) (v : Nat)
  /-- PCIE_CONFIGURATION_REQUEST (R427): A host configuration request to the card port changes BAR assignment, Bus Master, MSI-X enable or mask, or the D0 and D3hot power state. -/
  | pcieConfigurationRequest (t : Nat) (q : CfgReq)
  deriving DecidableEq, Repr

end Sys2Proof
end

