-- ==== Sys2Proof/Decode.lean ====
section
/-! DEFINITION. The command a word spells. No row of spec/opcode_table.json gives its command any bits: its commands are events and accesses, not
words, so no word spells one (log 1). -/
namespace Sys2Proof

/-- The command that the `nbits` bits `w` of a row of the opcode table spell: none, for no row has bits. -/
def decodeTableWord (_nbits _w : Nat) : Option Instr := none

end Sys2Proof
end

