-- ==== Sys2Proof/Machine/RegMap.lean ====
section
/-! DEFINITION. The register map: one row per register of the spec's register tables (R5, R54, R70, R113, R146,
R173, R202, R247, R268, R285, R308, R325, R338, R362, R382, R402, R424, R426, R451, R452, R469), with its offset in
the 16 MiB register space (R430, 23_register_index.md), its strides, which of its bits each access code of R7 covers
(a bit under no code is reserved, R6), its reset value, and whether it is the LO
register of a pair of R5. `Reg.<NAME>` is the offset of a register (of its i-th or
(i, j)-th copy). The MSI-X table and pending words (R451, "Per PCIe") stand in the cpt rows; their reset values are
PRESUMED from PCIe (log 11). -/
namespace Sys2Proof.Machine

/-- One row of the register map. A copy (i, j), i < n1 and j < n2, stands at base + s1 * i + s2 * j. -/
structure RegRow where
  name : String
  base : Nat
  s1 : Nat
  n1 : Nat
  s2 : Nat
  n2 : Nat
  rw : Nat
  rwl : Nat
  w1c : Nat
  rc : Nat
  wo : Nat
  ro : Nat
  reset : Nat
  lo : Bool
  deriving DecidableEq, Repr

/-- Does the register copy at offset `off` belong to this row? -/
def RegRow.covers (r : RegRow) (off : Nat) : Bool :=
  let d := off - r.base
  decide (r.base ≤ off) && decide (d / r.s1 < r.n1) && decide (d % r.s1 / r.s2 < r.n2) && d % r.s1 % r.s2 == 0

/-- The first row of a list that covers an offset. -/
def RegRow.findIn (off : Nat) : List RegRow → Option RegRow
  | [] => none
  | r :: rs => if r.covers off then some r else RegRow.findIn off rs

namespace RegMap

/-- Rows of the top block. -/
def topRows : List RegRow := [
  ⟨"TOP_ID", 0x000000, 4, 1, 4, 1, 0, 0, 0, 0, 0, 0xFFFFFF1F, 0, false⟩,
  ⟨"TOP_CAP_FIELDS", 0x000004, 4, 1, 4, 1, 0, 0, 0, 0, 0, 0xFFFF, 0, false⟩,
  ⟨"TOP_CAP_UNITS", 0x000008, 4, 1, 4, 1, 0, 0, 0, 0, 0, 0x37FFF, 0, false⟩,
  ⟨"TOP_CAP_AUDIO", 0x00000C, 4, 1, 4, 1, 0, 0, 0, 0, 0, 0xFFFF, 0, false⟩,
  ⟨"TOP_MODE", 0x000010, 4, 1, 4, 1, 0, 0, 0, 0, 0, 0xF707, 0, false⟩,
  ⟨"TOP_MODE_TIME", 0x000014, 4, 1, 4, 1, 0, 0, 0, 0, 0, 0xFFFFFFFF, 0, false⟩,
  ⟨"TOP_SAFE_CAUSE", 0x000018, 4, 1, 4, 1, 0, 0, 0, 0, 0, 0xFFFFF0FF, 0, false⟩,
  ⟨"TOP_CTRL", 0x00001C, 4, 1, 4, 1, 0, 0, 0, 0, 0xFFFF000F, 0, 0, false⟩,
  ⟨"TOP_STRAPS", 0x000020, 4, 1, 4, 1, 0, 0, 0, 0, 0, 0xF, 0, false⟩,
  ⟨"TOP_USAGE", 0x000024, 4, 1, 4, 1, 0, 0, 0, 0, 0, 0xFF00FE03, 0, false⟩,
  ⟨"TOP_EVENT", 0x000028, 4, 1, 4, 1, 0, 0, 3, 0, 0, 0, 0, false⟩,
  ⟨"TOP_EVENT_EN", 0x00002C, 4, 1, 4, 1, 3, 0, 0, 0, 0, 0, 0, false⟩,
  ⟨"TOP_PWR_STATUS", 0x000100, 4, 1, 4, 1, 0, 0, 0, 0, 0, 0xFE00007F, 0, false⟩,
  ⟨"TOP_PWR_STICKY", 0x000104, 4, 1, 4, 1, 0, 0, 3, 0, 0, 0, 0, false⟩,
  ⟨"TOP_RESET_CAUSE", 0x000108, 4, 1, 4, 1, 0, 0, 0, 0, 0, 0xFF07, 0, false⟩,
  ⟨"TOP_AVS_CFG", 0x00010C, 4, 1, 4, 1, 0, 0x807FFF00, 0, 0, 0, 0, 0x8040FF00, false⟩,
  ⟨"TOP_AVS_STATUS", 0x000110, 4, 1, 4, 1, 0, 0, 0, 0, 0, 0x3FF03FF, 0, false⟩,
  ⟨"TOP_CORE_IOUT", 0x000114, 4, 1, 4, 1, 0, 0, 0, 0, 0, 0xFFFF, 0, false⟩,
  ⟨"TOP_TEMP", 0x000140, 4, 17, 4, 1, 0, 0, 0, 0, 0, 0x80000FFF, 0, false⟩]

/-- Rows of the boot block. -/
def bootRows : List RegRow := [
  ⟨"BOOT_STATUS", 0x010000, 4, 1, 4, 1, 0, 0, 0, 0, 0, 0xFFFF0F03, 2, false⟩,
  ⟨"BOOT_DIR", 0x010004, 4, 1, 4, 1, 0, 0, 0, 0, 0, 0xFFFF0771, 0, false⟩,
  ⟨"BOOT_CTRL", 0x010008, 4, 1, 4, 1, 0, 0, 0, 0, 0xFFFF000F, 0, 0, false⟩,
  ⟨"BOOT_WR_STATUS", 0x01000C, 4, 1, 4, 1, 0, 0, 0, 0, 0, 0xFF00FFDF, 0, false⟩,
  ⟨"BOOT_WR_OFFSET", 0x010010, 4, 1, 4, 1, 0, 0, 0, 0, 0, 0xFFFFFFFF, 0, false⟩,
  ⟨"BOOT_TIME", 0x010014, 4, 1, 4, 1, 0, 0, 0, 0, 0, 0xFFFF, 0, false⟩,
  ⟨"BOOT_IMG_VER", 0x010018, 4, 1, 4, 1, 0, 0, 0, 0, 0, 0xFFFFFFFF, 0, false⟩,
  ⟨"BOOT_FW_VER", 0x01001C, 4, 1, 4, 1, 0, 0, 0, 0, 0, 0xFFFFFFFF, 0, false⟩,
  ⟨"BOOT_COMPAT_ID", 0x010020, 4, 1, 4, 1, 0, 0, 0, 0, 0, 0xFFFFFFFF, 0, false⟩,
  ⟨"BOOT_SYSTEM_ID", 0x010024, 4, 1, 4, 1, 0, 0, 0, 0, 0, 0x3FFF3FFF, 0, false⟩,
  ⟨"BOOT_UID_LO", 0x010028, 4, 1, 4, 1, 0, 0, 0, 0, 0, 0xFFFFFFFF, 0, true⟩,
  ⟨"BOOT_UID_HI", 0x01002C, 4, 1, 4, 1, 0, 0, 0, 0, 0, 0xFFFFFFFF, 0, false⟩,
  ⟨"BOOT_CFG_HASH", 0x010040, 4, 8, 4, 1, 0, 0, 0, 0, 0, 0xFFFFFFFF, 0, false⟩,
  ⟨"BOOT_KEYHASH", 0x010060, 4, 8, 4, 1, 0, 0xFFFFFFFF, 0, 0, 0, 0, 0, false⟩,
  ⟨"BOOT_FUSE_CTRL", 0x010080, 4, 1, 4, 1, 0xFFFF0000, 0, 0, 0, 1, 6, 0, false⟩]

/-- Rows of the flt block. -/
def fltRows : List RegRow := [
  ⟨"FLT_STATUS", 0x020000, 4, 1, 4, 1, 0, 0, 0, 0, 0, 0xE00003FF, 0, false⟩,
  ⟨"FLT_EVENT", 0x020004, 4, 1, 4, 1, 0, 0, 0xF, 0, 0, 0, 0, false⟩,
  ⟨"FLT_EVENT_EN", 0x020008, 4, 1, 4, 1, 0xF, 0, 0, 0, 0, 0, 0, false⟩,
  ⟨"FLT_CFG", 0x02000C, 4, 1, 4, 1, 0, 0xFFFF, 0, 0, 0, 0, 0x3C01, false⟩,
  ⟨"FLT_REC", 0x020010, 4, 4, 4, 1, 0, 0, 0, 0, 0, 0xFFFFFFFF, 0, false⟩,
  ⟨"FLT_ACK", 0x020020, 4, 1, 4, 1, 0, 0, 0, 0, 0x1F000F, 0, 0, false⟩,
  ⟨"FLT_KICK", 0x020024, 4, 1, 4, 1, 0, 0, 0, 0, 0xFFFFFFFF, 0, 0, false⟩,
  ⟨"FLT_OPEN_C", 0x020030, 4, 4, 4, 1, 0, 0, 0xFFFFFFFF, 0, 0, 0, 0, false⟩,
  ⟨"FLT_LAST_SEVERE", 0x020040, 4, 4, 4, 1, 0, 0, 0, 0, 0, 0xFFFFFFFF, 0, false⟩,
  ⟨"FLT_CNT_C", 0x020050, 4, 5, 4, 1, 0, 0, 0, 0xFFFFFFFF, 0, 0, 0, false⟩,
  ⟨"FLT_CNT_LOST", 0x020064, 4, 1, 4, 1, 0, 0, 0, 0xFFFFFFFF, 0, 0, 0, false⟩,
  ⟨"FLT_RING_BASE_LO", 0x020068, 4, 1, 4, 1, 0, 0xFFFFFFFF, 0, 0, 0, 0, 0, true⟩,
  ⟨"FLT_RING_BASE_HI", 0x02006C, 4, 1, 4, 1, 0, 0x1F, 0, 0, 0, 0, 0, false⟩,
  ⟨"FLT_RING_WR", 0x020070, 4, 1, 4, 1, 0, 0, 0, 0, 0, 0xFFF, 0, false⟩,
  ⟨"FLT_MNT_SEL", 0x020080, 4, 1, 4, 1, 0x7F, 0, 0, 0, 0, 0, 0, false⟩,
  ⟨"FLT_MNT_STATE", 0x020084, 4, 1, 4, 1, 0, 0, 0, 0, 0, 0xFF1FFFFF, 0, false⟩]

/-- Rows of the twn block (part 0). -/
def twnRows0 : List RegRow := [
  ⟨"TWN_STATUS", 0x030000, 4, 1, 4, 1, 0, 0, 0, 0, 0, 0xFFE30000, 0, false⟩,
  ⟨"TWN_EVENT", 0x030004, 4, 1, 4, 1, 0, 0, 0xFFF, 0, 0, 0, 0, false⟩,
  ⟨"TWN_EVENT_EN", 0x030008, 4, 1, 4, 1, 0xFFF, 0, 0, 0, 0, 0, 0, false⟩,
  ⟨"TWN_CTRL", 0x03000C, 4, 1, 4, 1, 0, 0, 0, 0, 0xFFFF000F, 0, 0, false⟩,
  ⟨"TWN_CFG", 0x030010, 4, 1, 4, 1, 0, 3, 0, 0, 0, 0, 2, false⟩,
  ⟨"TWN_SCORE", 0x030014, 4, 1, 4, 1, 0, 0, 0, 0, 0, 0x3FF03FF, 0, false⟩,
  ⟨"TWN_PEER", 0x030018, 4, 1, 4, 1, 0, 0, 0, 0, 0, 0xF7E03FFF, 0, false⟩,
  ⟨"TWN_WALL", 0x03001C, 4, 1, 4, 1, 0, 0, 0, 0, 0, 0xC0FF00FF, 0, false⟩,
  ⟨"TWN_JOIN", 0x030020, 4, 1, 4, 1, 0, 0, 0, 0, 0, 0xEFFFFFFF, 0, false⟩,
  ⟨"TWN_HO_CTRL", 0x030024, 4, 1, 4, 1, 0xF0000, 0, 0, 0, 0, 0, 0, false⟩,
  ⟨"TWN_HO_FRAME_LO", 0x030028, 4, 1, 4, 1, 0xFFFFFFFF, 0, 0, 0, 0, 0, 0, true⟩,
  ⟨"TWN_HO_FRAME_HI", 0x03002C, 4, 1, 4, 1, 0xFFFFFFFF, 0, 0, 0, 0, 0, 0, false⟩,
  ⟨"TWN_LAST_DIV", 0x030030, 4, 1, 4, 1, 0, 0, 0, 0, 0, 0xFC00FFFF, 0, false⟩,
  ⟨"TWN_LAST_DIV_FRAME_LO", 0x030034, 4, 1, 4, 1, 0, 0, 0, 0, 0, 0xFFFFFFFF, 0, true⟩,
  ⟨"TWN_LAST_DIV_FRAME_HI", 0x030038, 4, 1, 4, 1, 0, 0, 0, 0, 0, 0xFFFFFFFF, 0, false⟩,
  ⟨"TWN_CNT_DIVERGENT", 0x030040, 4, 1, 4, 1, 0, 0, 0, 0xFFFFFFFF, 0, 0, 0, false⟩,
  ⟨"TWN_CNT_EXPLAINED", 0x030044, 4, 1, 4, 1, 0, 0, 0, 0xFFFFFFFF, 0, 0, 0, false⟩,
  ⟨"TWN_CNT_ARBITRATION", 0x030048, 4, 1, 4, 1, 0, 0, 0, 0xFFFFFFFF, 0, 0, 0, false⟩,
  ⟨"TWN_CNT_DIGEST_MISSING", 0x03004C, 4, 1, 4, 1, 0, 0, 0, 0xFFFFFFFF, 0, 0, 0, false⟩,
  ⟨"TWN_CNT_BLOCK_CRC", 0x030050, 4, 1, 4, 1, 0, 0, 0, 0xFFFFFFFF, 0, 0, 0, false⟩,
  ⟨"TWN_CNT_RESEND", 0x030054, 4, 1, 4, 1, 0, 0, 0, 0xFFFFFFFF, 0, 0, 0, false⟩,
  ⟨"TWN_CNT_ORDER_LATE", 0x030058, 4, 1, 4, 1, 0, 0, 0, 0xFFFFFFFF, 0, 0, 0, false⟩,
  ⟨"TWN_CNT_WALL_DOWN", 0x03005C, 4, 1, 4, 1, 0, 0, 0, 0xFFFFFFFF, 0, 0, 0, false⟩,
  ⟨"TWN_HEALTH", 0x030080, 4, 32, 4, 1, 0, 0, 0, 0, 0, 0xFFFFFFFF, 0, false⟩]

/-- Rows of the twn block (part 1). -/
def twnRows1 : List RegRow := [
  ⟨"TWN_PEER_HEALTH", 0x030100, 4, 32, 4, 1, 0, 0, 0, 0, 0, 0xFFFFFFFF, 0, false⟩,
  ⟨"TWN_TALLYn_CFG", 0x030200, 8, 64, 4, 1, 0, 0, 0, 0, 0, 0xC0000FFF, 0, false⟩,
  ⟨"TWN_TALLYn_DEST", 0x030204, 8, 64, 4, 1, 0, 0, 0, 0, 0, 0xFFF0FFF, 0, false⟩]

/-- Rows of the twn block. -/
def twnRows : List RegRow := twnRows0 ++ twnRows1

/-- Rows of the tmg block. -/
def tmgRows : List RegRow := [
  ⟨"TMG_STATUS", 0x040000, 4, 1, 4, 1, 0, 0, 0, 0, 0, 0xFFFFFFFF, 0, false⟩,
  ⟨"TMG_EVENT", 0x040004, 4, 1, 4, 1, 0, 0, 0xFFFF, 0, 0, 0, 0, false⟩,
  ⟨"TMG_EVENT_EN", 0x040008, 4, 1, 4, 1, 0xFFFF, 0, 0, 0, 0, 0, 0, false⟩,
  ⟨"TMG_TG_REALIGN", 0x04000C, 4, 1, 4, 1, 0, 0, 0, 0, 0xFFFFFFFF, 0, 0, false⟩,
  ⟨"TMG_GLA_CFG", 0x040010, 4, 1, 4, 1, 0, 0xEFFFFFFF, 0, 0, 0, 0, 0, false⟩,
  ⟨"TMG_GLB_CFG", 0x040014, 4, 1, 4, 1, 0, 0xEFFFFFFF, 0, 0, 0, 0, 0, false⟩,
  ⟨"TMG_GLA_STATUS", 0x040018, 4, 1, 4, 1, 0, 0, 0, 0, 0, 0xB800FFFF, 0, false⟩,
  ⟨"TMG_GLB_STATUS", 0x04001C, 4, 1, 4, 1, 0, 0, 0, 0, 0, 0xFFFFFFFF, 0, false⟩,
  ⟨"TMG_TGg_CFG", 0x040100, 0x40, 16, 4, 1, 0, 0x870F0F00, 0, 0, 0, 0, 0x83000000, false⟩,
  ⟨"TMG_TGg_CAND", 0x040104, 0x40, 16, 4, 1, 0, 0xF0F0F0F, 0, 0, 0, 0, 0, false⟩,
  ⟨"TMG_TGg_SDI", 0x040108, 0x40, 16, 4, 1, 0, 0x3FF, 0, 0, 0, 0, 0, false⟩,
  ⟨"TMG_TGg_TOL", 0x04010C, 0x40, 16, 4, 1, 0, 0x3FFF007F, 0, 0, 0, 0, 0x3E8000A, false⟩,
  ⟨"TMG_TGg_OFFSET", 0x040110, 0x40, 16, 4, 1, 0, 0x3FFFFFF, 0, 0, 0, 0, 0, false⟩,
  ⟨"TMG_TGg_STATE", 0x040114, 0x40, 16, 4, 1, 0, 0, 0, 0, 0, 0x7CF7F, 0x70000, false⟩,
  ⟨"TMG_TGg_STICKY", 0x040118, 0x40, 16, 4, 1, 0, 0, 0x7F, 0, 0, 0, 0, false⟩,
  ⟨"TMG_TGg_INT_EN", 0x04011C, 0x40, 16, 4, 1, 0x7F, 0, 0, 0, 0, 0, 0, false⟩,
  ⟨"TMG_TGg_CAND_STATUS", 0x040120, 0x40, 16, 4, 1, 0, 0, 0, 0, 0, 0x3F3F3F3F, 0, false⟩,
  ⟨"TMG_TGg_PHASE", 0x040124, 0x40, 16, 4, 1, 0, 0, 0, 0, 0, 0xFFFFFFFF, 0, false⟩,
  ⟨"TMG_TGg_FREQ", 0x040128, 0x40, 16, 4, 1, 0, 0, 0, 0, 0, 0xFFFFFFFF, 0, false⟩,
  ⟨"TMG_TGg_FCOUNT_LO", 0x04012C, 0x40, 16, 4, 1, 0, 0, 0, 0, 0, 0xFFFFFFFF, 0, true⟩,
  ⟨"TMG_TGg_FCOUNT_HI", 0x040130, 0x40, 16, 4, 1, 0, 0, 0, 0, 0, 0xFFFFFFFF, 0, false⟩,
  ⟨"TMG_TGg_FO_CFG", 0x040134, 0x40, 16, 4, 1, 0xFFFFFFFF, 0, 0, 0, 0, 0, 0x20000000, false⟩,
  ⟨"TMG_TGg_FO_WIDTH", 0x040138, 0x40, 16, 4, 1, 0, 0x3FF, 0, 0, 0, 0, 4, false⟩,
  ⟨"TMG_TGg_FO_STATUS", 0x04013C, 0x40, 16, 4, 1, 0, 0, 0, 0, 0, 0xFFFFFFFF, 0x20000000, false⟩]

/-- Rows of the syn block. -/
def synRows : List RegRow := [
  ⟨"SYN_STATUS", 0x050000, 4, 1, 4, 1, 0, 0, 0, 0, 0, 0xFF000001, 0x80000000, false⟩,
  ⟨"SYN_EVENT", 0x050004, 4, 1, 4, 1, 0, 0, 0xFF, 0, 0, 0, 0, false⟩,
  ⟨"SYN_EVENT_EN", 0x050008, 4, 1, 4, 1, 0xFF, 0, 0, 0, 0, 0, 0, false⟩,
  ⟨"SYN_CTRL", 0x05000C, 4, 1, 4, 1, 0, 0, 0, 0, 0xFFFF3F0F, 0, 0, false⟩,
  ⟨"SYN_REFCFG", 0x050010, 4, 1, 4, 1, 0, 0x33, 0, 0, 0, 0, 0, false⟩,
  ⟨"SYN_SSC", 0x050014, 4, 1, 4, 1, 0, 0xF03FF, 0, 0, 0, 0, 0, false⟩,
  ⟨"SYN_REF_PPM", 0x050018, 4, 1, 4, 1, 0, 0, 0, 0, 0, 0xFFFFFFFF, 0, false⟩,
  ⟨"SYN_LOOPn_STATUS", 0x050040, 4, 33, 4, 1, 0, 0, 0, 0, 0, 0xF01FFFFF, 0, false⟩,
  ⟨"SYN_FURROWf_CFG", 0x050100, 4, 64, 4, 1, 0, 0xF, 0, 0, 0, 0, 0, false⟩,
  ⟨"SYN_FURROWf_STATUS", 0x050200, 4, 64, 4, 1, 0, 0, 0, 0, 0, 0xC01F0000, 0, false⟩]

/-- Rows of the ptp block (part 0). -/
def ptpRows0 : List RegRow := [
  ⟨"PTP_STATUS", 0x060000, 4, 1, 4, 1, 0, 0, 0, 0, 0, 0xFF00FF00, 0xFF00, false⟩,
  ⟨"PTP_EVENT", 0x060004, 4, 1, 4, 1, 0, 0, 0xFF, 0, 0, 0, 0, false⟩,
  ⟨"PTP_EVENT_EN", 0x060008, 4, 1, 4, 1, 0xFF, 0, 0, 0, 0, 0, 0, false⟩,
  ⟨"PTP_CTRL", 0x06000C, 4, 1, 4, 1, 0, 0, 0, 0, 0xFFFF000F, 0, 0, false⟩,
  ⟨"PTP_CFG", 0x060010, 4, 1, 4, 1, 0, 0xFBFF00FF, 0, 0, 0, 0, 0xA007F, false⟩,
  ⟨"PTP_STEP", 0x060014, 4, 1, 4, 1, 0, 0, 0, 0, 0, 0x3FFFFFFF, 0x3E8, false⟩,
  ⟨"PTP_TIME_FRAC", 0x060018, 4, 1, 4, 1, 0, 0, 0, 0, 0, 0xFFFF, 0, false⟩,
  ⟨"PTP_TIME_NS", 0x06001C, 4, 1, 4, 1, 0, 0, 0, 0, 0, 0x3FFFFFFF, 0, false⟩,
  ⟨"PTP_TIME_SEC_LO", 0x060020, 4, 1, 4, 1, 0, 0, 0, 0, 0, 0xFFFFFFFF, 0, false⟩,
  ⟨"PTP_TIME_SEC_HI", 0x060024, 4, 1, 4, 1, 0, 0, 0, 0, 0, 0xFFFF, 0, false⟩,
  ⟨"PTP_OFFSET", 0x060028, 4, 1, 4, 1, 0, 0, 0, 0, 0, 0xFFFFFFFF, 0, false⟩,
  ⟨"PTP_PATH_DELAY", 0x06002C, 4, 1, 4, 1, 0, 0, 0, 0, 0, 0xFFFFFFFF, 0, false⟩,
  ⟨"PTP_FREQ", 0x060030, 4, 1, 4, 1, 0, 0, 0, 0, 0, 0xFFFFFFFF, 0, false⟩,
  ⟨"PTP_REFUSED", 0x060034, 4, 1, 4, 1, 0, 0, 0, 0, 0, 0xFFFFFFFF, 0, false⟩,
  ⟨"PTP_GM_ID_LO", 0x060038, 4, 1, 4, 1, 0, 0, 0, 0, 0, 0xFFFFFFFF, 0, true⟩,
  ⟨"PTP_GM_ID_HI", 0x06003C, 4, 1, 4, 1, 0, 0, 0, 0, 0, 0xFFFFFFFF, 0, false⟩,
  ⟨"PTP_PPSIN_OFF", 0x060040, 4, 1, 4, 1, 0, 0, 0, 0, 0, 0xFFFFFFFF, 0, false⟩,
  ⟨"PTP_PPSOUT_CFG", 0x060044, 4, 1, 4, 1, 0, 0xC00003FF, 0, 0, 0, 0, 0x40000064, false⟩,
  ⟨"PTP_DEFAULT_DS", 0x060048, 4, 1, 4, 1, 0, 0xFFFFFFFF, 0, 0, 0, 0, 0x80FFF8FE, false⟩,
  ⟨"PTP_CNT_REFUSED", 0x06004C, 4, 1, 4, 1, 0, 0, 0, 0xFFFFFFFF, 0, 0, 0, false⟩,
  ⟨"PTP_CNT_MASTER_CHANGE", 0x060050, 4, 1, 4, 1, 0, 0, 0, 0xFFFFFFFF, 0, 0, 0, false⟩,
  ⟨"PTP_CNT_ANNOUNCE_TIMEOUT", 0x060054, 4, 1, 4, 1, 0, 0, 0, 0xFFFFFFFF, 0, 0, 0, false⟩,
  ⟨"PTP_INTERVALS", 0x060058, 4, 1, 4, 1, 0, 0xFFFFFF0F, 0, 0, 0, 0, 0xFDFEFD03, false⟩,
  ⟨"PTP_PPSOUT_OFFSET", 0x06005C, 4, 1, 4, 1, 0, 0x3FFFFFFF, 0, 0, 0, 0, 0, false⟩]

/-- Rows of the ptp block (part 1). -/
def ptpRows1 : List RegRow := [
  ⟨"PTPPk_CFG", 0x060100, 0x20, 64, 4, 1, 0, 0xA00003FF, 0, 0, 0, 0, 0, false⟩,
  ⟨"PTPPk_STATE", 0x060104, 0x20, 64, 4, 1, 0, 0, 0, 0, 0, 0x8F000000, 0, false⟩,
  ⟨"PTPPk_INGRESS_LAT", 0x060108, 0x20, 64, 4, 1, 0, 0xFFFFFF, 0, 0, 0, 0, 0, false⟩,
  ⟨"PTPPk_EGRESS_LAT", 0x06010C, 0x20, 64, 4, 1, 0, 0xFFFFFF, 0, 0, 0, 0, 0, false⟩,
  ⟨"PTPPk_ASYM", 0x060110, 0x20, 64, 4, 1, 0, 0xFFFFFF, 0, 0, 0, 0, 0, false⟩,
  ⟨"PTPPk_CNT_RX", 0x060114, 0x20, 64, 4, 1, 0, 0, 0, 0xFFFFFFFF, 0, 0, 0, false⟩,
  ⟨"PTPPk_CNT_TX", 0x060118, 0x20, 64, 4, 1, 0, 0, 0, 0xFFFFFFFF, 0, 0, 0, false⟩,
  ⟨"PTPPk_CNT_BAD", 0x06011C, 0x20, 64, 4, 1, 0, 0, 0, 0xFFFFFFFF, 0, 0, 0, false⟩]

/-- Rows of the ptp block. -/
def ptpRows : List RegRow := ptpRows0 ++ ptpRows1

/-- Rows of the xpt block. -/
def xptRows : List RegRow := [
  ⟨"XPT_STATUS", 0x080000, 4, 1, 4, 1, 0, 0, 0, 0, 0, 0x1FFFFF00, 0, false⟩,
  ⟨"XPT_GEN_COMMITTED", 0x080004, 4, 1, 4, 1, 0, 0, 0, 0, 0, 0xFFFFFFFF, 0, false⟩,
  ⟨"XPT_GEN_ONAIR", 0x080008, 4, 1, 4, 1, 0, 0, 0, 0, 0, 0xFFFFFFFF, 0, false⟩,
  ⟨"XPT_LAST_RESULT", 0x08000C, 4, 1, 4, 1, 0, 0, 0, 0, 0, 0xFF00FFFF, 0xFFFF, false⟩,
  ⟨"XPT_EVENT", 0x080010, 4, 1, 4, 1, 0, 0, 0xFF, 0, 0, 0, 0, false⟩,
  ⟨"XPT_EVENT_EN", 0x080014, 4, 1, 4, 1, 0xFF, 0, 0, 0, 0, 0, 0, false⟩,
  ⟨"XPT_SNAP", 0x080018, 4, 1, 4, 1, 0xF, 0, 0, 0, 0x10, 0xC0000000, 0, false⟩,
  ⟨"XPT_SNAP_GEN", 0x08001C, 4, 1, 4, 1, 0, 0, 0, 0, 0, 0xFFFFFFFF, 0, false⟩,
  ⟨"XPT_CFG", 0x080020, 4, 1, 4, 1, 0, 0xF, 0, 0, 0, 0, 4, false⟩,
  ⟨"XPT_CNT_ENTRIES_LO", 0x080040, 4, 1, 4, 1, 0, 0, 0, 0xFFFFFFFF, 0, 0, 0, true⟩,
  ⟨"XPT_CNT_ENTRIES_HI", 0x080044, 4, 1, 4, 1, 0, 0, 0, 0xFFFFFFFF, 0, 0, 0, false⟩,
  ⟨"XPT_CNT_SALVOS_LO", 0x080048, 4, 1, 4, 1, 0, 0, 0, 0xFFFFFFFF, 0, 0, 0, true⟩,
  ⟨"XPT_CNT_SALVOS_HI", 0x08004C, 4, 1, 4, 1, 0, 0, 0, 0xFFFFFFFF, 0, 0, 0, false⟩,
  ⟨"XPT_CNT_REFUSED", 0x080050, 4, 1, 4, 1, 0, 0, 0, 0xFFFFFFFF, 0, 0, 0, false⟩,
  ⟨"XPT_CNT_AUTH_FAIL", 0x080054, 4, 1, 4, 1, 0, 0, 0, 0xFFFFFFFF, 0, 0, 0, false⟩,
  ⟨"XPT_CNT_DUPLICATE", 0x080058, 4, 1, 4, 1, 0, 0, 0, 0xFFFFFFFF, 0, 0, 0, false⟩,
  ⟨"XPT_CNT_STALE", 0x08005C, 4, 1, 4, 1, 0, 0, 0, 0xFFFFFFFF, 0, 0, 0, false⟩,
  ⟨"XPT_CNT_RX_DROP", 0x080060, 4, 1, 4, 1, 0, 0, 0, 0xFFFFFFFF, 0, 0, 0, false⟩,
  ⟨"XPT_CNT_GUARD_REFUSED", 0x080064, 4, 1, 4, 1, 0, 0, 0, 0xFFFFFFFF, 0, 0, 0, false⟩,
  ⟨"XPT_CNT_WINDOW_LOST", 0x080068, 4, 1, 4, 1, 0, 0, 0, 0xFFFFFFFF, 0, 0, 0, false⟩,
  ⟨"XPT_TG_LEAD", 0x080100, 4, 16, 4, 1, 0, 0x7FF, 0, 0, 0, 0, 0x190, false⟩,
  ⟨"XPT_TG_SWLINE", 0x080140, 4, 16, 4, 1, 0, 0x1FFF, 0, 0, 0, 0x1FFF0000, 7, false⟩]

/-- Rows of the fst block. -/
def fstRows : List RegRow := [
  ⟨"FST_STATUS", 0x0A0000, 4, 1, 4, 1, 0, 0, 0, 0, 0, 0xFFFF0007, 0, false⟩,
  ⟨"FST_EVENT", 0x0A0004, 4, 1, 4, 1, 0, 0, 0xFF, 0, 0, 0, 0, false⟩,
  ⟨"FST_EVENT_EN", 0x0A0008, 4, 1, 4, 1, 0xFF, 0, 0, 0, 0, 0, 0, false⟩,
  ⟨"FST_SEL", 0x0A000C, 4, 1, 4, 1, 0x3FFF, 0, 0, 0, 0, 0, 0, false⟩,
  ⟨"FST_STREAM", 0x0A0010, 4, 1, 4, 1, 0, 0, 0, 0, 0, 0xFFFFFFFF, 0, false⟩,
  ⟨"FST_QMAX", 0x0A0014, 4, 1, 4, 1, 0, 0, 0, 0xF00, 0, 0xF, 0, false⟩,
  ⟨"FST_INEXACT", 0x0A0018, 4, 1, 4, 1, 0, 0, 0, 0, 0, 0xFFFFFFFF, 0, false⟩,
  ⟨"FST_WIDX_LO", 0x0A001C, 4, 1, 4, 1, 0, 0, 0, 0, 0, 0xFFFFFFFF, 0, true⟩,
  ⟨"FST_WIDX_HI", 0x0A0020, 4, 1, 4, 1, 0, 0, 0, 0, 0, 0xFFFFFFFF, 0, false⟩,
  ⟨"FST_CFG", 0x0A0024, 4, 1, 4, 1, 0, 0xFFFF, 0, 0, 0, 0, 0x1019, false⟩,
  ⟨"FST_QHIST", 0x0A0040, 4, 10, 4, 1, 0, 0, 0, 0, 0, 0xFFFFFFFF, 0, false⟩,
  ⟨"FST_CNT_CRC_FAIL", 0x0A0080, 4, 1, 4, 1, 0, 0, 0, 0xFFFFFFFF, 0, 0, 0, false⟩,
  ⟨"FST_CNT_STALE", 0x0A0084, 4, 1, 4, 1, 0, 0, 0, 0xFFFFFFFF, 0, 0, 0, false⟩,
  ⟨"FST_CNT_SUBST_PREV", 0x0A0088, 4, 1, 4, 1, 0, 0, 0, 0xFFFFFFFF, 0, 0, 0, false⟩,
  ⟨"FST_CNT_SUBST_BLACK", 0x0A008C, 4, 1, 4, 1, 0, 0, 0, 0xFFFFFFFF, 0, 0, 0, false⟩,
  ⟨"FST_CNT_REPEAT", 0x0A0090, 4, 1, 4, 1, 0, 0, 0, 0xFFFFFFFF, 0, 0, 0, false⟩,
  ⟨"FST_CNT_DROP", 0x0A0094, 4, 1, 4, 1, 0, 0, 0, 0xFFFFFFFF, 0, 0, 0, false⟩,
  ⟨"FST_CNT_DECISION_MISSED", 0x0A0098, 4, 1, 4, 1, 0, 0, 0, 0xFFFFFFFF, 0, 0, 0, false⟩,
  ⟨"FST_CNT_DECISION_UNMET", 0x0A009C, 4, 1, 4, 1, 0, 0, 0, 0xFFFFFFFF, 0, 0, 0, false⟩,
  ⟨"FST_CNT_ANC_OVERFLOW", 0x0A00A0, 4, 1, 4, 1, 0, 0, 0, 0xFFFFFFFF, 0, 0, 0, false⟩,
  ⟨"FST_LAST_FAIL", 0x0A00A4, 4, 1, 4, 1, 0, 0, 0, 0, 0, 0xFFFFFFFF, 0, false⟩]

/-- Rows of the cmp block. -/
def cmpRows : List RegRow := [
  ⟨"CMP_CFG", 0x0C0000, 0x800, 64, 4, 1, 0, 0, 0, 0, 0, 0xFCFF000F, 0, false⟩,
  ⟨"CMP_STATUS", 0x0C0004, 0x800, 64, 4, 1, 0, 0, 0, 0, 0, 0xF0000FFF, 0, false⟩,
  ⟨"CMP_EVENT", 0x0C0008, 0x800, 64, 4, 1, 0, 0, 0x3F, 0, 0, 0, 0, false⟩,
  ⟨"CMP_EVENT_EN", 0x0C000C, 0x800, 64, 4, 1, 0x3F, 0, 0, 0, 0, 0, 0, false⟩,
  ⟨"CMP_BG", 0x0C0010, 0x800, 64, 4, 1, 0, 0, 0, 0, 0, 0x3FFFFFFF, 0x4080200, false⟩,
  ⟨"CMP_ZORDER_LO", 0x0C0014, 0x800, 64, 4, 1, 0, 0, 0, 0, 0, 0xFFFFFFFF, 0x76543210, true⟩,
  ⟨"CMP_ZORDER_HI", 0x0C0018, 0x800, 64, 4, 1, 0, 0, 0, 0, 0, 0xFFFF, 0xBA98, false⟩,
  ⟨"CMP_CNT_LATE", 0x0C0020, 0x800, 64, 4, 1, 0, 0, 0, 0xFFFFFFFF, 0, 0, 0, false⟩,
  ⟨"CMP_CNT_CLAMPED", 0x0C0024, 0x800, 64, 4, 1, 0, 0, 0, 0xFFFFFFFF, 0, 0, 0, false⟩,
  ⟨"CMP_CNT_REBUILD", 0x0C0028, 0x800, 64, 4, 1, 0, 0, 0, 0xFFFFFFFF, 0, 0, 0, false⟩,
  ⟨"CMP_CNT_VERDICT_MISSED", 0x0C002C, 0x800, 64, 4, 1, 0, 0, 0, 0xFFFFFFFF, 0, 0, 0, false⟩,
  ⟨"CMP_Ln_CROP_XY", 0x0C0100, 0x800, 64, 0x40, 12, 0, 0, 0, 0, 0, 0xFFFFFFFF, 0, false⟩,
  ⟨"CMP_Ln_CROP_WH", 0x0C0104, 0x800, 64, 0x40, 12, 0, 0, 0, 0, 0, 0xFFFFFFFF, 0, false⟩,
  ⟨"CMP_Ln_SIZE", 0x0C0108, 0x800, 64, 0x40, 12, 0, 0, 0, 0, 0, 0xFFFFFFFF, 0, false⟩,
  ⟨"CMP_Ln_POS", 0x0C010C, 0x800, 64, 0x40, 12, 0, 0, 0, 0, 0, 0xFFFFFFFF, 0, false⟩,
  ⟨"CMP_Ln_CTRL", 0x0C0110, 0x800, 64, 0x40, 12, 0, 0, 0, 0, 0, 0xFCCF03FF, 0x203FF, false⟩,
  ⟨"CMP_Ln_TONE", 0x0C0114, 0x800, 64, 0x40, 12, 0, 0, 0, 0, 0, 0x800FFFFF, 0xFFFF, false⟩,
  ⟨"CMP_Ln_GADDR", 0x0C0118, 0x800, 64, 0x40, 12, 0, 0, 0, 0, 0, 0xFFFFFFFF, 0, false⟩,
  ⟨"CMP_Ln_STATE", 0x0C011C, 0x800, 64, 0x40, 12, 0, 0, 0, 0, 0, 0xEF000000, 0, false⟩,
  ⟨"CMP_LINTEL", 0x0C0400, 0x800, 64, 4, 1, 0, 0, 0, 0, 0, 0xF000FFFF, 0, false⟩,
  ⟨"CMP_LINTEL_LOADED", 0x0C0404, 0x800, 64, 4, 1, 0, 0, 0, 0, 0, 0xFFFFFFFF, 0, false⟩,
  ⟨"CMP_CNT_LINTEL_REFUSED", 0x0C07F0, 4, 1, 4, 1, 0, 0, 0, 0xFFFFFFFF, 0, 0, 0, false⟩,
  ⟨"CMP_TABLE_BASE_LO", 0x0C07F8, 4, 1, 4, 1, 0, 0xFFFFFFFF, 0, 0, 0, 0, 0, true⟩,
  ⟨"CMP_TABLE_BASE_HI", 0x0C07FC, 4, 1, 4, 1, 0, 0x1F, 0, 0, 0, 0, 0, false⟩]

/-- Rows of the aud block. -/
def audRows : List RegRow := [
  ⟨"AUD_STATUS", 0x0E0000, 4, 1, 4, 1, 0, 0, 0, 0, 0, 0xFFFFFFFF, 0, false⟩,
  ⟨"AUD_EVENT", 0x0E0004, 4, 1, 4, 1, 0, 0, 0xFF, 0, 0, 0, 0, false⟩,
  ⟨"AUD_EVENT_EN", 0x0E0008, 4, 1, 4, 1, 0xFF, 0, 0, 0, 0, 0, 0, false⟩,
  ⟨"AUD_IN_SEL", 0x0E000C, 4, 1, 4, 1, 0x3FFF, 0, 0, 0, 0, 0, 0, false⟩,
  ⟨"AUD_IN_STATUS", 0x0E0010, 4, 1, 4, 1, 0, 0, 0, 0, 0, 0xEF00FFFF, 0, false⟩,
  ⟨"AUD_CNT_SLIP", 0x0E0014, 4, 1, 4, 1, 0, 0, 0, 0xFFFFFFFF, 0, 0, 0, false⟩,
  ⟨"AUD_CNT_DECISION_MISSED", 0x0E0018, 4, 1, 4, 1, 0, 0, 0, 0xFFFFFFFF, 0, 0, 0, false⟩,
  ⟨"AUD_CNT_DECISION_UNMET", 0x0E001C, 4, 1, 4, 1, 0, 0, 0, 0xFFFFFFFF, 0, 0, 0, false⟩,
  ⟨"AUD_CNT_DEEMB_ERR", 0x0E0020, 4, 1, 4, 1, 0, 0, 0, 0xFFFFFFFF, 0, 0, 0, false⟩,
  ⟨"AUD_BLOCK_LO", 0x0E0024, 4, 1, 4, 1, 0, 0, 0, 0, 0, 0xFFFFFFFF, 0, true⟩,
  ⟨"AUD_BLOCK_HI", 0x0E0028, 4, 1, 4, 1, 0, 0, 0, 0, 0, 0xFFFFFFFF, 0, false⟩,
  ⟨"APp_CFG", 0x0E1000, 0x100, 16, 4, 1, 0, 0xFFF03FFF, 0, 0, 0, 0, 0, false⟩,
  ⟨"APp_STATUS", 0x0E1004, 0x100, 16, 4, 1, 0, 0, 0, 0, 0, 0xFE000000, 0, false⟩,
  ⟨"APp_OFFSET", 0x0E1008, 0x100, 16, 4, 1, 0, 0xFFFFF, 0, 0, 0, 0, 0, false⟩,
  ⟨"APp_LEAD", 0x0E100C, 0x100, 16, 4, 1, 0xFFFFFFFF, 0, 0, 0, 0, 0, 0x1E012C0, false⟩,
  ⟨"APp_MASK_IN_LO", 0x0E1010, 0x100, 16, 4, 1, 0xFFFFFFFF, 0, 0, 0, 0, 0, 0, true⟩,
  ⟨"APp_MASK_IN_HI", 0x0E1014, 0x100, 16, 4, 1, 0xFFFFFFFF, 0, 0, 0, 0, 0, 0, false⟩,
  ⟨"APp_MASK_OUT_LO", 0x0E1018, 0x100, 16, 4, 1, 0xFFFFFFFF, 0, 0, 0, 0, 0, 0, true⟩,
  ⟨"APp_MASK_OUT_HI", 0x0E101C, 0x100, 16, 4, 1, 0xFFFFFFFF, 0, 0, 0, 0, 0, 0, false⟩,
  ⟨"APp_NCO", 0x0E1020, 0x100, 16, 4, 1, 0, 0, 0, 0, 0, 0xFFFFFFFF, 0, false⟩,
  ⟨"APp_CNT_SLIP", 0x0E1024, 0x100, 16, 4, 1, 0, 0, 0, 0xFFFFFFFF, 0, 0, 0, false⟩,
  ⟨"APp_CNT_CLOCK_LOST", 0x0E1028, 0x100, 16, 4, 1, 0, 0, 0, 0xFFFFFFFF, 0, 0, 0, false⟩,
  ⟨"AUD_GAIN", 0x0F0000, 4, 16384, 4, 1, 0, 0, 0, 0, 0, 0xBF000FFF, 0x780, false⟩]

/-- Rows of the dma block. -/
def dmaRows : List RegRow := [
  ⟨"DMA_CTRL", 0x100000, 4, 1, 4, 1, 0x80000000, 0, 0, 0, 1, 0, 0x80000000, false⟩,
  ⟨"DMA_STATUS", 0x100004, 4, 1, 4, 1, 0, 0, 0, 0, 0, 0x9FF0003F, 0, false⟩,
  ⟨"DMA_EVENT", 0x100008, 4, 1, 4, 1, 0, 0, 3, 0, 0, 0, 0, false⟩,
  ⟨"DMA_EVENT_EN", 0x10000C, 4, 1, 4, 1, 3, 0, 0, 0, 0, 0, 0, false⟩,
  ⟨"DMA_ERR_ADDR_LO", 0x100010, 4, 1, 4, 1, 0, 0, 0, 0, 0, 0xFFFFFFFF, 0, true⟩,
  ⟨"DMA_ERR_ADDR_HI", 0x100014, 4, 1, 4, 1, 0, 0, 0, 0, 0, 0xFF, 0, false⟩,
  ⟨"DMA_CH_EVENT", 0x100018, 4, 1, 4, 1, 0, 0, 0xFFFFFFFF, 0, 0, 0, 0, false⟩,
  ⟨"DMA_CH_EVENT_EN", 0x10001C, 4, 1, 4, 1, 0xFFFFFFFF, 0, 0, 0, 0, 0, 0, false⟩,
  ⟨"DMA_REQ_LO", 0x100020, 4, 1, 4, 1, 0, 0, 0, 0, 0, 0xFFFFFFFF, 0, true⟩,
  ⟨"DMA_REQ_HI", 0x100024, 4, 1, 4, 1, 0, 0, 0, 0, 0, 0xFFFF, 0, false⟩,
  ⟨"DMA_CAPn", 0x100040, 4, 4, 4, 1, 0x80003FFF, 0, 0, 0, 0, 0x3F000000, 0, false⟩,
  ⟨"DMA_CAPn_DATA", 0x100050, 4, 4, 4, 1, 0, 0, 0, 0, 0, 0xFFFFFF00, 0, false⟩,
  ⟨"DMAc_CTRL", 0x101000, 0x40, 32, 4, 1, 0, 0, 0, 0, 0x80000000, 1, 0, false⟩,
  ⟨"DMAc_STATUS", 0x101004, 0x40, 32, 4, 1, 0, 0, 0, 0, 0, 0xFF000000, 0, false⟩,
  ⟨"DMAc_DESC_LO", 0x101008, 0x40, 32, 4, 1, 0xFFFFFFE0, 0, 0, 0, 0, 0, 0, true⟩,
  ⟨"DMAc_DESC_HI", 0x10100C, 0x40, 32, 4, 1, 0xFF, 0, 0, 0, 0, 0, 0, false⟩,
  ⟨"DMAc_REMAIN", 0x101010, 0x40, 32, 4, 1, 0, 0, 0, 0, 0, 0xFFFFFF, 0, false⟩,
  ⟨"DMAc_CNT_DESC", 0x101014, 0x40, 32, 4, 1, 0, 0, 0, 0xFFFFFFFF, 0, 0, 0, false⟩]

/-- Rows of the cpt block (part 0). -/
def cptRows0 : List RegRow := [
  ⟨"CPT_STATUS", 0x110000, 4, 1, 4, 1, 0, 0, 0, 0, 0, 0xFFF00000, 0, false⟩,
  ⟨"CPT_EVENT", 0x110004, 4, 1, 4, 1, 0, 0, 0xFF, 0, 0, 0, 0, false⟩,
  ⟨"CPT_EVENT_EN", 0x110008, 4, 1, 4, 1, 0xFF, 0, 0, 0, 0, 0, 0, false⟩,
  ⟨"CPT_PCI_ID", 0x11000C, 4, 1, 4, 1, 0, 0, 0, 0, 0, 0xFFFFFFFF, 0, false⟩,
  ⟨"CPT_MGMT_BASE_LO", 0x110010, 4, 1, 4, 1, 0, 0xFFFFFFFF, 0, 0, 0, 0, 0, true⟩,
  ⟨"CPT_MGMT_BASE_HI", 0x110014, 4, 1, 4, 1, 0, 0x1F, 0, 0, 0, 0, 0, false⟩,
  ⟨"CPT_MGMT_SIZE", 0x110018, 4, 1, 4, 1, 0, 0x7FF, 0, 0, 0, 0, 0x400, false⟩,
  ⟨"CPT_MBX_IN_CTRL", 0x110020, 4, 1, 4, 1, 0x3FFF, 0, 0, 0, 0x80000000, 0x40000000, 0, false⟩,
  ⟨"CPT_MBX_OUT_STATUS", 0x110024, 4, 1, 4, 1, 0, 0, 0x80000000, 0, 0, 0x1F3FFF, 0, false⟩,
  ⟨"CPT_CNT_BAD_ACCESS", 0x110030, 4, 1, 4, 1, 0, 0, 0, 0xFFFFFFFF, 0, 0, 0, false⟩,
  ⟨"CPT_CNT_MBX_OVERRUN", 0x110034, 4, 1, 4, 1, 0, 0, 0, 0xFFFFFFFF, 0, 0, 0, false⟩,
  ⟨"CPT_CNT_MBX_REPLY_DROP", 0x110038, 4, 1, 4, 1, 0, 0, 0, 0xFFFFFFFF, 0, 0, 0, false⟩,
  ⟨"CPT_CNT_BAR2_OUTSIDE", 0x11003C, 4, 1, 4, 1, 0, 0, 0, 0xFFFFFFFF, 0, 0, 0, false⟩,
  ⟨"CPT_CNT_CPL_TIMEOUT", 0x110040, 4, 1, 4, 1, 0, 0, 0, 0xFFFFFFFF, 0, 0, 0, false⟩,
  ⟨"CPT_CNT_LINK_DOWN", 0x110044, 4, 1, 4, 1, 0, 0, 0, 0xFFFFFFFF, 0, 0, 0, false⟩,
  ⟨"CPT_OBW_CTRL", 0x110080, 4, 1, 4, 1, 0xFF, 0, 0, 0, 0, 0, 0, false⟩,
  ⟨"CPT_OBWw_BASE_LO", 0x1100C0, 8, 8, 4, 1, 0xFFFFF000, 0, 0, 0, 0, 0, 0, true⟩,
  ⟨"CPT_OBWw_BASE_HI", 0x1100C4, 8, 8, 4, 1, 0xFFFFFFFF, 0, 0, 0, 0, 0, 0, false⟩,
  ⟨"CPT_PORT_SUM", 0x110100, 4, 32, 4, 1, 0, 0, 0, 0, 0, 0xFFFFFFFF, 0, false⟩,
  ⟨"CPT_CMP_SUM_LO", 0x110180, 4, 1, 4, 1, 0, 0, 0, 0, 0, 0xFFFFFFFF, 0, true⟩,
  ⟨"CPT_CMP_SUM_HI", 0x110184, 4, 1, 4, 1, 0, 0, 0, 0, 0, 0xFFFFFFFF, 0, false⟩,
  ⟨"CPT_PORT_SUM_MGT", 0x110188, 4, 1, 4, 1, 0, 0, 0, 0, 0, 3, 0, false⟩,
  ⟨"MSIX_ADDR_LO", 0x111000, 0x10, 64, 4, 1, 0xFFFFFFFC, 0, 0, 0, 0, 0, 0, false⟩,
  ⟨"MSIX_ADDR_HI", 0x111004, 0x10, 64, 4, 1, 0xFFFFFFFF, 0, 0, 0, 0, 0, 0, false⟩]

/-- Rows of the cpt block (part 1). -/
def cptRows1 : List RegRow := [
  ⟨"MSIX_DATA", 0x111008, 0x10, 64, 4, 1, 0xFFFFFFFF, 0, 0, 0, 0, 0, 0, false⟩,
  ⟨"MSIX_CTRL", 0x11100C, 0x10, 64, 4, 1, 1, 0, 0, 0, 0, 0, 1, false⟩,
  ⟨"MSIX_PENDING", 0x111800, 4, 2, 4, 1, 0, 0, 0, 0, 0, 0xFFFFFFFF, 0, false⟩]

/-- Rows of the cpt block. -/
def cptRows : List RegRow := cptRows0 ++ cptRows1

/-- Rows of the drc block. -/
def drcRows : List RegRow := [
  ⟨"DRC_STATUS", 0x120000, 4, 1, 4, 1, 0, 0, 0, 0, 0, 0xF00000FF, 0, false⟩,
  ⟨"DRC_EVENT", 0x120004, 4, 1, 4, 1, 0, 0, 0xFF, 0, 0, 0, 0, false⟩,
  ⟨"DRC_EVENT_EN", 0x120008, 4, 1, 4, 1, 0xFF, 0, 0, 0, 0, 0, 0, false⟩,
  ⟨"DRC_CTRL", 0x12000C, 4, 1, 4, 1, 0, 0, 0, 0, 0xFFFF000F, 0, 0, false⟩,
  ⟨"DRC_CFG", 0x120010, 4, 1, 4, 1, 0, 0xFE000000, 0, 0, 0, 0, 0xB0000000, false⟩,
  ⟨"DRC_MAINT", 0x120014, 4, 1, 4, 1, 0, 0xFF3FFFFF, 0, 0, 0, 0, 0x81005A0, false⟩,
  ⟨"DRC_TRAIN_STATUS", 0x120018, 4, 1, 4, 1, 0, 0, 0, 0, 0, 0xF81F33FF, 0, false⟩,
  ⟨"DRC_CNT_RT_LATE", 0x120020, 4, 1, 4, 1, 0, 0, 0, 0xFFFFFFFF, 0, 0, 0, false⟩,
  ⟨"DRC_CNT_PREEMPT", 0x120024, 4, 1, 4, 1, 0, 0, 0, 0xFFFFFFFF, 0, 0, 0, false⟩,
  ⟨"DRC_CNT_UNMAPPED", 0x120028, 4, 1, 4, 1, 0, 0, 0, 0xFFFFFFFF, 0, 0, 0, false⟩,
  ⟨"DRC_CNT_DOUBLED", 0x12002C, 4, 1, 4, 1, 0, 0, 0, 0xFFFFFFFF, 0, 0, 0, false⟩,
  ⟨"DRCc_STATUS", 0x121000, 0x80, 32, 4, 1, 0, 0, 0, 0, 0, 0xF770000F, 0, false⟩,
  ⟨"DRCc_IDENT", 0x121004, 0x80, 32, 4, 1, 0, 0, 0, 0, 0, 0xFFFFFFFF, 0, false⟩,
  ⟨"DRCc_CBT", 0x121008, 0x80, 32, 4, 1, 0, 0, 0, 0, 0, 0x7F7F, 0, false⟩,
  ⟨"DRCc_WLVL", 0x12100C, 0x80, 32, 4, 1, 0, 0, 0, 0, 0, 0x7F7F7F7F, 0, false⟩,
  ⟨"DRCc_REYEk", 0x121010, 0x80, 32, 8, 4, 0, 0, 0, 0, 0, 0x807F7F7F, 0, false⟩,
  ⟨"DRCc_WEYEk", 0x121014, 0x80, 32, 8, 4, 0, 0, 0, 0, 0, 0x807F7F7F, 0, false⟩,
  ⟨"DRCc_CNT_PREEMPT", 0x121030, 0x80, 32, 4, 1, 0, 0, 0, 0xFFFFFFFF, 0, 0, 0, false⟩]

/-- Rows of the rxc block. -/
def rxcRows : List RegRow := [
  ⟨"RXCn_CFG", 0x140000, 0x40, 8192, 4, 1, 0, 0xFFFFE07F, 0, 0, 0, 0, 0, false⟩,
  ⟨"RXCn_PATHS", 0x140004, 0x40, 8192, 4, 1, 0, 0x83FF03FF, 0, 0, 0, 0, 0, false⟩,
  ⟨"RXCn_DST_A", 0x140008, 0x40, 8192, 4, 1, 0, 0xFFFFFFFF, 0, 0, 0, 0, 0, false⟩,
  ⟨"RXCn_DST_B", 0x14000C, 0x40, 8192, 4, 1, 0, 0xFFFFFFFF, 0, 0, 0, 0, 0, false⟩,
  ⟨"RXCn_SRC_A", 0x140010, 0x40, 8192, 4, 1, 0, 0xFFFFFFFF, 0, 0, 0, 0, 0, false⟩,
  ⟨"RXCn_SRC_B", 0x140014, 0x40, 8192, 4, 1, 0, 0xFFFFFFFF, 0, 0, 0, 0, 0, false⟩,
  ⟨"RXCn_UDP", 0x140018, 0x40, 8192, 4, 1, 0, 0xFFFFFFFF, 0, 0, 0, 0, 0, false⟩,
  ⟨"RXCn_TARGET", 0x14001C, 0x40, 8192, 4, 1, 0, 0x1FFF, 0, 0, 0, 0, 0, false⟩,
  ⟨"RXCn_OFFSET", 0x140020, 0x40, 8192, 4, 1, 0, 0xFFFFFFFF, 0, 0, 0, 0, 0, false⟩,
  ⟨"RXCn_STATUS", 0x140024, 0x40, 8192, 4, 1, 0, 0, 0, 0, 0, 0xFC00FFFF, 0, false⟩,
  ⟨"RXCn_EVENT", 0x140028, 0x40, 8192, 4, 1, 0, 0, 0xFF, 0, 0, 0, 0, false⟩,
  ⟨"RXCn_SKEW", 0x14002C, 0x40, 8192, 4, 1, 0, 0, 0, 0, 0, 0xFFFFFFFF, 0x7D0, false⟩,
  ⟨"RXCn_CNT_LOST", 0x140030, 0x40, 8192, 4, 1, 0, 0, 0, 0xFFFFFFFF, 0, 0, 0, false⟩,
  ⟨"RXCn_CNT_LATE", 0x140034, 0x40, 8192, 4, 1, 0, 0, 0, 0xFFFFFFFF, 0, 0, 0, false⟩,
  ⟨"RXCn_CNT_REORDER", 0x140038, 0x40, 8192, 4, 1, 0, 0, 0, 0xFFFFFFFF, 0, 0, 0, false⟩,
  ⟨"RXCn_CNT_BAD", 0x14003C, 0x40, 8192, 4, 1, 0, 0, 0, 0xFFFFFFFF, 0, 0, 0, false⟩]

/-- Rows of the txc block. -/
def txcRows : List RegRow := [
  ⟨"TXCn_CFG", 0x1C0000, 0x40, 8192, 4, 1, 0, 0xF6000000, 0, 0, 0, 0, 0, false⟩,
  ⟨"TXCn_PATHS", 0x1C0004, 0x40, 8192, 4, 1, 0, 0x83FF03FF, 0, 0, 0, 0, 0, false⟩,
  ⟨"TXCn_DST_A", 0x1C0008, 0x40, 8192, 4, 1, 0, 0xFFFFFFFF, 0, 0, 0, 0, 0, false⟩,
  ⟨"TXCn_DST_B", 0x1C000C, 0x40, 8192, 4, 1, 0, 0xFFFFFFFF, 0, 0, 0, 0, 0, false⟩,
  ⟨"TXCn_UDP", 0x1C0010, 0x40, 8192, 4, 1, 0, 0xFFFFFFFF, 0, 0, 0, 0, 0, false⟩,
  ⟨"TXCn_SSRC", 0x1C0014, 0x40, 8192, 4, 1, 0, 0xFFFFFFFF, 0, 0, 0, 0, 0, false⟩,
  ⟨"TXCn_HDR", 0x1C0018, 0x40, 8192, 4, 1, 0, 0x3FFF007F, 0, 0, 0, 0, 0x400000, false⟩,
  ⟨"TXCn_SOURCE", 0x1C001C, 0x40, 8192, 4, 1, 0, 0x3F0FFF, 0, 0, 0, 0, 0, false⟩,
  ⟨"TXCn_PKT", 0x1C0020, 0x40, 8192, 4, 1, 0, 0xFFFF, 0, 0, 0, 0xFFFF0000, 0, false⟩,
  ⟨"TXCn_TRO", 0x1C0024, 0x40, 8192, 4, 1, 0, 0x3FFFFFF, 0, 0, 0, 0, 0, false⟩,
  ⟨"TXCn_STATUS", 0x1C0028, 0x40, 8192, 4, 1, 0, 0, 0, 0, 0, 0xF0000000, 0, false⟩,
  ⟨"TXCn_EVENT", 0x1C002C, 0x40, 8192, 4, 1, 0, 0, 3, 0, 0, 0, 0, false⟩,
  ⟨"TXCn_CNT_SENT_LO", 0x1C0030, 0x40, 8192, 4, 1, 0, 0, 0, 0xFFFFFFFF, 0, 0, 0, true⟩,
  ⟨"TXCn_CNT_SENT_HI", 0x1C0034, 0x40, 8192, 4, 1, 0, 0, 0, 0xFFFFFFFF, 0, 0, 0, false⟩,
  ⟨"TXCn_CNT_LATE", 0x1C0038, 0x40, 8192, 4, 1, 0, 0, 0, 0xFFFFFFFF, 0, 0, 0, false⟩,
  ⟨"TXCn_CNT_DROP", 0x1C003C, 0x40, 8192, 4, 1, 0, 0, 0, 0xFFFFFFFF, 0, 0, 0, false⟩]

/-- Rows of the med block. -/
def medRows : List RegRow := [
  ⟨"MED_STATUS", 0x240000, 4, 1, 4, 1, 0, 0, 0, 0, 0, 0x3FFF3FFF, 0, false⟩,
  ⟨"MED_EVENT_EN", 0x240004, 4, 1, 4, 1, 0x3FF, 0, 0, 0, 0, 0, 0, false⟩,
  ⟨"MED_RX_SUM", 0x240100, 4, 256, 4, 1, 0, 0, 0, 0, 0, 0xFFFFFFFF, 0, false⟩,
  ⟨"MED_TX_SUM", 0x240500, 4, 256, 4, 1, 0, 0, 0, 0, 0, 0xFFFFFFFF, 0, false⟩,
  ⟨"MED_PORT_IPV4n", 0x241000, 4, 1024, 4, 1, 0, 0xFFFFFFFF, 0, 0, 0, 0, 0, false⟩,
  ⟨"MED_THROUGH_PAIRn", 0x242000, 4, 1024, 4, 1, 0, 0x800003FF, 0, 0, 0, 0, 0, false⟩]

/-- Rows of the lan block (part 0). -/
def lanRows0 : List RegRow := [
  ⟨"LANn_CFG", 0x400000, 0x400, 1024, 4, 1, 0, 0xFFFC0000, 0, 0, 0, 0, 0, false⟩,
  ⟨"LANpw_CFG", 0x3FC000, 0x400, 8, 4, 1, 0, 0xFFFC0000, 0, 0, 0, 0, 0x600C0000, false⟩,
  ⟨"LANmgt_CFG", 0x3FE000, 0x400, 2, 4, 1, 0, 0xFFFC0000, 0, 0, 0, 0, 0x300C0000, false⟩,
  ⟨"LANn_STATUS", 0x400004, 0x400, 1024, 4, 1, 0, 0, 0, 0, 0, 0xFF00FFFF, 0x20000000, false⟩,
  ⟨"LANded_STATUS", 0x3FC004, 0x400, 10, 4, 1, 0, 0, 0, 0, 0, 0xFF00FFFF, 0x20000000, false⟩,
  ⟨"LANn_EVENT", 0x400008, 0x400, 1024, 4, 1, 0, 0, 0xFF, 0, 0, 0, 0, false⟩,
  ⟨"LANded_EVENT", 0x3FC008, 0x400, 10, 4, 1, 0, 0, 0xFF, 0, 0, 0, 0, false⟩,
  ⟨"LANn_EVENT_EN", 0x40000C, 0x400, 1024, 4, 1, 0xFF, 0, 0, 0, 0, 0, 0, false⟩,
  ⟨"LANded_EVENT_EN", 0x3FC00C, 0x400, 10, 4, 1, 0xFF, 0, 0, 0, 0, 0, 0, false⟩,
  ⟨"LANn_PWR", 0x400010, 0x400, 1024, 4, 1, 3, 0, 0, 0, 0, 0x80000000, 0, false⟩,
  ⟨"LANded_PWR", 0x3FC010, 0x400, 10, 4, 1, 3, 0, 0, 0, 0, 0x80000000, 0, false⟩,
  ⟨"LANn_TX_EQ", 0x400014, 0x400, 1024, 4, 1, 0x1F0F001F, 0, 0, 0, 0, 0, 0xC, false⟩,
  ⟨"LANded_TX_EQ", 0x3FC014, 0x400, 10, 4, 1, 0x1F0F001F, 0, 0, 0, 0, 0, 0xC, false⟩,
  ⟨"LANn_RX_CTRL", 0x400018, 0x400, 1024, 4, 1, 0xC0000F00, 0, 0, 0, 0, 0, 0, false⟩,
  ⟨"LANded_RX_CTRL", 0x3FC018, 0x400, 10, 4, 1, 0xC0000F00, 0, 0, 0, 0, 0, 0, false⟩,
  ⟨"LANn_RX_DFE", 0x40001C, 0x400, 1024, 4, 1, 0x7FFFFFFF, 0, 0, 0, 0, 0, 0, false⟩,
  ⟨"LANded_RX_DFE", 0x3FC01C, 0x400, 10, 4, 1, 0x7FFFFFFF, 0, 0, 0, 0, 0, 0, false⟩,
  ⟨"LANn_TEST", 0x400020, 0x400, 1024, 4, 1, 0x3FEFFFF, 0, 0, 0, 0xC010000, 0xF0000000, 0, false⟩,
  ⟨"LANded_TEST", 0x3FC020, 0x400, 10, 4, 1, 0x3FEFFFF, 0, 0, 0, 0xC010000, 0xF0000000, 0, false⟩,
  ⟨"LANn_PRBS_BITS_LO", 0x400024, 0x400, 1024, 4, 1, 0, 0, 0, 0xFFFFFFFF, 0, 0, 0, true⟩,
  ⟨"LANded_PRBS_BITS_LO", 0x3FC024, 0x400, 10, 4, 1, 0, 0, 0, 0xFFFFFFFF, 0, 0, 0, true⟩,
  ⟨"LANn_PRBS_BITS_HI", 0x400028, 0x400, 1024, 4, 1, 0, 0, 0, 0xFFFFFFFF, 0, 0, 0, false⟩,
  ⟨"LANded_PRBS_BITS_HI", 0x3FC028, 0x400, 10, 4, 1, 0, 0, 0, 0xFFFFFFFF, 0, 0, 0, false⟩,
  ⟨"LANn_PRBS_ERR_LO", 0x40002C, 0x400, 1024, 4, 1, 0, 0, 0, 0xFFFFFFFF, 0, 0, 0, true⟩]

/-- Rows of the lan block (part 1). -/
def lanRows1 : List RegRow := [
  ⟨"LANded_PRBS_ERR_LO", 0x3FC02C, 0x400, 10, 4, 1, 0, 0, 0, 0xFFFFFFFF, 0, 0, 0, true⟩,
  ⟨"LANn_PRBS_ERR_HI", 0x400030, 0x400, 1024, 4, 1, 0, 0, 0, 0xFFFFFFFF, 0, 0, 0, false⟩,
  ⟨"LANded_PRBS_ERR_HI", 0x3FC030, 0x400, 10, 4, 1, 0, 0, 0, 0xFFFFFFFF, 0, 0, 0, false⟩,
  ⟨"LANn_EYE_CTRL", 0x400034, 0x400, 1024, 4, 1, 0x20FF3F0F, 0, 0, 0, 0x80000000, 0x40000000, 4, false⟩,
  ⟨"LANded_EYE_CTRL", 0x3FC034, 0x400, 10, 4, 1, 0x20FF3F0F, 0, 0, 0, 0x80000000, 0x40000000, 4, false⟩,
  ⟨"LANn_EYE_RESULT", 0x400038, 0x400, 1024, 4, 1, 0, 0, 0, 0, 0, 0xFFFFFFFF, 0, false⟩,
  ⟨"LANded_EYE_RESULT", 0x3FC038, 0x400, 10, 4, 1, 0, 0, 0, 0, 0, 0xFFFFFFFF, 0, false⟩,
  ⟨"LANn_EYE_MARGIN", 0x40003C, 0x400, 1024, 4, 1, 0, 0, 0, 0, 0, 0x807F01FF, 0, false⟩,
  ⟨"LANded_EYE_MARGIN", 0x3FC03C, 0x400, 10, 4, 1, 0, 0, 0, 0, 0, 0x807F01FF, 0, false⟩,
  ⟨"LANn_CNT_LOS", 0x400040, 0x400, 1024, 4, 1, 0, 0, 0, 0xFFFFFFFF, 0, 0, 0, false⟩,
  ⟨"LANded_CNT_LOS", 0x3FC040, 0x400, 10, 4, 1, 0, 0, 0, 0xFFFFFFFF, 0, 0, 0, false⟩,
  ⟨"LANn_CNT_RM_INS", 0x400044, 0x400, 1024, 4, 1, 0, 0, 0, 0xFFFFFFFF, 0, 0, 0, false⟩,
  ⟨"LANded_CNT_RM_INS", 0x3FC044, 0x400, 10, 4, 1, 0, 0, 0, 0xFFFFFFFF, 0, 0, 0, false⟩,
  ⟨"LANn_CNT_RM_DEL", 0x400048, 0x400, 1024, 4, 1, 0, 0, 0, 0xFFFFFFFF, 0, 0, 0, false⟩,
  ⟨"LANded_CNT_RM_DEL", 0x3FC048, 0x400, 10, 4, 1, 0, 0, 0, 0xFFFFFFFF, 0, 0, 0, false⟩,
  ⟨"LANn_CNT_RM_OVF", 0x40004C, 0x400, 1024, 4, 1, 0, 0, 0, 0xFFFFFFFF, 0, 0, 0, false⟩,
  ⟨"LANded_CNT_RM_OVF", 0x3FC04C, 0x400, 10, 4, 1, 0, 0, 0, 0xFFFFFFFF, 0, 0, 0, false⟩,
  ⟨"LANn_CNT_SYNC_ERR", 0x400050, 0x400, 1024, 4, 1, 0, 0, 0, 0xFFFFFFFF, 0, 0, 0, false⟩,
  ⟨"LANded_CNT_SYNC_ERR", 0x3FC050, 0x400, 10, 4, 1, 0, 0, 0, 0xFFFFFFFF, 0, 0, 0, false⟩,
  ⟨"LANn_CNT_PRBS_RESYNC", 0x400054, 0x400, 1024, 4, 1, 0, 0, 0, 0xFFFFFFFF, 0, 0, 0, false⟩,
  ⟨"LANded_CNT_PRBS_RESYNC", 0x3FC054, 0x400, 10, 4, 1, 0, 0, 0, 0xFFFFFFFF, 0, 0, 0, false⟩,
  ⟨"LAN_EYE_LIMITS", 0x3FF000, 4, 1, 4, 1, 0, 0x7F00FF, 0, 0, 0, 0, 0x10000A, false⟩,
  ⟨"LAN_EVENT_SUM", 0x3FF100, 4, 33, 4, 1, 0, 0, 0, 0, 0, 0xFFFFFFFF, 0, false⟩]

/-- Rows of the lan block. -/
def lanRows : List RegRow := lanRows0 ++ lanRows1

/-- Rows of the mac block (part 0). -/
def macRows0 : List RegRow := [
  ⟨"MACn_CFG", 0x500000, 0x200, 1024, 4, 1, 0, 0xFFFF0000, 0, 0, 0, 0, 0x5EE0000, false⟩,
  ⟨"MACn_STATUS", 0x500004, 0x200, 1024, 4, 1, 0, 0, 0, 0, 0, 0xFE000000, 0, false⟩,
  ⟨"MACn_EVENT", 0x500008, 0x200, 1024, 4, 1, 0, 0, 0xFF, 0, 0, 0, 0, false⟩,
  ⟨"MACn_EVENT_EN", 0x50000C, 0x200, 1024, 4, 1, 0xFF, 0, 0, 0, 0, 0, 0, false⟩,
  ⟨"MACn_ADDR_LO", 0x500010, 0x200, 1024, 4, 1, 0, 0xFFFFFFFF, 0, 0, 0, 0, 0, true⟩,
  ⟨"MACn_ADDR_HI", 0x500014, 0x200, 1024, 4, 1, 0, 0xFFFF, 0, 0, 0, 0, 0, false⟩,
  ⟨"MACn_QUEUE", 0x500018, 0x200, 1024, 4, 1, 0, 0xFFFF, 0, 0, 0, 0xFFFF0000, 0x400, false⟩,
  ⟨"MACn_WM", 0x50001C, 0x200, 1024, 4, 1, 0, 0, 0, 0, 0, 0xFFFFFFFF, 0x3000100, false⟩,
  ⟨"MACn_PAUSE_CFG", 0x500020, 0x200, 1024, 4, 1, 0, 0xFFFF, 0, 0, 0, 0, 0xFFFF, false⟩,
  ⟨"MACn_PAUSE_STATUS", 0x500024, 0x200, 1024, 4, 1, 0, 0, 0, 0, 0, 0xFFFF, 0, false⟩,
  ⟨"MACn_IPV4_ADDR", 0x500030, 0x200, 1024, 4, 1, 0, 0, 0, 0, 0, 0, 0, false⟩,
  ⟨"MACn_IPV4_MASK", 0x500034, 0x200, 1024, 4, 1, 0, 0, 0, 0, 0, 0, 0, false⟩,
  ⟨"MACn_IPV4_GW", 0x500038, 0x200, 1024, 4, 1, 0, 0, 0, 0, 0, 0, 0, false⟩,
  ⟨"MACn_IPV4_GROUP", 0x50003C, 0x200, 1024, 4, 1, 0, 0, 0, 0, 0, 0, 0, false⟩,
  ⟨"MACn_CNT_RX_OK_LO", 0x500080, 0x200, 1024, 4, 1, 0, 0, 0, 0xFFFFFFFF, 0, 0, 0, true⟩,
  ⟨"MACn_CNT_RX_OK_HI", 0x500084, 0x200, 1024, 4, 1, 0, 0, 0, 0xFFFFFFFF, 0, 0, 0, false⟩,
  ⟨"MACn_CNT_RX_OCTETS_LO", 0x500088, 0x200, 1024, 4, 1, 0, 0, 0, 0xFFFFFFFF, 0, 0, 0, true⟩,
  ⟨"MACn_CNT_RX_OCTETS_HI", 0x50008C, 0x200, 1024, 4, 1, 0, 0, 0, 0xFFFFFFFF, 0, 0, 0, false⟩,
  ⟨"MACn_CNT_RX_MCAST_LO", 0x500090, 0x200, 1024, 4, 1, 0, 0, 0, 0xFFFFFFFF, 0, 0, 0, true⟩,
  ⟨"MACn_CNT_RX_MCAST_HI", 0x500094, 0x200, 1024, 4, 1, 0, 0, 0, 0xFFFFFFFF, 0, 0, 0, false⟩,
  ⟨"MACn_CNT_RX_BCAST_LO", 0x500098, 0x200, 1024, 4, 1, 0, 0, 0, 0xFFFFFFFF, 0, 0, 0, true⟩,
  ⟨"MACn_CNT_RX_BCAST_HI", 0x50009C, 0x200, 1024, 4, 1, 0, 0, 0, 0xFFFFFFFF, 0, 0, 0, false⟩,
  ⟨"MACn_CNT_RX_FCS_ERR_LO", 0x5000A0, 0x200, 1024, 4, 1, 0, 0, 0, 0xFFFFFFFF, 0, 0, 0, true⟩,
  ⟨"MACn_CNT_RX_FCS_ERR_HI", 0x5000A4, 0x200, 1024, 4, 1, 0, 0, 0, 0xFFFFFFFF, 0, 0, 0, false⟩]

/-- Rows of the mac block (part 1). -/
def macRows1 : List RegRow := [
  ⟨"MACn_CNT_RX_UNDERSIZE_LO", 0x5000A8, 0x200, 1024, 4, 1, 0, 0, 0, 0xFFFFFFFF, 0, 0, 0, true⟩,
  ⟨"MACn_CNT_RX_UNDERSIZE_HI", 0x5000AC, 0x200, 1024, 4, 1, 0, 0, 0, 0xFFFFFFFF, 0, 0, 0, false⟩,
  ⟨"MACn_CNT_RX_FRAGMENT_LO", 0x5000B0, 0x200, 1024, 4, 1, 0, 0, 0, 0xFFFFFFFF, 0, 0, 0, true⟩,
  ⟨"MACn_CNT_RX_FRAGMENT_HI", 0x5000B4, 0x200, 1024, 4, 1, 0, 0, 0, 0xFFFFFFFF, 0, 0, 0, false⟩,
  ⟨"MACn_CNT_RX_OVERSIZE_LO", 0x5000B8, 0x200, 1024, 4, 1, 0, 0, 0, 0xFFFFFFFF, 0, 0, 0, true⟩,
  ⟨"MACn_CNT_RX_OVERSIZE_HI", 0x5000BC, 0x200, 1024, 4, 1, 0, 0, 0, 0xFFFFFFFF, 0, 0, 0, false⟩,
  ⟨"MACn_CNT_RX_JABBER_LO", 0x5000C0, 0x200, 1024, 4, 1, 0, 0, 0, 0xFFFFFFFF, 0, 0, 0, true⟩,
  ⟨"MACn_CNT_RX_JABBER_HI", 0x5000C4, 0x200, 1024, 4, 1, 0, 0, 0, 0xFFFFFFFF, 0, 0, 0, false⟩,
  ⟨"MACn_CNT_RX_FILTERED_LO", 0x5000C8, 0x200, 1024, 4, 1, 0, 0, 0, 0xFFFFFFFF, 0, 0, 0, true⟩,
  ⟨"MACn_CNT_RX_FILTERED_HI", 0x5000CC, 0x200, 1024, 4, 1, 0, 0, 0, 0xFFFFFFFF, 0, 0, 0, false⟩,
  ⟨"MACn_CNT_RX_PAUSE_LO", 0x5000D0, 0x200, 1024, 4, 1, 0, 0, 0, 0xFFFFFFFF, 0, 0, 0, true⟩,
  ⟨"MACn_CNT_RX_PAUSE_HI", 0x5000D4, 0x200, 1024, 4, 1, 0, 0, 0, 0xFFFFFFFF, 0, 0, 0, false⟩,
  ⟨"MACn_CNT_RX_PAUSE_IGNORED_LO", 0x5000D8, 0x200, 1024, 4, 1, 0, 0, 0, 0xFFFFFFFF, 0, 0, 0, true⟩,
  ⟨"MACn_CNT_RX_PAUSE_IGNORED_HI", 0x5000DC, 0x200, 1024, 4, 1, 0, 0, 0, 0xFFFFFFFF, 0, 0, 0, false⟩,
  ⟨"MACn_CNT_RX_MACCTL_UNSUP_LO", 0x5000E0, 0x200, 1024, 4, 1, 0, 0, 0, 0xFFFFFFFF, 0, 0, 0, true⟩,
  ⟨"MACn_CNT_RX_MACCTL_UNSUP_HI", 0x5000E4, 0x200, 1024, 4, 1, 0, 0, 0, 0xFFFFFFFF, 0, 0, 0, false⟩,
  ⟨"MACn_CNT_RX_QUEUE_DROP_LO", 0x5000E8, 0x200, 1024, 4, 1, 0, 0, 0, 0xFFFFFFFF, 0, 0, 0, true⟩,
  ⟨"MACn_CNT_RX_QUEUE_DROP_HI", 0x5000EC, 0x200, 1024, 4, 1, 0, 0, 0, 0xFFFFFFFF, 0, 0, 0, false⟩,
  ⟨"MACn_CNT_TX_OK_LO", 0x5000F0, 0x200, 1024, 4, 1, 0, 0, 0, 0xFFFFFFFF, 0, 0, 0, true⟩,
  ⟨"MACn_CNT_TX_OK_HI", 0x5000F4, 0x200, 1024, 4, 1, 0, 0, 0, 0xFFFFFFFF, 0, 0, 0, false⟩,
  ⟨"MACn_CNT_TX_OCTETS_LO", 0x5000F8, 0x200, 1024, 4, 1, 0, 0, 0, 0xFFFFFFFF, 0, 0, 0, true⟩,
  ⟨"MACn_CNT_TX_OCTETS_HI", 0x5000FC, 0x200, 1024, 4, 1, 0, 0, 0, 0xFFFFFFFF, 0, 0, 0, false⟩,
  ⟨"MACn_CNT_TX_PAUSE_LO", 0x500100, 0x200, 1024, 4, 1, 0, 0, 0, 0xFFFFFFFF, 0, 0, 0, true⟩,
  ⟨"MACn_CNT_TX_PAUSE_HI", 0x500104, 0x200, 1024, 4, 1, 0, 0, 0, 0xFFFFFFFF, 0, 0, 0, false⟩]

/-- Rows of the mac block (part 2). -/
def macRows2 : List RegRow := [
  ⟨"MACn_CNT_TX_HELD_QUANTA_LO", 0x500108, 0x200, 1024, 4, 1, 0, 0, 0, 0xFFFFFFFF, 0, 0, 0, true⟩,
  ⟨"MACn_CNT_TX_HELD_QUANTA_HI", 0x50010C, 0x200, 1024, 4, 1, 0, 0, 0, 0xFFFFFFFF, 0, 0, 0, false⟩,
  ⟨"MACn_CNT_TX_DROP_LINK_LO", 0x500110, 0x200, 1024, 4, 1, 0, 0, 0, 0xFFFFFFFF, 0, 0, 0, true⟩,
  ⟨"MACn_CNT_TX_DROP_LINK_HI", 0x500114, 0x200, 1024, 4, 1, 0, 0, 0, 0xFFFFFFFF, 0, 0, 0, false⟩,
  ⟨"MACn_CNT_TX_DROP_OVERSIZE_LO", 0x500118, 0x200, 1024, 4, 1, 0, 0, 0, 0xFFFFFFFF, 0, 0, 0, true⟩,
  ⟨"MACn_CNT_TX_DROP_OVERSIZE_HI", 0x50011C, 0x200, 1024, 4, 1, 0, 0, 0, 0xFFFFFFFF, 0, 0, 0, false⟩,
  ⟨"MACn_CNT_FEC_CORR_LO", 0x500120, 0x200, 1024, 4, 1, 0, 0, 0, 0xFFFFFFFF, 0, 0, 0, true⟩,
  ⟨"MACn_CNT_FEC_CORR_HI", 0x500124, 0x200, 1024, 4, 1, 0, 0, 0, 0xFFFFFFFF, 0, 0, 0, false⟩,
  ⟨"MACn_CNT_FEC_UNCORR_LO", 0x500128, 0x200, 1024, 4, 1, 0, 0, 0, 0xFFFFFFFF, 0, 0, 0, true⟩,
  ⟨"MACn_CNT_FEC_UNCORR_HI", 0x50012C, 0x200, 1024, 4, 1, 0, 0, 0, 0xFFFFFFFF, 0, 0, 0, false⟩,
  ⟨"MACn_CNT_PCS_ERR_LO", 0x500130, 0x200, 1024, 4, 1, 0, 0, 0, 0xFFFFFFFF, 0, 0, 0, true⟩,
  ⟨"MACn_CNT_PCS_ERR_HI", 0x500134, 0x200, 1024, 4, 1, 0, 0, 0, 0xFFFFFFFF, 0, 0, 0, false⟩,
  ⟨"MACn_CNT_LINK_DOWN_LO", 0x500138, 0x200, 1024, 4, 1, 0, 0, 0, 0xFFFFFFFF, 0, 0, 0, true⟩,
  ⟨"MACn_CNT_LINK_DOWN_HI", 0x50013C, 0x200, 1024, 4, 1, 0, 0, 0, 0xFFFFFFFF, 0, 0, 0, false⟩]

/-- Rows of the mac block. -/
def macRows : List RegRow := macRows0 ++ macRows1 ++ macRows2

/-- Rows of the sdi block. -/
def sdiRows : List RegRow := [
  ⟨"SDIn_RX_CFG", 0x580000, 0x100, 1024, 4, 1, 0, 0xFFFFF3FF, 0, 0, 0, 0, 0x4000, false⟩,
  ⟨"SDIn_TX_CFG", 0x580004, 0x100, 1024, 4, 1, 0, 0xF00FC3FF, 0, 0, 0, 0, 0, false⟩,
  ⟨"SDIn_STATUS", 0x580008, 0x100, 1024, 4, 1, 0, 0, 0, 0, 0, 0xFF00FFFF, 0, false⟩,
  ⟨"SDIn_EVENT", 0x58000C, 0x100, 1024, 4, 1, 0, 0, 0xFF, 0, 0, 0, 0, false⟩,
  ⟨"SDIn_EVENT_EN", 0x580010, 0x100, 1024, 4, 1, 0xFF, 0, 0, 0, 0, 0, 0, false⟩,
  ⟨"SDIn_FORMAT", 0x580014, 0x100, 1024, 4, 1, 0, 0, 0, 0, 0, 0xFFFC0001, 0, false⟩,
  ⟨"SDIn_PID_RX", 0x580018, 0x100, 1024, 4, 1, 0, 0, 0, 0, 0, 0xFFFFFFFF, 0, false⟩,
  ⟨"SDIn_PID_TX", 0x58001C, 0x100, 1024, 4, 1, 0, 0xFFFFFFFF, 0, 0, 0, 0, 0, false⟩,
  ⟨"SDIn_PAIR", 0x580020, 0x100, 1024, 4, 1, 0, 0x3FF, 0, 0, 0, 0, 0, false⟩,
  ⟨"SDIn_LAST_TSP_FRAME", 0x580024, 0x100, 1024, 4, 1, 0, 0, 0, 0, 0, 0xFFFFFFFF, 0, false⟩,
  ⟨"SDIn_CNT_CRC", 0x580040, 0x100, 1024, 4, 1, 0, 0, 0, 0xFFFFFFFF, 0, 0, 0, false⟩,
  ⟨"SDIn_CNT_LN_ERR", 0x580044, 0x100, 1024, 4, 1, 0, 0, 0, 0xFFFFFFFF, 0, 0, 0, false⟩,
  ⟨"SDIn_CNT_TRS_ERR", 0x580048, 0x100, 1024, 4, 1, 0, 0, 0, 0xFFFFFFFF, 0, 0, 0, false⟩,
  ⟨"SDIn_CNT_LOSS", 0x58004C, 0x100, 1024, 4, 1, 0, 0, 0, 0xFFFFFFFF, 0, 0, 0, false⟩,
  ⟨"SDIn_CNT_PID_ERR", 0x580050, 0x100, 1024, 4, 1, 0, 0, 0, 0xFFFFFFFF, 0, 0, 0, false⟩,
  ⟨"SDIn_CNT_ANC_CSUM", 0x580054, 0x100, 1024, 4, 1, 0, 0, 0, 0xFFFFFFFF, 0, 0, 0, false⟩,
  ⟨"SDIn_CNT_ANC_DROP", 0x580058, 0x100, 1024, 4, 1, 0, 0, 0, 0xFFFFFFFF, 0, 0, 0, false⟩,
  ⟨"SDIn_CNT_TSP_ERR", 0x58005C, 0x100, 1024, 4, 1, 0, 0, 0, 0xFFFFFFFF, 0, 0, 0, false⟩,
  ⟨"SDIn_CNT_DIGEST_ERR", 0x580060, 0x100, 1024, 4, 1, 0, 0, 0, 0xFFFFFFFF, 0, 0, 0, false⟩,
  ⟨"SDIn_CNT_PAIR_A", 0x580064, 0x100, 1024, 4, 1, 0, 0, 0, 0xFFFFFFFF, 0, 0, 0, false⟩,
  ⟨"SDIn_CNT_PAIR_B", 0x580068, 0x100, 1024, 4, 1, 0, 0, 0, 0xFFFFFFFF, 0, 0, 0, false⟩,
  ⟨"SDIn_CNT_PAIR_NONE", 0x58006C, 0x100, 1024, 4, 1, 0, 0, 0, 0xFFFFFFFF, 0, 0, 0, false⟩]

/-- Rows of the macMgt block (part 0). -/
def macMgtRows0 : List RegRow := [
  ⟨"MACm_CFG", 0x5C0000, 0x200, 2, 4, 1, 0, 0x3FFF0000, 0, 0, 0, 0xC0000000, 0x85EE0000, false⟩,
  ⟨"MACm_STATUS", 0x5C0004, 0x200, 2, 4, 1, 0, 0, 0, 0, 0, 0xFE000000, 0, false⟩,
  ⟨"MACm_EVENT", 0x5C0008, 0x200, 2, 4, 1, 0, 0, 0xFF, 0, 0, 0, 0, false⟩,
  ⟨"MACm_EVENT_EN", 0x5C000C, 0x200, 2, 4, 1, 0xFF, 0, 0, 0, 0, 0, 0, false⟩,
  ⟨"MACm_ADDR_LO", 0x5C0010, 0x200, 2, 4, 1, 0, 0xFFFFFFFF, 0, 0, 0, 0, 0, true⟩,
  ⟨"MACm_ADDR_HI", 0x5C0014, 0x200, 2, 4, 1, 0, 0xFFFF, 0, 0, 0, 0, 0, false⟩,
  ⟨"MACm_QUEUE", 0x5C0018, 0x200, 2, 4, 1, 0, 0xFFFF, 0, 0, 0, 0xFFFF0000, 0x400, false⟩,
  ⟨"MACm_WM", 0x5C001C, 0x200, 2, 4, 1, 0, 0, 0, 0, 0, 0xFFFFFFFF, 0x3000100, false⟩,
  ⟨"MACm_PAUSE_CFG", 0x5C0020, 0x200, 2, 4, 1, 0, 0xFFFF, 0, 0, 0, 0, 0xFFFF, false⟩,
  ⟨"MACm_PAUSE_STATUS", 0x5C0024, 0x200, 2, 4, 1, 0, 0, 0, 0, 0, 0xFFFF, 0, false⟩,
  ⟨"MACm_IPV4_ADDR", 0x5C0030, 0x200, 2, 4, 1, 0, 0xFFFFFFFF, 0, 0, 0, 0, 0, false⟩,
  ⟨"MACm_IPV4_MASK", 0x5C0034, 0x200, 2, 4, 1, 0, 0xFFFFFFFF, 0, 0, 0, 0, 0, false⟩,
  ⟨"MACm_IPV4_GW", 0x5C0038, 0x200, 2, 4, 1, 0, 0xFFFFFFFF, 0, 0, 0, 0, 0, false⟩,
  ⟨"MACm_IPV4_GROUP", 0x5C003C, 0x200, 2, 4, 1, 0, 0xFFFFFFFF, 0, 0, 0, 0, 0, false⟩,
  ⟨"MACm_CNT_RX_OK_LO", 0x5C0080, 0x200, 2, 4, 1, 0, 0, 0, 0xFFFFFFFF, 0, 0, 0, true⟩,
  ⟨"MACm_CNT_RX_OK_HI", 0x5C0084, 0x200, 2, 4, 1, 0, 0, 0, 0xFFFFFFFF, 0, 0, 0, false⟩,
  ⟨"MACm_CNT_RX_OCTETS_LO", 0x5C0088, 0x200, 2, 4, 1, 0, 0, 0, 0xFFFFFFFF, 0, 0, 0, true⟩,
  ⟨"MACm_CNT_RX_OCTETS_HI", 0x5C008C, 0x200, 2, 4, 1, 0, 0, 0, 0xFFFFFFFF, 0, 0, 0, false⟩,
  ⟨"MACm_CNT_RX_MCAST_LO", 0x5C0090, 0x200, 2, 4, 1, 0, 0, 0, 0xFFFFFFFF, 0, 0, 0, true⟩,
  ⟨"MACm_CNT_RX_MCAST_HI", 0x5C0094, 0x200, 2, 4, 1, 0, 0, 0, 0xFFFFFFFF, 0, 0, 0, false⟩,
  ⟨"MACm_CNT_RX_BCAST_LO", 0x5C0098, 0x200, 2, 4, 1, 0, 0, 0, 0xFFFFFFFF, 0, 0, 0, true⟩,
  ⟨"MACm_CNT_RX_BCAST_HI", 0x5C009C, 0x200, 2, 4, 1, 0, 0, 0, 0xFFFFFFFF, 0, 0, 0, false⟩,
  ⟨"MACm_CNT_RX_FCS_ERR_LO", 0x5C00A0, 0x200, 2, 4, 1, 0, 0, 0, 0xFFFFFFFF, 0, 0, 0, true⟩,
  ⟨"MACm_CNT_RX_FCS_ERR_HI", 0x5C00A4, 0x200, 2, 4, 1, 0, 0, 0, 0xFFFFFFFF, 0, 0, 0, false⟩]

/-- Rows of the macMgt block (part 1). -/
def macMgtRows1 : List RegRow := [
  ⟨"MACm_CNT_RX_UNDERSIZE_LO", 0x5C00A8, 0x200, 2, 4, 1, 0, 0, 0, 0xFFFFFFFF, 0, 0, 0, true⟩,
  ⟨"MACm_CNT_RX_UNDERSIZE_HI", 0x5C00AC, 0x200, 2, 4, 1, 0, 0, 0, 0xFFFFFFFF, 0, 0, 0, false⟩,
  ⟨"MACm_CNT_RX_FRAGMENT_LO", 0x5C00B0, 0x200, 2, 4, 1, 0, 0, 0, 0xFFFFFFFF, 0, 0, 0, true⟩,
  ⟨"MACm_CNT_RX_FRAGMENT_HI", 0x5C00B4, 0x200, 2, 4, 1, 0, 0, 0, 0xFFFFFFFF, 0, 0, 0, false⟩,
  ⟨"MACm_CNT_RX_OVERSIZE_LO", 0x5C00B8, 0x200, 2, 4, 1, 0, 0, 0, 0xFFFFFFFF, 0, 0, 0, true⟩,
  ⟨"MACm_CNT_RX_OVERSIZE_HI", 0x5C00BC, 0x200, 2, 4, 1, 0, 0, 0, 0xFFFFFFFF, 0, 0, 0, false⟩,
  ⟨"MACm_CNT_RX_JABBER_LO", 0x5C00C0, 0x200, 2, 4, 1, 0, 0, 0, 0xFFFFFFFF, 0, 0, 0, true⟩,
  ⟨"MACm_CNT_RX_JABBER_HI", 0x5C00C4, 0x200, 2, 4, 1, 0, 0, 0, 0xFFFFFFFF, 0, 0, 0, false⟩,
  ⟨"MACm_CNT_RX_FILTERED_LO", 0x5C00C8, 0x200, 2, 4, 1, 0, 0, 0, 0xFFFFFFFF, 0, 0, 0, true⟩,
  ⟨"MACm_CNT_RX_FILTERED_HI", 0x5C00CC, 0x200, 2, 4, 1, 0, 0, 0, 0xFFFFFFFF, 0, 0, 0, false⟩,
  ⟨"MACm_CNT_RX_PAUSE_LO", 0x5C00D0, 0x200, 2, 4, 1, 0, 0, 0, 0xFFFFFFFF, 0, 0, 0, true⟩,
  ⟨"MACm_CNT_RX_PAUSE_HI", 0x5C00D4, 0x200, 2, 4, 1, 0, 0, 0, 0xFFFFFFFF, 0, 0, 0, false⟩,
  ⟨"MACm_CNT_RX_PAUSE_IGNORED_LO", 0x5C00D8, 0x200, 2, 4, 1, 0, 0, 0, 0xFFFFFFFF, 0, 0, 0, true⟩,
  ⟨"MACm_CNT_RX_PAUSE_IGNORED_HI", 0x5C00DC, 0x200, 2, 4, 1, 0, 0, 0, 0xFFFFFFFF, 0, 0, 0, false⟩,
  ⟨"MACm_CNT_RX_MACCTL_UNSUP_LO", 0x5C00E0, 0x200, 2, 4, 1, 0, 0, 0, 0xFFFFFFFF, 0, 0, 0, true⟩,
  ⟨"MACm_CNT_RX_MACCTL_UNSUP_HI", 0x5C00E4, 0x200, 2, 4, 1, 0, 0, 0, 0xFFFFFFFF, 0, 0, 0, false⟩,
  ⟨"MACm_CNT_RX_QUEUE_DROP_LO", 0x5C00E8, 0x200, 2, 4, 1, 0, 0, 0, 0xFFFFFFFF, 0, 0, 0, true⟩,
  ⟨"MACm_CNT_RX_QUEUE_DROP_HI", 0x5C00EC, 0x200, 2, 4, 1, 0, 0, 0, 0xFFFFFFFF, 0, 0, 0, false⟩,
  ⟨"MACm_CNT_TX_OK_LO", 0x5C00F0, 0x200, 2, 4, 1, 0, 0, 0, 0xFFFFFFFF, 0, 0, 0, true⟩,
  ⟨"MACm_CNT_TX_OK_HI", 0x5C00F4, 0x200, 2, 4, 1, 0, 0, 0, 0xFFFFFFFF, 0, 0, 0, false⟩,
  ⟨"MACm_CNT_TX_OCTETS_LO", 0x5C00F8, 0x200, 2, 4, 1, 0, 0, 0, 0xFFFFFFFF, 0, 0, 0, true⟩,
  ⟨"MACm_CNT_TX_OCTETS_HI", 0x5C00FC, 0x200, 2, 4, 1, 0, 0, 0, 0xFFFFFFFF, 0, 0, 0, false⟩,
  ⟨"MACm_CNT_TX_PAUSE_LO", 0x5C0100, 0x200, 2, 4, 1, 0, 0, 0, 0xFFFFFFFF, 0, 0, 0, true⟩,
  ⟨"MACm_CNT_TX_PAUSE_HI", 0x5C0104, 0x200, 2, 4, 1, 0, 0, 0, 0xFFFFFFFF, 0, 0, 0, false⟩]

/-- Rows of the macMgt block (part 2). -/
def macMgtRows2 : List RegRow := [
  ⟨"MACm_CNT_TX_HELD_QUANTA_LO", 0x5C0108, 0x200, 2, 4, 1, 0, 0, 0, 0xFFFFFFFF, 0, 0, 0, true⟩,
  ⟨"MACm_CNT_TX_HELD_QUANTA_HI", 0x5C010C, 0x200, 2, 4, 1, 0, 0, 0, 0xFFFFFFFF, 0, 0, 0, false⟩,
  ⟨"MACm_CNT_TX_DROP_LINK_LO", 0x5C0110, 0x200, 2, 4, 1, 0, 0, 0, 0xFFFFFFFF, 0, 0, 0, true⟩,
  ⟨"MACm_CNT_TX_DROP_LINK_HI", 0x5C0114, 0x200, 2, 4, 1, 0, 0, 0, 0xFFFFFFFF, 0, 0, 0, false⟩,
  ⟨"MACm_CNT_TX_DROP_OVERSIZE_LO", 0x5C0118, 0x200, 2, 4, 1, 0, 0, 0, 0xFFFFFFFF, 0, 0, 0, true⟩,
  ⟨"MACm_CNT_TX_DROP_OVERSIZE_HI", 0x5C011C, 0x200, 2, 4, 1, 0, 0, 0, 0xFFFFFFFF, 0, 0, 0, false⟩,
  ⟨"MACm_CNT_FEC_CORR_LO", 0x5C0120, 0x200, 2, 4, 1, 0, 0, 0, 0xFFFFFFFF, 0, 0, 0, true⟩,
  ⟨"MACm_CNT_FEC_CORR_HI", 0x5C0124, 0x200, 2, 4, 1, 0, 0, 0, 0xFFFFFFFF, 0, 0, 0, false⟩,
  ⟨"MACm_CNT_FEC_UNCORR_LO", 0x5C0128, 0x200, 2, 4, 1, 0, 0, 0, 0xFFFFFFFF, 0, 0, 0, true⟩,
  ⟨"MACm_CNT_FEC_UNCORR_HI", 0x5C012C, 0x200, 2, 4, 1, 0, 0, 0, 0xFFFFFFFF, 0, 0, 0, false⟩,
  ⟨"MACm_CNT_PCS_ERR_LO", 0x5C0130, 0x200, 2, 4, 1, 0, 0, 0, 0xFFFFFFFF, 0, 0, 0, true⟩,
  ⟨"MACm_CNT_PCS_ERR_HI", 0x5C0134, 0x200, 2, 4, 1, 0, 0, 0, 0xFFFFFFFF, 0, 0, 0, false⟩,
  ⟨"MACm_CNT_LINK_DOWN_LO", 0x5C0138, 0x200, 2, 4, 1, 0, 0, 0, 0xFFFFFFFF, 0, 0, 0, true⟩,
  ⟨"MACm_CNT_LINK_DOWN_HI", 0x5C013C, 0x200, 2, 4, 1, 0, 0, 0, 0xFFFFFFFF, 0, 0, 0, false⟩]

/-- Rows of the macMgt block. -/
def macMgtRows : List RegRow := macMgtRows0 ++ macMgtRows1 ++ macMgtRows2

/-- Rows of the life block (part 0). -/
def lifeRows0 : List RegRow := [
  ⟨"LIFE_STATUS", 0x600000, 4, 1, 4, 1, 0, 0, 0, 0, 0, 0xF0FF1FFF, 0, false⟩,
  ⟨"LIFE_EVENT", 0x600004, 4, 1, 4, 1, 0, 0, 7, 0, 0, 0, 0, false⟩,
  ⟨"LIFE_EVENT_EN", 0x600008, 4, 1, 4, 1, 7, 0, 0, 0, 0, 0, 0, false⟩,
  ⟨"LIFE_CTRL", 0x60000C, 4, 1, 4, 1, 0, 0, 0, 0, 0xFFFF000F, 0, 0, false⟩,
  ⟨"LIFE_PON_LO", 0x600010, 4, 1, 4, 1, 0, 0, 0, 0, 0, 0xFFFFFFFF, 0, true⟩,
  ⟨"LIFE_PON_HI", 0x600014, 4, 1, 4, 1, 0, 0, 0, 0, 0, 0xFFFFFFFF, 0, false⟩,
  ⟨"LIFE_BOOTS_LO", 0x600018, 4, 1, 4, 1, 0, 0, 0, 0, 0, 0xFFFFFFFF, 0, true⟩,
  ⟨"LIFE_BOOTS_HI", 0x60001C, 4, 1, 4, 1, 0, 0, 0, 0, 0, 0xFFFFFFFF, 0, false⟩,
  ⟨"LIFE_KEYSEC_LO", 0x600020, 4, 1, 4, 1, 0, 0, 0, 0, 0, 0xFFFFFFFF, 0, true⟩,
  ⟨"LIFE_KEYSEC_HI", 0x600024, 4, 1, 4, 1, 0, 0, 0, 0, 0, 0xFFFFFFFF, 0, false⟩,
  ⟨"LIFE_ENTRIES_LO", 0x600028, 4, 1, 4, 1, 0, 0, 0, 0, 0, 0xFFFFFFFF, 0, true⟩,
  ⟨"LIFE_ENTRIES_HI", 0x60002C, 4, 1, 4, 1, 0, 0, 0, 0, 0, 0xFFFFFFFF, 0, false⟩,
  ⟨"LIFE_TILEFAIL_LO", 0x600030, 4, 1, 4, 1, 0, 0, 0, 0, 0, 0xFFFFFFFF, 0, true⟩,
  ⟨"LIFE_TILEFAIL_HI", 0x600034, 4, 1, 4, 1, 0, 0, 0, 0, 0, 0xFFFFFFFF, 0, false⟩,
  ⟨"LIFE_TJSUM_LO", 0x600038, 4, 1, 4, 1, 0, 0, 0, 0, 0, 0xFFFFFFFF, 0, true⟩,
  ⟨"LIFE_TJSUM_HI", 0x60003C, 4, 1, 4, 1, 0, 0, 0, 0, 0, 0xFFFFFFFF, 0, false⟩,
  ⟨"LIFE_CAL_LO", 0x600040, 4, 1, 4, 1, 0, 0, 0, 0, 0, 0xFFFFFFFF, 0, true⟩,
  ⟨"LIFE_CAL_HI", 0x600044, 4, 1, 4, 1, 0, 0, 0, 0, 0, 0x8000FFFF, 0, false⟩,
  ⟨"LIFE_TJBINb_LO", 0x600080, 8, 16, 4, 1, 0, 0, 0, 0, 0, 0xFFFFFFFF, 0, true⟩,
  ⟨"LIFE_TJBINb_HI", 0x600084, 8, 16, 4, 1, 0, 0, 0, 0, 0, 0xFFFFFFFF, 0, false⟩,
  ⟨"LIFE_REC_SEL", 0x600100, 4, 1, 4, 1, 0xFFF, 0, 0, 0, 0, 0, 0, false⟩,
  ⟨"LIFE_REC", 0x600110, 4, 4, 4, 1, 0, 0, 0, 0, 0, 0xFFFFFFFF, 0, false⟩,
  ⟨"LIFE_LANEERRi_LO", 0x601000, 8, 1034, 4, 1, 0, 0, 0, 0, 0, 0xFFFFFFFF, 0, true⟩,
  ⟨"LIFE_LANEERRi_HI", 0x601004, 8, 1034, 4, 1, 0, 0, 0, 0, 0, 0xFFFFFFFF, 0, false⟩]

/-- Rows of the life block (part 1). -/
def lifeRows1 : List RegRow := [
  ⟨"LIFE_ERASE", 0x604000, 4, 128, 4, 1, 0, 0, 0, 0, 0, 0xFFFFFFFF, 0, false⟩]

/-- Rows of the life block. -/
def lifeRows : List RegRow := lifeRows0 ++ lifeRows1

/-- The rows of the block that holds an offset. -/
def rowsAt (off : Nat) : List RegRow :=
  if off < 0x10000 then topRows
  else if off < 0x20000 then bootRows
  else if off < 0x30000 then fltRows
  else if off < 0x40000 then twnRows
  else if off < 0x50000 then tmgRows
  else if off < 0x60000 then synRows
  else if off < 0x80000 then ptpRows
  else if off < 0xA0000 then xptRows
  else if off < 0xC0000 then fstRows
  else if off < 0xE0000 then cmpRows
  else if off < 0x100000 then audRows
  else if off < 0x110000 then dmaRows
  else if off < 0x120000 then cptRows
  else if off < 0x140000 then drcRows
  else if off < 0x1C0000 then rxcRows
  else if off < 0x240000 then txcRows
  else if off < 0x3F0000 then medRows
  else if off < 0x500000 then lanRows
  else if off < 0x580000 then macRows
  else if off < 0x5C0000 then sdiRows
  else if off < 0x600000 then macMgtRows
  else if off < 0x1000000 then lifeRows
  else []

/-- The row of the register at an offset, if the map has one there. -/
def rowOf (off : Nat) : Option RegRow := RegRow.findIn off (rowsAt off)

/-- The reset value of the register at an offset (0 where the map has none). -/
def resetOf (off : Nat) : Word :=
  match rowOf off with
  | some r => BitVec.ofNat 32 r.reset
  | none => 0

end RegMap

/-! Offsets by name. -/
namespace Reg

/-- The lane register page of page index i (R9): 0–1,023 numbered lanes, 1,024–1,033 PW0–PW7, MGT0, MGT1. -/
@[simp] def lanPage (i : Nat) : Nat := if i < 1024 then 0x400000 + 0x400 * i else 0x3FC000 + 0x400 * (i - 1024)
/-- The MAC page of port p: 0–1,023 by lead lane, 1,032 and 1,033 MGT0 and MGT1 (R9, R338). -/
@[simp] def macPage (p : Nat) : Nat := if p < 1024 then 0x500000 + 0x200 * p else 0x5C0000 + 0x200 * (p - 1032)

@[simp] def BOOT_STATUS : Nat := 0x010000
@[simp] def BOOT_DIR : Nat := 0x010004
@[simp] def BOOT_CTRL : Nat := 0x010008
@[simp] def BOOT_WR_STATUS : Nat := 0x01000C
@[simp] def BOOT_WR_OFFSET : Nat := 0x010010
@[simp] def BOOT_TIME : Nat := 0x010014
@[simp] def BOOT_IMG_VER : Nat := 0x010018
@[simp] def BOOT_FW_VER : Nat := 0x01001C
@[simp] def BOOT_COMPAT_ID : Nat := 0x010020
@[simp] def BOOT_SYSTEM_ID : Nat := 0x010024
@[simp] def BOOT_UID_LO : Nat := 0x010028
@[simp] def BOOT_UID_HI : Nat := 0x01002C
@[simp] def BOOT_CFG_HASH (i : Nat) : Nat := 0x010040 + 0x4 * i
@[simp] def BOOT_KEYHASH (i : Nat) : Nat := 0x010060 + 0x4 * i
@[simp] def BOOT_FUSE_CTRL : Nat := 0x010080
@[simp] def TOP_ID : Nat := 0x000000
@[simp] def TOP_CAP_FIELDS : Nat := 0x000004
@[simp] def TOP_CAP_UNITS : Nat := 0x000008
@[simp] def TOP_CAP_AUDIO : Nat := 0x00000C
@[simp] def TOP_MODE : Nat := 0x000010
@[simp] def TOP_MODE_TIME : Nat := 0x000014
@[simp] def TOP_SAFE_CAUSE : Nat := 0x000018
@[simp] def TOP_CTRL : Nat := 0x00001C
@[simp] def TOP_STRAPS : Nat := 0x000020
@[simp] def TOP_USAGE : Nat := 0x000024
@[simp] def TOP_EVENT : Nat := 0x000028
@[simp] def TOP_EVENT_EN : Nat := 0x00002C
@[simp] def XPT_STATUS : Nat := 0x080000
@[simp] def XPT_GEN_COMMITTED : Nat := 0x080004
@[simp] def XPT_GEN_ONAIR : Nat := 0x080008
@[simp] def XPT_LAST_RESULT : Nat := 0x08000C
@[simp] def XPT_EVENT : Nat := 0x080010
@[simp] def XPT_EVENT_EN : Nat := 0x080014
@[simp] def XPT_SNAP : Nat := 0x080018
@[simp] def XPT_SNAP_GEN : Nat := 0x08001C
@[simp] def XPT_CFG : Nat := 0x080020
@[simp] def XPT_CNT_ENTRIES_LO : Nat := 0x080040
@[simp] def XPT_CNT_ENTRIES_HI : Nat := 0x080044
@[simp] def XPT_CNT_SALVOS_LO : Nat := 0x080048
@[simp] def XPT_CNT_SALVOS_HI : Nat := 0x08004C
@[simp] def XPT_CNT_REFUSED : Nat := 0x080050
@[simp] def XPT_CNT_AUTH_FAIL : Nat := 0x080054
@[simp] def XPT_CNT_DUPLICATE : Nat := 0x080058
@[simp] def XPT_CNT_STALE : Nat := 0x08005C
@[simp] def XPT_CNT_RX_DROP : Nat := 0x080060
@[simp] def XPT_CNT_GUARD_REFUSED : Nat := 0x080064
@[simp] def XPT_CNT_WINDOW_LOST : Nat := 0x080068
@[simp] def XPT_TG_LEAD (i : Nat) : Nat := 0x080100 + 0x4 * i
@[simp] def XPT_TG_SWLINE (i : Nat) : Nat := 0x080140 + 0x4 * i
@[simp] def FST_STATUS : Nat := 0x0A0000
@[simp] def FST_EVENT : Nat := 0x0A0004
@[simp] def FST_EVENT_EN : Nat := 0x0A0008
@[simp] def FST_SEL : Nat := 0x0A000C
@[simp] def FST_STREAM : Nat := 0x0A0010
@[simp] def FST_QMAX : Nat := 0x0A0014
@[simp] def FST_INEXACT : Nat := 0x0A0018
@[simp] def FST_WIDX_LO : Nat := 0x0A001C
@[simp] def FST_WIDX_HI : Nat := 0x0A0020
@[simp] def FST_CFG : Nat := 0x0A0024
@[simp] def FST_QHIST (i : Nat) : Nat := 0x0A0040 + 0x4 * i
@[simp] def FST_CNT_CRC_FAIL : Nat := 0x0A0080
@[simp] def FST_CNT_STALE : Nat := 0x0A0084
@[simp] def FST_CNT_SUBST_PREV : Nat := 0x0A0088
@[simp] def FST_CNT_SUBST_BLACK : Nat := 0x0A008C
@[simp] def FST_CNT_REPEAT : Nat := 0x0A0090
@[simp] def FST_CNT_DROP : Nat := 0x0A0094
@[simp] def FST_CNT_DECISION_MISSED : Nat := 0x0A0098
@[simp] def FST_CNT_DECISION_UNMET : Nat := 0x0A009C
@[simp] def FST_CNT_ANC_OVERFLOW : Nat := 0x0A00A0
@[simp] def FST_LAST_FAIL : Nat := 0x0A00A4
@[simp] def CMP_CFG (i : Nat) : Nat := 0x0C0000 + 0x800 * i
@[simp] def CMP_STATUS (i : Nat) : Nat := 0x0C0004 + 0x800 * i
@[simp] def CMP_EVENT (i : Nat) : Nat := 0x0C0008 + 0x800 * i
@[simp] def CMP_EVENT_EN (i : Nat) : Nat := 0x0C000C + 0x800 * i
@[simp] def CMP_BG (i : Nat) : Nat := 0x0C0010 + 0x800 * i
@[simp] def CMP_ZORDER_LO (i : Nat) : Nat := 0x0C0014 + 0x800 * i
@[simp] def CMP_ZORDER_HI (i : Nat) : Nat := 0x0C0018 + 0x800 * i
@[simp] def CMP_CNT_LATE (i : Nat) : Nat := 0x0C0020 + 0x800 * i
@[simp] def CMP_CNT_CLAMPED (i : Nat) : Nat := 0x0C0024 + 0x800 * i
@[simp] def CMP_CNT_REBUILD (i : Nat) : Nat := 0x0C0028 + 0x800 * i
@[simp] def CMP_CNT_VERDICT_MISSED (i : Nat) : Nat := 0x0C002C + 0x800 * i
@[simp] def CMPL_CROP_XY (i j : Nat) : Nat := 0x0C0100 + 0x800 * i + 0x40 * j
@[simp] def CMPL_CROP_WH (i j : Nat) : Nat := 0x0C0104 + 0x800 * i + 0x40 * j
@[simp] def CMPL_SIZE (i j : Nat) : Nat := 0x0C0108 + 0x800 * i + 0x40 * j
@[simp] def CMPL_POS (i j : Nat) : Nat := 0x0C010C + 0x800 * i + 0x40 * j
@[simp] def CMPL_CTRL (i j : Nat) : Nat := 0x0C0110 + 0x800 * i + 0x40 * j
@[simp] def CMPL_TONE (i j : Nat) : Nat := 0x0C0114 + 0x800 * i + 0x40 * j
@[simp] def CMPL_GADDR (i j : Nat) : Nat := 0x0C0118 + 0x800 * i + 0x40 * j
@[simp] def CMPL_STATE (i j : Nat) : Nat := 0x0C011C + 0x800 * i + 0x40 * j
@[simp] def CMP_LINTEL (i : Nat) : Nat := 0x0C0400 + 0x800 * i
@[simp] def CMP_LINTEL_LOADED (i : Nat) : Nat := 0x0C0404 + 0x800 * i
@[simp] def CMP_CNT_LINTEL_REFUSED : Nat := 0x0C07F0
@[simp] def CMP_TABLE_BASE_LO : Nat := 0x0C07F8
@[simp] def CMP_TABLE_BASE_HI : Nat := 0x0C07FC
@[simp] def AUD_STATUS : Nat := 0x0E0000
@[simp] def AUD_EVENT : Nat := 0x0E0004
@[simp] def AUD_EVENT_EN : Nat := 0x0E0008
@[simp] def AUD_IN_SEL : Nat := 0x0E000C
@[simp] def AUD_IN_STATUS : Nat := 0x0E0010
@[simp] def AUD_CNT_SLIP : Nat := 0x0E0014
@[simp] def AUD_CNT_DECISION_MISSED : Nat := 0x0E0018
@[simp] def AUD_CNT_DECISION_UNMET : Nat := 0x0E001C
@[simp] def AUD_CNT_DEEMB_ERR : Nat := 0x0E0020
@[simp] def AUD_BLOCK_LO : Nat := 0x0E0024
@[simp] def AUD_BLOCK_HI : Nat := 0x0E0028
@[simp] def AP_CFG (i : Nat) : Nat := 0x0E1000 + 0x100 * i
@[simp] def AP_STATUS (i : Nat) : Nat := 0x0E1004 + 0x100 * i
@[simp] def AP_OFFSET (i : Nat) : Nat := 0x0E1008 + 0x100 * i
@[simp] def AP_LEAD (i : Nat) : Nat := 0x0E100C + 0x100 * i
@[simp] def AP_MASK_IN_LO (i : Nat) : Nat := 0x0E1010 + 0x100 * i
@[simp] def AP_MASK_IN_HI (i : Nat) : Nat := 0x0E1014 + 0x100 * i
@[simp] def AP_MASK_OUT_LO (i : Nat) : Nat := 0x0E1018 + 0x100 * i
@[simp] def AP_MASK_OUT_HI (i : Nat) : Nat := 0x0E101C + 0x100 * i
@[simp] def AP_NCO (i : Nat) : Nat := 0x0E1020 + 0x100 * i
@[simp] def AP_CNT_SLIP (i : Nat) : Nat := 0x0E1024 + 0x100 * i
@[simp] def AP_CNT_CLOCK_LOST (i : Nat) : Nat := 0x0E1028 + 0x100 * i
@[simp] def AUD_GAIN (i : Nat) : Nat := 0x0F0000 + 0x4 * i
@[simp] def TWN_STATUS : Nat := 0x030000
@[simp] def TWN_EVENT : Nat := 0x030004
@[simp] def TWN_EVENT_EN : Nat := 0x030008
@[simp] def TWN_CTRL : Nat := 0x03000C
@[simp] def TWN_CFG : Nat := 0x030010
@[simp] def TWN_SCORE : Nat := 0x030014
@[simp] def TWN_PEER : Nat := 0x030018
@[simp] def TWN_WALL : Nat := 0x03001C
@[simp] def TWN_JOIN : Nat := 0x030020
@[simp] def TWN_HO_CTRL : Nat := 0x030024
@[simp] def TWN_HO_FRAME_LO : Nat := 0x030028
@[simp] def TWN_HO_FRAME_HI : Nat := 0x03002C
@[simp] def TWN_LAST_DIV : Nat := 0x030030
@[simp] def TWN_LAST_DIV_FRAME_LO : Nat := 0x030034
@[simp] def TWN_LAST_DIV_FRAME_HI : Nat := 0x030038
@[simp] def TWN_CNT_DIVERGENT : Nat := 0x030040
@[simp] def TWN_CNT_EXPLAINED : Nat := 0x030044
@[simp] def TWN_CNT_ARBITRATION : Nat := 0x030048
@[simp] def TWN_CNT_DIGEST_MISSING : Nat := 0x03004C
@[simp] def TWN_CNT_BLOCK_CRC : Nat := 0x030050
@[simp] def TWN_CNT_RESEND : Nat := 0x030054
@[simp] def TWN_CNT_ORDER_LATE : Nat := 0x030058
@[simp] def TWN_CNT_WALL_DOWN : Nat := 0x03005C
@[simp] def TWN_HEALTH (i : Nat) : Nat := 0x030080 + 0x4 * i
@[simp] def TWN_PEER_HEALTH (i : Nat) : Nat := 0x030100 + 0x4 * i
@[simp] def TWN_TALLY_CFG (i : Nat) : Nat := 0x030200 + 0x8 * i
@[simp] def TWN_TALLY_DEST (i : Nat) : Nat := 0x030204 + 0x8 * i
@[simp] def TMG_STATUS : Nat := 0x040000
@[simp] def TMG_EVENT : Nat := 0x040004
@[simp] def TMG_EVENT_EN : Nat := 0x040008
@[simp] def TMG_TG_REALIGN : Nat := 0x04000C
@[simp] def TMG_GLA_CFG : Nat := 0x040010
@[simp] def TMG_GLB_CFG : Nat := 0x040014
@[simp] def TMG_GLA_STATUS : Nat := 0x040018
@[simp] def TMG_GLB_STATUS : Nat := 0x04001C
@[simp] def TG_CFG (i : Nat) : Nat := 0x040100 + 0x40 * i
@[simp] def TG_CAND (i : Nat) : Nat := 0x040104 + 0x40 * i
@[simp] def TG_SDI (i : Nat) : Nat := 0x040108 + 0x40 * i
@[simp] def TG_TOL (i : Nat) : Nat := 0x04010C + 0x40 * i
@[simp] def TG_OFFSET (i : Nat) : Nat := 0x040110 + 0x40 * i
@[simp] def TG_STATE (i : Nat) : Nat := 0x040114 + 0x40 * i
@[simp] def TG_STICKY (i : Nat) : Nat := 0x040118 + 0x40 * i
@[simp] def TG_INT_EN (i : Nat) : Nat := 0x04011C + 0x40 * i
@[simp] def TG_CAND_STATUS (i : Nat) : Nat := 0x040120 + 0x40 * i
@[simp] def TG_PHASE (i : Nat) : Nat := 0x040124 + 0x40 * i
@[simp] def TG_FREQ (i : Nat) : Nat := 0x040128 + 0x40 * i
@[simp] def TG_FCOUNT_LO (i : Nat) : Nat := 0x04012C + 0x40 * i
@[simp] def TG_FCOUNT_HI (i : Nat) : Nat := 0x040130 + 0x40 * i
@[simp] def TG_FO_CFG (i : Nat) : Nat := 0x040134 + 0x40 * i
@[simp] def TG_FO_WIDTH (i : Nat) : Nat := 0x040138 + 0x40 * i
@[simp] def TG_FO_STATUS (i : Nat) : Nat := 0x04013C + 0x40 * i
@[simp] def SYN_STATUS : Nat := 0x050000
@[simp] def SYN_EVENT : Nat := 0x050004
@[simp] def SYN_EVENT_EN : Nat := 0x050008
@[simp] def SYN_CTRL : Nat := 0x05000C
@[simp] def SYN_REFCFG : Nat := 0x050010
@[simp] def SYN_SSC : Nat := 0x050014
@[simp] def SYN_REF_PPM : Nat := 0x050018
@[simp] def SYN_LOOP_STATUS (i : Nat) : Nat := 0x050040 + 0x4 * i
@[simp] def SYN_FURROW_CFG (i : Nat) : Nat := 0x050100 + 0x4 * i
@[simp] def SYN_FURROW_STATUS (i : Nat) : Nat := 0x050200 + 0x4 * i
@[simp] def LAN_CFG (i : Nat) : Nat := lanPage i + 0x0
@[simp] def LAN_STATUS (i : Nat) : Nat := lanPage i + 0x4
@[simp] def LAN_EVENT (i : Nat) : Nat := lanPage i + 0x8
@[simp] def LAN_EVENT_EN (i : Nat) : Nat := lanPage i + 0xC
@[simp] def LAN_PWR (i : Nat) : Nat := lanPage i + 0x10
@[simp] def LAN_TX_EQ (i : Nat) : Nat := lanPage i + 0x14
@[simp] def LAN_RX_CTRL (i : Nat) : Nat := lanPage i + 0x18
@[simp] def LAN_RX_DFE (i : Nat) : Nat := lanPage i + 0x1C
@[simp] def LAN_TEST (i : Nat) : Nat := lanPage i + 0x20
@[simp] def LAN_PRBS_BITS_LO (i : Nat) : Nat := lanPage i + 0x24
@[simp] def LAN_PRBS_BITS_HI (i : Nat) : Nat := lanPage i + 0x28
@[simp] def LAN_PRBS_ERR_LO (i : Nat) : Nat := lanPage i + 0x2C
@[simp] def LAN_PRBS_ERR_HI (i : Nat) : Nat := lanPage i + 0x30
@[simp] def LAN_EYE_CTRL (i : Nat) : Nat := lanPage i + 0x34
@[simp] def LAN_EYE_RESULT (i : Nat) : Nat := lanPage i + 0x38
@[simp] def LAN_EYE_MARGIN (i : Nat) : Nat := lanPage i + 0x3C
@[simp] def LAN_CNT_LOS (i : Nat) : Nat := lanPage i + 0x40
@[simp] def LAN_CNT_RM_INS (i : Nat) : Nat := lanPage i + 0x44
@[simp] def LAN_CNT_RM_DEL (i : Nat) : Nat := lanPage i + 0x48
@[simp] def LAN_CNT_RM_OVF (i : Nat) : Nat := lanPage i + 0x4C
@[simp] def LAN_CNT_SYNC_ERR (i : Nat) : Nat := lanPage i + 0x50
@[simp] def LAN_CNT_PRBS_RESYNC (i : Nat) : Nat := lanPage i + 0x54
@[simp] def LAN_EYE_LIMITS : Nat := 0x3FF000
@[simp] def LAN_EVENT_SUM (i : Nat) : Nat := 0x3FF100 + 0x4 * i
@[simp] def SDI_RX_CFG (i : Nat) : Nat := 0x580000 + 0x100 * i
@[simp] def SDI_TX_CFG (i : Nat) : Nat := 0x580004 + 0x100 * i
@[simp] def SDI_STATUS (i : Nat) : Nat := 0x580008 + 0x100 * i
@[simp] def SDI_EVENT (i : Nat) : Nat := 0x58000C + 0x100 * i
@[simp] def SDI_EVENT_EN (i : Nat) : Nat := 0x580010 + 0x100 * i
@[simp] def SDI_FORMAT (i : Nat) : Nat := 0x580014 + 0x100 * i
@[simp] def SDI_PID_RX (i : Nat) : Nat := 0x580018 + 0x100 * i
@[simp] def SDI_PID_TX (i : Nat) : Nat := 0x58001C + 0x100 * i
@[simp] def SDI_PAIR (i : Nat) : Nat := 0x580020 + 0x100 * i
@[simp] def SDI_LAST_TSP_FRAME (i : Nat) : Nat := 0x580024 + 0x100 * i
@[simp] def SDI_CNT_CRC (i : Nat) : Nat := 0x580040 + 0x100 * i
@[simp] def SDI_CNT_LN_ERR (i : Nat) : Nat := 0x580044 + 0x100 * i
@[simp] def SDI_CNT_TRS_ERR (i : Nat) : Nat := 0x580048 + 0x100 * i
@[simp] def SDI_CNT_LOSS (i : Nat) : Nat := 0x58004C + 0x100 * i
@[simp] def SDI_CNT_PID_ERR (i : Nat) : Nat := 0x580050 + 0x100 * i
@[simp] def SDI_CNT_ANC_CSUM (i : Nat) : Nat := 0x580054 + 0x100 * i
@[simp] def SDI_CNT_ANC_DROP (i : Nat) : Nat := 0x580058 + 0x100 * i
@[simp] def SDI_CNT_TSP_ERR (i : Nat) : Nat := 0x58005C + 0x100 * i
@[simp] def SDI_CNT_DIGEST_ERR (i : Nat) : Nat := 0x580060 + 0x100 * i
@[simp] def SDI_CNT_PAIR_A (i : Nat) : Nat := 0x580064 + 0x100 * i
@[simp] def SDI_CNT_PAIR_B (i : Nat) : Nat := 0x580068 + 0x100 * i
@[simp] def SDI_CNT_PAIR_NONE (i : Nat) : Nat := 0x58006C + 0x100 * i
@[simp] def MAC_CFG (p : Nat) : Nat := macPage p + 0x0
@[simp] def MAC_STATUS (p : Nat) : Nat := macPage p + 0x4
@[simp] def MAC_EVENT (p : Nat) : Nat := macPage p + 0x8
@[simp] def MAC_EVENT_EN (p : Nat) : Nat := macPage p + 0xC
@[simp] def MAC_ADDR_LO (p : Nat) : Nat := macPage p + 0x10
@[simp] def MAC_ADDR_HI (p : Nat) : Nat := macPage p + 0x14
@[simp] def MAC_QUEUE (p : Nat) : Nat := macPage p + 0x18
@[simp] def MAC_WM (p : Nat) : Nat := macPage p + 0x1C
@[simp] def MAC_PAUSE_CFG (p : Nat) : Nat := macPage p + 0x20
@[simp] def MAC_PAUSE_STATUS (p : Nat) : Nat := macPage p + 0x24
@[simp] def MAC_IPV4_ADDR (p : Nat) : Nat := macPage p + 0x30
@[simp] def MAC_IPV4_MASK (p : Nat) : Nat := macPage p + 0x34
@[simp] def MAC_IPV4_GW (p : Nat) : Nat := macPage p + 0x38
@[simp] def MAC_IPV4_GROUP (p : Nat) : Nat := macPage p + 0x3C
@[simp] def MAC_CNT_RX_OK_LO (p : Nat) : Nat := macPage p + 0x80
@[simp] def MAC_CNT_RX_OK_HI (p : Nat) : Nat := macPage p + 0x84
@[simp] def MAC_CNT_RX_OCTETS_LO (p : Nat) : Nat := macPage p + 0x88
@[simp] def MAC_CNT_RX_OCTETS_HI (p : Nat) : Nat := macPage p + 0x8C
@[simp] def MAC_CNT_RX_MCAST_LO (p : Nat) : Nat := macPage p + 0x90
@[simp] def MAC_CNT_RX_MCAST_HI (p : Nat) : Nat := macPage p + 0x94
@[simp] def MAC_CNT_RX_BCAST_LO (p : Nat) : Nat := macPage p + 0x98
@[simp] def MAC_CNT_RX_BCAST_HI (p : Nat) : Nat := macPage p + 0x9C
@[simp] def MAC_CNT_RX_FCS_ERR_LO (p : Nat) : Nat := macPage p + 0xA0
@[simp] def MAC_CNT_RX_FCS_ERR_HI (p : Nat) : Nat := macPage p + 0xA4
@[simp] def MAC_CNT_RX_UNDERSIZE_LO (p : Nat) : Nat := macPage p + 0xA8
@[simp] def MAC_CNT_RX_UNDERSIZE_HI (p : Nat) : Nat := macPage p + 0xAC
@[simp] def MAC_CNT_RX_FRAGMENT_LO (p : Nat) : Nat := macPage p + 0xB0
@[simp] def MAC_CNT_RX_FRAGMENT_HI (p : Nat) : Nat := macPage p + 0xB4
@[simp] def MAC_CNT_RX_OVERSIZE_LO (p : Nat) : Nat := macPage p + 0xB8
@[simp] def MAC_CNT_RX_OVERSIZE_HI (p : Nat) : Nat := macPage p + 0xBC
@[simp] def MAC_CNT_RX_JABBER_LO (p : Nat) : Nat := macPage p + 0xC0
@[simp] def MAC_CNT_RX_JABBER_HI (p : Nat) : Nat := macPage p + 0xC4
@[simp] def MAC_CNT_RX_FILTERED_LO (p : Nat) : Nat := macPage p + 0xC8
@[simp] def MAC_CNT_RX_FILTERED_HI (p : Nat) : Nat := macPage p + 0xCC
@[simp] def MAC_CNT_RX_PAUSE_LO (p : Nat) : Nat := macPage p + 0xD0
@[simp] def MAC_CNT_RX_PAUSE_HI (p : Nat) : Nat := macPage p + 0xD4
@[simp] def MAC_CNT_RX_PAUSE_IGNORED_LO (p : Nat) : Nat := macPage p + 0xD8
@[simp] def MAC_CNT_RX_PAUSE_IGNORED_HI (p : Nat) : Nat := macPage p + 0xDC
@[simp] def MAC_CNT_RX_MACCTL_UNSUP_LO (p : Nat) : Nat := macPage p + 0xE0
@[simp] def MAC_CNT_RX_MACCTL_UNSUP_HI (p : Nat) : Nat := macPage p + 0xE4
@[simp] def MAC_CNT_RX_QUEUE_DROP_LO (p : Nat) : Nat := macPage p + 0xE8
@[simp] def MAC_CNT_RX_QUEUE_DROP_HI (p : Nat) : Nat := macPage p + 0xEC
@[simp] def MAC_CNT_TX_OK_LO (p : Nat) : Nat := macPage p + 0xF0
@[simp] def MAC_CNT_TX_OK_HI (p : Nat) : Nat := macPage p + 0xF4
@[simp] def MAC_CNT_TX_OCTETS_LO (p : Nat) : Nat := macPage p + 0xF8
@[simp] def MAC_CNT_TX_OCTETS_HI (p : Nat) : Nat := macPage p + 0xFC
@[simp] def MAC_CNT_TX_PAUSE_LO (p : Nat) : Nat := macPage p + 0x100
@[simp] def MAC_CNT_TX_PAUSE_HI (p : Nat) : Nat := macPage p + 0x104
@[simp] def MAC_CNT_TX_HELD_QUANTA_LO (p : Nat) : Nat := macPage p + 0x108
@[simp] def MAC_CNT_TX_HELD_QUANTA_HI (p : Nat) : Nat := macPage p + 0x10C
@[simp] def MAC_CNT_TX_DROP_LINK_LO (p : Nat) : Nat := macPage p + 0x110
@[simp] def MAC_CNT_TX_DROP_LINK_HI (p : Nat) : Nat := macPage p + 0x114
@[simp] def MAC_CNT_TX_DROP_OVERSIZE_LO (p : Nat) : Nat := macPage p + 0x118
@[simp] def MAC_CNT_TX_DROP_OVERSIZE_HI (p : Nat) : Nat := macPage p + 0x11C
@[simp] def MAC_CNT_FEC_CORR_LO (p : Nat) : Nat := macPage p + 0x120
@[simp] def MAC_CNT_FEC_CORR_HI (p : Nat) : Nat := macPage p + 0x124
@[simp] def MAC_CNT_FEC_UNCORR_LO (p : Nat) : Nat := macPage p + 0x128
@[simp] def MAC_CNT_FEC_UNCORR_HI (p : Nat) : Nat := macPage p + 0x12C
@[simp] def MAC_CNT_PCS_ERR_LO (p : Nat) : Nat := macPage p + 0x130
@[simp] def MAC_CNT_PCS_ERR_HI (p : Nat) : Nat := macPage p + 0x134
@[simp] def MAC_CNT_LINK_DOWN_LO (p : Nat) : Nat := macPage p + 0x138
@[simp] def MAC_CNT_LINK_DOWN_HI (p : Nat) : Nat := macPage p + 0x13C
@[simp] def RXC_CFG (i : Nat) : Nat := 0x140000 + 0x40 * i
@[simp] def RXC_PATHS (i : Nat) : Nat := 0x140004 + 0x40 * i
@[simp] def RXC_DST_A (i : Nat) : Nat := 0x140008 + 0x40 * i
@[simp] def RXC_DST_B (i : Nat) : Nat := 0x14000C + 0x40 * i
@[simp] def RXC_SRC_A (i : Nat) : Nat := 0x140010 + 0x40 * i
@[simp] def RXC_SRC_B (i : Nat) : Nat := 0x140014 + 0x40 * i
@[simp] def RXC_UDP (i : Nat) : Nat := 0x140018 + 0x40 * i
@[simp] def RXC_TARGET (i : Nat) : Nat := 0x14001C + 0x40 * i
@[simp] def RXC_OFFSET (i : Nat) : Nat := 0x140020 + 0x40 * i
@[simp] def RXC_STATUS (i : Nat) : Nat := 0x140024 + 0x40 * i
@[simp] def RXC_EVENT (i : Nat) : Nat := 0x140028 + 0x40 * i
@[simp] def RXC_SKEW (i : Nat) : Nat := 0x14002C + 0x40 * i
@[simp] def RXC_CNT_LOST (i : Nat) : Nat := 0x140030 + 0x40 * i
@[simp] def RXC_CNT_LATE (i : Nat) : Nat := 0x140034 + 0x40 * i
@[simp] def RXC_CNT_REORDER (i : Nat) : Nat := 0x140038 + 0x40 * i
@[simp] def RXC_CNT_BAD (i : Nat) : Nat := 0x14003C + 0x40 * i
@[simp] def TXC_CFG (i : Nat) : Nat := 0x1C0000 + 0x40 * i
@[simp] def TXC_PATHS (i : Nat) : Nat := 0x1C0004 + 0x40 * i
@[simp] def TXC_DST_A (i : Nat) : Nat := 0x1C0008 + 0x40 * i
@[simp] def TXC_DST_B (i : Nat) : Nat := 0x1C000C + 0x40 * i
@[simp] def TXC_UDP (i : Nat) : Nat := 0x1C0010 + 0x40 * i
@[simp] def TXC_SSRC (i : Nat) : Nat := 0x1C0014 + 0x40 * i
@[simp] def TXC_HDR (i : Nat) : Nat := 0x1C0018 + 0x40 * i
@[simp] def TXC_SOURCE (i : Nat) : Nat := 0x1C001C + 0x40 * i
@[simp] def TXC_PKT (i : Nat) : Nat := 0x1C0020 + 0x40 * i
@[simp] def TXC_TRO (i : Nat) : Nat := 0x1C0024 + 0x40 * i
@[simp] def TXC_STATUS (i : Nat) : Nat := 0x1C0028 + 0x40 * i
@[simp] def TXC_EVENT (i : Nat) : Nat := 0x1C002C + 0x40 * i
@[simp] def TXC_CNT_SENT_LO (i : Nat) : Nat := 0x1C0030 + 0x40 * i
@[simp] def TXC_CNT_SENT_HI (i : Nat) : Nat := 0x1C0034 + 0x40 * i
@[simp] def TXC_CNT_LATE (i : Nat) : Nat := 0x1C0038 + 0x40 * i
@[simp] def TXC_CNT_DROP (i : Nat) : Nat := 0x1C003C + 0x40 * i
@[simp] def MED_STATUS : Nat := 0x240000
@[simp] def MED_EVENT_EN : Nat := 0x240004
@[simp] def MED_RX_SUM (i : Nat) : Nat := 0x240100 + 0x4 * i
@[simp] def MED_TX_SUM (i : Nat) : Nat := 0x240500 + 0x4 * i
@[simp] def MED_PORT_IPV4 (i : Nat) : Nat := 0x241000 + 0x4 * i
@[simp] def MED_THROUGH_PAIR (i : Nat) : Nat := 0x242000 + 0x4 * i
@[simp] def PTP_STATUS : Nat := 0x060000
@[simp] def PTP_EVENT : Nat := 0x060004
@[simp] def PTP_EVENT_EN : Nat := 0x060008
@[simp] def PTP_CTRL : Nat := 0x06000C
@[simp] def PTP_CFG : Nat := 0x060010
@[simp] def PTP_STEP : Nat := 0x060014
@[simp] def PTP_TIME_FRAC : Nat := 0x060018
@[simp] def PTP_TIME_NS : Nat := 0x06001C
@[simp] def PTP_TIME_SEC_LO : Nat := 0x060020
@[simp] def PTP_TIME_SEC_HI : Nat := 0x060024
@[simp] def PTP_OFFSET : Nat := 0x060028
@[simp] def PTP_PATH_DELAY : Nat := 0x06002C
@[simp] def PTP_FREQ : Nat := 0x060030
@[simp] def PTP_REFUSED : Nat := 0x060034
@[simp] def PTP_GM_ID_LO : Nat := 0x060038
@[simp] def PTP_GM_ID_HI : Nat := 0x06003C
@[simp] def PTP_PPSIN_OFF : Nat := 0x060040
@[simp] def PTP_PPSOUT_CFG : Nat := 0x060044
@[simp] def PTP_DEFAULT_DS : Nat := 0x060048
@[simp] def PTP_CNT_REFUSED : Nat := 0x06004C
@[simp] def PTP_CNT_MASTER_CHANGE : Nat := 0x060050
@[simp] def PTP_CNT_ANNOUNCE_TIMEOUT : Nat := 0x060054
@[simp] def PTP_INTERVALS : Nat := 0x060058
@[simp] def PTP_PPSOUT_OFFSET : Nat := 0x06005C
@[simp] def PTPP_CFG (i : Nat) : Nat := 0x060100 + 0x20 * i
@[simp] def PTPP_STATE (i : Nat) : Nat := 0x060104 + 0x20 * i
@[simp] def PTPP_INGRESS_LAT (i : Nat) : Nat := 0x060108 + 0x20 * i
@[simp] def PTPP_EGRESS_LAT (i : Nat) : Nat := 0x06010C + 0x20 * i
@[simp] def PTPP_ASYM (i : Nat) : Nat := 0x060110 + 0x20 * i
@[simp] def PTPP_CNT_RX (i : Nat) : Nat := 0x060114 + 0x20 * i
@[simp] def PTPP_CNT_TX (i : Nat) : Nat := 0x060118 + 0x20 * i
@[simp] def PTPP_CNT_BAD (i : Nat) : Nat := 0x06011C + 0x20 * i
@[simp] def DRC_STATUS : Nat := 0x120000
@[simp] def DRC_EVENT : Nat := 0x120004
@[simp] def DRC_EVENT_EN : Nat := 0x120008
@[simp] def DRC_CTRL : Nat := 0x12000C
@[simp] def DRC_CFG : Nat := 0x120010
@[simp] def DRC_MAINT : Nat := 0x120014
@[simp] def DRC_TRAIN_STATUS : Nat := 0x120018
@[simp] def DRC_CNT_RT_LATE : Nat := 0x120020
@[simp] def DRC_CNT_PREEMPT : Nat := 0x120024
@[simp] def DRC_CNT_UNMAPPED : Nat := 0x120028
@[simp] def DRC_CNT_DOUBLED : Nat := 0x12002C
@[simp] def DRCC_STATUS (i : Nat) : Nat := 0x121000 + 0x80 * i
@[simp] def DRCC_IDENT (i : Nat) : Nat := 0x121004 + 0x80 * i
@[simp] def DRCC_CBT (i : Nat) : Nat := 0x121008 + 0x80 * i
@[simp] def DRCC_WLVL (i : Nat) : Nat := 0x12100C + 0x80 * i
@[simp] def DRCC_REYE (i j : Nat) : Nat := 0x121010 + 0x80 * i + 0x8 * j
@[simp] def DRCC_WEYE (i j : Nat) : Nat := 0x121014 + 0x80 * i + 0x8 * j
@[simp] def DRCC_CNT_PREEMPT (i : Nat) : Nat := 0x121030 + 0x80 * i
@[simp] def FLT_STATUS : Nat := 0x020000
@[simp] def FLT_EVENT : Nat := 0x020004
@[simp] def FLT_EVENT_EN : Nat := 0x020008
@[simp] def FLT_CFG : Nat := 0x02000C
@[simp] def FLT_REC (i : Nat) : Nat := 0x020010 + 0x4 * i
@[simp] def FLT_ACK : Nat := 0x020020
@[simp] def FLT_KICK : Nat := 0x020024
@[simp] def FLT_OPEN_C (i : Nat) : Nat := 0x020030 + 0x4 * i
@[simp] def FLT_LAST_SEVERE (i : Nat) : Nat := 0x020040 + 0x4 * i
@[simp] def FLT_CNT_C (i : Nat) : Nat := 0x020050 + 0x4 * i
@[simp] def FLT_CNT_LOST : Nat := 0x020064
@[simp] def FLT_RING_BASE_LO : Nat := 0x020068
@[simp] def FLT_RING_BASE_HI : Nat := 0x02006C
@[simp] def FLT_RING_WR : Nat := 0x020070
@[simp] def FLT_MNT_SEL : Nat := 0x020080
@[simp] def FLT_MNT_STATE : Nat := 0x020084
@[simp] def LIFE_STATUS : Nat := 0x600000
@[simp] def LIFE_EVENT : Nat := 0x600004
@[simp] def LIFE_EVENT_EN : Nat := 0x600008
@[simp] def LIFE_CTRL : Nat := 0x60000C
@[simp] def LIFE_PON_LO : Nat := 0x600010
@[simp] def LIFE_PON_HI : Nat := 0x600014
@[simp] def LIFE_BOOTS_LO : Nat := 0x600018
@[simp] def LIFE_BOOTS_HI : Nat := 0x60001C
@[simp] def LIFE_KEYSEC_LO : Nat := 0x600020
@[simp] def LIFE_KEYSEC_HI : Nat := 0x600024
@[simp] def LIFE_ENTRIES_LO : Nat := 0x600028
@[simp] def LIFE_ENTRIES_HI : Nat := 0x60002C
@[simp] def LIFE_TILEFAIL_LO : Nat := 0x600030
@[simp] def LIFE_TILEFAIL_HI : Nat := 0x600034
@[simp] def LIFE_TJSUM_LO : Nat := 0x600038
@[simp] def LIFE_TJSUM_HI : Nat := 0x60003C
@[simp] def LIFE_CAL_LO : Nat := 0x600040
@[simp] def LIFE_CAL_HI : Nat := 0x600044
@[simp] def LIFE_TJBIN_LO (i : Nat) : Nat := 0x600080 + 0x8 * i
@[simp] def LIFE_TJBIN_HI (i : Nat) : Nat := 0x600084 + 0x8 * i
@[simp] def LIFE_REC_SEL : Nat := 0x600100
@[simp] def LIFE_REC (i : Nat) : Nat := 0x600110 + 0x4 * i
@[simp] def LIFE_LANEERR_LO (i : Nat) : Nat := 0x601000 + 0x8 * i
@[simp] def LIFE_LANEERR_HI (i : Nat) : Nat := 0x601004 + 0x8 * i
@[simp] def LIFE_ERASE (i : Nat) : Nat := 0x604000 + 0x4 * i
@[simp] def CPT_STATUS : Nat := 0x110000
@[simp] def CPT_EVENT : Nat := 0x110004
@[simp] def CPT_EVENT_EN : Nat := 0x110008
@[simp] def CPT_PCI_ID : Nat := 0x11000C
@[simp] def CPT_MGMT_BASE_LO : Nat := 0x110010
@[simp] def CPT_MGMT_BASE_HI : Nat := 0x110014
@[simp] def CPT_MGMT_SIZE : Nat := 0x110018
@[simp] def CPT_MBX_IN_CTRL : Nat := 0x110020
@[simp] def CPT_MBX_OUT_STATUS : Nat := 0x110024
@[simp] def CPT_CNT_BAD_ACCESS : Nat := 0x110030
@[simp] def CPT_CNT_MBX_OVERRUN : Nat := 0x110034
@[simp] def CPT_CNT_MBX_REPLY_DROP : Nat := 0x110038
@[simp] def CPT_CNT_BAR2_OUTSIDE : Nat := 0x11003C
@[simp] def CPT_CNT_CPL_TIMEOUT : Nat := 0x110040
@[simp] def CPT_CNT_LINK_DOWN : Nat := 0x110044
@[simp] def CPT_OBW_CTRL : Nat := 0x110080
@[simp] def CPT_OBW_BASE_LO (i : Nat) : Nat := 0x1100C0 + 0x8 * i
@[simp] def CPT_OBW_BASE_HI (i : Nat) : Nat := 0x1100C4 + 0x8 * i
@[simp] def CPT_PORT_SUM (i : Nat) : Nat := 0x110100 + 0x4 * i
@[simp] def CPT_CMP_SUM_LO : Nat := 0x110180
@[simp] def CPT_CMP_SUM_HI : Nat := 0x110184
@[simp] def CPT_PORT_SUM_MGT : Nat := 0x110188
@[simp] def DMA_CTRL : Nat := 0x100000
@[simp] def DMA_STATUS : Nat := 0x100004
@[simp] def DMA_EVENT : Nat := 0x100008
@[simp] def DMA_EVENT_EN : Nat := 0x10000C
@[simp] def DMA_ERR_ADDR_LO : Nat := 0x100010
@[simp] def DMA_ERR_ADDR_HI : Nat := 0x100014
@[simp] def DMA_CH_EVENT : Nat := 0x100018
@[simp] def DMA_CH_EVENT_EN : Nat := 0x10001C
@[simp] def DMA_REQ_LO : Nat := 0x100020
@[simp] def DMA_REQ_HI : Nat := 0x100024
@[simp] def DMA_CAP (i : Nat) : Nat := 0x100040 + 0x4 * i
@[simp] def DMA_CAP_DATA (i : Nat) : Nat := 0x100050 + 0x4 * i
@[simp] def DMACH_CTRL (i : Nat) : Nat := 0x101000 + 0x40 * i
@[simp] def DMACH_STATUS (i : Nat) : Nat := 0x101004 + 0x40 * i
@[simp] def DMACH_DESC_LO (i : Nat) : Nat := 0x101008 + 0x40 * i
@[simp] def DMACH_DESC_HI (i : Nat) : Nat := 0x10100C + 0x40 * i
@[simp] def DMACH_REMAIN (i : Nat) : Nat := 0x101010 + 0x40 * i
@[simp] def DMACH_CNT_DESC (i : Nat) : Nat := 0x101014 + 0x40 * i
@[simp] def TOP_PWR_STATUS : Nat := 0x000100
@[simp] def TOP_PWR_STICKY : Nat := 0x000104
@[simp] def TOP_RESET_CAUSE : Nat := 0x000108
@[simp] def TOP_AVS_CFG : Nat := 0x00010C
@[simp] def TOP_AVS_STATUS : Nat := 0x000110
@[simp] def TOP_CORE_IOUT : Nat := 0x000114
@[simp] def TOP_TEMP (i : Nat) : Nat := 0x000140 + 0x4 * i
@[simp] def MSIX_ADDR_LO (i : Nat) : Nat := 0x111000 + 0x10 * i
@[simp] def MSIX_ADDR_HI (i : Nat) : Nat := 0x111004 + 0x10 * i
@[simp] def MSIX_DATA (i : Nat) : Nat := 0x111008 + 0x10 * i
@[simp] def MSIX_CTRL (i : Nat) : Nat := 0x11100C + 0x10 * i
@[simp] def MSIX_PENDING (i : Nat) : Nat := 0x111800 + 0x4 * i

end Reg

end Sys2Proof.Machine
end

