-- ==== Sys2Proof/Config.lean ====
section
/-! DEFINITION. What the model fixes where the spec leaves a value to the part or to the card, and the free values.
Each constant names its entry of the assumption log. -/
namespace Sys2Proof.Config

/-- A value the spec leaves open, where the machine goes on. It has no body: a statement about it holds for every
value. A meaning takes the n-th one, n the model's counter `freeCtr` (log 2). -/
opaque freeNat : Nat → Nat

/-- A sample of the colour bars and the ramp, sources 4,033–4,035 (R96): source, plane, x, y, in 12 bits. R96 names the patterns and
gives no samples (log 32). -/
opaque pattern : Nat → Nat → Nat → Nat → Nat

/-- A bit of the professional channel status for 48 kHz linear PCM that samples without AES3 status carry (R187). The spec does not spell that block out
(log 162). -/
opaque pcmStatusBit : Nat → Bool

/-- The ST 352 payload ID of a format on a link, byte 1 highest (R321): the values are those of the mapping standards, which the spec does not repeat
(log 165). -/
opaque payloadId : VFormat → Nat → Nat

/-- Where self placement puts what a placement table shows: a function of the configuration section, the map taken at JOIN and the history since,
and of the table and the entry (R26). The spec gives no more of that function (log 34). -/
opaque placement : List Byte → List (Nat × Nat) → List HistEvent → Nat → Nat → Nat

/-- The level the pin CHGn is driven to while the key gate is open, at a value of the counter of free values. The spec names these pins and their gate only (R208,
log 170). -/
opaque chgLevel : Nat → Nat → Bool

/-- The Biestorn public key, held in mask ROM (R40): 64 bytes X and Y. The spec does not give it. -/
opaque biestornKey : List Byte

/-- What an erased or never written byte of the flash reads as (R31: "erased (0xFF)"). -/
def erasedByte : Byte := 0xFF

/-- What a byte of DRAM or TCM that nothing has written since reset reads as. DESIGN CHOICE (log 8): the spec gives
no contents. -/
def blankByte : Byte := 0

/-- The confirm value of the command registers (R54, R70, R247, R265, R285, R382, R402, R426). -/
def confirm : Nat := 0x5A48

end Sys2Proof.Config
end

