-- ==== Sys2Proof/Machine/Tab.lean ====
section
/-! DEFINITION. Operations on sparse tables: one canonical form, keys strictly rising and no value equal to the
default `d`. -/
namespace Sys2Proof

/-- The value listed for a key. -/
def Tab.find? {β : Type} : Tab β → Nat → Option β
  | [], _ => none
  | (k, v) :: t, i => if k = i then some v else Tab.find? t i

/-- The value of a key: the listed one, else the default. -/
def Tab.get {β : Type} (d : β) (t : Tab β) (i : Nat) : β := (Tab.find? t i).getD d

/-- Remove every entry of a key. -/
def Tab.erase {β : Type} : Tab β → Nat → Tab β
  | [], _ => []
  | (k, v) :: t, i => if k = i then Tab.erase t i else (k, v) :: Tab.erase t i

/-- Insert an entry at its place in the order of keys. -/
def Tab.insert {β : Type} : Tab β → Nat → β → Tab β
  | [], i, v => [(i, v)]
  | (k, w) :: t, i, v =>
    if i < k then (i, v) :: (k, w) :: t
    else if i = k then (k, v) :: t
    else (k, w) :: Tab.insert t i v

/-- Write a key: the default's own value removes the entry. -/
def Tab.put {β : Type} [DecidableEq β] (d : β) (t : Tab β) (i : Nat) (v : β) : Tab β :=
  if v = d then Tab.erase t i else Tab.insert t i v

/-- The canonical form, against a default that may depend on the key. -/
def Tab.wfFrom {β : Type} [DecidableEq β] (d : Nat → β) : Nat → Tab β → Bool
  | _, [] => true
  | lo, (k, v) :: t => decide (lo ≤ k) && decide (v ≠ d k) && Tab.wfFrom d (k + 1) t

/-- The canonical form of a table with default `d`. -/
def Tab.wf {β : Type} [DecidableEq β] (d : Nat → β) (t : Tab β) : Bool := Tab.wfFrom d 0 t

/-- The bytes at addresses a, a + 1, … a + n − 1. -/
def Tab.bytes (d : Byte) (t : Tab Byte) (a : Nat) : Nat → List Byte
  | 0 => []
  | n + 1 => Tab.get d t a :: Tab.bytes d t (a + 1) n

/-- Write a list of bytes from address a upward. -/
def Tab.putBytes (d : Byte) (t : Tab Byte) (a : Nat) : List Byte → Tab Byte
  | [] => t
  | b :: bs => Tab.putBytes d (Tab.put d t a b) (a + 1) bs

end Sys2Proof
end

