-- ==== Sys2Proof/Machine/State.lean ====
section
/-! DEFINITION. The state of the device as plain data: every piece of state the spec gives it, the queue of waiting
commands, and the state right after reset. -/
namespace Sys2Proof.Machine

/-- Why the machine stops. -/
inductive Fault where
  /-- A bus write outside the 16 MiB register space is a decode error for its master (R437, R506). Raised by
  REGISTER_WRITE. Safe: the spec gives the master an error and the device no effect. -/
  | decodeError (off : Nat)
  deriving DecidableEq, Repr

/-- Why the model has no meaning for a command. -/
inductive Refusal where
  /-- A command not modelled. Raised by an arm of exec. Safe: nothing is claimed of it. -/
  | notModelled (mnemonic : String)
  deriving DecidableEq, Repr

/-- A variant of the part (R1). -/
inductive Variant where
  | f
  | r
  | h
  deriving DecidableEq, Repr

/-- What is fixed in one part: its variant (R1), stepping index and UID (R70, R35), its PCIe vendor ID (R427). -/
structure Ident where
  variant : Variant
  stepping : Nat
  uid : Nat
  vendorId : Nat
  deriving DecidableEq, Repr

/-- The six major modes (R55). -/
inductive Mode where
  | boot
  | train
  | join
  | service
  | safe
  | test
  deriving DecidableEq, Repr

/-- The twin role (R70, R204). -/
inductive Role where
  | solo
  | keyholder
  | follower
  | alongside
  deriving DecidableEq, Repr

/-- The levels of the pins a step reads or drives; RESET_N, PWRGOOD (R464), KEY_IN, KEY_OUT, ALIVE, ALIVE_PEER
(R204, R410), LINTEL_ARM (R168), the strap word
latched at the last internal reset (R483). -/
structure Pins where
  pwrgood : Bool
  resetN : Bool
  keyIn : Bool
  keyOut : Bool
  alive : Bool
  alivePeer : Bool
  lintelArm : Bool
  straps : Nat
  deriving DecidableEq, Repr

/-- What left the device, in order (the model's own log of effects outside it). -/
inductive Output where
  /-- An MSI-X message of a vector: address, data (R435). -/
  | msix (vector addr data : Nat)
  /-- A Fratin reply: where it goes and its bytes (R97, R103). -/
  | fratin (path : MsgPath) (ip udp : Nat) (bytes : List Byte)
  /-- A party-wall message (R218). -/
  | wall (msg : WallMsg)
  /-- A register word returned on the bus or on SPI (R430, R436). -/
  | read (off value : Nat)
  /-- Bytes returned on the bus: BAR2 or a window (R431). -/
  | readBytes (addr : Nat) (bytes : List Byte)
  /-- A write to host memory at a host address (R428, R446). -/
  | hostWrite (addr : Nat) (bytes : List Byte)
  /-- A byte of the SPI STATUS phase (R436). -/
  | spiStatus (value : Nat)
  /-- A PMBus write: command code and value (R462). -/
  | pmbus (command value : Nat)
  /-- A frame sent from a MAC port (R330, R333, R377). -/
  | frame (port : Nat) (kind : Nat) (bytes : List Byte)
  /-- A pulse on a pin: FRAME_OUT of a group (0–15) or PPS_OUT (16), its rise in device time and its width, in ns
  (R264, R379). -/
  | pulse (pin rise width : Nat)
  /-- A PTP message sent from a PTP port (R372, R369): message type, the sequence and the time it carries. -/
  | ptp (port kind time : Nat)
  /-- A video line slot or frame chosen for a destination (R77): destination, source read, frame index. -/
  | video (dst src widx : Nat)
  /-- Decoded samples of a slot (R138). -/
  | samples (stream tile : Nat) (values : List Nat)
  /-- A block of output samples of an audio destination (R188). -/
  | audio (dst : Nat) (values : List Int)
  /-- A line of an SDI output (R319, R320): its lead lane, its number, when its EAV crosses the ball in device time, the words of each link. -/
  | line (lane number time : Nat) (links : List (List Nat))
  /-- A frame of a serial audio port (R192, R194): when it starts in device time, its slot words, the levels of APp_FS and APp_DO in each BCLK period. -/
  | tdm (port start : Nat) (words : List Nat) (levels : List (Bool × Bool))
  deriving DecidableEq, Repr

/-- The state of an image slot (R32). -/
inductive SlotState where
  | empty
  | writing
  | written
  | good
  | failed
  deriving DecidableEq, Repr

/-- The content of a boot directory copy (R31). -/
structure Directory where
  seq : Nat
  next : Slot
  stateA : SlotState
  stateB : SlotState
  lenA : Nat
  lenB : Nat
  deriving DecidableEq, Repr

/-- Where the choice and checking of an image stands (R44, R45). -/
inductive BootStage where
  /-- Not in the boot sequence. -/
  | idle
  /-- The directory copies are being read (R33). -/
  | directory
  /-- The image header is being read. -/
  | header
  /-- The firmware header is being read. -/
  | fwHeader
  /-- The firmware section is being loaded. -/
  | fwSection
  /-- The configuration records stream. -/
  | records
  /-- The configuration section has been read; key and signature are checked. -/
  | signature
  /-- The records are applied and the content checked. -/
  | apply
  /-- The synthesis loops lock (R274). -/
  | locking
  /-- The image is accepted; TRAIN or TEST runs. -/
  | accepted
  /-- A refused slot is reaped before the other is tried (R45). -/
  | fallback
  deriving DecidableEq, Repr

/-- Where a reply goes (R101): path, address, port, key, the message it answers. -/
structure ReplyTo where
  path : MsgPath
  ip : Nat
  udp : Nat
  key : Nat
  sender : Nat
  seq : Nat
  type : Nat
  own : Bool
  deriving DecidableEq, Repr

/-- A DATA chunk that waits for the flash (R48, R49): whom to answer, offset, data, whether its CRC-32 matches. -/
structure QueuedChunk where
  reply : ReplyTo
  offset : Nat
  data : List Byte
  crcOk : Bool
  deriving DecidableEq, Repr

/-- An open write session (R48): its path, slot, ID, total length, whole-image CRC, next expected offset, when it was opened, the time of
its last chunk, and the DATA chunks queued on the flash resource, oldest first. -/
structure WriteSession where
  path : MsgPath
  slot : Slot
  sid : Nat
  total : Nat
  crc : Nat
  expected : Nat
  opened : Nat
  lastChunk : Nat
  chunks : List QueuedChunk
  deriving DecidableEq, Repr

/-- Boot and flash-update state (R31–R54). `dir` is the directory in use, `dirDue` with every change that is due,
`dirQueued` counts directory writes queued, `locks` the synthesis loops sown and not yet locked with the instants of their start (R274), `fieldsUsed` is FIELDS_REQ of the running
image, `fuse` is the customer key hash if burned, `released` the instant RESET_N was
released. -/
structure BootState where
  stage : BootStage
  slot : Slot
  otherTried : Bool
  recOff : Nat
  locks : Tab Nat
  dir : Directory
  dirDue : Directory
  dirQueued : Nat
  dirCopy : Nat
  defaulted : Bool
  booted : Option Slot
  firstRefusal : Nat
  romFallback : Bool
  session : Option WriteSession
  fuse : Option (List Byte)
  released : Nat
  fieldsUsed : Nat
  deriving DecidableEq, Repr

/-- A load block of the sowing sequence (R457). -/
inductive BlockId where
  | loop (i : Nat)
  | chgrp (g : Nat)
  | furrow (f : Nat)
  | dedicated (d : Nat)
  | core
  | fieldPorts (f : Nat)
  | frameEngines (g : Nat)
  | compositors (k : Nat)
  | audio
  | tdm (p : Nat)
  deriving DecidableEq, Repr

/-- Why reaping runs (R458, R45). -/
inductive ReapCause where
  | safe
  | pin
  | restart
  | powerFail
  | fallback
  deriving DecidableEq, Repr

/-- Power sequencing (R456–R467): the highest stage sown; the blocks of the running stage still to sow; the blocks sown,
newest first; reaping and its cause; the instant each rail is free again; the queued furrow moves (unit 0–63 a furrow, 64–73 a
dedicated lane); the last move; the last AVS command; whether the internal reset holds; whether a restart
waits for reaping into SAFE (R58), and when the reaping under way began; whether the final checkpoint is still to be written (R458). -/
structure PowerState where
  stage : Nat
  sowing : Bool
  toSow : List BlockId
  sown : List BlockId
  reaping : Option ReapCause
  reapAt : Nat
  railFree : Tab Nat
  moves : List Nat
  lastMove : Nat
  lastAvs : Nat
  avsTarget : Nat
  inReset : Bool
  restartDue : Bool
  finalCheckpoint : Bool
  tails : List Nat
  deriving DecidableEq, Repr

/-- A fault message on its way to the collector (R403, R406). -/
structure FaultMsg where
  time : Nat
  source : Nat
  kind : Nat
  addr : Nat
  cls : Nat
  deriving DecidableEq, Repr

/-- A fault record (R403). `time` is device time modulo 2^48. -/
structure FaultRec where
  time : Nat
  source : Nat
  cls : Nat
  esc : Bool
  addr : Nat
  count : Nat
  kind : Nat
  deriving DecidableEq, Repr

/-- A record that holds an open bit (R408): unit, class after escalation, kind, source, ADDR, acceptance instant. -/
structure OpenRec where
  unit : Nat
  cls : Nat
  kind : Nat
  source : Nat
  addr : Nat
  since : Nat
  deriving DecidableEq, Repr

/-- The excursion counters of one thermal diode (R413). -/
structure Diode where
  high : Nat
  trip : Nat
  raised : Bool
  temp : Int
  deriving DecidableEq, Repr

/-- The fault collector (R403–R424). `closed`: the records acknowledged at one instant, with that instant and whether their hold expired (R422). -/
structure FaultState where
  inbox : List FaultMsg
  fifo : List FaultRec
  opened : List OpenRec
  severeLatched : Bool
  lastKick : Nat
  armed : Bool
  aliveRuns : Bool
  aliveEdge : Nat
  trips : Bool
  diodes : Tab Diode
  overflow : Bool
  bootCounts : List Nat
  bootLost : Nat
  toAppend : List FaultRec
  closed : List (Nat × Bool × OpenRec)
  deriving DecidableEq, Repr

/-- One admitted or waiting maintenance activity (R415): its code, its lane, channel, lane page or unit, and the order it arrived in. -/
structure Activity where
  code : Nat
  unit : Nat
  deriving DecidableEq, Repr

/-- One resource of the maintenance scheduler (R416): what runs, waits and was refused; when the running one started on its own request; the instant of
the last request that waits, and how many at the end of the queue came in it. -/
structure MntRes where
  running : Option Activity
  queue : List Activity
  refused : Nat
  began : Option Nat
  askedAt : Nat
  asked : Nat
  deriving DecidableEq, Repr

/-- What stood right before an entry to SERVICE from TRAIN at an instant, which a C4 record of that instant takes back (R58): the role, whether SERVICE or
JOIN had been entered, BOOT_TIME, the directory due, what was owed to it, the flash resource. -/
structure EntryMark where
  at_ : Nat
  role : Role
  entered : Bool
  bootTime : Nat
  due : Directory
  defaulted : Bool
  queued : Nat
  flash : MntRes
  deriving DecidableEq, Repr

/-- Mode, role and the settings that stand beside them in TOP_MODE (R62, R70). `entered` is set at the first entry to
SERVICE or JOIN of this run; `mark` what a C4 record of the instant of entry takes back. -/
structure Ctl where
  mode : Mode
  role : Role
  modeSince : Nat
  paired : Bool
  selfPlaced : Bool
  immediate : Bool
  joinAbandoned : Bool
  entered : Bool
  mark : Option EntryMark
  deriving DecidableEq, Repr

/-- Self-test progress (R414): golden-tile misses in a row per compositor. -/
structure SelfTest where
  misses : Tab Nat
  deriving DecidableEq, Repr

/-- A severe record of the journal (R417): calendar seconds and the record. -/
structure SevereRec where
  seconds : Nat
  record : FaultRec
  deriving DecidableEq, Repr

/-- The life log (R417–R421): the next entry sequence, the sector now written and the next byte in it, the severe records held
(newest first), the calendar last written (seconds, ns) and when, the totals that no register shows, the last
checkpoint and last event checkpoint, whether an event checkpoint is due, the writes queued, oldest first (none = a
checkpoint), how many of them the running write carries, the last power-on second counted, and whether a checkpoint follows the severe records that
firmware has yet to append (R422). -/
structure LifeState where
  valid : Bool
  formatted : Bool
  entrySeq : Nat
  sector : Nat
  sectorSeq : Nat
  writeAt : Nat
  severe : List SevereRec
  calSec : Nat
  calNs : Nat
  calAt : Nat
  salvos : Nat
  retired : Nat
  c3 : Nat
  c4 : Nat
  lastCheckpoint : Nat
  lastEvent : Option Nat
  eventDue : Bool
  queued : List (Option FaultRec)
  writing : Nat
  lastSecond : Nat
  afterSevere : Bool
  deriving DecidableEq, Repr

/-- PCIe configuration of the card port (R427–R429, R435). -/
structure PcieState where
  linkUp : Bool
  speed : Nat
  width : Nat
  bar0 : Nat
  bar2 : Nat
  busMaster : Bool
  msixEn : Bool
  msixMask : Bool
  d3hot : Bool
  deriving DecidableEq, Repr

/-- Card port buffers: the inbound message buffer, the length that GO gave its message, the reply presented, the replies queued (R432, R433), the SPI
STATUS bits (R436), reads outstanding towards the host with their issue instants (R428). -/
structure CardState where
  mbxIn : Tab Byte
  mbxLen : Nat
  mbxOut : List Byte
  mbxQueue : List (List Byte)
  spiLate : Bool
  spiPartial : Bool
  outstanding : Tab Nat
  deriving DecidableEq, Repr

/-- A DMA channel's state (R448). -/
inductive ChanState where
  | idle
  | run
  | idleAtEnd
  | stopped
  | halted
  deriving DecidableEq, Repr

/-- What a running channel waits for. -/
inductive ChanPhase where
  /-- The read of the descriptor at DESC; `reread` is the re-read of R448. -/
  | fetch (reread : Bool)
  /-- A request of the descriptor's line (R447). -/
  | request
  /-- A burst's read and write (R446). -/
  | burst
  /-- The completion of the descriptor after its last write. -/
  | complete
  deriving DecidableEq, Repr

/-- A DMA channel (R445–R449): the descriptor in progress, the addresses and bytes reached. -/
structure Chan where
  st : ChanState
  prev : ChanState
  failed : Bool
  phase : ChanPhase
  kickPending : Bool
  src : Nat
  dst : Nat
  srcAt : Nat
  dstAt : Nat
  remain : Nat
  control : Nat
  link : Nat
  err : Nat
  deriving DecidableEq, Repr

/-- The DMA engine: channels, request lines asserted with bursts ready (R447), capture FIFOs (R452), peak meters. -/
structure DmaState where
  chans : Tab Chan
  requests : Tab Nat
  captures : Tab (List Nat)
  meters : Tab Nat
  thumbOut : Tab (List Byte)
  deriving DecidableEq, Repr

/-- The party-wall mailbox (R439): its buffers' bytes, the buffers handed and full, the handed order, the internal
queue of received fragments. -/
structure PwMbx where
  bytes : Tab Byte
  held : List Nat
  full : List Nat
  backlog : List (List Byte)
  deriving DecidableEq, Repr

/-- A layer's pipeline: indices of decode LUT, encode LUT, entry, gamut and exit matrices, curve; the weights. -/
structure Tone where
  dec : Nat
  enc : Nat
  entry : Nat
  gamut : Nat
  exit_ : Nat
  curve : Nat
  w : List Int
  deriving DecidableEq, Repr

/-- A picture a layer reads: tiles of a stored format (width, height, tiles across; black where none is listed), rows as they are carried in a
sampling, the rows of a line-fed source as the line exchange brings them, an internal generator (of two fields, or not), black. -/
inductive Pic where
  | tiles (stored w h across : Nat) (t : Tab (List (List Nat)))
  | rows (sampling w h : Nat) (t : Tab (List Nat))
  | fed (src sampling w h : Nat)
  | gen (src w h : Nat) (fields : Bool)
  | black (w h : Nat)
  deriving DecidableEq, Repr

/-- A layer as it is painted: a video layer with its crop, output size and pipeline; graphics of content size, straight or premultiplied, of
8 or 10 bits; black over an area. -/
inductive Paint where
  | video (p : Pic) (cx cy cw ch ow oh : Nat) (tone : Option Tone)
  | graphics (p : Pic) (w h : Nat) (premult : Bool)
  | solid (w h : Nat)
  deriving DecidableEq, Repr

/-- A layer: what it paints, its position and its global alpha. -/
structure Layer where
  paint : Paint
  x : Int
  y : Int
  alpha : Nat
  deriving DecidableEq, Repr

/-- A shown lintel message as it is drawn: text, or a bitmap with its picture. -/
inductive LintelPaint where
  | text (m : LintelText)
  | bitmap (l : Layer)
  deriving DecidableEq, Repr

/-- A compositor beside its page (R147–R164): its frames since the last rebuild started (4: none within four frames); a change of the
static set gathered and not yet served; whether a rebuild is being written and whether the new buffer waits for the next headland; whether the
cache holds a static set, and in which of the two buffers; the layers flattened in the buffer on air and in the one being built; golden tiles missed in a
row; the video source each layer showed in its last frame;
the write index of each layer's last good frame, and the write index a holding layer pins; the verdicts held (layer: frame, not
ready); the crop (x, width) asked for of each layer whose crop is clamped (R155); the frame on its output with its layers and lintel messages. -/
structure CmpRun where
  since : Nat
  change : Bool
  building : Bool
  fresh : Bool
  valid : Bool
  buffer : Nat
  airSet : List Nat
  buildSet : List Nat
  misses : Nat
  shown : Tab Nat
  good : Tab Nat
  pinned : Tab Nat
  verdicts : Tab (Nat × Bool)
  asked : Tab (Nat × Nat)
  frame : Option Nat
  layers : List Layer
  lintel : List LintelPaint
  deriving DecidableEq, Repr

/-- A change of what the lintel layer shows that waits for a headland of a group (R169): group, frame, the mask of this device's own pin, its MSG_MASK,
the content of the slots. -/
structure LintelDue where
  tg : Nat
  frame : Nat
  pin : Nat
  msg : Nat
  slots : Tab LintelMsg
  deriving DecidableEq, Repr

/-- The lintel layer (R166–R170): MSG_MASK; the qualified level of LINTEL_ARM, its last edge, and whether JOIN latched a change of
it that completion is to show (R61); the keyholder's decided mask; the content
of slots loaded by message; the changes that wait for headlands; the mask, this device's own pin mask and the slots on air in each group; the decided masks
held (group, headland, mask); refused attempts since boot (R172). -/
structure LintelState where
  msgMask : Nat
  pinLevel : Bool
  pinEdge : Nat
  latched : Bool
  decided : Nat
  loaded : Tab LintelMsg
  due : List LintelDue
  airMask : Tab Nat
  airPin : Tab Nat
  airSlots : Tab (Tab LintelMsg)
  held : List (Nat × Nat × Nat)
  refused : Nat
  deriving DecidableEq, Repr

/-- The key logic beside the pins (R207–R213): the last KEY_IN edge; the last ALIVE_PEER edge; the instant of a claim
that awaits its re-sample; the reason and instant of the device's own last give-up; the instant of the last GIVE_UP of the
peer; the instant at which the last HEARTBEAT that shows the peer without key or claim came; whether KEY_CONFLICT was raised for the
present conflict; the instant both KEY pins rose together; whether the closing claim of TRAIN runs (R207); whether ALIVE_PEER showed no edge
for 3 ms, and whether KEY_IN was low for 3 ms with the wall down (R210); whether any ALIVE_PEER edge came since reset. -/
structure KeyState where
  keyInEdge : Nat
  aliveEdge : Nat
  claimAt : Option Nat
  gaveUp : Option (Nat × Nat)
  peerGaveUp : Option Nat
  peerIdle : Option Nat
  conflictAt : Option Nat
  closing : Bool
  peerDead : Bool
  lowLong : Bool
  aliveSeen : Bool
  deriving DecidableEq, Repr

/-- A wall block that the peer has not acknowledged (R217): its BSEQ, when it was last sent, its message bytes, the party-wall mailbox buffer it came
from. -/
structure SentBlock where
  bseq : Nat
  at_ : Nat
  bytes : List Byte
  buffer : Option Nat
  deriving DecidableEq, Repr

/-- A fragment that waits for a free wall block (R218): its priority, the message it ends, its bytes, its mailbox buffer. -/
structure WallFrag where
  priority : Nat
  msg : Option WallMsg
  bytes : List Byte
  buffer : Option Nat
  deriving DecidableEq, Repr

/-- The party wall (R214–R221): up and since when; the last valid HEARTBEAT and its arrival; the count of HEARTBEATs
sent; transmit and receive BSEQ; the unacknowledged blocks, oldest first; whether later blocks are
discarded after a RESEND; lanes with block lock; fragments that wait for a free wall block, in order of priority; the next MSG_ID; which of the bonded
lanes takes the next block, and from which slot on; the blocks sent (lane, slot, block), in order. Of the receiver: which of the bonded lanes gives the next
block, the blocks of each lane not taken yet, the wall block under way (BSEQ, ACK, bytes so far), whether stray blocks have been counted, and the messages whose
last fragment has not come, by MSG_ID. -/
structure WallState where
  up : Bool
  upAt : Nat
  lastHb : Nat
  peer : Option Heartbeat
  hbCount : Nat
  txBseq : Nat
  rxNext : Nat
  unacked : List SentBlock
  discarding : Bool
  locked : Nat
  queue : List WallFrag
  msgId : Nat
  txPos : Nat
  txSlot : Nat
  line : List (Nat × Nat × Block66)
  rxPos : Nat
  rxFifo : Tab (List Block66)
  rxOpen : Option (Nat × Nat × List Byte)
  rxStray : Bool
  rxParts : Tab (List Byte)
  deriving DecidableEq, Repr

/-- A set of digests of one group and frame (R235) and when it was sent or held. -/
structure DigestSet where
  tg : Nat
  frame : Nat
  recs : List DigestRec
  time : Nat
  deriving DecidableEq, Repr

/-- Arbitration (R236): running since; results held; the failing units; the frame's low bits; the last run; the score cap; the
inputs of both sides. -/
structure ArbState where
  running : Option Nat
  own : Option Nat
  peer : Option Nat
  event : Nat
  last : Option Nat
  capped : Bool
  ownInputs : List InputRec
  peerInputs : Option (List InputRec)
  deriving DecidableEq, Repr

/-- A handover (R241): the status HANDOVER shows; phase 0 none, 1 proposed, 2 armed; whether this device is the new one; group, frame, when proposed. -/
structure HandoverState where
  status : Nat
  phase : Nat
  incoming : Bool
  tg : Nat
  frame : Nat
  proposedAt : Nat
  deriving DecidableEq, Repr

/-- JOIN or resync (R237–R239, R243): active; the request's instant; T_J; the sections received; the snapshot applied;
per stored stream the frames still to complete; the compositors still to rebuild; orders and decisions queued. -/
structure JoinState where
  active : Bool
  resync : Bool
  requestedAt : Nat
  attempts : Nat
  tJ : Nat
  received : List Section
  applied : Bool
  toFill : Tab Nat
  toRebuild : List Nat
  deriving DecidableEq, Repr

/-- Twin operation (chapter 8). `orders` and `decisions` are those held; `lit` is the mask of groups whose outputs have lit
since the outputs were last dark; `c2Times` the units and instants of C2 records (R244); `failed` the units with SELFTEST_FAIL;
`sent` the orders sent that
may not be wholly in effect (R237); `lateSpans` the frames from–to of each group whose digests carry LOCAL_CAUSE for a late order (R227); `causes` what took
a local or fallback path, and `unfilled` the frames that delay lines still lack after an abandoned JOIN (R58) (a stream or video source, 8,192 + 16c + n for a compositor's layer, 16,384 + an audio input) and when (R235);
`lowSince` since when the yield condition of R245 holds. -/
structure TwinState where
  key : KeyState
  wall : WallState
  orders : List Order
  decisions : List DecisionRec
  ownDigests : List DigestSet
  peerDigests : List DigestSet
  divergentAt : Option Nat
  following : Bool
  arb : ArbState
  ho : HandoverState
  join : JoinState
  resyncPending : Bool
  lit : Nat
  c2Times : List (Nat × Nat)
  failed : Nat
  lowSince : Option Nat
  lastHealth : Nat
  sent : List Order
  lateSpans : List (Nat × Nat × Nat)
  causes : List (Nat × Nat)
  unfilled : Tab Nat
  deriving DecidableEq, Repr

/-- One reference candidate of a group (R250–R256): present and since when; qualified; whether it was ever disqualified; since
when every mean has been inside its limit; the measurements of the last 10 s, newest first, in 0.01 ppm; drift alert;
cause of the last disqualification; whether it is in loss; the last fault's instant; its phase error in ns. -/
structure Cand where
  present : Bool
  presentSince : Nat
  qualified : Bool
  disqualified : Bool
  cleanSince : Nat
  means : List (Nat × Int)
  drift : Bool
  cause : Nat
  lost : Bool
  phi : Int
  deriving DecidableEq, Repr

/-- A timing group (R248–R265): whether it has acquired; its current frame and that frame's start in device time; the
active candidate; phase error, pulling, locked; the measurements of active candidates, newest first, that make the
holdover store; the instant of a REALIGN that waits; the instant of the last frame start. -/
structure Group where
  acquired : Bool
  frame : Nat
  start : Int
  cands : Tab Cand
  active : Option Nat
  phi : Int
  pulling : Bool
  locked : Bool
  freq : Int
  hold : List Int
  realign : Option Nat
  deriving DecidableEq, Repr

/-- One entry of the band table (R279). -/
structure Band where
  fMin : Nat
  fMax : Nat
  band : Nat
  bias : Nat
  filter : Nat
  deriving DecidableEq, Repr

/-- Clock synthesis beside its registers: since when each island is on shelter; the end of each loop's last window outside ±200 ppm since it lost lock
(R282); the frequency a video-family synthesizer holds, in 0.01 ppm, and the instant before which a retracking one cannot be back (R271); since when
each furrow's MDLL is on without lock (R278); the steering demand of transmitters beyond ±250 ppm in 0.001 ppm (R277), the band table (R279; key
32 × loop type + entry). -/
structure SynthState where
  shelterAt : Tab Nat
  badAt : Tab Nat
  held : Tab Int
  retracking : Tab Nat
  mdllAt : Tab Nat
  steer : Tab Int
  bands : Tab Band
  deriving DecidableEq, Repr

/-- An audio origin of record 0x0012 (R179). -/
structure Origin where
  kind : Nat
  rate : Nat
  place : Nat
  channel : Nat
  foreign : Bool
  tg : Nat
  deriving DecidableEq, Repr

/-- A Fratin key (R99). -/
structure FKey where
  mask : Nat
  key : List Byte
  deriving DecidableEq, Repr

/-- What the running image fixes beside registers (R38): video sources, destinations and stored streams; audio origins, sets and
maps (R179); Fratin keys, key 15 the lintel authority key; the lintel layer's image slots, pin mask, glyph cell, font (code point: rows of
bits, the left pixel highest) and substitution glyph; slates; the mask of GPIO tally outputs (R246); each compositor's read
allowance in bytes per frame (R503); the words of the placement tables that the image pins (table × 16,384 + entry, R114); the Fratin UDP port. -/
structure ImageCfg where
  srcs : Tab SrcCfg
  dsts : Tab DstCfg
  streams : Tab StreamCfg
  asrc : Tab Origin
  adst : Tab Origin
  asets : Tab (Nat × Nat)
  amaps : Tab (List Byte)
  keys : Tab FKey
  pinMask : Nat
  lintelSlots : Tab LintelMsg
  glyphW : Nat
  glyphH : Nat
  font : Tab (List Nat)
  substGlyph : List Nat
  slates : Tab SlateCfg
  tallies : Nat
  allow : Tab Nat
  pinned : Tab Nat
  udpPort : Nat
  deriving DecidableEq, Repr

/-- A committed change that waits for its headlands (R83, R90, R52): 0 a salvo, 1 a LIVE_SET, 2 a LINTEL message; its generation; the
headland frame of each group it touches; the groups still to switch; whom to notify on air. -/
structure Pending where
  kind : Nat
  gen : Nat
  frames : List (Nat × Nat)
  left : List Nat
  entries : List Entry
  live : List LiveEntry
  notify : Option ReplyTo
  commitTime : Nat
  deriving DecidableEq, Repr

/-- A take that waits to be validated or is being validated (R85): who asked, its SALVO_ID (for a TAKE its SEQ), its entries and effective time, LATE_OK,
NOTIFY_ON_AIR. -/
structure Salvo where
  reply : ReplyTo
  id : Nat
  entries : List Entry
  eff : EffTime
  lateOk : Bool
  notify : Bool
  deriving DecidableEq, Repr

/-- An open salvo (R106): sender, id, part count, the parts held, its last part or commit. -/
structure OpenSalvo where
  sender : Nat
  id : Nat
  count : Nat
  parts : Tab (List Entry)
  last : Nat
  deriving DecidableEq, Repr

/-- An authenticated message (R98). -/
structure Msg where
  reply : ReplyTo
  flags : Nat
  toPair : Bool
  body : List Byte
  deriving DecidableEq, Repr

/-- A sender's duplicate-removal state (R100, R101): sequence numbers seen with the instant of the first copy, newest first;
the last 16 replies (sequence, bytes, where they went). -/
structure Sender where
  session : Nat
  highest : Nat
  seen : List (Nat × Nat)
  replies : List (Nat × ReplyTo × List Byte)
  deriving DecidableEq, Repr

/-- Lags of a source against a group over its last complete frame, in 1/65,536 line (R72). -/
structure Lag where
  least : Int
  most : Int
  deriving DecidableEq, Repr

/-- An SDI output that sends (R320, R230): the frame and the line sent next; the digest register of that frame; the line CRC register of each data stream over the
active words sent last; the digests of recent frames. -/
structure OutRun where
  frame : Nat
  line : Nat
  crc : Nat
  lineCrc : List Nat
  digests : Tab Nat
  deriving DecidableEq, Repr

/-- The crosspoint (R75–R92): committed and egress tables, the on-air readback tables; committed changes that wait; salvos that
wait for validation; open salvos; the frame of each group whose latch instant fell last; lags measured by (source × 16 + group); destinations
in R75 handling, with the line from which they are black in the current frame; commit instants; the sender table, receive queue and reply sequence; the snapshot; on-air notifications due; the placement history since boot or JOIN (R26); live-set values in force (R237); a follower's held LIVE_SET and LINTEL requests (R226); words of the placement tables taken
from the keyholder (table × 16,384 + entry, R237); groups whose first headland has passed (R66); of each group the frame of its last switch point and the
egress table before it (R77); for each destination that is or was black under R75 where its black begins and where it ends (frame, line); the SDI outputs. -/
structure XptState where
  vcom : Tab VRow
  vout : Tab VRow
  vair : Tab VRow
  acom : Tab ARow
  aout : Tab ARow
  aair : Tab ARow
  pending : List Pending
  queue : List Salvo
  opened : List OpenSalvo
  latched : Tab Nat
  lags : Tab Lag
  lost : Tab Nat
  senders : Tab Sender
  rx : List Msg
  ownSeq : Nat
  notify : List (ReplyTo × Pending)
  snap : List Nat
  snapTable : Nat
  history : List HistEvent
  live : List LiveEntry
  held : List ReplyTo
  placed : Tab Nat
  started : List Nat
  before : Tab (Nat × Tab VRow)
  black : Tab ((Nat × Nat) × Option (Nat × Nat))
  outs : Tab OutRun
  deriving DecidableEq, Repr


/-- A lane beside its registers: the power state requested and not yet started (R298); the power state a started move leads to
and the instant it is reached; when the running test began (R302); the eye operation that runs (0 none, 1 point, 2 scan,
3 periodic scan) and whether a point measurement waits for it (R304, R305); the instant before which no further periodic scan falls due (R305). -/
structure LaneRun where
  want : Option Nat
  goal : Option (Nat × Nat)
  testAt : Nat
  eye : Nat
  eyeWaits : Bool
  scanDue : Nat
  deriving DecidableEq, Repr

/-- An SDI port beside its registers: whether a line of the present frame failed R314; its CRC-errored lines (R317); the format
last found to mismatch (R314); the frame count of the last copy of a paired input (R322); of each data stream of each link, the line CRC over the active
words of its last line (R317). -/
structure SdiRun where
  bad : Bool
  crcLines : Nat
  mismatch : Option VFormat
  lastCount : Option Nat
  lineCrc : List Nat
  deriving DecidableEq, Repr

/-- A ring frame of a stored stream (R117): its write index, whether its write has begun and whether it is COMPLETE, and when it
was opened. -/
structure RingFrame where
  widx : Nat
  written : Bool
  complete : Bool
  at_ : Nat
  deriving DecidableEq, Repr

/-- A change of mode or delay of an input ring (R121): true a mode. -/
structure StreamSet where
  isMode : Bool
  value : Nat
  deriving DecidableEq, Repr

/-- A stored stream as it runs (R117–R125, R142): mode and delay in force (mode codes of R143); changes held while it is frozen;
the next write index; its ring frames by place; the place being written and whether that frame was interrupted; the rows
that wait for their tile row (key: row); bytes used in each place's ancillary area; whether its input is ready; the write index pinned by
freeze; the mode before a freeze whose first frame is still to be chosen; the choice for the next frame (frame, write index or black); the write index last read and for which frame; the place being
read, and place and write index of the frame read before it; when that read started, and the place and write index read before it (R150); the tiles read so far of that frame and of the one before; the frames repeated by a loss hold; whether the input was lost since the newest COMPLETE frame (R124); q counts, INEXACT count and highest q of the frame being written and of the
last complete one, with its write index; the highest q since last read; repeats and drops since boot, at the last counter read and at JOIN; frames that
compositor layers pin (16c + n, write index) (R164). -/
structure StreamRun where
  mode : Nat
  delay : Nat
  held : List StreamSet
  nextW : Nat
  ring : Tab RingFrame
  opened : Option Nat
  broken : Bool
  rows : Tab (List Nat)
  ancLen : Tab Nat
  ready : Bool
  pinned : Option Nat
  toPin : Option Nat
  chosen : Option (Nat × Option Nat)
  lastRead : Option Nat
  reading : Option Nat
  prev : Option (Nat × Nat)
  readAt : Nat
  readBefore : Option Nat × Option Nat
  tiles : Tab (List (List Nat))
  tilesBefore : Tab (List (List Nat))
  lossRun : Nat
  lost : Bool
  qNow : Tab Nat
  inexactNow : Nat
  qLast : Tab Nat
  inexactLast : Nat
  qmaxLast : Nat
  qmaxHeld : Nat
  widxLast : Nat
  repeats : Nat
  drops : Nat
  repeatsRead : Nat
  dropsRead : Nat
  repeatsJoin : Nat
  dropsJoin : Nat
  pins : List (Nat × Nat)
  deriving DecidableEq, Repr

/-- The frame store beside its streams (R126, R138–R141): failures at each address with their instants, newest first; retired
slots and where each now lies (none: flagged, R139); relocations that wait for a headland (slot, spare, bytes); spare bytes used of each channel group's pool; the thumbnail interval of
each field in ms and its last interval (R122); the scrub pass
(R400): the slot reached in each channel group, the pass's start; reads that completed late and wait for their use (R390). -/
structure FstState where
  fails : Tab (List Nat)
  retired : List (Nat × Option Nat)
  moves : List (Nat × Nat × Nat)
  spares : Tab Nat
  thumbMs : Tab Nat
  thumbAt : Tab Nat
  scrubAt : Tab Nat
  scrubStart : Nat
  late : List (Nat × Nat)
  deriving DecidableEq, Repr

/-- A sample of an audio channel: its value, 24 bits signed, and the AES3 status that came with it on an ST 2110-31 flow (R187): validity 1, user 2,
channel status 4, block start 8. -/
structure Samp where
  v : Int
  aes : Option Nat
  deriving DecidableEq, Repr

/-- An audio input (R188, R190, R358): slips since boot; whether its origin is not ready (R177); samples done of the
fade that follows; the slip ordered (its block b, true a drop, whether it was applied), the block at which its own fill crossed a threshold with no decision held;
its FIFO, for each channel the samples that wait, oldest first; the block read last of each channel; whether the engine reads the FIFO; the samples of a flow placed
by timestamp (sample × 256 + channel). The FIFO numbers a channel by 2 × its number, plus 1 the odd half of a 96 kHz channel of a flow. -/
structure AudIn where
  slips : Nat
  notReady : Bool
  fade : Nat
  slip : Option (Nat × Bool × Bool)
  crossed : Option (Nat × Bool)
  fifo : Tab (List Samp)
  prev : Tab (List Samp)
  going : Bool
  placed : Tab Samp
  deriving DecidableEq, Repr

/-- A switch of an audio destination (R185, R186): the source that leaves, the source that comes, the first sample, the length in samples, the first sample
at which it is over. -/
structure AudSwitch where
  old : Option Nat
  new : Option Nat
  start : Nat
  length : Nat
  stop : Nat
  deriving DecidableEq, Repr

/-- An audio destination beside AUD_GAINd (R183–R189): the switches that run, oldest first; the gain ramp (old factor, new factor,
first sample); its last output samples by index, which its output sends. -/
structure AudDst where
  switches : List AudSwitch
  ramp : Option (Nat × Nat × Nat)
  recent : Tab Samp
  deriving DecidableEq, Repr

/-- A serial audio port (R192–R198): phase 0 stopped, 1 lead, 2 running, 3 tail, 4 clock loss; when the phase began; pending masks
of the input and output with the instants their pairs completed (R195) and the LO words staged; slips and clock losses since boot; whether the port carried data when its
tail began; the frames of START_LEAD and STOP_TAIL of the start or stop in progress (R201); the frames of slot words that wait for a received clock, oldest first, and the last six sent; on a follow port the
samples that wait, of each channel of the input, and those sent last; whether frames leave; a slip of the follow FIFO (block, true a drop, whether it was applied); since when the NCO has been at a limit, true the
lower; the last bit sent; the digest register of each recent frame of its group (R230). -/
structure PortRun where
  phase : Nat
  since : Nat
  pendIn : Option (Nat × Nat)
  pendOut : Option (Nat × Nat)
  loIn : Nat
  loOut : Nat
  slips : Nat
  losses : Nat
  carried : Bool
  lead : Nat
  tail : Nat
  queue : List (List Nat)
  sent : List (List Nat)
  fifo : Tab (List Samp)
  prev : Tab (List Samp)
  going : Bool
  slip : Option (Nat × Bool × Bool)
  atLimit : Option (Bool × Nat)
  lastBit : Bool
  digs : Tab Nat
  deriving DecidableEq, Repr

/-- The audio engine: inputs, destinations, ports, the last good sample of each source channel, the block being processed, channels marked
non-audio (R187) and where each such channel stands in its AES3 block. -/
structure AudState where
  ins : Tab AudIn
  dsts : Tab AudDst
  ports : Tab PortRun
  last : Tab Int
  block : Nat
  nonAudio : List Nat
  blockAt : Tab Nat
  deriving DecidableEq, Repr

/-- A frame that waits for the end of a hold (R334): its kind and body; for a media packet its transmit context, scheduled instant and whether it is
the copy on path A. -/
structure HeldFrame where
  kind : Nat
  body : List Byte
  media : Option (Nat × Int × Bool)
  deriving DecidableEq, Repr

/-- An Ethernet port beside its registers (R328–R334): since when it has block lock with no fault; queued frames with their arrival, oldest first; since and until
when the transmitter is held; when the last pause frame was sent; the second and the count of ICMP requests answered in it
(R332); the end of the frame in transmission; the frames that wait for the end of the hold, oldest first. -/
structure MacRun where
  lockedAt : Option Nat
  queue : List (Nat × List Byte)
  holdFrom : Nat
  holdUntil : Nat
  pauseAt : Nat
  icmpSec : Nat
  icmp : Nat
  txEnd : Nat
  waiting : List HeldFrame
  deriving DecidableEq, Repr

/-- One path of a receive context (R349–R351): the SSRC followed, the highest extended sequence number, the last accepted packet's arrival. -/
structure PathRun where
  ssrc : Option Nat
  highest : Option Nat
  last : Option Nat
  deriving DecidableEq, Repr

/-- A packet received (R350): its sequence number, its arrival on path A and on path B, its timestamp, its position: the last row it
touches, or the flow sample after its last. -/
structure CopyRec where
  seq : Nat
  a : Option Nat
  b : Option Nat
  ts : Nat
  pos : Nat
  deriving DecidableEq, Repr

/-- A receive context beside its registers (R349–R358): its paths; the packets received, those below 65,536 sequence numbers back forgotten; the pixel groups placed by
address (key: timestamp × 2³² + row × 65,536 + group); the bands passed (timestamp × 65,536 + band); the sequence number up to which the
deadline has passed; whether a packet of this frame was malformed and whether the last whole frame was clean; the timestamp in progress;
since when packets are accepted (audio), or since when the frame in progress began, seen from its start (video and -40); sum in ns and number of path skews; whether a line of this frame was concealed; packets used in it;
totals since boot; when the last frames ended, by timestamp (R357); the packets of this instant taken before their frames' turn, by path (R361). -/
structure RxRun where
  pathA : PathRun
  pathB : PathRun
  copies : List CopyRec
  groups : Tab (List Byte)
  passed : List Nat
  doneSeq : Option Nat
  malformed : Bool
  clean : Bool
  ts : Option Nat
  since : Option Nat
  skewSum : Int
  skewN : Nat
  concealed : Bool
  packets : Nat
  lost : Nat
  late : Nat
  reorder : Nat
  bad : Nat
  ends : Tab Nat
  early : List (Bool × List Byte)
  deriving DecidableEq, Repr

/-- A transmit context beside its registers: totals since boot (R363); the digest register over the payloads of each recent frame (R230). -/
structure TxRun where
  sent : Nat
  late : Nat
  drop : Nat
  digs : Tab Nat
  deriving DecidableEq, Repr

/-- Media flows: receive and transmit contexts; groups joined per port with the instant of the report to repeat (R359); the ancillary packets of the frame
in progress of each video source that a context feeds on the line exchange. -/
structure MedState where
  rx : Tab RxRun
  tx : Tab TxRun
  reported : Option Nat
  joined : Bool
  anc : Tab (List AncPacket)
  deriving DecidableEq, Repr

/-- The refresh of a rank (R391): when the last one fell due, the bank whose turn it is in per-bank mode, the bank refreshed last, and when that refresh
ends. -/
structure RankRef where
  due : Nat
  turn : Nat
  bank : Nat
  until_ : Nat
  deriving DecidableEq, Repr

/-- A DRAM channel beside its registers (R391, R392, R394): refreshes owed per rank; normal polls in a row; whether DRAM_HOT was raised for the
present rise; the refresh of each rank; the last poll. -/
structure DrcRun where
  owed0 : Nat
  owed1 : Nat
  normal : Nat
  hot : Bool
  ranks : Tab RankRef
  polled : Option Nat
  deriving DecidableEq, Repr

/-- The DRAM controllers: channels; the start of training; the rate in force (R398); the start of a ZQ calibration per group. -/
structure DrcState where
  chans : Tab DrcRun
  trainAt : Nat
  rate : Nat
  zqAt : Tab Nat
  deriving DecidableEq, Repr


/-- What an Announce says of its grandmaster and sender (IEEE 1588-2019, 9.3.4), in the order of comparison. -/
structure PtpDs where
  priority1 : Nat
  clockClass : Nat
  accuracy : Nat
  variance : Nat
  priority2 : Nat
  identity : Nat
  steps : Nat
  sender : Nat
  deriving DecidableEq, Repr

/-- A refusal episode (R374, R375): since when the refused offsets have stayed within the spread, their least and greatest,
the last one. -/
structure RefusedEpisode where
  since : Nat
  least : Int
  most : Int
  last : Int
  deriving DecidableEq, Repr

/-- Device time and its servo (R364–R376): `offset` is device time less uptime in 10⁻⁹ ns; `rate` the servo's rate and
`slew` the acceptance slew, in ppb; `set` when device time was set by the servo; the run of offsets within ±200 ns; the last 16
offsets, newest first; the rates in force and since when, newest first; the last Sync (t2 − t1) and Delay_Resp
(t4 − t3) of the slave port in ps; the followed master; since when the ports listen; each port's best Announce and its arrival; PPS_IN's last edge (its stamp in 0.25 ns and its uptime), and the offset of the edge before it. -/
structure PtpState where
  offset : Int
  rate : Int
  slew : Int
  slewLeft : Int
  set : Bool
  run : Nat
  offsets : List Int
  rates : List (Nat × Int)
  lastSync : Option Int
  master : Option Nat
  listen : Nat
  refused : Option RefusedEpisode
  best : Tab (PtpDs × Nat)
  ppsEdge : Option (Nat × Nat)
  ppsPresent : Bool
  ppsOff : Word
  deriving DecidableEq, Repr

/-- What one instant has set and counted (R444): its time; the flags set, by register; the events counted, by counter: its value before them and
how many. -/
structure Fresh where
  at_ : Nat
  flags : Tab Word
  counts : Tab (Nat × Nat)
  deriving DecidableEq, Repr

/-- The whole device. `prot` is the protected lintel region of the frame store: its window offset and length (R166); `fresh` is what the last instant set and counted; `tables` the compositor array's own copy of the table area (R162). The register file lists only registers that differ from their reset values (R5, R7); `snap` holds
HI snapshots by HI offset (R5); `freeCtr`, `out` and `pending` are the model's own (log 2, 3, 4). -/
structure State where
  dev : Ident
  now : Nat
  regs : Tab Word
  snap : Tab Word
  pins : Pins
  ctl : Ctl
  boot : BootState
  power : PowerState
  flt : FaultState
  mnt : Tab MntRes
  life : LifeState
  pcie : PcieState
  card : CardState
  dma : DmaState
  pwmbx : PwMbx
  flash : Tab Byte
  twn : TwinState
  ptp : PtpState
  tmg : Tab Group
  syn : SynthState
  cfg : ImageCfg
  xpt : XptState
  lan : Tab LaneRun
  eyeSec : Nat
  sdi : Tab SdiRun
  streams : Tab StreamRun
  fst : FstState
  cmp : Tab CmpRun
  lin : LintelState
  tables : Tab Byte
  aud : AudState
  mac : Tab MacRun
  med : MedState
  win : Tab SdiLine
  rows : Tab (List Nat)
  drc : DrcState
  prot : Nat × Nat
  fresh : Fresh
  dram : Tab Byte
  tcm : Tab Byte
  freeCtr : Nat
  out : List Output
  pending : List Instr
  deriving DecidableEq, Repr

/-! The state right after reset. -/

/-- No image is loaded. -/
def ImageCfg.none : ImageCfg where
  srcs := []
  dsts := []
  streams := []
  asrc := []
  adst := []
  asets := []
  amaps := []
  keys := []
  pinMask := 0
  lintelSlots := []
  glyphW := 0
  glyphH := 0
  font := []
  substGlyph := []
  slates := []
  tallies := 0
  allow := []
  pinned := []
  udpPort := 0

/-- The directory before it is read: BOOT_DIR reads 0 (R54). -/
def Directory.none : Directory := ⟨0, .a, .empty, .empty, 0, 0⟩

/-- Boot state right after the internal reset: the directory is to be read. -/
def BootState.reset (fuse : Option (List Byte)) (released : Nat) : BootState where
  stage := .directory
  slot := .a
  otherTried := false
  recOff := 0
  locks := []
  dir := Directory.none
  dirDue := Directory.none
  dirQueued := 0
  dirCopy := 0
  defaulted := false
  booted := none
  firstRefusal := 0
  romFallback := false
  session := none
  fuse := fuse
  released := released
  fieldsUsed := 0

/-- Nothing is sown beyond S0. -/
def PowerState.reset : PowerState where
  stage := 0
  sowing := false
  toSow := []
  sown := []
  reaping := none
  reapAt := 0
  railFree := []
  moves := []
  lastMove := 0
  lastAvs := 0
  avsTarget := 0
  inReset := false
  restartDue := false
  finalCheckpoint := false
  tails := []

/-- An empty collector; ALIVE does not run and the watchdog is not armed (R410, R411). -/
def FaultState.reset (now : Nat) : FaultState where
  inbox := []
  fifo := []
  opened := []
  severeLatched := false
  lastKick := now
  armed := false
  aliveRuns := false
  aliveEdge := now
  trips := false
  diodes := []
  overflow := false
  bootCounts := [0, 0, 0, 0, 0]
  bootLost := 0
  toAppend := []
  closed := []

/-- The life log before the journal is read. -/
def LifeState.reset (now : Nat) : LifeState where
  valid := false
  formatted := false
  entrySeq := 0
  sector := 0
  sectorSeq := 0
  writeAt := 0
  severe := []
  calSec := 0
  calNs := 0
  calAt := now
  salvos := 0
  retired := 0
  c3 := 0
  c4 := 0
  lastCheckpoint := now
  lastEvent := none
  eventDue := false
  queued := []
  writing := 0
  lastSecond := now / 1000000000
  afterSevere := false

/-- Twin operation: no key, no wall, no peer. -/
def TwinState.reset (now : Nat) : TwinState where
  key := ⟨now, now, none, none, none, none, none, false, false, false, false⟩
  wall := ⟨false, 0, 0, none, 0, 0, 0, [], false, 0, [], 0, 0, 0, [], 0, [], none, false, []⟩
  orders := []
  decisions := []
  ownDigests := []
  peerDigests := []
  divergentAt := none
  following := false
  arb := ⟨none, none, none, 0, none, false, [], none⟩
  ho := ⟨0, 0, false, 0, 0, 0⟩
  join := ⟨false, false, 0, 0, 0, [], false, [], []⟩
  resyncPending := false
  lit := 0
  c2Times := []
  failed := 0
  lowSince := none
  lastHealth := 0
  sent := []
  lateSpans := []
  causes := []
  unfilled := []

/-- Device time before it is loaded from the calendar. -/
def PtpState.reset : PtpState where
  offset := 0
  rate := 0
  slew := 0
  slewLeft := 0
  set := false
  run := 0
  offsets := []
  rates := []
  lastSync := none
  master := none
  listen := 0
  refused := none
  best := []
  ppsEdge := none
  ppsPresent := false
  ppsOff := 0

/-- The crosspoint before an image is applied: every destination shows black, every channel is silent (R96). -/
def XptState.reset : XptState where
  vcom := []
  vout := []
  vair := []
  acom := []
  aout := []
  aair := []
  pending := []
  queue := []
  opened := []
  latched := []
  lags := []
  lost := []
  senders := []
  rx := []
  ownSeq := 0
  notify := []
  snap := []
  snapTable := 0
  history := []
  live := []
  held := []
  placed := []
  started := []
  before := []
  black := []
  outs := []

/-- The device right after the internal reset (R464, R466, R507): the part, its fuses and its flash, the pins' levels and the straps
sampled are given; every register holds its reset value. -/
def State.afterReset (dev : Ident) (pins : Pins) (fuse : Option (List Byte)) (flash : Tab Byte) (now : Nat) : State where
  dev := dev
  now := now
  regs := []
  snap := []
  pins := { pins with keyOut := false, alive := false }
  ctl := ⟨.boot, .solo, now, false, false, false, false, false, none⟩
  boot := BootState.reset fuse now
  power := PowerState.reset
  flt := FaultState.reset now
  mnt := []
  life := LifeState.reset now
  pcie := ⟨false, 0, 0, 0, 0, false, false, false, false⟩
  card := ⟨[], 0, [], [], false, false, []⟩
  dma := ⟨[], [], [], [], []⟩
  pwmbx := ⟨[], [], [], []⟩
  flash := flash
  twn := TwinState.reset now
  ptp := PtpState.reset
  tmg := []
  syn := ⟨[], [], [], [], [], [], []⟩
  cfg := ImageCfg.none
  xpt := XptState.reset
  lan := []
  eyeSec := 60
  sdi := []
  streams := []
  fst := ⟨[], [], [], [], [], [], [], 0, []⟩
  cmp := []
  lin := ⟨0, false, 0, false, 0, [], [], [], [], [], [], 0⟩
  tables := []
  aud := ⟨[], [], [], [], 0, [], []⟩
  mac := []
  med := ⟨[], [], none, false, []⟩
  win := []
  rows := []
  drc := ⟨[], 0, 0, []⟩
  prot := (0, 0)
  fresh := ⟨0, [], []⟩
  dram := []
  tcm := []
  freeCtr := 0
  out := []
  pending := []

/-- The part of the state after reset: a ZH1024-F, stepping A0 (index 0), UID 1 (log 5). -/
def Ident.part : Ident := ⟨.f, 0, 1, 0⟩

/-- The machine right after power-on reset: PWRGOOD and RESET_N high, the interlock inputs low, every strap 0, the flash erased, the key fuse
blank (logs 5, 6, 7). -/
def State.reset : State :=
  State.afterReset Ident.part ⟨true, true, false, false, false, false, false, 0⟩ none [] 0


end Sys2Proof.Machine
end

