-- ==== Sys2Proof/Machine/Ops.lean ====
section
/-! DEFINITION. The named operations over registers, memories and the clock that every meaning is built from. -/
namespace Sys2Proof.Machine

/-! Bits of a word. -/

/-- Bits hi…lo of a word, as a number. -/
def fld (w : Word) (hi lo : Nat) : Nat := w.toNat / 2 ^ lo % 2 ^ (hi + 1 - lo)

/-- One bit of a word. -/
def bit (w : Word) (i : Nat) : Bool := w.getLsbD i

/-- A word with bits hi…lo replaced. -/
def setFld (w : Word) (hi lo v : Nat) : Word :=
  let m := (2 ^ (hi + 1 - lo) - 1) * 2 ^ lo
  (w &&& ~~~ (BitVec.ofNat 32 m)) ||| BitVec.ofNat 32 (v % 2 ^ (hi + 1 - lo) * 2 ^ lo)

/-- The mask of one bit. -/
def maskBit (i : Nat) : Word := BitVec.ofNat 32 (2 ^ i)

/-- A Bool as a bit. -/
def b2n (b : Bool) : Nat := if b then 1 else 0

/-- A signed number as an n-bit two's complement field. -/
def ofSigned (n : Nat) (x : Int) : Nat := (x % (2 ^ n : Int)).toNat

/-- An n-bit field read as two's complement. -/
def toSigned (n v : Nat) : Int := if v < 2 ^ (n - 1) then (v : Int) else (v : Int) - (2 ^ n : Int)

/-- Clamp an integer to an interval. -/
def clampInt (lo hi x : Int) : Int := if x < lo then lo else if hi < x then hi else x

/-- Clamp a number to an interval. -/
def clampNat (lo hi x : Nat) : Nat := if x < lo then lo else if hi < x then hi else x

/-! Byte order. -/

/-- A little-endian number. -/
def le : List Byte → Nat
  | [] => 0
  | b :: bs => b.toNat + 256 * le bs

/-- A big-endian number, after a prefix already read. -/
def beFrom : Nat → List Byte → Nat
  | a, [] => a
  | a, b :: bs => beFrom (a * 256 + b.toNat) bs

/-- A big-endian number. -/
def be (bs : List Byte) : Nat := beFrom 0 bs

/-- n little-endian bytes of a number. -/
def toLe : Nat → Nat → List Byte
  | 0, _ => []
  | n + 1, v => BitVec.ofNat 8 v :: toLe n (v / 256)

/-- n big-endian bytes of a number. -/
def toBe (n v : Nat) : List Byte := (toLe n v).reverse

/-- Bytes o, …, o + n − 1 of a list. -/
def slice (bs : List Byte) (o n : Nat) : List Byte := (bs.drop o).take n

/-- Are all bytes zero? -/
def allZero (bs : List Byte) : Bool := bs.all (· == 0)

/-! One replacement for each part of the state. A meaning changes the state through these, so that a proof about one part never opens
the whole record. -/

/-- Replace `dev`. -/
def State.setDev (s : State) (x : Ident) : State := { s with dev := x }
/-- Replace `now`. -/
def State.setNow (s : State) (x : Nat) : State := { s with now := x }
/-- Replace `regs`. -/
def State.setRegs (s : State) (x : Tab Word) : State := { s with regs := x }
/-- Replace `snap`. -/
def State.setSnap (s : State) (x : Tab Word) : State := { s with snap := x }
/-- Replace `pins`. -/
def State.setPins (s : State) (x : Pins) : State := { s with pins := x }
/-- Replace `ctl`. -/
def State.setCtl (s : State) (x : Ctl) : State := { s with ctl := x }
/-- Replace `boot`. -/
def State.setBoot (s : State) (x : BootState) : State := { s with boot := x }
/-- Replace `power`. -/
def State.setPower (s : State) (x : PowerState) : State := { s with power := x }
/-- Replace `flt`. -/
def State.setFlt (s : State) (x : FaultState) : State := { s with flt := x }
/-- Replace `mnt`. -/
def State.setMnt (s : State) (x : Tab MntRes) : State := { s with mnt := x }
/-- Replace `life`. -/
def State.setLife (s : State) (x : LifeState) : State := { s with life := x }
/-- Replace `pcie`. -/
def State.setPcie (s : State) (x : PcieState) : State := { s with pcie := x }
/-- Replace `card`. -/
def State.setCard (s : State) (x : CardState) : State := { s with card := x }
/-- Replace `dma`. -/
def State.setDma (s : State) (x : DmaState) : State := { s with dma := x }
/-- Replace `pwmbx`. -/
def State.setPw (s : State) (x : PwMbx) : State := { s with pwmbx := x }
/-- Replace `flash`. -/
def State.setFlash (s : State) (x : Tab Byte) : State := { s with flash := x }
/-- Replace `twn`. -/
def State.setTwn (s : State) (x : TwinState) : State := { s with twn := x }
/-- Replace `ptp`. -/
def State.setPtp (s : State) (x : PtpState) : State := { s with ptp := x }
/-- Replace `tmg`. -/
def State.setTmg (s : State) (x : Tab Group) : State := { s with tmg := x }
/-- Replace `syn`. -/
def State.setSyn (s : State) (x : SynthState) : State := { s with syn := x }
/-- Replace `cfg`. -/
def State.setCfg (s : State) (x : ImageCfg) : State := { s with cfg := x }
/-- Replace `xpt`. -/
def State.setXpt (s : State) (x : XptState) : State := { s with xpt := x }
/-- Replace `lan`. -/
def State.setLan (s : State) (x : Tab LaneRun) : State := { s with lan := x }
/-- Replace `eyeSec`. -/
def State.setEyeSec (s : State) (x : Nat) : State := { s with eyeSec := x }
/-- Replace `sdi`. -/
def State.setSdis (s : State) (x : Tab SdiRun) : State := { s with sdi := x }
/-- Replace `streams`. -/
def State.setStreams (s : State) (x : Tab StreamRun) : State := { s with streams := x }
/-- Replace `fst`. -/
def State.setFst (s : State) (x : FstState) : State := { s with fst := x }
/-- Replace `cmp`. -/
def State.setCmps (s : State) (x : Tab CmpRun) : State := { s with cmp := x }
/-- Replace `lin`. -/
def State.setLin (s : State) (x : LintelState) : State := { s with lin := x }
/-- Replace `tables`. -/
def State.setTables (s : State) (x : Tab Byte) : State := { s with tables := x }
/-- Replace `aud`. -/
def State.setAud (s : State) (x : AudState) : State := { s with aud := x }
/-- Replace `mac`. -/
def State.setMacs (s : State) (x : Tab MacRun) : State := { s with mac := x }
/-- Replace `med`. -/
def State.setMed (s : State) (x : MedState) : State := { s with med := x }
/-- Replace `win`. -/
def State.setWin (s : State) (x : Tab SdiLine) : State := { s with win := x }
/-- Replace `rows`. -/
def State.setRows (s : State) (x : Tab (List Nat)) : State := { s with rows := x }
/-- Replace `drc`. -/
def State.setDrcs (s : State) (x : DrcState) : State := { s with drc := x }
/-- Replace `prot`. -/
def State.setProt (s : State) (x : Nat × Nat) : State := { s with prot := x }
/-- Replace `fresh`. -/
def State.setFresh (s : State) (x : Fresh) : State := { s with fresh := x }
/-- Replace `dram`. -/
def State.setDram (s : State) (x : Tab Byte) : State := { s with dram := x }
/-- Replace `tcm`. -/
def State.setTcm (s : State) (x : Tab Byte) : State := { s with tcm := x }
/-- Replace `freeCtr`. -/
def State.setFreeCtr (s : State) (x : Nat) : State := { s with freeCtr := x }
/-- Replace `out`. -/
def State.setOut (s : State) (x : List Output) : State := { s with out := x }
/-- Replace `pending`. -/
def State.setPending (s : State) (x : List Instr) : State := { s with pending := x }

/-! Registers (R5–R7). -/

/-- A register's stored value. -/
def State.rd (s : State) (off : Nat) : Word := (Tab.find? s.regs off).getD (RegMap.resetOf off)

/-- A register's stored value, replaced. -/
def State.wr (s : State) (off : Nat) (w : Word) : State :=
  s.setRegs (Tab.put (RegMap.resetOf off) s.regs off w)

/-- A field of a register. -/
def State.rdFld (s : State) (off hi lo : Nat) : Nat := fld (s.rd off) hi lo

/-- Is one bit of a register set? -/
def State.rdBit (s : State) (off i : Nat) : Bool := bit (s.rd off) i

/-- Replace a field of a register. -/
def State.wrFld (s : State) (off hi lo v : Nat) : State := s.wr off (setFld (s.rd off) hi lo v)

/-- Set or clear one bit of a register. -/
def State.wrBit (s : State) (off i : Nat) (b : Bool) : State := s.wrFld off i i (b2n b)

/-! What the instant at hand has set and counted (R444). -/

/-- The flags set and events counted in the present instant. -/
def State.freshNow (s : State) : Fresh := if s.fresh.at_ = s.now then s.fresh else ⟨s.now, [], []⟩

/-- The flags of a register that were set in the present instant. -/
def State.freshFlags (s : State) (off : Nat) : Word := Tab.get 0 s.freshNow.flags off

/-- Note flags of a register that are set now. -/
def State.noteFlags (s : State) (off : Nat) (m : Word) : State :=
  s.setFresh { s.freshNow with flags := Tab.put 0 s.freshNow.flags off (s.freshFlags off ||| m) }

/-- Note n events that are counted now in a counter of value v. -/
def State.noteCount (s : State) (off v n : Nat) : State :=
  let x := (Tab.find? s.freshNow.counts off).getD (v, 0)
  s.setFresh { s.freshNow with counts := Tab.insert (Tab.erase s.freshNow.counts off) off (x.1, x.2 + n) }

/-- Or a mask into a register. -/
def State.orReg (s : State) (off : Nat) (m : Word) : State := (s.wr off (s.rd off ||| m)).noteFlags off m

/-- A 64-bit value of a LO and a HI register (R5). -/
def State.rd64 (s : State) (lo hi : Nat) : Nat := (s.rd lo).toNat + 4294967296 * (s.rd hi).toNat

/-- Write a 64-bit value to a LO and a HI register (R5). -/
def State.wr64 (s : State) (lo hi v : Nat) : State :=
  (s.wr lo (BitVec.ofNat 32 v)).wr hi (BitVec.ofNat 32 (v / 4294967296))

/-! Free values (log 2). -/

/-- The free value the next step takes. -/
def State.freeVal (s : State) : Nat := Config.freeNat s.freeCtr

/-- The state after a free value was taken. -/
def State.freeNext (s : State) : State := s.setFreeCtr (s.freeCtr + 1)

/-! Counters. -/

/-- Count n events in an RC counter. At the top of its range the spec gives no result (only R337 says that the
64-bit MAC counters wrap): the count is then a free value (log 12). -/
def State.bumpBy (s : State) (off n : Nat) : State :=
  let v := (s.rd off).toNat
  if v + n < 4294967296 then (s.wr off (BitVec.ofNat 32 (v + n))).noteCount off v n
  else if n = 0 then s else ((s.freeNext).wr off (BitVec.ofNat 32 s.freeVal)).noteCount off v n

/-- Count one event in an RC counter. -/
def State.bump (s : State) (off : Nat) : State := s.bumpBy off 1

/-- Count n events in a 64-bit counter that wraps (R337). -/
def State.bump64 (s : State) (lo hi n : Nat) : State :=
  (s.wr64 lo hi ((s.rd64 lo hi + n) % 18446744073709551616)).noteCount lo (s.rd64 lo hi) n

/-- Raise a saturating field. -/
def State.satFld (s : State) (off hi lo : Nat) : State :=
  if s.rdFld off hi lo + 1 < 2 ^ (hi + 1 - lo) then s.wrFld off hi lo (s.rdFld off hi lo + 1) else s

/-! Time. -/

/-- The instant a command carries: uptime never goes back. Device time runs on at the rate of its servo and of an
acceptance slew, which ends at what is left to slew (R364, R375). -/
def State.at (s : State) (t : Nat) : State :=
  let dt := (t : Int) - (s.now : Int)
  if dt ≤ 0 then s
  else
    let step := dt * s.ptp.slew
    let left := s.ptp.slewLeft
    let d := if step.natAbs ≤ left.natAbs then step else left
    (s.setNow t).setPtp { s.ptp with offset := s.ptp.offset + dt * s.ptp.rate + d, slewLeft := left - d }

/-- Record something that leaves the device. -/
def State.emit (s : State) (o : Output) : State := s.setOut (s.out ++ [o])

/-! Memories. -/

/-- A DRAM byte, at an offset of the management window (R386). -/
def State.dramByte (s : State) (a : Nat) : Byte := Tab.get Config.blankByte s.dram a

/-- DRAM bytes. -/
def State.dramBytes (s : State) (a n : Nat) : List Byte := Tab.bytes Config.blankByte s.dram a n

/-- Write DRAM bytes. -/
def State.dramPut (s : State) (a : Nat) (bs : List Byte) : State :=
  s.setDram (Tab.putBytes Config.blankByte s.dram a bs)

/-- TCM bytes (R13). -/
def State.tcmBytes (s : State) (a n : Nat) : List Byte := Tab.bytes Config.blankByte s.tcm a n

/-- Write TCM bytes. -/
def State.tcmPut (s : State) (a : Nat) (bs : List Byte) : State :=
  s.setTcm (Tab.putBytes Config.blankByte s.tcm a bs)

/-- Flash bytes (R30). -/
def State.flashBytes (s : State) (a n : Nat) : List Byte := Tab.bytes Config.erasedByte s.flash a n

/-- Program flash bytes. -/
def State.flashPut (s : State) (a : Nat) (bs : List Byte) : State :=
  s.setFlash (Tab.putBytes Config.erasedByte s.flash a bs)

/-- Erase flash bytes lo … lo + n − 1 (R31: erased reads 0xFF). -/
def State.flashErase (s : State) (lo n : Nat) : State :=
  s.setFlash (s.flash.filter fun e => decide (e.1 < lo) || decide (lo + n ≤ e.1))

/-! The variant (R1, R22, R29). -/

/-- Numbered lanes of a variant. -/
def Variant.lanes : Variant → Nat
  | .f => 1024
  | .r => 1024
  | .h => 512

/-- Variant code (R1). -/
def Variant.code : Variant → Nat
  | .f => 1
  | .r => 2
  | .h => 3

/-- DRAM channels of a variant. -/
def Variant.channels : Variant → Nat
  | .h => 16
  | _ => 32

/-- Compositors of a variant. -/
def Variant.compositors : Variant → Nat
  | .f => 64
  | .r => 0
  | .h => 32

/-- TDM ports of a variant. -/
def Variant.ports : Variant → Nat
  | .h => 8
  | _ => 16

/-- Fields of a variant. -/
def Variant.fields (v : Variant) : Nat := v.lanes / 64

/-- Channel groups of a variant. -/
def Variant.groups (v : Variant) : Nat := v.channels / 4

/-- Does lane page i exist (R9, R22)? -/
def State.lanePresent (s : State) (i : Nat) : Bool :=
  decide (i < s.dev.variant.lanes) || (decide (1024 ≤ i) && decide (i < 1034))

/-- Is synthesis loop n fitted in a variant (R273)? -/
def Variant.loopFitted (v : Variant) (n : Nat) : Bool :=
  decide (n < 33) && !(n == 4 && v = .r) && !(v = .h && ((decide (11 ≤ n) && decide (n ≤ 14)) || (decide (23 ≤ n) && decide (n ≤ 30))))

/-- Does the variant have the unit whose register stands at an offset (R2)? What has no units is present. -/
def Variant.hasUnit (v : Variant) (off : Nat) : Bool :=
  if off < 0x050000 then true
  else if off < 0x060000 then
    if off < 0x050040 then true
    else if off < 0x0500C4 then v.loopFitted ((off - 0x050040) / 4)
    else if off < 0x050200 then decide ((off - 0x050100) / 4 < v.lanes / 16)
    else decide ((off - 0x050200) / 4 < v.lanes / 16)
  else if off < 0x0C0000 then true
  else if off < 0x0E0000 then decide ((off - 0x0C0000) / 0x800 < v.compositors)
  else if off < 0x0E1000 then true
  else if off < 0x0E2000 then decide ((off - 0x0E1000) / 0x100 < v.ports)
  else if off < 0x121000 then true
  else if off < 0x122000 then decide ((off - 0x121000) / 0x80 < v.channels)
  else if off < 0x241000 then true
  else if off < 0x242000 then decide ((off - 0x241000) / 4 < v.lanes)
  else if off < 0x243000 then decide ((off - 0x242000) / 4 < v.lanes)
  else if off < 0x400000 then true
  else if off < 0x500000 then decide ((off - 0x400000) / 0x400 < v.lanes)
  else if off < 0x580000 then decide ((off - 0x500000) / 0x200 < v.lanes)
  else if off < 0x5C0000 then decide ((off - 0x580000) / 0x100 < v.lanes)
  else if off < 0x601000 then true
  else if off < 0x603050 then
    decide ((off - 0x601000) / 8 < v.lanes) || decide (1024 ≤ (off - 0x601000) / 8)
  else true

/-- The code of a mode (R55). -/
def Mode.code : Mode → Nat
  | .boot => 0
  | .train => 1
  | .join => 2
  | .service => 3
  | .safe => 4
  | .test => 5

/-- The code of a role (R70). -/
def Role.code : Role → Nat
  | .solo => 0
  | .keyholder => 1
  | .follower => 2
  | .alongside => 3

/-- The key gate of R208: KEY_OUT high and KEY_IN low. -/
def State.gateOpen (s : State) : Bool := s.pins.keyOut && !s.pins.keyIn

/-- Is the device in one of JOIN, SERVICE and SAFE, where RWL fields are locked (R7)? -/
def State.rwlLocked (s : State) : Bool :=
  match s.ctl.mode with
  | .join => true
  | .service => true
  | .safe => true
  | _ => false

/-! The image in the flash (R30, R37). -/

/-- The flash offset of a slot (R30). -/
def slotBase : Slot → Nat
  | .a => 0x00040000
  | .b => 0x03040000

/-- The length of a slot: 48 MiB (R30). -/
def slotLength : Nat := 50331648

/-- The other slot. -/
def otherSlot : Slot → Slot
  | .a => .b
  | .b => .a

/-- Bytes of the slot being tried or booted. -/
def State.imgBytes (s : State) (o n : Nat) : List Byte := s.flashBytes (slotBase s.boot.slot + o) n

/-- A little-endian field of the image. -/
def State.img (s : State) (o n : Nat) : Nat := le (s.imgBytes o n)

/-- The slot offset of the configuration section. -/
def State.cfgOff (s : State) : Nat := s.img 0x28 4
/-- The length of the configuration body (R37). -/
def State.cfgBody (s : State) : Nat := s.img 0x2C 4 - 128

end Sys2Proof.Machine
end

