-- ==== Sys2Proof/Machine/Crypto.lean ====
section
/-! DEFINITION. The checks and hashes the spec names: CRC-32 of IEEE 802.3 (R31, R35, R37, R48, R417), SHA-256, HMAC-SHA-256
(R98), and ECDSA P-256 verification (R40). SHA-256, HMAC and ECDSA are those of their standards, which the spec names
and does not repeat (log 13, PRESUMED). -/
namespace Sys2Proof.Machine

/-! CRC-32. -/

/-- One bit of the reflected CRC-32. -/
def crcBit (c : Nat) : Nat := if c % 2 = 1 then Nat.xor (c / 2) 0xEDB88320 else c / 2

/-- n bits of the reflected CRC-32. -/
def crcBits : Nat → Nat → Nat
  | 0, c => c
  | n + 1, c => crcBits n (crcBit c)

/-- CRC-32 of bytes, from a running register. -/
def crcRun : Nat → List Byte → Nat
  | c, [] => c
  | c, b :: bs => crcRun (crcBits 8 (Nat.xor c b.toNat)) bs

/-- CRC-32 (IEEE 802.3). -/
def crc32 (bs : List Byte) : Nat := Nat.xor (crcRun 0xFFFFFFFF bs) 0xFFFFFFFF

/-! SHA-256 (FIPS 180-4). -/

/-- The n 32-bit words packed in a number, its highest word first. -/
def wordsOf (n v : Nat) : List Nat := (List.range n).map fun i => v / 2 ^ (32 * (n - 1 - i)) % 4294967296

/-- The round constants, eight to a number. -/
def shaK : List Nat :=
  wordsOf 8 0x428a2f9871374491b5c0fbcfe9b5dba53956c25b59f111f1923f82a4ab1c5ed5 ++
  wordsOf 8 0xd807aa9812835b01243185be550c7dc372be5d7480deb1fe9bdc06a7c19bf174 ++
  wordsOf 8 0xe49b69c1efbe47860fc19dc6240ca1cc2de92c6f4a7484aa5cb0a9dc76f988da ++
  wordsOf 8 0x983e5152a831c66db00327c8bf597fc7c6e00bf3d5a7914706ca635114292967 ++
  wordsOf 8 0x27b70a852e1b21384d2c6dfc53380d13650a7354766a0abb81c2c92e92722c85 ++
  wordsOf 8 0xa2bfe8a1a81a664bc24b8b70c76c51a3d192e819d6990624f40e3585106aa070 ++
  wordsOf 8 0x19a4c1161e376c082748774c34b0bcb5391c0cb34ed8aa4a5b9cca4f682e6ff3 ++
  wordsOf 8 0x748f82ee78a5636f84c878148cc7020890befffaa4506cebbef9a3f7c67178f2

/-- Rotate a 32-bit number right. -/
def rotr (x n : Nat) : Nat := Nat.lor (x / 2 ^ n) (x * 2 ^ (32 - n) % 4294967296)

/-- Word j of a newest-first schedule. -/
def shaAt (w : List Nat) (j : Nat) : Nat := w.getD j 0

/-- Extend the message schedule (newest word first) by n words. -/
def shaExtend : Nat → List Nat → List Nat
  | 0, w => w
  | n + 1, w =>
    let x := shaAt w 14
    let y := shaAt w 1
    let s0 := Nat.xor (Nat.xor (rotr x 7) (rotr x 18)) (x / 8)
    let s1 := Nat.xor (Nat.xor (rotr y 17) (rotr y 19)) (y / 1024)
    shaExtend n ((shaAt w 15 + s0 + shaAt w 6 + s1) % 4294967296 :: w)

/-- The working variables a–h. -/
structure ShaVars where
  a : Nat
  b : Nat
  c : Nat
  d : Nat
  e : Nat
  f : Nat
  g : Nat
  h : Nat
  deriving DecidableEq, Repr

/-- One round. -/
def shaRound (v : ShaVars) (k w : Nat) : ShaVars :=
  let s1 := Nat.xor (Nat.xor (rotr v.e 6) (rotr v.e 11)) (rotr v.e 25)
  let ch := Nat.xor (Nat.land v.e v.f) (Nat.land (Nat.xor v.e 4294967295) v.g)
  let t1 := v.h + s1 + ch + k + w
  let s0 := Nat.xor (Nat.xor (rotr v.a 2) (rotr v.a 13)) (rotr v.a 22)
  let maj := Nat.xor (Nat.xor (Nat.land v.a v.b) (Nat.land v.a v.c)) (Nat.land v.b v.c)
  ⟨(t1 + s0 + maj) % 4294967296, v.a, v.b, v.c, (v.d + t1) % 4294967296, v.e, v.f, v.g⟩

/-- All rounds over constants and schedule words. -/
def shaRounds : ShaVars → List Nat → List Nat → ShaVars
  | v, k :: ks, w :: ws => shaRounds (shaRound v k w) ks ws
  | v, _, _ => v

/-- The big-endian words of n × 4 bytes, newest first. -/
def shaWords : Nat → List Byte → List Nat → List Nat
  | 0, _, acc => acc
  | n + 1, bs, acc => shaWords n (bs.drop 4) (be (bs.take 4) :: acc)

/-- One 64-byte block. -/
def shaBlock (v : ShaVars) (blk : List Byte) : ShaVars :=
  let r := shaRounds v shaK (shaExtend 48 (shaWords 16 blk [])).reverse
  ⟨(v.a + r.a) % 4294967296, (v.b + r.b) % 4294967296, (v.c + r.c) % 4294967296, (v.d + r.d) % 4294967296,
   (v.e + r.e) % 4294967296, (v.f + r.f) % 4294967296, (v.g + r.g) % 4294967296, (v.h + r.h) % 4294967296⟩

/-- n blocks. -/
def shaBlocks : Nat → ShaVars → List Byte → ShaVars
  | 0, v, _ => v
  | n + 1, v, bs => shaBlocks n (shaBlock v (bs.take 64)) (bs.drop 64)

/-- The padded message. -/
def shaPad (bs : List Byte) : List Byte :=
  let n := bs.length
  bs ++ (0x80 : Byte) :: List.replicate ((119 - n % 64) % 64) 0 ++ toBe 8 (n * 8)

/-- The working variables from eight words. -/
def shaStart (w : List Nat) : ShaVars :=
  let x (i : Nat) : Nat := w.getD i 0
  ⟨x 0, x 1, x 2, x 3, x 4, x 5, x 6, x 7⟩

/-- SHA-256. -/
def sha256 (bs : List Byte) : List Byte :=
  let p := shaPad bs
  let v := shaBlocks (p.length / 64)
    (shaStart (wordsOf 8 0x6a09e667bb67ae853c6ef372a54ff53a510e527f9b05688c1f83d9ab5be0cd19)) p
  toBe 4 v.a ++ toBe 4 v.b ++ toBe 4 v.c ++ toBe 4 v.d ++ toBe 4 v.e ++ toBe 4 v.f ++ toBe 4 v.g ++ toBe 4 v.h

/-- HMAC-SHA-256 under a key of at most 64 bytes (R98, R99: 32 bytes). -/
def hmacSha256 (key msg : List Byte) : List Byte :=
  let k := key ++ List.replicate (64 - key.length) 0
  sha256 (k.map (· ^^^ 0x5c) ++ sha256 (k.map (· ^^^ 0x36) ++ msg))

/-! ECDSA over P-256 (R40), in Jacobian coordinates. -/

/-- The field prime. -/
def p256p : Nat := 0xffffffff00000001000000000000000000000000ffffffffffffffffffffffff
/-- The group order. -/
def p256n : Nat := 0xffffffff00000000ffffffffffffffffbce6faada7179e84f3b9cac2fc632551
/-- The curve constant b. -/
def p256b : Nat := 0x5ac635d8aa3a93e7b3ebbd55769886bc651d06b0cc53b0f63bce3c3e27d2604b
/-- The base point. -/
def p256gx : Nat := 0x6b17d1f2e12c4247f8bce6e563a440f277037d812deb33a0f4a13945d898c296
/-- The base point. -/
def p256gy : Nat := 0x4fe342e2fe1a7f9b8ee7eb4a7c0f9e162bce33576b315ececbb6406837bf51f5

/-- Power modulo m, over n bits of the exponent. -/
def powMod (m : Nat) : Nat → Nat → Nat → Nat → Nat
  | 0, _, _, acc => acc
  | n + 1, b, e, acc => powMod m n (b * b % m) (e / 2) (if e % 2 = 1 then acc * b % m else acc)

/-- Inverse modulo a prime. -/
def invMod (m x : Nat) : Nat := powMod m 256 (x % m) (m - 2) 1

/-- A point in Jacobian coordinates; z = 0 is the point at infinity. -/
structure JPoint where
  x : Nat
  y : Nat
  z : Nat
  deriving DecidableEq, Repr

/-- Subtraction modulo the field prime. -/
def subP (a b : Nat) : Nat := (a + (p256p - b % p256p)) % p256p

/-- Point doubling (a = −3). -/
def JPoint.dbl (q : JPoint) : JPoint :=
  if q.z = 0 ∨ q.y = 0 then ⟨1, 1, 0⟩
  else
    let p := p256p
    let zz := q.z * q.z % p
    let m := 3 * (subP q.x zz * (q.x + zz) % p) % p
    let yy := q.y * q.y % p
    let s := 4 * q.x * yy % p
    let x := subP (m * m % p) (2 * s)
    ⟨x, subP (m * subP s x % p) (8 * yy * yy), 2 * q.y * q.z % p⟩

/-- Point addition. -/
def JPoint.add (a b : JPoint) : JPoint :=
  if a.z = 0 then b
  else if b.z = 0 then a
  else
    let p := p256p
    let za := a.z * a.z % p
    let zb := b.z * b.z % p
    let u1 := a.x * zb % p
    let u2 := b.x * za % p
    let s1 := a.y * b.z % p * zb % p
    let s2 := b.y * a.z % p * za % p
    if u1 = u2 then (if s1 = s2 then a.dbl else ⟨1, 1, 0⟩)
    else
      let h := subP u2 u1
      let r := subP s2 s1
      let hh := h * h % p
      let hhh := hh * h % p
      let v := u1 * hh % p
      let x := subP (subP (r * r % p) hhh) (2 * v)
      ⟨x, subP (r * subP v x % p) (s1 * hhh), h * a.z % p * b.z % p⟩

/-- Scalar multiplication over n bits of the scalar. -/
def JPoint.mul : Nat → Nat → JPoint → JPoint → JPoint
  | 0, _, _, acc => acc
  | n + 1, k, q, acc => JPoint.mul n (k / 2) q.dbl (if k % 2 = 1 then acc.add q else acc)

/-- The affine x of a point. -/
def JPoint.affX (q : JPoint) : Nat :=
  let i := invMod p256p q.z
  q.x * (i * i % p256p) % p256p

/-- Is (x, y) a point of the curve? -/
def onCurve (x y : Nat) : Bool :=
  decide (x < p256p) && decide (y < p256p) &&
    y * y % p256p == (x * x % p256p * x + (p256p - 3) * x + p256b) % p256p

/-- ECDSA P-256 with SHA-256: public key X ‖ Y, signature r ‖ s, each 32 bytes big-endian (R40). -/
def ecdsaOk (pub sig msg : List Byte) : Bool :=
  let x := be (slice pub 0 32)
  let y := be (slice pub 32 32)
  let r := be (slice sig 0 32)
  let sv := be (slice sig 32 32)
  if !onCurve x y || r == 0 || decide (p256n ≤ r) || sv == 0 || decide (p256n ≤ sv) then false
  else
    let z := be (sha256 msg)
    let w := invMod p256n sv
    let u1 := z * w % p256n
    let u2 := r * w % p256n
    let inf : JPoint := ⟨1, 1, 0⟩
    let q := (JPoint.mul 256 u1 ⟨p256gx, p256gy, 1⟩ inf).add (JPoint.mul 256 u2 ⟨x, y, 1⟩ inf)
    if q.z = 0 then false else q.affX % p256n == r

end Sys2Proof.Machine
end

