-- ==== Sys2Proof/Machine/Flags.lean ====
section
/-! DEFINITION. Event flags, the MSI-X vectors they drive (R434, R435, R444) and fault messages (R403, R422). -/
namespace Sys2Proof.Machine

/-- Is an enabled event set in one event register? -/
def State.evCond (s : State) (ev en : Nat) : Bool := (s.rd ev &&& s.rd en) != 0

/-- Is an enabled event set in any page of a family of pages? Event registers reset to 0, so only listed ones count. -/
def State.pagesCond (s : State) (lo hi stride ev en : Nat) : Bool :=
  s.regs.any fun e => decide (lo ≤ e.1) && decide (e.1 < hi) && (e.1 - lo) % stride == ev &&
    (e.2 &&& s.rd (e.1 - ev + en)) != 0

/-- Is an event of a flow context set that MED_EVENT_EN enables, its enables shifted down by `sh` (R362)? -/
def State.medCond (s : State) (lo hi ev sh : Nat) : Bool :=
  s.regs.any fun e => decide (lo ≤ e.1) && decide (e.1 < hi) && (e.1 - lo) % 64 == ev &&
    (e.2 &&& (s.rd Reg.MED_EVENT_EN >>> sh)) != 0

/-- The condition of an MSI-X vector (R434). -/
def State.vecCond (s : State) (v : Nat) : Bool :=
  match v with
  | 0 => s.evCond Reg.CPT_EVENT Reg.CPT_EVENT_EN
  | 1 => s.evCond Reg.TOP_EVENT Reg.TOP_EVENT_EN
  | 2 => s.evCond Reg.FLT_EVENT Reg.FLT_EVENT_EN
  | 3 => s.evCond Reg.TWN_EVENT Reg.TWN_EVENT_EN
  | 4 => s.evCond Reg.TMG_EVENT Reg.TMG_EVENT_EN
  | 5 => s.evCond Reg.SYN_EVENT Reg.SYN_EVENT_EN
  | 6 => s.evCond Reg.PTP_EVENT Reg.PTP_EVENT_EN
  | 7 => s.evCond Reg.XPT_EVENT Reg.XPT_EVENT_EN
  | 8 => s.evCond Reg.FST_EVENT Reg.FST_EVENT_EN
  | 9 => s.evCond Reg.AUD_EVENT Reg.AUD_EVENT_EN
  | 10 => s.evCond Reg.DRC_EVENT Reg.DRC_EVENT_EN
  | 11 => s.evCond Reg.LIFE_EVENT Reg.LIFE_EVENT_EN
  | 12 => s.pagesCond 0x0C0000 0x0E0000 0x800 8 12
  | 13 => s.pagesCond 0x400000 0x500000 0x400 8 12 || s.pagesCond 0x3FC000 0x3FE800 0x400 8 12
  | 14 => s.pagesCond 0x580000 0x5C0000 0x100 12 16 || s.pagesCond 0x500000 0x580000 0x200 8 12 ||
      s.pagesCond 0x5C0000 0x5C0400 0x200 8 12
  | 15 => s.medCond 0x140000 0x1C0000 0x28 0 || s.medCond 0x1C0000 0x240000 0x2C 8
  | 48 => s.evCond Reg.DMA_EVENT Reg.DMA_EVENT_EN
  | n => decide (16 ≤ n) && decide (n < 48) &&
      bit (s.rd Reg.DMA_CH_EVENT &&& s.rd Reg.DMA_CH_EVENT_EN) (n - 16)

/-- Is a vector masked, by its own mask bit or the function mask? -/
def State.vecMasked (s : State) (v : Nat) : Bool := s.pcie.msixMask || s.rdBit (Reg.MSIX_CTRL v) 0

/-- Signal a vector whose condition rose or was left set: send its message, or set its pending bit if it is masked;
nothing with MSI-X disabled (R435). -/
def State.signal (s : State) (v : Nat) : State :=
  if !s.pcie.msixEn then s
  else if s.vecMasked v then s.wrBit (Reg.MSIX_PENDING (v / 32)) (v % 32) true
  else s.emit (.msix v (s.rd64 (Reg.MSIX_ADDR_LO v) (Reg.MSIX_ADDR_HI v)) (s.rd (Reg.MSIX_DATA v)).toNat)

/-- Signal a vector if its condition rose between two states (R435). -/
def State.irqRise (old s : State) (v : Nat) : State := if s.vecCond v && !old.vecCond v then s.signal v else s

/-- Set flags of an event register that drives a vector, and signal the vector if its condition rises. -/
def State.event (s : State) (ev v : Nat) (m : Word) : State := State.irqRise s (s.orReg ev m) v

/-- Set one TOP event (R70). -/
def State.topEvent (s : State) (i : Nat) : State := s.event Reg.TOP_EVENT 1 (maskBit i)
/-- Set one FLT event (R424). -/
def State.fltEvent (s : State) (i : Nat) : State := s.event Reg.FLT_EVENT 2 (maskBit i)
/-- Set one TWN event (R247). -/
def State.twnEvent (s : State) (i : Nat) : State := s.event Reg.TWN_EVENT 3 (maskBit i)
/-- Set one SYN event (R285). -/
def State.synEvent (s : State) (i : Nat) : State := s.event Reg.SYN_EVENT 5 (maskBit i)
/-- Set one PTP event (R382). -/
def State.ptpEvent (s : State) (i : Nat) : State := s.event Reg.PTP_EVENT 6 (maskBit i)
/-- Set one XPT event (R113). -/
def State.xptEvent (s : State) (i : Nat) : State := s.event Reg.XPT_EVENT 7 (maskBit i)
/-- Set one FST event (R146). -/
def State.fstEvent (s : State) (i : Nat) : State := s.event Reg.FST_EVENT 8 (maskBit i)
/-- Set one AUD event (R202). -/
def State.audEvent (s : State) (i : Nat) : State := s.event Reg.AUD_EVENT 9 (maskBit i)
/-- Set one DRC event (R402). -/
def State.drcEvent (s : State) (i : Nat) : State := s.event Reg.DRC_EVENT 10 (maskBit i)
/-- Set one LIFE event (R426). -/
def State.lifeEvent (s : State) (i : Nat) : State := s.event Reg.LIFE_EVENT 11 (maskBit i)
/-- Set one CPT event (R451). -/
def State.cptEvent (s : State) (i : Nat) : State := s.event Reg.CPT_EVENT 0 (maskBit i)
/-- Set one event of a compositor page (R173). -/
def State.cmpEvent (s : State) (c i : Nat) : State := s.event (Reg.CMP_EVENT c) 12 (maskBit i)
/-- Set one event of a lane page (R308). -/
def State.lanEvent (s : State) (p i : Nat) : State := s.event (Reg.LAN_EVENT p) 13 (maskBit i)
/-- Set one event of an SDI page (R325). -/
def State.sdiEvent (s : State) (p i : Nat) : State := s.event (Reg.SDI_EVENT p) 14 (maskBit i)
/-- Set one event of a MAC page (R338). -/
def State.macEvent (s : State) (p i : Nat) : State := s.event (Reg.MAC_EVENT p) 14 (maskBit i)
/-- Set one event of a receive context (R362). -/
def State.rxcEvent (s : State) (n i : Nat) : State := s.event (Reg.RXC_EVENT n) 15 (maskBit i)
/-- Set one event of a transmit context (R362). -/
def State.txcEvent (s : State) (n i : Nat) : State := s.event (Reg.TXC_EVENT n) 15 (maskBit i)
/-- Set the event of a DMA channel: bit c of DMA_CH_EVENT drives vector 16 + c (R434). -/
def State.chanEvent (s : State) (c : Nat) : State := s.event Reg.DMA_CH_EVENT (16 + c) (maskBit c)
/-- Set one DMA event (R452). -/
def State.dmaEvent (s : State) (i : Nat) : State := s.event Reg.DMA_EVENT 48 (maskBit i)

/-- The pages of the bound compositors (R171). -/
def State.boundCmps (s : State) : List Nat := (List.range 64).filter fun c => s.rdBit (Reg.CMP_CFG c) 31

/-- A refused attempt on the lintel layer (R171): counted, and flagged in the page of each bound compositor. -/
def State.lintelRefused (s : State) : State :=
  let s1 := (s.bump Reg.CMP_CNT_LINTEL_REFUSED)
  (s1.boundCmps).foldl (fun a c => a.cmpEvent c 2) (s1.setLin { s1.lin with refused := s1.lin.refused + 1 })

/-! Faults on their way to the collector. -/

/-- The order of acceptance of messages of one instant: by source, then kind, then ADDR (R422). -/
def FaultMsg.before (a b : FaultMsg) : Bool :=
  decide (a.time < b.time) || (a.time == b.time &&
    (decide (a.source < b.source) || (a.source == b.source &&
      (decide (a.kind < b.kind) || (a.kind == b.kind && decide (a.addr < b.addr))))))

/-- Insert a message in the order of acceptance. -/
def FaultMsg.insert (m : FaultMsg) : List FaultMsg → List FaultMsg
  | [] => [m]
  | x :: xs => if m.before x then m :: x :: xs else x :: FaultMsg.insert m xs

/-- A unit raises a fault message: source, kind, ADDR, class at raising (R405, R406). -/
def State.raise (s : State) (source kind addr cls : Nat) : State :=
  s.setFlt { s.flt with
      inbox := FaultMsg.insert ⟨s.now, source, kind, addr % 4294967296, cls⟩ s.flt.inbox }

/-- The source ID of a lane page (R405). -/
def laneSource (i : Nat) : Nat := if i < 1024 then 0x100 + i else if i < 1032 then 0x088 + (i - 1024) else 0x090 + (i - 1032)

/-- The health unit of a source ID (R405). -/
def healthUnit (src : Nat) : Nat :=
  if src < 0x010 then 0
  else if src < 0x018 then 1
  else if src < 0x020 then 2
  else if src < 0x040 then 3
  else if src < 0x080 then 4
  else if src < 0x090 then 5
  else if src < 0x098 then 6
  else if src < 0x0A0 then 7
  else if src < 0x0C0 then 8 + (src - 0x0A0) / 4
  else if src < 0x0C8 then 8 + (src - 0x0C0)
  else if src < 0x500 then 16 + (src - 0x100) / 64
  else 16 + (src - 0x500)

end Sys2Proof.Machine
end

