-- ==== Sys2Proof/Machine/Link.lean ====
section
/-! DEFINITION. The party wall's messages, fragments, wall blocks and lanes, as the sender forms them (R214–R219, R221–R224, R237). -/
namespace Sys2Proof.Machine

/-! Fields. -/

/-- A device time in the TIME format of R104. -/
def timeBytes (ns : Nat) : List Byte := toBe 6 (ns / 1000000000) ++ toBe 4 (ns % 1000000000) ++ [0, 0]

/-- A byte of a body. -/
def byteAt (b : List Byte) (i : Nat) : Nat := (b.getD i 0).toNat

/-- A big-endian field of a body. -/
def beAt (b : List Byte) (o n : Nat) : Nat := be (slice b o n)

/-- An entry (R103). -/
def readEntry (b : List Byte) : Entry := ⟨byteAt b 0, beAt b 2 2, beAt b 4 2, beAt b 6 2⟩

/-- The bytes of an entry. -/
def entryBytes (e : Entry) : List Byte := [BitVec.ofNat 8 e.levels, 0] ++ toBe 2 e.dest ++ toBe 2 e.src ++ toBe 2 e.amap

/-- The entries of a run of bytes. -/
def readEntries : Nat → List Byte → List Entry
  | 0, _ => []
  | n + 1, b => readEntry (b.take 8) :: readEntries n (b.drop 8)

/-- A LIVE_SET entry (R109). -/
def readLive (b : List Byte) : LiveEntry := ⟨byteAt b 0, byteAt b 1, beAt b 4 4, slice b 8 8⟩

/-- The entries of a LIVE_SET body. -/
def readLives : Nat → List Byte → List LiveEntry
  | 0, _ => []
  | n + 1, b => readLive (b.take 16) :: readLives n (b.drop 16)

/-- The bytes of a LIVE_SET entry (R109). -/
def liveBytes (e : LiveEntry) : List Byte := [BitVec.ofNat 8 e.param, BitVec.ofNat 8 e.sub, 0, 0] ++ toBe 4 e.index ++ (e.value ++ List.replicate 8 0).take 8

/-! Message bodies (R221–R224, R237). -/

/-- A HEARTBEAT body (R221). -/
def heartbeatBody (h : Heartbeat) : List Byte :=
  toBe 2 h.systemId ++ toBe 2 (h.side % 2 * 32768 + h.pairId % 16384) ++ [BitVec.ofNat 8 h.mode, BitVec.ofNat 8 h.role,
    BitVec.ofNat 8 (b2n h.keyOut + 2 * b2n h.keyIn + 4 * b2n h.claiming + 8 * b2n h.seesUp), 0] ++ toBe 4 h.count ++ timeBytes h.time ++
    toBe 4 h.compat ++ toBe 4 h.genCommitted ++ toBe 4 h.genOnAir ++ toBe 2 h.score ++ [0, 0] ++ toBe 4 h.tableCrc ++ (h.hash ++ List.replicate 32 0).take 32

/-- A DECISION record (R222). -/
def decisionBytes (d : DecisionRec) : List Byte :=
  [BitVec.ofNat 8 d.kind, 0, BitVec.ofNat 8 d.tg, 0] ++ toBe 4 d.index ++ toBe 8 d.at_ ++ toBe 8 d.value

/-- A TAKE_ORDER body (R223). -/
def orderBody (o : Order) : List Byte :=
  let tail := if o.order = 0 then (o.entries.length, o.entries.flatMap entryBytes)
    else if o.order = 1 then (o.live.length, o.live.flatMap liveBytes) else (o.lintel.length, o.lintel)
  [BitVec.ofNat 8 o.order, 0, 0, 0] ++ toBe 2 o.sender ++ [0, 0] ++ toBe 4 o.id ++ toBe 4 o.gen ++ timeBytes o.commit ++
    ((List.range 16).flatMap fun g => toBe 8 (o.frames.getD g 0)) ++ toBe 4 tail.1 ++ tail.2

/-- A DIGEST record (R224). -/
def digestBytes (r : DigestRec) : List Byte :=
  [BitVec.ofNat 8 r.kind, BitVec.ofNat 8 (b2n r.localCause + 2 * b2n r.dark)] ++ toBe 2 r.id ++ toBe 4 r.crc

/-- A SALVO_PART body (R105). -/
def partBody (p : PartRec) : List Byte :=
  toBe 4 p.salvo ++ toBe 2 p.index ++ toBe 2 p.count ++ toBe 2 p.entries.length ++ [0, 0] ++ p.entries.flatMap entryBytes

/-- A sender's part of section 10 (R237): bit k of the seen map, from the low bit of its first byte on, stands for the sequence number k below the
highest (log 121). -/
def senderBytes (x : JoinSender) : List Byte :=
  toBe 2 x.sender ++ [0, 0] ++ toBe 4 x.session ++ toBe 4 x.highest ++ (List.range 128).map fun i =>
    BitVec.ofNat 8 ((List.range 8).foldl (fun a k => a + (if x.seen.contains (x.highest - (8 * i + k)) && decide (8 * i + k ≤ x.highest) then 2 ^ k else 0)) 0)

/-- The number of a section (R237). -/
def sectionNo : Section → Nat
  | .request => 0
  | .instant _ _ _ => 1
  | .videoCommitted _ => 2
  | .audioCommitted _ => 3
  | .orders _ => 4
  | .placement _ => 5
  | .live _ => 6
  | .compositors _ => 7
  | .lintel _ _ _ => 8
  | .streams _ _ => 9
  | .senders _ _ => 10
  | .videoOnAir _ => 11
  | .audioOnAir _ => 12

/-- The data of a section (R237). -/
def sectionData : Section → List Byte
  | .request => []
  | .instant tJ gc ga => timeBytes tJ ++ toBe 4 gc ++ toBe 4 ga
  | .videoCommitted ws => ws.flatMap (toBe 4)
  | .audioCommitted ws => ws.flatMap (toBe 4)
  | .orders os => os.flatMap orderBody
  | .placement ws =>
    [(4, 4096), (5, 4096), (6, 64), (7, 16384)].flatMap fun t =>
      (List.range t.2).flatMap fun i => toBe 4 (((ws.find? fun w => w.1 == t.1 * 16384 + i).map Prod.snd).getD 0)
  | .live es => es.flatMap liveBytes
  | .compositors cs => cs.flatMap fun e => [BitVec.ofNat 8 e.2.frames, BitVec.ofNat 8 (b2n e.2.change)] ++
      (List.range 12).flatMap fun n => toBe 8 (e.2.pinned.getD n 18446744073709551615)
  | .lintel m d slots => toBe 2 m ++ toBe 2 d ++ slots.flatten
  | .streams ss audio =>
    (ss.flatMap fun j => toBe 2 j.index ++ [0, 0] ++ toBe 8 j.widx ++ timeBytes j.arrival ++ toBe 8 j.lastRead ++ toBe 2 j.loss ++
      [BitVec.ofNat 8 j.mode, 0]) ++
    audio.flatMap fun j => toBe 2 j.index ++ toBe 8 j.block ++ [BitVec.ofNat 8 j.direction, 0]
  | .senders ss parts => ss.flatMap senderBytes ++ parts.flatMap partBody
  | .videoOnAir ws => ws.flatMap (toBe 4)
  | .audioOnAir ws => ws.flatMap (toBe 4)

/-- The TYPE of a message (R219). A fragment that firmware hands over carries its own. -/
def wallType : WallMsg → Nat
  | .heartbeat _ => 1
  | .giveUp _ => 2
  | .decision _ => 3
  | .takeOrder _ => 4
  | .digest _ _ _ => 5
  | .health _ _ _ => 6
  | .state _ => 7
  | .arbitrate _ _ _ _ _ => 8
  | .handover _ _ _ => 9
  | .replyRelay _ _ _ _ => 10
  | .fragment b => byteAt b 0
  | .block _ => 0
  | .resend _ => 0

/-- The body of a message (R221–R224). A STATE section goes as one part. -/
def wallBody : WallMsg → List Byte
  | .heartbeat h => heartbeatBody h
  | .giveUp r => [BitVec.ofNat 8 r, 0, 0, 0]
  | .decision rs => toBe 2 rs.length ++ [0, 0] ++ rs.flatMap decisionBytes
  | .takeOrder o => orderBody o
  | .digest tg frame rs => [BitVec.ofNat 8 tg, 0, 0, 0] ++ toBe 8 frame ++ toBe 2 rs.length ++ [0, 0] ++ rs.flatMap digestBytes
  | .health score capped ws => toBe 2 score ++ [BitVec.ofNat 8 (b2n capped), 0] ++ (List.range 32).flatMap fun u => toBe 4 (ws.getD u 0)
  | .state x => [BitVec.ofNat 8 (sectionNo x), 0, 0, 0, 0, 1, 0, 0] ++ sectionData x
  | .arbitrate phase result event units inputs =>
    [BitVec.ofNat 8 phase, BitVec.ofNat 8 result, 0, 0] ++ toBe 4 event ++ toBe 4 units ++
      inputs.flatMap fun r => toBe 2 r.input ++ [0, 0] ++ toBe 8 r.arrival ++ toBe 4 r.crc
  | .handover op tg frame => [BitVec.ofNat 8 op, BitVec.ofNat 8 tg, 0, 0] ++ toBe 8 frame
  | .replyRelay ip udp mgt bytes => toBe 4 ip ++ toBe 2 udp ++ [BitVec.ofNat 8 mgt, 0] ++ bytes
  | .fragment b => b.drop 8
  | .block _ => []
  | .resend _ => []

/-- The priority of a type (R219); a type not listed goes last. -/
def typePriority (ty : Nat) : Nat :=
  match ty with
  | 1 => 1
  | 2 => 1
  | 3 => 2
  | 4 => 3
  | 8 => 3
  | 9 => 3
  | 5 => 4
  | 6 => 4
  | _ => 5

/-! Fragments (R218). -/

/-- The fragments of a message of a type, body and MSG_ID: each at most 4,096 bytes, header included. -/
def fragmentsOf (ty id : Nat) (body : List Byte) : List (List Byte) :=
  let n := max 1 ((body.length + 4087) / 4088)
  (List.range n).map fun k =>
    let data := slice body (4088 * k) 4088
    [BitVec.ofNat 8 ty, BitVec.ofNat 8 (b2n (k + 1 == n))] ++ toBe 2 (8 + data.length) ++ toBe 4 id ++ data

/-! Wall blocks (R214, R215, R217). -/

/-- A control block. -/
def control (bs : List Byte) : Block66 := ⟨2, bs⟩

/-- FILLER. -/
def fillerBlock : Block66 := control (0x1E :: List.replicate 7 0)

/-- ALIGN of a lane, the n-th marker. -/
def alignBlock (lane n : Nat) : Block66 := control ([0x66, BitVec.ofNat 8 lane] ++ toBe 3 n ++ [0, 0, 0])

/-- RESEND. -/
def resendBlock (bseq : Nat) : Block66 := control ([0xC3] ++ toBe 3 bseq ++ [0, 0, 0, 0])

/-- The 64b/66b blocks of a wall block: HEAD, the message bytes padded to whole data blocks, TAIL. -/
def wallBlocks (bseq ack : Nat) (data : List Byte) : List Block66 :=
  let n := (data.length + 7) / 8
  let padded := data ++ List.replicate (8 * n - data.length) 0
  let used := if data.length % 8 = 0 then 8 else data.length % 8
  control ([0xA5] ++ toBe 3 bseq ++ toBe 3 ack ++ [0]) ::
    ((List.range n).map fun k => (⟨1, slice padded (8 * k) 8⟩ : Block66)) ++
    [control ([0xB4, BitVec.ofNat 8 used] ++ toBe 4 (crc32 data) ++ [0, 0])]

/-! The lanes (R214–R216). A lane sends 25.78125 Gb/s / 66 blocks a second: block slot n of every lane falls at n × 64 / 25 ns. ALIGN stands on every
bonded lane in each slot that is a multiple of 4,096, FILLER in the slot after each multiple of 1,024, and in every slot that nothing else takes. -/

/-- What a lane sends in a slot in which no wall block is dealt. -/
def idleBlock (lane slot : Nat) : Block66 := if slot % 4096 = 0 then alignBlock lane (slot / 4096) else fillerBlock

/-- Is a slot kept for ALIGN or FILLER? -/
def slotKept (slot : Nat) : Bool := slot % 4096 == 0 || slot % 1024 == 1

/-- The lanes the wall bonds, in lane order (R214). -/
def State.bonded (s : State) : List Nat := (List.range 8).filter s.twn.wall.locked.testBit

/-- The kept slots from a slot on, at most two, with what every bonded lane sends in them, and the first slot free after them. -/
def keptFrom (lanes : List Nat) (slot : Nat) : List (Nat × Nat × Block66) × Nat :=
  let col (n : Nat) : List (Nat × Nat × Block66) := lanes.map fun l => (l, n, idleBlock l n)
  if slotKept slot then (if slotKept (slot + 1) then (col slot ++ col (slot + 1), slot + 2) else (col slot, slot + 1)) else ([], slot)

/-- Blocks are dealt to the bonded lanes in turn, from a lane and a slot on: what is sent, and where the next one goes. -/
def dealFrom (lanes : List Nat) : List Block66 → Nat → Nat → List (Nat × Nat × Block66) × Nat × Nat
  | [], pos, slot => ([], pos, slot)
  | b :: bs, pos, slot =>
    let k := keptFrom lanes slot
    let next := if pos + 1 < lanes.length then (pos + 1, k.2) else (0, k.2 + 1)
    let r := dealFrom lanes bs next.1 next.2
    (k.1 ++ (lanes.getD pos 0, k.2, b) :: r.1, r.2)

/-- Blocks go out over the bonded lanes, no sooner than the next slot. -/
def State.deal (s : State) (bs : List Block66) : State :=
  let lanes := s.bonded
  if lanes.isEmpty then s
  else
    let w := s.twn.wall
    let r := dealFrom lanes bs w.txPos (max w.txSlot (s.now * 25 / 64 + 1))
    s.setTwn { s.twn with wall := { w with line := w.line ++ r.1, txPos := r.2.1, txSlot := r.2.2 } }

/-- The wall bonds another set of lanes: dealing starts anew from the first of them (R214). -/
def State.rebond (s : State) (locked : Nat) : State :=
  s.setTwn { s.twn with wall := { s.twn.wall with locked := locked, txPos := 0, rxPos := 0, rxFifo := [] } }

/-! Sending (R217, R218). -/

/-- The highest BSEQ received in order: ACK of every HEAD. -/
def State.wallAck (s : State) : Nat := (s.twn.wall.rxNext + 16777215) % 16777216

/-- A fragment goes out in the next wall block, which stays unacknowledged. -/
def State.transmitWall (s : State) (f : WallFrag) : State :=
  let w := s.twn.wall
  let s1 := s.setTwn { s.twn with wall := { w with
      txBseq := (w.txBseq + 1) % 16777216
      unacked := w.unacked ++ [⟨w.txBseq, s.now, f.bytes, f.buffer⟩] } }
  let s2 := s1.deal (wallBlocks w.txBseq s.wallAck f.bytes)
  match f.msg with
  | some m => s2.emit (.wall m)
  | none => s2

/-- Insert a fragment behind those of its priority and above (R218). -/
def queueFrag (f : WallFrag) : List WallFrag → List WallFrag
  | [] => [f]
  | x :: xs => if f.priority < x.priority then f :: x :: xs else x :: queueFrag f xs

/-- Fragments that wait go out while fewer than 256 wall blocks are unacknowledged (R217). -/
def State.drainWall (s : State) : Nat → State
  | 0 => s
  | fuel + 1 =>
    match s.twn.wall.queue with
    | [] => s
    | f :: rest =>
      if s.twn.wall.unacked.length < 256 then
        State.drainWall ((s.setTwn { s.twn with wall := { s.twn.wall with queue := rest } }).transmitWall f) fuel
      else s

/-- A fragment is handed to the engine. -/
def State.handFrag (s : State) (f : WallFrag) : State :=
  let s1 := s.setTwn { s.twn with wall := { s.twn.wall with queue := queueFrag f s.twn.wall.queue } }
  s1.drainWall s1.twn.wall.queue.length

/-- A party-wall message is sent, in fragments with the next MSG_ID (R218). -/
def State.sendWall (s : State) (m : WallMsg) : State :=
  let frags := fragmentsOf (wallType m) s.twn.wall.msgId (wallBody m)
  let s1 := s.setTwn { s.twn with wall := { s.twn.wall with msgId := (s.twn.wall.msgId + 1) % 4294967296 } }
  frags.zipIdx.foldl (fun a f =>
    a.handFrag ⟨typePriority (wallType m), if f.2 + 1 = frags.length then some m else none, f.1, none⟩) s1

end Sys2Proof.Machine
end

