-- ==== Sys2Proof/Machine/Modes.lean ====
section
/-! DEFINITION. Mode and role changes, the fall of the key, entry to SAFE (R55–R60, R209, R212) and the start of
reaping (R458, R464). -/
namespace Sys2Proof.Machine

/-- Does a command that waits behind the one at hand fall in the same instant (R58, R213)? -/
def State.sameInstant (s : State) (p : Instr → Bool) : Bool := s.pending.any p

/-- Does firmware write FLT_KICK in this instant (R411)? -/
def State.kickFalls (s : State) : Bool :=
  s.sameInstant fun c => match c with
    | .fltKick t => decide (t ≤ s.now)
    | .registerWrite t off _ fromCard full _ => decide (t ≤ s.now) && off == Reg.FLT_KICK && (!fromCard || (full && s.pcie.linkUp && !s.pcie.d3hot))
    | _ => false

/-- The mode changes (R55): TOP_EVENT.MODE_CHANGED is set. -/
def State.setMode (s : State) (m : Mode) : State :=
  if s.ctl.mode = m then s
  else (s.setCtl { s.ctl with mode := m, modeSince := s.now }).topEvent 0

/-- The role changes (R70): TOP_EVENT.ROLE_CHANGED is set. -/
def State.setRole (s : State) (r : Role) : State :=
  if s.ctl.role = r then s
  else (s.setCtl { s.ctl with role := r }).topEvent 1

/-- KEY_OUT is driven low (R209); a claim that waits for its re-sample is void (R213). -/
def State.keyLow (s : State) : State :=
  let s1 := s.setTwn { s.twn with key := { s.twn.key with claimAt := none, conflictAt := none } }
  if s.pins.keyOut then (s1.setPins { s1.pins with keyOut := false }).twnEvent 1 else s1

/-- The request in validation is discarded: nothing of it is applied, and it is not answered (R514). The take engine validates the front salvo; a
LIVE_SET or LINTEL message is in validation at the front of the receive queue. -/
def State.dropValidation (s : State) : State :=
  if s.ctl.mode = .service ∧ !(s.ctl.role == .follower && s.twn.wall.up) then
    s.setXpt { s.xpt with
      queue := s.xpt.queue.drop 1
      rx := match s.xpt.rx with
        | m :: rest => if m.reply.type = 0x20 ∨ m.reply.type = 0x40 then rest else m :: rest
        | [] => [] }
  else s

/-- A give-up with a reason (R212): KEY_OUT falls, then GIVE_UP is sent if the party wall is up. -/
def State.giveUp (s : State) (reason : Nat) : State :=
  let s1 := s.keyLow.dropValidation
  let s2 := s1.setTwn { s1.twn with key := { s1.twn.key with gaveUp := some (reason, s1.now) } }
  if s2.twn.wall.up then s2.sendWall (.giveUp reason) else s2

/-- The closing claim of TRAIN, if it runs, is over (R207, R213). -/
def State.endClosing (s : State) : State :=
  s.setTwn { s.twn with key := { s.twn.key with closing := false } }

/-- ALIVE stops, held at its last level (R410). -/
def State.aliveStop (s : State) : State := s.setFlt { s.flt with aliveRuns := false }

/-- Is an offset a LANn_STATUS register? -/
def isLaneStatus (off : Nat) : Bool :=
  (decide (0x400000 ≤ off) && decide (off < 0x500000) && off % 0x400 == 4) ||
  (decide (0x3FC000 ≤ off) && decide (off < 0x3FE000) && off % 0x400 == 4 && decide (off < 0x3FE000))

/-- Every lane in L0 goes to LS (R59: all output transmitters in electrical idle; R297). PW, MGT0 and MGT1 keep L0
when `keepDedicated`. -/
def State.lanesIdle (s : State) : State :=
  s.setRegs (s.regs.map fun e =>
      if decide (0x400000 ≤ e.1) && decide (e.1 < 0x500000) && e.1 % 0x400 == 4 && fld e.2 29 28 == 0
      then (e.1, setFld e.2 29 28 1) else e)

/-- The outputs go dark: no group's outputs are lit, and the numbered lanes go to electrical idle (R59). -/
def State.darken (s : State) : State :=
  (s.setTwn { s.twn with lit := 0 }).lanesIdle

/-- An armed or proposed handover is cancelled: HANDOVER reads refused (R241). -/
def State.cancelHandover (s : State) : State :=
  if s.twn.ho.phase = 0 then s
  else s.setTwn { s.twn with ho := { s.twn.ho with phase := 0, status := 3 } }

/-- The TDM ports that run and so have a tail to end (R196, R459): APp_STATUS.RUNNING or LEAD. -/
def State.runningPorts (s : State) : List Nat :=
  (List.range 16).filter fun p => s.rdBit (Reg.AP_STATUS p) 31 || s.rdBit (Reg.AP_STATUS p) 27

/-- Reaping starts (R458, R467): sowing stops, moves still queued are discarded, running ports owe a tail. A stronger
cause replaces a weaker one. -/
def State.startReaping (s : State) (c : ReapCause) : State :=
  s.setPower { s.power with
      reaping := some c
      reapAt := s.now
      sowing := false
      toSow := []
      moves := []
      tails := if s.power.reaping.isSome then s.power.tails else s.runningPorts }

/-! The maintenance scheduler (R415, R416). -/

/-- A resource that does nothing. -/
def idleRes : MntRes := ⟨none, [], 0, none, 0, 0⟩

/-- A resource. -/
def State.res (s : State) (r : Nat) : MntRes := Tab.get idleRes s.mnt r

/-- Replace a resource. -/
def State.setRes (s : State) (r : Nat) (x : MntRes) : State := s.setMnt (Tab.put idleRes s.mnt r x)

/-- The flash resource. -/
def flashRes : Nat := 74

/-- Does a resource exist in the variant (R415)? -/
def State.resPresent (s : State) (r : Nat) : Bool :=
  if r < 64 then decide (16 * r < s.dev.variant.lanes)
  else if 66 ≤ r ∧ r < 74 then decide (r - 66 < s.dev.variant.groups)
  else if r = 76 then decide (0 < s.dev.variant.compositors)
  else decide (r < 77)

/-- The resource of a lane page (R302, R415). -/
def laneRes (i : Nat) : Nat := if i < 1024 then i / 16 else if i < 1032 then 64 else 65

/-- A lane beside its registers, with nothing in progress. -/
def coldLane : LaneRun := ⟨none, none, 0, 0, false, 0⟩

/-- A lane's run. -/
def State.lane (s : State) (i : Nat) : LaneRun := Tab.get coldLane s.lan i

/-- Replace a lane's run. -/
def State.setLane (s : State) (i : Nat) (x : LaneRun) : State := s.setLan (Tab.put coldLane s.lan i x)

/-- What a start does in the unit that asked: a lane test runs, and takes a party-wall lane out of the bond (R302); a life-log write takes what is
queued, the session no longer shows QUEUED unless another DATA chunk still waits (R49); ZQCal Start is issued (R399). -/
def State.activityStarts (s : State) (a : Activity) : State :=
  if a.code = 7 then
    let s1 := (s.wrFld (Reg.LAN_TEST a.unit) 31 28 2).setLane a.unit { s.lane a.unit with testAt := s.now }
    let k := 2 ^ (a.unit - 1024)
    if 1024 ≤ a.unit ∧ a.unit < 1032 ∧ s1.twn.wall.locked / k % 2 = 1 then s1.rebond (s1.twn.wall.locked - k) else s1
  else if a.code = 1 then s.setLife { s.life with writing := s.life.queued.length }
  else if a.code = 4 then s.setDrcs { s.drc with zqAt := Tab.put 0 s.drc.zqAt a.unit s.now }
  else if a.code = 3 then
    if (s.res flashRes).queue.any (fun q => q.code == 3) then s else s.wrFld Reg.BOOT_WR_STATUS 3 0 1
  else s

/-- Whether a request was started, queued or refused. -/
inductive Admission where
  | started
  | queued
  | refused
  deriving DecidableEq, Repr

/-- The order of requests of one instant: by code, then lane, channel or unit (R416). -/
def Activity.before (a b : Activity) : Bool := decide (a.code < b.code) || (a.code == b.code && decide (a.unit < b.unit))

/-- A request goes behind those of its instant that come before it. -/
def Activity.insert (a : Activity) : List Activity → List Activity
  | [] => [a]
  | x :: xs => if a.before x then a :: x :: xs else x :: Activity.insert a xs

/-- An activity waits: in request order, and among the requests of this instant in their own order (R416). -/
def MntRes.wait (x : MntRes) (now : Nat) (a : Activity) : MntRes :=
  let k := if x.askedAt = now then x.asked else 0
  let n := x.queue.length - k
  { x with queue := x.queue.take n ++ a.insert (x.queue.drop n), askedAt := now, asked := k + 1 }

/-- A start of this instant gives way to a request that comes before it: its unit waits again. A party-wall lane that has left the bond keeps its start. -/
def State.givesWay (s : State) (b a : Activity) : Option State :=
  if a.before b = false ∨ (b.code = 7 ∧ 1024 ≤ b.unit ∧ b.unit < 1032) then none
  else if b.code = 7 then some (s.wrFld (Reg.LAN_TEST b.unit) 31 28 1)
  else if b.code = 3 then some (s.wrFld Reg.BOOT_WR_STATUS 3 0 2)
  else some s

/-- An activity asks for its resource (R416). -/
def State.mntRequest (s : State) (r : Nat) (a : Activity) : State × Admission :=
  let x := s.res r
  match x.running with
  | none => ((s.setRes r { x with running := some a, began := some s.now }).activityStarts a, .started)
  | some b =>
    if a.code = 1 ∧ x.queue.any (fun q => q.code == 1) then (s, .queued)
    else match if x.began = some s.now then s.givesWay b a else none with
      | some s1 => ((s1.setRes r { x.wait s.now b with running := some a }).activityStarts a, .started)
      | none =>
        if a.code = 1 ∨ a.code = 2 ∨ x.queue.length < 16 then (s.setRes r (x.wait s.now a), .queued)
        else (s.setRes r { x with refused := min (x.refused + 1) 65535 }, .refused)

/-- The running activity of a resource ends and the next one starts (R416). -/
def State.mntDone (s : State) (r : Nat) : State :=
  let x := s.res r
  match x.queue with
  | a :: rest => (s.setRes r { x with running := some a, queue := rest, began := none }).activityStarts a
  | [] => s.setRes r { x with running := none, began := none }

/-- A queued activity is withdrawn. -/
def State.mntWithdraw (s : State) (r : Nat) (a : Activity) : State :=
  let x := s.res r
  s.setRes r { x with queue := x.queue.filter fun q => decide (q ≠ a) }

/-- A directory write is queued on the flash resource; one that waits carries every change due when it is made (R34). -/
def State.queueDir (s : State) : State :=
  if 0 < s.boot.dirQueued then s
  else ((s.setBoot { s.boot with dirQueued := 1 }).mntRequest flashRes ⟨2, 0⟩).1

/-- The repair of a defaulted directory, still owed, is queued (R33, R34). -/
def State.repairDir (s : State) : State :=
  if s.boot.defaulted then (s.setBoot { s.boot with defaulted := false }).queueDir else s

/-- An entry to SERVICE from TRAIN in the instant of a C4 record has not happened (R58): the slot does not become GOOD, BOOT_TIME is not taken. -/
def State.takeBackEntry (s : State) : State :=
  match s.ctl.mark with
  | some m =>
    if m.at_ = s.now ∧ s.ctl.mode = .service then
      (((s.setCtl { s.ctl with role := m.role, entered := m.entered, mark := none }).wr Reg.BOOT_TIME (BitVec.ofNat 32 m.bootTime)).setBoot
        { s.boot with dirDue := m.due, defaulted := m.defaulted, dirQueued := m.queued }).setRes flashRes m.flash
    else s
  | none => s

/-- Entry to SAFE (R59, R209, R212, R213): `cause` 2 a C4 record of `kind` and `source`, 3 the command, 1 both slots
refused. KEY_OUT falls and GIVE_UP with reason 1 is sent by a device that held the key; ALIVE holds its level; the
outputs go dark; the stages down to S3 are reaped. A RESTART of the same instant waits for that (R58). -/
def State.enterSafe (s0 : State) (cause kind source : Nat) : State :=
  let s := if cause = 2 then s0.takeBackEntry else s0
  let s1 := s.setFlt { s.flt with severeLatched := s.flt.severeLatched || cause != 1 }
  if s1.ctl.mode = .safe then s1
  else
    let s2 := if s1.pins.keyOut then s1.giveUp 1 else s1.keyLow
    let s2 := s2.setFlt { s2.flt with armed := false }
    let s3 := (s2.endClosing.cancelHandover.aliveStop.setMode .safe).wr Reg.TOP_SAFE_CAUSE
      (BitVec.ofNat 32 (kind * 16777216 + source * 4096 + cause))
    let s4 := s3.darken.repairDir
    let s5 := if s1.ctl.mode = .boot then (s4.setBoot { s4.boot with stage := .idle }) else s4
    match s5.power.reaping with
    | none => s5.startReaping .safe
    | some .fallback => s5.startReaping .safe
    | some .restart =>
      if s5.power.reapAt = s5.now then
        (s5.startReaping .safe).setPower { (s5.startReaping .safe).power with restartDue := true, finalCheckpoint := false }
      else s5
    | _ => s5

/-- The strength of a reset cause: power fail over pin over restart (R467). -/
def ReapCause.rank : ReapCause → Nat
  | .fallback => 0
  | .safe => 1
  | .restart => 2
  | .pin => 3
  | .powerFail => 4

/-- Reaping for a reset starts (R464): ALIVE stops, KEY_OUT falls, the outputs go dark. The final checkpoint is owed for
a restart and a pin reset, and dropped when PWRGOOD falls (R458, R467). A weaker cause does not replace a stronger
one that runs. -/
def State.reapForReset (s : State) (c : ReapCause) : State :=
  let s1 := s.aliveStop.keyLow.endClosing.cancelHandover.darken
  match s1.power.reaping with
  | some r =>
    if r.rank < c.rank then
      let s2 := s1.startReaping c
      (s2.setPower { s2.power with finalCheckpoint := decide (c ≠ .powerFail) })
    else s1
  | none =>
    let s2 := s1.startReaping c
    (s2.setPower { s2.power with finalCheckpoint := decide (c ≠ .powerFail) })

/-- Device time in ns (R364): the always-on count plus the offset the time servo keeps, in 10⁻⁹ ns. -/
def State.deviceTime (s : State) : Nat := ((s.now : Int) + s.ptp.offset / 1000000000).toNat

/-- A stream, layer or audio input took a local or fallback path now (R225, R235). What is older than 1 s is forgotten: digests go out within 1 ms of
their frame. -/
def State.noteLocal (s : State) (key : Nat) : State :=
  s.setTwn { s.twn with causes := (key, s.deviceTime) :: s.twn.causes.filter fun e => decide (s.deviceTime ≤ e.2 + 1000000000) }

/-- Is FAULT_N driven low (R412)? -/
def State.faultN (s : State) : Bool := s.flt.severeLatched || (s.rd (Reg.FLT_OPEN_C 3)) != 0

end Sys2Proof.Machine
end

