-- ==== Sys2Proof/Machine/Bus.lean ====
section
/-! DEFINITION. The internal address map and the accesses to its memories (R386, R388, R430, R431, R437–R439). -/
namespace Sys2Proof.Machine

/-- Where an internal address lies (R437): the offset inside the target; for an outbound window the host address. -/
inductive Target where
  | rom (off : Nat)
  | tcm (off : Nat)
  | regs (off : Nat)
  | mailbox (off : Nat)
  | flash (off : Nat)
  | dram (off : Nat)
  | host (addr : Nat)
  deriving DecidableEq, Repr

/-- Decode n bytes at an internal address; none is a decode error (R437). -/
def State.target (s : State) (a n : Nat) : Option Target :=
  if a + n ≤ 0x80000 then some (.rom a)
  else if 0x10000000 ≤ a ∧ a + n ≤ 0x10100000 then some (.tcm (a - 0x10000000))
  else if 0x20000000 ≤ a ∧ a + n ≤ 0x21000000 then some (.regs (a - 0x20000000))
  else if 0x30000000 ≤ a ∧ a + n ≤ 0x30020000 then some (.mailbox (a - 0x30000000))
  else if 0x40000000 ≤ a ∧ a + n ≤ 0x48000000 then some (.flash (a - 0x40000000))
  else if 0x100000000 ≤ a ∧ a + n ≤ 0x2100000000 then some (.dram (a - 0x100000000))
  else if 0x8000000000 ≤ a then
    let w := (a - 0x8000000000) / 0x1000000000
    let y := (a - 0x8000000000) % 0x1000000000
    if w < 8 ∧ s.rdBit Reg.CPT_OBW_CTRL w ∧ y + n ≤ 0x1000000000 then
      some (.host (s.rd64 (Reg.CPT_OBW_BASE_LO w) (Reg.CPT_OBW_BASE_HI w) + y))
    else none
  else none

/-- Is a channel group declared by the running image (R70, R385)? -/
def State.groupUsed (s : State) (g : Nat) : Bool :=
  decide (g < s.dev.variant.groups) && s.rdBit Reg.TOP_USAGE (24 + g)

/-- The bytes of DRAM fitted in a group: 4 channels of 1 or 2 ranks of 1 GiB or 2 GiB (R384, R386). -/
def State.groupBytes (s : State) : Nat :=
  4 * (if s.rdBit Reg.DRC_CFG 28 then 2 else 1) * (if s.rdBit Reg.DRC_CFG 29 then 2147483648 else 1073741824)

/-- Does a window offset reach DRAM (R386, R388)? -/
def State.dramFitted (s : State) (w : Nat) : Bool :=
  s.groupUsed (w / 17179869184) && decide (w % 17179869184 < s.groupBytes)

/-- The channel of a window offset (R386). -/
def channelOf (w : Nat) : Nat := 4 * (w / 17179869184) + w / 512 % 4

/-- Count an access that reaches no DRAM (R388). -/
def State.unmapped (s : State) : State := (s.bump Reg.DRC_CNT_UNMAPPED).drcEvent 7

/-- Does a span reach DRAM wholly? A span beyond one group's window is whole only where the groups before its last are full and declared. -/
def State.dramSpan (s : State) (w n : Nat) : Bool :=
  let g := w / 17179869184
  let last := (w + n - 1) / 17179869184
  s.dramFitted w && (n == 0 || (s.dramFitted (w + n - 1) && (decide (last = g) || (decide (s.groupBytes = 17179869184) &&
    (List.range (last - g)).all fun i => s.groupUsed (g + i)))))

/-- The management area: window offset and length in bytes. -/
def State.mgmtBase (s : State) : Nat := s.rd64 Reg.CPT_MGMT_BASE_LO Reg.CPT_MGMT_BASE_HI
/-- The length of the management area. -/
def State.mgmtSize (s : State) : Nat := s.rdFld Reg.CPT_MGMT_SIZE 10 0 * 1048576

/-- Bytes that lie within the management area and the fitted DRAM (R65, R165, R517). -/
def State.contentFits (s : State) (off len : Nat) : Bool :=
  decide (s.mgmtBase ≤ off) && decide (off + len ≤ s.mgmtBase + s.mgmtSize) && s.dramSpan off len

/-- Read n bytes of the management window; what reaches no DRAM reads as zeros (R388). -/
def State.winRead (s : State) (w n : Nat) : State × List Byte :=
  if s.dramSpan w n then (s, s.dramBytes w n) else (s.unmapped, List.replicate n 0)

/-- Does an access touch the protected lintel region (R167)? -/
def State.touchesProt (s : State) (w n : Nat) : Bool :=
  decide (w < s.prot.1 + s.prot.2) && decide (s.prot.1 < w + n)

/-- Write bytes to the management window by a master other than the image loader: dropped outside the fitted DRAM (R388), and
dropped and counted inside the protected lintel region (R167). -/
def State.winWrite (s : State) (w : Nat) (bs : List Byte) : State :=
  if s.touchesProt w bs.length then s.lintelRefused
  else if s.dramSpan w bs.length then s.dramPut w bs
  else s.unmapped

/-! The party-wall mailbox memory (R439). -/

/-- PWMBX_STATUS: receive buffers full, transmit buffers held. -/
def State.pwStatus (s : State) : Nat :=
  (List.range 8).foldl (fun a b =>
    a + (if s.pwmbx.full.contains b then 2 ^ (16 + b) else 0) + (if s.pwmbx.held.contains b then 2 ^ b else 0)) 0

/-- A byte of the mailbox: a free receive buffer reads 0. -/
def State.pwByte (s : State) (off : Nat) : Byte :=
  if off < 0x8000 then Tab.get 0 s.pwmbx.bytes off
  else if off < 0x10000 then
    if s.pwmbx.full.contains ((off - 0x8000) / 0x1000) then Tab.get 0 s.pwmbx.bytes off else 0
  else if off < 0x10004 then BitVec.ofNat 8 (s.pwStatus / 256 ^ (off - 0x10000))
  else 0

/-- Write a byte of a transmit buffer that the engine does not hold. -/
def State.pwPut (s : State) (off : Nat) (b : Byte) : State :=
  if off < 0x8000 ∧ s.pwmbx.held.contains (off / 0x1000) = false then
    s.setPw { s.pwmbx with bytes := Tab.put 0 s.pwmbx.bytes off b }
  else s

/-- Write bytes of the mailbox from an offset upward. -/
def State.pwPuts (s : State) (off : Nat) : List Byte → State
  | [] => s
  | b :: bs => State.pwPuts (s.pwPut off b) (off + 1) bs

/-- The writes that the device issues for bytes at a host address: of at most 256 bytes, none across a boundary of 4 KiB (R428). -/
def hostPieces : Nat → Nat → List Byte → List (Nat × List Byte)
  | 0, _, _ => []
  | fuel + 1, h, bs =>
    if bs.isEmpty then []
    else
      let n := min 256 (4096 - h % 4096)
      (h, bs.take n) :: hostPieces fuel (h + n) (bs.drop n)

/-- Write bytes to host memory (R428). -/
def State.hostWrite (s : State) (h : Nat) (bs : List Byte) : State := (hostPieces bs.length h bs).foldl (fun a e => a.emit (.hostWrite e.1 e.2)) s

/-! Reads and writes of memory by a DMA channel; register accesses stand elsewhere. The error is CONTROL.ERR: 1 DECODE, 5
LINK_DOWN (R445). -/

/-- May a DMA channel reach a target (R438)? -/
def mayReach (c : Nat) : Target → Bool
  | .rom _ => false
  | .tcm _ => decide (c < 8)
  | .regs _ => true
  | .mailbox _ => decide (c < 8)
  | .flash _ => decide (c < 8)
  | .dram _ => true
  | .host _ => true

/-- Does an internal address lie behind the card port? -/
def isHost (a : Nat) : Bool := decide (0x8000000000 ≤ a)

/-- A channel reads n bytes of memory; `host` is what a host read returned. -/
def State.memRead (s : State) (c a n : Nat) (host : List Byte) : Except Nat (State × List Byte) :=
  match s.target a n with
  | none => .error 1
  | some tg =>
    if !mayReach c tg then .error 1
    else match tg with
      | .tcm o => .ok (s, s.tcmBytes o n)
      | .mailbox o => .ok (s, (List.range n).map fun k => s.pwByte (o + k))
      | .flash o => .ok (s, s.flashBytes o n)
      | .dram o => .ok (s.winRead o n)
      | .host _ => if s.pcie.linkUp then .ok (s, (host ++ List.replicate n 0).take n) else .error 5
      | _ => .error 1

/-- A channel writes bytes of memory. The flash window and ROM are read only (R437). -/
def State.memWrite (s : State) (c a : Nat) (bs : List Byte) : Except Nat State :=
  match s.target a bs.length with
  | none => .error 1
  | some tg =>
    if !mayReach c tg then .error 1
    else match tg with
      | .tcm o => .ok (s.tcmPut o bs)
      | .mailbox o => .ok (s.pwPuts o bs)
      | .dram o => .ok (s.winWrite o bs)
      | .host h => if s.pcie.linkUp then .ok (s.hostWrite h bs) else .error 5
      | _ => .error 1

end Sys2Proof.Machine
end

