-- ==== Sys2Proof/Machine/Dma.lean ====
section
/-! DEFINITION. The DMA channels' states, KICK, request lines, bus errors and their release (R445–R450). -/
namespace Sys2Proof.Machine

/-- A channel with no chain. -/
def idleChan : Chan := ⟨.idle, .idle, false, .complete, false, 0, 0, 0, 0, 0, 0, 0, 0⟩

/-- A DMA channel. -/
def State.chan (s : State) (c : Nat) : Chan := Tab.get idleChan s.dma.chans c

/-- Replace a DMA channel. -/
def State.setChan (s : State) (c : Nat) (x : Chan) : State :=
  s.setDma { s.dma with chans := Tab.put idleChan s.dma.chans c x }

/-- Is DMA_CTRL.ENABLE set? -/
def State.dmaOn (s : State) : Bool := s.rdBit Reg.DMA_CTRL 31

/-- DMAc_DESC. -/
def State.descAt (s : State) (c : Nat) : Nat := s.rd64 (Reg.DMACH_DESC_LO c) (Reg.DMACH_DESC_HI c)

/-! CONTROL of a descriptor (R445). -/

/-- The bytes of one burst. -/
def burstBytes (control : Nat) : Nat := 32 * 2 ^ (control / 4096 % 8)

/-- A bit of CONTROL. -/
def ctlBit (control i : Nat) : Bool := control / 2 ^ i % 2 == 1

/-- REQ_LINE. -/
def reqLine (control : Nat) : Nat := control / 32768 % 64

/-! Request lines (R447). -/

/-- Samples held by capture FIFO n. -/
def State.capture (s : State) (n : Nat) : List Nat := Tab.get [] s.dma.captures n

/-- Is a request line asserted: a record in the FIFO, 8 captured samples, or bursts its producer has ready? -/
def State.lineUp (s : State) (r : Nat) : Bool :=
  if r = 16 then !s.flt.fifo.isEmpty
  else if 19 ≤ r ∧ r ≤ 22 then decide (8 ≤ (s.capture (r - 19)).length)
  else decide (r < 27) && decide (0 < Tab.get 0 s.dma.requests r)

/-- One burst of a line's producer is taken. -/
def State.takeRequest (s : State) (r : Nat) : State :=
  s.setDma { s.dma with requests := Tab.put 0 s.dma.requests r (Tab.get 0 s.dma.requests r - 1) }

/-- Note a read of host memory that is issued, for the completion timeout (R428). -/
def State.issue (s : State) (c : Nat) (host : Bool) : State :=
  s.setCard { s.card with
      outstanding := if host then Tab.insert s.card.outstanding c s.now else Tab.erase s.card.outstanding c }

/-- The channels below k that wait on request line r. -/
def State.waiters (s : State) (r k : Nat) : List Nat :=
  (List.range k).filter fun c => (s.chan c).st == .run && (s.chan c).phase == .request && reqLine (s.chan c).control == r

/-- A channel in RUN goes on with its descriptor: completion when nothing is left, a wait for its line under REQ_EN, else the
next burst. A line that is up serves the channel at once, if no lower channel waits (R447). -/
def State.advance (s : State) (c : Nat) : State :=
  let x := s.chan c
  if x.remain = 0 then (s.setChan c { x with phase := .complete }).issue c false
  else if ctlBit x.control 21 then
    let r := reqLine x.control
    if s.lineUp r && (s.waiters r c).isEmpty then
      ((s.takeRequest r).setChan c { x with phase := .burst }).issue c (isHost x.srcAt)
    else (s.setChan c { x with phase := .request }).issue c false
  else (s.setChan c { x with phase := .burst }).issue c (isHost x.srcAt)

/-- A channel reads the descriptor at DMAc_DESC. -/
def State.fetchDesc (s : State) (c : Nat) (reread : Bool) : State :=
  (s.setChan c { s.chan c with
    st := if reread then .idleAtEnd else .run, phase := .fetch reread, kickPending := false, failed := false }).issue c
    (isHost (s.descAt c))

/-! Bus errors (R449). -/

/-- Every channel enters STOPPED and records the state it was in. -/
def stopChan (c k : Nat) (x : Chan) : Chan :=
  if x.st = .stopped then x
  else { x with st := .stopped, prev := x.st, failed := decide (k = c), kickPending := false }

/-- Stop channels 0 … n − 1. -/
def State.stopChans (s : State) (c : Nat) : Nat → State
  | 0 => s
  | n + 1 => let s1 := State.stopChans s c n; s1.setChan n (stopChan c n (s1.chan n))

/-- The status write-back of a descriptor: CONTROL with DONE and ERR (R445). -/
def State.writeBack (s : State) (c err : Nat) (done : Bool) : Except Nat State :=
  let x := s.chan c
  let w := x.control % 16777216 + err * 16777216 + (if done then 268435456 else 0) +
    x.control / 536870912 * 536870912
  s.memWrite c (s.descAt c + 0x14) (toLe 4 w)

/-- All DMA_CH_EVENT bits are set; a vector whose condition rises is signalled. -/
def State.chanEventAll (s : State) : State :=
  (List.range 32).foldl (fun a c => State.irqRise s a (16 + c)) (s.orReg Reg.DMA_CH_EVENT 0xFFFFFFFF)

/-- A bus error of channel c (R449). With ENABLE at 0 every channel is already IDLE and the error is only recorded (R444). -/
def State.busError (s : State) (c code addr : Nat) : State :=
  let x := s.chan c
  let s1 := if s.dmaOn && ctlBit x.control 29 && x.st == .run && x.phase != .fetch false then
      match s.writeBack c code false with
      | .ok t => t
      | .error _ => s
    else s
  let s2 := s1.setChan c { s1.chan c with err := code }
  let s3 := if s2.dmaOn then (s2.stopChans c 32).chanEventAll else s2
  let s4 := s3.wr Reg.DMA_STATUS (BitVec.ofNat 32 (2147483648 + c % 32 * 16777216 + code % 16 * 1048576))
  let s5 := s4.wr64 Reg.DMA_ERR_ADDR_LO Reg.DMA_ERR_ADDR_HI (addr % 1099511627776)
  ((s5.setCard { s5.card with outstanding := [] }).dmaEvent 0).raise 0x006 0x26 addr 2

/-- Release of one channel by CLEAR_ERR (R449). -/
def releaseChan (x : Chan) : Chan :=
  if x.st = .stopped then
    match x.prev with
    | .run => if x.failed then { x with st := .idle } else { x with st := .halted }
    | p => { x with st := p }
  else x

/-- Release channels 0 … n − 1. -/
def State.releaseChans (s : State) : Nat → State
  | 0 => s
  | n + 1 => let s1 := State.releaseChans s n; s1.setChan n (releaseChan (s1.chan n))

/-- DMA_CTRL.CLEAR_ERR (R449). DMA_STATUS.BUS_ERR falls (DEDUCED, log 22). -/
def State.clearErr (s : State) : State := (s.releaseChans 32).wrBit Reg.DMA_STATUS 31 false

/-- DMA_CTRL.ENABLE = 0 (R450): every channel IDLE; the bytes left of a channel that had a descriptor in progress are a free
value. -/
def State.dropChans (s : State) : Nat → State
  | 0 => s
  | n + 1 =>
    let s1 := State.dropChans s n
    let x := s1.chan n
    if x.st = .idle then s1.setChan n { x with kickPending := false }
    else (s1.freeNext).setChan n { idleChan with remain := s1.freeVal % 16777216, err := s1.freeVal / 16777216 % 16 }

/-- Writing DMA_CTRL.ENABLE = 0 (R450). -/
def State.dmaDisable (s : State) : State :=
  let s1 := (s.dropChans 32).wrBit Reg.DMA_CTRL 31 false
  (s1.setCard { s1.card with outstanding := [] }).dmaEvent 1

/-- A KICK of channel c (R448). -/
def State.kick (s : State) (c : Nat) : State :=
  let x := s.chan c
  if !s.dmaOn then s
  else match x.st with
    | .idle => s.fetchDesc c false
    | .run => s.setChan c { x with kickPending := true }
    | .idleAtEnd => if x.phase = .fetch true then s.setChan c { x with kickPending := true } else s.fetchDesc c true
    | .stopped => s
    | .halted => match x.phase with
      | .fetch b => s.fetchDesc c b
      | _ => State.advance (s.setChan c { x with st := .run }) c

/-- Is a write of a channel's page from this master ignored (R447: channels 0–7 are firmware's)? -/
def State.pageBarred (c : Nat) (fromCard : Bool) : Bool := fromCard && decide (c < 8)

/-- KICK (R448): `fromCard` for a write through the card port. -/
def execKick (t c : Nat) (fromCard : Bool) (s0 : State) : Host.Outcome State Fault Refusal :=
  let s := s0.at t
  if 32 ≤ c then .next s
  else if State.pageBarred c fromCard then .next ((s.bump Reg.CPT_CNT_BAD_ACCESS).cptEvent 4)
  else .next (s.kick c)

/-- Is a descriptor valid (R445)? -/
def descValid (bs : List Byte) : Bool :=
  let src := le (slice bs 0 8)
  let dst := le (slice bs 8 8)
  let len := le (slice bs 16 4)
  let ctl := le (slice bs 20 4)
  let link := le (slice bs 24 8)
  let isReg (a : Nat) : Bool := decide (0x20000000 ≤ a) && decide (a < 0x21000000)
  decide (src < 1099511627776) && decide (dst < 1099511627776) && decide (len < 16777216) && ctl % 4096 == 0 &&
    decide (ctl / 4096 % 8 < 7) && decide (reqLine ctl < 48) && link % 32 == 0 && decide (link < 1099511627776) &&
    !(isReg src && (src % 4 != 0 || len % 4 != 0)) && !(isReg dst && (dst % 4 != 0 || len % 4 != 0))

/-- The descriptor that was read is taken up (R445, R448). -/
def State.takeDesc (s : State) (c : Nat) (bs : List Byte) : State :=
  let ctl := le (slice bs 20 4)
  let x := s.chan c
  State.advance (s.setChan c { x with
    st := .run, src := le (slice bs 0 8), dst := le (slice bs 8 8), srcAt := le (slice bs 0 8)
    dstAt := le (slice bs 8 8), remain := le (slice bs 16 4) % 16777216, control := ctl
    link := le (slice bs 24 8), err := 0 }) c

/-- The chain goes on at a link. -/
def State.followLink (s : State) (c link : Nat) : State :=
  (s.wr64 (Reg.DMACH_DESC_LO c) (Reg.DMACH_DESC_HI c) link).fetchDesc c false

/-- DESCRIPTOR_FETCHED (R445, R448): the read of the descriptor completes. `err` is 0, or TARGET (2) for an error response;
`host` is what host memory returned. -/
def execDescriptorFetched (t c err : Nat) (host : List Byte) (s0 : State) : Host.Outcome State Fault Refusal :=
  let s := s0.at t
  let x := s.chan c
  if 32 ≤ c then .next s
  else match x.phase with
    | .fetch reread =>
      if x.st ≠ (if reread then .idleAtEnd else .run) then .next s
      else if err ≠ 0 then .next (s.busError c 2 (s.descAt c))
      else
        match s.memRead c (s.descAt c) 32 host with
        | .error e => .next (s.busError c e (s.descAt c))
        | .ok (s1, bs) =>
          let s2 := s1.issue c false
          if reread then
            if ctlBit (le (slice bs 20 4)) 31 then
              if x.kickPending then .next (s2.fetchDesc c true)
              else .next (s2.setChan c { x with phase := .complete })
            else if descValid bs then .next (s2.followLink c (le (slice bs 24 8)))
            else .next ((s2.setChan c { x with control := le (slice bs 20 4), phase := .complete }).busError c 4 (s2.descAt c))
          else if descValid bs then .next (s2.takeDesc c bs)
          else .next ((s2.setChan c { x with control := le (slice bs 20 4), phase := .complete }).busError c 4 (s2.descAt c))
    | _ => .next s

/-- DESCRIPTOR_COMPLETE (R448): write-back, count, event, then END or LINK. -/
def execDescriptorComplete (t c : Nat) (s0 : State) : Host.Outcome State Fault Refusal :=
  let s := s0.at t
  let x := s.chan c
  if decide (32 ≤ c) || x.st != .run || x.phase != .complete then .next s
  else
    let wb : Except Nat State := if ctlBit x.control 29 then s.writeBack c 0 true else .ok s
    match wb with
    | .error e => .next (s.busError c e (s.descAt c + 0x14))
    | .ok s1 =>
      let s2 := s1.bump (Reg.DMACH_CNT_DESC c)
      let s3 := if ctlBit x.control 30 then s2.chanEvent c else s2
      if ctlBit x.control 31 then
        if x.kickPending then .next (s3.fetchDesc c true)
        else .next (s3.setChan c { x with st := .idleAtEnd })
      else
        let s4 := s3.followLink c x.link
        .next (s4.setChan c { s4.chan c with kickPending := x.kickPending })

/-- DMA_REQUEST (R447): one more burst is ready at a producer's line; the lowest channel that waits on it moves a burst. Lines
27–47 are never asserted; lines 16 and 19–22 are up while their FIFOs hold a burst. -/
def execDmaRequest (t r : Nat) (s0 : State) : Host.Outcome State Fault Refusal :=
  let s := s0.at t
  if 27 ≤ r then .next s
  else
    let derived := r == 16 || (decide (19 ≤ r) && decide (r ≤ 22))
    let s1 := if derived then s
      else s.setDma { s.dma with requests := Tab.put 0 s.dma.requests r (Tab.get 0 s.dma.requests r + 1) }
    match s1.waiters r 32 with
    | c :: _ => .next (s1.advance c)
    | [] => .next s1

/-- BUS_ERROR (R449): an access or response of channel c fails. -/
def execBusError (t c code addr : Nat) (s0 : State) : Host.Outcome State Fault Refusal :=
  let s := s0.at t
  let x := s.chan c
  if c < 32 ∧ 1 ≤ code ∧ code ≤ 5 ∧ (x.st = .run ∨ s.dmaOn = false ∨ x.phase = .fetch true) then
    .next (s.busError c code addr)
  else .next s

/-- Does the completion of a channel's read arrive in this instant (R428, R444)? -/
def State.completionFalls (s : State) (c : Nat) : Bool :=
  s.sameInstant fun i => match i with
    | .descriptorFetched t k _ _ => decide (t ≤ s.now) && k == c && (match (s.chan c).phase with
      | .fetch _ => true
      | _ => false)
    | .dmaBurstComplete t k _ _ => decide (t ≤ s.now) && k == c && (s.chan c).phase == .burst
    | _ => false

/-- COMPLETION_TIMEOUT (R428): a read issued to host memory by channel c 10 ms ago has no completion. -/
def execCompletionTimeout (t c : Nat) (s0 : State) : Host.Outcome State Fault Refusal :=
  let s := s0.at t
  match Tab.find? s.card.outstanding c with
  | some u =>
    if u + 10000000 ≤ s.now ∧ s.completionFalls c = false then
      let x := s.chan c
      let a := match x.phase with
        | .fetch _ => s.descAt c
        | _ => x.srcAt
      .next (((s.bump Reg.CPT_CNT_CPL_TIMEOUT).cptEvent 7).busError c 3 a)
    else .next s
  | none => .next s

/-- CLEAR_ERR (R449). -/
def execClearErr (t : Nat) (s0 : State) : Host.Outcome State Fault Refusal := .next ((s0.at t).clearErr)

/-- DMA_DISABLE (R450). -/
def execDmaDisable (t : Nat) (s0 : State) : Host.Outcome State Fault Refusal := .next ((s0.at t).dmaDisable)

/-- CAPTURE_READ (R452): pops one captured sample; an empty FIFO reads 0. -/
def State.captureRead (s : State) (n : Nat) : State × Word :=
  match s.capture n with
  | [] => (s, 0)
  | v :: rest => ((s.setDma { s.dma with captures := Tab.put [] s.dma.captures n rest }),
      BitVec.ofNat 32 (v % 16777216 * 256))

/-- CAPTURE_READ (R452). -/
def execCaptureRead (t n : Nat) (s0 : State) : Host.Outcome State Fault Refusal :=
  let s := s0.at t
  if 4 ≤ n then .next s
  else
    let r := s.captureRead n
    .next (r.1.emit (.read (Reg.DMA_CAP_DATA n) r.2.toNat))

end Sys2Proof.Machine
end

