-- ==== Sys2Proof/Machine/Card.lean ====
section
/-! DEFINITION. The card port: PCIe link and configuration, mailbox buffers, MSI-X, BAR2 (R427–R435). -/
namespace Sys2Proof.Machine

/-- Is the card port an SPI target (R436)? -/
def State.spiMode (s : State) : Bool := s.pins.straps / 2 % 2 == 1

/-- The PCIe configuration space at its reset values (R429). -/
def PcieState.cold (p : PcieState) : PcieState :=
  { p with bar0 := 0, bar2 := 0, busMaster := false, msixEn := false, msixMask := false, d3hot := false }

/-- Is an offset in the MSI-X table or its pending words (R451)? -/
def isMsix (off : Nat) : Bool :=
  (decide (0x111000 ≤ off) && decide (off < 0x111400)) || (decide (0x111800 ≤ off) && decide (off < 0x111808))

/-- The card port's own reset: configuration space, MSI-X table and pending bits (R429). -/
def State.cardReset (s : State) : State :=
  (s.setPcie s.pcie.cold).setRegs (s.regs.filter fun e => !isMsix e.1)

/-- Outbound requests in flight fail with LINK_DOWN: a bus error of the lowest channel with one (R429, R449). -/
def State.failOutbound (s : State) : State :=
  match s.card.outstanding with
  | (c, _) :: _ => s.busError c 5 (match (s.chan c).phase with
    | .fetch _ => s.descAt c
    | _ => (s.chan c).srcAt)
  | [] => s

/-- The PCIe link goes down (R429): configuration space resets, requests fail, the fall is counted, C3. -/
def State.cardLinkDown (s : State) : State :=
  if s.pcie.linkUp then
    let s1 := s.cardReset.setPcie { s.pcie.cold with linkUp := false, speed := 0, width := 0 }
    (((s1.failOutbound).bump Reg.CPT_CNT_LINK_DOWN).cptEvent 2).raise 0x008 0x53 0 3
  else s

/-- CARD_PORT_LINK_DOWN (R429). -/
def execCardPortLinkDown (t : Nat) (s0 : State) : Host.Outcome State Fault Refusal := .next ((s0.at t).cardLinkDown)

/-- CARD_PORT_RESET (R429, R464): CP_PERST_N low takes the link down with it; a hot reset resets the configuration space. -/
def execCardPortReset (t : Nat) (hot : Bool) (s0 : State) : Host.Outcome State Fault Refusal :=
  let s := s0.at t
  if hot then .next (s.cardReset.failOutbound) else .next (s.cardLinkDown.cardReset)

/-- CARD_PORT_LINK_UP (R429, R451): speed 1–3, width 1, 2 or 4; never in SPI mode (R436). -/
def execCardPortLinkUp (t speed width : Nat) (s0 : State) : Host.Outcome State Fault Refusal :=
  let s := s0.at t
  if s.spiMode || s.pcie.linkUp || !s.rdBit Reg.SYN_STATUS 31 || decide (speed < 1) || decide (3 < speed) ||
      !(width == 1 || width == 2 || width == 4) then .next s
  else .next ((s.setPcie { s.pcie with linkUp := true, speed := speed, width := width }).cptEvent 3)

/-- A vector that was unmasked sends its pending message if its condition still holds (R435). -/
def State.unmasked (s : State) (v : Nat) : State :=
  if s.pcie.msixEn && !s.vecMasked v && s.rdBit (Reg.MSIX_PENDING (v / 32)) (v % 32) then
    let s1 := s.wrBit (Reg.MSIX_PENDING (v / 32)) (v % 32) false
    if s1.vecCond v then s1.signal v else s1
  else s

/-- MSIX_UNMASK (R435). -/
def execMsixUnmask (t v : Nat) (s0 : State) : Host.Outcome State Fault Refusal :=
  let s := s0.at t
  if 64 ≤ v then .next s else .next ((s.wrBit (Reg.MSIX_CTRL v) 0 false).unmasked v)

/-- PCIE_CONFIGURATION_REQUEST (R427, R435): clearing the function mask unmasks every vector that its own bit leaves open. -/
def execPcieConfigurationRequest (t : Nat) (q : CfgReq) (s0 : State) : Host.Outcome State Fault Refusal :=
  let s := s0.at t
  if !s.pcie.linkUp then .next s
  else match q with
    | .bar0 a => .next (s.setPcie { s.pcie with bar0 := a / 16777216 * 16777216 % 18446744073709551616 })
    | .bar2 a => .next (s.setPcie { s.pcie with bar2 := a / 1073741824 * 1073741824 % 18446744073709551616 })
    | .busMaster b => .next (s.setPcie { s.pcie with busMaster := b })
    | .msix en mask =>
      .next ((List.range 64).foldl (fun a v => a.unmasked v)
        (s.setPcie { s.pcie with msixEn := en, msixMask := mask }))
    | .d3hot b => .next (s.setPcie { s.pcie with d3hot := b })

/-! The mailbox (R432, R433). -/

/-- BUSY of CPT_MBX_IN_CTRL. -/
def State.mbxBusy (s : State) : Bool := s.rdBit Reg.CPT_MBX_IN_CTRL 30

/-- A buffer write or GO that is ignored and counted (R432). -/
def State.mbxOverrun (s : State) : State := (s.bump Reg.CPT_CNT_MBX_OVERRUN).cptEvent 5

/-- A GO with a LENGTH (R432): accepted, it raises request line 25 (R447). -/
def State.mbxGo (s : State) (length : Nat) : State :=
  if s.mbxBusy || decide (length < 40) || decide (9000 < length) then s.mbxOverrun
  else
    let s1 := (s.wr Reg.CPT_MBX_IN_CTRL (BitVec.ofNat 32 (1073741824 + length))).setCard { s.card with mbxLen := length }
    let s2 := s1.setDma { s1.dma with requests := Tab.put 0 s1.dma.requests 25 (Tab.get 0 s1.dma.requests 25 + 1) }
    match s2.waiters 25 32 with
    | c :: _ => s2.advance c
    | [] => s2

/-- MBX_GO (R432). -/
def execMbxGo (t length : Nat) (s0 : State) : Host.Outcome State Fault Refusal := .next ((s0.at t).mbxGo length)

/-- Write a word of CPT_MBX_IN (R432): byte 4k + j of the message in bits 8j + 7 to 8j. -/
def State.mbxInWrite (s : State) (k : Nat) (w : Word) : State :=
  if s.mbxBusy then s.mbxOverrun
  else s.setCard { s.card with mbxIn := Tab.putBytes 0 s.card.mbxIn (4 * k) (toLe 4 w.toNat) }

/-- A reply for the mailbox (R433): presented, queued (16 wait), or dropped and counted. -/
def State.mbxReply (s : State) (bytes : List Byte) : State :=
  if s.card.mbxOut.isEmpty then (s.setCard { s.card with mbxOut := bytes }).cptEvent 0
  else if s.card.mbxQueue.length < 16 then s.setCard { s.card with mbxQueue := s.card.mbxQueue ++ [bytes] }
  else s.bump Reg.CPT_CNT_MBX_REPLY_DROP

/-- The reply buffer is released and the next reply presented (R433). -/
def State.mbxRelease (s : State) : State :=
  if s.card.mbxOut.isEmpty then s
  else match s.card.mbxQueue with
    | r :: rest => (s.setCard { s.card with mbxOut := r, mbxQueue := rest }).cptEvent 0
    | [] => s.setCard { s.card with mbxOut := [] }

/-- MBX_OUT_RELEASE (R433). -/
def execMbxOutRelease (t : Nat) (s0 : State) : Host.Outcome State Fault Refusal := .next ((s0.at t).mbxRelease)

/-! BAR2 (R431). -/

/-- An access outside the management area (R431). -/
def State.bar2Outside (s : State) : State := (s.bump Reg.CPT_CNT_BAR2_OUTSIDE).cptEvent 6

/-- BAR2_ACCESS (R431): a read of n bytes at BAR2 offset x, or a write of `data` there; the part beyond the management area reads zeros or is dropped. -/
def execBar2Access (t x n : Nat) (write : Bool) (data : List Byte) (s0 : State) : Host.Outcome State Fault Refusal :=
  let s := s0.at t
  if !s.pcie.linkUp || s.pcie.d3hot || decide (1073741824 ≤ x) then .next s
  else if write then
    let k := s.mgmtSize - x
    if data.length ≤ k then .next (s.winWrite (s.mgmtBase + x) data)
    else .next (if k = 0 then s.bar2Outside else (s.winWrite (s.mgmtBase + x) (data.take k)).bar2Outside)
  else
    let k := s.mgmtSize - x
    if n ≤ k then
      let r := s.winRead (s.mgmtBase + x) n
      .next (r.1.emit (.readBytes x r.2))
    else
      let r := if k = 0 then (s, []) else s.winRead (s.mgmtBase + x) k
      .next (r.1.bar2Outside.emit (.readBytes x (r.2 ++ List.replicate (n - k) 0)))

end Sys2Proof.Machine
end

