-- ==== Sys2Proof/Machine/Fault.lean ====
section
/-! DEFINITION. The fault collector: acceptance, escalation, reactions, acknowledgement, watchdog, ALIVE and the thermal
watch (R403–R413, R422). -/
namespace Sys2Proof.Machine

/-- A 32-bit word of a fault record (R403). -/
def FaultRec.word (r : FaultRec) (i : Nat) : Word :=
  BitVec.ofNat 32 (match i with
    | 0 => r.time
    | 1 => r.time / 4294967296 % 65536 + r.source % 4096 * 65536 + r.cls % 8 * 268435456 + b2n r.esc * 2147483648
    | 2 => r.addr
    | 3 => r.count % 16777216 + r.kind % 256 * 16777216
    | _ => 0)

/-- The 16 bytes of a fault record (R403). -/
def FaultRec.bytes (r : FaultRec) : List Byte :=
  toLe 4 (r.word 0).toNat ++ toLe 4 (r.word 1).toNat ++ toLe 4 (r.word 2).toNat ++ toLe 4 (r.word 3).toNat

/-- Are two records equal in all that merging asks for (R404)? -/
def FaultRec.same (a b : FaultRec) : Bool :=
  a.source == b.source && a.kind == b.kind && a.cls == b.cls && a.esc == b.esc && a.addr == b.addr

/-- One more occurrence merged; COUNT saturates at 16,777,215 (R403). -/
def FaultRec.more (r : FaultRec) : FaultRec := { r with count := min (r.count + 1) 16777215 }

/-- Merge into the newest record of a FIFO; none where that record differs or the FIFO is empty (R404). -/
def mergeNewest (r : FaultRec) : List FaultRec → Option (List FaultRec × FaultRec)
  | [] => none
  | [x] => if x.same r then some ([x.more], x.more) else none
  | x :: y :: rest =>
    match mergeNewest r (y :: rest) with
    | some (l, m) => some (x :: l, m)
    | none => none

/-- The record enters the FIFO, merges, or is lost at a full one (R404, R407, R423); with the record as it is then held. -/
def State.enqueue (s : State) (r : FaultRec) : State × FaultRec :=
  match mergeNewest r s.flt.fifo with
  | some (l, m) => (s.setFlt { s.flt with fifo := l }, m)
  | none =>
    if s.flt.fifo.length < 512 then ((s.setFlt { s.flt with fifo := s.flt.fifo ++ [r] }).fltEvent 0, r)
    else (((s.setFlt { s.flt with overflow := true, bootLost := s.flt.bootLost + 1 }).bump Reg.FLT_CNT_LOST).fltEvent 3, r)

/-- Is the open bit of a unit and class set (R408)? -/
def State.isOpen (s : State) (unit cls : Nat) : Bool := s.rdBit (Reg.FLT_OPEN_C cls) unit

/-- A record opens its unit and class (R408). -/
def State.openRec (s : State) (o : OpenRec) : State :=
  (s.setFlt { s.flt with opened := o :: s.flt.opened }).orReg (Reg.FLT_OPEN_C o.cls) (maskBit o.unit)

/-- Is the device in SAFE entered from a loaded image, JOIN or SERVICE, where severe records are logged (R419)? -/
def State.logsSevere (s : State) : Bool :=
  match s.ctl.mode with
  | .join => true
  | .service => true
  | .safe => !s.boot.romFallback
  | _ => false

/-- Count an accepted record of a class, and note what the health words take from it (R244, R424). -/
def State.countRec (s : State) (m : FaultMsg) (cls : Nat) : State :=
  let unit := healthUnit m.source
  let s1 := (s.bump (Reg.FLT_CNT_C cls)).setFlt { s.flt with bootCounts := s.flt.bootCounts.set cls (s.flt.bootCounts.getD cls 0 + 1) }
  let f := if m.kind = 0x09 then s1.twn.failed ||| 2 ^ unit
    else if m.kind = 0x44 then s1.twn.failed ||| m.addr else s1.twn.failed
  ((s1.setTwn { s1.twn with
      failed := f
      c2Times := if cls = 2 then (unit, s1.now) :: s1.twn.c2Times else s1.twn.c2Times }).setLife { s1.life with
      c3 := if cls = 3 then s1.life.c3 + 1 else s1.life.c3
      c4 := if cls = 4 then s1.life.c4 + 1 else s1.life.c4
      eventDue := (decide (3 ≤ cls) && !(s1.life.afterSevere && s1.life.lastEvent == some s1.now)) || s1.life.eventDue })

/-- The records of a message's unit and class that were acknowledged in this instant: the message came before that (R422). -/
def State.closedNow (s : State) (m : FaultMsg) : List (Nat × Bool × OpenRec) :=
  s.flt.closed.filter fun e => e.1 == s.now && e.2.2.unit == healthUnit m.source && e.2.2.cls == m.cls

/-- The class after escalation (R409, R422). -/
def State.escalated (s : State) (m : FaultMsg) : Nat :=
  if m.cls ≤ 3 ∧ (s.isOpen (healthUnit m.source) m.cls || !(s.closedNow m).isEmpty) = true then m.cls + 1 else m.cls

/-- Records that were acknowledged in this instant, other than by their hold, are open again: their bit stays set (R422). -/
def State.reopen (s : State) (m : FaultMsg) : State :=
  (s.closedNow m).foldl (fun a e => if e.2.1 then a else a.openRec e.2.2)
    (s.setFlt { s.flt with closed := s.flt.closed.filter fun e => !(s.closedNow m).contains e })

/-- The reaction of the collector to a class (R407): C3 sets its event (FAULT_N follows FLT_OPEN_C3), C4 enters SAFE. -/
def State.react (s : State) (m : FaultMsg) (cls : Nat) : State :=
  if cls = 3 then s.fltEvent 1
  else if cls = 4 then s.enterSafe 2 m.kind m.source
  else s

/-- The four words of the last C3 or C4 record. -/
def State.setLastSevere (s : State) (r : FaultRec) : State :=
  (((s.wr (Reg.FLT_LAST_SEVERE 0) (r.word 0)).wr (Reg.FLT_LAST_SEVERE 1) (r.word 1)).wr (Reg.FLT_LAST_SEVERE 2)
    (r.word 2)).wr (Reg.FLT_LAST_SEVERE 3) (r.word 3)

/-- A message is accepted (R407–R409): tested for escalation, counted, opened, reacted to, and only then queued. -/
def State.accept (s : State) (m : FaultMsg) : State :=
  let cls := s.escalated m
  let esc := cls != m.cls
  let unit := healthUnit m.source
  let r : FaultRec := ⟨s.deviceTime % 281474976710656, m.source, cls, esc, m.addr, 1, m.kind⟩
  let s1 := (s.reopen m).countRec m cls
  let s2 := if cls ≤ 3 then s1.openRec ⟨unit, cls, m.kind, m.source, m.addr, s1.now⟩ else s1
  let s3 := s2.react m cls
  let s4 := if esc then s3.fltEvent 2 else s3
  let q := s4.enqueue r
  if 3 ≤ cls then
    let s5 := q.1.setLastSevere q.2
    if s5.logsSevere then s5.setFlt { s5.flt with toAppend := s5.flt.toAppend ++ [r] } else s5
  else q.1

/-- FAULT_ACCEPTED (R407): the collector accepts the first message on its way. -/
def execFaultAccepted (t : Nat) (s0 : State) : Host.Outcome State Fault Refusal :=
  let s := s0.at t
  match s.flt.inbox with
  | m :: rest => if m.time ≤ s.now then .next ((s.setFlt { s.flt with inbox := rest }).accept m) else .next s
  | [] => .next s

/-- The oldest record is removed by a read of FLT_REC3, which returns its word 3 (R404, R423). -/
def State.popRecord (s : State) : State × Word :=
  match s.flt.fifo with
  | r :: rest => (s.setFlt { s.flt with fifo := rest }, r.word 3)
  | [] => (s, 0)

/-- FAULT_RECORD_REMOVE (R404, R423). -/
def execFaultRecordRemove (t : Nat) (s0 : State) : Host.Outcome State Fault Refusal :=
  let r := (s0.at t).popRecord
  .next (r.1.emit (.read (Reg.FLT_REC 3) r.2.toNat))

/-! Acknowledgement (R408). -/

/-- The open words follow the records that hold their bits: acknowledge every open record that `p` picks, but for those accepted in this instant, whose
set wins (R422); `hold`: their hold has expired. -/
def State.ackBy (s : State) (hold : Bool) (p : OpenRec → Bool) : State :=
  let q (o : OpenRec) : Bool := p o && decide (o.since < s.now)
  let gone := s.flt.opened.filter q
  let left := s.flt.opened.filter fun o => !q o
  gone.foldl (fun a o =>
      if left.any fun x => x.unit == o.unit && x.cls == o.cls then a
      else a.wrBit (Reg.FLT_OPEN_C o.cls) o.unit false)
    (s.setFlt { s.flt with
      opened := left
      closed := (s.flt.closed.filter fun e => e.1 == s.now) ++ gone.map fun o => (s.now, hold, o) })

/-- Acknowledge every open record that `p` picks. -/
def State.ack (s : State) (p : OpenRec → Bool) : State := s.ackBy false p

/-- FLT_ACK (R408, R424): bit x of `classes` acknowledges class Cx of a health unit. -/
def execFltAck (t unit classes : Nat) (s0 : State) : Host.Outcome State Fault Refusal :=
  .next ((s0.at t).ack fun o => o.unit == unit && classes.testBit o.cls)

/-- FLT_OPEN_CLEAR (R408): writing `mask` to FLT_OPEN_Cx. -/
def execFltOpenClear (t x mask : Nat) (s0 : State) : Host.Outcome State Fault Refusal :=
  .next ((s0.at t).ack fun o => o.cls == x && mask.testBit o.unit)

/-- Is the Ack column of a kind "Hold" (R406)? -/
def kindHolds (k : Nat) : Bool :=
  [0x09, 0x0A, 0x10, 0x11, 0x21, 0x22, 0x23, 0x24, 0x26, 0x30, 0x41, 0x42, 0x43, 0x44].contains k

/-- The hold of a class in ns (R408, R424); none for a class without one. -/
def State.holdTime (s : State) (cls : Nat) : Option Nat :=
  if cls = 2 then some (1000000000 + 100000000 * s.rdFld Reg.FLT_CFG 7 1)
  else if cls = 3 then some (1000000000 * max 1 (s.rdFld Reg.FLT_CFG 15 8))
  else none

/-- HOLD_EXPIRY (R408): firmware acknowledges every Hold record of class C2 or C3 whose hold has passed. -/
def execHoldExpiry (t : Nat) (s0 : State) : Host.Outcome State Fault Refusal :=
  let s := s0.at t
  .next (s.ackBy true fun o => kindHolds o.kind && (match s.holdTime o.cls with
    | some h => decide (o.since + h ≤ s.now)
    | none => false))

/-! ALIVE and the watchdog (R410, R411). -/

/-- Is the device in a mode in which ALIVE runs and firmware must kick? -/
def State.kicking (s : State) : Bool :=
  match s.ctl.mode with
  | .train => true
  | .join => true
  | .service => true
  | .test => true
  | _ => false

/-- ALIVE starts and the watchdog is armed at the exit from BOOT (R410, R411). -/
def State.leaveBoot (s : State) : State :=
  (s.setFlt { s.flt with aliveRuns := true, aliveEdge := s.now, armed := true, lastKick := s.now }).setPins { s.pins with alive := false }

/-- ALIVE is driven low and the watchdog disarmed at a return to BOOT (R410, R411). -/
def State.enterBoot (s : State) : State :=
  (s.setFlt { s.flt with aliveRuns := false, armed := false }).setPins { s.pins with alive := false }

/-- A write of FLT_KICK (R411). -/
def State.fltKick (s : State) : State := s.setFlt { s.flt with lastKick := s.now }

/-- FLT_KICK (R411). -/
def execFltKick (t : Nat) (s0 : State) : Host.Outcome State Fault Refusal := .next ((s0.at t).fltKick)

/-- WATCHDOG_EXPIRY (R411): no kick for 2 ms, nor in this instant. ALIVE stops, the key falls (R209), C4 FW_STALL with the program counter. -/
def execWatchdogExpiry (t pc : Nat) (s0 : State) : Host.Outcome State Fault Refusal :=
  let s := s0.at t
  if s.flt.armed && s.kicking && !s.kickFalls && decide (s.flt.lastKick + 2000000 ≤ s.now) then
    .next (((s.setFlt { s.flt with armed := false }).aliveStop.keyLow).raise 0x004 0x01 pc 4)
  else .next s

/-- ALIVE_EDGE (R410): 500 µs after the last edge, while ALIVE runs. -/
def execAliveEdge (t : Nat) (s0 : State) : Host.Outcome State Fault Refusal :=
  let s := s0.at t
  if s.flt.aliveRuns && decide (s.flt.aliveEdge + 500000 ≤ s.now) then
    .next ((s.setFlt { s.flt with aliveEdge := s.now }).setPins { s.pins with alive := !s.pins.alive })
  else .next s

/-! The thermal watch (R413). Temperatures are in 0.125 °C. -/

/-- A diode before any reading. -/
def coldDiode : Diode := ⟨0, 0, false, 0⟩

/-- One diode's reading. -/
def State.readDiode (s : State) (d : Nat) (temp : Int) : State :=
  let x := Tab.get coldDiode s.flt.diodes d
  let high := if 840 < temp then x.high + 1 else 0
  let trip := if 960 < temp then x.trip + 1 else 0
  let raiseHigh := decide (840 < temp) && !x.raised && decide (10 ≤ high)
  let raiseTrip := !s.flt.trips && decide (3 ≤ trip)
  let y : Diode := ⟨high, trip, decide (840 < temp) && (x.raised || raiseHigh), temp⟩
  let s1 := (s.setFlt { s.flt with
      diodes := Tab.put coldDiode s.flt.diodes d y
      trips := s.flt.trips || raiseTrip }).wr (Reg.TOP_TEMP d) (BitVec.ofNat 32 (2147483648 + ofSigned 12 temp))
  let s2 := if raiseHigh then s1.raise 0x004 0x07 d 3 else s1
  if raiseTrip then s2.raise 0x004 0x08 d 4 else s2

/-- Read the diodes from number d on. -/
def State.readDiodes (s : State) (d : Nat) : List Int → State
  | [] => s
  | x :: xs => if d < 17 then State.readDiodes (s.readDiode d x) (d + 1) xs else s

/-- The bin of a temperature in the life log's histogram (R418). -/
def tempBin (temp : Int) : Nat := if temp < 320 then 0 else min 15 (((temp - 320) / 40).toNat + 1)

/-- The life totals of the power-on seconds since the last count (R418): power-on, keyholder (the key gate open), the sum and the
histogram of the hottest diode. -/
def State.countSeconds (s : State) (hot : Int) : State :=
  let sec := s.now / 1000000000
  let n := sec - s.life.lastSecond
  if n = 0 then s
  else
    let s1 := s.setLife { s.life with lastSecond := sec }
    let add (a : State) (lo hi v : Nat) : State := a.bump64 lo hi v
    let s2 := add s1 Reg.LIFE_PON_LO Reg.LIFE_PON_HI n
    let s3 := if s2.gateOpen then add s2 Reg.LIFE_KEYSEC_LO Reg.LIFE_KEYSEC_HI n else s2
    let s4 := s3.wr64 Reg.LIFE_TJSUM_LO Reg.LIFE_TJSUM_HI
      (((s3.rd64 Reg.LIFE_TJSUM_LO Reg.LIFE_TJSUM_HI : Int) + n * (hot / 8)).toNat)
    add s4 (Reg.LIFE_TJBIN_LO (tempBin hot)) (Reg.LIFE_TJBIN_HI (tempBin hot)) n

/-- THERMAL_READ (R413, R418): the 17 diodes, in 0.125 °C. -/
def execThermalRead (t : Nat) (temps : List Int) (s0 : State) : Host.Outcome State Fault Refusal :=
  let s := s0.at t
  match temps with
  | [] => .next s
  | x :: xs => .next ((s.readDiodes 0 temps).countSeconds ((xs.take 16).foldl max x))

/-! Maintenance commands (R415, R416). -/

/-- Is an activity running on a resource? -/
def State.mntRuns (s : State) (r code : Nat) : Bool :=
  match (s.res r).running with
  | some a => a.code == code
  | none => false

/-- Is a periodic activity one of a resource (R415): ZQ calibration and scrub of a channel group; eye measurements of furrows, the
party wall and the management lanes; BIST of the line exchange and the compositor array? -/
def periodicOn (r code : Nat) : Bool :=
  match code with
  | 4 => decide (66 ≤ r) && decide (r ≤ 73)
  | 5 => decide (66 ≤ r) && decide (r ≤ 73)
  | 6 => decide (r ≤ 65)
  | 8 => r == 75 || r == 76
  | _ => false

/-- MAINTENANCE_REQUEST (R416): a periodic activity asks for its resource; a refused one is skipped to its next turn. -/
def execMaintenanceRequest (t r code unit : Nat) (s0 : State) : Host.Outcome State Fault Refusal :=
  let s := s0.at t
  if s.resPresent r && periodicOn r code then .next (s.mntRequest r ⟨code, unit⟩).1
  else .next s

/-- MAINTENANCE_DONE (R416). Flash activities (codes 1–3) end in LIFE_WRITE_DONE, DIRECTORY_WRITE and CHUNK_PROGRAMMED. -/
def execMaintenanceDone (t r : Nat) (s0 : State) : Host.Outcome State Fault Refusal :=
  let s := s0.at t
  match (s.res r).running with
  | some a =>
    if a.code ≤ 3 then .next s
    else if a.code = 7 then .next (((s.wrFld (Reg.LAN_TEST a.unit) 31 28 3).lanEvent a.unit 3).mntDone r)
    else .next (s.mntDone r)
  | none => .next s

end Sys2Proof.Machine
end

