-- ==== Sys2Proof/Machine/Timing.lean ====
section
/-! DEFINITION. Timing groups, reference candidates, their selection, frame counts and headland instants (R76–R78,
R248–R265). -/
namespace Sys2Proof.Machine

/-! Frame rates and lines. -/

/-- Numerator of a rate code in frames per second (R249, TMG_TGg_CFG.RATE). -/
def rateNum (c : Nat) : Nat :=
  match c with
  | 1 => 24000
  | 2 => 24
  | 3 => 25
  | 4 => 30000
  | 5 => 30
  | 6 => 50
  | 7 => 60000
  | 8 => 60
  | _ => 0

/-- Denominator of a rate code. -/
def rateDen (c : Nat) : Nat :=
  match c with
  | 1 => 1001
  | 4 => 1001
  | 7 => 1001
  | _ => 1

/-- Total lines of a frame of a group's format, in the numbering that counts switching lines (R76, R512). -/
def formatLines (f : Nat) : Nat :=
  match f with
  | 0 => 525
  | 1 => 625
  | 2 => 750
  | _ => 1125

/-- Total raster lines of a frame: the line period is the frame period over this (R512). -/
def rasterLines (f : Nat) : Nat :=
  match f with
  | 0 => 525
  | 1 => 625
  | 2 => 750
  | 6 => 2250
  | 7 => 4500
  | _ => 1125

/-- Two fields per frame: 525i, 625i, 1080i, 1080PsF (R343). -/
def twoFields (raster : Nat) : Bool := decide (raster ≤ 1) || raster == 3 || raster == 4

/-- A group's rate code (0, or a reserved code: unused). -/
def State.tgRate (s : State) (g : Nat) : Nat := s.rdFld (Reg.TG_CFG g) 19 16

/-- A group's format code. -/
def State.tgFormat (s : State) (g : Nat) : Nat := s.rdFld (Reg.TG_CFG g) 11 8

/-- Does a group have a frame rate (R248)? -/
def State.tgUsed (s : State) (g : Nat) : Bool := decide (g < 16) && rateNum (s.tgRate g) != 0

/-- n frames of a group in ns, rounded down. -/
def State.framesNs (s : State) (g : Nat) (n : Int) : Int :=
  n * ((1000000000 * rateDen (s.tgRate g) : Nat) : Int) / ((rateNum (s.tgRate g) : Nat) : Int)

/-- One frame period of a group in ns, rounded down. -/
def State.framePeriod (s : State) (g : Nat) : Nat := (s.framesNs g 1).toNat

/-- The epoch alignment point e_F in ns of device time (R249), rounded down. -/
def State.epochOf (s : State) (g F : Nat) : Int := s.framesNs g F

/-- The frame whose epoch alignment point is nearest to an instant; on a tie the higher (R249). -/
def State.nearestFrame (s : State) (g ns : Nat) : Nat :=
  let d := 1000000000 * rateDen (s.tgRate g)
  (2 * ns * rateNum (s.tgRate g) + d) / (2 * d)

/-- An unacquired group. -/
def Group.init : Group := ⟨false, 0, 0, [], none, 0, false, false, 0, [], none⟩

/-- A candidate never seen. -/
def Cand.init : Cand := ⟨false, 0, false, false, 0, [], false, 0, false, 0⟩

/-- A group. -/
def State.grp (s : State) (g : Nat) : Group := Tab.get Group.init s.tmg g

/-- Replace a group. -/
def State.setGrp (s : State) (g : Nat) (x : Group) : State := s.setTmg (Tab.put Group.init s.tmg g x)

/-- A candidate of a group. -/
def Group.cand (x : Group) (k : Nat) : Cand := Tab.get Cand.init x.cands k

/-- Replace a candidate. -/
def Group.setCand (x : Group) (k : Nat) (c : Cand) : Group := { x with cands := Tab.put Cand.init x.cands k c }

/-- The kind of the candidate of priority k; 6–15 are treated as none, and a kind listed twice counts only at its
higher priority (R257, R268). -/
def State.candKind (s : State) (g k : Nat) : Nat :=
  let kind (j : Nat) : Nat := s.rdFld (Reg.TG_CAND g) (8 * j + 3) (8 * j)
  let v := kind k
  if 5 < v then 0 else if (List.range k).any (fun j => kind j == v) then 0 else v

/-! Headlands (R76–R78, R83, R89). -/

/-- The start of frame F of a group in device time, from its current frame. -/
def State.frameStart (s : State) (g F : Nat) : Int :=
  (s.grp g).start + s.framesNs g ((F : Int) - ((s.grp g).frame : Int))

/-- The start of the switching line after the frame start, with the output offset (R77). -/
def State.switchOffset (s : State) (g : Nat) : Nat :=
  let line := s.rdFld (Reg.XPT_TG_SWLINE g) 12 0
  s.rdFld (Reg.TG_OFFSET g) 25 0 +
    (line - 1) * (1000000000 * rateDen (s.tgRate g)) / (formatLines (s.tgFormat g) * rateNum (s.tgRate g))

/-- The switch point of frame F. -/
def State.switchPoint (s : State) (g F : Nat) : Int := s.frameStart g F + (s.switchOffset g : Int)

/-- The lead time in ns. -/
def State.leadNs (s : State) (g : Nat) : Nat := 1000 * s.rdFld (Reg.XPT_TG_LEAD g) 10 0

/-- The latch instant of frame F (R78). -/
def State.latchOf (s : State) (g F : Nat) : Int := s.switchPoint g F - (s.leadNs g : Int)

/-- The least n, which may be negative, with base + ⌊n × frame period⌋ ≥ x. -/
def State.framesUpTo (s : State) (g : Nat) (base x : Int) : Int :=
  -(((base - x) * (rateNum (s.tgRate g) : Int)) / ((1000000000 * rateDen (s.tgRate g) : Nat) : Int))

/-- The first frame whose latch instant is at or after a commit instant: equality counts as in time (R78, R83). With a large output offset that is a
frame before the current one, whose switch point is still to come. -/
def State.headlandAt (s : State) (g : Nat) (commit : Int) : Nat :=
  ((s.grp g).frame + s.framesUpTo g (s.latchOf g (s.grp g).frame) commit).toNat

/-- The first frame whose switch point is at or after a device time (R83). -/
def State.headlandFor (s : State) (g : Nat) (ns : Int) : Nat :=
  ((s.grp g).frame + s.framesUpTo g (s.switchPoint g (s.grp g).frame) ns).toNat

/-- The last frame whose switch point is at or before now, if there is one: the frame that a switch point now belongs to (R77). -/
def State.switchFrame (s : State) (g : Nat) : Option Nat :=
  let f : Int := (s.grp g).frame + s.framesUpTo g (s.switchPoint g (s.grp g).frame) ((s.deviceTime : Int) + 1) - 1
  if f < 0 then none else some f.toNat

/-- The frame of a group whose period holds an instant. -/
def State.frameOf (s : State) (g : Nat) (ns : Int) : Nat :=
  (((s.grp g).frame : Int) + s.framesUpTo g (s.grp g).start (ns + 1) - 1).toNat

/-! The state bits of a group (R262). -/

/-- The tolerance in 0.01 ppm. -/
def State.tolerance (s : State) (g : Nat) : Int := (100 * s.rdFld (Reg.TG_TOL g) 6 0 : Nat)

/-- The pull slope in ppb (0.1 ns/s is 0.1 ppb), rounded down. -/
def State.slopePpb (s : State) (g : Nat) : Int := ((s.rdFld (Reg.TG_TOL g) 29 16 / 10 : Nat) : Int)

/-- The holdover store is valid once it holds 60 s: 600 measurements of 100 ms (R253, R259). -/
def Group.holdValid (x : Group) : Bool := decide (600 ≤ x.hold.length)

/-- The mean of the holdover store. -/
def Group.holdMean (x : Group) : Int := (x.hold.take 600).foldl (· + ·) 0 / 600

/-- The live bits of a group (R262). -/
def State.liveBits (s : State) (g : Nat) : Nat :=
  let x := s.grp g
  if !s.tgUsed g then 0
  else
    let lostBit := if (List.range 4).any (fun k => s.candKind g k != 0 && (x.cand k).lost) then 16 else 0
    match x.active with
    | none => (if x.holdValid then 4 else 8) + lostBit
    | some k =>
      let main := if s.candKind g k = 5 then 8 else if x.pulling then 2 else if x.locked then 1 else 2
      main + lostBit + (if (x.cand k).drift then 32 else 0) + (if k = 0 then 0 else 64)

/-- Bits of a that are not in b. -/
def risen (a b : Nat) : Nat := a - Nat.land a b

/-- Set sticky bits of a group; a sticky bit set while its enable is 1 sets TMG_EVENT bit g (R262). -/
def State.tgSticky (s : State) (g m : Nat) : State :=
  if m = 0 then s
  else
    let s1 := s.orReg (Reg.TG_STICKY g) (BitVec.ofNat 32 m)
    if Nat.land m (s.rd (Reg.TG_INT_EN g)).toNat = 0 then s1 else s1.event Reg.TMG_EVENT 4 (maskBit g)

/-- Replace a group and set the sticky bits of the live bits that rise: LOCKED, PULLING, HOLDOVER, FREERUN and
REF_DRIFT; SWITCHED when the active candidate changes (R262). -/
def State.updGrp (s : State) (g : Nat) (x : Group) : State :=
  let s1 := s.setGrp g x
  let up := Nat.land (risen (s1.liveBits g) (s.liveBits g)) 0x2F
  let sw := if (s.grp g).active = x.active then 0 else 64
  s1.tgSticky g (up + sw)

/-! Selection (R257, R260, R261). -/

/-- Is the candidate of priority k qualified? FREE always is (R254). -/
def State.candOk (s : State) (x : Group) (g k : Nat) : Bool :=
  s.candKind g k == 5 || (s.candKind g k != 0 && (x.cand k).qualified)

/-- The highest-priority qualified candidate. -/
def State.bestCand (s : State) (x : Group) (g : Nat) : Option Nat :=
  (List.range 4).find? fun k => s.candOk x g k

/-- The candidate R257 selects. -/
def State.selectCand (s : State) (x : Group) (g : Nat) : Option Nat :=
  match x.active with
  | none => s.bestCand x g
  | some a =>
    if s.candOk x g a then
      match s.bestCand x g with
      | some b => if b < a ∧ s.rdBit (Reg.TG_CFG g) 31 then some b else some a
      | none => some a
    else s.bestCand x g

/-- The frequency of a group in ppb: in HOLDOVER the store's, in FREERUN 0; while pulling the reference's plus the
slope limit towards the target; otherwise the reference's plus a correction that the loop filter sets within the slope
limit, a free value (R259, R260). -/
def State.tgFreqNext (s : State) (x : Group) (g : Nat) : Int :=
  match x.active with
  | none => if x.holdValid then 10 * x.holdMean else 0
  | some k =>
    let ref := match (x.cand k).means with
      | [] => 0
      | m => 10 * ((m.map (·.2)).foldl (· + ·) 0 / (m.length : Int))
    if s.candKind g k = 5 then 0
    else if x.pulling then (if 0 < x.phi then ref - s.slopePpb g else ref + s.slopePpb g)
    else ref + ((s.freeVal % (2 * (s.slopePpb g).toNat + 1) : Nat) : Int) - s.slopePpb g

/-- Make a candidate active: a pull begins if its phase error is above 20 ns (R260, R261); without a candidate a pull
stops (R259). -/
def Group.activate (x : Group) (c : Option Nat) : Group :=
  if x.active = c then x
  else
    match c with
    | none => { x with active := none, pulling := false, locked := false, phi := 0 }
    | some k =>
      let p := (x.cand k).phi
      { x with active := some k, phi := p, pulling := decide (20 < p.natAbs), locked := decide (p.natAbs ≤ 20) }

/-- Select the active candidate and store the group (R257). -/
def State.reselect (s : State) (g : Nat) (x : Group) : State :=
  let y := x.activate (s.selectCand x g)
  (s.freeNext).updGrp g { y with freq := s.tgFreqNext y g }

/-- The mean of a candidate's measurements in 0.01 ppm (R253). -/
def Cand.mean (c : Cand) : Int :=
  match c.means with
  | [] => 0
  | m => (m.map (·.2)).foldl (· + ·) 0 / (m.length : Int)

/-- Disqualify a candidate with a cause (R254–R256). -/
def Cand.disqualify (c : Cand) (now cause : Nat) : Cand :=
  { c with qualified := false, disqualified := true, cleanSince := now, cause := cause }

/-- M of R251: frames of the group in one frame of a candidate's rate: 1, 2, or 0 where the rate does not fit. -/
def framesPer (c r : Nat) : Nat :=
  if rateNum c = 0 then 0
  else if rateNum c * rateDen r = rateNum r * rateDen c then 1
  else if 2 * rateNum c * rateDen r = rateNum r * rateDen c then 2
  else 0

/-- The configuration register of the genlock input of a candidate kind. -/
def glCfg (kind : Nat) : Nat := if kind = 1 then Reg.TMG_GLA_CFG else Reg.TMG_GLB_CFG

/-- Does a genlock input of a candidate run in 10 MHz + PPS mode (R250)? -/
def State.ppsMode (s : State) (kind : Nat) : Bool := (kind == 1 || kind == 2) && s.rdBit (glCfg kind) 31

/-- M of a candidate (R251). -/
def State.candFrames (s : State) (g k : Nat) : Nat :=
  match s.candKind g k with
  | 4 => framesPer (s.rdFld (Reg.SDI_RX_CFG (s.rdFld (Reg.TG_SDI g) 9 0)) 23 20) (s.tgRate g)
  | kind => framesPer (s.rdFld (glCfg kind) 27 24) (s.tgRate g)

/-- Does a genlock or SDI candidate fit the group: its frame rate the group's, or half of it (R251)? An SDI candidate
needs a lane that is an SDI input. -/
def State.candFits (s : State) (g k : Nat) : Bool :=
  let kind := s.candKind g k
  if kind = 1 ∨ kind = 2 then s.ppsMode kind || s.candFrames g k != 0
  else if kind = 4 then
    let l := s.rdFld (Reg.TG_SDI g) 9 0
    let p := s.rdFld (Reg.LAN_CFG l) 31 28
    s.lanePresent l && (p == 1 || p == 2) && s.rdBit (Reg.LAN_CFG l) 19 && s.candFrames g k != 0
  else true

/-- A phase reduced modulo a span into −span/2 (left out) to +span/2 (R252). -/
def reducePhase (x span : Int) : Int :=
  let r := x % span
  if span < 2 * r then r - span else r

/-- The phase error of a candidate in ns (R250, R252). `mark` is the last mark of a genlock input in pulse mode, its F pulse edge, or of an SDI input, the start of
its line 1, in device time; the other targets are the epoch alignment point, and FREE has none. -/
def State.phaseError (s : State) (g k : Nat) (mark : Int) : Int :=
  let x := s.grp g
  let kind := s.candKind g k
  let span := s.framesNs g (s.candFrames g k : Nat)
  if kind = 3 ∨ s.ppsMode kind = true then x.start - s.epochOf g x.frame
  else if kind = 4 then reducePhase (x.start - mark) span
  else if kind = 1 ∨ kind = 2 then reducePhase (x.start - (mark - (s.rdFld (glCfg kind) 11 0 : Nat))) span
  else 0

/-- The phase error of a group's active candidate. -/
def State.activeError (s : State) (g : Nat) (mark : Int) : Int :=
  match (s.grp g).active with
  | some k => s.phaseError g k mark
  | none => 0

/-- May a candidate qualify now (R254): present for 60 s with every mean inside the limit? -/
def State.mayQualify (s : State) (g k : Nat) : Bool :=
  let c := (s.grp g).cand k
  s.tgUsed g && decide (k ≤ 3) && s.candKind g k != 0 && s.candKind g k != 5 && c.present && !c.qualified &&
    s.candFits g k && decide (max c.presentSince c.cleanSince + 60000000000 ≤ s.now)

/-- Does a fault of the candidate fall in this instant (R263)? -/
def State.candFaultFalls (s : State) (g k : Nat) : Bool :=
  s.sameInstant fun c => match c with
    | .candidateLoss t a b => decide (t ≤ s.now) && a == g && b == k
    | .candidateGlitch t a b => decide (t ≤ s.now) && a == g && b == k
    | .candidateRateChange t a b => decide (t ≤ s.now) && a == g && b == k
    | _ => false

/-- Does the candidate's qualification complete in this instant, with no fault of it (R263)? -/
def State.qualifiesNow (s : State) (g k : Nat) : Bool :=
  s.mayQualify g k && !s.candFaultFalls g k && s.sameInstant fun c => match c with
    | .candidateQualified t a b => decide (t ≤ s.now) && a == g && b == k
    | _ => false

/-- A candidate's qualification (R254). -/
def Cand.qualify (c : Cand) : Cand := { c with qualified := true, cause := 0 }

/-- The group with the candidates qualified whose qualification completes in this instant (R263). -/
def State.qualifyNow (s : State) (g : Nat) : Group :=
  (List.range 4).foldl (fun a k => if s.qualifiesNow g k then a.setCand k (a.cand k).qualify else a) (s.grp g)

/-- A new candidate order (R257, R266): each kind keeps its history under its new priority, the active candidate with it. -/
def State.moveCands (s : State) (g : Nat) (word : Word) : State :=
  let s1 := s.wr (Reg.TG_CAND g) word
  let x := s.grp g
  let old (k : Nat) : Option Nat := (List.range 4).find? fun j => s.candKind g j != 0 && s.candKind g j == s1.candKind g k
  let y := (List.range 4).foldl (fun a k => a.setCand k (match old k with
    | some j => x.cand j
    | none => Cand.init)) x
  s1.setGrp g { y with active := x.active.bind fun a => (List.range 4).find? fun k => old k == some a }

/-- A new candidate order takes effect, and selection runs (R257). -/
def State.reorderCands (s : State) (g : Nat) (word : Word) : State :=
  let s1 := s.moveCands g word
  s1.reselect g (s1.grp g)

/-- The priority of a kind. -/
def State.prioOf (s : State) (g kind : Nat) : Nat := ((List.range 4).find? fun k => s.candKind g k == kind).getD 4

/-- Does a service period of the firmware fall in this instant? -/
def State.serviceFalls (s : State) : Bool :=
  s.ctl.mode != .boot && !s.boot.romFallback && s.sameInstant fun c => match c with
    | .servicePeriod t => decide (t ≤ s.now)
    | _ => false

/-- The candidate order and tolerance that a LIVE_SET brings in this instant count for an event of it (R263). -/
def State.timingNow (s : State) (g : Nat) : State :=
  if s.serviceFalls then
    ((s.xpt.pending.filter fun p => p.left.contains 16).flatMap fun p => p.live).foldl (fun a e =>
      if e.index = g ∧ e.param = 0x17 then a.wrFld (Reg.TG_TOL g) 6 0 (beAt e.value 0 1)
      else if e.index = g ∧ e.param = 0x1B then a.moveCands g (BitVec.ofNat 32 (le (slice e.value 0 4)))
      else a) s
  else s

/-- Record a genlock input's presence, cause and mean in its status register (R268). -/
def State.glStatus (s : State) (g k : Nat) : State :=
  let c := (s.grp g).cand k
  let w := BitVec.ofNat 32 (b2n c.present * 2147483648 + c.cause * 134217728 +
    ofSigned 16 (clampInt (-32768) 32767 c.mean))
  match s.candKind g k with
  | 1 => s.wr Reg.TMG_GLA_STATUS w
  | 2 => s.wr Reg.TMG_GLB_STATUS w
  | _ => s

/-- A fault of a candidate: it is disqualified, `gone` also takes its presence away, and one selection runs, with the qualifications and the order of the
same instant (R263). The measurement that spans the periods before a detected loss is discarded (R256, R257, R259). -/
def State.candFault (s0 : State) (g k0 cause : Nat) (lost gone : Bool) : State :=
  if !s0.tgUsed g || decide (3 < k0) || s0.candKind g k0 == 0 || s0.candKind g k0 == 5 then s0
  else
    let kind := s0.candKind g k0
    let s := (s0.setGrp g (s0.qualifyNow g)).timingNow g
    let k := s.prioOf g kind
    let x := s.grp g
    let c := (x.cand k).disqualify s.now cause
    let c1 := { c with lost := c.lost || lost, present := c.present && !gone, means := if lost then c.means.drop 1 else c.means }
    let x1 := if lost ∧ x.active = some k then { x with hold := x.hold.drop 1 } else x
    let s1 := (List.range 4).foldl (fun a j => a.glStatus g j) (s.reselect g (x1.setCand k c1))
    if lost then s1.tgSticky g 16 else s1

/-- A glitch of every PTP candidate: a master change or a refused step (R256). -/
def State.ptpGlitch (s : State) : State :=
  (List.range 16).foldl (fun a g =>
    (List.range 4).foldl (fun b k => if b.candKind g k = 3 then b.candFault g k 2 false false else b) a) s

/-! The meanings. -/

/-- Are 100 ms past since the candidate was last measured (R253)? -/
def Cand.measureDue (c : Cand) (now : Nat) : Bool :=
  match c.means with
  | m :: _ => decide (m.1 + 100000000 ≤ now)
  | [] => true

/-- CANDIDATE_MEASURE (R252–R255): a present candidate's offset, in 0.01 ppm, and its last mark. A tolerance that changes in the same instant is the one
tested against (R263). -/
def execCandidateMeasure (t g k0 : Nat) (offset mark : Int) (s0 : State) : Host.Outcome State Fault Refusal :=
  let s1 := s0.at t
  if !s1.tgUsed g || decide (3 < k0) || s1.candKind g k0 == 0 || s1.candKind g k0 == 5 || !((s1.grp g).cand k0).present ||
      !((s1.grp g).cand k0).measureDue s1.now then .next s1
  else
  let s := s1.timingNow g
  let k := s.prioOf g (s1.candKind g k0)
  let phi := s.phaseError g k mark
  let x := s.grp g
  let c := x.cand k
    let c1 := { c with means := ((s.now, offset) :: c.means).filter (fun m => decide (s.now < m.1 + 10000000000)), phi := phi }
    let a : Int := c1.mean.natAbs
    let tol := s.tolerance g
    let drift := if tol < 2 * a then true else if 5 * a < 2 * tol then false else c.drift
    let inside := if c.disqualified then decide (5 * a < 4 * tol) else decide (a ≤ tol)
    let c2 := { c1 with drift := drift }
    let c3 :=
      if !s.candFits g k then { c2 with qualified := false, cause := 5 }
      else if c.qualified then (if tol < a then c2.disqualify s.now 4 else c2)
      else if inside then c2 else { c2 with cleanSince := s.now }
    let x1 := x.setCand k c3
    let x2 := if x.active = some k then { x1 with phi := phi, hold := (offset :: x1.hold).take 600 } else x1
    .next ((s.reselect g x2).glStatus g k)

/-- CANDIDATE_QUALIFIED (R254): present for 60 s with every mean inside the limit, and no fault in the same instant (R263). -/
def execCandidateQualified (t g k : Nat) (s0 : State) : Host.Outcome State Fault Refusal :=
  let s := s0.at t
  if s.mayQualify g k && !s.candFaultFalls g k then
    .next ((s.reselect g ((s.grp g).setCand k ((s.grp g).cand k).qualify)).glStatus g k)
  else .next s

/-- CANDIDATE_LOSS (R256). -/
def execCandidateLoss (t g k : Nat) (s0 : State) : Host.Outcome State Fault Refusal :=
  .next ((s0.at t).candFault g k 1 true true)

/-- CANDIDATE_GLITCH (R256). -/
def execCandidateGlitch (t g k : Nat) (s0 : State) : Host.Outcome State Fault Refusal :=
  .next ((s0.at t).candFault g k 2 false false)

/-- CANDIDATE_RATE_CHANGE (R256): the candidate is present again only after 8 valid periods. -/
def execCandidateRateChange (t g k : Nat) (s0 : State) : Host.Outcome State Fault Refusal :=
  .next ((s0.at t).candFault g k 3 false true)

/-- CANDIDATE_RETURN (R256): 8 consecutive valid periods make the candidate present. -/
def execCandidateReturn (t g k : Nat) (s0 : State) : Host.Outcome State Fault Refusal :=
  let s := s0.at t
  let x := s.grp g
  let c := x.cand k
  if s.tgUsed g && decide (k ≤ 3) && s.candKind g k != 0 && s.candKind g k != 5 && !c.present then
    .next ((s.updGrp g (x.setCand k { c with present := true, presentSince := s.now, lost := false, means := [] })).glStatus g k)
  else .next s

/-- The candidate a group acquires: the highest-priority one present for 100 ms without a glitch (R258). -/
def State.acquirable (s : State) (g : Nat) : Option Nat :=
  (List.range 4).find? fun k =>
    let c := (s.grp g).cand k
    s.candKind g k == 5 || (s.candKind g k != 0 && c.present && s.candFits g k &&
      decide (max c.presentSince c.cleanSince + 100000000 ≤ s.now))

/-- Set a group's timing: the frame that starts at `target` gets the number nearest its epoch alignment point (R249,
R258). -/
def State.acquire (s : State) (g : Nat) (k : Option Nat) (target : Nat) : State :=
  let x := s.grp g
  let x1 := match k with
    | some j => x.setCand j (x.cand j).qualify
    | none => x
  s.updGrp g { x1 with
    acquired := true, frame := s.nearestFrame g target, start := (target : Int), active := k, phi := 0, pulling := false,
    locked := k.isSome }

/-- The target of a candidate's phase (R250): for PTP, and genlock in 10 MHz + PPS mode, the epoch alignment point nearest the instant given; FREE keeps no
target and takes it as well (s_F = e_F); an F pulse edge minus the input's delay compensation; the start of line 1 of an SDI input. -/
def State.candTarget (s : State) (g k mark : Nat) : Nat :=
  let kind := s.candKind g k
  if kind = 3 ∨ kind = 5 ∨ s.ppsMode kind = true then (s.epochOf g (s.nearestFrame g mark)).toNat
  else if kind = 1 ∨ kind = 2 then mark - s.rdFld (glCfg kind) 11 0
  else mark

/-- A used group that has acquired nothing by the end of sowing starts in FREERUN with s_F = e_F (R258). -/
def State.startFree (s : State) : State :=
  (List.range 16).foldl (fun a g =>
    if a.tgUsed g && !(a.grp g).acquired then
      a.acquire g none (a.epochOf g (a.deviceTime * rateNum (a.tgRate g) / (1000000000 * rateDen (a.tgRate g)))).toNat
    else a) s

/-- GROUP_ACQUIRE (R258): before the first entry to SERVICE or JOIN. -/
def execGroupAcquire (t g target : Nat) (s0 : State) : Host.Outcome State Fault Refusal :=
  let s := s0.at t
  if s.ctl.entered || !s.tgUsed g || (s.grp g).acquired then .next s
  else
    match s.acquirable g with
    | none => .next s
    | some k => .next (s.acquire g (some k) (s.candTarget g k target))

/-- Does another candidate become active by a qualification that completes in this instant (R263)? -/
def State.switchesNow (s : State) (g : Nat) : Bool := s.selectCand (s.qualifyNow g) g != (s.grp g).active

/-- DPLL_LOCKED (R260): |φ| ≤ 20 ns. Where a better candidate becomes active in the same instant the group stays PULLING (R263). -/
def execDpllLocked (t g : Nat) (mark : Int) (s0 : State) : Host.Outcome State Fault Refusal :=
  let s := s0.at t
  let phi := s.activeError g mark
  let x := s.grp g
  if s.tgUsed g && x.active.isSome && decide (phi.natAbs ≤ 20) && !s.switchesNow g then
    let y := { x with phi := phi, pulling := false, locked := true }
    .next ((s.freeNext).updGrp g { y with freq := s.tgFreqNext y g })
  else .next s

/-- DPLL_LEAVES_LOCKED (R260): |φ| > 100 ns. The group then pulls again, so that exactly one of bits 0–3 stays live
(R262; DEDUCED, log 20). -/
def execDpllLeavesLocked (t g : Nat) (mark : Int) (s0 : State) : Host.Outcome State Fault Refusal :=
  let s := s0.at t
  let phi := s.activeError g mark
  let x := s.grp g
  if s.tgUsed g && x.active.isSome && x.locked && decide (100 < phi.natAbs) then
    let y := { x with phi := phi, pulling := true, locked := false }
    .next ((s.freeNext).updGrp g { y with freq := s.tgFreqNext y g })
  else .next s

/-- Do this device's outputs stand lit from a group's next line 1 (R239–R241, R243)? In SERVICE with no resync pending; an ALONGSIDE device
only once its handover instant has come; and in TEST, with the generators alone (R57). -/
def State.outputsMayLight (s : State) : Bool :=
  s.power.reaping.isNone && (s.ctl.mode == .test ||
    (s.ctl.mode = .service && (s.ctl.role ≠ .alongside || s.twn.ho.phase == 3) && !s.twn.resyncPending))

/-- The outputs of a group light or darken at its line 1. -/
def State.lightGroup (s : State) (g : Nat) : State :=
  let bit := 2 ^ g
  let others := Nat.lor s.twn.lit bit - bit
  (s.setTwn { s.twn with lit := if s.outputsMayLight then others + bit else others })

/-- FO_PERIOD of a layout word, its reserved values taken as 1 (R268: a reserved value leaves the field unchanged, so none is
ever held). -/
def foPeriod (w : Word) : Nat := let p := fld w 31 29; if p = 0 ∨ 5 < p then 1 else p

/-- FRAME_OUT_PULSE (R264): on frames with (F − FO_PHASE) mod FO_PERIOD = 0, while the key gate is open (R208). -/
def execFrameOutPulse (t g : Nat) (s0 : State) : Host.Outcome State Fault Refusal :=
  let s := s0.at t
  let x := s.grp g
  let w := s.rd (Reg.TG_FO_STATUS g)
  if s.tgUsed g && x.acquired && s.gateOpen &&
      ((x.frame : Int) - (fld w 28 26 : Int)) % (foPeriod w : Int) == 0 then
    .next (s.emit (.pulse g (x.start + (fld w 25 0 : Int)).toNat (1000 * s.rdFld (Reg.TG_FO_WIDTH g) 9 0)))
  else .next s

/-- The groups named wait to take their staged FRAME_OUT values (R265). -/
def State.realign (s : State) (mask : Nat) : State :=
  (List.range 16).foldl (fun a g => if (mask / 2 ^ g) % 2 = 1 then a.setGrp g { a.grp g with realign := some a.now } else a) s

/-- TG_REALIGN (R265): with CONFIRM. -/
def execTgRealign (t confirm mask : Nat) (s0 : State) : Host.Outcome State Fault Refusal :=
  let s := s0.at t
  if confirm = Config.confirm then .next (s.realign mask) else .next s

/-- A group's FO_CFG comes into force: FO_PHASE modulo FO_PERIOD, and FO_OFFSET modulo the frame period (R265). -/
def State.foApply (s : State) (g : Nat) : State :=
  let cfg := s.rd (Reg.TG_FO_CFG g)
  let p := foPeriod cfg
  s.wr (Reg.TG_FO_STATUS g)
    (BitVec.ofNat 32 (p * 536870912 + fld cfg 28 26 % p * 67108864 + fld cfg 25 0 % s.framePeriod g))

/-- The values of FRAME_OUT that the image sets are in force from sowing (R265). -/
def State.foLoad (s : State) : State := (List.range 16).foldl (fun a g => if a.tgUsed g then a.foApply g else a) s

/-- Does a group's next frame start in this instant, its FRAME_START waiting? -/
def State.frameStarts (s : State) (g : Nat) : Bool :=
  s.sameInstant fun c => match c with
    | .frameStart t a => decide (t ≤ s.now) && a == g
    | _ => false

/-- REALIGN_APPLY (R265): at the first frame start at least 1 ms after the write. -/
def execRealignApply (t g : Nat) (s0 : State) : Host.Outcome State Fault Refusal :=
  let s := s0.at t
  let x := s.grp g
  match x.realign with
  | none => .next s
  | some w =>
    if s.tgUsed g && decide (w + 1000000 ≤ s.now) &&
        (s.frameStarts g || decide ((w : Int) + 1000000 + ((s.deviceTime : Int) - x.start) ≤ (s.now : Int))) then
      .next ((s.setGrp g { x with realign := none }).foApply g)
    else .next s

end Sys2Proof.Machine
end

