-- ==== Sys2Proof/Machine/Source.lean ====
section
/-! DEFINITION. What feeds what: the sources and contexts behind a port, what a lane carries (R300), and what follows when an
input is lost or comes back (R75, R117, R177). -/
namespace Sys2Proof.Machine

/-- The row of a destination that nothing was taken to: source 4,032, black (R96). -/
def idleRow : VRow := ⟨4032, 4032, 0, false, 0⟩

/-- The row of an audio destination that nothing was taken to: silent. -/
def idleARow : ARow := ⟨none, 0⟩

/-- A stored stream before anything was written to it. -/
def coldStream : StreamRun :=
  ⟨0, 0, [], 0, [], none, false, [], [], false, none, none, none, none, none, none, 0, (none, none), [], [], 0, false, [], 0, [], 0, 0, 0, 0, 0, 0, 0, 0, 0, 0, []⟩

/-- An audio input whose origin has not become ready (R177). -/
def coldIn : AudIn := ⟨0, true, 48, none, none, [], [], false, []⟩

/-- A stream's run. -/
def State.stream (s : State) (i : Nat) : StreamRun := Tab.get coldStream s.streams i

/-- Replace a stream's run. -/
def State.setStream (s : State) (i : Nat) (x : StreamRun) : State := s.setStreams (Tab.put coldStream s.streams i x)

/-- An audio input. -/
def State.audIn (s : State) (i : Nat) : AudIn := Tab.get coldIn s.aud.ins i

/-- Replace an audio input. -/
def State.setAudIn (s : State) (i : Nat) (x : AudIn) : State :=
  s.setAud { s.aud with ins := Tab.put coldIn s.aud.ins i x }

/-- The personality of a lane page (R286). -/
def State.pers (s : State) (i : Nat) : Nat := s.rdFld (Reg.LAN_CFG i) 31 28

/-- Does a lane carry an SDI port? -/
def State.isSdi (s : State) (i : Nat) : Bool := s.pers i == 1 || s.pers i == 2

/-- Does a lane page carry an Ethernet port (R326)? -/
def State.isEth (s : State) (i : Nat) : Bool := s.pers i == 3 || s.pers i == 4 || s.pers i == 5

/-- The lead lane of the port a lane's receiver belongs to (R309, R326). -/
def State.rxLead (s : State) (i : Nat) : Nat :=
  if s.isSdi i then s.rdFld (Reg.SDI_RX_CFG i) 9 0 else if s.pers i = 5 then i - i % 4 else i

/-- The lead lane of the port a lane's transmitter belongs to. -/
def State.txLead (s : State) (i : Nat) : Nat :=
  if s.isSdi i then s.rdFld (Reg.SDI_TX_CFG i) 9 0 else if s.pers i = 5 then i - i % 4 else i

/-- The receive lanes of the port with lead lane l, within its furrow. -/
def State.rxLanes (s : State) (l : Nat) : List Nat :=
  ((List.range 16).map (fun k => l - l % 16 + k)).filter fun i => s.pers i != 0 && s.rxLead i == l

/-- May a port be lost for a cause (R315): 0 LOS on a lane of the port, 1 a bad line, 2 skew, 3 the payload ID under REQUIRE? -/
def State.lossHolds (s : State) (l cause : Nat) : Bool :=
  if cause = 0 then (s.rxLanes l).any fun i => !s.rdBit (Reg.LAN_STATUS i) 31
  else if cause = 3 then s.rdFld (Reg.SDI_RX_CFG l) 15 14 == 2
  else decide (cause ≤ 2)

/-- The contexts of one direction listed in the register file that are enabled, at page base `base`. -/
def State.contexts (s : State) (base : Nat) : List Nat :=
  (s.regs.filter fun e => decide (base ≤ e.1) && decide (e.1 < base + 0x80000) && (e.1 - base) % 0x40 == 0 &&
    bit e.2 31).map fun e => (e.1 - base) / 0x40

/-- The enabled receive contexts, without those that CFG_BAD keeps disabled (R341). -/
def State.rxcs (s : State) : List Nat := (s.contexts 0x140000).filter fun n => !s.rdBit (Reg.RXC_STATUS n) 27

/-- The enabled transmit contexts, without those that CFG_BAD keeps disabled. -/
def State.txcs (s : State) : List Nat := (s.contexts 0x1C0000).filter fun n => !s.rdBit (Reg.TXC_STATUS n) 30

/-- Does a word of RXCn_PATHS or TXCn_PATHS name a lead lane (R362)? -/
def pathsName (w : Word) (l : Nat) : Bool := fld w 9 0 == l || (bit w 31 && fld w 25 16 == l)

/-- The video sources that an SDI port or a receive context feeds. -/
def State.sourcesOf (s : State) (x : Input) : List Nat :=
  (s.cfg.srcs.filter fun e => decide (e.2.input = x) ||
    (match x, e.2.pairB with
      | .sdi l, some b => b == l
      | _, _ => false)).map fun e => e.1

/-- Is a video source in a table, as V or as N source of a destination or compositor layer? -/
def inVTable (v : Tab VRow) (src : Nat) : Bool := v.any fun e => e.2.srcV == src || e.2.srcN == src

/-- Is an audio source in a table? -/
def inATable (a : Tab ARow) (src : Nat) : Bool := a.any fun e => decide (e.2.src = some src)

/-- Does audio origin kind and place feed a destination of the table? -/
def State.originOnAir (s : State) (a : Tab ARow) (kinds : List Nat) (place : Nat) : Bool :=
  s.cfg.asrc.any fun e => kinds.contains e.2.kind && e.2.place == place && inATable a e.1

/-- Is receive context n used by a destination of the tables: itself, or through the video context it is attached to? -/
def State.rxcOnAir (s : State) (v : Tab VRow) (a : Tab ARow) (n : Nat) : Bool :=
  (s.sourcesOf (.rxc n)).any (inVTable v) || s.originOnAir a [2, 3] n ||
    (s.rdFld (Reg.RXC_CFG n) 30 28 == 3 && (s.sourcesOf (.rxc (s.rdFld (Reg.RXC_TARGET n) 12 0))).any (inVTable v))

/-- Does a lane's receiver feed something on air in the tables (R300)? -/
def State.rxCarries (s : State) (v : Tab VRow) (a : Tab ARow) (i : Nat) : Bool :=
  let l := s.rxLead i
  if s.isSdi i then (s.sourcesOf (.sdi l)).any (inVTable v) || s.originOnAir a [1] l
  else if s.isEth i && decide (i < 1024) then
    s.rxcs.any fun n => pathsName (s.rd (Reg.RXC_PATHS n)) l && s.rxcOnAir v a n
  else false

/-- Does a lane's transmitter carry a destination or context whose source is not 4,032 (R300)? -/
def State.txCarries (s : State) (v : Tab VRow) (a : Tab ARow) (i : Nat) : Bool :=
  let l := s.txLead i
  let live (d : Nat) : Bool := (Tab.get idleRow v d).srcV != 4032
  if s.isSdi i then s.cfg.dsts.any fun e => e.2.txc.isNone && e.2.lane == l && live e.1
  else if s.isEth i && decide (i < 1024) then
    s.txcs.any fun n => pathsName (s.rd (Reg.TXC_PATHS n)) l &&
      (let ess := s.rdFld (Reg.TXC_CFG n) 30 28
       if ess = 0 ∨ ess = 3 then live (s.rdFld (Reg.TXC_SOURCE n) 11 0)
       else s.cfg.adst.any fun e => (e.2.kind == 2 || e.2.kind == 3) && e.2.place == n &&
         (Tab.get idleARow a e.1).src.isSome)
  else false

/-- Would a lane carry traffic with the given tables on air (R300)? -/
def State.carriesWith (s : State) (v : Tab VRow) (a : Tab ARow) (i : Nat) : Bool :=
  if 1032 ≤ i then s.rwlLocked
  else if 1024 ≤ i then s.twn.wall.up && (s.twn.wall.locked / 2 ^ (i - 1024)) % 2 == 1
  else s.rxCarries v a i || s.txCarries v a i

/-- Does a lane carry traffic (R300)? -/
def State.carriesTraffic (s : State) (i : Nat) : Bool := s.carriesWith s.xpt.vout s.xpt.aout i

/-! An input is lost or comes back. -/

/-- Is a destination in the handling of R75? -/
def State.isLost (s : State) (d : Nat) : Bool := (Tab.find? s.xpt.lost d).isSome

/-- A destination enters the handling of R75: black from a line of a frame on, its flag, event and count, a C2 record. -/
def State.windowLost (s : State) (d frame line : Nat) : State :=
  if s.isLost d then s
  else
    let s1 := s.setXpt { s.xpt with
      lost := Tab.insert s.xpt.lost d line, black := Tab.insert (Tab.erase s.xpt.black d) d ((frame, line), none) }
    ((s1.xptEvent 3).bump Reg.XPT_CNT_WINDOW_LOST).raise 0x011 0x20 d 2

/-- The timing group of a compositor. -/
def State.cmpGroup (s : State) (c : Nat) : Nat := s.rdFld (Reg.CMP_CFG c) 23 20

/-- Is a video destination a compositor's layer input? -/
def isLayer (d : Nat) : Bool := decide (3584 ≤ d)

/-- The compositor of a layer input. -/
def layerCmp (d : Nat) : Nat := (d - 3584) / 8

/-- The timing group of a video destination (R24, R147). -/
def State.dstGroup (s : State) (d : Nat) : Nat :=
  if isLayer d then s.cmpGroup (layerCmp d)
  else match Tab.find? s.cfg.dsts d with
    | some c => c.tg
    | none => 0

/-- Does this device send decisions: the keyholder with the wall up (R119)? -/
def State.tellsPeer (s : State) : Bool := s.ctl.role == .keyholder && s.twn.wall.up

/-- The window decision of a destination goes to the peer (R222): black from a line, or restored at frame start. -/
def State.tellWindow (s : State) (d frame value : Nat) : State :=
  if s.tellsPeer then s.sendWall (.decision [⟨5, s.dstGroup d, d, frame, value⟩]) else s

/-- The black of a destination in R75 handling ends at a line of a frame. -/
def State.endBlack (s : State) (d frame line : Nat) : State :=
  match Tab.find? s.xpt.black d with
  | some (start, none) =>
    s.setXpt { s.xpt with
      lost := Tab.erase s.xpt.lost d, black := Tab.insert (Tab.erase s.xpt.black d) d (start, some (frame, line)) }
  | _ => s.setXpt { s.xpt with lost := Tab.erase s.xpt.lost d }

/-- An on-air source left its window: black from this line of this frame on (R75). A follower with the wall up applies the keyholder's decisions. -/
def State.leaveWindow (s : State) (d frame line : Nat) : State :=
  if s.isLost d || (s.ctl.role == .follower && s.twn.wall.up) then s
  else (s.windowLost d frame line).tellWindow d frame (9223372036854775808 + line % 8192)

/-- The frame and line of a group's destinations that is being sent now (R72, R76): with an output offset that may be a line of the frame before the
current one. -/
def State.lineNow (s : State) (g : Nat) : Nat × Nat :=
  let past := (s.deviceTime : Int) - (s.grp g).start - (s.rdFld (Reg.TG_OFFSET g) 25 0 : Nat)
  let period : Int := (max 1 (s.framePeriod g) : Nat)
  ((((s.grp g).frame : Int) + past / period).toNat,
    clampNat 1 8191 ((past % period).toNat * rasterLines (s.tgFormat g) / period.toNat + 1))

/-- The destinations on air that show a video source. -/
def State.showing (s : State) (src : Nat) : List Nat :=
  (s.xpt.vout.filter fun e => e.2.srcV == src).map fun e => e.1

/-- A video source whose input is lost or has changed format: through the frame store it is not ready and the frame in progress never
becomes COMPLETE (R117, R124); on the line exchange it leaves the window at every destination it is on air at (R75). -/
def State.sourceLost (s : State) (src : Nat) : State :=
  match Tab.find? s.cfg.srcs src with
  | none => s
  | some c =>
    if c.synced then
      let x := s.stream src
      s.setStream src { x with ready := false, lost := true, broken := x.broken || x.opened.isSome }
    else
      let s1 := s.setXpt { s.xpt with lags := s.xpt.lags.filter fun e => e.1 / 16 != src }
      ((s1.showing src).filter fun d => !isLayer d).foldl (fun a d =>
        let at_ := a.lineNow (a.dstGroup d)
        a.leaveWindow d at_.1 at_.2) s1

/-- A video source whose input became ready. -/
def State.sourceReady (s : State) (src : Nat) : State :=
  match Tab.find? s.cfg.srcs src with
  | none => s
  | some c => if c.synced then s.setStream src { s.stream src with ready := true } else s

/-- Every source of an input is lost. -/
def State.inputLost (s : State) (x : Input) : State := (s.sourcesOf x).foldl State.sourceLost s

/-- Every source of an input is ready. -/
def State.inputReady (s : State) (x : Input) : State := (s.sourcesOf x).foldl State.sourceReady s

/-! Audio inputs. -/

/-- The input index of an origin (AUD_IN_SEL); none for no origin. -/
def Origin.input (o : Origin) : Option Nat :=
  if o.kind = 1 then some o.place
  else if o.kind = 2 ∨ o.kind = 3 then some (1024 + o.place)
  else if o.kind = 4 then some (9216 + o.place)
  else none

/-- The FIFO channel that an origin reads. -/
def Origin.fifoChannel (o : Origin) : Nat := 2 * o.channel + b2n ((o.kind == 2 || o.kind == 3) && o.rate == 2)

/-- The source origins of an input. -/
def State.originsOf (s : State) (i : Nat) : List (Nat × Origin) := s.cfg.asrc.filter fun e => decide (e.2.input = some i)

/-- Is an input declared FOREIGN by an origin entry (R190)? -/
def State.inForeign (s : State) (i : Nat) : Bool := (s.originsOf i).any fun e => e.2.foreign

/-- A port that never ran. -/
def coldPort : PortRun := ⟨0, 0, none, none, 0, 0, 0, 0, false, 0, 0, [], [], [], [], false, none, none, false, []⟩

/-- A port's run. -/
def State.port (s : State) (p : Nat) : PortRun := Tab.get coldPort s.aud.ports p

/-- Replace a port's run. -/
def State.setPort (s : State) (p : Nat) (x : PortRun) : State :=
  s.setAud { s.aud with ports := Tab.put coldPort s.aud.ports p x }

/-- The clock mode of a port: 0 MASTER_HOUSE, 1 SLAVE, 2 MASTER_FOLLOW, 3 reserved (R193). -/
def State.portClock (s : State) (p : Nat) : Nat := s.rdFld (Reg.AP_CFG p) 28 27

/-- Are an input's samples placed by RTP timestamp (R358)? -/
def State.inPlaced (s : State) (i : Nat) : Bool := decide (1024 ≤ i) && decide (i < 9216) && !s.inForeign i

/-- Does the engine take the frames of a port's input by their number (R194)? -/
def State.inExact (s : State) (i : Nat) : Bool := decide (9216 ≤ i) && s.portClock (i - 9216) == 0

/-- Whole blocks that wait in a FIFO (R190): those of its shortest channel. -/
def fifoFill (f : Tab (List Samp)) : Nat :=
  match f with
  | [] => 0
  | e :: rest => (rest.foldl (fun m x => min m x.2.length) e.2.length) / 6

/-- Fill of an input's FIFO in blocks. -/
def AudIn.fill (x : AudIn) : Nat := fifoFill x.fifo

/-- A sample enters a FIFO of 8 blocks; with the FIFO full the oldest is lost (log 168). -/
def fifoPush (f : Tab (List Samp)) (c : Nat) (v : Samp) : Tab (List Samp) :=
  let q := Tab.get [] f c ++ [v]
  Tab.put [] f c (q.drop (q.length - 48))

/-- A sample of an input's channel arrives: in the input's FIFO, and in that of a port that follows the input (R188, R198). -/
def State.pushAudio (s : State) (i c : Nat) (v : Samp) : State :=
  let s1 := if (s.originsOf i).any fun e => e.2.fifoChannel == c then
      s.setAudIn i { s.audIn i with fifo := fifoPush (s.audIn i).fifo c v } else s
  ((List.range s.dev.variant.ports).filter fun p => s.portClock p == 2 && s.rdFld (Reg.AP_CFG p) 13 0 == i).foldl (fun a p =>
    a.setPort p { a.port p with fifo := fifoPush (a.port p).fifo c v }) s1

/-- The sample of a channel that came last. -/
def AudIn.newest (x : AudIn) (c : Nat) : Samp :=
  ((Tab.get [] x.fifo c).getLast?.or (Tab.get [] x.prev c).getLast?).getD ⟨0, none⟩

/-- An audio origin becomes not ready: its channels fade to 0 over 48 samples and its slip order is discarded (R177, R199). -/
def State.audioLost (s : State) (i : Nat) : State :=
  let x := s.audIn i
  if x.notReady then s else (s.noteLocal (16384 + i)).setAudIn i { x with
    notReady := true, fade := 0, slip := none, crossed := none, fifo := [], prev := [], going := false }

/-- An audio origin becomes ready: its channels fade in over 48 samples. -/
def State.audioBack (s : State) (i : Nat) : State :=
  let x := s.audIn i
  if x.notReady then (s.noteLocal (16384 + i)).setAudIn i { x with notReady := false, fade := 0 } else s

end Sys2Proof.Machine
end

