-- ==== Sys2Proof/Machine/Lane.lean ====
section
/-! DEFINITION. Serial lanes: signal and lock, power states and furrow moves, transmit and receive settings, tests, the eye
monitor (R286–R307). -/
namespace Sys2Proof.Machine

/-- The power state of a lane: 0 L0, 1 LS, 2 LD, 3 exit in progress (R308). -/
def State.pstate (s : State) (i : Nat) : Nat := s.rdFld (Reg.LAN_STATUS i) 29 28

/-- Set the power state of a lane. -/
def State.setPstate (s : State) (i p : Nat) : State := s.wrFld (Reg.LAN_STATUS i) 29 28 p

/-- Is a receiver used and powered (R287, R297)? -/
def State.rxOn (s : State) (i : Nat) : Bool :=
  s.lanePresent i && s.pers i != 0 && s.rdBit (Reg.LAN_CFG i) 19 && decide (s.pstate i < 2)

/-- Does a receiver's adaptation run: with signal, and neither FREEZE nor OVERRIDE set (R288, R290)? -/
def State.adapting (s : State) (i : Nat) : Bool :=
  s.rxOn i && s.rdBit (Reg.LAN_STATUS i) 30 && s.rdFld (Reg.LAN_RX_CTRL i) 31 30 == 0

/-- The codes that adaptation has reached are held from now on (R289, R290): free values, log 167. -/
def State.holdCodes (s : State) (i : Nat) : State :=
  if s.adapting i then
    ((s.freeNext).wrFld (Reg.LAN_RX_CTRL i) 11 8 (s.freeVal % 16)).wrFld (Reg.LAN_RX_DFE i) 30 0 (s.freeVal / 16 % 2147483648)
  else s

/-- LOS (R289): the signal falls below the limit (`signal` false) or the CDR leaves its range (true). -/
def execLos (t lane : Nat) (signal : Bool) (s0 : State) : Host.Outcome State Fault Refusal :=
  let s := s0.at t
  let st := s.rd (Reg.LAN_STATUS lane)
  if s.rxOn lane && (bit st 31 || bit st 30) then
    let s1 := ((s.holdCodes lane).wrBit (Reg.LAN_STATUS lane) 31 false).wrBit (Reg.LAN_STATUS lane) 30 signal
    .next ((s1.bump (Reg.LAN_CNT_LOS lane)).lanEvent lane 0)
  else .next s

/-- SIGNAL_DETECT (R289): adaptation resumes from the held codes. -/
def execSignalDetect (t lane : Nat) (s0 : State) : Host.Outcome State Fault Refusal :=
  let s := s0.at t
  if s.rxOn lane then .next (s.wrBit (Reg.LAN_STATUS lane) 30 true) else .next s

/-- RX_PPM of an offset in 0.1 ppm: 16 bits signed, saturating (R308). -/
def ppmField (ppm : Int) : Nat := ofSigned 16 (clampInt (-32768) 32767 ppm)

/-- RX_LOCKED (R287, R288): the offset in 0.1 ppm lies in the tracking range, ±1,200 ppm for SDI, ±300 ppm otherwise. -/
def execRxLocked (t lane : Nat) (ppm : Int) (s0 : State) : Host.Outcome State Fault Refusal :=
  let s := s0.at t
  let st := Reg.LAN_STATUS lane
  if s.rxOn lane && s.rdBit st 30 && decide (ppm.natAbs ≤ if s.isSdi lane then 12000 else 3000) then
    let s1 := s.wrFld st 15 0 (ppmField ppm)
    if s.rdBit st 31 then .next s1 else .next ((s1.wrBit st 31 true).lanEvent lane 1)
  else .next s

/-! Power states. -/

/-- The sequencer's unit of a lane: its furrow 0–63, or 64 + k for dedicated lane k (R298). -/
def moveUnit (i : Nat) : Nat := if i < 1024 then i / 16 else 64 + (i - 1024)

/-- The lanes of a unit. -/
def unitLanes (u : Nat) : List Nat := if u < 64 then (List.range 16).map (fun k => 16 * u + k) else [1024 + (u - 64)]

/-- The lanes that move together with a lane: the four of a 100 Gb/s port, else itself (R298, R300). -/
def State.together (s : State) (i : Nat) : List Nat :=
  if s.pers i = 5 then (List.range 4).map (fun k => i - i % 4 + k) else [i]

/-- Queue a move of a lane: a later request replaces an earlier one of that lane (R298, R307). -/
def State.queueMove (s : State) (i w : Nat) : State :=
  let s1 := s.setLane i { s.lane i with want := some w }
  let u := moveUnit i
  if s1.power.moves.contains u then s1 else s1.setPower { s1.power with moves := s1.power.moves ++ [u] }

/-- Withdraw a queued move of a lane: a unit with none left leaves the queue (R298). -/
def State.cancelMove (s : State) (i : Nat) : State :=
  let s1 := s.setLane i { s.lane i with want := none }
  let u := moveUnit i
  if (unitLanes u).any fun j => (s1.lane j).want.isSome then s1
  else s1.setPower { s1.power with moves := s1.power.moves.filter (· != u) }

/-- Ask for a power state of one lane (R297–R299). Moves between L0 and LS are not paced; moves out of and into LD are
queued. -/
def State.powerTo (s : State) (i w : Nat) : State :=
  let p := s.pstate i
  if p = 3 ∨ (s.lane i).goal.isSome = true then s.queueMove i w
  else
    let s1 := s.cancelMove i
    if p = w then s1.lanEvent i 2
    else if p = 2 ∨ w = 2 then s1.queueMove i w
    else if w = 1 then (s1.setPstate i 1).lanEvent i 2
    else (s1.setPstate i 3).setLane i { s1.lane i with goal := some (0, s1.now + 2000) }

/-- A write of LANn_PWR (R299); an exit from LD that is asked for during reaping is discarded (R467). -/
def State.pwrReq (s : State) (lane req : Nat) : State :=
  let r := Reg.LAN_PWR lane
  if s.lanePresent lane = false ∨ req = 3 then s
  else
    let s1 := s.wrFld r 1 0 req
    if s.ctl.mode ≠ .service ∨ s.pers lane = 0 ∨ s.power.stage < 3 then s1
    else if s.power.reaping.isSome = true ∧ req ≠ 2 ∧ s.pstate lane = 2 then s1
    else if req ≠ 0 ∧ s.carriesTraffic lane = true then (s1.wrBit r 31 true).lanEvent lane 7
    else (s.together lane).foldl (fun a i => a.powerTo i req) (s1.wrBit r 31 false)

/-- PWR_REQ (R299). -/
def execPwrReq (t lane value : Nat) (s0 : State) : Host.Outcome State Fault Refusal := .next ((s0.at t).pwrReq lane (value % 4))

/-- Start the move of one lane of a unit (R297): an exit from LD takes 600 µs, or 1.5 ms with the furrow's MDLL off. -/
def State.startMove (mdllOff : Bool) (s : State) (i : Nat) : State :=
  match (s.lane i).want with
  | none => s
  | some w =>
    let x := s.lane i
    if w = 2 then s.setLane i { x with want := none, goal := some (2, s.now) }
    else if s.pstate i = 2 then
      (s.setPstate i 3).setLane i { x with want := none, goal := some (w, s.now + if mdllOff then 1500000 else 600000) }
    else
      let at_ := match x.goal with
        | some g => g.2
        | none => s.now
      s.setLane i { x with want := none, goal := some (w, at_) }

/-- The wait of a rail after a block of rated current c mA: c / (40 A/ms), at least 10 µs (R456). -/
def railWait (c : Nat) : Nat := max 10000 (25 * c)

/-- Have the rails a block touches waited since their last block (R456)? -/
def State.railsFree (s : State) (rated : List (Nat × Nat)) : Bool :=
  rated.all fun e => decide (Tab.get 0 s.power.railFree e.1 ≤ s.now)

/-- A block takes its rails. -/
def State.takeRails (s : State) (rated : List (Nat × Nat)) : State :=
  rated.foldl (fun a e => (a.setPower { a.power with
    railFree := Tab.insert (Tab.erase a.power.railFree e.1) e.1 (a.now + railWait e.2) })) s

/-- The rated currents of a furrow move, at the limits of R456: VDD_CORE, VDDA_LANE and VDDH_LANE (rails 0, 2, 3), in mA (log 43). -/
def moveRated : List (Nat × Nat) := [(0, 500), (2, 600), (3, 600)]

/-- A furrow's MDLL is turned on (R278). -/
def State.mdllOn (s : State) (f : Nat) : State :=
  (s.wrBit (Reg.SYN_FURROW_STATUS f) 30 true).setSyn { s.syn with mdllAt := Tab.insert (Tab.erase s.syn.mdllAt f) f s.now }

/-- FURROW_MOVE (R298, R278, R456): one unit every 100 µs; the MDLL of a furrow is turned on at its first exit. -/
def execFurrowMove (t : Nat) (s0 : State) : Host.Outcome State Fault Refusal :=
  let s := s0.at t
  match s.power.moves with
  | [] => .next s
  | u :: rest =>
    if s.power.lastMove + 100000 ≤ s.now ∧ s.railsFree moveRated = true then
      let s0 := s.takeRails moveRated
      let s1 := s0.setPower { s0.power with moves := rest, lastMove := s0.now }
      let exits := (unitLanes u).any fun i => s1.pstate i == 2 && decide ((s1.lane i).want = some 0 ∨ (s1.lane i).want = some 1)
      let off := decide (u < 64) && !s1.rdBit (Reg.SYN_FURROW_STATUS u) 31
      let s2 := if exits && off then s1.mdllOn u else s1
      .next ((unitLanes u).foldl (State.startMove off) s2)
    else .next s

/-- A started move of one lane ends (R297): into LD the receiver and its lock go; into L0 DARK_ON_AIR ends. An exit needs the
furrow's MDLL locked (R278). -/
def State.endMove (locked : Bool) (s : State) (i : Nat) : State :=
  match (s.lane i).goal with
  | none => s
  | some (g, at_) =>
    if s.now < at_ ∨ (g ≠ 2 ∧ locked = false) then s
    else
      let s1 := (s.setPstate i g).setLane i { s.lane i with goal := none }
      let s2 := if g = 2 then (s.holdCodes i |>.setPstate i g |>.setLane i { s.lane i with goal := none }).wrFld (Reg.LAN_STATUS i) 31 30 0
        else if g = 0 then s1.wrBit (Reg.LAN_STATUS i) 27 false else s1
      s2.lanEvent i 2

/-- FURROW_MOVE_DONE (R297, R278): the lanes of a unit whose move is over; with every lane of a furrow in LD its MDLL is off. -/
def execFurrowMoveDone (t unit : Nat) (s0 : State) : Host.Outcome State Fault Refusal :=
  let s := s0.at t
  let locked := decide (64 ≤ unit) || s.rdBit (Reg.SYN_FURROW_STATUS unit) 31
  let s1 := (unitLanes unit).foldl (State.endMove locked) s
  if unit < 64 ∧ ((unitLanes unit).all fun i => s1.pstate i == 2) = true then
    .next (s1.wrFld (Reg.SYN_FURROW_STATUS unit) 31 30 0)
  else .next s1

/-! Transmit and receive settings. -/

/-- Set swing and emphasis within the ranges and the sum of R291; anything else is ignored. -/
def State.setTxEq (s : State) (i swing pre post : Nat) : State :=
  if swing ≤ 16 ∧ pre ≤ 15 ∧ post ≤ 31 ∧ pre + post ≤ 24 then
    s.wr (Reg.LAN_TX_EQ i) (BitVec.ofNat 32 (post * 16777216 + pre * 65536 + swing))
  else s

/-- TX_EQ_WRITE (R291). -/
def execTxEqWrite (t lane value : Nat) (s0 : State) : Host.Outcome State Fault Refusal :=
  let s := s0.at t
  let w := BitVec.ofNat 32 value
  if s.lanePresent lane then .next (s.setTxEq lane (fld w 4 0) (fld w 19 16) (fld w 28 24)) else .next s

/-- A write of LANn_RX_CTRL or LANn_RX_DFE: codes and taps take effect only under OVERRIDE (R290). -/
def State.rxCtrlWrite (s : State) (i : Nat) (dfe : Bool) (w : Word) : State :=
  if dfe then
    if s.rdBit (Reg.LAN_RX_CTRL i) 30 then s.wrFld (Reg.LAN_RX_DFE i) 30 0 (fld w 30 0) else s
  else
    let s1 := (s.holdCodes i).wrFld (Reg.LAN_RX_CTRL i) 31 30 (fld w 31 30)
    if bit w 30 then s1.wrFld (Reg.LAN_RX_CTRL i) 11 8 (fld w 11 8) else s1

/-- RX_CTRL_WRITE (R290). -/
def execRxCtrlWrite (t lane : Nat) (dfe : Bool) (value : Nat) (s0 : State) : Host.Outcome State Fault Refusal :=
  let s := s0.at t
  if s.lanePresent lane then .next (s.rxCtrlWrite lane dfe (BitVec.ofNat 32 value)) else .next s

/-! Loop and PRBS tests (R301–R303). -/

/-- The state of a lane's test: 0 IDLE, 1 QUEUED, 2 RUNNING, 3 DONE, 4 REFUSED, 5 ABORTED. -/
def State.testState (s : State) (i : Nat) : Nat := s.rdFld (Reg.LAN_TEST i) 31 28

/-- A test ends in a state: DONE, REFUSED or ABORTED, with its event. -/
def State.testEnds (s : State) (i x : Nat) : State :=
  ((s.wrFld (Reg.LAN_TEST i) 31 28 x).wrBit (Reg.LAN_STATUS i) 25 false).lanEvent i 3

/-- Is a test of a lane admitted (R302)? -/
def State.testAdmitted (s : State) (i : Nat) : Bool :=
  match s.ctl.mode with
  | .test => true
  | .join => !s.carriesTraffic i
  | .service => !s.carriesTraffic i
  | _ => false

/-- Write the RW fields of LANn_TEST. -/
def State.testFields (s : State) (i : Nat) (w : Word) : State :=
  (s.wrFld (Reg.LAN_TEST i) 25 17 (fld w 25 17)).wrFld (Reg.LAN_TEST i) 15 0 (fld w 15 0)

/-- START (R302): ignored while a test is queued or runs; a reserved pattern is refused. -/
def State.testStart (s : State) (i : Nat) : State :=
  if s.testState i = 1 ∨ s.testState i = 2 then s
  else if 4 < s.rdFld (Reg.LAN_TEST i) 22 20 ∨ s.testAdmitted i = false then s.testEnds i 4
  else
    let a := s.mntRequest (laneRes i) ⟨7, i⟩
    match a.2 with
    | .started => a.1
    | .queued => (a.1.setLane i { a.1.lane i with testAt := s.now }).wrFld (Reg.LAN_TEST i) 31 28 1
    | .refused => a.1.testEnds i 4

/-- TEST_START (R302). -/
def execTestStart (t lane value : Nat) (s0 : State) : Host.Outcome State Fault Refusal :=
  let s := s0.at t
  if s.lanePresent lane then .next ((s.testFields lane (BitVec.ofNat 32 value)).testStart lane) else .next s

/-- Bits checked in sync and errors found since the last count (R303); the checker must be on and in sync. -/
def State.prbsCount (s : State) (i bits errs : Nat) : State :=
  if s.rdBit (Reg.LAN_TEST i) 18 && s.rdBit (Reg.LAN_STATUS i) 25 then
    (s.bump64 (Reg.LAN_PRBS_BITS_LO i) (Reg.LAN_PRBS_BITS_HI i) bits).bump64 (Reg.LAN_PRBS_ERR_LO i) (Reg.LAN_PRBS_ERR_HI i) errs
  else s

/-- A running test ends DONE and its resource goes on; the next test that starts there begins now. -/
def State.testDone (s : State) (i bits errs : Nat) : State :=
  ((s.prbsCount i bits errs).testEnds i 3).mntDone (laneRes i)

/-- STOP (R302): a running test reads DONE; a queued one is withdrawn and reads IDLE. -/
def State.testStop (s : State) (i bits errs : Nat) : State :=
  if s.testState i = 2 then s.testDone i bits errs
  else if s.testState i = 1 then (s.mntWithdraw (laneRes i) ⟨7, i⟩).wrFld (Reg.LAN_TEST i) 31 28 0
  else s

/-- TEST_STOP (R302). -/
def execTestStop (t lane bits errs : Nat) (s0 : State) : Host.Outcome State Fault Refusal :=
  .next ((s0.at t).testStop lane bits errs)

/-- TEST_DURATION_END (R302): DURATION ms after the start, unless DURATION is 0. -/
def execTestDurationEnd (t lane bits errs : Nat) (s0 : State) : Host.Outcome State Fault Refusal :=
  let s := s0.at t
  let d := s.rdFld (Reg.LAN_TEST lane) 15 0
  if s.testState lane = 2 ∧ d ≠ 0 ∧ (s.lane lane).testAt + d * 1000000 ≤ s.now then .next (s.testDone lane bits errs)
  else .next s

/-- A committed salvo makes a tested lane carry traffic: the test stops and reads ABORTED, and the receiver reacquires (R302); one that asks for admission
in the same instant is refused (R307). -/
def State.abortTests (s : State) : State :=
  (s.regs.filter fun e => decide (0x3FC000 ≤ e.1) && decide (e.1 < 0x500000) && e.1 % 0x400 == 0x20 &&
      (fld e.2 31 28 == 1 || fld e.2 31 28 == 2)).foldl (fun a e =>
    let i := if e.1 < 0x400000 then 1024 + (e.1 - 0x3FC000) / 0x400 else (e.1 - 0x400000) / 0x400
    if a.ctl.mode ≠ .test ∧ a.carriesWith a.xpt.vcom a.xpt.acom i = true then
      let end_ := if (a.lane i).testAt = a.now then 4 else 5
      if fld e.2 31 28 = 2 then ((a.testEnds i end_).wrBit (Reg.LAN_STATUS i) 31 false).mntDone (laneRes i)
      else (a.mntWithdraw (laneRes i) ⟨7, i⟩).testEnds i end_
    else a) s

/-- The INJECT bit (R303): with generator and checker on the same lane through a near-end loop and in sync, the checker counts the
one inverted bit. -/
def State.inject (s : State) (i : Nat) : State :=
  let w := s.rd (Reg.LAN_TEST i)
  if s.testState i = 2 && bit w 19 && (fld w 25 24 == 1 || fld w 25 24 == 2) then s.prbsCount i 1 1 else s

/-- INJECT (R303). -/
def execInject (t lane : Nat) (s0 : State) : Host.Outcome State Fault Refusal := .next ((s0.at t).inject lane)

/-- PRBS_RESYNC (R303): the checker leaves sync, after the bits and errors it counted. -/
def execPrbsResync (t lane bits errs : Nat) (s0 : State) : Host.Outcome State Fault Refusal :=
  let s := s0.at t
  if s.testState lane = 2 ∧ s.rdBit (Reg.LAN_TEST lane) 18 = true ∧ s.rdBit (Reg.LAN_STATUS lane) 25 = true then
    .next (((s.prbsCount lane bits errs).wrBit (Reg.LAN_STATUS lane) 25 false).bump (Reg.LAN_CNT_PRBS_RESYNC lane))
  else .next s

/-- PRBS_CHECKER_IN_SYNC (R303): 64 error-free bits in a row. -/
def execPrbsCheckerInSync (t lane : Nat) (s0 : State) : Host.Outcome State Fault Refusal :=
  let s := s0.at t
  if s.testState lane = 2 ∧ s.rdBit (Reg.LAN_TEST lane) 18 = true then .next (s.wrBit (Reg.LAN_STATUS lane) 25 true)
  else .next s

/-! The eye monitor (R304, R305). -/

/-- Write the RW fields of LANn_EYE_CTRL. -/
def State.eyeFields (s : State) (i : Nat) (w : Word) : State :=
  let r := Reg.LAN_EYE_CTRL i
  (((s.wrFld r 29 29 (fld w 29 29)).wrFld r 23 16 (fld w 23 16)).wrFld r 13 8 (fld w 13 8)).wrFld r 3 0 (fld w 3 0)

/-- Ask for an eye operation: 1 point, 2 scan, 3 the interval's scan. A refused one is not started. -/
def State.eyeAsk (s : State) (i op : Nat) : State :=
  let a := s.mntRequest (laneRes i) ⟨6, i⟩
  match a.2 with
  | .refused => a.1
  | _ => (a.1.wrBit (Reg.LAN_EYE_CTRL i) 30 true).setLane i { a.1.lane i with eye := op }

/-- START with SCAN 0 (R304, R305): reserved VOFF or DWELL is ignored; a point waits for a scan on its lane. -/
def State.eyePoint (s : State) (i : Nat) : State :=
  let w := s.rd (Reg.LAN_EYE_CTRL i)
  if fld w 23 16 = 128 ∨ 8 < fld w 3 0 then s
  else if bit w 30 then (if 2 ≤ (s.lane i).eye then s.setLane i { s.lane i with eyeWaits := true } else s)
  else s.eyeAsk i 1

/-- START with SCAN 1 (R304). -/
def State.eyeScan (s : State) (i : Nat) : State :=
  let w := s.rd (Reg.LAN_EYE_CTRL i)
  if fld w 23 16 = 128 ∨ 8 < fld w 3 0 ∨ bit w 30 = true then s else s.eyeAsk i 2

/-- A write of LANn_EYE_CTRL that sets START. -/
def State.eyeWrite (s : State) (i : Nat) (w : Word) : State :=
  let s1 := s.eyeFields i w
  if bit w 29 then s1.eyeScan i else s1.eyePoint i

/-- EYE_POINT_START (R304). -/
def execEyePointStart (t lane value : Nat) (s0 : State) : Host.Outcome State Fault Refusal :=
  let s := s0.at t
  if s.lanePresent lane then .next (s.eyeWrite lane (BitVec.ofNat 32 (value % 536870912))) else .next s

/-- EYE_SCAN_START (R304). -/
def execEyeScanStart (t lane value : Nat) (s0 : State) : Host.Outcome State Fault Refusal :=
  let s := s0.at t
  if s.lanePresent lane then .next (s.eyeWrite lane (BitVec.ofNat 32 (value % 536870912 + 536870912))) else .next s

/-- The verdict of a margin scan (R305): EYE_LOW, its event, and a C2 record when it goes from 0 to 1. -/
def State.eyeVerdict (s : State) (i h v : Nat) : State :=
  let lim := s.rd Reg.LAN_EYE_LIMITS
  if h < fld lim 22 16 ∨ v < fld lim 7 0 then
    let s1 := (s.wrBit (Reg.LAN_STATUS i) 24 true).lanEvent i 5
    if s.rdBit (Reg.LAN_STATUS i) 24 then s1 else s1.raise (laneSource i) 0x50 i 2
  else s.wrBit (Reg.LAN_STATUS i) 24 false

/-- EYE_DONE (R304, R305): the disagreements of a point, or the openings of a scan. -/
def execEyeDone (t lane count horizontal vertical : Nat) (s0 : State) : Host.Outcome State Fault Refusal :=
  let s := s0.at t
  let op := (s.lane lane).eye
  if op = 0 ∨ (s.res (laneRes lane)).running ≠ some ⟨6, lane⟩ then .next s
  else
    let m := Reg.LAN_EYE_MARGIN lane
    let s1 :=
      if op = 1 then
        s.wr (Reg.LAN_EYE_RESULT lane) (BitVec.ofNat 32 (min count (2 ^ (16 + s.rdFld (Reg.LAN_EYE_CTRL lane) 3 0))))
      else if s.rdBit (Reg.LAN_STATUS lane) 31 then
        (s.wr m (BitVec.ofNat 32 (2147483648 + min horizontal 64 * 65536 + min vertical 255))).eyeVerdict lane horizontal vertical
      else s.wrBit m 31 false
    let s2 := ((s1.wrBit (Reg.LAN_EYE_CTRL lane) 30 false).setLane lane
      { s1.lane lane with eye := 0, eyeWaits := false }).mntDone (laneRes lane)
    if (s.lane lane).eyeWaits then .next (s2.eyeAsk lane 1) else .next s2

/-- Does the receiver lose its signal in this instant (R307)? -/
def State.losFalls (s : State) (i : Nat) : Bool :=
  s.sameInstant fun c => match c with
    | .los t l _ => decide (t ≤ s.now) && l == i
    | _ => false

/-- EYE_PERIODIC_SCAN (R305): a lane in L0 with a locked receiver, once per interval; skipped while busy or refused, and until the next interval where LOS
occurs in the same instant (R307). -/
def execEyePeriodicScan (t lane : Nat) (s0 : State) : Host.Outcome State Fault Refusal :=
  let s := s0.at t
  if s.rxOn lane && s.pstate lane == 0 && s.rdBit (Reg.LAN_STATUS lane) 31 && decide (s.eyeSec ≠ 0) &&
      decide ((s.lane lane).scanDue ≤ s.now) && !s.rdBit (Reg.LAN_EYE_CTRL lane) 30 then
    let s1 := s.setLane lane { s.lane lane with scanDue := s.now + 1000000000 * s.eyeSec }
    .next (if s.losFalls lane then s1 else s1.eyeAsk lane 3)
  else .next s

end Sys2Proof.Machine
end

