-- ==== Sys2Proof/Machine/TileCode.lean ====
section
/-! DEFINITION. Tiles: stored formats, the slot header, the coder and the decoder (R127–R137). -/
namespace Sys2Proof.Machine

/-! Stored formats (R128): 0 4:2:2 10-bit, 1 4:4:4 10-bit, 2 4:4:4 12-bit, 3 RGBA 8-bit, 4 RGBA 10-bit. -/

/-- Bits per sample. -/
def sampleBits (f : Nat) : Nat := if f = 2 then 12 else if f = 3 then 8 else 10

/-- Planes of a tile: the width of a row and the number of samples. -/
def tilePlanes (f : Nat) : List (Nat × Nat) :=
  if f = 0 then [(32, 256), (16, 128), (16, 128)]
  else if f ≤ 2 then [(32, 256), (32, 256), (32, 256)]
  else [(32, 256), (32, 256), (32, 256), (32, 256)]

/-- The least legal value. -/
def legalLo (f : Nat) : Nat := if f ≤ 1 then 4 else if f = 2 then 16 else 0

/-- The greatest legal value. -/
def legalHi (f : Nat) : Nat := if f ≤ 1 then 1019 else if f = 2 then 4079 else if f = 3 then 255 else 1023

/-- Payload bytes of a slot; codes 0 RAW, 1 LL, 2 C2, 3 C3, 4 C4. -/
def payloadBytes (f code : Nat) : Nat :=
  if code ≤ 1 then (if f = 0 then 640 else if f = 1 then 960 else if f = 2 then 1152 else if f = 3 then 1024 else 1280)
  else if f = 0 then (if code = 2 then 312 else if code = 3 then 216 else 152)
  else (if code = 2 then 408 else if code = 3 then 312 else 216)

/-- Bytes of a slot: an 8-byte header and the payload in whole bursts. -/
def slotBytes (f code : Nat) : Nat := (8 + payloadBytes f code + 31) / 32 * 32

/-- Black of a plane (R130). -/
def blackOf (f : Nat) (rgb : Bool) (plane : Nat) : Nat :=
  if 3 ≤ f then 0
  else if plane = 0 then (if f = 2 then 256 else 64)
  else if rgb then (if f = 2 then 256 else 64)
  else (if f = 2 then 2048 else 512)

/-- The constant tile of a FILL slot (R130). -/
def fillTile (f : Nat) (rgb : Bool) : List (List Nat) :=
  (tilePlanes f).zipIdx.map fun e => List.replicate e.1.2 (blackOf f rgb e.2)

/-! The lattice of a step exponent (R132). -/

/-- The lattice of step exponent q over lo–hi: step, number of points, lowest point, fixed width. -/
structure Lattice where
  step : Nat
  points : Nat
  lowest : Nat
  width : Nat
  deriving DecidableEq, Repr

/-- ⌈log2 n⌉, found from w upward. -/
def log2Up (n : Nat) : Nat → Nat → Nat
  | 0, w => w
  | fuel + 1, w => if n ≤ 2 ^ w then w else log2Up n fuel (w + 1)

/-- The lattice (R132). -/
def latticeOf (lo hi q : Nat) : Lattice :=
  let step := 2 ^ q
  let l := hi - lo + 1
  let n := (l + step - 1) / step
  let slack := n * step - l
  ⟨step, n, lo + (step - 1 - slack) / 2, log2Up n 13 0⟩

/-- Round a quotient to the nearest integer, halves away from zero (R133). -/
def rndDiv (a : Int) (n : Nat) : Int :=
  if 0 ≤ a then (2 * a + n) / (2 * n) else -((-(2 * a) + n) / (2 * n))

/-- Does a sample lie on the lattice? -/
def Lattice.has (t : Lattice) (x : Nat) : Bool :=
  decide (t.lowest ≤ x) && decide ((x - t.lowest) % t.step = 0) && decide ((x - t.lowest) / t.step < t.points)

/-! Coding a plane (R133, R134). -/

/-- The level index of a value that lies `k` levels (not rounded into range) up. -/
def Lattice.clamp (t : Lattice) (k : Int) : Int := clampInt 0 (t.points - 1) k

/-- Level index of the first sample of a plane. -/
def Lattice.first (t : Lattice) (x : Nat) : Int := t.clamp (rndDiv ((x : Int) - t.lowest) t.step)

/-- Level index of a sample with the level index p of its predictor. -/
def Lattice.next (t : Lattice) (p : Int) (x : Nat) : Int :=
  t.clamp (p + rndDiv ((x : Int) - (t.lowest + t.step * p)) t.step)

/-- The reduced level difference (R134). -/
def Lattice.reduce (t : Lattice) (d : Int) : Int :=
  let h : Int := (t.points / 2 : Nat)
  (d + h) % t.points - h

/-- Code the samples after the first: `left` is the level index of the sample before, `above` that of the row's first sample, `i` the
index within the plane, `w` the row width. Answers the reduced differences and the level indices. -/
def Lattice.codeFrom (t : Lattice) (w : Nat) : Nat → Int → Int → List Nat → List (Int × Int)
  | _, _, _, [] => []
  | i, left, above, x :: xs =>
    let start := i % w == 0
    let p := if start then above else left
    let k := t.next p x
    (t.reduce (k - p), k) :: Lattice.codeFrom t w (i + 1) k (if start then k else above) xs

/-- A plane coded: the reconstruction index of its first sample, and for each further sample its reduced difference and
index. -/
def Lattice.codePlane (t : Lattice) (w : Nat) (xs : List Nat) : Int × List (Int × Int) :=
  match xs with
  | [] => (0, [])
  | x :: rest => let k := t.first x; (k, t.codeFrom w 1 k k rest)

/-- Bits of a number, most significant first. -/
def bitsOf : Nat → Nat → List Bool
  | 0, _ => []
  | n + 1, v => (v / 2 ^ n % 2 == 1) :: bitsOf n v

/-- The smallest width, from w upward, that holds every value of a group as two's complement (0: all are 0). -/
def groupWidth (vs : List Int) : Nat → Nat → Nat
  | 0, w => w
  | fuel + 1, w =>
    if vs.all fun v => if w = 0 then v == 0 else decide (-(2 ^ (w - 1) : Int) ≤ v) && decide (v < (2 ^ (w - 1) : Int)) then w
    else groupWidth vs fuel (w + 1)

/-- Split into groups of 8. -/
def groups8 (fuel : Nat) (xs : List Int) : List (List Int) :=
  match fuel with
  | 0 => []
  | n + 1 => match xs with
    | [] => []
    | _ => xs.take 8 :: groups8 n (xs.drop 8)

/-- A value as a w-bit two's complement field. -/
def valueBits (w : Nat) (v : Int) : List Bool := bitsOf w (ofSigned w v)

/-- The bits of a plane: the plain first value, then the groups in the shorter form (R134). -/
def Lattice.planeBits (t : Lattice) (bits : Nat) (first : Int) (es : List Int) : List Bool :=
  let gs := groups8 es.length es
  let normal := gs.map fun g => (groupWidth g 12 0, g)
  let lenNormal := normal.foldl (fun n g => n + 4 + g.1 * g.2.length) 0
  let lenFixed := 4 + t.width * es.length
  bitsOf bits (t.lowest + t.step * first).toNat ++
    if lenFixed < lenNormal then bitsOf 4 15 ++ es.flatMap (valueBits t.width)
    else normal.flatMap fun g => bitsOf 4 g.1 ++ g.2.flatMap (valueBits g.1)

/-- The bit stream of a tile at step exponent q. -/
def tileBits (f q : Nat) (planes : List (List Nat)) : List Bool :=
  let t := latticeOf (legalLo f) (legalHi f) q
  ((tilePlanes f).zip planes).flatMap fun e =>
    let c := t.codePlane e.1.1 e.2
    t.planeBits (sampleBits f) c.1 (c.2.map Prod.fst)

/-- Pack bits into bytes, most significant first. -/
def packBits (fuel : Nat) (bs : List Bool) : List Byte :=
  match fuel with
  | 0 => []
  | n + 1 => match bs with
    | [] => []
    | _ => BitVec.ofNat 8 (((bs.take 8) ++ List.replicate (8 - (bs.take 8).length) false).foldl
        (fun a b => 2 * a + b2n b) 0) :: packBits n (bs.drop 8)

/-- The greatest step exponent of a code (R135). -/
def qMax (code : Nat) : Nat := if code ≤ 1 then 0 else code + 4

/-- The smallest q of a list that a test accepts. -/
def firstQ (p : Nat → Bool) : List Nat → Option Nat
  | [] => none
  | q :: qs => if p q then some q else firstQ p qs

/-- The step exponent the coder chooses (R135). -/
def chooseQ (f code : Nat) (planes : List (List Nat)) : Nat :=
  let cap := 8 * payloadBytes f code
  let fits (q : Nat) : Bool := decide ((tileBits f q planes).length ≤ cap)
  let qf := (firstQ fits (List.range 10)).getD 9
  let exact (q : Nat) : Bool :=
    let t := latticeOf (legalLo f) (legalHi f) q
    planes.all fun p => p.all t.has
  (firstQ (fun q => exact q && fits q) ((List.range (qMax code + 1)).filter fun q => decide (qf ≤ q))).getD qf

/-- A coded tile before its header: code written, q, INEXACT, CLAMPED, bursts, payload. -/
structure Coded where
  code : Nat
  q : Nat
  inexact : Bool
  clamped : Bool
  bursts : Nat
  payload : List Byte
  deriving DecidableEq, Repr

/-- Zero bytes up to a length. -/
def padTo (n : Nat) (bs : List Byte) : List Byte := bs ++ List.replicate (n - bs.length) 0

/-- A RAW payload (R131). -/
def rawTile (f : Nat) (planes : List (List Nat)) : Coded :=
  let bits := planes.flatMap fun p => p.flatMap (bitsOf (sampleBits f))
  ⟨0, 0, false, false, slotBytes f 0 / 32, packBits (payloadBytes f 0) bits⟩

/-- Code a tile (R133–R136). -/
def codeTile (f code : Nat) (planes : List (List Nat)) : Coded :=
  let inRange := planes.all fun p => p.all fun x => decide (legalLo f ≤ x) && decide (x ≤ legalHi f)
  if code = 0 then rawTile f planes
  else if code = 1 then
    let bits := tileBits f 0 planes
    if inRange && decide (bits.length ≤ 8 * payloadBytes f 0) then
      let n := (bits.length + 7) / 8
      ⟨1, 0, false, false, (8 + n + 31) / 32, packBits n bits⟩
    else rawTile f planes
  else
    let ps := planes.map fun p => p.map (clampNat (legalLo f) (legalHi f))
    let q := chooseQ f code ps
    let t := latticeOf (legalLo f) (legalHi f) q
    let exact := ((tilePlanes f).zip (planes.zip ps)).all fun e =>
      let c := t.codePlane e.1.1 e.2.2
      e.2.1.map Int.ofNat == (c.1 :: c.2.map Prod.snd).map (fun k => (t.lowest : Int) + t.step * k)
    ⟨code, q, !exact, !inRange, slotBytes f code / 32, padTo (payloadBytes f code) (packBits (payloadBytes f code) (tileBits f q ps))⟩

/-- The bytes of a slot that a coded tile writes: header (R129) and payload, in whole bursts. -/
def slotOf (c : Coded) (tag : Nat) : List Byte :=
  let rest := toLe 2 tag ++ [BitVec.ofNat 8 (c.code + 8 * c.q + 128 * b2n c.inexact),
    BitVec.ofNat 8 (c.bursts + 64 * b2n c.clamped)] ++ c.payload
  let body := padTo (32 * c.bursts - 4) rest
  toLe 4 (crc32 body) ++ body

/-! Decoding (R134, R138). -/

/-- Read n bits, most significant first. -/
def takeBits : Nat → Nat → List Bool → Option (Nat × List Bool)
  | 0, a, bs => some (a, bs)
  | _ + 1, _, [] => none
  | n + 1, a, b :: bs => takeBits n (2 * a + b2n b) bs

/-- Read the n values of a group of width w. -/
def takeValues (w : Nat) : Nat → List Bool → Option (List Int × List Bool)
  | 0, bs => some ([], bs)
  | n + 1, bs => match takeBits w 0 bs with
    | none => none
    | some (v, r) => match takeValues w n r with
      | none => none
      | some (vs, r2) => some ((if w = 0 then 0 else toSigned w v) :: vs, r2)

/-- Read the groups of a plane in normal form; `left` values remain. -/
def takeGroups : Nat → Nat → List Bool → Option (List Int × List Bool)
  | 0, _, bs => some ([], bs)
  | fuel + 1, left, bs =>
    if left = 0 then some ([], bs)
    else match takeBits 4 0 bs with
      | none => none
      | some (w, r) =>
        if 12 < w then none
        else match takeValues w (min 8 left) r with
          | none => none
          | some (vs, r2) => match takeGroups fuel (left - min 8 left) r2 with
            | none => none
            | some (rest, r3) => some (vs ++ rest, r3)

/-- The samples from the reduced differences. -/
def Lattice.rebuild (t : Lattice) (w : Nat) : Nat → Int → Int → List Int → List Nat
  | _, _, _, [] => []
  | i, left, above, e :: es =>
    let start := i % w == 0
    let p := if start then above else left
    let k := (p + e) % t.points
    (t.lowest + t.step * k).toNat :: Lattice.rebuild t w (i + 1) k (if start then k else above) es

/-- Decode a plane. -/
def Lattice.takePlane (t : Lattice) (bits w n : Nat) (bs : List Bool) : Option (List Nat × List Bool) :=
  match takeBits bits 0 bs with
  | none => none
  | some (v, r) =>
    if t.has v = false then none
    else
      let k : Int := ((v - t.lowest) / t.step : Nat)
      let es := match takeBits 4 0 r with
        | some (15, r2) => takeValues t.width (n - 1) r2
        | _ => takeGroups n (n - 1) r
      match es with
      | none => none
      | some (vs, r3) => some (v :: t.rebuild w 1 k k vs, r3)

/-- Decode the planes of a coded tile. -/
def Lattice.takePlanes (t : Lattice) (bits : Nat) : List (Nat × Nat) → List Bool → Option (List (List Nat))
  | [], _ => some []
  | (w, n) :: ps, bs => match t.takePlane bits w n bs with
    | none => none
    | some (p, r) => match Lattice.takePlanes t bits ps r with
      | none => none
      | some rest => some (p :: rest)

/-- Read the samples of a RAW plane list. -/
def takeRaw (bits : Nat) : List (Nat × Nat) → List Bool → Option (List (List Nat))
  | [], _ => some []
  | (_, n) :: ps, bs =>
    let xs := (List.range n).map fun i => ((bs.drop (bits * i)).take bits).foldl (fun a b => 2 * a + b2n b) 0
    if bs.length < bits * n then none
    else match takeRaw bits ps (bs.drop (bits * n)) with
      | none => none
      | some rest => some (xs :: rest)

/-- The header fields of a slot (R129). -/
structure SlotHead where
  crc : Nat
  tag : Nat
  code : Nat
  q : Nat
  bursts : Nat
  deriving DecidableEq, Repr

/-- Read a slot's header. -/
def slotHead (bs : List Byte) : SlotHead :=
  let b6 := (bs.getD 6 0).toNat
  let b7 := (bs.getD 7 0).toNat
  ⟨le (slice bs 0 4), le (slice bs 4 2), b6 % 8, b6 / 8 % 16, b7 % 64⟩

/-- Does a header's code, q and burst count agree with a stream of code `code` and format `f` (R129, R136)? -/
def SlotHead.consistent (h : SlotHead) (f code : Nat) : Bool :=
  let full := slotBytes f code / 32
  if h.code = 5 then h.q == 0 && h.bursts == 1
  else if h.code = 0 then decide (code ≤ 1) && h.q == 0 && h.bursts == full
  else if h.code = 1 then code == 1 && h.q == 0 && decide (1 ≤ h.bursts) && decide (h.bursts ≤ full)
  else h.code == code && decide (h.q ≤ 9) && h.bursts == full

/-- Why a slot read fails (R138). -/
inductive SlotFail where
  | bad
  | stale
  deriving DecidableEq, Repr

/-- Check and decode a slot (R138): its bytes, the tag expected (none: not checked). A bit stream may not run beyond the payload. -/
def decodeSlot (f code : Nat) (rgb : Bool) (tag : Option Nat) (bs : List Byte) : Except SlotFail (List (List Nat)) :=
  let h := slotHead bs
  if h.consistent f code = false ∨ crc32 (slice bs 4 (32 * h.bursts - 4)) ≠ h.crc then .error .bad
  else if tag.isSome && decide (tag ≠ some h.tag) then .error .stale
  else if h.code = 5 then .ok (fillTile f rgb)
  else
    let bits := (slice bs 8 (min (32 * h.bursts - 8) (payloadBytes f code))).flatMap fun b => bitsOf 8 b.toNat
    let planes := if h.code = 0 then takeRaw (sampleBits f) (tilePlanes f) bits
      else (latticeOf (legalLo f) (legalHi f) h.q).takePlanes (sampleBits f) (tilePlanes f) bits
    match planes with
    | none => .error .bad
    | some ps => .ok ps

end Sys2Proof.Machine
end

