-- ==== Sys2Proof/Machine/Packet.lean ====
section
/-! DEFINITION. Ancillary packets (SMPTE ST 291-1): their words with parity and checksum, which packets are audio, payload ID or twin
sequence packets, and how an RFC 8331 payload carries them (R93–R95, R318, R344). The word layouts are those of the standards the
spec names (log 162). -/
namespace Sys2Proof.Machine

/-- The number whose bits these are, the highest first. -/
def ofBits (bits : List Bool) : Nat := bits.foldl (fun a b => 2 * a + b2n b) 0

/-- Is the number of ones in the low 8 bits odd? -/
def oddOnes (b : Nat) : Bool := (bitsOf 8 (b % 256)).foldl Bool.xor false

/-- A byte as an ancillary word: even parity in bit 8, its inverse in bit 9 (R231). -/
def parityWord (b : Nat) : Nat := b % 256 + if oddOnes b then 256 else 512

/-- The checksum word of the words from DID on: the low 9 bits of their sum, and bit 9 the inverse of bit 8. -/
def checkWord (ws : List Nat) : Nat :=
  let c := (ws.foldl (fun a w => a + w % 512) 0) % 512
  c + if c < 256 then 512 else 0

/-- A packet's words from DID, SDID and user data words: parity, data count and checksum are made. -/
def ancWords (did sdid : Nat) (udws : List Nat) : List Nat :=
  let ws := parityWord did :: parityWord sdid :: parityWord udws.length :: udws
  ws ++ [checkWord ws]

end Sys2Proof.Machine

namespace Sys2Proof
open Machine

/-- DID. -/
def AncPacket.did (p : AncPacket) : Nat := p.words.getD 0 0 % 256

/-- SDID, or the data block number. -/
def AncPacket.sdid (p : AncPacket) : Nat := p.words.getD 1 0 % 256

/-- The user data words. -/
def AncPacket.udws (p : AncPacket) : List Nat := (p.words.drop 3).dropLast

/-- Does parity of DID, SDID or DC, or the checksum, fail (R318)? -/
def AncPacket.bad (p : AncPacket) : Bool :=
  ((p.words.take 3).any fun w => w != parityWord w) || p.words.length != (p.words.getD 2 0 % 256) + 4 ||
    p.words.getLast? != some (checkWord p.words.dropLast)

/-- Is it an audio data or audio control packet (ST 299-1, ST 299-2, ST 272)? -/
def AncPacket.isAudio (p : AncPacket) : Bool :=
  (decide (0xA0 ≤ p.did) && decide (p.did ≤ 0xA7)) || (decide (0xE0 ≤ p.did) && decide (p.did ≤ 0xE7)) ||
    (decide (0xEC ≤ p.did) && decide (p.did ≤ 0xEF)) || decide (0xF8 ≤ p.did)

/-- Is it an ST 352 payload ID? -/
def AncPacket.isPid (p : AncPacket) : Bool := p.did == 0x41 && p.sdid == 0x01

/-- Is it a twin sequence packet (R231)? -/
def AncPacket.isTsp (p : AncPacket) : Bool := p.did == 0x51 && p.sdid == 0x0A

/-- Is it one of the packets that travel with the picture into a frame's ancillary area or a -40 flow (R318, R344, R95)? -/
def AncPacket.travels (p : AncPacket) : Bool := !p.isAudio && !p.isPid && !p.isTsp

end Sys2Proof

namespace Sys2Proof.Machine

/-- Read n ancillary data packets of an RFC 8331 payload's bits: C, line number, horizontal offset, S, stream number, then the 10-bit words, padded
to 32 bits. -/
def ancFromBits : Nat → List Bool → List AncPacket
  | 0, _ => []
  | n + 1, bits =>
    let num (o k : Nat) : Nat := ofBits ((bits.drop o).take k)
    let words := (num 52 10 % 256) + 4
    if bits.length < 32 + 10 * words then []
    else
      let p : AncPacket := ⟨num 1 11, if num 24 1 = 1 then num 25 7 * 2 + num 0 1 else num 0 1, num 12 12,
        (List.range words).map fun i => num (32 + 10 * i) 10⟩
      p :: ancFromBits n (bits.drop ((32 + 10 * words + 31) / 32 * 32))

/-- The packets of an RFC 8331 payload: extended sequence number, length, ANC_Count, then the packets. -/
def ancPayload (bs : List Byte) : List AncPacket :=
  ancFromBits (bs.getD 4 0).toNat ((bs.drop 8).flatMap fun b => bitsOf 8 b.toNat)

/-- The bits of one packet in an RFC 8331 payload. -/
def ancBits (p : AncPacket) : List Bool :=
  let body := bitsOf 1 (p.stream % 2) ++ bitsOf 11 p.line ++ bitsOf 12 p.pos ++ bitsOf 1 (b2n (2 ≤ p.stream)) ++ bitsOf 7 (p.stream / 2) ++
    p.words.flatMap (bitsOf 10)
  body ++ List.replicate ((32 - body.length % 32) % 32) false

end Sys2Proof.Machine
end

