-- ==== Sys2Proof/Machine/Line.lean ====
section
/-! DEFINITION. The lines of the SDI interface: their shape in each mapping, timing reference signals, line number and line CRC words,
the samples of the active line, and the ancillary space with its packets (R93, R309, R319, R512). The spec names the SMPTE standards; what they say is
taken from them (log 164). -/
namespace Sys2Proof.Machine

/-! Shape. -/

/-- Active picture of a format code: width, height (R127). -/
def rasterSize (f : Nat) : Nat × Nat :=
  if f = 0 then (720, 486) else if f = 1 then (720, 576) else if f = 2 then (1280, 720)
  else if f ≤ 5 then (1920, 1080) else if f = 6 then (3840, 2160) else (7680, 4320)

/-- Samples of a whole line at a rate code; of a sub-image line of a 2160p or 4320p format (R71, R512). -/
def lineTotal (raster rate : Nat) : Nat :=
  if raster = 2 then
    (if rate = 1 ∨ rate = 2 then 4125 else if rate = 3 then 3960 else if rate = 4 ∨ rate = 5 then 3300 else if rate = 6 then 1980 else 1650)
  else if rate = 1 ∨ rate = 2 then 2750 else if rate = 3 ∨ rate = 6 then 2640 else 2200

/-- Samples of an active line; of a sub-image line of a 2160p or 4320p format. -/
def lineActive (raster : Nat) : Nat := if raster = 2 then 1280 else 1920

/-- Sub-images along one axis of a format (R512). -/
def subSide (raster : Nat) : Nat := if raster = 6 then 2 else if raster = 7 then 4 else 1

/-- The line on which row j of the active picture, or of a sub-image, lies. -/
def rowLine (raster j : Nat) : Nat :=
  if raster = 2 then j + 26
  else if raster = 0 then (if j % 2 = 0 then 21 + j / 2 else 283 + j / 2)
  else if raster = 1 then (if j % 2 = 0 then 23 + j / 2 else 336 + j / 2)
  else if raster = 3 ∨ raster = 4 then (if j % 2 = 0 then 21 + j / 2 else 584 + j / 2)
  else j + 42

/-- Rows of the active picture, or of a sub-image. -/
def subRows (raster : Nat) : Nat := (rasterSize raster).2 / subSide raster

/-- The row on a line; none in blanking. -/
def lineRow (raster line : Nat) : Option Nat :=
  let at_ (j : Nat) : Option Nat := if j < subRows raster ∧ rowLine raster j = line then some j else none
  if raster = 2 then at_ (line - 26)
  else if raster = 0 then (at_ (2 * (line - 21))).or (at_ (2 * (line - 283) + 1))
  else if raster = 1 then (at_ (2 * (line - 23))).or (at_ (2 * (line - 336) + 1))
  else if raster = 3 ∨ raster = 4 then (at_ (2 * (line - 21))).or (at_ (2 * (line - 584) + 1))
  else at_ (line - 42)

/-- Is a line in the second field or segment? -/
def secondField (raster line : Nat) : Bool :=
  if raster = 0 then decide (265 < line) || decide (line < 4)
  else if raster = 1 then decide (312 < line)
  else if raster = 3 ∨ raster = 4 then decide (563 < line) else false

/-- Links of a mapping (R309). -/
def mapLinks (map : Nat) : Nat :=
  if map = 3 ∨ map = 4 ∨ map = 8 then 2 else if map = 5 ∨ map = 6 ∨ map = 10 then 4 else 1

/-- Sub-images on one link of a mapping. -/
def linkSubs (map : Nat) : Nat := if map = 7 ∨ map = 9 ∨ map = 10 then 4 else if map = 8 then 2 else 1

/-- Words of one data stream for one sample: 4:4:4 takes two. -/
def wordsPer (sampling : Nat) : Nat := if sampling = 0 then 1 else 2

/-- Does a mapping give each line to one link in turn (R71)? -/
def alternates (map : Nat) : Bool := map == 3 || map == 4

/-- The order in which the data streams of a link are interleaved word by word; stream 2q is the luminance, 2q + 1 the colour difference of
sub-image q of the link. -/
def streamOrder (subs : Nat) : List Nat := if subs = 4 then [7, 3, 5, 1, 6, 2, 4, 0] else if subs = 2 then [3, 1, 2, 0] else [1, 0]

/-- Every other pair of samples of a 4:2:2 row, from pair o on. -/
def everyPair : Nat → Nat → List Nat → List Nat
  | 0, _, _ => []
  | fuel + 1, o, row =>
    if row.length ≤ 4 * o then []
    else ((row.drop (4 * o)).take 4) ++ everyPair fuel o (row.drop 8)

/-- Row j of sub-image q of a picture in a mapping: two-sample interleave, or square division (R309). -/
def subRow (map raster q j : Nat) (row : Nat → List Nat) : List Nat :=
  if raster < 6 then row j
  else if map = 6 then ((row (j + 1080 * (q / 2))).drop (3840 * (q % 2))).take 3840
  else if raster = 6 then
    let r := row (2 * j + q / 2)
    everyPair r.length (q % 2) r
  else
    let r := row (2 * (2 * j + q % 4 / 2) + q / 4 / 2)
    let half := everyPair r.length (q / 4 % 2) r
    everyPair half.length (q % 4 % 2) half

/-- The luminance and the colour-difference stream of a row of carried samples. -/
def rowStreams (sampling : Nat) (row : List Nat) : List Nat × List Nat :=
  let at_ (i : Nat) : Nat := row.getD i 0
  let n := row.length
  if sampling = 0 then
    ((List.range (n / 2)).map fun i => at_ (2 * i + 1), (List.range (n / 2)).map fun i => at_ (2 * i))
  else if sampling = 1 then
    ((List.range (n / 3)).flatMap fun i => [at_ (3 * i), at_ (3 * i + 2)], (List.range (n / 3)).flatMap fun i => [at_ (3 * i + 1), 64])
  else
    let three (i sh : Nat) : Nat :=
      let b (k : Nat) : Nat := at_ (3 * i + k) / 2 ^ sh % 8
      let v := 64 * b 2 + 8 * b 0 + b 1
      v + if v < 256 then 512 else 0
    ((List.range (n / 3)).flatMap fun i => [three i 9, three i 3], (List.range (n / 3)).flatMap fun i => [three i 6, three i 0])

/-! Words of a data stream. -/

/-- A timing reference signal: field, blanking, and EAV (true) or SAV. -/
def trs (f v h : Bool) : List Nat :=
  let bits := 512 + 256 * b2n f + 128 * b2n v + 64 * b2n h + 32 * b2n (v != h) + 16 * b2n (f != h) + 8 * b2n (f != v) +
    4 * b2n ((f != v) != h)
  [1023, 0, 0, bits]

/-- The two line number words. -/
def lineWords (line : Nat) : List Nat :=
  [line % 128 * 4 + (if line / 64 % 2 = 1 then 0 else 512), line / 128 % 16 * 4 + 512]

/-- One bit into the line CRC x^18 + x^5 + x^4 + 1. -/
def crc18Bit (c : Nat) (b : Bool) : Nat := if (c % 2 == 1) != b then Nat.xor (c / 2) 0x23000 else c / 2

/-- Words into the line CRC, the low bit of each first. -/
def crc18 (c : Nat) (ws : List Nat) : Nat := ws.foldl (fun a w => (List.range 10).foldl (fun a i => crc18Bit a (w.testBit i)) a) c

/-- The two line CRC words. -/
def crcWords (c : Nat) : List Nat :=
  let half (v : Nat) : Nat := v + if v < 256 then 512 else 0
  [half (c % 512), half (c / 512 % 512)]

/-- The blanking word of a stream: luminance or colour difference. -/
def blankWord (chroma : Bool) : Nat := if chroma then 512 else 64

/-! Ancillary space. -/

/-- A run of ancillary space of one data stream: its data stream, the horizontal position of its first word, its words, and the positions taken
(first, one past the last). -/
structure Space where
  stream : Nat
  first : Nat
  words : List Nat
  used : List (Nat × Nat)
  deriving DecidableEq, Repr

/-- Replace words of a list from an index on. -/
def putWords (ws : List Nat) (i : Nat) (xs : List Nat) : List Nat := ws.take i ++ xs ++ ws.drop (i + xs.length)

/-- Is a run of n words from position p free in a space? -/
def Space.free (a : Space) (p n : Nat) : Bool :=
  decide (a.first ≤ p) && decide (p + n ≤ a.first + a.words.length) && a.used.all fun u => decide (u.2 ≤ p) || decide (p + n ≤ u.1)

/-- The next free position for n words from p on: p itself or the end of a run that is taken. -/
def Space.next (a : Space) (p n : Nat) : Option Nat :=
  if a.free p n then some p
  else ((a.used.map Prod.snd).filter fun e => decide (p ≤ e) && a.free e n).foldl (fun m e => some (min e (m.getD e))) none

/-- Put a packet (its words from DID on) at a position. -/
def Space.put (a : Space) (p : Nat) (ws : List Nat) : Space :=
  { a with words := putWords a.words (p - a.first) ([0, 1023, 1023] ++ ws), used := (p, p + ws.length + 3) :: a.used }

/-- Place a packet at its position, else at the next free one; none: it does not fit (R319). -/
def Space.place (a : Space) (p : Nat) (ws : List Nat) : Option Space := (a.next p (ws.length + 3)).map fun q => a.put q ws

/-- The packets in words of a stream from horizontal position p on: each ADF and what follows it. -/
def scanAnc : Nat → Nat → Nat → Nat → List Nat → List AncPacket
  | 0, _, _, _, _ => []
  | fuel + 1, line, stream, p, ws =>
    match ws with
    | 0 :: 1023 :: 1023 :: did :: sdid :: dc :: rest =>
      let n := dc % 256 + 1
      if rest.length < n then []
      else ⟨line, stream, p, did :: sdid :: dc :: rest.take n⟩ :: scanAnc fuel line stream (p + 6 + n) (rest.drop n)
    | _ :: rest => scanAnc fuel line stream (p + 1) rest
    | [] => []

/-- A space without its packets: their words are blanked. -/
def Space.cleared (a : Space) : Space :=
  { a with words := (scanAnc a.words.length 0 a.stream a.first a.words).foldl (fun ws p =>
      putWords ws (p.pos - a.first) (List.replicate (p.words.length + 3) (blankWord (a.stream % 2 == 1)))) a.words }

/-- Place a packet in the space of its data stream that holds its position; none: there is none, or it does not fit. -/
def placeIn (as_ : List Space) (p : AncPacket) : Option (List Space) :=
  match as_.findIdx? fun a => a.stream == p.stream && decide (a.first ≤ p.pos) && decide (p.pos < a.first + a.words.length) with
  | none => none
  | some i => ((as_[i]?).bind fun a => a.place p.pos p.words).map fun b => as_.set i b

/-- Place packets one after another; answers the spaces and how many were dropped (R319). -/
def placeAll (as_ : List Space) (ps : List AncPacket) : List Space × Nat :=
  ps.foldl (fun r p => match placeIn r.1 p with
    | some b => (b, r.2)
    | none => (r.1, r.2 + 1)) (as_, 0)

/-! Taking a received line apart. -/

/-- The rows of carried samples behind the luminance and the colour-difference stream of an active line. -/
def streamsRow (sampling : Nat) (y c : List Nat) : List Nat :=
  let at_ (xs : List Nat) (i : Nat) : Nat := xs.getD i 0
  if sampling = 0 then (List.range y.length).flatMap fun i => [at_ c i, at_ y i]
  else (List.range (y.length / 2)).flatMap fun i =>
    if sampling = 1 then [at_ y (2 * i), at_ c (2 * i), at_ y (2 * i + 1)]
    else
      let part (k : Nat) : Nat :=
        let b (w : Nat) : Nat := w / 2 ^ (if k = 0 then 3 else if k = 1 then 0 else 6) % 8
        512 * b (at_ y (2 * i)) + 64 * b (at_ c (2 * i)) + 8 * b (at_ y (2 * i + 1)) + b (at_ c (2 * i + 1))
      [part 0, part 1, part 2]

/-- Pairs of samples of two 4:2:2 rows in turn. -/
def mergePairs : Nat → List Nat → List Nat → List Nat
  | 0, _, _ => []
  | fuel + 1, a, b => if a.isEmpty then [] else a.take 4 ++ b.take 4 ++ mergePairs fuel (a.drop 4) (b.drop 4)

/-- The picture rows that row j of the sub-images makes up in a mapping: row number and samples (inverse of `subRow`). -/
def mergeRows (map raster j : Nat) (subs : List (List Nat)) : List (Nat × List Nat) :=
  let q (i : Nat) : List Nat := subs.getD i []
  let pair (a b : List Nat) : List Nat := mergePairs a.length a b
  if raster < 6 then [(j, q 0)]
  else if map = 6 then [(j, q 0 ++ q 1), (j + 1080, q 2 ++ q 3)]
  else if raster = 6 then [(2 * j, pair (q 0) (q 1)), (2 * j + 1, pair (q 2) (q 3))]
  else (List.range 2).flatMap fun r => (List.range 2).map fun h =>
    let link (l : Nat) : List Nat := pair (q (4 * l + 2 * r)) (q (4 * l + 2 * r + 1))
    (2 * (2 * j + r) + h, pair (link (2 * h)) (link (2 * h + 1)))

/-- The words of data stream k of a link's words. -/
def streamWords (subs k : Nat) (ws : List Nat) : List Nat :=
  let n := 2 * subs
  let o := (streamOrder subs).idxOf k
  (List.range (ws.length / n)).map fun i => ws.getD (n * i + o) 0

/-- The words of a link in a line: the links lie one after the other. -/
def linkWords (links l : Nat) (ws : List Nat) : List Nat := (ws.drop (ws.length / links * l)).take (ws.length / links)

/-- Links that the words of one line come from. -/
def lineLinks (map : Nat) : Nat := if alternates map then 1 else mapLinks map

/-- The active words of data stream k of link l of a line. -/
def activeWords (f : VFormat) (l k : Nat) (ws : List Nat) : List Nat :=
  let x := streamWords (linkSubs f.map) k (linkWords (lineLinks f.map) l ws)
  x.drop (x.length - lineActive f.raster * wordsPer f.sampling)

/-- The picture rows of a received line: row number and samples; none in blanking (R127: the two fields of an interlaced format interleave). -/
def lineRows (f : VFormat) (line : Nat) (ws : List Nat) : List (Nat × List Nat) :=
  match lineRow f.raster line with
  | none => []
  | some j =>
    let n := linkSubs f.map
    mergeRows f.map f.raster j ((List.range (lineLinks f.map * n)).map fun q =>
      streamsRow f.sampling (activeWords f (q / n) (2 * (q % n)) ws) (activeWords f (q / n) (2 * (q % n) + 1) ws))

/-- The data streams of a received line: those of every link that it comes from, one after the other. -/
def lineStreams (f : VFormat) (ws : List Nat) : List (List Nat) :=
  let n := linkSubs f.map
  (List.range (lineLinks f.map * n * 2)).map fun i => streamWords n (i % (2 * n)) (linkWords (lineLinks f.map) (i / (2 * n)) ws)

/-- Active words of one data stream in a line. -/
def streamActive (f : VFormat) : Nat := lineActive f.raster * wordsPer f.sampling

/-- The ancillary spaces of a line's data streams: of each the horizontal space, and on a line without picture the active part. The horizontal position counts
the words of the stream from the first active one; EAV, line number and CRC take the eight after the last. -/
def lineSpaces (f : VFormat) (line : Nat) (xs : List (List Nat)) : List Space :=
  let a := streamActive f
  xs.zipIdx.flatMap fun e =>
    ⟨e.2, a + 8, (e.1.drop 8).take (e.1.length - a - 12), []⟩ ::
      if (lineRow f.raster line).isNone then [⟨e.2, 0, e.1.drop (e.1.length - a), []⟩] else []

/-- The data streams with the words of their ancillary spaces put back. -/
def fillSpaces (f : VFormat) (as_ : List Space) (xs : List (List Nat)) : List (List Nat) :=
  as_.foldl (fun ys a =>
    let x := ys.getD a.stream []
    ys.set a.stream (putWords x (if a.first = 0 then x.length - streamActive f else 8) a.words)) xs

/-- The ancillary packets of a received line, of every data stream of every link (R318). -/
def lineAnc (f : VFormat) (line : Nat) (ws : List Nat) : List AncPacket :=
  (lineSpaces f line (lineStreams f ws)).flatMap fun a => scanAnc a.words.length line a.stream a.first a.words

/-- Interleave the data streams of a link. -/
def interleave (subs n : Nat) (streams : List (List Nat)) : List Nat :=
  (List.range n).flatMap fun i => (streamOrder subs).map fun k => (streams.getD k []).getD i 0

end Sys2Proof.Machine
end

