-- ==== Sys2Proof/Machine/Frame.lean ====
section
/-! DEFINITION. The frame store: rings, the write engine, decisions and reads, checking at use, retirement, the scrub
(R115–R146, R400). -/
namespace Sys2Proof.Machine

/-- A ring frame never written. -/
def coldFrame : RingFrame := ⟨0, false, false, 0⟩

/-- Tiles across a picture. -/
def tilesAcross (f : Nat) : Nat := ((rasterSize f).1 + 31) / 32

/-- The settings of a stored stream, if the image allocates it. -/
def State.streamCfg (s : State) (i : Nat) : Option StreamCfg := Tab.find? s.cfg.streams i

/-- Ring frames of a stream: DEPTH plus the greatest delay (R115–R117). -/
def streamPlaces (c : StreamCfg) : Nat := max 1 (c.depth + c.maxDelay)

/-- Bytes of one ring frame: its slots and its ancillary area. -/
def streamFrameBytes (c : StreamCfg) : Nat := c.tiles * slotBytes c.stored c.code + 1024 * c.ancKib

/-- The address of a slot: place, tile. -/
def slotAddrOf (c : StreamCfg) (place tile : Nat) : Nat :=
  c.base + place * streamFrameBytes c + tile * slotBytes c.stored c.code

/-- The address of a ring frame's ancillary area. -/
def ancAddrOf (c : StreamCfg) (place : Nat) : Nat :=
  c.base + place * streamFrameBytes c + c.tiles * slotBytes c.stored c.code

/-- The channel group of a window offset (R386). -/
def groupOf (w : Nat) : Nat := w / 17179869184

/-- The COMPLETE ring frames of a stream with their places. -/
def StreamRun.complete (x : StreamRun) : List (Nat × RingFrame) := x.ring.filter fun e => e.2.complete

/-- The newest COMPLETE ring frame. -/
def StreamRun.newest (x : StreamRun) : Option (Nat × RingFrame) :=
  x.complete.foldl (fun acc e => match acc with
    | none => some e
    | some a => if a.2.widx < e.2.widx then some e else some a) none

/-- The place that holds a COMPLETE frame with a write index. -/
def StreamRun.placeOf (x : StreamRun) (w : Nat) : Option Nat :=
  match x.complete.find? fun e => e.2.widx == w with
  | some e => some e.1
  | none => none

/-- The place the writer takes: the oldest ring frame that is not read, not pinned, not the newest complete one and not being
written; else the newest complete one (R117). -/
def StreamRun.writePlace (x : StreamRun) (n : Nat) (busy : List Nat) : Nat :=
  let newest := x.newest.map Prod.fst
  let ok (p : Nat) : Bool := x.reading != some p && newest != some p && !busy.contains p &&
    (match x.pinned with
      | some w => x.placeOf w != some p
      | none => true) && !(x.pins.any fun e => x.placeOf e.2 == some p)
  let better (p q : Nat) : Bool :=
    let a := Tab.get coldFrame x.ring p
    let b := Tab.get coldFrame x.ring q
    (!a.written && b.written) || (a.written == b.written && decide (a.widx < b.widx))
  match ((List.range n).filter ok).foldl (fun acc p => match acc with
    | none => some p
    | some q => if better p q then some p else some q) (none : Option Nat) with
  | some p => p
  | none => newest.getD 0

/-- The stream a writer writes: writer 16,384 + i writes side B's copies of paired input i (R232). -/
def streamOf (k : Nat) : Nat := if k < 16384 then k else k - 16384

/-- Is stream i a paired input (R232)? -/
def State.isPaired (s : State) (i : Nat) : Bool :=
  match Tab.find? s.cfg.srcs i with
  | some c => c.pairB.isSome
  | none => false

/-- The write index a new frame takes (R117); the copies of a paired input take the expected frame count (R232, R322). -/
def State.newIndex (s : State) (i : Nat) (c : StreamCfg) : Nat :=
  if s.isPaired i then
    match (s.stream i).newest with
    | some n => n.2.widx + 1
    | none => (s.grp c.readGroup).frame
  else (s.stream i).nextW

/-- Writer k opens a ring frame for its next frame (R117). -/
def State.openFrame (s : State) (k : Nat) : State :=
  let i := streamOf k
  match s.streamCfg i with
  | none => s
  | some c =>
    let x := s.stream i
    let busy := [x.opened, (s.stream (i + 16384)).opened].filterMap id
    let p := x.writePlace (streamPlaces c) busy
    let s1 := s.setStream i { x with
      ring := Tab.put coldFrame x.ring p ⟨s.newIndex i c, true, false, s.deviceTime⟩, nextW := x.nextW + 1
      ancLen := Tab.erase x.ancLen p }
    s1.setStream k { s1.stream k with
      opened := some p, broken := false, rows := [], qNow := [], inexactNow := 0 }

/-- Where a slot now lies: its address, the spare it moved to, or nowhere (retired and flagged, R139). -/
def State.slotAt (s : State) (addr : Nat) : Option Nat :=
  match s.fst.retired.find? fun e => e.1 == addr with
  | some (_, dest) => dest
  | none => some addr

/-- Writer k codes and writes one tile into its open ring frame (R133–R136, R142). A flagged slot is not written (R139). -/
def State.writeTile (s : State) (k tile : Nat) (planes : List (List Nat)) : State :=
  let i := streamOf k
  match s.streamCfg i, (s.stream k).opened with
  | some c, some p =>
    let e := codeTile c.stored c.code planes
    let w := (Tab.get coldFrame (s.stream i).ring p).widx
    let x := s.stream k
    let s1 := s.setStream k { x with
      qNow := Tab.put 0 x.qNow e.q (Tab.get 0 x.qNow e.q + 1), inexactNow := x.inexactNow + b2n e.inexact }
    match s1.slotAt (slotAddrOf c p tile) with
    | some a => s1.dramPut a (slotOf e (w % 65536))
    | none => s1
  | _, _ => s

/-- The samples of each plane in a row of carried samples: 4:2:2 is carried Cb Y Cr Y (R16), other formats pixel by
pixel. -/
def rowPlanes (f : Nat) (row : List Nat) : List (List Nat) :=
  let pick (m r : Nat) : List Nat := (row.zipIdx.filter fun e => e.2 % m == r).map Prod.fst
  if f = 0 then [pick 2 1, pick 4 0, pick 4 2]
  else if f ≤ 2 then [pick 3 0, pick 3 1, pick 3 2]
  else [pick 4 0, pick 4 1, pick 4 2, pick 4 3]

/-- n samples of a row from column o; beyond its end the last sample repeats (R127). -/
def rowSlice (row : List Nat) (o n : Nat) : List Nat :=
  (List.range n).map fun k => row.getD (min (o + k) (row.length - 1)) 0

/-- The planes of a tile from its 8 rows, each split into planes. -/
def tileOf (f tx : Nat) (rows : List (List (List Nat))) : List (List Nat) :=
  (tilePlanes f).zipIdx.map fun e => rows.flatMap fun r => rowSlice (r.getD e.2 []) (e.1.1 * tx) e.1.1

/-- A row of the picture reaches the write engine; with its tile row full, the tiles are written. The last row of the picture repeats
below it (R127). -/
def State.writeRow (s : State) (k raster row : Nat) (samples : List Nat) : State :=
  match s.streamCfg (streamOf k) with
  | none => s
  | some c =>
    let x := s.stream k
    let rows := Tab.put [] x.rows row samples
    let last := (rasterSize raster).2 - 1
    let base := row - row % 8
    let have_ (r : Nat) : List Nat := Tab.get [] rows (min r last)
    let lines := (List.range 8).map fun j => have_ (base + j)
    if lines.any fun l => l.isEmpty then s.setStream k { x with rows := rows }
    else
      let s1 := s.setStream k { x with rows := rows.filter fun e => e.1 / 8 != row / 8 }
      let planes := lines.map (rowPlanes c.stored)
      (List.range (tilesAcross raster)).foldl (fun a tx =>
        a.writeTile k (base / 8 * tilesAcross raster + tx) (tileOf c.stored tx planes)) s1

/-- A stored ancillary packet: line number, data stream, position and count of words, then the words, two bytes each (log 162). -/
def ancRecord (p : AncPacket) : List Byte :=
  toLe 2 p.line ++ toLe 2 p.stream ++ toLe 2 p.pos ++ toLe 2 p.words.length ++ p.words.flatMap (toLe 2)

/-- The packets of a block's bytes; a count of 0 ends them. -/
def ancOf : Nat → List Byte → List AncPacket
  | 0, _ => []
  | fuel + 1, bs =>
    let n := le (slice bs 6 2)
    if n = 0 ∨ bs.length < 8 + 2 * n then []
    else ⟨le (slice bs 0 2), le (slice bs 2 2), le (slice bs 4 2), (List.range n).map fun i => le (slice bs (8 + 2 * i) 2)⟩ ::
      ancOf fuel (bs.drop (8 + 2 * n))

/-- An ancillary packet goes into the open frame's area, uncoded, in 2 KiB blocks that end in a CRC-32; one that does not fit is
dropped and counted (R126). A block is cleared by its first packet. -/
def State.writeAnc (s : State) (k : Nat) (packet : AncPacket) : State :=
  let bytes := ancRecord packet
  match s.streamCfg (streamOf k) with
  | none => s
  | some c =>
    match (s.stream k).opened with
    | none => s
    | some p =>
      let x := s.stream (streamOf k)
      let used := Tab.get 0 x.ancLen p
      let room := 2044 - used % 2048
      let o := if bytes.length ≤ room then used else used + (2048 - used % 2048)
      if bytes.length > 2044 ∨ 1024 * c.ancKib < o + bytes.length + (2048 - (o + bytes.length) % 2048) % 2048 then
        (s.bump Reg.FST_CNT_ANC_OVERFLOW).fstEvent 7
      else
        let a := ancAddrOf c p
        let blk := o / 2048 * 2048
        let s1 := s.dramPut (a + o) (if o = blk then padTo 2044 bytes else bytes)
        let s2 := s1.dramPut (a + blk + 2044) (toLe 4 (crc32 (s1.dramBytes (a + blk) 2044)))
        s2.setStream (streamOf k) { x with ancLen := Tab.put 0 x.ancLen p (o + bytes.length) }

/-- The open frame of a stream becomes COMPLETE (R117, R142); one that was interrupted never does, and its ring frame is
reused. -/
def State.completeFrame (s : State) (i : Nat) : State :=
  let x := s.stream i
  match x.opened with
  | none => s
  | some p =>
    let f := Tab.get coldFrame x.ring p
    if x.broken then s.setStream i { x with opened := none, broken := false, ring := Tab.put coldFrame x.ring p { f with complete := false } }
    else
      let q := x.qNow.foldl (fun m e => max m e.1) 0
      s.setStream i { x with
        opened := none, lossRun := 0, lost := false, ring := Tab.put coldFrame x.ring p { f with complete := true }
        qLast := x.qNow, inexactLast := x.inexactNow, qmaxLast := q, qmaxHeld := max x.qmaxHeld q, widxLast := f.widx }

/-- A stream that still had frames to store for a JOIN, or after one that was abandoned, stores one (R58, R237). -/
def State.joinStored (s : State) (i : Nat) : State :=
  let less (m : Tab Nat) : Tab Nat := Tab.put 0 m i (Tab.get 0 m i - 1)
  s.setTwn { s.twn with join := { s.twn.join with toFill := less s.twn.join.toFill }, unfilled := less s.twn.unfilled }

/-- Is the SDI input of a stream lost in this instant: by SDI_LOST, or at the end of a bad line (R324)? -/
def State.lossFalls (s : State) (i : Nat) : Bool :=
  match (Tab.find? s.cfg.srcs i).map (fun c : SrcCfg => c.input) with
  | some (Input.sdi l) => s.rdBit (Reg.SDI_STATUS l) 31 && s.sameInstant fun c => match c with
    | .sdiLost t k cause => decide (t ≤ s.now) && k == l && s.lossHolds l cause
    | .sdiLine t k ln => decide (t ≤ s.now) && k == l && (ln.lnBad || ln.trsBad || ln.lengthBad)
    | _ => false
  | _ => false

/-- Does the frame being written become COMPLETE in this instant (R118, R324)? -/
def State.completesNow (s : State) (i : Nat) : Bool :=
  (s.stream i).opened.isSome && !(s.stream i).broken && !s.isPaired i && !s.lossFalls i && s.sameInstant fun c => match c with
    | .inputFrameComplete t k => decide (t ≤ s.now) && k == i
    | _ => false

/-- INPUT_FRAME_COMPLETE (R117): the last tile and the ancillary area of the frame being written have been written. A frame that nothing
opened is opened first; an output delay, whose frames follow each other without a gap, opens its next one (R123). With a loss of the input in the same instant it is not COMPLETE (R324). -/
def execInputFrameComplete (t stream : Nat) (s0 : State) : Host.Outcome State Fault Refusal :=
  let s := s0.at t
  if (s.streamCfg stream).isNone ∨ 8192 ≤ stream ∨ s.isPaired stream = true then .next s
  else
    let s0 := if (s.stream stream).opened.isSome then s else s.openFrame stream
    let s1 := if s.lossFalls stream then s0.setStream stream { s0.stream stream with broken := true } else s0
    let s2 := s1.completeFrame stream
    let s3 := if 4096 ≤ stream then s2.openFrame stream else s2
    .next (if (s1.stream stream).broken then s3 else s3.joinStored stream)

/-! Decisions (R118, R119, R124). -/

/-- BLACK as a decision's value (R222). -/
def decisionBlack : Nat := 18446744073709551615

/-- Does this device decide: keyholder, SOLO or ALONGSIDE (R118), and a follower while the wall is down (R242)? -/
def State.decides (s : State) : Bool := s.ctl.role != .follower || !s.twn.wall.up

/-- Is a stream in a loss hold: its input lost, and no new frame COMPLETE since (R124)? -/
def StreamRun.inHold (x : StreamRun) : Bool := !x.ready || x.lost

/-- The newest COMPLETE write index up to w. -/
def StreamRun.upTo (x : StreamRun) (w : Nat) : Option Nat :=
  (x.complete.filter fun e => decide (e.2.widx ≤ w)).foldl (fun a e => some (max e.2.widx (a.getD 0))) none

/-- What a stream's next frame reads (R118, R124), and the loss-hold count after it. The first frame of a freeze is chosen by the mode before it
(R121). A delayed frame that never became COMPLETE gives the one before it (R125); one that the ring does not hold yet reads as black (R130). -/
def State.choose (s : State) (i : Nat) : Option Nat × Nat :=
  let x := s.stream i
  let mode := if x.mode = 3 then x.toPin.getD 3 else x.mode
  match x.newest with
  | none => (none, x.lossRun)
  | some n =>
    if mode = 0 then (none, 0)
    else if mode = 3 then (x.pinned, 0)
    else
      if x.inHold then
        if x.lossRun < s.rdFld Reg.FST_CFG 7 0 then (some n.2.widx, x.lossRun + 1) else (none, x.lossRun)
      else (if mode = 2 then (if x.delay ≤ n.2.widx then x.upTo (n.2.widx - x.delay) else none) else some n.2.widx, 0)

/-- Choose for a frame (R118): the choice is held, and the first frame of a loss hold sets INPUT_HOLD. -/
def State.decideStream (s : State) (i frame : Nat) : State :=
  let x := s.stream i
  let c := s.choose i
  let s1 := s.setStream i { x with
    chosen := some (frame, c.1), lossRun := c.2, pinned := if x.toPin.isSome then c.1 else x.pinned, toPin := none }
  if x.lossRun = 0 ∧ c.2 = 1 then s1.fstEvent 6 else s1

/-- The decision record of a stream's choice (R222). -/
def State.streamDecision (s : State) (i frame : Nat) (g : Nat) : DecisionRec :=
  ⟨1, g, i, frame, match (s.stream i).chosen with
    | some (_, some w) => w
    | _ => decisionBlack⟩

/-- The value last held of one kind: true a mode. -/
def StreamRun.heldValue (x : StreamRun) (isMode : Bool) : Option Nat :=
  ((x.held.filter fun h => h.isMode == isMode).getLast?).map fun h => h.value

/-- A change of mode or delay reaches its headland (R121, R125). Entering freeze pins the frame chosen for the first frame decided
after it. A change that meets freeze at its headland is held, and applies when freeze is left; a delay that comes later takes the place of a
held one at once. -/
def State.applyStreamSet (s : State) (i : Nat) (c : StreamSet) : State :=
  let x := s.stream i
  if x.mode = 3 then
    if x.toPin.isSome then (if c.isMode && c.value == 3 then s else s.setStream i { x with held := x.held ++ [c] })
    else if c.isMode then
      if c.value = 3 then s
      else s.setStream i { x with
        mode := (x.heldValue true).getD c.value, pinned := none, toPin := none, held := [], delay := (x.heldValue false).getD x.delay }
    else s.setStream i { x with delay := c.value, held := x.held.filter fun h => h.isMode }
  else if c.isMode then
    if c.value = 3 then s.setStream i { x with mode := 3, pinned := none, toPin := some x.mode }
    else s.setStream i { x with mode := c.value, lossRun := if c.value = 0 then 0 else x.lossRun }
  else s.setStream i { x with delay := c.value }

/-- The changes of one stream at one headland: with freeze among them, freeze applies and the others are held (R125). -/
def State.applyStreamSets (s : State) (i : Nat) (cs : List StreamSet) : State :=
  if cs.any fun c => c.isMode && c.value == 3 then
    let s1 := s.applyStreamSet i ⟨true, 3⟩
    let x := s1.stream i
    s1.setStream i { x with held := x.held ++ cs.filter fun c => !(c.isMode && c.value == 3) }
  else cs.foldl (fun a c => a.applyStreamSet i c) s

/-! Reads. -/

/-- The write index of the frame being written. -/
def StreamRun.openIndex (x : StreamRun) : Option Nat := x.opened.map fun p => (Tab.get coldFrame x.ring p).widx

/-- The ancillary blocks of a ring frame whose CRC fails (R126). -/
def State.badBlocks (s : State) (c : StreamCfg) (place n : Nat) : Nat :=
  ((List.range ((n + 2047) / 2048)).filter fun b =>
    let bs := s.dramBytes (ancAddrOf c place + 2048 * b) 2048
    le (bs.drop 2044) != crc32 (bs.take 2044)).length

/-- The ancillary area of the frame that a stream reads: blocks that fail are omitted and counted (R126). -/
def State.readAnc (s : State) (i : Nat) : State :=
  match s.streamCfg i, (s.stream i).reading with
  | some c, some p =>
    let bad := s.badBlocks c p (Tab.get 0 (s.stream i).ancLen p)
    if bad = 0 then s else (s.bumpBy Reg.FST_CNT_CRC_FAIL bad).fstEvent 0
  | _, _ => s

/-- The ancillary packets that a place carries: those of the blocks whose CRC is right, in arrival order (R126). -/
def State.ancPackets (s : State) (i : Nat) (place : Option Nat) : List AncPacket :=
  match s.streamCfg i, place with
  | some c, some p =>
    (List.range ((Tab.get 0 (s.stream i).ancLen p + 2047) / 2048)).flatMap fun b =>
      let bs := s.dramBytes (ancAddrOf c p + 2048 * b) 2048
      if le (bs.drop 2044) = crc32 (bs.take 2044) then ancOf 400 (bs.take 2044) else []
  | _, _ => []

/-- A stream starts to read a frame: repeats and drops against the one read for the frame before are counted (R118). Only an output delay of one
frame reads the frame that is being written. -/
def State.startRead (s : State) (i : Nat) (w : Option Nat) : State :=
  let x := s.stream i
  let rep := w.isSome && decide (w = x.lastRead)
  let dropped := match w, x.lastRead with
    | some a, some b => if b + 2 ≤ a then a - b - 1 else 0
    | _, _ => 0
  let place := match w with
    | some a => if 4096 ≤ i ∧ x.openIndex = some a then x.opened else x.placeOf a
    | none => none
  ((s.setStream i { x with
    reading := place, prev := if rep then x.prev else x.reading.bind (fun p => x.lastRead.map fun v => (p, v)), lastRead := w
    readAt := s.deviceTime, readBefore := (x.reading, x.lastRead), tiles := [], tilesBefore := x.tiles
    pinned := if x.toPin.isSome then w else x.pinned, toPin := none, chosen := none, repeats := x.repeats + b2n rep, drops := x.drops + dropped }).emit
    (.video (if i < 4096 then i else i - 4096) (if w.isSome then i else 4032) (w.getD 0))).readAnc i

/-- A frame of a loss hold that a follower reads by decision: counted, and the first one sets INPUT_HOLD (R124). -/
def State.holdFrame (s : State) (i : Nat) : State :=
  let x := s.stream i
  if x.inHold && (x.mode == 1 || x.mode == 2) && x.newest.isSome && decide (x.lossRun < s.rdFld Reg.FST_CFG 7 0) then
    let s1 := s.setStream i { x with lossRun := x.lossRun + 1 }
    if x.lossRun = 0 then s1.fstEvent 6 else s1
  else s

/-- What a follower reads: the decision held for the frame; with none it chooses itself and counts DECISION_MISSED; a named frame that
is not COMPLETE gives its newest COMPLETE one and counts DECISION_UNMET (R119). -/
def State.followRead (s : State) (i frame : Nat) : State :=
  match s.twn.decisions.find? fun d => d.kind == 1 && d.index == i && d.at_ == frame with
  | none =>
    let s1 := (((s.decideStream i frame).bump Reg.FST_CNT_DECISION_MISSED).fstEvent 4).noteLocal i
    s1.startRead i (s.choose i).1
  | some d =>
    let s1 := (s.setTwn { s.twn with
      decisions := s.twn.decisions.filter fun e => !(e.kind == 1 && e.index == i && decide (e.at_ ≤ frame)) }).holdFrame i
    if d.value = decisionBlack then s1.startRead i none
    else match (s.stream i).placeOf d.value with
      | some _ => s1.startRead i (some d.value)
      | none =>
        let s2 := ((s1.bump Reg.FST_CNT_DECISION_UNMET).fstEvent 5).noteLocal i
        s2.startRead i ((s.stream i).newest.map fun e => e.2.widx)

/-- READ_START (R117, R119, R123): an output delay stream reads the frame its delay names and makes no decision. -/
def execReadStart (t stream frame : Nat) (s0 : State) : Host.Outcome State Fault Refusal :=
  let s := s0.at t
  match s.streamCfg stream with
  | none => .next s
  | some c =>
    let x := s.stream stream
    if 8192 ≤ stream then .next s
    else if 4096 ≤ stream then
      match x.openIndex.or (x.newest.map fun n => n.2.widx) with
      | none => .next (s.startRead stream none)
      | some w =>
        let d := max 1 c.delay
        .next (s.startRead stream (if d ≤ w + 1 then some (w + 1 - d) else none))
    else if s.decides then
      match x.chosen with
      | some (f, w) =>
        if f = frame then .next (s.startRead stream w) else .next ((s.decideStream stream frame).startRead stream (s.choose stream).1)
      | none => .next ((s.decideStream stream frame).startRead stream (s.choose stream).1)
    else .next (s.followRead stream frame)

/-! Checking at use (R138–R141). -/

/-- A slot that sowing filled (R130): a FILL header. -/
def fillSlot : List Byte := slotOf ⟨5, 0, false, false, 1, []⟩ 0

/-- The bytes of a slot. -/
def State.slotBytesAt (s : State) (c : StreamCfg) (a : Nat) : List Byte := s.dramBytes a (slotBytes c.stored c.code)

/-- Slots of a stream: those of all its ring frames. -/
def streamSlots (e : Nat × StreamCfg) : Nat := if e.1 < 8192 then streamPlaces e.2 * e.2.tiles else e.2.tiles

/-- A slot's bytes with another tag and its CRC made right. -/
def retag (tag : Nat) (bs : List Byte) : List Byte :=
  let n := 32 * (slotHead bs).bursts
  let body := toLe 2 tag ++ slice bs 6 (n - 6)
  toLe 4 (crc32 body) ++ body

/-- The slots of a place take another write index's tag. -/
def State.retagPlace (s : State) (c : StreamCfg) (p w : Nat) : State :=
  (List.range c.tiles).foldl (fun a n => match a.slotAt (slotAddrOf c p n) with
    | some at_ => a.dramPut at_ (retag (w % 65536) (a.slotBytesAt c at_))
    | none => a) s

/-- Sowing writes FILL headers into all slots of a channel group's streams (R130). -/
def State.sowFill (s : State) (g : Nat) : State :=
  (s.cfg.streams.filter fun e => groupOf e.2.base == g).foldl (fun a e =>
    (List.range (streamSlots e)).foldl (fun b k =>
      b.dramPut (slotAddrOf e.2 (k / max 1 e.2.tiles) (k % max 1 e.2.tiles)) fillSlot) a) s

/-- Bytes of a group's spare pool (R139): used under PLACEMENT=SELF only. -/
def State.spareBytes (s : State) : Nat := if s.ctl.selfPlaced then s.rdFld Reg.FST_CFG 15 8 * 1048576 else 0

/-- Where a group's spare pool begins: it is the last part of the group's fitted DRAM (log 163). -/
def State.spareBase (s : State) (g : Nat) : Nat := 17179869184 * g + s.groupBytes - s.spareBytes

/-- A slot is retired (R139): under SELF it moves to the next spare of its group's pool at the next headland while the pool lasts, and stays in use until
then; under HOST, and with the pool empty, it is flagged at once. -/
def State.retireSlot (s : State) (c : StreamCfg) (addr : Nat) : State :=
  let g := groupOf addr
  let n := slotBytes c.stored c.code
  let used := Tab.get 0 s.fst.spares g
  let s1 := (((s.satFld Reg.FST_STATUS 31 16).fstEvent 2).raise (0x0C0 + g) 0x22 (((s.slotAt addr).getD addr) / 32) 2)
  let s2 := (s1.setLife { s1.life with retired := s1.life.retired + 1 }).setXpt { s1.xpt with history := s1.xpt.history ++ [.retired addr] }
  let flagged (a : State) : State := a.setFst { a.fst with retired := (addr, none) :: a.fst.retired.filter fun e => e.1 != addr }
  if s2.ctl.selfPlaced = false then flagged s2
  else if used + n ≤ s2.spareBytes then
    s2.setFst { s2.fst with
      spares := Tab.put 0 s2.fst.spares g (used + n), moves := s2.fst.moves ++ [(addr, s2.spareBase g + used, n)] }
  else flagged (((s2.wrBit Reg.FST_STATUS 2 true).fstEvent 3).raise (0x0C0 + g) 0x23 g 3)

/-- Relocations that wait take effect at a headland: each slot lies at its spare from now on, with the content it has (R27, R139). -/
def State.relocate (s : State) : State :=
  let s1 := s.fst.moves.foldl (fun a m => match a.slotAt m.1 with
    | some from_ => (a.dramPut m.2.1 (a.dramBytes from_ m.2.2)).setFst { a.fst with
        retired := (m.1, some m.2.1) :: a.fst.retired.filter fun e => e.1 != m.1 }
    | none => a) s
  s1.setFst { s1.fst with moves := [] }

/-- A failure of a slot where it now lies (R138, R139): counted, a C1 record, and with three within 1 s the slot is retired. Two failures at one instant
count as one (R141). -/
def State.slotFailed (s : State) (c : StreamCfg) (addr : Nat) (why : SlotFail) : State :=
  let at_ := (s.slotAt addr).getD addr
  let old := Tab.get [] s.fst.fails at_
  let now := s.deviceTime
  if old.contains now then s
  else
    let s1 := ((s.bump Reg.FST_CNT_CRC_FAIL).wr Reg.FST_LAST_FAIL (BitVec.ofNat 32 (at_ / 32))).fstEvent 0
    let s2 := match why with
      | .stale => s1.bump Reg.FST_CNT_STALE
      | .bad => s1
    let s3 := (s2.bump64 Reg.LIFE_TILEFAIL_LO Reg.LIFE_TILEFAIL_HI 1).raise (0x0C0 + groupOf at_) 0x21 (at_ / 32) 1
    let recent := now :: old.filter fun x => decide (now ≤ x + 1000000000)
    let s4 := s3.setFst { s3.fst with fails := Tab.put [] s3.fst.fails at_ recent }
    if 3 ≤ recent.length ∧ !(s4.fst.moves.any fun m => m.1 == addr) then s4.retireSlot c addr else s4

/-- Read and check one slot of a ring frame with the write index expected; none: it failed, is flagged, or was read late (R390). -/
def State.readSlot (s : State) (c : StreamCfg) (x : StreamRun) (late : Bool) (place widx tile : Nat) : State × Option (List (List Nat)) :=
  let addr := slotAddrOf c place tile
  if !(Tab.get coldFrame x.ring place).written then (s, some (fillTile c.stored c.rgb))
  else if late then (s, none)
  else match s.slotAt addr with
    | none => (s, none)
    | some a => match decodeSlot c.stored c.code c.rgb (some (widx % 65536)) (s.slotBytesAt c a) with
      | .ok ps => (s, some ps)
      | .error why => (s.slotFailed c addr why, none)

/-- A late read is used up (R390). -/
def State.takeLate (s : State) (i tile : Nat) : State :=
  s.setFst { s.fst with late := s.fst.late.filter (· != (i, tile)) }

/-- A tile at use (R138): place of the frame read, place and write index of the previous one. A failed or flagged slot gives the co-located tile of the
previous frame, else black. -/
def State.useTile (s : State) (i : Nat) (c : StreamCfg) (place : Nat) (prev : Option (Nat × Nat)) (tile : Nat) : State × List (List Nat) :=
  let x := s.stream i
  let late := s.fst.late.contains (i, tile)
  let black := fillTile c.stored c.rgb
  let gone (a : State) : State := ((a.bump Reg.FST_CNT_SUBST_BLACK).fstEvent 1).noteLocal i
  match (s.takeLate i tile).readSlot c x late place (Tab.get coldFrame x.ring place).widx tile with
  | (s1, some ps) => (s1, ps)
  | (s1, none) =>
    match prev with
    | none => (gone s1, black)
    | some q => match s1.readSlot c x false q.1 q.2 tile with
      | (s2, some ps) => ((s2.bump Reg.FST_CNT_SUBST_PREV).noteLocal i, ps)
      | (s2, none) => (gone s2, black)

/-- A slot of graphic, slate or cache content at use: its address, its tag not checked. A slot that fails or is flagged gives black: content has no
previous frame. -/
def State.useContent (s : State) (c : StreamCfg) (addr : Nat) : State × List (List Nat) :=
  let gone (a : State) : State × List (List Nat) := ((a.bump Reg.FST_CNT_SUBST_BLACK).fstEvent 1, fillTile c.stored c.rgb)
  match s.slotAt addr with
  | none => gone s
  | some a => match decodeSlot c.stored c.code c.rgb none (s.slotBytesAt c a) with
    | .ok ps => (s, ps)
    | .error why => gone (s.slotFailed c addr why)

/-- The samples of a tile that lie in the picture: the padding is never read out (R127). -/
def cropTile (f w h across tile : Nat) (planes : List (List Nat)) : List (List Nat) :=
  ((tilePlanes f).zip planes).map fun e =>
    let cols := min e.1.1 (((min (w - 32 * (tile % across)) 32) * e.1.1 + 31) / 32)
    (List.range (min 8 (h - 8 * (tile / across)))).flatMap fun r => (e.2.drop (r * e.1.1)).take cols

/-- The picture that a stream's tiles make up: width and height in samples, if it is the raster of a source or a destination. -/
def State.pictureSize (s : State) (i : Nat) : Option (Nat × Nat) :=
  if i < 3968 then (Tab.find? s.cfg.srcs i).map fun c => rasterSize c.fmt.raster
  else if i < 8192 then (Tab.find? s.cfg.dsts (i - 4096)).map fun c => rasterSize c.fmt.raster
  else none

/-- What is put out of a tile of a stream. -/
def State.shownTile (s : State) (i : Nat) (c : StreamCfg) (tile : Nat) (planes : List (List Nat)) : List (List Nat) :=
  match s.pictureSize i with
  | some sz => cropTile c.stored sz.1 sz.2 ((sz.1 + 31) / 32) tile planes
  | none => planes

/-- SLOT_READ (R138): a tile of the frame being read, or of content. What a read brings is what the frame shows. -/
def execSlotRead (t stream tile : Nat) (s0 : State) : Host.Outcome State Fault Refusal :=
  let s := s0.at t
  match s.streamCfg stream with
  | none => .next s
  | some c =>
    let x := s.stream stream
    let out (r : State × List (List Nat)) : State := r.1.emit (.samples stream tile (s.shownTile stream c tile r.2).flatten)
    if c.tiles ≤ tile then .next s
    else if 8192 ≤ stream then .next (out (s.useContent c (slotAddrOf c 0 tile)))
    else match x.reading with
      | none => .next (out (s, fillTile c.stored c.rgb))
      | some p =>
        let r := s.useTile stream c p x.prev tile
        let y := r.1.stream stream
        .next (out (r.1.setStream stream { y with tiles := Tab.put [] y.tiles tile r.2 }, r.2))

/-- Insert a stream in the order of its base address. -/
def insertBase (e : Nat × StreamCfg) : List (Nat × StreamCfg) → List (Nat × StreamCfg)
  | [] => [e]
  | x :: xs => if e.2.base < x.2.base then e :: x :: xs else x :: insertBase e xs

/-- The allocated streams of a channel group in address order. -/
def State.groupStreams (s : State) (g : Nat) : List (Nat × StreamCfg) :=
  (s.cfg.streams.filter fun e => groupOf e.2.base == g).foldl (fun acc e => insertBase e acc) []

/-- The scrub checks one slot by its number within a stream (R141): no tag check, never a frame the writer holds open. -/
def State.scrubSlot (i : Nat) (c : StreamCfg) (s : State) (k : Nat) : State :=
  let x := s.stream i
  let place := k / max 1 c.tiles
  let addr := slotAddrOf c place (k % max 1 c.tiles)
  if x.opened = some place ∨ (s.stream (i + 16384)).opened = some place then s
  else match s.slotAt addr with
    | none => s
    | some a => match decodeSlot c.stored c.code c.rgb none (s.slotBytesAt c a) with
      | .ok _ => s
      | .error why => s.slotFailed c addr why

/-- Scrub from slot number `pos` of the group's slots in address order, `budget` bytes. Answers how many slots were
visited. -/
def State.scrubFrom (s : State) (pos budget : Nat) : List (Nat × StreamCfg) → State × Nat
  | [] => (s, 0)
  | (i, c) :: rest =>
    let n := streamSlots (i, c)
    if n ≤ pos then State.scrubFrom s (pos - n) budget rest
    else
      let k := min (n - pos) (budget / slotBytes c.stored c.code)
      let s1 := ((List.range k).map (pos + ·)).foldl (State.scrubSlot i c) s
      if k < n - pos ∨ budget ≤ k * slotBytes c.stored c.code then (s1, k)
      else
        let r := State.scrubFrom s1 0 (budget - k * slotBytes c.stored c.code) rest
        (r.1, k + r.2)

/-- Slots of a channel group. -/
def State.groupSlots (s : State) (g : Nat) : Nat :=
  (s.groupStreams g).foldl (fun n e => n + streamSlots e) 0

/-- One chunk of the scrub runs (R400): 1 MiB of slots; at the end of a pass the next begins, and SCRUB_BEHIND says whether the pass took
longer than its
period (DRC_MAINT.SCRUB_MIN). -/
def State.scrubChunk (s : State) (g : Nat) : State :=
  let pos := Tab.get 0 s.fst.scrubAt g
  let s0 := if (s.fst.scrubAt.isEmpty) then (s.setFst { s.fst with scrubStart := s.now }) else s
  let r := s0.scrubFrom pos 1048576 (s0.groupStreams g)
  let at_ := pos + r.2
  let s1 := r.1.wrBit Reg.FST_STATUS 1 true
  if s1.groupSlots g ≤ at_ then
    let s2 := s1.setFst { s1.fst with scrubAt := Tab.put 0 s1.fst.scrubAt g 0 }
    let behind := decide (s2.fst.scrubStart + s2.rdFld Reg.DRC_MAINT 15 0 * 60000000000 < s2.now)
    let s3 := s2.wrBit Reg.DRC_STATUS 29 behind
    if s3.fst.scrubAt.isEmpty then s3.wrBit Reg.FST_STATUS 1 false else s3
  else s1.setFst { s1.fst with scrubAt := Tab.put 0 s1.fst.scrubAt g at_ }

/-- SCRUB_CHUNK (R400): admitted on the channel group's resource, or queued there. -/
def execScrubChunk (t g : Nat) (s0 : State) : Host.Outcome State Fault Refusal :=
  let s := s0.at t
  let r := 66 + g
  if s.rdFld Reg.DRC_MAINT 15 0 = 0 ∨ s.groupUsed g = false then .next s
  else match (s.res r).running with
    | none => .next (s.scrubChunk g)
    | some a => if a = ⟨5, g⟩ then .next ((s.scrubChunk g).mntDone r) else .next (s.mntRequest r ⟨5, g⟩).1

/-! Registers with an effect (R142, R146). -/

/-- FST_SEL_WRITE (R146). -/
def execFstSelWrite (t value : Nat) (s0 : State) : Host.Outcome State Fault Refusal :=
  .next ((s0.at t).wr Reg.FST_SEL (BitVec.ofNat 32 (value % 16384)))

/-- The value of FST_QMAX for the selected stream (R142, R146). -/
def State.qmaxValue (s : State) : Nat :=
  let x := s.stream (s.rdFld Reg.FST_SEL 13 0)
  x.qmaxHeld * 256 + x.qmaxLast

/-- A read of FST_QMAX clears QMAX_HELD. -/
def State.qmaxRead (s : State) : State :=
  let i := s.rdFld Reg.FST_SEL 13 0
  s.setStream i { s.stream i with qmaxHeld := 0 }

/-- FST_QMAX_READ (R142). -/
def execFstQmaxRead (t : Nat) (s0 : State) : Host.Outcome State Fault Refusal :=
  let s := s0.at t
  .next ((s.emit (.read Reg.FST_QMAX s.qmaxValue)).qmaxRead)

end Sys2Proof.Machine
end

