-- ==== Sys2Proof/Machine/Render.lean ====
section
/-! DEFINITION. The arithmetic of a compositor: pictures in the blend space, the scaler, the tone-mapping pipeline, blending, the
lintel panel and the output format (R148–R162, R166, R167). -/
namespace Sys2Proof.Machine

/-! The table area (R162), from the compositor array's own copy. -/

/-- A signed 16-bit value of the table area. -/
def tabS16 (t : Tab Byte) (o : Nat) : Int := toSigned 16 (le (Tab.bytes Config.blankByte t o 2))

/-- A 32-bit value of the table area. -/
def tabU32 (t : Tab Byte) (o : Nat) : Nat := le (Tab.bytes Config.blankByte t o 4)

/-- A 16-bit value of the table area. -/
def tabU16 (t : Tab Byte) (o : Nat) : Nat := le (Tab.bytes Config.blankByte t o 2)

/-- One byte of the table area. -/
def tabU8 (t : Tab Byte) (o : Nat) : Nat := (Tab.get Config.blankByte t o).toNat

/-- Row r of a matrix applied without its output offset: rnd(Σ m × (v − in) / 8,192). -/
def matRow (t : Tab Byte) (o r : Nat) (inOff : Bool) (v : List Int) : Int :=
  rndDiv ((List.range 3).foldl (fun a j =>
    a + tabS16 t (o + 6 * r + 2 * j) * (v.getD j 0 - (if inOff then tabS16 t (o + 18 + 2 * j) else 0))) 0) 8192

/-- The output offset of a matrix's component. -/
def matOut (t : Tab Byte) (o r : Nat) : Int := tabS16 t (o + 24 + 2 * r)

/-- A matrix applied with its offsets. -/
def matApply (t : Tab Byte) (o : Nat) (v : List Int) : List Int :=
  (List.range 3).map fun r => matRow t o r true v + matOut t o r

/-- Where matrix m lies. -/
def matAt (m : Nat) : Nat := 0x1D00 + 32 * m

/-- Where the graphics matrix of compositor c lies. -/
def gfxAt (c : Nat) : Nat := 0x4500 + 32 * c

/-! Tone mapping (R160). -/

/-- ⌊√n⌋ within bits b − 1 … 0, above a root found so far. -/
def isqrtBits (n : Nat) : Nat → Nat → Nat
  | 0, r => r
  | b + 1, r => isqrtBits n b (if (r + 2 ^ b) * (r + 2 ^ b) ≤ n then r + 2 ^ b else r)

/-- The pipeline of a layer: its preset, with matrix and curve select in place of the preset's (R161). -/
def toneOf (t : Tab Byte) (preset msel csel : Nat) : Tone :=
  let o := 0x1C00 + 16 * preset
  ⟨tabU8 t o, tabU8 t (o + 1), tabU8 t (o + 2), if msel = 255 then tabU8 t (o + 3) else msel, tabU8 t (o + 4),
    if csel = 255 then tabU8 t (o + 5) else csel, [tabS16 t (o + 8), tabS16 t (o + 10), tabS16 t (o + 12)]⟩

/-- Decode: linear light of a component (stage 2). -/
def toneDecode (t : Tab Byte) (d : Nat) (v : Int) : Int :=
  let n := v.toNat
  let at_ (i : Nat) : Int := ((tabU32 t (0x10000 + 4096 * d + 4 * min i 1023) % 16777216 : Nat) : Int)
  at_ (n / 4) + rndDiv ((at_ (n / 4 + 1) - at_ (n / 4)) * ((n % 4 : Nat) : Int)) 4

/-- Encode: the code of a linear component (stage 6). -/
def toneEncode (t : Tab Byte) (e : Nat) (l : Int) : Int :=
  let j := isqrtBits l.toNat 12 0
  let at_ (i : Nat) : Int := ((tabU16 t (0x20000 + 8192 * e + 2 * min i 4095) % 4096 : Nat) : Int)
  at_ j + rndDiv ((at_ (j + 1) - at_ j) * (l - ((j * j : Nat) : Int))) (2 * j + 1)

/-- The tone curve: luminance out (stage 4), for a positive luminance in. -/
def toneCurve (t : Tab Byte) (c : Nat) (y : Int) : Int :=
  let k := min 63 (isqrtBits (y.toNat / 4096) 12 0)
  let at_ (i : Nat) : Int := ((tabU32 t (0x2500 + 512 * c + 4 * i) % 16777216 : Nat) : Int)
  at_ k + rndDiv ((at_ (k + 1) - at_ k) * (y - 4096 * ((k * k : Nat) : Int))) (4096 * (2 * k + 1))

/-- The pipeline over one pixel (R160). -/
def toneMap (t : Tab Byte) (p : Tone) (px : List Int) : List Int :=
  let rgb := (matApply t (matAt p.entry) px).map (clampInt 0 4095)
  let lin := rgb.map (toneDecode t p.dec)
  let g := (List.range 3).map fun r => matRow t (matAt p.gamut) r false lin
  let yw := rndDiv ((List.range 3).foldl (fun a i => a + p.w.getD i 0 * g.getD i 0) 0) 8192
  let yo := if yw ≤ 0 then 0 else toneCurve t p.curve yw
  let c := if yw ≤ 0 then [0, 0, 0] else g.map fun v => rndDiv (v * yo) yw.toNat
  let m := c.foldl min (c.getD 0 0)
  let clipped := (if m < 0 then c.map fun v => yo + rndDiv ((v - yo) * yo) (yo - m).toNat else c).map (clampInt 0 16777215)
  (matApply t (matAt p.exit_) (clipped.map (toneEncode t p.enc))).map (clampInt 16 4079)

/-! Pictures. -/

/-- Width and height of a picture. -/
def Pic.size : Pic → Nat × Nat
  | .tiles _ w h _ _ => (w, h)
  | .rows _ w h _ => (w, h)
  | .fed _ _ w h => (w, h)
  | .gen _ w h _ => (w, h)
  | .black w h => (w, h)

/-- n steps of the PRBS-15 generator x^15 + x^14 + 1: its register after them and the bits it put out, newest first. -/
def prbs15 : Nat → Nat × List Bool → Nat × List Bool
  | 0, r => r
  | n + 1, (r, bs) =>
    let b := (r / 16384 + r / 8192) % 2
    prbs15 n (r % 16384 * 2 + b, (b == 1) :: bs.take 9)

/-- The generator before active sample n of a frame: its register repeats every 32,767 bits. -/
def prbsAt (n : Nat) : Nat := (prbs15 (10 * n % 32767) (0x7FFF, [])).1

/-- The 10 bits of the next k active samples from a register on, the first bit the highest (R145). -/
def prbsRun : Nat → Nat → List Nat
  | 0, _ => []
  | k + 1, r =>
    let q := prbs15 10 (r, [])
    q.2.reverse.foldl (fun a b => 2 * a + b2n b) 0 :: prbsRun k q.1

/-- The row, in the order the interface carries them, of a picture row: of two fields the first comes first. -/
def carriedRow (fields : Bool) (h y : Nat) : Nat := if fields then y / 2 + (if y % 2 = 0 then 0 else (h + 1) / 2) else y

/-- A sample of source 4,052 in picture column x from its 10 bits (R145). -/
def prbsClass (x u : Nat) : Nat :=
  let b := x / 32 % 10
  if b = 0 then 512 else 512 - 2 ^ (b - 1) + u % 2 ^ b

/-- Source 4,052 (R145): the sample of a plane at picture column x of row y, carried Cb Y Cr Y. -/
def testPattern (fields : Bool) (w h plane x y : Nat) : Nat :=
  let pos := if plane = 0 then 2 * x + 1 else if plane = 1 then 4 * (x / 2) else 4 * (x / 2) + 2
  prbsClass x ((prbsRun 1 (prbsAt (2 * w * carriedRow fields h y + pos))).getD 0 0)

/-- The sample of a plane as it is stored or carried, at plane column x of row y. -/
def Pic.raw : Pic → Nat → Nat → Nat → Nat
  | .tiles f _ _ across t, plane, x, y =>
    let w := ((tilePlanes f).getD plane (32, 256)).1
    let tile := Tab.get [] t (y / 8 * across + x / w)
    (tile.getD plane []).getD (y % 8 * w + x % w) (blackOf f false plane)
  | .rows s _ _ t, plane, x, y =>
    let i := if s = 0 then (if plane = 0 then 2 * x + 1 else if plane = 1 then 4 * x else 4 * x + 2) else 3 * x + plane
    (Tab.get [] t y).getD i (blackOf s false plane)
  | .fed _ s _ _, plane, _, _ => blackOf s false plane
  | .gen src w h fields, plane, x, y =>
    if src = 4052 then testPattern fields w h plane (if plane = 0 then x else 2 * x) y else Config.pattern src plane x y
  | .black _ _, plane, _, _ => if plane = 0 then 256 else 2048

/-- Is a picture's chroma sampled at every other pixel, and does a sample go to 12 bits by × 4? -/
def Pic.form : Pic → Bool × Bool
  | .tiles f _ _ _ _ => (f == 0, decide (f ≤ 1))
  | .rows s _ _ _ => (s == 0, decide (s ≤ 1))
  | .fed _ s _ _ => (s == 0, decide (s ≤ 1))
  | .gen src _ _ _ => (src == 4052, src == 4052)
  | .black _ _ => (false, false)

/-- A component of a video pixel in the blend space (R151). -/
def Pic.at12 (p : Pic) (plane x y : Nat) : Int :=
  let half := p.form.1 && plane != 0
  let up (v : Int) : Int := if p.form.2 then 4 * v else v
  if half then
    let last := (p.size.1 + 1) / 2 - 1
    let a : Int := (p.raw plane (x / 2) y : Nat)
    if x % 2 = 0 then up a
    else
      let b : Int := (p.raw plane (min (x / 2 + 1) last) y : Nat)
      rndDiv (up a + up b) 2
  else up (p.raw plane x y : Nat)

/-! The scaler (R153, R154). -/

/-- The coefficient set of a ratio m / n. -/
def scaleSet (n m : Nat) : Nat := if n ≤ m then 0 else if n ≤ 2 * m then 1 else if n ≤ 4 * m then 2 else 3

/-- The position p_j on one axis. -/
def scalePos (c0 n m j : Nat) : Int :=
  let step := n * 65536 / max 1 m
  (c0 : Int) * 65536 + ((j * step + step / 2 : Nat) : Int) - 32768

/-- A coordinate held within the crop and the source. -/
def holdIn (c0 n size : Nat) (i : Int) : Nat :=
  (clampInt (c0 : Int) (min ((c0 + n : Nat) : Int) (size : Int) - 1) i).toNat

/-- The vertical filter at source column x for output line j. -/
def scaleV (t : Tab Byte) (p : Pic) (plane x cy ch oh j : Nat) : Int :=
  let pos := scalePos cy ch oh j
  let i := pos / 65536
  let ph := (pos / 1024 % 64).toNat
  let o := 0x1000 + 768 * scaleSet ch oh + 12 * ph
  clampInt 16 4079 (rndDiv ((List.range 6).foldl (fun a k =>
    a + tabS16 t (o + 2 * k) * p.at12 plane x (holdIn cy ch p.size.2 (i - 2 + k))) 0) 1024)

/-- The part of an axis of the source that the visible part of a layer needs (R153, R154): crop c0, n; output size m at position `pos` in a raster of
`size`; unless the layer is unscaled, the filter reaches `before` and `after` samples from a position. Start and end. -/
def sourceSpan (plain : Bool) (c0 n m : Nat) (pos : Int) (size before after : Nat) : Nat × Nat :=
  let j0 := (-pos).toNat
  let j1 := min m ((size : Int) - pos).toNat
  if j1 ≤ j0 ∨ n = 0 then (0, 0)
  else if plain then (c0 + j0, c0 + j1)
  else ((max (c0 : Int) (scalePos c0 n m j0 / 65536 - (before : Int))).toNat,
    (min ((c0 + n : Nat) : Int) (scalePos c0 n m (j1 - 1) / 65536 + (after : Int) + 1)).toNat)

/-- The scaled sample at output column j, line l. -/
def scaleHV (t : Tab Byte) (p : Pic) (plane cx cy cw ch ow oh j l : Nat) : Int :=
  let pos := scalePos cx cw ow j
  let i := pos / 65536
  let ph := (pos / 1024 % 64).toNat
  let o := 1024 * scaleSet cw ow + 16 * ph
  clampInt 16 4079 (rndDiv ((List.range 8).foldl (fun a k =>
    a + tabS16 t (o + 2 * k) * scaleV t p plane (holdIn cx cw p.size.1 (i - 3 + k)) cy ch oh l) 0) 1024)

/-! Layers. -/

/-- A pixel of a layer: its effective alpha, its components, whether they are P of R152. -/
structure LayerPixel where
  alpha : Int
  px : List Int
  premult : Bool
  deriving DecidableEq, Repr

/-- α = rnd(A × G / 1,023). -/
def effAlpha (a : Int) (g : Nat) : Int := rndDiv (a * (g : Int)) 1023

/-- A colour of RGBA content in the blend space's 12 bits (R151). -/
def rgba12 (bits v : Nat) : Int := if bits = 8 then ((16 * v + v / 16 : Nat) : Int) else ((4 * v + v / 256 : Nat) : Int)

/-- The alpha of RGBA content in 10 bits. -/
def alpha10 (bits v : Nat) : Int := if bits = 8 then ((4 * v + v / 64 : Nat) : Int) else (v : Int)

/-- Bits per component of RGBA content. -/
def rgbaBits : Pic → Nat
  | .tiles f _ _ _ _ => sampleBits f
  | _ => 10

/-- A layer's pixel at raster column x, row y; none outside it. `gm`: where the compositor's graphics matrix lies. -/
def Layer.pixel (t : Tab Byte) (gm : Nat) (l : Layer) (x y : Nat) : Option LayerPixel :=
  let ix := (x : Int) - l.x
  let iy := (y : Int) - l.y
  if ix < 0 ∨ iy < 0 then none
  else
    let j := ix.toNat
    let k := iy.toNat
    match l.paint with
    | .video p cx cy cw ch ow oh tone =>
      if ow ≤ j ∨ oh ≤ k ∨ cw = 0 ∨ ch = 0 then none
      else
        let plain := cw == ow && ch == oh
        let sx := if plain then ((cx + j : Nat) : Int) else scalePos cx cw ow j / 65536
        let sy := if plain then ((cy + k : Nat) : Int) else scalePos cy ch oh k / 65536
        if (p.size.1 : Int) ≤ sx ∨ (p.size.2 : Int) ≤ sy then none
        else
          let px := (List.range 3).map fun plane =>
            if plain then p.at12 plane (cx + j) (cy + k) else scaleHV t p plane cx cy cw ch ow oh j k
          some ⟨effAlpha 1023 l.alpha, match tone with
            | some q => toneMap t q px
            | none => px, false⟩
    | .graphics p w h premult =>
      if w ≤ j ∨ h ≤ k then none
      else
        let bits := rgbaBits p
        let rgb := (List.range 3).map fun plane => rgba12 bits (p.raw plane j k)
        let a := effAlpha (alpha10 bits (p.raw 3 j k)) l.alpha
        if premult then some ⟨a, (List.range 3).map fun r => matRow t gm r true rgb, true⟩
        else some ⟨a, matApply t gm rgb, false⟩
    | .solid w h => if w ≤ j ∨ h ≤ k then none else some ⟨effAlpha 1023 l.alpha, [256, 2048, 2048], false⟩

/-- Blend a pixel over what lies below (R152), each component clamped to 16–4,079. -/
def blendOver (t : Tab Byte) (gm : Nat) (d : List Int) : Option LayerPixel → List Int
  | none => d
  | some s => (List.range 3).map fun i =>
    let b := d.getD i 0
    let v := s.px.getD i 0
    clampInt 16 4079 (if s.premult then
        let o := matOut t gm i
        o + v + rndDiv ((1023 - s.alpha) * (b - o)) 1023
      else b + rndDiv (s.alpha * (v - b)) 1023)

/-- The blended pixel: layers bottom first over the background. -/
def blendAll (t : Tab Byte) (gm : Nat) (bg : List Int) (ls : List Layer) (x y : Nat) : List Int :=
  ls.foldl (fun d l => blendOver t gm d (l.pixel t gm x y)) bg

/-- A 12-bit component in the output's depth (R152). -/
def outDepth (sampling : Nat) (v : Int) : Nat :=
  if sampling = 2 then v.toNat else (clampInt 4 1019 ((v + 2) / 4)).toNat

/-- A row of blended pixels as the output carries it (R152): SAMPLING of CMP_CFG. -/
def outRow (sampling : Nat) (row : List (List Int)) : List Nat :=
  let n := row.length
  let at_ (i plane : Nat) : Int := (row.getD i []).getD plane 0
  if sampling = 0 then
    (List.range ((n + 1) / 2)).flatMap fun i =>
      let c (plane : Nat) : Nat := outDepth 0 (rndDiv
        (at_ (2 * i - 1) plane + 2 * at_ (2 * i) plane + at_ (min (2 * i + 1) (n - 1)) plane) 4)
      let y0 := outDepth 0 (at_ (2 * i) 0)
      if 2 * i + 1 < n then [c 1, y0, c 2, outDepth 0 (at_ (2 * i + 1) 0)] else [c 1, y0, c 2]
  else row.flatMap fun p => (List.range 3).map fun plane => outDepth sampling (p.getD plane 0)

/-! The lintel layer (R166, R167). -/

/-- The code point at the head of UTF-8 bytes and how many bytes it takes; none where they are malformed. -/
def utf8Head (bs : List Byte) : Option (Nat × Nat) :=
  let b (i : Nat) : Nat := (bs.getD i 0).toNat
  let more (n : Nat) : Bool := decide (n < bs.length) && ((List.range n).all fun i => b (i + 1) / 64 == 2)
  if bs.isEmpty then none
  else if b 0 < 128 then some (b 0, 1)
  else if 194 ≤ b 0 ∧ b 0 < 224 then (if more 1 then some (b 0 % 32 * 64 + b 1 % 64, 2) else none)
  else if 224 ≤ b 0 ∧ b 0 < 240 then
    let v := (b 0 % 16 * 64 + b 1 % 64) * 64 + b 2 % 64
    if more 2 && decide (2048 ≤ v) && !(decide (55296 ≤ v) && decide (v < 57344)) then some (v, 3) else none
  else if 240 ≤ b 0 ∧ b 0 < 245 then
    let v := ((b 0 % 8 * 64 + b 1 % 64) * 64 + b 2 % 64) * 64 + b 3 % 64
    if more 3 && decide (65536 ≤ v) && decide (v < 1114112) then some (v, 4) else none
  else none

/-- The code points of UTF-8 bytes; none where they are malformed. -/
def utf8Points : Nat → List Byte → Option (List Nat)
  | 0, bs => if bs.isEmpty then some [] else none
  | fuel + 1, bs =>
    if bs.isEmpty then some []
    else match utf8Head bs with
      | none => none
      | some (c, n) => match utf8Points fuel (bs.drop n) with
        | none => none
        | some cs => some (c :: cs)

/-- Split code points into lines at 0x0A. -/
def textLines : List Nat → List (List Nat)
  | [] => [[]]
  | c :: cs => match textLines cs with
    | [] => [[c]]
    | l :: ls => if c = 10 then [] :: l :: ls else (c :: l) :: ls

/-- The font of record 0x0013: cell width and height, glyphs, the substitution glyph. -/
structure Font where
  w : Nat
  h : Nat
  glyphs : Tab (List Nat)
  subst : List Nat
  deriving DecidableEq, Repr

/-- Is pixel (x, y) of a code point's cell set? -/
def Font.set (f : Font) (c x y : Nat) : Bool :=
  let rows := (Tab.find? f.glyphs c).getD f.subst
  (rows.getD y 0 / 2 ^ (f.w - 1 - x)) % 2 == 1

/-- The glyph scale at which the panel fits, 1 at least (R167). -/
def panelScale (f : Font) (chars lines rw rh : Nat) : Nat → Nat
  | 0 => 1
  | s + 1 => if s = 0 then 1
    else if (chars + 2) * f.w * (s + 1) ≤ rw ∧ (lines + 1) * f.h * (s + 1) ≤ rh then s + 1 else panelScale f chars lines rw rh s

/-- A palette colour of compositor c in the blend space. -/
def paletteColour (t : Tab Byte) (c i : Nat) : List Int :=
  let v := tabU32 t (0x4D00 + 32 * c + 4 * i)
  [((4 * (v / 1048576 % 1024) : Nat) : Int), ((4 * (v / 1024 % 1024) : Nat) : Int), ((4 * (v % 1024) : Nat) : Int)]

/-- The pixel of a text message at raster column x, row y (R167). -/
def textPixel (t : Tab Byte) (c : Nat) (f : Font) (m : LintelText) (rw rh x y : Nat) : Option LayerPixel :=
  let lines := textLines ((utf8Points m.text.length m.text).getD [])
  let chars := lines.foldl (fun n l => max n l.length) 0
  let s := panelScale f chars lines.length rw rh m.scale
  let pw := (chars + 2) * f.w * s
  let ph := (lines.length + 1) * f.h * s
  let ix := (x : Int) - ((m.centreX * rw / 1000 : Nat) : Int) + ((pw / 2 : Nat) : Int)
  let iy := (y : Int) - ((m.centreY * rh / 1000 : Nat) : Int) + ((ph / 2 : Nat) : Int)
  if ix < 0 ∨ iy < 0 ∨ (pw : Int) ≤ ix ∨ (ph : Int) ≤ iy then none
  else
    let ty := iy - ((f.h * s / 2 : Nat) : Int)
    let line := lines.getD (ty.toNat / max 1 (f.h * s)) []
    let left := (pw - line.length * f.w * s) / 2
    let tx := ix - (left : Int)
    let on := decide (0 ≤ ty) && decide (0 ≤ tx) && decide (ty.toNat < lines.length * f.h * s) &&
      decide (tx.toNat < line.length * f.w * s) &&
      f.set (line.getD (tx.toNat / max 1 (f.w * s)) 0) (tx.toNat / max 1 s % max 1 f.w) (ty.toNat / max 1 s % max 1 f.h)
    some ⟨1023, paletteColour t c (if on then m.fg else m.bg), false⟩

/-- Draw a lintel message. -/
def lintelPixel (t : Tab Byte) (c : Nat) (f : Font) (rw rh x y : Nat) : LintelPaint → Option LayerPixel
  | .text m => textPixel t c f m rw rh x y
  | .bitmap l => l.pixel t (gfxAt c) x y

/-- Row y of the picture of a compositor: layers and lintel messages, bottom first, over the background. -/
def renderRow (t : Tab Byte) (c sampling rw rh : Nat) (f : Font) (bg : List Int) (ls : List Layer) (lintel : List LintelPaint) (y : Nat) :
    List Nat :=
  outRow sampling ((List.range rw).map fun x =>
    lintel.foldl (fun d m => blendOver t (gfxAt c) d (lintelPixel t c f rw rh x y m)) (blendAll t (gfxAt c) bg ls x y))

/-! The static cache (R157): straight and premultiplied layers flattened into one premultiplied 10-bit plane. -/

/-- A component of RGBA content in 10 bits. -/
def rgba10 (bits v : Nat) : Int := if bits = 8 then ((4 * v + v / 64 : Nat) : Int) else (v : Int)

/-- A pixel of the flattened plane (R, G, B, A): each static layer over what lies below, premultiplied. DEDUCED from R152 (log 33). -/
def flattenPixel (ls : List Layer) (x y : Nat) : List Nat :=
  (ls.foldl (fun (d : List Int) l =>
    let ix := (x : Int) - l.x
    let iy := (y : Int) - l.y
    match l.paint with
    | .graphics p w h premult =>
      if ix < 0 ∨ iy < 0 ∨ (w : Int) ≤ ix ∨ (h : Int) ≤ iy then d
      else
        let bits := rgbaBits p
        let a := effAlpha (alpha10 bits (p.raw 3 ix.toNat iy.toNat)) l.alpha
        (List.range 4).map fun i =>
          let below := rndDiv ((1023 - a) * d.getD i 0) 1023
          if i = 3 then a + below
          else
            let v := rgba10 bits (p.raw i ix.toNat iy.toNat)
            clampInt 0 1023 ((if premult then v else rndDiv (a * v) 1023) + below)
    | _ => d) [0, 0, 0, 0]).map Int.toNat

/-- The planes of tile (tx, ty) of the flattened plane. -/
def flattenTile (ls : List Layer) (tx ty : Nat) : List (List Nat) :=
  let px := (List.range 256).map fun k => flattenPixel ls (32 * tx + k % 32) (8 * ty + k / 32)
  (List.range 4).map fun i => px.map fun p => p.getD i 0

end Sys2Proof.Machine
end

