-- ==== Sys2Proof/Machine/Embed.lean ====
section
/-! DEFINITION. Audio on SDI and on ST 2110-31 flows: ST 299 packets, AES3 status, AM824 subframes (R175, R178, R187, R189, R344). The word layouts are those
of the standards the spec names (log 162). -/
namespace Sys2Proof.Machine

/-! AES3 status (R187). -/

/-- The channel status bit of sample n of a channel that came with no AES3 status: professional, linear PCM, 48 kHz. The spec gives no more of that block than
its kind, so its other bits are free (log 162). -/
def pcmStatus (n : Nat) : Bool := n % 192 == 0 || (n % 192 != 1 && Config.pcmStatusBit (n % 192))

/-- The status that sample n carries: validity 1, user 2, channel status 4, block start 8. -/
def Samp.status (x : Samp) (n : Nat) : Nat :=
  match x.aes with
  | some a => a % 16
  | none => 4 * b2n (pcmStatus n) + 8 * b2n (n % 192 == 0)

/-- The 24 bits of a sample. -/
def Samp.bits24 (x : Samp) : Nat := ofSigned 24 x.v

/-- Is the number of ones of a sample with its validity, user and status bits odd? -/
def aesParity (v st : Nat) : Bool := (bitsOf 24 v ++ bitsOf 3 (st % 8)).foldl Bool.xor false

/-! ST 299 (R178). -/

/-- Audio channels of one link of a mapping (R175). -/
def linkChannels (map : Nat) : Nat := if map = 0 ∨ map = 3 then 16 else 32

/-- The data identifier of the audio data packets of a group of four channels. -/
def audioDid (g : Nat) : Nat := if g < 4 then 0xE7 - g else 0xAB - g

/-- The data identifier of the audio control packets of a group. -/
def controlDid (g : Nat) : Nat := if g < 4 then 0xE3 - g else 0xA7 - g

/-- The group whose audio data packets have a data identifier. -/
def audioGroup (did : Nat) : Option Nat :=
  if 0xE4 ≤ did ∧ did ≤ 0xE7 then some (0xE7 - did) else if 0xA4 ≤ did ∧ did ≤ 0xA7 then some (0xAB - did) else none

/-- The four bytes of a sample with its status. -/
def subframeBytes (v st : Nat) : List Nat :=
  [v % 16 * 16 + 8 * (st / 8 % 2), v / 16 % 256, v / 4096 % 256,
    v / 1048576 % 16 + 16 * (st % 2) + 32 * (st / 2 % 2) + 64 * (st / 4 % 2) + 128 * b2n (aesParity v st)]

/-- The six bytes of the error correction code over bytes, bit by bit: x^6 + x^5 + x^3 + x^2 + x + 1. -/
def eccBytes (bs : List Nat) : List Nat :=
  bs.foldl (fun r b =>
    let at_ (i : Nat) : Nat := r.getD i 0
    let fb := Nat.xor (at_ 5) b
    [fb, Nat.xor (at_ 0) fb, Nat.xor (at_ 1) fb, Nat.xor (at_ 2) fb, at_ 3, Nat.xor (at_ 4) fb]) [0, 0, 0, 0, 0, 0]

/-- The bytes that the code of a packet covers: its ADF, DID, data block number, data count, clock and audio words. -/
def eccOver (did dbn : Nat) (body : List Nat) : List Nat := eccBytes ([0, 255, 255, did, dbn, 24] ++ body)

/-- The audio data packet of a group: data block number, clock phase, whether it comes a line late, sample number and samples of its four channels. -/
def audioPacket (g clock n : Nat) (late : Bool) (xs : List Samp) : List Nat :=
  let dbn := n % 255 + 1
  let body := [clock % 256, clock / 256 % 16 + 16 * b2n late + 32 * (clock / 4096 % 2)] ++ (List.range 4).flatMap fun j =>
    let x := xs.getD j ⟨0, none⟩
    subframeBytes x.bits24 (x.status n)
  ancWords (audioDid g) dbn ((body ++ eccOver (audioDid g) dbn body).map parityWord)

/-- The audio control packet of a group: no frame number, 48 kHz synchronous, its channels active, no delay. -/
def controlPacket (g active : Nat) : List Nat :=
  ancWords (controlDid g) 0 (([0, 0, active % 16] ++ List.replicate 8 0).map parityWord)

/-- The samples of a packet whose checksum and code are right. -/
def readAudio (p : AncPacket) : Option (List Samp) :=
  let bytes := p.udws.map (· % 256)
  if p.bad || bytes.length != 24 || bytes.drop 18 != eccOver p.did p.sdid (bytes.take 18) then none
  else some ((List.range 4).map fun j =>
    let b (k : Nat) : Nat := bytes.getD (2 + 4 * j + k) 0
    ⟨toSigned 24 (b 0 / 16 + 16 * b 1 + 4096 * b 2 + 1048576 * (b 3 % 16)), none⟩)

/-- The audio data packets of a line of an SDI port go to the input's FIFO in arrival order; one whose code or checksum fails repeats the samples before
(R178, R188). -/
def State.deembed (s : State) (l : Nat) (f : VFormat) (ps : List AncPacket) : State :=
  ps.foldl (fun a p =>
    match audioGroup p.did with
    | none => a
    | some g =>
      let base := linkChannels f.map * (p.stream / 2 / linkSubs f.map) + 4 * g
      let xs := (readAudio p).getD ((List.range 4).map fun j => (a.audIn l).newest (2 * (base + j)))
      xs.zipIdx.foldl (fun b x => b.pushAudio l (2 * (base + x.2)) x.1) a) s

/-- A destination beside AUD_GAINd with nothing running. -/
def coldDst : AudDst := ⟨[], none, []⟩

/-! AM824 (ST 2110-31). -/

/-- The subframe of channel c of a flow: its sample and the status of sample n. -/
def am824 (c n : Nat) (x : Samp) : List Byte :=
  let st := x.status n
  let head := 32 * (st / 8 % 2) + 16 * b2n (c % 2 == 0) + 8 * b2n (aesParity x.bits24 st) + 4 * (st / 4 % 2) + 2 * (st / 2 % 2) + st % 2
  BitVec.ofNat 8 head :: toBe 3 x.bits24

/-- The sample of a subframe. -/
def readAm824 (bs : List Byte) : Samp :=
  let h := (bs.getD 0 0).toNat
  ⟨toSigned 24 (be (bs.drop 1)), some (h % 8 + 8 * (h / 32 % 2))⟩

end Sys2Proof.Machine
end

