-- ==== Sys2Proof/Machine/Sdi.lean ====
section
/-! DEFINITION. SDI ports: line checks, format detection and readiness, loss, paired inputs (R309–R323). A port is named by its
lead lane. -/
namespace Sys2Proof.Machine

/-- A port with nothing measured. -/
def coldSdi : SdiRun := ⟨false, 0, none, none, []⟩

/-- A port's run. -/
def State.sdiRun (s : State) (l : Nat) : SdiRun := Tab.get coldSdi s.sdi l

/-- Replace a port's run. -/
def State.setSdi (s : State) (l : Nat) (x : SdiRun) : State := s.setSdis (Tab.put coldSdi s.sdi l x)

/-- Does a mapping carry a format, rate and sampling (R309)? Codes of R265 and R325. -/
def mapCarries (f : VFormat) : Bool :=
  let slow := decide (1 ≤ f.rate) && decide (f.rate ≤ 5)
  let fast := decide (6 ≤ f.rate) && decide (f.rate ≤ 8)
  let inter := decide (3 ≤ f.rate) && decide (f.rate ≤ 5)
  let hd := (f.raster == 3 && inter) || ((f.raster == 4 || f.raster == 5) && slow)
  let s0 := f.sampling == 0
  let s444 := f.sampling == 1 || f.sampling == 2
  match f.map with
  | 0 => s0 && (hd || (f.raster == 2 && (slow || fast)))
  | 1 => (s0 && f.raster == 5 && fast) || (s444 && hd)
  | 2 => s0 && f.raster == 5 && fast
  | 3 => s0 && f.raster == 5 && fast
  | 4 => s444 && f.raster == 5 && fast
  | 5 => s0 && f.raster == 6 && fast
  | 6 => s0 && f.raster == 6 && fast
  | 7 => s0 && f.raster == 6 && slow
  | 8 => s0 && f.raster == 6 && fast
  | 9 => s0 && f.raster == 6 && (slow || fast)
  | 10 => s0 && f.raster == 7 && (slow || fast)
  | _ => false

/-- The format an SDI receiver is configured for. -/
def State.sdiExpected (s : State) (l : Nat) : VFormat :=
  let w := s.rd (Reg.SDI_RX_CFG l)
  ⟨fld w 27 24, fld w 23 20, fld w 19 18, fld w 31 28⟩

/-- The word of SDIn_FORMAT for a format (R325). -/
def formatWord (f : VFormat) (valid : Bool) : Nat :=
  f.map * 268435456 + f.raster * 16777216 + f.rate * 1048576 + f.sampling * 262144 + b2n valid

/-- Is a lane the lead lane of an SDI port that is used to receive? -/
def State.sdiPort (s : State) (l : Nat) : Bool :=
  decide (l < 1024) && s.lanePresent l && s.isSdi l && s.rxLead l == l && s.rdBit (Reg.LAN_CFG l) 19

/-- Is a port ready? -/
def State.sdiIsReady (s : State) (l : Nat) : Bool := s.rdBit (Reg.SDI_STATUS l) 31

/-- The partner of a port that is part of a paired input (R322). -/
def State.pairPartner (s : State) (l : Nat) : Option Nat :=
  if s.rdBit (Reg.SDI_RX_CFG l) 13 then some (s.rdFld (Reg.SDI_PAIR l) 9 0) else none

/-- The writer of a source's frames for the copy that arrives on a port. -/
def State.writerOf (s : State) (l src : Nat) : Nat :=
  match Tab.find? s.cfg.srcs src with
  | some c => if c.pairB = some l then src + 16384 else src
  | none => src

/-- A ready port becomes not ready (R315): event and count; its sources and its audio are lost (R75, R117, R177). A source of a paired
input is lost only with both ports; one port's loss interrupts its copy. -/
def State.sdiLose (s : State) (l : Nat) : State :=
  if s.sdiIsReady l then
    let s1 := ((s.wrBit (Reg.SDI_STATUS l) 31 false).bump (Reg.SDI_CNT_LOSS l)).sdiEvent l 0
    let s2 := (s1.setSdi l { s1.sdiRun l with lastCount := none }).audioLost l
    match s2.pairPartner l with
    | some p =>
      let s3 := (s2.sourcesOf (.sdi l)).foldl (fun a src =>
        let k := a.writerOf l src
        let x := a.stream k
        a.setStream k { x with broken := x.broken || x.opened.isSome }) s2
      if s3.sdiIsReady p then s3 else s3.inputLost (.sdi l)
    | none => s2.inputLost (.sdi l)
  else s

/-- The window depth of a source on the line exchange (R71). -/
def State.windowDepth (s : State) (c : SrcCfg) : Nat := if c.depth = 0 then s.rdFld Reg.XPT_CFG 3 0 else c.depth

/-- A line that has not come. -/
def noLine : SdiLine := ⟨0, false, false, false, false, false, []⟩

/-- The key of a row, or of a line, in the line store. -/
def lineKey (src n : Nat) : Nat := src * 8192 + n

/-- A row of a source that the line exchange carries is kept: the last that came is what its destinations carry (R71). -/
def State.keepRow (s : State) (src row : Nat) (samples : List Nat) : State := s.setRows (Tab.put [] s.rows (lineKey src row) samples)

/-- A line of a ready port goes to what the port feeds: the line exchange (R71), or the write engine (R318). -/
def State.feedLine (s : State) (l : Nat) (ln : SdiLine) (src : Nat) : State :=
  match Tab.find? s.cfg.srcs src with
  | none => s
  | some c =>
    if c.synced then
      let k := s.writerOf l src
      let s1 := if ln.line = 1 then s.openFrame k else s
      let s2 := (lineRows c.fmt ln.line ln.words).foldl (fun a r => a.writeRow k c.fmt.raster r.1 r.2) s1
      ((lineAnc c.fmt ln.line ln.words).filter fun p => !p.bad && p.travels).foldl (fun a p => a.writeAnc k p) s2
    else
      let s1 := s.setWin (Tab.put noLine s.win (lineKey src ln.line) ln)
      (lineRows c.fmt ln.line ln.words).foldl (fun a r => a.keepRow src r.1 r.2) s1

/-- The line CRC words of a line's data streams recomputed (R317): does one differ from the received words, and the CRCs over the active words that the next
lines continue. `regs`: those of the lines before; with none a stream is not compared. Words that are no whole line give none. -/
def checkCrc (f : VFormat) (regs : List Nat) (line : Nat) (ws : List Nat) : Bool × List Nat :=
  let xs := lineStreams f ws
  let turn := if alternates f.map then xs.length * ((line - 1) % 2) else 0
  if ws.length ≠ xs.length * (lineTotal f.raster f.rate * wordsPer f.sampling) then (false, [])
  else
    let none_ := 0x40000
    let all := if regs.isEmpty then List.replicate (2 * linkSubs f.map * mapLinks f.map) none_ else regs
    let old := all.drop turn
    let bad := (xs.zip old).any fun e => e.2 != none_ && (e.1.drop 6).take 2 != crcWords (crc18 e.2 (e.1.take 6))
    (bad, all.take turn ++ (xs.map fun x => crc18 0 (x.drop (x.length - streamActive f))) ++ all.drop (turn + xs.length))

/-- SDI_LINE (R317, R318): the checks of one line. Ancillary packets are checked only where they are extracted. -/
def execSdiLine (t lane : Nat) (ln : SdiLine) (s0 : State) : Host.Outcome State Fault Refusal :=
  let s := s0.at t
  if s.sdiPort lane = false then .next s
  else
    let r0 := s.sdiRun lane
    let r := if ln.line = 1 then { r0 with bad := false, crcLines := 0 } else r0
    let wrong := ln.lnBad || ln.trsBad || ln.lengthBad
    let crc := checkCrc (s.sdiExpected lane) r0.lineCrc ln.line ln.words
    let crcBad := ln.crcBad || crc.1
    let s1 := s.setSdi lane { r with bad := r.bad || wrong, crcLines := r.crcLines + b2n crcBad, lineCrc := if wrong then [] else crc.2 }
    let s2 := if crcBad then
        (let a := s1.bump (Reg.SDI_CNT_CRC lane); if r.crcLines = 0 then a.sdiEvent lane 4 else a) else s1
    let s3 := if ln.lnBad then s2.bump (Reg.SDI_CNT_LN_ERR lane) else s2
    let s4 := if ln.trsCorrected then s3.bump (Reg.SDI_CNT_TRS_ERR lane) else s3
    if wrong then .next (s4.sdiLose lane)
    else if s4.sdiIsReady lane then
      let srcs := s4.sourcesOf (.sdi lane)
      let extracts := srcs.any fun src => match Tab.find? s4.cfg.srcs src with
        | some c => c.synced
        | none => false
      let f := s4.sdiExpected lane
      let packets := lineAnc f ln.line ln.words
      let s5 := (if extracts then s4.bumpBy (Reg.SDI_CNT_ANC_CSUM lane) (packets.countP fun p => p.bad) else s4).deembed lane f packets
      .next (srcs.foldl (fun a src => a.feedLine lane ln src) s5)
    else .next s4

/-- The format a frame's structure and payload ID give (R313): the structure decides; what it leaves open is resolved by the payload ID,
else by the expected values. -/
def sdiResolve (fits : List VFormat) (pid : Option VFormat) (expected : VFormat) : Option VFormat :=
  match fits with
  | [] => none
  | [f] => some f
  | f :: _ =>
    match pid with
    | some p => if fits.contains p then some p else if fits.contains expected then some expected else some f
    | none => if fits.contains expected then some expected else some f

/-- Payload ID of the last frame (R316): SDIn_PID_RX, PID_PRESENT, PID_CHANGED, and under REPORT and REQUIRE the mismatch and its
count. -/
def State.sdiPid (s : State) (l : Nat) (fr : SdiFrame) (bad : Bool) : State :=
  let v := BitVec.ofNat 32 (fr.pid.getD 0)
  let s1 := (s.wr (Reg.SDI_PID_RX l) v).wrBit (Reg.SDI_STATUS l) 28 fr.pid.isSome
  let s2 := if s.rd (Reg.SDI_PID_RX l) = v then s1 else s1.sdiEvent l 3
  if s.rdFld (Reg.SDI_RX_CFG l) 15 14 = 0 then s2
  else
    let s3 := s2.wrBit (Reg.SDI_STATUS l) 27 bad
    if bad then s3.bump (Reg.SDI_CNT_PID_ERR l) else s3

/-- The detected format of the last frame (R312, R314): SDIn_FORMAT, and MISMATCH with one count per change. -/
def State.sdiDetect (s : State) (l : Nat) (f : Option VFormat) (valid : Bool) : State :=
  match f with
  | none => s.wrBit (Reg.SDI_FORMAT l) 0 false
  | some f =>
    let s1 := s.wr (Reg.SDI_FORMAT l) (BitVec.ofNat 32 (formatWord f valid))
    let r := s.sdiRun l
    if f = s.sdiExpected l then (s1.wrBit (Reg.SDI_STATUS l) 29 false).setSdi l { r with mismatch := none }
    else
      let s2 := (s1.wrBit (Reg.SDI_STATUS l) 29 true).setSdi l { r with mismatch := some f }
      let s3 := if s.rdBit (Reg.SDI_STATUS l) 29 then s2 else s2.sdiEvent l 2
      if r.mismatch = some f then s3 else s3.bump (Reg.SDI_CNT_LOSS l)

/-- The measured link skew (R311). -/
def State.sdiSkew (s : State) (l skew : Nat) : State :=
  let r := Reg.SDI_STATUS l
  let s1 := (s.wrFld r 15 0 (min skew 65535)).wrBit r 26 (decide (1000 < skew))
  if 1000 < skew ∧ s.rdBit r 26 = false then s1.sdiEvent l 7 else s1

/-- SDI_READY (R312–R316): line 1 after a whole frame. The port becomes ready, or stays ready, if that frame met R314. -/
def execSdiReady (t lane : Nat) (fr : SdiFrame) (s0 : State) : Host.Outcome State Fault Refusal :=
  let s := s0.at t
  if s.sdiPort lane = false ∨ ((s.rxLanes lane).all fun i => s.rdBit (Reg.LAN_STATUS i) 31) = false then .next s
  else
    let expected := s.sdiExpected lane
    let f := sdiResolve fr.fits fr.pidFormat expected
    let pidBad := fr.pid.isNone || decide (fr.pidFormat ≠ some expected)
    let clean := fr.clean && !(s.sdiRun lane).bad
    let s1 := ((((s.wrBit (Reg.SDI_STATUS lane) 30 clean).sdiDetect lane f fr.rateOk).sdiPid lane fr pidBad).sdiSkew lane fr.skew)
    let ok := clean && fr.rateOk && decide (f = some expected) && decide (fr.skew ≤ 1000) && mapCarries expected &&
      !(s.rdFld (Reg.SDI_RX_CFG lane) 15 14 == 2 && pidBad)
    if ok then
      if s1.sdiIsReady lane then .next s1
      else .next ((((s1.wrBit (Reg.SDI_STATUS lane) 31 true).sdiEvent lane 1).inputReady (.sdi lane)).audioBack lane)
    else .next (s1.sdiLose lane)

/-- SDI_LOST (R315): cause 0 LOS on a lane of the port, 1 a bad line, 2 skew, 3 the payload ID under REQUIRE. -/
def execSdiLost (t lane cause : Nat) (s0 : State) : Host.Outcome State Fault Refusal :=
  let s := s0.at t
  if s.sdiPort lane && s.lossHolds lane cause then
    let s1 := if cause = 2 then
        (let a := s.wrBit (Reg.SDI_STATUS lane) 26 true; if s.rdBit (Reg.SDI_STATUS lane) 26 then a else a.sdiEvent lane 7)
      else if cause = 0 then s.wrBit (Reg.SDI_STATUS lane) 30 false else s
    .next ((s1.setSdi lane { s1.sdiRun lane with bad := true }).sdiLose lane)
  else .next s

/-! Paired inputs (R232, R233, R322, R323). -/

/-- A 32-bit count extended to the value nearest a 64-bit count (R232). -/
def extendNear (low near : Nat) : Nat :=
  let base := near / 4294967296 * 4294967296 + low
  let dist (x : Nat) : Nat := ((x : Int) - near).natAbs
  let up := base + 4294967296
  let down := base - 4294967296
  let best := if dist up < dist base then up else base
  if 4294967296 ≤ base ∧ dist down < dist best then down else best

/-- Is a copy's packet in order: present, checksum right, the configured PAIR_ID, the expected count (R322)? -/
def State.copyExpected (s : State) (l group : Nat) (p : Option (Nat × Bool × Nat)) : Bool :=
  match p with
  | none => false
  | some (count, sum, pairId) =>
    let f := extendNear count group
    sum && pairId == s.rdFld Reg.BOOT_SYSTEM_ID 29 16 &&
      (match (s.sdiRun l).lastCount with
        | some c => count == (c + 1) % 4294967296
        | none => decide (((f : Int) - group).natAbs ≤ 4))

/-- The count of a copy's frame that brought none is one above its frame before (R322). -/
def State.nextCopy (s : State) (l : Nat) : State :=
  s.setSdi l { s.sdiRun l with lastCount := (s.sdiRun l).lastCount.map fun n => (n + 1) % 4294967296 }

/-- Errors of one copy are counted in side A's page (R322); its count is remembered. A copy still being written when its frame becomes COMPLETE is
discarded, its errors uncounted (R323). -/
def State.countCopy (s : State) (lead l group : Nat) (c : PairCopy) : State :=
  if c.writing then s.nextCopy l
  else
    let good := s.copyExpected l group c.packet
    let s1 := if good then s else (s.bump (Reg.SDI_CNT_TSP_ERR lead)).sdiEvent lead 6
    let s2 := if c.digestOk then s1 else (s1.bump (Reg.SDI_CNT_DIGEST_ERR lead)).sdiEvent lead 6
    match c.packet with
    | some (n, true, _) =>
      let s3 := s2.setSdi l { s2.sdiRun l with lastCount := some n }
      if good then s3.wr (Reg.SDI_LAST_TSP_FRAME lead) (BitVec.ofNat 32 n) else s3
    | _ => s2.nextCopy l

/-- The chosen copy becomes the COMPLETE frame with write index w; the other copy's ring frame is free again. -/
def State.pairComplete (s : State) (i w : Nat) (useB : Bool) : State :=
  match s.streamCfg i with
  | none => s
  | some c =>
    let ka := i
    let kb := i + 16384
    let k := if useB then kb else ka
    match (s.stream k).opened with
    | none => s
    | some p =>
      let was := (Tab.get coldFrame (s.stream i).ring p).widx
      let s1 := if was = w then s else s.retagPlace c p w
      let y := s1.stream k
      let other := (s1.stream (if useB then ka else kb)).opened
      let x := s1.stream i
      let ring1 := match other with
        | some o => Tab.erase x.ring o
        | none => x.ring
      let q := y.qNow.foldl (fun m e => max m e.1) 0
      let s2 := s1.setStream i { x with
        ring := Tab.put coldFrame ring1 p ⟨w, true, true, (Tab.get coldFrame x.ring p).at_⟩, opened := none, broken := false, lossRun := 0, lost := false
        qLast := y.qNow, inexactLast := y.inexactNow, qmaxLast := q, qmaxHeld := max x.qmaxHeld q, widxLast := w }
      s2.setStream kb { s2.stream kb with opened := none, broken := false }

/-- PAIRED_FRAME_COMPLETE (R233, R323): side A's copy if good, else B's if good, else the one with fewer CRC-errored lines, A on a
tie. An interrupted copy never becomes COMPLETE (R117, R315). -/
def execPairedFrameComplete (t src : Nat) (a b : PairCopy) (s0 : State) : Host.Outcome State Fault Refusal :=
  let s := s0.at t
  match Tab.find? s.cfg.srcs src, s.streamCfg src with
  | some c, some sc =>
    match c.input, c.pairB with
    | .sdi la, some lb =>
      let group := (s.grp sc.readGroup).frame
      let good (l : Nat) (x : PairCopy) (k : Nat) : Bool :=
        !x.writing && s.copyExpected l group x.packet && x.digestOk && (s.sdiRun l).crcLines == 0 && !(s.stream k).broken &&
          (s.stream k).opened.isSome
      let ga := good la a src
      let gb := good lb b (src + 16384)
      let whole (k : Nat) : Bool := (s.stream k).opened.isSome && !(s.stream k).broken
      if !ga && (a.writing || b.writing) then .next s
      else if !whole src && !whole (src + 16384) then
        let s1 := (s.countCopy la la group a).countCopy la lb group b
        .next ((s1.setStream src { s1.stream src with opened := none, broken := false }).setStream (src + 16384)
          { s1.stream (src + 16384) with opened := none, broken := false })
      else
        let useB := !ga && (gb || !whole src || (whole (src + 16384) && decide ((s.sdiRun lb).crcLines < (s.sdiRun la).crcLines)))
        let chosen := if useB then b else a
        let w := match chosen.packet with
          | some (n, true, _) => extendNear n group
          | _ => s.newIndex src sc
        let s1 := (s.countCopy la la group a).countCopy la lb group b
        let s2 := s1.bump (if ga then Reg.SDI_CNT_PAIR_A la else if gb then Reg.SDI_CNT_PAIR_B la else Reg.SDI_CNT_PAIR_NONE la)
        .next ((s2.pairComplete src w useB).joinStored src)
    | _, _ => .next s
  | _, _ => .next s

end Sys2Proof.Machine
end

