-- ==== Sys2Proof/Machine/Comp.lean ====
section
/-! DEFINITION. Compositors and the lintel layer as they run: readiness, hold and fallback, the static cache, self-tests, decisions, the shown
mask (R147–R173, R414). -/
namespace Sys2Proof.Machine

/-- A compositor that has rendered nothing. -/
def coldCmp : CmpRun := ⟨4, false, false, false, false, 0, [], [], 0, [], [], [], [], [], none, [], []⟩

/-- A compositor's run. -/
def State.cmpRun (s : State) (c : Nat) : CmpRun := Tab.get coldCmp s.cmp c

/-- Replace a compositor's run. -/
def State.setCmp (s : State) (c : Nat) (x : CmpRun) : State := s.setCmps (Tab.put coldCmp s.cmp c x)

/-- Is a compositor fitted and declared by the image? -/
def State.cmpActive (s : State) (c : Nat) : Bool := decide (c < s.dev.variant.compositors) && s.rdBit (Reg.CMP_CFG c) 30

/-- The active compositors of a group. -/
def State.cmpsOf (s : State) (g : Nat) : List Nat := (List.range 64).filter fun c => s.cmpActive c && s.cmpGroup c == g

/-- Raster of a compositor: width, height (R147). -/
def State.cmpSize (s : State) (c : Nat) : Nat × Nat :=
  let r := s.rdFld (Reg.CMP_CFG c) 19 16
  if r = 0 then (1280, 720) else if r = 4 then (3840, 2160) else (1920, 1080)

/-- The layers of a compositor bottom first (R151). -/
def State.zOrder (s : State) (c : Nat) : List Nat :=
  (List.range 12).map fun p =>
    if p < 8 then s.rdFld (Reg.CMP_ZORDER_LO c) (4 * p + 3) (4 * p) else s.rdFld (Reg.CMP_ZORDER_HI c) (4 * (p - 8) + 3) (4 * (p - 8))

/-! The window rule (R72, R73). -/

/-- The window depth of a source id. -/
def State.depthOf (s : State) (src : Nat) : Nat :=
  match Tab.find? s.cfg.srcs src with
  | some c => s.windowDepth c
  | none => s.rdFld Reg.XPT_CFG 3 0

/-- Is a source in window for destinations of a group (R72, R73)? -/
def State.inWindow (s : State) (src g : Nat) : Bool :=
  let byLag : Bool := match Tab.find? s.xpt.lags (src * 16 + g) with
    | some l => decide (0 ≤ l.least) && decide (l.most + 131072 ≤ 65536 * (s.depthOf src : Int))
    | none => false
  if 4032 ≤ src then true
  else if 3968 ≤ src then s.cmpGroup (src - 3968) == g || byLag
  else match Tab.find? s.cfg.srcs src with
    | some c => (c.synced && c.readGroup == g) || byLag
    | none => byLag

/-- Is a layer fed by this source line-fed: an unsynchronised input or another compositor's output (R149)? -/
def State.lineFed (s : State) (src : Nat) : Bool :=
  if 4032 ≤ src then false
  else if 3968 ≤ src then true
  else match Tab.find? s.cfg.srcs src with
    | some c => !c.synced
    | none => true

/-- The video source of a layer input (R147). -/
def State.layerSrc (s : State) (c n : Nat) : Nat := (Tab.get idleRow s.xpt.vout (3584 + 8 * c + n)).srcV

/-! Verdicts (R163). -/

/-- The read start of frame F for a raster of so many lines at a group's output timing: 16 line periods before its line 1 (R117, R512). -/
def State.readStartAt (s : State) (g lines frame : Nat) : Int :=
  s.frameStart g frame + (s.rdFld (Reg.TG_OFFSET g) 25 0 : Nat) - (16 * s.framePeriod g / lines : Nat)

/-- The read start of a compositor's frame (R150). -/
def State.cmpReadStart (s : State) (c frame : Nat) : Int :=
  let r := s.rdFld (Reg.CMP_CFG c) 19 16
  s.readStartAt (s.cmpGroup c) (if r = 0 then 750 else if r = 4 then 2250 else 1125) frame

/-- What a store-fed layer of a frame reads of stream i: the place and its write index. A stream read in another group gives the frame whose read
start is the latest at or before the compositor frame's (R150). -/
def State.layerReads (s : State) (c frame i : Nat) : Option Nat × Option Nat :=
  let x := s.stream i
  let own : Bool := match s.streamCfg i with
    | some k => k.readGroup == s.cmpGroup c
    | none => true
  if own || decide ((x.readAt : Int) ≤ s.cmpReadStart c frame) then (x.reading, x.lastRead) else x.readBefore

/-- The write index that a store-fed layer of a frame is to read of stream i, at the decision instant (R150, R163): in the compositor's own group the choice
for that frame, by this device's own rule where none is made yet; else that of the read whose start is the latest at or before the frame's read start. -/
def State.layerChoice (s : State) (c frame i : Nat) : Option Nat :=
  let x := s.stream i
  match s.streamCfg i with
  | none => none
  | some k =>
    if k.readGroup = s.cmpGroup c then
      match x.chosen with
      | some (f, w) => if f = frame then w else (s.choose i).1
      | none => (s.choose i).1
    else match x.chosen with
      | some (f, w) => if s.readStartAt k.readGroup (rasterLines (s.tgFormat k.readGroup)) f ≤ s.cmpReadStart c frame then w else x.lastRead
      | none => x.lastRead

/-- Is the layer ready by this device's own view? `deciding`: at the decision instant of frame F; else by what it reads. -/
def State.ownReady (s : State) (deciding : Bool) (c frame src : Nat) : Bool :=
  if s.lineFed src then s.inWindow src (s.cmpGroup c)
  else if 4032 ≤ src then true
  else if deciding then (match s.layerChoice c frame src with
    | some v => ((s.stream src).placeOf v).isSome
    | none => false)
  else (s.layerReads c frame src).1.isSome

/-- The visible video layers of a compositor. -/
def State.visibleV (s : State) (c : Nat) : List Nat := (List.range 8).filter fun n => s.rdBit (Reg.CMPL_CTRL c n) 31

/-- The verdicts of a compositor for a frame are fixed. -/
def State.decideCmp (frame : Nat) (s : State) (c : Nat) : State :=
  s.setCmp c { s.cmpRun c with
    verdicts := (s.visibleV c).map fun n => (n, frame, !s.ownReady true c frame (s.layerSrc c n)) }

/-- The decision records of a compositor's verdicts (R222). -/
def State.verdictRecs (s : State) (g frame c : Nat) : List DecisionRec :=
  (s.cmpRun c).verdicts.map fun v => ⟨2, g, 16 * c + v.1, frame, b2n v.2.2⟩

/-- The input rings read in a group (R118). -/
def State.ringsOf (s : State) (g : Nat) : List Nat :=
  (s.cfg.streams.filter fun e => decide (e.1 < 4096) && e.2.readGroup == g).map fun e => e.1

/-- Send decision records to the peer, 160 a message at most (R119, R222). -/
def State.sendDecisions (s : State) : Nat → List DecisionRec → State
  | 0, _ => s
  | fuel + 1, rs =>
    if rs.isEmpty then s
    else State.sendDecisions (s.sendWall (.decision (rs.take 160))) fuel (rs.drop 160)

/-- DECISION_INSTANT (R118, R163): of frame F of a group, by a device that decides; a follower has its own verdicts at hand. A frame that
completes in the same instant counts before it (R118, R324). -/
def execDecisionInstant (t g frame : Nat) (s0 : State) : Host.Outcome State Fault Refusal :=
  let s := s0.at t
  if s.tgUsed g = false then .next s
  else
    let rings := s.ringsOf g
    let cmps := s.cmpsOf g
    let early := rings.filter s.completesNow
    let s0 := early.foldl State.completeFrame s
    let s1 := if s.decides then rings.foldl (fun a i => a.decideStream i frame) s0 else s0
    let s2 := early.foldl (fun a i => a.setStream i { a.stream i with opened := (s.stream i).opened, ring := (s.stream i).ring })
      (cmps.foldl (State.decideCmp frame) s1)
    if s2.tellsPeer then
      let recs := rings.map (fun i => s2.streamDecision i frame g) ++ cmps.flatMap (s2.verdictRecs g frame)
      .next (s2.sendDecisions recs.length recs)
    else .next s2

/-- The verdict that applies to a layer at the frame (R163): a follower takes the keyholder's, and counts VERDICT_MISSED where none is
held. -/
def State.verdictFor (s : State) (c n frame : Nat) : State × Bool :=
  let own : Bool := match Tab.find? (s.cmpRun c).verdicts n with
    | some v => if v.1 = frame then !v.2 else s.ownReady false c frame (s.layerSrc c n)
    | none => s.ownReady false c frame (s.layerSrc c n)
  if s.decides then (s, own)
  else match s.twn.decisions.find? fun d => d.kind == 2 && d.index == 16 * c + n && d.at_ == frame with
    | some d => (s, d.value == 0)
    | none => ((s.bump (Reg.CMP_CNT_VERDICT_MISSED c)).noteLocal (8192 + 16 * c + n), own)

/-! Pictures of layers. -/

/-- Fetch the tiles of a list of tile numbers, in order. -/
def State.fetchWith (f : State → Nat → State × List (List Nat)) : State → List Nat → State × Tab (List (List Nat))
  | s, [] => (s, [])
  | s, k :: ks =>
    let r := f s k
    let q := State.fetchWith f r.1 ks
    (q.1, (k, r.2) :: q.2)

/-- The numbers of the tiles that columns x0 … x1 − 1 and rows y0 … y1 − 1 touch, rising. -/
def tilesIn (across x0 x1 y0 y1 : Nat) : List Nat :=
  if x1 ≤ x0 ∨ y1 ≤ y0 then []
  else (List.range ((y1 + 7) / 8 - y0 / 8)).flatMap fun j =>
    (List.range ((x1 + 31) / 32 - x0 / 32)).map fun i => (y0 / 8 + j) * across + x0 / 32 + i

/-- Content in slots from an address: the tiles of a whole w × h picture. -/
def State.contentPic (s : State) (c : StreamCfg) (base w h : Nat) : State × Pic :=
  let across := (w + 31) / 32
  let r := State.fetchWith (fun a k => a.useContent c (base + k * slotBytes c.stored c.code)) s (tilesIn across 0 w 0 h)
  (r.1, .tiles c.stored w h across r.2)

/-- The columns and rows of its source that the visible part of a compositor's video layer needs (R153): x0, x1, y0, y1. -/
def State.layerSpan (s : State) (c n : Nat) : Nat × Nat × Nat × Nat :=
  let xy := s.rd (Reg.CMPL_CROP_XY c n)
  let wh := s.rd (Reg.CMPL_CROP_WH c n)
  let sz := s.rd (Reg.CMPL_SIZE c n)
  let pos := s.rd (Reg.CMPL_POS c n)
  let plain := fld wh 15 0 == fld sz 15 0 && fld wh 31 16 == fld sz 31 16
  let xs := sourceSpan plain (fld xy 15 0) (fld wh 15 0) (fld sz 15 0) (toSigned 16 (fld pos 15 0)) (s.cmpSize c).1 3 4
  let ys := sourceSpan plain (fld xy 31 16) (fld wh 31 16) (fld sz 31 16) (toSigned 16 (fld pos 31 16)) (s.cmpSize c).2 2 3
  (xs.1, xs.2, ys.1, ys.2)

/-- The picture of a stored stream's place, in the area that a layer's visible part needs. With 4:2:2 an odd last column needs the chroma of the next
(R151). -/
def State.storePic (s : State) (i place : Nat) (span : Nat × Nat × Nat × Nat) : State × Pic :=
  match s.streamCfg i, Tab.find? s.cfg.srcs i with
  | some c, some sc =>
    let sz := rasterSize sc.fmt.raster
    let across := tilesAcross sc.fmt.raster
    let x := s.stream i
    let prev := if x.reading = some place then x.prev else none
    let x1 := if c.stored = 0 ∧ span.2.1 % 2 = 0 ∧ span.1 < span.2.1 then span.2.1 + 1 else span.2.1
    let r := State.fetchWith (fun a k => a.useTile i c place prev k) s
      (tilesIn across (min span.1 sz.1) (min x1 sz.1) (min span.2.2.1 sz.2) (min span.2.2.2 sz.2))
    (r.1, .tiles c.stored sz.1 sz.2 across r.2)
  | _, _ => (s, .black 0 0)

/-- The picture of a line-fed source: its rows come through the line exchange. -/
def State.fedPic (s : State) (src : Nat) : Pic :=
  if 3968 ≤ src then
    let sz := s.cmpSize (src - 3968)
    .fed src (s.rdFld (Reg.CMP_CFG (src - 3968)) 27 26) sz.1 sz.2
  else match Tab.find? s.cfg.srcs src with
    | some c => .fed src c.fmt.sampling (rasterSize c.fmt.raster).1 (rasterSize c.fmt.raster).2
    | none => .black 0 0

/-- The picture of an internal generator in a compositor's raster (R96). -/
def State.generatorPic (s : State) (c src : Nat) : State × Pic :=
  let sz := s.cmpSize c
  if 4036 ≤ src ∧ src < 4052 then
    match Tab.find? s.cfg.slates (src - 4036) with
    | some k => s.contentPic k.content k.content.base k.width k.height
    | none => (s, .black sz.1 sz.2)
  else if src = 4033 ∨ src = 4034 ∨ src = 4035 ∨ src = 4052 then
    (s, .gen src sz.1 sz.2 (twoFields (s.rdFld (Reg.CMP_CFG c) 19 16 + 2)))
  else (s, .black sz.1 sz.2)

/-! Hold and fallback (R164). -/

/-- A stream pins or releases the frame a layer holds. -/
def State.pinLayer (s : State) (i key : Nat) (w : Option Nat) : State :=
  let x := s.stream i
  let rest := x.pins.filter fun e => e.1 != key
  s.setStream i { x with pins := match w with
    | some v => (key, v) :: rest
    | none => rest }

/-- CMP_Ln_STATE: READY, HOLDING, FALLBACK_SHOWN, frames held. -/
def State.setLayerState (s : State) (c n : Nat) (ready holding fallback : Bool) (held : Nat) : State :=
  s.wr (Reg.CMPL_STATE c n) (BitVec.ofNat 32
    (b2n ready * 2147483648 + b2n holding * 1073741824 + b2n fallback * 536870912 + held % 16 * 16777216))

/-- What a layer shows: the picture of a place of a stream, a picture, black over its area, or nothing. -/
inductive Shown where
  | place (i p : Nat)
  | whole (src : Nat)
  | solid
  | nothing
  deriving DecidableEq, Repr

/-- A layer that is ready: its hold ends and its pin is released. -/
def State.layerReady (s : State) (c n frame src : Nat) : State × Shown :=
  let key := 16 * c + n
  let x := s.cmpRun c
  let s1 := (s.pinLayer src key none).setLayerState c n true false false 0
  let s2 := s1.wrBit (Reg.CMP_STATUS c) n false
  if src < 3968 ∧ s.lineFed src = false then
    let r := s.layerReads c frame src
    let s3 := s2.setCmp c { x with pinned := Tab.erase x.pinned n, good := match r.2 with
      | some w => Tab.insert (Tab.erase x.good n) n w
      | none => x.good }
    (s3, match r.1 with
      | some p => .place src p
      | none => .whole 4032)
  else (s2.setCmp c { x with pinned := Tab.erase x.pinned n, good := Tab.erase x.good n }, .whole src)

/-- What a layer that holds or falls back shows while its pinned frame is in the ring; black, with PIN_LOST, once the writer has overwritten it. -/
def State.showPinned (s : State) (c src w : Nat) (f : Nat → Shown) : State × Shown :=
  match (s.stream src).placeOf w with
  | some p => (s, f p)
  | none => (s.cmpEvent c 3, .solid)

/-- A layer that is not ready (R164): LAYER_LATE, its event and count; hold, then fallback. A line-fed layer shows its fallback at once, and
freeze acts as black. -/
def State.layerLate (s : State) (c n src : Nat) : State × Shown :=
  let key := 16 * c + n
  let ctrl := s.rd (Reg.CMPL_CTRL c n)
  let fb := fld ctrl 23 22
  let s1 := (((s.wrBit (Reg.CMP_STATUS c) n true).bump (Reg.CMP_CNT_LATE c)).cmpEvent c 0)
  if s.lineFed src then
    (s1.setLayerState c n false false true 0, if fb = 0 then .nothing else .solid)
  else
    let held := s.rdFld (Reg.CMPL_STATE c n) 27 24
    let x := s.cmpRun c
    match Tab.find? x.good n with
    | none => (s1.setLayerState c n false false true held, if fb = 0 then .nothing else .solid)
    | some w =>
      let s2 := (s1.pinLayer src key (some w)).setCmp c { x with pinned := Tab.insert (Tab.erase x.pinned n) n w }
      if held < fld ctrl 19 16 then (s2.setLayerState c n false true false (held + 1)).showPinned c src w (.place src)
      else (s2.setLayerState c n false false true held).showPinned c src w fun p =>
        if fb = 0 then .nothing else if fb = 1 then .solid else .place src p

/-- The source of a layer changed since its last frame: what was held of the old source is dropped. -/
def State.layerTurned (s : State) (c n src : Nat) : State :=
  let x := s.cmpRun c
  if Tab.find? x.shown n = some src then s
  else
    let s1 := match Tab.find? x.shown n with
      | some old => s.pinLayer old (16 * c + n) none
      | none => s
    let s2 := s1.setCmp c { x with
      shown := Tab.insert (Tab.erase x.shown n) n src, good := Tab.erase x.good n, pinned := Tab.erase x.pinned n }
    (s2.wrBit (Reg.CMPL_CTRL c n) 27 (s2.lineFed src)).wrFld (Reg.CMPL_STATE c n) 27 24 0

/-- The painted form of a video layer (R153–R161). -/
def State.videoPaint (s : State) (c n : Nat) (p : Pic) : Layer :=
  let xy := s.rd (Reg.CMPL_CROP_XY c n)
  let wh := s.rd (Reg.CMPL_CROP_WH c n)
  let sz := s.rd (Reg.CMPL_SIZE c n)
  let pos := s.rd (Reg.CMPL_POS c n)
  let tone := s.rd (Reg.CMPL_TONE c n)
  ⟨.video p (fld xy 15 0) (fld xy 31 16) (fld wh 15 0) (fld wh 31 16) (fld sz 15 0) (fld sz 31 16)
      (if bit tone 31 then some (toneOf s.tables (fld tone 19 16) (fld tone 15 8) (fld tone 7 0)) else none),
    toSigned 16 (fld pos 15 0), toSigned 16 (fld pos 31 16), s.rdFld (Reg.CMPL_CTRL c n) 9 0⟩

/-- A video layer of a frame: its verdict, what it shows, and the layer to paint. -/
def State.videoLayer (s : State) (c n frame : Nat) : State × List Layer :=
  let src := s.layerSrc c n
  let s0 := s.layerTurned c n src
  let v := s0.verdictFor c n frame
  let r := if v.2 then v.1.layerReady c n frame src else v.1.layerLate c n src
  match r.2 with
  | .nothing => (r.1, [])
  | .solid =>
    let l := r.1.videoPaint c n (.black 0 0)
    (r.1, [{ l with paint := .solid (s0.rdFld (Reg.CMPL_SIZE c n) 15 0) (s0.rdFld (Reg.CMPL_SIZE c n) 31 16) }])
  | .place i p =>
    let q := r.1.storePic i p (r.1.layerSpan c n)
    (q.1, [q.1.videoPaint c n q.2])
  | .whole k =>
    if s0.lineFed k then (r.1, [r.1.videoPaint c n (r.1.fedPic k)])
    else
      let q := r.1.generatorPic c k
      (q.1, [q.1.videoPaint c n q.2])

/-- A graphic layer n = 8–11 of a frame (R156). -/
def State.graphicLayer (s : State) (c n : Nat) : State × List Layer :=
  match s.streamCfg (8192 + 4 * c + (n - 8)) with
  | none => (s, [])
  | some k =>
    let wh := s.rd (Reg.CMPL_CROP_WH c n)
    let pos := s.rd (Reg.CMPL_POS c n)
    let ctrl := s.rd (Reg.CMPL_CTRL c n)
    let q := s.contentPic k (32 * (s.rd (Reg.CMPL_GADDR c n)).toNat) (fld wh 15 0) (fld wh 31 16)
    let substituted := decide (q.1.rd Reg.FST_CNT_SUBST_BLACK ≠ s.rd Reg.FST_CNT_SUBST_BLACK)
    (if substituted then q.1.noteLocal (8192 + 16 * c + n) else q.1, [⟨.graphics q.2 (fld wh 15 0) (fld wh 31 16) (bit ctrl 29),
      toSigned 16 (fld pos 15 0), toSigned 16 (fld pos 31 16), fld ctrl 9 0⟩])

/-! The static set and its cache (R157, R158). -/

/-- The static set of a compositor, in z-order. -/
def State.staticSet (s : State) (c : Nat) : List Nat :=
  (s.zOrder c).filter fun n => decide (8 ≤ n) && s.rdBit (Reg.CMPL_CTRL c n) 30

/-- What a rebuild depends on (R158). -/
def State.staticKey (s : State) (c : Nat) : List (Nat × Word × Word × Word × Word) :=
  (s.staticSet c).map fun n =>
    (n, s.rd (Reg.CMPL_GADDR c n), s.rd (Reg.CMPL_CROP_WH c n), s.rd (Reg.CMPL_POS c n), s.rd (Reg.CMPL_CTRL c n))

/-- Does a layer that is not static lie between two static ones? -/
def State.staticSplit (s : State) (c : Nat) : Bool :=
  let fl := (s.zOrder c).map fun n => decide (8 ≤ n) && s.rdBit (Reg.CMPL_CTRL c n) 30
  let inner := ((fl.dropWhile (fun b => !b)).reverse).dropWhile fun b => !b
  inner.any fun b => !b

/-- The visible static layers as they are painted, bottom first. -/
def State.staticLayers (s : State) (c : Nat) : State × List Layer :=
  ((s.staticSet c).filter fun n => s.rdBit (Reg.CMPL_CTRL c n) 31).foldl (fun r n =>
    let q := r.1.graphicLayer c n
    (q.1, r.2 ++ q.2)) (s, [])

/-- Where cache buffer b of compositor c lies. -/
def cacheBase (k : StreamCfg) (b : Nat) : Nat := k.base + b * k.tiles * slotBytes k.stored k.code

/-- The flattened plane is coded and written into a buffer of the cache stream. -/
def State.writeCache (s : State) (c b : Nat) (ls : List Layer) : State :=
  match s.streamCfg (8448 + c) with
  | none => s
  | some k =>
    let across := ((s.cmpSize c).1 + 31) / 32
    (List.range k.tiles).foldl (fun a i =>
      a.dramPut (cacheBase k b + i * slotBytes k.stored k.code)
        (slotOf (codeTile k.stored k.code (flattenTile ls (i % across) (i / across))) 65535)) s

/-- CACHE_REBUILD (R158): the new buffer is written; it goes on air at the next headland. The rebuild of a joining device lies outside the count of
R158 (R239). -/
def execCacheRebuild (t c : Nat) (s0 : State) : Host.Outcome State Fault Refusal :=
  let s := s0.at t
  let x := s.cmpRun c
  if s.cmpActive c && x.change && decide (4 ≤ x.since) then
    let q := s.staticLayers c
    let s1 := q.1.writeCache c (1 - x.buffer % 2) q.2
    let s2 := s1.setCmp c { s1.cmpRun c with since := 0, change := false, building := true, fresh := true, buildSet := s.staticSet c }
    .next ((s2.bump (Reg.CMP_CNT_REBUILD c)).wrBit (Reg.CMP_STATUS c) 30 true)
  else if s.cmpActive c && s.twn.join.toRebuild.contains c && !x.fresh then
    let q := s.staticLayers c
    let s1 := q.1.writeCache c (1 - x.buffer % 2) q.2
    .next (s1.setCmp c { s1.cmpRun c with fresh := true, buildSet := s.staticSet c })
  else .next s

/-- A compositor's cache at a headland (R157, R158): the new buffer goes on air, the frame counts, STATIC_SPLIT and CACHE_IN_USE follow. A change of
the static set against `key` is gathered, and so is a set that the image declared, and the end of a split: what a split left in the buffers is not used. -/
def State.cacheHeadland (s : State) (c : Nat) (key : List (Nat × Word × Word × Word × Word)) : State :=
  let x := s.cmpRun c
  let changed := decide (s.staticKey c ≠ key)
  let split := s.staticSplit c
  let valid := (x.valid || x.fresh) && !split
  let y := { x with
    since := min 4 (x.since + 1), building := false, fresh := false
    change := x.change || changed || (!(s.staticSet c).isEmpty && !split && !valid)
    buffer := if x.fresh then 1 - x.buffer % 2 else x.buffer
    airSet := if x.fresh then x.buildSet else x.airSet
    valid := valid }
  let used := !y.airSet.isEmpty && y.valid
  let s1 := (((s.setCmp c y).wrBit (Reg.CMP_STATUS c) 30 false).wrBit (Reg.CMP_STATUS c) 29 used).wrBit (Reg.CMP_STATUS c) 28 split
  let s2 := if x.fresh then (s1.setTwn { s1.twn with join := { s1.twn.join with
    toRebuild := s1.twn.join.toRebuild.filter fun k => k != c } }) else s1
  if split && !s.rdBit (Reg.CMP_STATUS c) 28 then s2.cmpEvent c 4 else s2

/-! The lintel layer (R166–R170). -/

/-- The mask of this device's own pin. -/
def State.pinMaskNow (s : State) : Nat := if s.lin.pinLevel then s.cfg.pinMask else 0

/-- The shown mask (R168, R170): a follower shows its own pin mask and the keyholder's decided mask. -/
def State.lintelMask (s : State) : Nat :=
  if s.decides then Nat.lor s.pinMaskNow s.lin.msgMask else Nat.lor s.pinMaskNow s.lin.decided

/-- The content of every slot: the image's and the loaded (R166). -/
def State.lintelSlots (s : State) : Tab LintelMsg :=
  s.lin.loaded.foldl (fun t e => Tab.insert (Tab.erase t e.1) e.1 e.2) s.cfg.lintelSlots

/-- The groups of the bound compositors. -/
def State.boundGroups (s : State) : List Nat :=
  (List.range 16).filter fun g => (s.cmpsOf g).any fun c => s.rdBit (Reg.CMP_CFG c) 31

/-- What the lintel layer is to show from a headland (group, frame) on, as masks and slots stand now. -/
def State.lintelDue (s : State) (e : Nat × Nat) : LintelDue := ⟨e.1, e.2, s.pinMaskNow, s.lin.msgMask, s.lintelSlots⟩

/-- A change of the shown mask or of a shown slot waits for the first headland of each bound compositor's group whose latch instant follows now
(R169); the keyholder sends it as a DECISION (R170). -/
def State.lintelChange (s : State) : State :=
  let due := s.boundGroups.map fun g => s.lintelDue (g, s.headlandAt g (s.deviceTime : Int))
  let s1 := s.setLin { s.lin with due := s.lin.due ++ due }
  if s1.tellsPeer then
    let recs : List DecisionRec := due.map fun e => ⟨4, e.tg, 0, e.frame, s1.lintelMask⟩
    s1.sendDecisions recs.length recs
  else s1

/-- LINTEL_ARM_EDGE (R168): qualification starts. -/
def execLintelArmEdge (t : Nat) (level : Bool) (s0 : State) : Host.Outcome State Fault Refusal :=
  let s := s0.at t
  if s.pins.lintelArm = level then .next s
  else .next ((s.setPins { s.pins with lintelArm := level }).setLin { s.lin with pinEdge := s.now })

/-- LINTEL_PIN_QUALIFIED (R61, R168): the level has been stable for 100 µs. JOIN latches it, to be shown at completion; the modes before and beside service
do not take it. -/
def execLintelPinQualified (t : Nat) (s0 : State) : Host.Outcome State Fault Refusal :=
  let s := s0.at t
  if decide (s.lin.pinEdge + 100000 ≤ s.now) && s.pins.lintelArm != s.lin.pinLevel && decide (0 < s.dev.variant.compositors) then
    match s.ctl.mode with
    | .service => .next (s.setLin { s.lin with pinLevel := s.pins.lintelArm }).lintelChange
    | .join => .next (s.setLin { s.lin with pinLevel := s.pins.lintelArm, latched := !s.lin.latched })
    | _ => .next s
  else .next s

/-- The mask that a group shows at a headland (R168, R170): pin and MSG_MASK as the change at hand has them; on a follower the keyholder's decided mask in
place of MSG_MASK where a decision is held, beside it where none is. -/
def State.lintelShows (s : State) (held : Option Nat) (pin msg : Nat) : Nat :=
  if s.decides then Nat.lor pin msg
  else match held with
    | some m => Nat.lor pin m
    | none => Nat.lor pin (Nat.lor msg s.lin.decided)

/-- The lintel changes due in a group go on air at the headland of frame F (R169, R170): the last change that the frame takes in, with the content it
brought. -/
def State.lintelHeadland (s : State) (g frame : Nat) : State :=
  let mine := s.lin.due.filter fun e => e.tg == g && decide (e.frame ≤ frame)
  let held := s.lin.held.filter fun e => e.1 == g && decide (e.2.1 ≤ frame)
  if mine.isEmpty && held.isEmpty then s
  else
    let d := mine.getLast?
    let said := held.getLast?.map fun e => e.2.2
    let pin := match d with
      | some e => e.pin
      | none => Tab.get 0 s.lin.airPin g
    let slots := match d with
      | some e => e.slots
      | none => (Tab.find? s.lin.airSlots g).getD s.lintelSlots
    let mask := s.lintelShows said pin (match d with
      | some e => e.msg
      | none => s.lin.msgMask)
    let old := Tab.get 0 s.lin.airMask g
    let shownOf (t : Tab LintelMsg) (m : Nat) : Tab LintelMsg := t.filter fun e => m.testBit e.1
    let changed := decide (mask ≠ old) || decide (shownOf (Tab.get [] s.lin.airSlots g) old ≠ shownOf slots mask)
    let s1 := s.setLin { s.lin with
      due := s.lin.due.filter fun e => !(e.tg == g && decide (e.frame ≤ frame))
      held := s.lin.held.filter fun e => !(e.1 == g && decide (e.2.1 ≤ frame))
      decided := said.getD s.lin.decided, airMask := Tab.put 0 s.lin.airMask g mask, airPin := Tab.put 0 s.lin.airPin g pin
      airSlots := Tab.put [] s.lin.airSlots g slots }
    (s1.cmpsOf g).foldl (fun a c =>
      if a.rdBit (Reg.CMP_CFG c) 31 then
        let b := a.wrBit (Reg.CMP_STATUS c) 31 (mask != 0)
        if changed then b.cmpEvent c 5 else b
      else a) s1

/-- The lintel messages on air on a compositor, in slot order (R167). -/
def State.lintelPaints (s : State) (c g : Nat) : State × List LintelPaint :=
  if s.rdBit (Reg.CMP_CFG c) 31 = false then (s, [])
  else
    let mask := Tab.get 0 s.lin.airMask g
    ((Tab.get [] s.lin.airSlots g).filter fun e => mask.testBit e.1).foldl (fun r e =>
      match e.2 with
      | .text m => (r.1, r.2 ++ [.text m])
      | .bitmap base x y w h premult =>
        let k : StreamCfg := ⟨0, 3, true, 0, base, 1, 0, 0, 0, 0, 0⟩
        let q := r.1.contentPic k base w h
        (q.1, r.2 ++ [.bitmap ⟨.graphics q.2 w h premult, (x : Int), (y : Int), 1023⟩])) (s, [])

/-! A frame. -/

/-- The layers of a compositor's frame, bottom first. With the cache in use the layers flattened in the buffer on air are one plane, at their lowest
position. -/
def State.layersOf (s : State) (c frame : Nat) : State × List Layer :=
  let flat := if s.rdBit (Reg.CMP_STATUS c) 29 then (s.zOrder c).filter (s.cmpRun c).airSet.contains else []
  (s.zOrder c).foldl (fun r n =>
    if flat.contains n then
      if flat.head? = some n then
        match r.1.streamCfg (8448 + c) with
        | some k =>
          let sz := r.1.cmpSize c
          let q := r.1.contentPic k (cacheBase k ((r.1.cmpRun c).buffer % 2)) sz.1 sz.2
          (q.1, r.2 ++ [⟨.graphics q.2 sz.1 sz.2 true, 0, 0, 1023⟩])
        | none => r
      else r
    else if r.1.rdBit (Reg.CMPL_CTRL c n) 31 = false then
      if n < 8 then ((r.1.setLayerState c n false false false 0).wrBit (Reg.CMP_STATUS c) n false, r.2) else r
    else
      let q := if n < 8 then r.1.videoLayer c n frame else r.1.graphicLayer c n
      (q.1, r.2 ++ q.2)) (s, [])

/-- The background in the blend space. -/
def State.cmpBg (s : State) (c : Nat) : List Int :=
  let w := s.rd (Reg.CMP_BG c)
  [((4 * fld w 29 20 : Nat) : Int), ((4 * fld w 19 10 : Nat) : Int), ((4 * fld w 9 0 : Nat) : Int)]

/-- The font of the image. -/
def State.font (s : State) : Font := ⟨s.cfg.glyphW, s.cfg.glyphH, s.cfg.font, s.cfg.substGlyph⟩

/-- A compositor takes up a frame at its group's switch point, which lies above the first active line: its layers and lintel messages are fixed, and
the pictures of its store-fed layers fetched. -/
def State.renderCmp (frame : Nat) (s : State) (c : Nat) : State :=
  let r := s.layersOf c frame
  let q := r.1.lintelPaints c (r.1.cmpGroup c)
  q.1.setCmp c { q.1.cmpRun c with frame := some frame, layers := r.2, lintel := q.2 }

/-- A layer with the rows of a line-fed source that row y needs: its vertical mapping is the identity (R149), and the filter spans six rows (R154). -/
def feedLayer (row : Nat → Nat → List Nat) (y : Nat) (l : Layer) : Layer :=
  match l.paint with
  | .video (.fed src smp w h) cx cy cw ch ow oh tone =>
    let near := (List.range 6).foldl (fun t k => Tab.put [] t (y + k - 2) (row src (y + k - 2))) []
    { l with paint := .video (.rows smp w h near) cx cy cw ch ow oh tone }
  | _ => l

/-- Row y of a compositor's picture (R148), as its output carries it: the row of a line-fed layer's source is the last that came, and that of another
compositor is composed in turn. -/
def State.cmpRow (s : State) : Nat → Nat → Nat → List Nat
  | 0, _, _ => []
  | fuel + 1, c, y =>
    let x := s.cmpRun c
    let sz := s.cmpSize c
    let row (src r : Nat) : List Nat := if 3968 ≤ src then State.cmpRow s fuel (src - 3968) r else Tab.get [] s.rows (src * 8192 + r)
    renderRow s.tables c (s.rdFld (Reg.CMP_CFG c) 27 26) sz.1 sz.2 s.font (s.cmpBg c) (x.layers.map (feedLayer row y)) x.lintel y

/-! Self-tests (R414). -/

/-- A unit fails a self-test. -/
def State.selftestFail (s : State) (source code : Nat) : State := s.raise source 0x09 code 3

/-- GOLDEN_TILE_TEST (R414): `ok` says whether the digest of the tile equals the constant in ROM. -/
def execGoldenTileTest (t c : Nat) (ok : Bool) (s0 : State) : Host.Outcome State Fault Refusal :=
  let s := s0.at t
  if s.cmpActive c = false then .next s
  else
    let x := s.cmpRun c
    if ok then .next (s.setCmp c { x with misses := 0 })
    else
      let s1 := s.setCmp c { x with misses := x.misses + 1 }
      if x.misses = 0 then .next (s1.raise (0x040 + c) 0x0A ((s1.grp (s1.cmpGroup c)).frame) 1)
      else .next (s1.selftestFail (0x040 + c) 1)

/-- SRAM_BIST_CHUNK (R414): a chunk of the line exchange (resource 75) or of the line buffers of compositor c's invisible layers (resource 76); `ok`
says whether March C− found no fault. Admitted on its resource as activity 8. -/
def execSramBistChunk (t res c : Nat) (ok : Bool) (s0 : State) : Host.Outcome State Fault Refusal :=
  let s := s0.at t
  if (res = 75 ∨ (res = 76 ∧ c < s.dev.variant.compositors)) ∧ s.resPresent res = true then
    let verdict (a : State) : State :=
      if ok then a else if res = 75 then a.selftestFail 0x011 2 else a.selftestFail (0x040 + c) 3
    match (s.res res).running with
    | none => .next (verdict s)
    | some a => if a = ⟨8, c⟩ then .next ((verdict s).mntDone res) else .next (s.mntRequest res ⟨8, c⟩).1
  else .next s

end Sys2Proof.Machine
end

