-- ==== Sys2Proof/Machine/Media.lean ====
section
/-! DEFINITION. Media flows: acceptance and placement of packets, deadlines, readiness, transmit packets, multicast reports
(R339–R361). -/
namespace Sys2Proof.Machine

/-- A path that has accepted nothing. -/
def coldPath : PathRun := ⟨none, none, none⟩

/-- A receive context that has received nothing. -/
def coldRx : RxRun :=
  ⟨coldPath, coldPath, [], [], [], none, false, false, none, none, 0, 0, false, 0, 0, 0, 0, 0, [], []⟩

/-- A transmit context that has sent nothing. -/
def coldTx : TxRun := ⟨0, 0, 0, []⟩

/-- A receive context. -/
def State.rxc (s : State) (n : Nat) : RxRun := Tab.get coldRx s.med.rx n

/-- Replace a receive context. -/
def State.setRxc (s : State) (n : Nat) (x : RxRun) : State := s.setMed { s.med with rx := Tab.put coldRx s.med.rx n x }

/-- A transmit context. -/
def State.txc (s : State) (n : Nat) : TxRun := Tab.get coldTx s.med.tx n

/-- Replace a transmit context. -/
def State.setTxc (s : State) (n : Nat) (x : TxRun) : State := s.setMed { s.med with tx := Tab.put coldTx s.med.tx n x }

/-- Essence of a receive context: 0 -20, 1 -30, 2 -31, 3 -40. -/
def State.rxEssence (s : State) (n : Nat) : Nat := s.rdFld (Reg.RXC_CFG n) 30 28

/-- Is a receive context enabled and without CFG_BAD (R341)? -/
def State.rxUsed (s : State) (n : Nat) : Bool :=
  decide (n < 8192) && s.rdBit (Reg.RXC_CFG n) 31 && !s.rdBit (Reg.RXC_STATUS n) 27

/-- Does a context use the line-exchange path (R340)? -/
def State.rxLineExchange (s : State) (n : Nat) : Bool := s.rdBit (Reg.RXC_CFG n) 27

/-- Is the link of a port up? -/
def State.portUp (s : State) (p : Nat) : Bool := s.rdBit (Reg.MAC_STATUS p) 31

/-! Pixel groups (R342). -/

/-- Bytes and pixels of a pixel group by sampling code. -/
def pixelGroup (sampling : Nat) : Nat × Nat := if sampling = 0 then (5, 2) else if sampling = 1 then (15, 4) else (9, 2)

/-- Samples of three components in turn, each triple taken in the order i, j, k. -/
def turnTriples (i j k : Nat) : Nat → List Nat → List Nat
  | 0, _ => []
  | fuel + 1, xs => if xs.isEmpty then [] else [xs.getD i 0, xs.getD j 0, xs.getD k 0] ++ turnTriples i j k fuel (xs.drop 3)

/-- The carried order Y Cb Cr of 4:4:4 samples that ST 2110-20 orders Cb Y Cr; 4:2:2 has the same order in both. -/
def inCarried (sampling : Nat) (xs : List Nat) : List Nat := if sampling = 0 then xs else turnTriples 1 0 2 xs.length xs

/-- The samples of a pixel group's bytes, in the order of ST 2110-20. -/
def groupSamples (sampling : Nat) (bs : List Byte) : List Nat :=
  let bits := bs.flatMap fun b => bitsOf 8 b.toNat
  let w := if sampling = 2 then 12 else 10
  (List.range (bits.length / w)).map fun i => ((bits.drop (w * i)).take w).foldl (fun a b => 2 * a + b2n b) 0

/-- The bytes of a black pixel group. -/
def blackGroup (sampling : Nat) : List Byte :=
  let w := if sampling = 2 then 12 else 10
  let (y, c) := if sampling = 2 then (256, 2048) else (64, 512)
  let xs := if sampling = 0 then [c, y, c, y]
    else (List.range (pixelGroup sampling).2).flatMap fun _ => [c, y, c]
  packBits (pixelGroup sampling).1 (xs.flatMap (bitsOf w))

/-! RTP (R349). -/

/-- An RTP packet: payload type, marker, sequence number, timestamp, SSRC, payload. -/
structure Rtp where
  pt : Nat
  marker : Bool
  seq : Nat
  ts : Nat
  ssrc : Nat
  payload : List Byte
  deriving DecidableEq, Repr

/-- Read an RTP packet. -/
def readRtp (bs : List Byte) : Option Rtp :=
  let b0 := (bs.getD 0 0).toNat
  let b1 := (bs.getD 1 0).toNat
  let h := 12 + 4 * (b0 % 16)
  let e := if b0 / 16 % 2 = 1 then 4 + 4 * be (slice bs (h + 2) 2) else 0
  if bs.length < h + e ∨ b0 / 64 ≠ 2 then none
  else some ⟨b1 % 128, decide (128 ≤ b1), be (slice bs 2 2), be (slice bs 4 4), be (slice bs 8 4), bs.drop (h + e)⟩

/-- A line segment of a -20 payload (R342): row of the frame, pixel offset, data. -/
structure Segment where
  row : Nat
  offset : Nat
  data : List Byte
  deriving DecidableEq, Repr

/-- Read the row data headers: length, row with F bit, offset, one after the other until the continuation bit is 0. -/
def readSrds : Nat → List Byte → List (Nat × Nat × Bool × Nat)
  | 0, _ => []
  | fuel + 1, bs =>
    let l := be (slice bs 0 2)
    let r := be (slice bs 2 2)
    let o := be (slice bs 4 2)
    (l, r % 32768, decide (32768 ≤ r), o % 32768) :: if 32768 ≤ o then readSrds fuel (bs.drop 6) else []

/-- Cut the data of the segments. -/
def cutSegments (two : Bool) : List (Nat × Nat × Bool × Nat) → List Byte → List Segment
  | [], _ => []
  | (l, r, f, o) :: rest, bs =>
    ⟨if two then 2 * r + b2n f else r, o, bs.take l⟩ :: cutSegments two rest (bs.drop l)

/-- Is a -20 payload well formed for a raster and sampling: rows, offsets and F bits inside the raster, whole pixel groups (R349, R352)? The
segments, if so. -/
def readVideo (raster sampling : Nat) (payload : List Byte) : Option (List Segment) :=
  let hs := readSrds 16 (payload.drop 2)
  let data := payload.drop (2 + 6 * hs.length)
  let (w, h) := rasterSize raster
  let (gb, gp) := pixelGroup sampling
  let two := twoFields raster
  let ok := hs.all fun e =>
    e.1 % gb == 0 && e.2.2.2 % gp == 0 && decide (e.2.2.2 + e.1 / gb * gp ≤ w) && (two || !e.2.2.1) &&
      decide (e.2.1 < if two then h / 2 else h)
  if ok && decide (6 * hs.length + 2 ≤ payload.length) && data.length == hs.foldl (fun n e => n + e.1) 0 then
    some (cutSegments two hs data)
  else none

/-- The RTP timestamp of frame F at a rate code (R229, R353). -/
def frameStamp (rate F : Nat) : Nat := F * 90000 * rateDen rate / rateNum rate % 4294967296

/-- The frame that a timestamp names: within ±2 ticks of one within ±4 of the current one (R353). -/
def State.stampFrame (s : State) (rate ts : Nat) : Option Nat :=
  if rateNum rate = 0 then none
  else
    let cur := s.deviceTime * rateNum rate / (rateDen rate * 1000000000)
    ((List.range 9).find? fun k =>
      let d := (ts + 4294967296 + 2 - frameStamp rate (cur + k - 4)) % 4294967296
      decide (d ≤ 4)).map fun k => cur + k - 4

/-- Does a timestamp name a frame (R353)? -/
def State.stampMatches (s : State) (rate ts : Nat) : Bool := (s.stampFrame rate ts).isSome

/-! Acceptance (R349–R351). -/

/-- Extend a 16-bit sequence number by nearness to the highest seen. -/
def extendSeq (seq : Nat) (highest : Option Nat) : Nat :=
  match highest with
  | none => seq + 65536
  | some h =>
    let base := h / 65536 * 65536 + seq
    if h + 32768 < base then base - 65536 else if base + 32768 < h then base + 65536 else base

/-- A packet dropped under R349. -/
def State.rxBad (s : State) (n : Nat) (malformed : Bool) : State :=
  let x := s.rxc n
  let s1 := (s.setRxc n { x with bad := x.bad + 1, malformed := x.malformed || malformed }).bump (Reg.RXC_CNT_BAD n)
  if malformed then s1.rxcEvent n 7 else s1

/-- A packet counted late (R350). -/
def State.rxLate (s : State) (n : Nat) : State :=
  let x := s.rxc n
  ((s.setRxc n { x with late := x.late + 1 }).bump (Reg.RXC_CNT_LATE n)).rxcEvent n 3

/-- Sequence numbers that neither path delivered up to a position are counted once as lost, and the packets up to it are done
(R350). `within` says which packets the deadline covers. Used copies stay known while their sequence numbers lie within 65,536 below. -/
def State.rxDeadline (s : State) (n : Nat) (within : CopyRec → Bool) : State :=
  let x := s.rxc n
  let open_ (e : CopyRec) : Bool := match x.doneSeq with
    | some d => decide (d < e.seq)
    | none => true
  let here := x.copies.filter fun e => within e && open_ e
  match here with
  | [] => s
  | c :: cs =>
    let hi := cs.foldl (fun m e => max m e.seq) c.seq
    let lo := match x.doneSeq with
      | some d => d + 1
      | none => cs.foldl (fun m e => min m e.seq) c.seq
    let got := (x.copies.filter fun e => decide (lo ≤ e.seq) && decide (e.seq ≤ hi)).length
    let missing := hi + 1 - lo - got
    let s1 := s.setRxc n { x with
      copies := x.copies.filter fun e => decide (hi < e.seq + 65536), doneSeq := some hi, lost := x.lost + missing }
    if missing = 0 then s1 else (s1.bumpBy (Reg.RXC_CNT_LOST n) missing).rxcEvent n 2

/-- The flow sample index of a timestamp, extended by nearness to the engine's current sample (R358). -/
def State.flowIndex (s : State) (fs96 : Bool) (ts : Nat) : Nat :=
  let cur := s.deviceTime * (if fs96 then 96000 else 48000) / 1000000000
  extendNear ts cur

/-- Samples of one packet of an audio context (R344). -/
def State.packetSamples (s : State) (n : Nat) : Nat :=
  let c := s.rd (Reg.RXC_CFG n)
  (if bit c 15 then 6 else 48) * (if bit c 13 then 2 else 1)

/-- Bytes of one packet's payload of an audio context (R344). -/
def State.packetBytes (s : State) (n : Nat) : Nat :=
  let c := s.rd (Reg.RXC_CFG n)
  s.packetSamples n * (fld c 23 16 + 1) * (if fld c 30 28 = 2 then 4 else if bit c 14 then 3 else 2)

/-- What a well-formed packet carries: its position (R350) and its video segments. -/
def State.rxContent (s : State) (n : Nat) (p : Rtp) : Option (Nat × List Segment) :=
  let c := s.rd (Reg.RXC_CFG n)
  match s.rxEssence n with
  | 0 =>
    match readVideo (fld c 23 20) (fld c 15 14) p.payload with
    | none => none
    | some gs =>
      if s.rxLineExchange n ∧ s.stampMatches (fld c 19 16) p.ts = false then none
      else some (gs.foldl (fun m g => max m g.row) 0, gs)
  | 3 => if p.payload.length < 8 then none else some (0, [])
  | 1 => if p.payload.length = s.packetBytes n then some (s.flowIndex (bit c 13) p.ts + s.packetSamples n, []) else none
  | 2 => if p.payload.length = s.packetBytes n then some (s.flowIndex (bit c 13) p.ts + s.packetSamples n, []) else none
  | _ => none

/-- Place the pixel groups of a packet by address (R350). -/
def placeGroups (gb gp ts : Nat) (gs : List Segment) (t : Tab (List Byte)) : Tab (List Byte) :=
  gs.foldl (fun t g => (List.range (g.data.length / gb)).foldl (fun t k =>
    Tab.put [] t (ts * 4294967296 + g.row * 65536 + g.offset / gp + k) (slice g.data (k * gb) gb)) t) t

/-- Has every row of a packet passed: its band, or its line's deadline (R354, R357)? -/
def RxRun.isPassed (x : RxRun) (ts seq : Nat) (gs : List Segment) (lineExchange : Bool) : Bool :=
  (match x.doneSeq with
    | some d => decide (seq ≤ d)
    | none => false) ||
  (!gs.isEmpty && gs.all fun g => x.passed.contains (ts * 65536 + if lineExchange then g.row else g.row / 8))

/-- When a frame ended, kept for the last frames. -/
def noteEnd (l : Tab Nat) (ts now : Nat) : Tab Nat := if (Tab.find? l ts).isSome then l else Tab.insert (l.drop (l.length - 7)) ts now

/-- The frame of a video or -40 context changes with a later timestamp, at which the frame before has ended (R356): the frame before was clean or not (R352), and its packets' counts
show (R362). The frame in which reception began is not whole. -/
def State.rxFrame (s : State) (n ts : Nat) : State :=
  let x := s.rxc n
  let later := match x.ts with
    | some u => u != ts && decide ((ts + 4294967296 - u) % 4294967296 < 2147483648)
    | none => true
  if later = false then s
  else
    let st := Reg.RXC_STATUS n
    let s1 := if x.ts.isSome then (s.wrFld st 15 0 (min x.packets 65535)).wrBit st 26 x.concealed else s
    s1.setRxc n { x with
      ts := some ts, clean := x.since.isSome && !x.malformed, since := if x.ts.isSome then some s.now else none
      malformed := false, concealed := false, packets := 0
      ends := match x.ts with
        | some u => noteEnd x.ends u s.now
        | none => x.ends }

/-- A frame of a video context ends at the packet with the marker, of an interlaced one at that of its second field (R343, R356). -/
def State.rxEnds (s : State) (n : Nat) (p : Rtp) (gs : List Segment) : State :=
  let x := s.rxc n
  let last := p.marker && (!twoFields (s.rdFld (Reg.RXC_CFG n) 23 20) || gs.any fun g => g.row % 2 == 1)
  if last then s.setRxc n { x with ends := noteEnd x.ends p.ts s.now } else s

/-- A path accepts a packet (R351): it is active. -/
def State.rxPathUp (s : State) (n : Nat) (b : Bool) : State :=
  let st := Reg.RXC_STATUS n
  let i := if b then 29 else 30
  if s.rdBit st i then s else (s.wrBit st i true).rxcEvent n 5

/-- Sequence tracking of a path after an accepted packet (R349). -/
def PathRun.follow (y : PathRun) (ssrc seq now : Nat) : PathRun :=
  let fresh := y.ssrc != some ssrc || (match y.highest with
    | some h => decide (h + 32768 < seq) || decide (seq + 32768 < h)
    | none => true)
  ⟨some ssrc, some (if fresh then seq else max seq (y.highest.getD 0)), some now⟩

/-- The samples of an audio packet's payload, a list for each sample time (R344). -/
def State.packetAudio (s : State) (n : Nat) (payload : List Byte) : List (List Samp) :=
  let c := s.rd (Reg.RXC_CFG n)
  let aes := fld c 30 28 == 2
  let w := if aes then 4 else if bit c 14 then 3 else 2
  let chans := fld c 23 16 + 1
  (List.range (s.packetSamples n)).map fun j => (List.range chans).map fun k =>
    let bs := slice payload ((j * chans + k) * w) w
    if aes then readAm824 bs else if w = 3 then ⟨toSigned 24 (be bs), none⟩ else ⟨256 * toSigned 16 (be bs), none⟩

/-- The samples of an audio packet go to the channels of their input: placed by timestamp with the context's offset, or with FOREIGN in arrival order
(R358). -/
def State.placeAudio (s : State) (n : Nat) (p : Rtp) : State :=
  let twice := if s.rdBit (Reg.RXC_CFG n) 13 then 2 else 1
  let start := s.flowIndex (twice == 2) p.ts
  let i := 1024 + n
  let all := (s.packetAudio n p.payload).zipIdx.flatMap fun e => e.1.zipIdx.map fun x => (e.2, x.2, x.1)
  if s.inPlaced i then
    let x := s.audIn i
    let t := all.foldl (fun t e =>
      let m := start + e.1 + twice * s.rdFld (Reg.RXC_OFFSET n) 9 0
      let k := m / twice * 256 + 2 * e.2.1 + m % twice
      Tab.insert (Tab.erase t k) k e.2.2) x.placed
    s.setAudIn i { x with placed := t }
  else all.foldl (fun a e => a.pushAudio i (2 * e.2.1 + (start + e.1) % twice) e.2.2) s

/-- The content of a first copy goes where it belongs: pixel groups are placed; the packets of a -40 context go into the frame's
ancillary area (R356, R357). -/
def State.rxPlace (s : State) (n : Nat) (p : Rtp) (gs : List Segment) : State :=
  let x := s.rxc n
  match s.rxEssence n with
  | 0 =>
    let (gb, gp) := pixelGroup (s.rdFld (Reg.RXC_CFG n) 15 14)
    s.setRxc n { x with groups := placeGroups gb gp p.ts gs x.groups, packets := x.packets + 1 }
  | 3 =>
    let v := s.rdFld (Reg.RXC_TARGET n) 12 0
    (s.sourcesOf (.rxc v)).foldl (fun a src =>
      if (s.streamCfg src).isSome then (ancPayload p.payload).foldl (fun b q => b.writeAnc src q) a
      else
        let old := if x.packets = 0 then [] else Tab.get [] a.med.anc src
        a.setMed { a.med with anc := Tab.put [] a.med.anc src (old ++ ancPayload p.payload) })
      (s.setRxc n { x with packets := x.packets + 1 })
  | _ => (s.setRxc n { x with packets := x.packets + 1, since := some (x.since.getD s.now) }).placeAudio n p

/-- An RTP packet reaches path A or B of a context whose address it bears (R349, R350). `srcOk`: the source filter passes; `full`: the early
store is full (R355). -/
def State.rxPacket (s : State) (n : Nat) (b srcOk full : Bool) (bytes : List Byte) : State :=
  match readRtp bytes with
  | none => s.rxBad n true
  | some p =>
    if !srcOk || p.pt != s.rdFld (Reg.RXC_CFG n) 6 0 then s.rxBad n false
    else match s.rxContent n p with
      | none => s.rxBad n true
      | some (pos, gs) =>
        let s0 := if s.rxEssence n = 0 ∨ s.rxEssence n = 3 then s.rxFrame n p.ts else s
        let x0 := s0.rxc n
        let y := if b then x0.pathB else x0.pathA
        let z := if b then x0.pathA else x0.pathB
        let restart := y.ssrc != some p.ssrc
        let same := z.ssrc == some p.ssrc
        let seq := if s.rxEssence n = 0 then be (slice p.payload 0 2) * 65536 + p.seq
          else extendSeq p.seq (if !restart then y.highest else if same then z.highest else none)
        let far (h : Option Nat) : Bool := match h with
          | some h => decide (h + 32768 < seq) || decide (seq + 32768 < h)
          | none => false
        let jump := far y.highest
        let x := if (restart || jump) && !(same && !far z.highest) then { x0 with copies := [], doneSeq := none } else x0
        let y1 := y.follow p.ssrc seq s.now
        let x1 := if b then { x with pathB := y1 } else { x with pathA := y1 }
        let reorder := !restart && !jump && (match y.highest with
          | some h => decide (seq < h)
          | none => false)
        match x1.copies.find? fun e => e.seq == seq with
        | some e =>
          if (if b then e.b else e.a).isSome then ((s0.setRxc n x1).rxPathUp n b).rxBad n false
          else
            let e1 : CopyRec := if b then { e with b := some s.now } else { e with a := some s.now }
            let d : Int := (e1.b.getD 0 : Int) - (e1.a.getD 0 : Int)
            (s0.setRxc n { x1 with
              copies := x1.copies.map fun c => if c.seq = seq then e1 else c
              skewSum := x1.skewSum + d, skewN := x1.skewN + 1 }).rxPathUp n b
        | none =>
          if x1.isPassed p.ts seq gs (s.rxLineExchange n) || (full && s.rxLineExchange n) then
            ((s0.setRxc n x1).rxPathUp n b).rxLate n
          else
            let c : CopyRec := ⟨seq, if b then none else some s.now, if b then some s.now else none, p.ts, pos⟩
            let s1 := ((((s0.setRxc n { x1 with copies := c :: x1.copies }).rxPathUp n b).rxEnds n p gs).rxPlace n p gs)
            if reorder then
              let z := s1.rxc n
              (s1.setRxc n { z with reorder := z.reorder + 1 }).bump (Reg.RXC_CNT_REORDER n)
            else s1

/-! Deadlines (R354, R357). -/

/-- The pixel groups of a row; a missing one is concealed by the row above, or black (R354). Answers whether any was. -/
def RxRun.rowGroups (x : RxRun) (sampling width ts row : Nat) : List (List Byte) × Bool :=
  let n := width / (pixelGroup sampling).2
  let at_ (r k : Nat) : List Byte := Tab.get [] x.groups (ts * 4294967296 + r * 65536 + k)
  let cell (k : Nat) : List Byte × Bool :=
    let g := at_ row k
    if g ≠ [] then (g, false)
    else
      let u := if row = 0 then [] else at_ (row - 1) k
      (if u = [] then blackGroup sampling else u, true)
  let cs := (List.range n).map cell
  (cs.map Prod.fst, cs.any Prod.snd)

/-- A row is finished: concealed where samples are missing, kept for the row below, older rows dropped. Answers its
samples. -/
def State.rxRow (s : State) (n ts row : Nat) : State × List Nat :=
  let c := s.rd (Reg.RXC_CFG n)
  let x := s.rxc n
  let w := (rasterSize (fld c 23 20)).1
  let r := x.rowGroups (fld c 15 14) w ts row
  let base := ts * 4294967296 + row * 65536
  let kept := r.1.zipIdx.foldl (fun t e => Tab.put [] t (base + e.2) e.1) x.groups
  let s1 := if r.2 then (s.sourcesOf (.rxc n)).foldl State.noteLocal s else s
  (s1.setRxc n { x with
    groups := kept.filter fun e => decide (base ≤ e.1) || decide (e.1 / 4294967296 ≠ ts)
    concealed := x.concealed || r.2 }, inCarried (fld c 15 14) (r.1.flatMap (groupSamples (fld c 15 14))))

/-! Readiness and paths (R351, R352). -/

/-- The ports of a context's paths. -/
def State.rxPorts (s : State) (n : Nat) : List Nat :=
  let w := s.rd (Reg.RXC_PATHS n)
  if bit w 31 then [fld w 9 0, fld w 25 16] else [fld w 9 0]

/-- Has a path accepted a packet within the last 2 ms? -/
def PathRun.recent (y : PathRun) (now : Nat) : Bool :=
  match y.last with
  | some l => decide (now < l + 2000000)
  | none => false

/-- A receive context becomes not ready (R352). -/
def State.rxNotReady (s : State) (n : Nat) : State :=
  let x := s.rxc n
  let s1 := s.setRxc n { x with clean := false, since := none }
  if s.rdBit (Reg.RXC_STATUS n) 31 then
    (((s1.wrBit (Reg.RXC_STATUS n) 31 false).rxcEvent n 0).inputLost (.rxc n)).audioLost (1024 + n)
  else s1

/-- CONTEXT_READY (R352): after a clean whole frame, or 2 ms of accepted audio packets. -/
def execContextReady (t n : Nat) (s0 : State) : Host.Outcome State Fault Refusal :=
  let s := s0.at t
  let x := s.rxc n
  let ess := s.rxEssence n
  let ok := if ess = 0 ∨ ess = 3 then x.clean
    else match x.since with
      | some a => decide (a + 2000000 ≤ s.now) && (x.pathA.recent s.now || x.pathB.recent s.now)
      | none => false
  if s.rxUsed n && ok && !s.rdBit (Reg.RXC_STATUS n) 31 then
    .next ((((s.wrBit (Reg.RXC_STATUS n) 31 true).rxcEvent n 1).inputReady (.rxc n)).audioBack (1024 + n))
  else .next s

/-- The field of a context: that of its path A port. -/
def State.rxField (s : State) (n : Nat) : Nat := s.rdFld (Reg.RXC_PATHS n) 9 0 / 64

/-- SKEW_MEASURE (R351): the mean of B's arrival minus A's over 1 s, in µs, against the limit in force. -/
def execSkewMeasure (t n : Nat) (s0 : State) : Host.Outcome State Fault Refusal :=
  let s := s0.at t
  let x := s.rxc n
  if x.skewN = 0 ∨ s.rxUsed n = false then .next s
  else
    let us := x.skewSum / x.skewN / 1000
    let s1 := (s.setRxc n { x with skewSum := 0, skewN := 0 }).wrFld (Reg.RXC_SKEW n) 31 16
      (ofSigned 16 (clampInt (-32768) 32767 us))
    let beyond := decide (s.rdFld (Reg.RXC_SKEW n) 15 0 < us.natAbs)
    let s2 := s1.wrBit (Reg.RXC_STATUS n) 28 beyond
    if beyond then .next ((s2.rxcEvent n 6).raise (0x500 + s.rxField n) 0x51 n 2) else .next s2

/-! Transmit (R229, R342–R348, R377). -/

/-- The video destination or the timing group behind a transmit context. -/
def State.txDst (s : State) (n : Nat) : Option (Nat × DstCfg) :=
  let d := s.rdFld (Reg.TXC_SOURCE n) 11 0
  match Tab.find? s.cfg.dsts d with
  | some c => some (d, c)
  | none => none

/-- Active bytes of a frame (R342). -/
def activeBytes (f : VFormat) : Nat :=
  let (w, h) := rasterSize f.raster
  let (gb, gp) := pixelGroup f.sampling
  w / gp * gb * h

/-- The row data headers of the bytes lo … hi − 1 of a field or frame, with rows of `line` bytes. -/
def srdsOf (gb gp line second : Nat) : Nat → Nat → Nat → List (Nat × Nat × Nat)
  | 0, _, _ => []
  | fuel + 1, lo, hi =>
    if hi ≤ lo then []
    else
      let row := lo / line
      let stop := min hi ((row + 1) * line)
      (stop - lo, row + 32768 * second, (lo - row * line) / gb * gp) :: srdsOf gb gp line second fuel stop hi

/-- The headers' bytes: the continuation bit is set on all but the last. -/
def srdBytes : List (Nat × Nat × Nat) → List Byte
  | [] => []
  | [(l, r, o)] => toBe 2 l ++ toBe 2 r ++ toBe 2 o
  | (l, r, o) :: rest => toBe 2 l ++ toBe 2 r ++ toBe 2 (o + 32768) ++ srdBytes rest

/-- The -20 payload of packet i of P in frame F with its data (R342, R343): extended sequence, row data headers, data. -/
def videoPayload (f : VFormat) (P i seq : Nat) (data : List Byte) : List Byte :=
  let (gb, gp) := pixelGroup f.sampling
  let (w, _) := rasterSize f.raster
  let two := twoFields f.raster
  let n := if two then P / 2 else P
  let total := if two then activeBytes f / 2 else activeBytes f
  let l := gb * ((total + n * gb - 1) / (n * gb))
  let k := i % n
  let second := if two && decide (n ≤ i) then 1 else 0
  toBe 2 (seq / 65536) ++ srdBytes (srdsOf gb gp (w / gp * gb) second 16 (k * l) (min ((k + 1) * l) total)) ++ data

/-- One's complement sum of 16-bit words. -/
def sum16 : Nat → List Byte → Nat
  | 0, _ => 0
  | fuel + 1, bs => match bs with
    | [] => 0
    | [b] => b.toNat * 256
    | b :: c :: rest => b.toNat * 256 + c.toNat + sum16 fuel rest

/-- The Internet checksum. -/
def checksum (bs : List Byte) : Nat :=
  let x := sum16 bs.length bs
  let y := x % 65536 + x / 65536
  65535 - (y % 65536 + y / 65536)

/-- The Ethernet frame, without FCS, of a packet of a transmit context on a port (R345): multicast MAC, IPv4 with DF set and identification 0,
UDP with checksum 0. -/
def State.txFrame (s : State) (n port dst : Nat) (rtp : List Byte) : List Byte :=
  let hdr := s.rd (Reg.TXC_HDR n)
  let udp := s.rd (Reg.TXC_UDP n)
  let len := 28 + rtp.length
  let ip0 := [0x45, BitVec.ofNat 8 (4 * fld hdr 29 24)] ++ toBe 2 len ++ [0, 0, 0x40, 0, BitVec.ofNat 8 (fld hdr 23 16), 17]
  let addrs := toBe 4 (s.rd (Reg.MED_PORT_IPV4 port)).toNat ++ toBe 4 dst
  let ip := ip0 ++ toBe 2 (checksum (ip0 ++ [0, 0] ++ addrs)) ++ addrs
  toBe 6 (0x01005E000000 + dst % 8388608) ++ toBe 2 (s.rdFld (Reg.MAC_ADDR_HI port) 15 0) ++
    toBe 4 (s.rd (Reg.MAC_ADDR_LO port)).toNat ++ [0x08, 0x00] ++ ip ++
    toBe 2 (fld udp 31 16) ++ toBe 2 (fld udp 15 0) ++ toBe 2 (8 + rtp.length) ++ [0, 0] ++ rtp

/-! Ports as transmitters (R330, R334). -/

/-- A port with nothing in progress. -/
def coldMac : MacRun := ⟨none, [], 0, 0, 0, 0, 0, 0, []⟩

/-- A port's run. -/
def State.macRun (s : State) (p : Nat) : MacRun := Tab.get coldMac s.mac p

/-- Replace a port's run. -/
def State.setMac (s : State) (p : Nat) (x : MacRun) : State := s.setMacs (Tab.put coldMac s.mac p x)

/-- Lane rate of a port in Gb/s (R286). -/
def State.portGb (s : State) (p : Nat) : Nat := if s.pers p = 3 then 10 else if s.pers p = 4 then 25 else 100

/-- A frame leaves a port (R330): padded to 60 bytes, its FCS appended, counted. Kinds: 0 media, 1 PTP, 2 ARP, 3 IGMP, 4 ICMP, 5 pause, 6
through. It ends after what is in transmission, with 8 bytes of preamble. -/
def State.putFrame (s : State) (port kind : Nat) (body : List Byte) : State :=
  let padded := padTo 60 body
  let whole := padded ++ toLe 4 (crc32 padded)
  let s1 := ((s.bump64 (Reg.MAC_CNT_TX_OK_LO port) (Reg.MAC_CNT_TX_OK_HI port) 1).bump64
    (Reg.MAC_CNT_TX_OCTETS_LO port) (Reg.MAC_CNT_TX_OCTETS_HI port) whole.length).emit (.frame port kind whole)
  let x := s1.macRun port
  s1.setMac port { x with txEnd := max x.txEnd s1.now + 8 * (whole.length + 8) / s1.portGb port }

/-- A frame waits while the port's transmitter is held; a pause frame is sent even then (R333, R334). -/
def State.sendFrame (s : State) (port kind : Nat) (body : List Byte) : State :=
  if kind ≠ 5 ∧ s.rdBit (Reg.MAC_STATUS port) 27 = true then
    s.setMac port { s.macRun port with waiting := (s.macRun port).waiting ++ [⟨kind, body, none⟩] }
  else s.putFrame port kind body

/-- A copy of a packet of a transmit context goes out on a port: dropped and counted while its link is down (R328, R348). -/
def State.txPut (s : State) (n port : Nat) (body : List Byte) (first : Bool) : State :=
  let x := s.txc n
  if s.portUp port then
    let s1 := s.putFrame port 0 body
    if first then (s1.setTxc n { x with sent := x.sent + 1 }).bump64 (Reg.TXC_CNT_SENT_LO n) (Reg.TXC_CNT_SENT_HI n) 1 else s1
  else
    (((s.setTxc n { x with drop := x.drop + 1 }).bump (Reg.TXC_CNT_DROP n)).txcEvent n 1).bump64
      (Reg.MAC_CNT_TX_DROP_LINK_LO port) (Reg.MAC_CNT_TX_DROP_LINK_HI port) 1

/-- A packet is offered to a port: on a held port it waits for the end of the hold (R334). -/
def State.txOffer (s : State) (n port dst : Nat) (due : Int) (rtp : List Byte) (first : Bool) : State :=
  if s.portUp port = true ∧ s.rdBit (Reg.MAC_STATUS port) 27 = true then
    s.setMac port { s.macRun port with
      waiting := (s.macRun port).waiting ++ [⟨0, s.txFrame n port dst rtp, some (n, due, first)⟩] }
  else s.txPut n port (s.txFrame n port dst rtp) first

/-- Count a packet late that leaves more than 1 µs after its instant (R347, R377). -/
def State.txLateIf (s : State) (p : Bool) (n : Nat) (due : Int) : State :=
  if p = true ∧ due + 1000 < s.deviceTime then
    let x := s.txc n
    ((s.setTxc n { x with late := x.late + 1 }).bump (Reg.TXC_CNT_LATE n)).txcEvent n 0
  else s

/-- Frame period of a group in ns times a numerator over a denominator. -/
def State.framePart (s : State) (g num den : Nat) : Nat :=
  let r := s.tgRate g
  if rateNum r = 0 ∨ den = 0 then 0 else rateDen r * 1000000000 * num / (rateNum r * den)

/-- The scheduled launch of packet i of frame F of a video or -40 context (R346), in device time; `lineAt` is the start of the line that
follows the packet's line, for a wide sender. -/
def State.txSchedule (s : State) (n F i lineAt : Nat) (c : DstCfg) : Int :=
  let P := max 1 (s.rdFld (Reg.TXC_PKT n) 15 0)
  let tF := s.frameStart c.tg F + ((s.rdFld (Reg.TG_OFFSET c.tg) 25 0 : Nat) : Int)
  let tro : Int := (s.rdFld (Reg.TXC_TRO n) 25 0 : Nat)
  let two := twoFields c.fmt.raster
  let per := if two then max 1 (P / 2) else P
  let half : Int := if two && decide (per ≤ i) then ((s.framePart c.tg 1 2 : Nat) : Int) else 0
  let k := i % per
  let active := (rasterSize c.fmt.raster).2
  match s.rdFld (Reg.TXC_CFG n) 26 25 with
  | 0 => tF + half + tro + ((s.framePart c.tg (k * active) (rasterLines c.fmt.raster * per * if two then 2 else 1) : Nat) : Int)
  | 1 => tF + half + tro + ((s.framePart c.tg k (per * if two then 2 else 1) : Nat) : Int)
  | _ => lineAt

/-- Is the output of a transmit context lit: its group's outputs are lit and its lane is in L0 (R348, R55, R299)? -/
def State.txLit (s : State) (g port : Nat) : Bool :=
  s.twn.lit / 2 ^ g % 2 == 1 && s.pstate port == 0

/-- Send one packet on the context's paths, and count it late more than 1 µs after its instant (R347, R348, R377). -/
def State.txSend (s : State) (n : Nat) (due : Int) (rtp : List Byte) : State :=
  let w := s.rd (Reg.TXC_PATHS n)
  let s1 := s.txOffer n (fld w 9 0) (s.rd (Reg.TXC_DST_A n)).toNat due rtp true
  let s2 := if bit w 31 then s1.txOffer n (fld w 25 16) (s.rd (Reg.TXC_DST_B n)).toNat due rtp false else s1
  s2.txLateIf (!s.rdBit (Reg.MAC_STATUS (fld w 9 0)) 27) n due

/-- The RTP header of a transmit context (R229, R345). -/
def State.rtpHead (s : State) (n seq ts : Nat) (marker : Bool) : List Byte :=
  [0x80, BitVec.ofNat 8 (s.rdFld (Reg.TXC_HDR n) 6 0 + 128 * b2n marker)] ++ toBe 2 seq ++ toBe 4 ts ++
    toBe 4 (s.rd (Reg.TXC_SSRC n)).toNat

/-- The timing group of an audio transmit context: that of its destination channels (R179). -/
def State.txAudioGroup (s : State) (n : Nat) : Option Nat :=
  match List.find? (fun e => (e.2.kind == 2 || e.2.kind == 3) && e.2.place == n) s.cfg.adst with
  | some e => some e.2.tg
  | none => none

/-- The timing group of a transmit context: that of its destination. -/
def State.txGroup (s : State) (n : Nat) : Option Nat :=
  if s.rdFld (Reg.TXC_CFG n) 30 28 = 0 ∨ s.rdFld (Reg.TXC_CFG n) 30 28 = 3 then (s.txDst n).map fun e => e.2.tg else s.txAudioGroup n

/-- Is a transmit context connected: a video destination always is (R96), an audio one while a channel of it has a source on air (R348)? -/
def State.txFed (s : State) (n : Nat) : Bool :=
  if s.rdFld (Reg.TXC_CFG n) 30 28 = 0 ∨ s.rdFld (Reg.TXC_CFG n) 30 28 = 3 then (s.txDst n).isSome
  else s.cfg.adst.any fun e => (e.2.kind == 2 || e.2.kind == 3) && e.2.place == n && (Tab.get idleARow s.xpt.aout e.1).src.isSome

/-! Multicast membership (R359). -/

/-- The group records of a port: (group, source filter) for each path of an enabled context with a multicast destination on it. -/
def State.memberships (s : State) (port : Nat) : List (Nat × Nat) :=
  s.rxcs.flatMap fun n =>
    let w := s.rd (Reg.RXC_PATHS n)
    let multicast (a : Nat) : Bool := a / 268435456 == 14
    let da := (s.rd (Reg.RXC_DST_A n)).toNat
    let db := (s.rd (Reg.RXC_DST_B n)).toNat
    (if fld w 9 0 = port ∧ multicast da then [(da, (s.rd (Reg.RXC_SRC_A n)).toNat)] else []) ++
      if bit w 31 ∧ fld w 25 16 = port ∧ multicast db then [(db, (s.rd (Reg.RXC_SRC_B n)).toNat)] else []

/-- An IGMPv3 report: each group in INCLUDE of its source, or in EXCLUDE of none. -/
def igmpReport (leave : Bool) (gs : List (Nat × Nat)) : List Byte :=
  let recs := gs.flatMap fun e =>
    if leave then [3, 0, 0, 0] ++ toBe 4 e.1
    else if e.2 = 0 then [2, 0, 0, 0] ++ toBe 4 e.1 else [1, 0, 0, 1] ++ toBe 4 e.1 ++ toBe 4 e.2
  let tail := [0, 0] ++ toBe 2 gs.length ++ recs
  [0x22, 0] ++ toBe 2 (checksum ([0x22, 0, 0, 0] ++ tail)) ++ tail

/-- Send a port's report, or its leave (R359). A port with no IPv4 address sends none. -/
def State.igmp (s : State) (port : Nat) (leave : Bool) : State :=
  let gs := s.memberships port
  let cls := s.rdFld (Reg.MAC_CFG port) 31 30
  if s.rd (Reg.MED_PORT_IPV4 port) = 0 ∨ gs = [] ∨ cls = 1 then s
  else
    let body := igmpReport leave gs
    let ip0 := [0x46, 0] ++ toBe 2 (24 + body.length) ++ [0, 0, 0x40, 0, 1, 2]
    let addrs := toBe 4 (s.rd (Reg.MED_PORT_IPV4 port)).toNat ++ [224, 0, 0, 22] ++ [0x94, 4, 0, 0]
    let ip := ip0 ++ toBe 2 (checksum (ip0 ++ [0, 0] ++ addrs)) ++ addrs
    s.sendFrame port 3 ([0x01, 0x00, 0x5E, 0, 0, 22] ++ toBe 2 (s.rdFld (Reg.MAC_ADDR_HI port) 15 0) ++
      toBe 4 (s.rd (Reg.MAC_ADDR_LO port)).toNat ++ [0x08, 0x00] ++ ip ++ body)

/-- IGMP_REPORT (R359): after stage S4, 1 s later, and on a query. -/
def execIgmpReport (t port : Nat) (query : Bool) (s0 : State) : Host.Outcome State Fault Refusal :=
  let s := s0.at t
  if s.power.stage < 4 ∨ s.isEth port = false ∨ s.portUp port = false ∨ s.power.reaping.isSome = true then .next s
  else
    let s1 := s.igmp port false
    .next (s1.setMed { s1.med with joined := true, reported := if query then s1.med.reported else some s1.now })

end Sys2Proof.Machine
end

