-- ==== Sys2Proof/Machine/Tdm.lean ====
section
/-! DEFINITION. The frames of serial audio ports: slot words and the levels of APp_FS and APp_DO (R192). -/
namespace Sys2Proof.Machine

/-- The sample of a slot word: bits 31:8. -/
def slotSample (w : Nat) : Samp := ⟨toSigned 24 (w / 256 % 16777216), none⟩

/-- The level of APp_FS in BCLK period i of a frame of n periods: a pulse at the frame start, or I2S with a change there and halfway; FS_POL turns it
over. -/
def fsLevel (cfg : Word) (n i : Nat) : Bool :=
  if bit cfg 25 then decide (i = 0) != bit cfg 22 else decide (n / 2 ≤ i) != bit cfg 22

/-- The levels of APp_FS and APp_DO in each BCLK period of a frame, and the bit that goes over into the next one: the bits, most significant first, follow the
frame start by FS_DELAY periods with TDM framing, by one with I2S. An unused APp_DO is held low. -/
def frameLevels (cfg : Word) (words : List Nat) (last : Bool) : List (Bool × Bool) × Bool :=
  let bits := words.flatMap (bitsOf 32)
  let delay := if bit cfg 25 then b2n (bit cfg 24) else 1
  let sent := if delay = 0 then bits else last :: bits.dropLast
  (sent.zipIdx.map fun e => (fsLevel cfg bits.length e.2, e.1 && bit cfg 29), bits.getLastD false)

end Sys2Proof.Machine
end

