-- ==== Sys2Proof/Machine/Audio.lean ====
section
/-! DEFINITION. The audio engine and the serial audio ports (R174–R203). -/
namespace Sys2Proof.Machine

/-! Arithmetic (R183, R184, R186). -/

/-- Saturate to a signed width. -/
def satBits (n : Nat) (x : Int) : Int := clampInt (-(2 ^ (n - 1) : Int)) ((2 ^ (n - 1) : Int) - 1) x

/-- Bits b − 1 … 0 of the gain factor of code G, above bits already found. Factor x is not above the nearest integer to
2^28 × 10^((G − 1,920) / 400) exactly if (2x − 1)^400 × 10^1,920 ≤ 2^11,600 × 10^G. -/
def gainBits (g : Nat) : Nat → Nat → Nat
  | 0, r => r
  | b + 1, r =>
    let x := r + 2 ^ b
    gainBits g b (if ((2 * x - 1) ^ 20) ^ 20 * (10 ^ 192) ^ 10 ≤ (2 ^ 116) ^ 100 * 10 ^ g then x else r)

/-- The factor of a gain code (R184). -/
def gainFactor (g : Nat) : Nat := if g = 1920 then 268435456 else gainBits g 31 0

/-- π × 2^128, rounded down. -/
def piFix : Nat := 1069028584064966747859680373161870783300

/-- Terms of the series of cos x × 2^128 for x² × 2^128, from the term t that has index k. -/
def cosTerms (x2 : Nat) : Nat → Nat → Nat → Int
  | 0, _, _ => 0
  | n + 1, k, t => (t : Int) - cosTerms x2 n (k + 2) (t * x2 / 2 ^ 128 / ((k + 1) * (k + 2)))

/-- The crossfade weight C[j] (R186), from cos of the nearer quarter. -/
def fadeWeight (j : Nat) : Nat :=
  let k := if j ≤ 2048 then j else 4096 - j
  let x := piFix * k / 4096
  let c := cosTerms (x * x / 2 ^ 128) 24 0 (2 ^ 128)
  let v := (((2 : Int) ^ 128 - c) * 2 ^ 29 + 2 ^ 127) / 2 ^ 128
  if j ≤ 2048 then v.toNat else 2 ^ 30 - v.toNat

/-- Sample n of a crossfade of L samples from `old` to `new`, both widened (R186). -/
def crossfade (n L : Nat) (old new : Int) : Int :=
  let w : Int := (fadeWeight ((2 * n + 1) * 4096 / (2 * L)) : Nat)
  rndDiv (new * w + old * (1073741824 - w)) 1073741824

/-- Fade out by x × (47 − i) / 48, 0 from the 48th sample on. -/
def fadeOut (x : Int) (i : Nat) : Int := if i < 48 then rndDiv (x * ((47 - i : Nat) : Int)) 48 else 0

/-- Fade in by x × (i + 1) / 48, whole from the 48th sample on. -/
def fadeIn (x : Int) (i : Nat) : Int := if i < 48 then rndDiv (x * ((i + 1 : Nat) : Int)) 48 else x

/-- The mix of a destination at sample n: its switches, oldest first, over the samples of their sources (R185, R186). -/
def mixAt (val : Option Nat → Int) (cuts : Bool) (n : Nat) : List AudSwitch → Int → Int
  | [], out => out
  | w :: ws, out =>
    let new := val w.new
    let v := if n < w.start then out
      else if cuts || decide (w.stop ≤ n) then new
      else crossfade (n - w.start) w.length out new
    mixAt val cuts n ws v

/-- The gain factor at sample n: a ramp of 240 samples, or the code's factor (R184). -/
def gainAt (ramp : Option (Nat × Nat × Nat)) (code n : Nat) : Int :=
  match ramp with
  | none => (gainFactor code : Nat)
  | some (a, b, st) =>
    if n < st then (a : Int)
    else if n < st + 240 then (a : Int) + rndDiv (((b : Int) - (a : Int)) * ((n - st + 1 : Nat) : Int)) 240
    else (b : Int)

/-- A destination sample from its mix and gain (R183). -/
def applyGain (m g : Int) : Int := satBits 24 (rndDiv (satBits 32 (rndDiv (m * g) 268435456)) 256)

/-! Inputs. -/

/-- Slots of a port (R202). -/
def State.portSlots (s : State) (p : Nat) : Nat := 8 * 2 ^ s.rdFld (Reg.AP_CFG p) 21 20

/-- A mask in force; bits at or above the slot count read 0 (R202). -/
def State.portMask (s : State) (p : Nat) (out : Bool) : Nat :=
  (if out then s.rd64 (Reg.AP_MASK_OUT_LO p) (Reg.AP_MASK_OUT_HI p) else s.rd64 (Reg.AP_MASK_IN_LO p) (Reg.AP_MASK_IN_HI p)) % 2 ^ s.portSlots p

/-- A sample of a source channel at sample k of the block, before slips: what its input gave, faded while its origin is not ready and
after it became ready again (R177). An inactive input slot, and a port whose APp_DI is not used, is silent (R195, R202). -/
def State.sourceSample (s : State) (o : Origin) (x : AudIn) (k : Nat) (last cur : Int) : Int :=
  if o.kind = 4 ∧ ((s.portMask o.place false).testBit o.channel = false ∨ s.rdBit (Reg.AP_CFG o.place) 30 = false) then 0
  else if x.notReady then fadeOut last (x.fade + k)
  else fadeIn cur (x.fade + k)

/-- The fades around a slip ordered at block b0, for sample k of block b (R190). -/
def slipFade (slip : Option (Nat × Bool × Bool)) (b k : Nat) (v : Int) : Int :=
  match slip with
  | none => v
  | some (b0, _, _) =>
    if b0 < b ∧ b ≤ b0 + 8 then fadeOut v (6 * (b - b0 - 1) + k)
    else if b0 + 8 < b ∧ b ≤ b0 + 16 then fadeIn v (6 * (b - b0 - 9) + k)
    else v

/-- The six samples of a channel, an absent one repeating the one before. -/
def holdSamples : List (Option Samp) → Nat → Int → List Samp
  | _, 0, _ => []
  | [], n + 1, last => ⟨last, none⟩ :: holdSamples [] n last
  | x :: xs, n + 1, last =>
    let v := x.getD ⟨last, none⟩
    v :: holdSamples xs n v.v

/-- The frames that a port took in. -/
def framesOf (ins : List PortFrames) (p : Nat) : List (List Nat) := (ins.filter fun r => r.port == p).flatMap fun r => r.frames

/-- What the engine reads of an origin at block b; absent samples are none (R188, R194, R358). -/
def State.readChannel (s : State) (ins : List PortFrames) (b i : Nat) (o : Origin) : List (Option Samp) :=
  let x := s.audIn i
  if s.inPlaced i then (List.range 6).map fun k => Tab.find? x.placed ((6 * b + k) * 256 + o.fifoChannel)
  else if s.inExact i then ((framesOf ins o.place).take 6).map fun f => (f[o.channel]?).map slotSample
  else if x.going then ((Tab.get [] x.fifo o.fifoChannel).take 6).map some
  else []

/-- The samples of every source channel at a block, and the last good sample of each. -/
def State.blockSources (s : State) (b : Nat) (ins : List PortFrames) : Tab (List Samp) × Tab Int :=
  s.cfg.asrc.foldl (fun acc e =>
    match e.2.input with
    | none => acc
    | some i =>
      let x := s.audIn i
      let last := Tab.get 0 s.aud.last e.1
      let raw := holdSamples (s.readChannel ins b i e.2) 6 last
      let vals := raw.zipIdx.map fun v => { v.1 with v := slipFade x.slip b v.2 (s.sourceSample e.2 x v.2 last v.1.v) }
      (Tab.insert (Tab.erase acc.1 e.1) e.1 vals,
        Tab.put 0 acc.2 e.1 (if x.notReady then last else (raw.getLast?.map Samp.v).getD last))) ([], s.aud.last)

/-- Where a channel stands in its AES3 block after a sample, and whether the sample's status bit marks it as non-audio or audio (R187). -/
def blockStep (pos : Nat) (x : Samp) : Nat × Option Bool :=
  match x.aes with
  | none => (0, none)
  | some a =>
    let q := if a / 8 % 2 = 1 then 1 else if pos = 0 then 0 else pos + 1
    (q, if q = 2 then some (a / 4 % 2 == 1) else none)

/-- The channels marked non-audio by byte 0 bit 1 of their AES3 channel status, and where each stands in its block (R187). -/
def State.markNonAudio (s : State) (src : Tab (List Samp)) : State :=
  (s.cfg.asrc.filter fun e => e.2.kind == 3).foldl (fun a e =>
    (Tab.get [] src e.1).foldl (fun b x =>
      let r := blockStep (Tab.get 0 b.aud.blockAt e.1) x
      let rest := b.aud.nonAudio.filter (· != e.1)
      b.setAud { b.aud with
        blockAt := Tab.put 0 b.aud.blockAt e.1 r.1
        nonAudio := match r.2 with
          | some true => e.1 :: rest
          | some false => rest
          | none => b.aud.nonAudio }) a) s

/-! Ports. -/

/-- Samples of a port's life since an instant. -/
def samplesSince (now since : Nat) : Nat := (now - since) * 48 / 1000000

/-- What a port sends in an output slot (R192, R195, R196): 0 where the slot is inactive, the port does not carry data or its output is
held low; faded in after the lead and out at a stop. -/
def State.slotOut (s : State) (p slot k : Nat) (v : Int) : Int :=
  let x := s.port p
  if s.rdBit (Reg.AP_CFG p) 29 = false ∨ (s.portMask p true).testBit slot = false then 0
  else if x.phase = 2 then fadeIn v (samplesSince s.now x.since + k)
  else if x.phase = 3 ∧ x.carried = true then fadeOut v (samplesSince s.now x.since + k)
  else 0

/-! Slips (R190, R191). -/

/-- A slip that is over 8 blocks after it was applied is forgotten. -/
def slipOver (slip : Option (Nat × Bool × Bool)) (b : Nat) : Option (Nat × Bool × Bool) :=
  match slip with
  | some (b0, drop, true) => if b0 + 16 < b then none else some (b0, drop, true)
  | x => x

/-- The FIFO of an input is checked at a block: the deciding device orders a slip and says so; a follower notes its own crossing, and slips
on its own where no decision came by block b + 8. -/
def State.checkFifo (b : Nat) (s : State) (i : Nat) : State :=
  let x0 := s.audIn i
  let x := { x0 with slip := slipOver x0.slip b }
  let cross : Option Bool := if 6 < x.fill then some true else if x.fill < 2 then some false else none
  if x.going = false ∨ s.inPlaced i = true ∨ s.inExact i = true then s
  else match cross, x.slip, x.notReady with
    | some drop, none, false =>
      if s.decides then
        let s1 := s.setAudIn i { x with slip := some (b, drop, false) }
        if s1.tellsPeer then s1.sendWall (.decision [⟨3, 0, i, b, if drop then 1 else 2⟩]) else s1
      else match x.crossed with
        | none => s.setAudIn i { x with crossed := some (b, drop) }
        | some (b0, d) =>
          if b0 + 8 ≤ b then
            (((s.setAudIn i { x with crossed := none, slip := some (b, d, false) }).bump Reg.AUD_CNT_DECISION_MISSED).audEvent 4).noteLocal (16384 + i)
          else s.setAudIn i x
    | none, _, _ => s.setAudIn i { x with crossed := none }
    | _, _, _ => s.setAudIn i x

/-- One slip of an input is counted (R190): a house-locked input raises AUDIO_HOUSE_SLIP. -/
def State.countSlip (s : State) (i : Nat) : State :=
  let x := s.audIn i
  let s1 := ((s.setAudIn i { x with slips := min (x.slips + 1) 65535 }).bump Reg.AUD_CNT_SLIP).audEvent 0
  let s2 := if 9216 ≤ i ∧ i < 9232 then
      (let p := i - 9216
       (s1.setPort p { s1.port p with slips := (s1.port p).slips + 1 }).bump (Reg.AP_CNT_SLIP p)) else s1
  if s.inForeign i then s2 else (s2.audEvent 6).raise 0x020 0x30 i 2

/-- A drop discards one block of every channel that waits; a repeat puts the block read last before it (R190). -/
def slipFifo (drop : Bool) (fifo prev : Tab (List Samp)) : Tab (List Samp) :=
  if drop then (fifo.map fun e => (e.1, e.2.drop 6)).filter fun e => e.2 != []
  else (fifo.map Prod.fst ++ prev.map Prod.fst).eraseDups.foldl (fun t c => Tab.put [] t c (Tab.get [] prev c ++ Tab.get [] fifo c)) []

/-- The output FIFO of a slave port slips with its input, the other way: what its clock takes too fast of the one it takes too fast of the other (log 168). -/
def State.slipQueue (s : State) (i : Nat) (drop : Bool) : State :=
  if 9216 ≤ i ∧ i < 9232 then
    let x := s.port (i - 9216)
    s.setPort (i - 9216) { x with queue := if drop then x.sent ++ x.queue else x.queue.drop 6 }
  else s

/-- SLIP_APPLY (R190, R191): the boundary of blocks b + 8 and b + 9. A decided slip that would leave a follower's FIFO with fewer than 1 or
more than 7 blocks brings one local slip in the opposite direction. -/
def execSlipApply (t input : Nat) (s0 : State) : Host.Outcome State Fault Refusal :=
  let s := s0.at t
  let x := s.audIn input
  match x.slip with
  | some (b, drop, false) =>
    if b + 8 ≤ s.aud.block then
      let s1 := (s.countSlip input).slipQueue input drop
      let y := { s1.audIn input with fifo := slipFifo drop x.fifo x.prev }
      let left : Int := if drop then (x.fill : Int) - 1 else (x.fill : Int) + 1
      if s.ctl.role = .follower ∧ (left < 1 ∨ 7 < left) then
        .next ((((s1.setAudIn input { y with slip := some (s.aud.block, !drop, false) }).bump
          Reg.AUD_CNT_DECISION_UNMET).audEvent 5).noteLocal (16384 + input))
      else .next (s1.setAudIn input { y with slip := some (b, drop, true) })
    else .next s
  | _ => .next s

/-- The packets of an audio context whose samples' blocks are processed are counted (R350, R358): all but a FOREIGN context. Every
eighth block ends 1 ms, whose packets PKTS_FRAME then shows (R362). -/
def State.flowDeadline (b : Nat) (s : State) (n : Nat) : State :=
  let ess := s.rxEssence n
  if (ess = 1 ∨ ess = 2) ∧ s.inForeign (1024 + n) = false then
    let twice := if s.rdBit (Reg.RXC_CFG n) 13 then 2 else 1
    let s1 := s.rxDeadline n fun c => decide (c.pos + twice * s.rdFld (Reg.RXC_OFFSET n) 9 0 ≤ twice * 6 * (b + 1))
    if b % 8 = 7 then
      (s1.wrFld (Reg.RXC_STATUS n) 15 0 (min (s1.rxc n).packets 65535)).setRxc n { s1.rxc n with packets := 0 }
    else s1
  else s

/-! The block (R183, R188). -/

/-- Does a destination leave on a follow port (R198)? -/
def State.followDst (s : State) (o : Origin) : Bool := o.kind == 4 && s.portClock o.place == 2

/-- The source of a destination at sample n. -/
def AudDst.sourceAt (y : AudDst) (row : ARow) (n : Nat) : Option Nat :=
  match y.switches with
  | [] => row.src
  | w :: _ => y.switches.foldl (fun c v => if v.start ≤ n then v.new else c) w.old

/-- An output sample of a destination at sample n from the samples of its sources (R183–R187): a marked non-audio source passes at unity gain; with no
switch in progress and at unity gain AES3 status passes too. -/
def State.dstSample (s : State) (val : Option Nat → Samp) (d n : Nat) (cuts : Bool) : Samp :=
  let row := Tab.get idleARow s.xpt.aout d
  let y := Tab.get coldDst s.aud.dsts d
  let cur := y.sourceAt row n
  let non := (cur.map s.aud.nonAudio.contains).getD false
  let first := match y.switches with
    | w :: _ => w.old
    | [] => row.src
  let m := mixAt (fun x => 256 * (val x).v) (non || cuts) n y.switches (256 * (val first).v)
  let g := if non then 268435456 else gainAt y.ramp (s.rdFld (Reg.AUD_GAIN d) 11 0) n
  let steady := non || cuts || y.switches.all fun w => decide (n < w.start) || decide (w.stop ≤ n)
  ⟨applyGain m g, if steady && g == 268435456 then (val cur).aes else none⟩

/-- The six output samples of a destination. -/
def State.dstSamples (s : State) (src : Tab (List Samp)) (b d : Nat) : List Samp :=
  (List.range 6).map fun k => s.dstSample (fun x => match x with
    | some c => (Tab.get [] src c).getD k ⟨0, none⟩
    | none => ⟨0, none⟩) d (6 * b + k) false

/-- Switches that are over by sample n are dropped, but for those behind one that still runs; so is a ramp that is over. Only the last 512 output samples
stay. -/
def AudDst.settle (y : AudDst) (n : Nat) : AudDst :=
  ⟨y.switches.dropWhile fun w => decide (w.stop ≤ n), match y.ramp with
    | some (a, b, st) => if n < st + 240 then some (a, b, st) else none
    | none => none, y.recent.filter fun e => decide (n < e.1 + 512)⟩

/-- Is the audio engine at work: sown and out of reset's modes (R196, R461)? In SAFE the ports fade and run their tails. -/
def State.audioRuns (s : State) : Bool :=
  match s.ctl.mode with
  | .boot => false
  | .train => false
  | _ => true

/-- The frames that ports took in enter the FIFOs of their inputs in arrival order (R188). -/
def State.takeFrames (s : State) (ins : List PortFrames) : State :=
  ((List.range s.dev.variant.ports).filter fun p => s.portClock p != 0).foldl (fun a p =>
    (framesOf ins p).foldl (fun b f => f.zipIdx.foldl (fun c w => c.pushAudio (9216 + p) (2 * w.2) (slotSample w.1)) b) a) s

/-- The engine reads a FIFO from half fill on (log 168). -/
def State.startFifos (s : State) : State :=
  s.setAud { s.aud with
    ins := s.aud.ins.map fun e => (e.1, { e.2 with going := e.2.going || (decide (4 ≤ e.2.fill) && !e.2.notReady) }) }

/-- A block has been read from every FIFO, and the placed samples of its time are used. -/
def State.passBlock (s : State) (b : Nat) : State :=
  s.setAud { s.aud with ins := s.aud.ins.filterMap fun e =>
    let x := e.2
    let y := { x with fade := min 48 (x.fade + 6), placed := x.placed.filter fun p => decide ((6 * b + 6) * 256 ≤ p.1) }
    let z := if x.going then { y with
        fifo := (x.fifo.map fun c => (c.1, c.2.drop 6)).filter fun c => c.2 != []
        prev := x.fifo.map fun c => (c.1, c.2.take 6) } else y
    if z = coldIn then none else some (e.1, z) }

/-- The output samples of a destination are kept for its output to send (R189). -/
def State.keepSamples (s : State) (d b : Nat) (xs : List Samp) : State :=
  let y := Tab.get coldDst s.aud.dsts d
  s.setAud { s.aud with
    dsts := Tab.put coldDst s.aud.dsts d { y with recent := xs.zipIdx.foldl (fun t x => Tab.insert t (6 * b + x.2) x.1) y.recent } }

/-- The audio destination at a slot of a port, if there is one. -/
def State.slotDst (s : State) (p slot : Nat) : Option Nat :=
  (List.find? (fun e => e.2.kind == 4 && e.2.place == p && e.2.channel == slot) s.cfg.adst).map Prod.fst

/-- Six frames of a port on the block engine: the samples of the destinations at its slots. -/
def State.engineFrames (s : State) (p : Nat) (outs : Tab (List Samp)) : List (List Nat) :=
  (List.range 6).map fun k => (List.range (s.portSlots p)).map fun i => match s.slotDst p i with
    | some d => (((Tab.get [] outs d)[k]?).map Samp.bits24).getD 0
    | none => 0

/-- The timing group of a port: that of its destinations. -/
def State.portGroup (s : State) (p : Nat) : Nat :=
  match List.find? (fun e => e.2.kind == 4 && e.2.place == p) s.cfg.adst with
  | some e => e.2.tg
  | none => 0

/-- A frame leaves a port (R192): k frames after now by the port's state. What a MASTER_HOUSE port sends goes into the digest of the frame that holds its output
stamp (R230). -/
def State.sendSlots (s : State) (p k start : Nat) (stamp : Option Nat) (frame : List Nat) : State :=
  let words := frame.zipIdx.map fun x => 256 * ofSigned 24 (s.slotOut p x.2 k (toSigned 24 x.1))
  let r := frameLevels (s.rd (Reg.AP_CFG p)) words (s.port p).lastBit
  let s1 := (s.setPort p { s.port p with lastBit := r.2 }).emit (.tdm p start words r.1)
  match stamp with
  | none => s1
  | some ns =>
    let f := s1.frameOf (s1.portGroup p) ns
    let x := s1.port p
    let c := crcRun ((Tab.find? x.digs f).getD 0xFFFFFFFF) (words.flatMap (toBe 4))
    s1.setPort p { x with digs := Tab.insert (Tab.erase (x.digs.filter fun e => decide (f < e.1 + 8)) f) f c }

/-- The next frame of a follow port: one sample of each channel of its input leaves the FIFO and goes to the slots that take it (R198). -/
def State.followFrame (s : State) (p n : Nat) : State × List Nat :=
  let x := s.port p
  let val (c : Option Nat) : Samp := match c.bind fun c => Tab.find? s.cfg.asrc c with
    | some o => ((Tab.get [] x.fifo o.fifoChannel).head?).getD (((Tab.get [] x.prev o.fifoChannel).getLast?).getD ⟨0, none⟩)
    | none => ⟨0, none⟩
  let words := (List.range (s.portSlots p)).map fun i => match s.slotDst p i with
    | some d =>
      let v := s.dstSample val d n true
      ofSigned 24 (slipFade x.slip (n / 6) (n % 6) v.v)
    | none => 0
  let prev := x.fifo.map fun e =>
    let old := Tab.get [] x.prev e.1 ++ e.2.take 1
    (e.1, old.drop (old.length - 6))
  (s.setPort p { x with fifo := (x.fifo.map fun e => (e.1, e.2.drop 1)).filter fun e => e.2 != [], prev := prev }, words)

/-- The NCO of a running follow port is steered within ±100 ppm; R198 gives no law for the loop, so its value is free. -/
def State.steerNco (s : State) (p : Nat) : State :=
  let v : Int := ((s.freeVal % 20001 : Nat) : Int) - 10000
  let x := s.port p
  let since := match x.atLimit with
    | some (low, at_) => if low = decide (v < 0) then at_ else s.now
    | none => s.now
  let s1 := (s.freeNext).wr (Reg.AP_NCO p) (BitVec.ofInt 32 v)
  if v.natAbs < 10000 then (s1.setPort p { x with atLimit := none }).wrBit (Reg.AP_STATUS p) 26 false
  else s1.setPort p { x with atLimit := some (decide (v < 0), since) }

/-- The slip of a follow FIFO at its block (R198). -/
def State.followSlip (s : State) (p b : Nat) : State :=
  let x := s.port p
  match slipOver x.slip b with
  | some (b0, drop, false) =>
    if b0 + 8 < b then s.setPort p { x with slip := some (b0, drop, true), fifo := slipFifo drop x.fifo x.prev } else s
  | y => s.setPort p { x with slip := y }

/-- What a port sends at block b (R192–R196): six exact frames; as many as its received clock took, from the output FIFO; or as many as its NCO took of the
followed input. -/
def State.portBlock (s : State) (b : Nat) (ins : List PortFrames) (outs : Tab (List Samp)) (p : Nat) : State :=
  let ph := (s.port p).phase
  let gone := (framesOf ins p).length
  if ph = 0 ∨ ph = 4 ∨ s.portClock p = 3 then s
  else if s.portClock p = 0 then
    ((s.engineFrames p outs).zipIdx).foldl (fun a e =>
      let stamp := (6 * b + e.2) * 1000000000 / 48000 + 500000
      a.sendSlots p e.2 (stamp + a.rdFld (Reg.AP_OFFSET p) 19 0) (some stamp) e.1) s
  else if s.portClock p = 1 then
    let faded := (s.engineFrames p outs).zipIdx.map fun e => e.1.map fun v =>
      ofSigned 24 (slipFade (s.audIn (9216 + p)).slip b e.2 (toSigned 24 v))
    let q := (s.port p).queue ++ faded
    let going := (s.port p).going || decide (24 ≤ q.length)
    let s1 := s.setPort p { s.port p with queue := q.drop (q.length - 48), going := going }
    (List.range gone).foldl (fun a k =>
      let x := a.port p
      match going, x.queue with
      | true, f :: rest => (a.setPort p { x with queue := rest, sent := (x.sent ++ [f]).drop (x.sent.length - 5) }).sendSlots p k a.deviceTime none f
      | _, _ => a.sendSlots p k a.deviceTime none (x.sent.getLastD [])) s1
  else
    let s1 := s.followSlip p b
    let going := (s1.port p).going || decide (4 ≤ fifoFill (s1.port p).fifo)
    let s2 := s1.setPort p { s1.port p with going := going }
    let s3 := (List.range gone).foldl (fun a k =>
      if going then
        let r := a.followFrame p (6 * b + min k 5)
        r.1.sendSlots p k r.1.deviceTime none r.2
      else a.sendSlots p k a.deviceTime none (List.replicate (a.portSlots p) 0)) s2
    if ph = 2 then s3.steerNco p else s3

/-- DEEMB_PACKET_ERROR (R178): a packet of SDI input `lane` is discarded; its samples are absent from the next read, which repeats. -/
def execDeembPacketError (t lane : Nat) (s0 : State) : Host.Outcome State Fault Refusal :=
  let s := s0.at t
  if s.sdiPort lane then .next (((s.bump Reg.AUD_CNT_DEEMB_ERR).audEvent 7).noteLocal (16384 + lane)) else .next s

/-! Masks (R195). -/

/-- A mask pair becomes pending; bits at or above the slot count are ignored. -/
def State.maskPending (s : State) (p : Nat) (out : Bool) (m : Nat) : State :=
  let x := s.port p
  let v := some (m % 2 ^ s.portSlots p, s.now)
  s.setPort p (if out then { x with pendOut := v } else { x with pendIn := v })

/-- A write to a mask's LO register is staged. -/
def State.maskLoWrite (s : State) (p : Nat) (out : Bool) (v : Nat) : State :=
  let x := s.port p
  s.setPort p (if out then { x with loOut := v } else { x with loIn := v })

/-- A write to a mask's HI register completes the pair. -/
def State.maskHiWrite (s : State) (p : Nat) (out : Bool) (v : Nat) : State :=
  let x := s.port p
  s.maskPending p out ((if out then x.loOut else x.loIn) + 4294967296 * (v % 4294967296))

/-- MASK_HI_WRITE (R195). -/
def execMaskHiWrite (t p : Nat) (out : Bool) (value : Nat) (s0 : State) : Host.Outcome State Fault Refusal :=
  let s := s0.at t
  if p < s.dev.variant.ports then .next (s.maskHiWrite p out value) else .next s

/-- Masks whose pairs completed before an instant take effect. -/
def State.applyMasks (s : State) (p before : Nat) : State :=
  let x := s.port p
  let due (m : Option (Nat × Nat)) : Option Nat := m.bind fun e => if e.2 < before then some e.1 else none
  let rest (m : Option (Nat × Nat)) : Option (Nat × Nat) := m.filter fun e => decide (before ≤ e.2)
  let s1 := match due x.pendIn with
    | some m => s.wr64 (Reg.AP_MASK_IN_LO p) (Reg.AP_MASK_IN_HI p) m
    | none => s
  let s2 := match due x.pendOut with
    | some m => s1.wr64 (Reg.AP_MASK_OUT_LO p) (Reg.AP_MASK_OUT_HI p) m
    | none => s1
  s2.setPort p { x with pendIn := rest x.pendIn, pendOut := rest x.pendOut }

/-- MASK_APPLY (R195): the first frame boundary after the pair completed; a pair that completes with the boundary waits for the next. A stopped port has none,
its mask waits for the next start (R199). -/
def execMaskApply (t p : Nat) (s0 : State) : Host.Outcome State Fault Refusal :=
  let s := s0.at t
  let ph := (s.port p).phase
  if p < s.dev.variant.ports ∧ (ph = 1 ∨ ph = 2) then .next (s.applyMasks p s.now) else .next s

/-! Start, stop, clock loss (R196, R197). -/

/-- Is a port's configuration one that never runs: CLOCK 0b11, or a reserved FOLLOW_INPUT (R202)? -/
def State.portBadCfg (s : State) (p : Nat) : Bool :=
  s.portClock p == 3 || (s.portClock p == 2 && decide (9232 ≤ s.rdFld (Reg.AP_CFG p) 13 0))

/-- A frame count of a port in ns. -/
def framesToNs (n : Nat) : Nat := n * 1000000 / 48

/-- A port starts its lead (R196). -/
def State.portLead (s : State) (p : Nat) : State :=
  let s1 := s.applyMasks p (s.now + 1)
  (s1.setPort p { s1.port p with
    phase := 1, since := s.now, lead := s.rdFld (Reg.AP_LEAD p) 15 0, queue := [], sent := [], fifo := [], prev := [], going := false
    slip := none, atLimit := none, lastBit := false }).wr (Reg.AP_STATUS p)
    (setFld (setFld (s.rd (Reg.AP_STATUS p)) 31 30 0) 27 25 4)

/-- PORT_START (R196): an enabled port of a device whose stage S5 is sown, in a mode that carries data. -/
def execPortStart (t p : Nat) (s0 : State) : Host.Outcome State Fault Refusal :=
  let s := s0.at t
  if p < s.dev.variant.ports ∧ s.rdBit (Reg.AP_CFG p) 31 = true ∧ s.audioRuns = true ∧ s.ctl.mode ≠ .safe ∧ 5 ≤ s.power.stage ∧
      s.power.reaping = none ∧ (s.port p).phase = 0 then
    if s.portBadCfg p then .next (s.wrBit (Reg.AP_STATUS p) 25 true) else .next (s.portLead p)
  else .next s

/-- START_LEAD_END (R196): data is carried from the next frame, fading in. -/
def execStartLeadEnd (t p : Nat) (s0 : State) : Host.Outcome State Fault Refusal :=
  let s := s0.at t
  let x := s.port p
  if p < s.dev.variant.ports ∧ x.phase = 1 ∧ x.since + framesToNs x.lead ≤ s.now then
    let s1 := (s.setPort p { x with phase := 2, since := s.now }).wr (Reg.AP_STATUS p)
      (setFld (setFld (s.rd (Reg.AP_STATUS p)) 31 31 1) 27 27 0)
    .next (s1.audioBack (9216 + p))
  else .next s

/-- A port stops (R196): its output fades over 48 frames, then a master port runs its clocks for STOP_TAIL; a slave port drives no clocks and has no
tail. -/
def State.portStop (s : State) (p : Nat) : State :=
  let x := s.port p
  if x.phase = 1 ∨ x.phase = 2 ∨ x.phase = 4 then
    ((s.setPort p { x with
      phase := 3, since := s.now, carried := decide (x.phase = 2)
      tail := if s.portClock p = 1 then 0 else s.rdFld (Reg.AP_LEAD p) 31 16 }).wr (Reg.AP_STATUS p)
      (setFld (setFld (s.rd (Reg.AP_STATUS p)) 31 30 0) 27 26 0)).audioLost (9216 + p)
  else s

/-- PORT_STOP (R196): at reaping, on disable or on entry to SAFE. -/
def execPortStop (t p : Nat) (s0 : State) : Host.Outcome State Fault Refusal :=
  let s := s0.at t
  if p < s.dev.variant.ports ∧ (s.power.reaping.isSome = true ∨ s.rdBit (Reg.AP_CFG p) 31 = false ∨ s.ctl.mode = .safe) then
    .next (s.portStop p)
  else .next s

/-- How long a stopping port's fade and tail last (R196). -/
def State.portTailNs (s : State) (p : Nat) : Nat := framesToNs (48 + (s.port p).tail)

/-- Does a port run its STOP_TAIL (APp_STATUS.LEAD)? -/
def State.inTail (s : State) (p : Nat) : Bool :=
  let x := s.port p
  x.phase == 3 && decide (0 < x.tail) && decide (x.since + framesToNs 48 ≤ s.now)

/-- PORT_CLOCK_LOSS (R197): cause 1 loss, 2 glitch, 3 rate change. In the recovery wait a further condition restarts the wait. -/
def execPortClockLoss (t p cause : Nat) (s0 : State) : Host.Outcome State Fault Refusal :=
  let s := s0.at t
  let x := s.port p
  if p < s.dev.variant.ports ∧ s.portClock p = 1 ∧ 1 ≤ cause ∧ cause ≤ 3 ∧ (x.phase = 1 ∨ x.phase = 2 ∨ x.phase = 4) then
    let w := setFld (setFld (s.rd (Reg.AP_STATUS p)) 31 28 (4 + cause)) 27 27 0
    let s1 := ((s.setPort p { x with phase := 4, since := s.now, losses := x.losses + 1 }).wr (Reg.AP_STATUS p) w).bump
      (Reg.AP_CNT_CLOCK_LOST p)
    let s2 := if x.phase = 4 then s1 else s1.audEvent 1
    .next (s2.audioLost (9216 + p))
  else .next s

/-- PORT_RECOVERY (R197): 100 ms with no further condition. -/
def execPortRecovery (t p : Nat) (s0 : State) : Host.Outcome State Fault Refusal :=
  let s := s0.at t
  let x := s.port p
  if p < s.dev.variant.ports ∧ x.phase = 4 ∧ x.since + 100000000 ≤ s.now then .next ((s.portLead p).audEvent 2) else .next s

/-- FOLLOW_RANGE (R198): the loop of a follow port has needed more than ±100 ppm for 1 s; `low` says at which limit. The FIFO slips
locally: below the lower limit it runs empty and repeats a block. -/
def execFollowRange (t p : Nat) (low : Bool) (s0 : State) : Host.Outcome State Fault Refusal :=
  let s := s0.at t
  let x := s.port p
  let since : Option Nat := match x.atLimit with
    | some (l, at_) => if l = low then some at_ else none
    | none => none
  match since with
  | none => .next s
  | some at_ =>
    if p < s.dev.variant.ports ∧ s.portClock p = 2 ∧ x.phase = 2 ∧ at_ + 1000000000 ≤ s.now then
      let s1 := ((s.wr (Reg.AP_NCO p) (BitVec.ofInt 32 (if low then -10000 else 10000))).wrBit (Reg.AP_STATUS p) 26 true).audEvent 3
      let s2 := (s1.raise (0x030 + p) 0x31 p 2).setPort p { x with slips := x.slips + 1, slip := some (s.aud.block, !low, false) }
      .next (((s2.bump (Reg.AP_CNT_SLIP p)).bump Reg.AUD_CNT_SLIP).audEvent 0)
    else .next s

/-! Changes at a headland. -/

/-- The first sample whose time is at or after an instant of device time (R185, R188). -/
def firstSample (ns : Int) : Nat := ((ns * 48000 + 999999999) / 1000000000).toNat

/-- The switches of a destination with a new one from `old` to `new` at sample st (R182, R186): one at the same sample takes the place of that before it; of two
that run the older is over there. -/
def addSwitch (ws : List AudSwitch) (old new : Option Nat) (st len : Nat) : List AudSwitch :=
  match ws.getLast? with
  | some w =>
    if w.start = st then
      ws.dropLast ++ if w.old = new then [] else [{ w with new := new, length := len, stop := st + len }]
    else
      let running := ws.filter fun x => decide (x.start ≤ st) && decide (st < x.stop)
      let cutOld (x : AudSwitch) : AudSwitch := if 2 ≤ running.length ∧ running.head? = some x then { x with stop := st } else x
      ws.map cutOld ++ [⟨old, new, st, len, st + len⟩]
  | none => [⟨old, new, st, len, st + len⟩]

/-- A destination channel takes a source (R185, R186). -/
def State.switchAudio (s : State) (d : Nat) (new : Option Nat) (ns : Int) (gen : Nat) : State :=
  let row := Tab.get idleARow s.xpt.aout d
  let s1 := s.setXpt { s.xpt with aout := Tab.put idleARow s.xpt.aout d ⟨new, gen⟩ }
  if row.src = new then s1
  else
    let w := s.rd (Reg.AUD_GAIN d)
    let non := (row.src.map s.aud.nonAudio.contains).getD false || (new.map s.aud.nonAudio.contains).getD false
    let len := if bit w 31 && !non then 48 * fld w 29 24 else 0
    let y := Tab.get coldDst s.aud.dsts d
    (s1.setAud { s1.aud with
      dsts := Tab.put coldDst s1.aud.dsts d { y with switches := addSwitch y.switches row.src new (firstSample ns) len } })

/-- A destination takes a gain code (R184): the factor ramps from where it is. -/
def State.setGain (s : State) (d code : Nat) (ns : Int) : State :=
  let y := Tab.get coldDst s.aud.dsts d
  let st := firstSample ns
  let now := (gainAt y.ramp (s.rdFld (Reg.AUD_GAIN d) 11 0) st).toNat
  let s1 := s.wrFld (Reg.AUD_GAIN d) 11 0 code
  (s1.setAud { s1.aud with dsts := Tab.put coldDst s1.aud.dsts d { y with ramp := some (now, gainFactor code, st) } })

end Sys2Proof.Machine
end

