-- ==== Sys2Proof/Machine/Fratin.lean ====
section
/-! DEFINITION. The Fratin protocol: receiving, duplicate removal, the checks every message passes, replies, salvo parts and QUERY
(R97–R112, R432, R513, R515). -/
namespace Sys2Proof.Machine

/-- The device's own ID (R35). -/
def State.systemId (s : State) : Nat := s.rdFld Reg.BOOT_SYSTEM_ID 13 0

/-- The pair's ID. -/
def State.pairId (s : State) : Nat := s.rdFld Reg.BOOT_SYSTEM_ID 29 16

/-! Replies (R98, R101, R111). -/

/-- The bytes of a key; none is loaded in SAFE after ROM fallback (R46). -/
def State.keyBytes (s : State) (k : Nat) : List Byte :=
  match Tab.find? s.cfg.keys k with
  | some x => x.key
  | none => []

/-- A message from the device: header, body, tag (R98). FLAGS.REPLY is set. -/
def State.fratinMsg (s : State) (r : ReplyTo) (type : Nat) (body : List Byte) : List Byte :=
  let head := toBe 2 0x4652 ++ [1, BitVec.ofNat 8 type] ++ toBe 2 (40 + body.length) ++ toBe 2 1 ++ toBe 2 r.sender ++
    toBe 2 s.systemId ++ [BitVec.ofNat 8 r.key, 0, 0, 0] ++ toBe 4 (s.rd Reg.LIFE_BOOTS_LO).toNat ++ toBe 4 s.xpt.ownSeq
  head ++ body ++ (hmacSha256 (s.keyBytes r.key) (head ++ body)).take 16

/-- A reply goes out (R101, R208, R226): to the mailbox, never gated; to an MGT port through the key gate, or through the second gate of
ALONGSIDE; by REPLY_RELAY from a follower. -/
def State.sendReply (s : State) (r : ReplyTo) (bytes : List Byte) : State :=
  match r.path with
  | .mailbox => s.mbxReply bytes
  | .mgt p =>
    if s.ctl.role = .follower then
      if s.twn.wall.up then s.sendWall (.replyRelay r.ip r.udp p bytes) else s
    else if s.gateOpen || (s.ctl.role == .alongside && r.own) then s.emit (.fratin r.path r.ip r.udp bytes)
    else s

/-- A sender never heard of. -/
def coldSender : Sender := ⟨0, 0, [], []⟩

/-- A reply is built, kept among the sender's last 16, and sent; a follower does not reply to messages addressed to the PAIR_ID (R226). -/
def State.answer (s : State) (r : ReplyTo) (type : Nat) (body : List Byte) : State :=
  if s.ctl.role = .follower ∧ r.own = false then s
  else
    let bytes := s.fratinMsg r type body
    let x := Tab.get coldSender s.xpt.senders r.sender
    let s1 := s.setXpt { s.xpt with
      ownSeq := (s.xpt.ownSeq + 1) % 4294967296
      senders := Tab.put coldSender s.xpt.senders r.sender { x with replies := ((r.seq, r, bytes) :: x.replies).take 16 } }
    s1.sendReply r bytes

/-- An ACK body (R111). -/
def ackBody (r : ReplyTo) (aflags entries value headland commit : Nat) : List Byte :=
  toBe 4 r.seq ++ [BitVec.ofNat 8 r.type, BitVec.ofNat 8 aflags] ++ toBe 2 entries ++ toBe 4 value ++ toBe 8 headland ++ timeBytes commit

/-- Acknowledge. -/
def State.ackMsg (s : State) (r : ReplyTo) (aflags entries value headland commit : Nat) : State :=
  s.answer r 0x7E (ackBody r aflags entries value headland commit)

/-- Refuse (R111, R112). -/
def State.nakMsg (s : State) (r : ReplyTo) (reason index detail detail2 : Nat) : State :=
  s.answer r 0x7F (toBe 4 r.seq ++ [BitVec.ofNat 8 r.type, BitVec.ofNat 8 reason] ++ toBe 2 index ++ toBe 4 detail ++ toBe 4 detail2)

/-! Reading bodies. -/

/-- Is MONO set? -/
def isMono (e : Entry) : Bool := e.levels.testBit 6

/-- Does an entry break R513 or the ranges of R103? -/
def entryBad (b : List Byte) : Bool :=
  let e := readEntry b
  let top := if isMono e then 16383 else 4095
  byteAt b 1 != 0 || e.levels / 8 % 8 != 0 || decide (top < e.dest) || decide (top < e.src)

/-- The index of the first bad entry. -/
def firstBad (p : List Byte → Bool) (size : Nat) : Nat → Nat → List Byte → Option Nat
  | 0, _, _ => none
  | n + 1, i, b => if p (b.take size) then some i else firstBad p size n (i + 1) (b.drop size)

/-- An effective time with LATE_OK; none where it breaks R104 or R513. TG is read with FRAME only. A TIME's fraction counts as the next whole ns. -/
def readEff (b : List Byte) : Option (EffTime × Bool) :=
  let late := byteAt b 1 == 1
  if 1 < byteAt b 1 ∨ byteAt b 3 ≠ 0 then none
  else if byteAt b 0 = 0 then (if allZero (slice b 4 12) then some (.next, late) else none)
  else if byteAt b 0 = 1 then (if allZero (slice b 12 4) && decide (byteAt b 2 ≤ 15) then some (.frame (byteAt b 2) (beAt b 4 8), late) else none)
  else if byteAt b 0 = 2 then
    let ns := beAt b 10 4
    if 999999999 < ns then none
    else some (.time (beAt b 4 6 * 1000000000 + ns + (if beAt b 14 2 = 0 then 0 else 1)), late)
  else none

/-- The VALUE bytes of a live-set parameter that its layout shows as 0 (R109, R513). -/
def liveZeros (param sub : Nat) : List Nat :=
  let from_ (n : Nat) : List Nat := (List.range (8 - n)).map (· + n)
  match param with
  | 0x02 => from_ 4 | 0x03 => from_ 4 | 0x04 => from_ 2 | 0x05 => [0, 1] | 0x06 => from_ 1 | 0x07 => from_ 1 | 0x08 => [0, 1]
  | 0x09 => from_ 1 | 0x0A => from_ 1 | 0x0B => from_ 1 | 0x0C => from_ 1 | 0x0E => from_ 1 | 0x0F => from_ 1
  | 0x10 => from_ 2 | 0x11 => from_ 2 | 0x13 => from_ 2 | 0x14 => from_ 2 | 0x15 => from_ 1 | 0x16 => from_ 2
  | 0x17 => from_ 1 | 0x18 => from_ 2 | 0x19 => from_ 1 | 0x1A => from_ 1 | 0x1B => from_ 4 | 0x1C => from_ 4
  | 0x1D => if sub = 1 then from_ 0 else from_ 1
  | 0x1E => from_ 1 | 0x1F => from_ 2 | 0x20 => from_ 4 | 0x21 => from_ 4 | 0x22 => from_ 2 | 0x23 => from_ 2 | 0x24 => from_ 2
  | 0x25 => [1] | 0x26 => from_ 2 | 0x27 => from_ 2 | 0x28 => from_ 1
  | _ => []

/-- Does a LIVE_SET entry break R513? -/
def liveBad (b : List Byte) : Bool :=
  beAt b 2 2 != 0 || (liveZeros (byteAt b 0) (byteAt b 1)).any fun i => byteAt b (8 + i) != 0

/-- Layout of a LINTEL body (R172): a fault is LINTEL_BAD_OP. -/
def lintelBad (b : List Byte) : Bool :=
  let op := byteAt b 0
  let n := b.length
  decide (op < 1) || decide (4 < op) || (decide (op ≤ 2) && (n != 4 || byteAt b 1 != 0)) ||
    (op != 1 && beAt b 2 2 != 0) || (op == 4 && n != 4) ||
    (op == 3 && (decide (n < 16) || byteAt b 11 != 0 || beAt b 14 2 != 0 || n != 16 + beAt b 12 2))

/-- The first fault of a message's layout: reason and ENTRY_INDEX (R513, R515). -/
def layoutFault (type : Nat) (b : List Byte) : Option (Nat × Nat) :=
  let n := b.length
  let bad : Option (Nat × Nat) := some (1, 0xFFFF)
  match type with
  | 0x01 =>
    if n ≠ 24 ∨ (readEff b).isNone then bad
    else if entryBad (b.drop 16) then some (1, 0) else none
  | 0x02 =>
    let k := beAt b 8 2
    if n < 12 ∨ n ≠ 12 + 8 * k ∨ k < 1 ∨ 256 < k ∨ beAt b 6 2 < 1 ∨ 256 < beAt b 6 2 ∨ beAt b 6 2 ≤ beAt b 4 2 ∨ beAt b 10 2 ≠ 0 then bad
    else (firstBad entryBad 8 k 0 (b.drop 12)).map fun i => (1, i)
  | 0x03 =>
    if n ≠ 28 ∨ beAt b 6 2 ≠ 0 ∨ beAt b 4 2 < 1 ∨ 256 < beAt b 4 2 ∨ (readEff (b.drop 12)).isNone then bad else none
  | 0x10 =>
    let top := if byteAt b 1 = 0 then 4095 else 16383
    if n ≠ 8 ∨ 1 < byteAt b 0 ∨ 1 < byteAt b 1 ∨ top < beAt b 2 2 ∨ beAt b 4 2 < 1 ∨ 100 < beAt b 4 2 ∨ beAt b 6 2 ≠ 0 then bad else none
  | 0x11 => if n ≠ 8 ∨ beAt b 0 2 < 1 ∨ 9 < beAt b 0 2 ∨ beAt b 2 2 ≠ 0 then bad else none
  | 0x20 =>
    let k := beAt b 0 2
    if n < 4 ∨ k < 1 ∨ 64 < k ∨ beAt b 2 2 ≠ 0 ∨ n ≠ 4 + 16 * k then bad
    else (firstBad liveBad 16 k 0 (b.drop 4)).map fun i => (1, i)
  | 0x30 =>
    let op := byteAt b 0
    if n < 4 ∨ op < 1 ∨ 6 < op ∨ 1 < byteAt b 1 ∨ 1 < byteAt b 3 then bad
    else if op = 1 then (if n = 12 then none else bad)
    else if op = 2 then
      let k := beAt b 8 2
      if n < 16 ∨ k < 1 ∨ 1024 < k ∨ beAt b 10 2 ≠ 0 ∨ n ≠ 16 + k then bad else none
    else if n = 4 then none else bad
  | 0x40 => if lintelBad b then some (0x30, 0xFFFF) else none
  | _ => none

/-- Is a TYPE listed (R102)? -/
def typeListed (t : Nat) : Bool := [0x01, 0x02, 0x03, 0x10, 0x11, 0x20, 0x30, 0x40, 0x7E, 0x7F].contains t

/-- Does a key permit a type (R99)? -/
def keyPermits (k : FKey) (key type : Nat) : Bool :=
  if key = 15 then type == 0x40
  else if type = 1 ∨ type = 2 ∨ type = 3 then k.mask.testBit 0
  else if type = 0x20 then k.mask.testBit 1
  else if type = 0x10 ∨ type = 0x11 then k.mask.testBit 2
  else if type = 0x30 then k.mask.testBit 3
  else false

/-- Does the mode allow a type (R61)? -/
def State.modeAllows (s : State) (type : Nat) : Bool :=
  match s.ctl.mode with
  | .service => true
  | .join => type == 0x10 || type == 0x11 || type == 0x30
  | .safe => type == 0x10 || type == 0x11 || type == 0x30
  | _ => false

/-- A follower refuses these when they are addressed to its own SYSTEM_ID (R226). -/
def ownRefused (type : Nat) : Bool := type == 1 || type == 3 || type == 0x20 || type == 0x40

/-- The checks 1–4 of R515: reason, ENTRY_INDEX, DETAIL of the first failure. `headBad`: the header breaks R513. -/
def State.firstFault (s : State) (r : ReplyTo) (headBad : Bool) (body : List Byte) : Option (Nat × Nat × Nat) :=
  let rom := s.ctl.mode == .safe && s.boot.romFallback
  let permitted := rom || match Tab.find? s.cfg.keys r.key with
    | some k => keyPermits k r.key r.type
    | none => false
  if typeListed r.type = false then some (0x02, 0xFFFF, 0)
  else if permitted = false then some (0x03, 0xFFFF, 0)
  else if headBad then some (0x01, 0xFFFF, 0)
  else match layoutFault r.type body with
    | some (reason, i) => some (reason, i, 0)
    | none =>
      if s.modeAllows r.type = false then some (0x04, 0xFFFF, 0)
      else if s.ctl.role = .follower ∧ r.own = true ∧ ownRefused r.type = true then some (0x04, 0xFFFF, 1)
      else none

/-! Receiving (R88, R97–R101). -/

/-- What duplicate removal says of a message (R100): processed; a duplicate with the instant of the first copy; dropped. -/
inductive Dedup where
  | fresh (x : Sender)
  | dup (first : Nat)
  | stale
  | full
  deriving DecidableEq, Repr

/-- Duplicate removal (R100). -/
def State.dedup (s : State) (sender session seq : Nat) : Dedup :=
  match Tab.find? s.xpt.senders sender with
  | none => if 64 ≤ s.xpt.senders.length then .full else .fresh ⟨session, seq, [(seq, s.now)], []⟩
  | some x =>
    if x.session < session then .fresh ⟨session, seq, [(seq, s.now)], []⟩
    else if session < x.session then .stale
    else if x.highest < seq then
      .fresh { x with highest := seq, seen := (seq, s.now) :: x.seen.filter fun e => decide (seq ≤ e.1 + 1024) }
    else if seq + 1024 < x.highest then .stale
    else match x.seen.find? fun e => e.1 == seq with
      | some e => .dup e.2
      | none => .fresh { x with seen := (seq, s.now) :: x.seen }

/-- A message is dropped under R99. -/
def State.authFail (s : State) : State := (s.bump Reg.XPT_CNT_AUTH_FAIL).xptEvent 4

/-- A processed message: the receive queue of 256 has room (R88), and the checks of R515; a drop at a full queue leaves its SEQ unseen, so that a
retransmission is processed. -/
def State.acceptMsg (s : State) (r : ReplyTo) (x : Sender) (headBad toPair : Bool) (flags : Nat) (body : List Byte) : State :=
  let marked := s.setXpt { s.xpt with senders := Tab.put coldSender s.xpt.senders r.sender x }
  if 256 ≤ s.xpt.rx.length then (s.bump Reg.XPT_CNT_RX_DROP).xptEvent 5
  else match marked.firstFault r headBad body with
  | some (reason, i, detail) =>
    let s1 := if reason = 0x03 ∧ r.type = 0x40 then marked.lintelRefused else marked
    let s2 := if r.type = 0x20 then s1.bump Reg.XPT_CNT_REFUSED else s1
    s2.nakMsg r reason i detail 0
  | none => marked.setXpt { marked.xpt with rx := marked.xpt.rx ++ [⟨r, flags, toPair, body⟩] }

/-- A duplicate (R101): one that arrives 1 ms or more after the first copy gets the stored reply again. -/
def State.duplicateMsg (s : State) (sender seq first : Nat) : State :=
  let s1 := s.bump Reg.XPT_CNT_DUPLICATE
  if s.now < first + 1000000 then s1
  else match (Tab.get coldSender s.xpt.senders sender).replies.find? fun e => e.1 == seq with
    | some (_, r, bytes) => if s1.ctl.role = .follower ∧ r.own = false then s1 else s1.sendReply r bytes
    | none => s1

/-- A datagram or a mailbox message (R97–R101, R515). In SAFE after ROM fallback only the mailbox is heard, and tags are not checked (R46); nor
is an MGT port served in TEST (R57). An
ALONGSIDE device ignores messages to the PAIR_ID (R240). -/
def State.receiveMsg (s : State) (path : MsgPath) (ip udp : Nat) (bs : List Byte) : State :=
  let rom := s.ctl.mode == .safe && s.boot.romFallback
  let n := bs.length
  let headOk := decide (40 ≤ n) && decide (n ≤ 9000) && beAt bs 0 2 == 0x4652 && byteAt bs 2 == 1 && beAt bs 4 2 == n
  let key := byteAt bs 12
  let tagOk := rom || match Tab.find? s.cfg.keys key with
    | some k => (hmacSha256 k.key (bs.take (n - 16))).take 16 == bs.drop (n - 16)
    | none => false
  if (rom || s.ctl.mode == .test) && path != .mailbox then s
  else if (headOk && tagOk) = false then s.authFail
  else
    let dest := beAt bs 8 2
    let toPair := decide (32768 ≤ dest)
    let id := dest % 16384
    if (if toPair then id != s.pairId else id != s.systemId) || (toPair && s.ctl.role == .alongside) then s
    else
      let flags := beAt bs 6 2
      let type := byteAt bs 3
      let sender := beAt bs 10 2
      let seq := beAt bs 20 4
      let headBad := decide (3 < flags) || flags % 2 == 1 || (decide (2 ≤ flags) && type != 1 && type != 3) ||
        beAt bs 13 3 != 0 || dest / 16384 % 2 == 1 || sender == 0
      let r : ReplyTo := ⟨path, ip, udp, key, sender, seq, type, !toPair⟩
      match s.dedup sender (beAt bs 16 4) seq with
      | .fresh x => s.acceptMsg r x headBad toPair flags (slice bs 24 (n - 40))
      | .dup first => s.duplicateMsg sender seq first
      | .stale => s.bump Reg.XPT_CNT_STALE
      | .full => (s.bump Reg.XPT_CNT_STALE).xptEvent 7

/-- Is a datagram on a management port for this device (R97, R332): not a fragment, to its address or its group, to the Fratin port, in a mode in which
the port is served? -/
def State.mgtTakes (s : State) (i : Nat) (d : Datagram) : Bool :=
  let group := (s.rd (Reg.MAC_IPV4_GROUP (1032 + i))).toNat
  s.rwlLocked && !d.fragment && d.dport == s.cfg.udpPort &&
    (d.dst == (s.rd (Reg.MAC_IPV4_ADDR (1032 + i))).toNat || (d.dst == group && group != 0))

/-- FRATIN_RECEIVE (R97, R99). -/
def execFratinReceive (t : Nat) (path : MsgPath) (d : Datagram) (s0 : State) : Host.Outcome State Fault Refusal :=
  let s := s0.at t
  match path with
  | .mgt i => if s.mgtTakes i d then .next (s.receiveMsg path d.ip d.udp d.data) else .next s
  | .mailbox => .next (s.receiveMsg path 0 0 d.data)

/-- MBX_IN_TAKEN (R432): the message in the mailbox is received; BUSY falls. -/
def execMbxInTaken (t : Nat) (s0 : State) : Host.Outcome State Fault Refusal :=
  let s := s0.at t
  if s.mbxBusy then
    let n := s.card.mbxLen
    let bytes := Tab.bytes 0 s.card.mbxIn 0 n
    .next (((s.wrBit Reg.CPT_MBX_IN_CTRL 30 false).receiveMsg .mailbox 0 0 bytes).cptEvent 1)
  else .next s

/-! Types. -/

/-- Take the message at the front of the receive queue, if it is of a type. -/
def State.takeMsg (s : State) (type : Nat) : Option (Msg × State) :=
  match s.xpt.rx with
  | m :: rest => if m.reply.type = type then some (m, (s.setXpt { s.xpt with rx := rest })) else none
  | [] => none

/-- A complete salvo is queued for validation (R106). -/
def State.queueSalvo (s : State) (v : Salvo) : State := s.setXpt { s.xpt with queue := s.xpt.queue ++ [v] }

/-- TAKE (R105): a salvo of one entry. A device that has left SERVICE since discards the request (R514). -/
def execTake (t : Nat) (s0 : State) : Host.Outcome State Fault Refusal :=
  let s := s0.at t
  match s.takeMsg 1 with
  | none => .next s
  | some (m, s1) =>
    match readEff m.body, s1.ctl.mode with
    | some (eff, late), .service =>
      .next (s1.queueSalvo ⟨m.reply, m.reply.seq, [readEntry (m.body.drop 16)], eff, late, m.flags.testBit 1⟩)
    | _, _ => .next s1

/-- The open salvo of a sender and SALVO_ID. -/
def State.openSalvo (s : State) (sender id : Nat) : Option OpenSalvo :=
  s.xpt.opened.find? fun o => o.sender == sender && o.id == id

/-- Replace or add an open salvo. -/
def State.putOpen (s : State) (o : OpenSalvo) : State :=
  s.setXpt { s.xpt with
      opened := (s.xpt.opened.filter fun x => !(x.sender == o.sender && x.id == o.id)) ++ [o] }

/-- Close an open salvo. -/
def State.closeSalvo (s : State) (sender id : Nat) : State :=
  s.setXpt { s.xpt with opened := s.xpt.opened.filter fun x => !(x.sender == sender && x.id == id) }

/-- SALVO_PART (R106): a part already held is acknowledged again without change; a part for a seventeenth salvo is refused. -/
def execSalvoPart (t : Nat) (s0 : State) : Host.Outcome State Fault Refusal :=
  let s := s0.at t
  match s.takeMsg 2 with
  | none => .next s
  | some (m, s1) =>
    if s1.ctl.mode ≠ .service then .next s1
    else
      let id := beAt m.body 0 4
      let i := beAt m.body 4 2
      let es := readEntries (beAt m.body 8 2) (m.body.drop 12)
      match s1.openSalvo m.reply.sender id with
      | some o =>
        let o1 : OpenSalvo := { o with
          parts := if (Tab.find? o.parts i).isSome then o.parts else Tab.insert o.parts i es, last := s1.now }
        .next ((s1.putOpen o1).ackMsg m.reply 0 o1.parts.length 0 0 0)
      | none =>
        if 16 ≤ s1.xpt.opened.length then .next (s1.nakMsg m.reply 0x22 0xFFFF 0 0)
        else .next ((s1.putOpen ⟨m.reply.sender, id, beAt m.body 6 2, [(i, es)], s1.now⟩).ackMsg m.reply 0 1 0 0 0)

/-- SALVO_COMMIT (R106): an unknown salvo is refused; an incomplete one is refused and stays open; a complete one is closed and
queued. -/
def execSalvoCommit (t : Nat) (s0 : State) : Host.Outcome State Fault Refusal :=
  let s := s0.at t
  match s.takeMsg 3 with
  | none => .next s
  | some (m, s1) =>
    let id := beAt m.body 0 4
    match readEff (m.body.drop 12), s1.ctl.mode with
    | some (eff, late), .service =>
      match s1.openSalvo m.reply.sender id with
      | none => .next (s1.nakMsg m.reply 0x20 0xFFFF 0 0)
      | some o =>
        let count := beAt m.body 4 2
        let missing := (List.range count).find? fun i => (Tab.find? o.parts i).isNone
        let es := o.parts.flatMap fun p => p.2
        if missing.isSome ∨ es.length ≠ beAt m.body 8 4 then
          .next ((s1.putOpen { o with last := s1.now }).nakMsg m.reply 0x21 0xFFFF (missing.getD 0xFFFFFFFF) 0)
        else .next ((s1.closeSalvo m.reply.sender id).queueSalvo ⟨m.reply, id, es, eff, late, m.flags.testBit 1⟩)
    | _, _ => .next s1

/-- SALVO_OPEN_TIMEOUT (R106): 1 s with no part or commit. -/
def execSalvoOpenTimeout (t : Nat) (s0 : State) : Host.Outcome State Fault Refusal :=
  let s := s0.at t
  .next (s.setXpt { s.xpt with opened := s.xpt.opened.filter fun o => decide (s.now < o.last + 1000000000) })

/-! QUERY (R107). -/

/-- Does a row's generation differ from the on-air generation, in the IMMEDIATE model (R91)? -/
def State.mixedGen (s : State) (gen : Nat) : Bool :=
  s.ctl.immediate && gen != (s.rd Reg.XPT_GEN_ONAIR).toNat

/-- A QUERY record. What SRC reads for a silent audio destination is not stated: a free value. -/
def queryRecord (v : Tab VRow) (a : Tab ARow) (audio : Bool) (silent d : Nat) : List Byte :=
  if audio then
    let r := Tab.get idleARow a d
    let src := r.src.getD silent
    toBe 2 d ++ toBe 2 src ++ toBe 2 src ++ toBe 2 0xFFFF ++ toBe 4 r.gen
  else
    let r := Tab.get idleRow v d
    toBe 2 d ++ toBe 2 r.srcV ++ toBe 2 r.srcN ++ toBe 2 r.amap ++ toBe 4 r.gen

/-- QUERY (R107): all records of one reply are taken between two headland loads. -/
def execQuery (t : Nat) (s0 : State) : Host.Outcome State Fault Refusal :=
  let s := s0.at t
  match s.takeMsg 0x10 with
  | none => .next s
  | some (m, s1) =>
    let b := m.body
    let air := byteAt b 0 == 1
    let audio := byteAt b 1 == 1
    let first := beAt b 2 2
    let count := min (beAt b 4 2) ((if audio then 16384 else 4096) - first)
    let v := if air then s1.xpt.vair else s1.xpt.vcom
    let a := if air then s1.xpt.aair else s1.xpt.acom
    let ds := (List.range count).map (first + ·)
    let gen := (s1.rd (if air then Reg.XPT_GEN_ONAIR else Reg.XPT_GEN_COMMITTED)).toNat
    let mixed := air && ds.any fun d => s1.mixedGen (if audio then (Tab.get idleARow a d).gen else (Tab.get idleRow v d).gen)
    let silent := s1.freeVal % 65536
    let body := slice b 0 4 ++ toBe 2 count ++ [0, 0] ++ toBe 4 gen ++ toBe 4 (b2n mixed) ++
      ds.flatMap (queryRecord v a audio silent)
    .next ((s1.freeNext).answer m.reply 0x10 body)

end Sys2Proof.Machine
end

