-- ==== Sys2Proof/Machine/Ptp.lean ====
section
/-! DEFINITION. Device time, the PTP servo, the best master clock algorithm and PPS (R364–R381). -/
namespace Sys2Proof.Machine

/-- Device time in 10⁻⁹ ns (R364). -/
def State.fineTime (s : State) : Nat := ((s.now : Int) * 1000000000 + s.ptp.offset).toNat

/-- A signed value saturated to 32 bits. -/
def sat32 (x : Int) : Nat := ofSigned 32 (clampInt (-2147483648) 2147483647 x)

/-- The STEP_LIMIT in force, in ns (R374). -/
def State.stepLimit (s : State) : Nat := s.rdFld Reg.PTP_STEP 29 0

/-- Is PTP port k enabled: declared, on the lead lane of an Ethernet port of role MEDIA or THROUGH (R370, R331)? -/
def State.ptpEnabled (s : State) (k : Nat) : Bool :=
  let c := s.rd (Reg.PTPP_CFG k)
  let lane := fld c 9 0
  let pers := s.rdFld (Reg.LAN_CFG lane) 31 28
  decide (k < 64) && bit c 31 && s.lanePresent lane && (pers == 3 || pers == 4 || (pers == 5 && lane % 4 == 0)) &&
    s.rdFld (Reg.MAC_CFG lane) 31 30 != 1

/-- The state of a PTP port (R382). -/
def State.ptpPort (s : State) (k : Nat) : Nat := s.rdFld (Reg.PTPP_STATE k) 27 24

/-- Device time set directly, by an offset measured against the master (R365, R375). The groups that have acquired go on: their frame starts move with it. -/
def State.setDeviceTime (s : State) (off : Int) : State :=
  (s.setTmg (s.tmg.map fun e => (e.1, if e.2.acquired then { e.2 with start := e.2.start - off } else e.2))).setPtp
    { s.ptp with offset := s.ptp.offset - off * 1000000000, set := true }

/-! The servo (R373–R375). -/

/-- The rate averaged over the last 60 s, in ppb (R373). -/
def State.meanRate (s : State) : Int :=
  let from_ := s.now - 60000000000
  let rec go (hi : Nat) : List (Nat × Int) → Int
    | [] => 0
    | (t, r) :: rest => if t ≤ from_ then ((hi - from_ : Nat) : Int) * r else ((hi - t : Nat) : Int) * r + go t rest
  go s.now s.ptp.rates / ((s.now - from_ : Nat) : Int)

/-- A new rate of device time: the loop filter's, a free value within ±200 ppm (R373 gives the loop's kind and range, not
its coefficients). -/
def State.steer (s : State) : State :=
  let r : Int := ((s.freeVal % 400001 : Nat) : Int) - 200000
  let s1 := s.freeNext
  (s1.setPtp { s1.ptp with rate := r, rates := ((s1.now, r) :: s1.ptp.rates).take 1024 }).wr Reg.PTP_FREQ
    (BitVec.ofNat 32 (ofSigned 32 r))

/-- LOCKED rises and falls (R373): 16 offsets in a row within ±200 ns; the mean of 16 beyond 1 µs. -/
def State.servoLock (s : State) (off : Int) : State :=
  let run := if off.natAbs ≤ 200 then s.ptp.run + 1 else 0
  let offs := (off :: s.ptp.offsets).take 16
  let s1 := s.setPtp { s.ptp with run := run, offsets := offs }
  let sum := offs.foldl (· + ·) 0
  if !s1.rdBit Reg.PTP_STATUS 30 then
    if 16 ≤ run then
      (((s1.wrBit Reg.PTP_STATUS 30 true).wrBit Reg.PTP_STATUS 31 true).wrBit Reg.PTP_STATUS 29 false).ptpEvent 0
    else s1
  else if offs.length = 16 ∧ 16000 < sum.natAbs then (s1.wrBit Reg.PTP_STATUS 30 false).ptpEvent 1
  else s1

/-- A refusal episode ends (R374). -/
def State.endRefusal (s : State) : State :=
  (s.setPtp { s.ptp with refused := none }).wrBit Reg.PTP_STATUS 28 false

/-- A measurement is refused (R374): the episode is counted and raised once; every refused step is a glitch of the PTP
candidates (R256); an offset beyond ±200 ns ends the run towards lock (R373). -/
def State.refuseStep (s : State) (off : Int) : State :=
  let s1 := (s.setPtp { s.ptp with run := if off.natAbs ≤ 200 then s.ptp.run else 0 }).wr Reg.PTP_REFUSED
    (BitVec.ofNat 32 (sat32 off))
  let s2 := match s.ptp.refused with
    | some e =>
      let lo := min e.least off
      let hi := max e.most off
      if hi - lo ≤ 1000 then s1.setPtp { s1.ptp with refused := some ⟨e.since, lo, hi, off⟩ }
      else s1.setPtp { s1.ptp with refused := some ⟨s1.now, off, off, off⟩ }
    | none =>
      ((((s1.setPtp { s1.ptp with refused := some ⟨s1.now, off, off, off⟩ }).wrBit Reg.PTP_STATUS 28 true).bump
        Reg.PTP_CNT_REFUSED).ptpEvent 3).raise 0x01A 0x52 (sat32 off) 2
  s2.ptpGlitch

/-- The servo handles an offset and mean path delay (R365, R373, R374). -/
def State.servo (s : State) (off delay : Int) : State :=
  let s1 := (s.wr Reg.PTP_OFFSET (BitVec.ofNat 32 (sat32 off))).wr Reg.PTP_PATH_DELAY (BitVec.ofNat 32 (sat32 delay))
  if !s1.ptp.set && !s1.ctl.entered then s1.setDeviceTime off
  else if s1.rdBit Reg.PTP_STATUS 27 then s1
  else if (s1.stepLimit : Int) < off.natAbs then s1.refuseStep off
  else
    let s2 := if s1.ptp.refused.isSome then s1.endRefusal else s1
    (s2.steer).servoLock off

/-! The best master clock algorithm (R371; IEEE 1588-2019, 9.3). -/

/-- The order of two data sets: lower is better, by priority1, class, accuracy, variance, priority2, identity; for one
grandmaster by steps removed, then by sender. -/
def PtpDs.better (a b : PtpDs) : Bool :=
  if a.identity = b.identity then
    decide (a.steps < b.steps) || (a.steps == b.steps && decide (a.sender < b.sender))
  else
    let key (d : PtpDs) : List Nat := [d.priority1, d.clockClass, d.accuracy, d.variance, d.priority2, d.identity]
    let rec lt : List Nat → List Nat → Bool
      | x :: xs, y :: ys => decide (x < y) || (x == y && lt xs ys)
      | _, _ => false
    lt (key a) (key b)

/-- The device's clock identity, from the MAC address of MGT0 with 0xFFFE between its halves (PRESUMED, log 21). -/
def State.clockIdentity (s : State) : Nat :=
  let hi := s.rdFld (Reg.MAC_ADDR_HI 1032) 15 0
  let lo := (s.rd (Reg.MAC_ADDR_LO 1032)).toNat
  (hi * 256 + lo / 16777216) * 1099511627776 + 0xFFFE * 16777216 + lo % 16777216

/-- The device's own data set (R371: PTP_DEFAULT_DS; its variance 0xFFFF is PRESUMED, log 21). -/
def State.ownDs (s : State) : PtpDs :=
  let d := s.rd Reg.PTP_DEFAULT_DS
  ⟨fld d 31 24, fld d 15 8, fld d 7 0, 0xFFFF, fld d 23 16, s.clockIdentity, 0, s.clockIdentity⟩

/-- The best of the ports' best Announces, with its port. -/
def State.bestAnnounce (s : State) : Option (Nat × PtpDs) :=
  s.ptp.best.foldl (fun acc e =>
    if !s.ptpEnabled e.1 then acc
    else match acc with
      | none => some (e.1, e.2.1)
      | some (k, d) => if e.2.1.better d then some (e.1, e.2.1) else some (k, d)) none

/-- The clock type: 0 OC, 1 BC, 2 OC_SLAVE_ONLY; 3 acts as 2 (R371, R382). -/
def State.ptpRole (s : State) : Nat := let r := s.rdFld Reg.PTP_CFG 29 28; if r = 3 then 2 else r

/-- May a port become MASTER (R371)? -/
def State.mayMaster (s : State) (k : Nat) : Bool := s.ptpRole != 2 && !s.rdBit (Reg.PTPP_CFG k) 29

/-- The recommended state of a port: 6 MASTER, 9 SLAVE, 7 PASSIVE, 4 LISTENING (a port that may not be MASTER, or that has heard nothing and
whose announce timeout has not fallen), 0 unused. -/
def State.portDecision (s : State) (best : Option (Nat × PtpDs)) (k : Nat) : Nat :=
  let own := s.ownDs
  let master := if s.mayMaster k then 6 else 4
  let mine : Option PtpDs := (Tab.find? s.ptp.best k).map (·.1)
  if !s.ptpEnabled k then 0
  else if s.ptpPort k ≤ 4 ∧ mine = none then 4
  else if own.clockClass ≤ 127 then
    match mine with
    | some d => if d.better own then 7 else master
    | none => master
  else
    match best with
    | none => master
    | some (j, d) =>
      if own.better d then master
      else if j = k then 9
      else match mine with
        | some m => if m.identity = d.identity && decide (d.steps < m.steps) then 7 else if m.identity = d.identity then 7 else master
        | none => master

/-- Run the BMCA over the declared ports: port states, SLAVE_PORT, grandmaster identity, and a change of the followed
master, which is counted, is a glitch of the PTP candidates (R256, R374) and voids a refusal episode (R381). -/
def State.bmca (s : State) : State :=
  let best := s.bestAnnounce
  let s1 := (List.range 64).foldl (fun a k => a.wrFld (Reg.PTPP_STATE k) 27 24 (s.portDecision best k)) s
  let slave := (List.range 64).find? fun k => s.portDecision best k == 9
  let s2 := s1.wrFld Reg.PTP_STATUS 15 8 (slave.getD 0xFF)
  match slave, best with
  | some _, some (_, d) =>
    let s3 := ((s2.wrBit Reg.PTP_STATUS 25 false).wr Reg.PTP_GM_ID_LO (BitVec.ofNat 32 d.identity)).wr Reg.PTP_GM_ID_HI
      (BitVec.ofNat 32 (d.identity / 4294967296))
    if s3.ptp.master = some d.sender then s3
    else
      let changed := s3.ptp.master.isSome
      let s4 := (s3.setPtp { s3.ptp with master := some d.sender, lastSync := none }).endRefusal
      if changed then ((s4.bump Reg.PTP_CNT_MASTER_CHANGE).ptpEvent 2).ptpGlitch else s4
  | _, _ =>
    let gm := (List.range 64).any fun k => s.portDecision best k == 6
    let s3 := s2.wrBit Reg.PTP_STATUS 25 gm
    if gm then
      (s3.wr Reg.PTP_GM_ID_LO (BitVec.ofNat 32 s.clockIdentity)).wr Reg.PTP_GM_ID_HI
        (BitVec.ofNat 32 (s.clockIdentity / 4294967296))
    else s3

/-- Count a received PTP message; false when it is malformed, of a wrong domain or version (R382). -/
def State.ptpCount (s : State) (k domain version : Nat) : State × Bool :=
  let s1 := s.bump (Reg.PTPP_CNT_RX k)
  if domain = s.rdFld Reg.PTP_CFG 7 0 ∧ version = 2 then (s1, true) else (s1.bump (Reg.PTPP_CNT_BAD k), false)

/-! The meanings. -/

/-- An event message at a PTP port (R367, R373): kind 0, a Sync (with its Follow_Up): origin t1, ingress stamp t2; kind 1, a
Delay_Resp: origin t4, egress stamp t3; all in ps, with the correction. Ingress stamps are reduced by INGRESS_LAT,
egress stamps increased by EGRESS_LAT, ASYM is the delay asymmetry. -/
def State.eventMessage (s : State) (port kind domain version : Nat) (origin stamp correction : Int) : State :=
  if !s.ptpEnabled port then s
  else
    let (s1, good) := s.ptpCount port domain version
    if !good || s1.ptpPort port != 9 then s1
    else if kind = 0 then
      let t2 := stamp - (s1.rdFld (Reg.PTPP_INGRESS_LAT port) 23 0 : Int)
      s1.setPtp { s1.ptp with lastSync := some (t2 - origin - correction) }
    else
      match s1.ptp.lastSync with
      | none => s1
      | some ms =>
        let t3 := stamp + (s1.rdFld (Reg.PTPP_EGRESS_LAT port) 23 0 : Int)
        let sm := origin - t3 - correction
        let mean := (ms + sm) / 2
        let asym := toSigned 24 (s1.rdFld (Reg.PTPP_ASYM port) 23 0)
        s1.servo ((ms - mean - asym) / 1000) (mean / 1000)

/-- PTP_EVENT_RECEIVE (R367, R373). -/
def execPtpEventReceive (t port kind domain version : Nat) (origin stamp correction : Int) (s0 : State) :
    Host.Outcome State Fault Refusal := .next ((s0.at t).eventMessage port kind domain version origin stamp correction)

/-- An Announce at a PTP port (R371). -/
def State.announce (s : State) (port : Nat) (body : AnnounceBody) : State :=
  if !s.ptpEnabled port then s
  else
    let (s1, good) := s.ptpCount port body.domain body.version
    if !good then s1
    else
      let d : PtpDs := ⟨body.priority1, body.clockClass, body.accuracy, body.variance, body.priority2, body.identity,
        body.steps + 1, body.sender⟩
      let keep := match Tab.find? s1.ptp.best port with
        | some (o, _) => o.sender != d.sender && o.better d
        | none => false
      if keep then s1
      else (s1.setPtp { s1.ptp with best := Tab.insert s1.ptp.best port (d, s1.now) }).bmca

/-- ANNOUNCE_RECEIVE (R371). -/
def execAnnounceReceive (t port : Nat) (body : AnnounceBody) (s0 : State) : Host.Outcome State Fault Refusal := .next ((s0.at t).announce port body)

/-- Does an Announce that a port takes arrive in this instant (R381)? -/
def State.announceFalls (s : State) (port : Nat) : Bool :=
  s.sameInstant fun c => match c with
    | .announceReceive t k body => decide (t ≤ s.now) && k == port && (match Tab.find? (s.announce k body).ptp.best port with
      | some (_, u) => u == s.now
      | none => false)
    | _ => false

/-- Is a new master selected in this instant (R381)? -/
def State.masterFalls (s : State) : Bool :=
  s.sameInstant fun c => match c with
    | .announceReceive t k body => decide (t ≤ s.now) && (s.announce k body).ptp.master != s.ptp.master
    | _ => false

/-- Do the offsets return within STEP_LIMIT in this instant (R381)? -/
def State.offsetReturns (s : State) : Bool :=
  s.sameInstant fun c => match c with
    | .ptpEventReceive t port kind domain version origin stamp correction => decide (t ≤ s.now) &&
      (s.eventMessage port kind domain version origin stamp correction).ptp.refused.isNone
    | _ => false

/-- 2 to a signed power of seconds, in ns. -/
def logNs (e : Int) : Nat := if 0 ≤ e then 1000000000 * 2 ^ e.toNat else 1000000000 / 2 ^ (-e).toNat

/-- An announce timeout at a port that listens, follows or is passive is counted (R382). -/
def State.countTimeout (s : State) (k : Nat) : State :=
  let x := s.ptpPort k
  if x = 4 ∨ x = 7 ∨ x = 9 then (s.bump Reg.PTP_CNT_ANNOUNCE_TIMEOUT).ptpEvent 5 else s

/-- ANNOUNCE_TIMEOUT (R369, R373): no Announce for announceReceiptTimeout intervals, nor in this instant (R381). A port that listens becomes MASTER if it may; after the slave
port's timeout the servo holds the frequency averaged over the last 60 s. -/
def execAnnounceTimeout (t port : Nat) (s0 : State) : Host.Outcome State Fault Refusal :=
  let s := s0.at t
  let iv := s.rd Reg.PTP_INTERVALS
  let limit := fld iv 3 0 * logNs (toSigned 8 (fld iv 23 16))
  if s.announceFalls port then .next s
  else match Tab.find? s.ptp.best port with
  | none =>
    if s.ptpEnabled port && s.ptpPort port == 4 && s.mayMaster port && decide (s.ptp.listen + limit ≤ s.now) then
      .next (((s.countTimeout port).wrFld (Reg.PTPP_STATE port) 27 24 6).bmca)
    else .next s
  | some (_, at_) =>
    if s.now < at_ + limit then .next s
    else
      let slave := s.ptpPort port == 9
      let s0 := s.countTimeout port
      let s1 := s0.setPtp { s0.ptp with best := Tab.erase s.ptp.best port }
      if !slave then .next s1.bmca
      else
        let s2 := s1.setPtp { s1.ptp with rate := s1.meanRate, run := 0, offsets := [], lastSync := none }
        let s3 := (s2.wr Reg.PTP_FREQ (BitVec.ofNat 32 (ofSigned 32 s2.ptp.rate))).wrBit Reg.PTP_STATUS 29 true
        let s4 := if s3.rdBit Reg.PTP_STATUS 30 then (s3.wrBit Reg.PTP_STATUS 30 false).ptpEvent 1 else s3
        .next s4.bmca

/-- Does a group take its phase from device time: an active PTP candidate, or genlock in 10 MHz + PPS mode (R375)? -/
def State.onDeviceTime (s : State) (g : Nat) : Bool :=
  match (s.grp g).active with
  | none => false
  | some k =>
    let kind := s.candKind g k
    kind == 3 || (kind == 1 && s.rdBit Reg.TMG_GLA_CFG 31) || (kind == 2 && s.rdBit Reg.TMG_GLB_CFG 31)

/-- The refused estimate is accepted (R375), unless the offsets return in the same instant (R381): before the first entry to SERVICE or JOIN it sets device time and the
groups that follow it acquire again; after it, device time slews. -/
def State.acceptStep (s : State) : State :=
  match s.ptp.refused with
  | none => s
  | some e =>
    let s1 := s.endRefusal.ptpEvent 4
    if s.offsetReturns then s
    else if !s.ctl.entered then
      let s2 := s1.setDeviceTime e.last
      (List.range 16).foldl (fun a g =>
        if a.tgUsed g && (a.grp g).acquired && a.onDeviceTime g then
          a.acquire g (a.grp g).active (a.epochOf g (a.nearestFrame g a.deviceTime)).toNat
        else a) s2
    else
      let ppb : Int := (100 * s.rdFld Reg.PTP_CFG 25 16 : Nat)
      let move : Int := ((e.last.natAbs - 100 : Nat) : Int) * 1000000000
      (s1.setPtp { s1.ptp with
        slew := if 0 < e.last then -ppb else ppb
        slewLeft := if 0 < e.last then -move else move }).wrBit Reg.PTP_STATUS 27 true

/-- AUTO_STEP_ACCEPT (R375): refused offsets steady within 1 µs for 10 s under AUTO; void when a new master is selected in that instant (R381). -/
def execAutoStepAccept (t : Nat) (s0 : State) : Host.Outcome State Fault Refusal :=
  let s := s0.at t
  match s.ptp.refused with
  | none => .next s
  | some e => if s.rdBit Reg.PTP_CFG 27 && !s.masterFalls && decide (e.since + 10000000000 ≤ s.now) then .next s.acceptStep else .next s

/-- ACCEPT_STEP (R375, R382): PTP_CTRL with CONFIRM; nothing unless STEP_REFUSED. -/
def execAcceptStep (t confirm : Nat) (s0 : State) : Host.Outcome State Fault Refusal :=
  let s := s0.at t
  if confirm = Config.confirm then .next s.acceptStep else .next s

/-- SLEW_COMPLETE (R375): the slew has brought |offset| to 100 ns. -/
def execSlewComplete (t : Nat) (s0 : State) : Host.Outcome State Fault Refusal :=
  let s := s0.at t
  if s.rdBit Reg.PTP_STATUS 27 && s.ptp.slewLeft == 0 then
    .next ((s.setPtp { s.ptp with slew := 0 }).wrBit Reg.PTP_STATUS 27 false)
  else .next s

/-- PPS_IN_EDGE (R378): the edge's stamp in device time, in units of 0.25 ns. -/
def execPpsInEdge (t stamp : Nat) (s0 : State) : Host.Outcome State Fault Refusal :=
  let s := s0.at t
  let r := stamp % 4000000000
  let off : Int := if r < 2000000000 then (r : Int) else (r : Int) - 4000000000
  let near := match s.ptp.ppsEdge with
    | some (p, _) => decide (p + 3999600000 ≤ stamp) && decide (stamp ≤ p + 4000400000)
    | none => false
  let s1 := (s.setPtp { s.ptp with ppsEdge := some (stamp, s.now), ppsPresent := s.ptp.ppsPresent || near, ppsOff := s.rd Reg.PTP_PPSIN_OFF }).wr
    Reg.PTP_PPSIN_OFF (BitVec.ofNat 32 (ofSigned 32 off))
  let s2 := if near then s1.wrBit Reg.PTP_STATUS 24 true else s1
  .next (s2.ptpEvent 6)

/-- PPS_IN_LOST (R378): 2 s without an edge. -/
def execPpsInLost (t : Nat) (s0 : State) : Host.Outcome State Fault Refusal :=
  let s := s0.at t
  match s.ptp.ppsEdge with
  | some (_, u) =>
    if s.ptp.ppsPresent && decide (u + 2000000000 ≤ s.now) then
      .next (((s.setPtp { s.ptp with ppsPresent := false, ppsEdge := none }).wrBit Reg.PTP_STATUS 24 false).ptpEvent 7)
    else .next s
  | none => .next s

/-- PPS_OUT_PULSE (R379): the pulse of the integer second nearest the instant, plus the offset; held low under
QUALIFIED_ONLY while TIME_VALID is 0 or the servo is neither LOCKED nor in HOLDOVER. Not keyed. -/
def execPpsOutPulse (t : Nat) (s0 : State) : Host.Outcome State Fault Refusal :=
  let s := s0.at t
  let c := s.rd Reg.PTP_PPSOUT_CFG
  let qualified := s.rdBit Reg.PTP_STATUS 31 && (s.rdBit Reg.PTP_STATUS 30 || s.rdBit Reg.PTP_STATUS 29)
  if bit c 31 && (!bit c 30 || qualified) then
    let off := toSigned 30 (s.rdFld Reg.PTP_PPSOUT_OFFSET 29 0)
    let sec := ((s.deviceTime : Int) - off + 500000000) / 1000000000
    .next (s.emit (.pulse 16 (sec * 1000000000 + off).toNat (1000000 * fld c 9 0)))
  else .next s

/-- A read of PTP_TIME_FRAC snapshots the time registers (R366). -/
def State.timeSnapshot (s : State) : State :=
  let ft := s.fineTime
  let ns := ft / 1000000000
  let frac := ft % 1000000000 * 65536 / 1000000000
  let sec := ns / 1000000000
  let s1 := ((s.wr Reg.PTP_TIME_FRAC (BitVec.ofNat 32 frac)).wr Reg.PTP_TIME_NS (BitVec.ofNat 32 (ns % 1000000000))).wr
    Reg.PTP_TIME_SEC_LO (BitVec.ofNat 32 sec)
  s1.wr Reg.PTP_TIME_SEC_HI (BitVec.ofNat 32 (sec / 4294967296 % 65536))

/-- PTP_TIME_FRAC_READ (R366). -/
def execPtpTimeFracRead (t : Nat) (s0 : State) : Host.Outcome State Fault Refusal :=
  let s := (s0.at t).timeSnapshot
  .next (s.emit (.read Reg.PTP_TIME_FRAC (s.rd Reg.PTP_TIME_FRAC).toNat))

end Sys2Proof.Machine
end

