-- ==== Sys2Proof/Machine/Mac.lean ====
section
/-! DEFINITION. Ethernet ports: the link, frame classification, class filters, pause, through pairs and PTP messages sent (R326–R337, R360, R368–R376). A port
is named by its page index: lead lane, or 1,032 and 1,033 for MGT0 and MGT1. -/
namespace Sys2Proof.Machine

/-- Is a page index an Ethernet port (R326)? -/
def State.ethPort (s : State) (p : Nat) : Bool := s.lanePresent p && s.isEth p && s.rxLead p == p

/-- Traffic class of a port: 0 MEDIA, 1 CONTENT, 2 CONTROL, 3 THROUGH; code 2 acts as MEDIA on a numbered port (R338). -/
def State.portClass (s : State) (p : Nat) : Nat :=
  if 1024 ≤ p then 2
  else let c := s.rdFld (Reg.MAC_CFG p) 31 30; if c = 2 then 0 else c

/-- Does a port have a receive queue and honour pause: CONTENT or THROUGH (R331, R334)? -/
def State.hasQueue (s : State) (p : Nat) : Bool := s.portClass p == 1 || s.portClass p == 3

/-- Count n in a 64-bit counter of a port (R337). -/
def State.macCount (s : State) (lo n : Nat) : State := s.bump64 lo (lo + 4) n

/-! The link (R328). -/

/-- BLOCK_LOCK_GAINED (R328): the 10 ms begin. -/
def execBlockLockGained (t port : Nat) (s0 : State) : Host.Outcome State Fault Refusal :=
  let s := s0.at t
  if s.ethPort port && (s.rxLanes port).all (fun i => s.rdBit (Reg.LAN_STATUS i) 31) then
    .next (((s.wrBit (Reg.MAC_STATUS port) 30 true).wrBit (Reg.MAC_STATUS port) 29 false).setMac port
      { s.macRun port with lockedAt := some s.now })
  else .next s

/-- LINK_UP (R328): 10 ms of block lock with no fault received. -/
def execLinkUp (t port : Nat) (s0 : State) : Host.Outcome State Fault Refusal :=
  let s := s0.at t
  match (s.macRun port).lockedAt with
  | none => .next s
  | some a =>
    if s.ethPort port && s.rdBit (Reg.MAC_STATUS port) 30 && decide (a + 10000000 ≤ s.now) && !s.portUp port then
      .next ((s.wrFld (Reg.MAC_STATUS port) 31 28 12).macEvent port 1)
    else .next s

/-- Quanta of the received hold that have passed (R334). -/
def State.heldQuanta (s : State) (p : Nat) : Nat :=
  let x := s.macRun p
  (min s.now x.holdUntil - x.holdFrom) * s.portGb p / 512

/-- The hold is over: quanta held are counted (R334). -/
def State.clearHold (s : State) (p : Nat) : State :=
  let s1 := s.macCount (Reg.MAC_CNT_TX_HELD_QUANTA_LO p) (s.heldQuanta p)
  (s1.wrBit (Reg.MAC_STATUS p) 27 false).setMac p { s1.macRun p with holdUntil := 0, holdFrom := 0 }

/-- Length with FCS of a PTP message the device sends (PRESUMED IEEE 1588-2019 and ST 2059-2, over UDP and IPv4): Sync and Delay_Req,
Delay_Resp, Announce, metadata. -/
def ptpLength (kind : Nat) : Nat :=
  if kind ≤ 1 then 90 else if kind = 9 then 100 else if kind = 11 then 110 else 146

/-- A message of PTP port k leaves lane p. A Delay_Resp carries the stamp given; the others carry their egress stamp, increased by EGRESS_LAT
(R367, R368). -/
def State.putPtp (s : State) (p k kind : Nat) (stamp : Int) : State :=
  let x := s.macRun p
  let out : Int := if kind = 9 then stamp else s.deviceTime * 1000 + s.rdFld (Reg.PTPP_EGRESS_LAT k) 23 0
  ((((s.macCount (Reg.MAC_CNT_TX_OK_LO p) 1).macCount (Reg.MAC_CNT_TX_OCTETS_LO p) (ptpLength kind)).bump (Reg.PTPP_CNT_TX k)).setMac p
    { x with txEnd := max x.txEnd s.now + 8 * (ptpLength kind + 8) / s.portGb p }).emit (.ptp k kind out.toNat)

/-- A PTP message is offered to its port: it waits while the transmitter is held, and is dropped while the link is down (R328, R334). -/
def State.sendPtp (s : State) (k kind : Nat) (stamp : Int) : State :=
  let p := s.rdFld (Reg.PTPP_CFG k) 9 0
  if s.portUp p = false then s.macCount (Reg.MAC_CNT_TX_DROP_LINK_LO p) 1
  else if s.rdBit (Reg.MAC_STATUS p) 27 = true then
    s.setMac p { s.macRun p with waiting := (s.macRun p).waiting ++ [⟨1, [BitVec.ofNat 8 kind], some (k, stamp, false)⟩] }
  else s.putPtp p k kind stamp

/-- PTP_SEND (R371, R372): message types 0 Sync and 11 Announce from a MASTER port while the key gate is open; 13, the ST 2059-2 metadata, from a
MASTER port; 1 Delay_Req from a SLAVE port, never gated. -/
def execPtpSend (t port kind : Nat) (s0 : State) : Host.Outcome State Fault Refusal :=
  let s := s0.at t
  let master := s.ptpPort port == 6 && ((s.gateOpen && (kind == 0 || kind == 11)) || kind == 13)
  let slave := s.ptpPort port == 9 && kind == 1
  if s.ptpEnabled port && (master || slave) then .next (s.sendPtp port kind 0) else .next s

/-- DELAY_REQ_RECEIVE (R369, R372): an ungated MASTER port answers with Delay_Resp (type 9) carrying the ingress stamp. -/
def execDelayReqReceive (t port domain version : Nat) (s0 : State) : Host.Outcome State Fault Refusal :=
  let s := s0.at t
  if !s.ptpEnabled port then .next s
  else
    let (s1, good) := s.ptpCount port domain version
    if good && s1.ptpPort port == 6 && s1.gateOpen then
      .next (s1.sendPtp port 9 (s1.deviceTime * 1000 - s1.rdFld (Reg.PTPP_INGRESS_LAT port) 23 0))
    else .next s1

/-- The frames that waited for the end of the hold go out in order; while the link is down they are dropped (R328). -/
def State.sendWaiting (s : State) (p : Nat) : State :=
  (s.macRun p).waiting.foldl (fun a f => match f.media with
    | some (n, due, first) =>
      if f.kind = 1 then a.sendPtp n (f.body.getD 0 0).toNat due else (a.txPut n p f.body first).txLateIf (first && a.portUp p) n due
    | none => if a.portUp p then a.putFrame p f.kind f.body else a.macCount (Reg.MAC_CNT_TX_DROP_LINK_LO p) 1)
    (s.setMac p { s.macRun p with waiting := [] })

/-- The received hold of a port ends (R334). -/
def State.endHold (s : State) (p : Nat) : State :=
  if s.rdBit (Reg.MAC_STATUS p) 27 then (s.clearHold p).sendWaiting p else s

/-- LINK_DOWN (R328): cause 0 block lock or alignment lost, 1 LOS, 2 local fault received, 3 remote fault received; `rx`: a frame is in
reception. A fault restarts the 10 ms; a fall of the link ends a hold. -/
def execLinkDown (t port cause : Nat) (rx : Bool) (s0 : State) : Host.Outcome State Fault Refusal :=
  let s := s0.at t
  if s.ethPort port = false ∨ 3 < cause then .next s
  else
    let st := Reg.MAC_STATUS port
    let s1 :=
      if cause ≤ 1 then
        ((s.wrBit st 30 false).wrBit st 29 true).setMac port { s.macRun port with lockedAt := none }
      else
        let s2 := s.setMac port { s.macRun port with lockedAt := (s.macRun port).lockedAt.map fun _ => s.now }
        if cause = 2 then s2.wrBit st 29 true else (s2.wrBit st 28 true).macEvent port 2
    if s.portUp port then
      let s2 := ((s1.wrBit st 31 false).endHold port).macEvent port 0
      let s3 := s2.macCount (Reg.MAC_CNT_LINK_DOWN_LO port) 1
      .next (if rx then s3.macCount (Reg.MAC_CNT_RX_FCS_ERR_LO port) 1 else s3)
    else .next s1

/-! Frames (R329–R332). -/

/-- The port's MAC address as 6 bytes. -/
def State.macAddr (s : State) (p : Nat) : List Byte :=
  toBe 2 (s.rdFld (Reg.MAC_ADDR_HI p) 15 0) ++ toBe 4 (s.rd (Reg.MAC_ADDR_LO p)).toNat

/-- The port's IPv4 address. -/
def State.portIp (s : State) (p : Nat) : Nat :=
  if 1024 ≤ p then (s.rd (Reg.MAC_IPV4_ADDR p)).toNat else (s.rd (Reg.MED_PORT_IPV4 p)).toNat

/-- The reserved address of MAC control. -/
def pauseAddr : List Byte := [0x01, 0x80, 0xC2, 0, 0, 1]

/-- An IPv4 UDP datagram in a frame: source, destination, ports, payload, whether its UDP checksum holds. -/
structure Udp where
  src : Nat
  dst : Nat
  sport : Nat
  dport : Nat
  sumOk : Bool
  payload : List Byte
  deriving DecidableEq, Repr

/-- EtherType of a frame. -/
def etherType (bs : List Byte) : Nat := be (slice bs 12 2)

/-- IP protocol of a frame that carries IPv4. -/
def ipProto (bs : List Byte) : Option Nat :=
  if etherType bs = 0x0800 ∧ (bs.getD 14 0).toNat / 16 = 4 then some (bs.getD 23 0).toNat else none

/-- IP source of a frame. -/
def ipSrc (bs : List Byte) : Nat := be (slice bs 26 4)
/-- IP destination of a frame. -/
def ipDst (bs : List Byte) : Nat := be (slice bs 30 4)

/-- The IP payload of a frame. -/
def ipPayload (bs : List Byte) : List Byte :=
  let h := 4 * ((bs.getD 14 0).toNat % 16)
  slice bs (14 + h) (be (slice bs 16 2) - h)

/-- Read a UDP datagram; a fragment is none (R97). -/
def readUdp (bs : List Byte) : Option Udp :=
  if ipProto bs = some 17 ∧ be (slice bs 20 2) % 16384 = 0 then
    let u := ipPayload bs
    let sum := be (slice u 6 2)
    let pseudo := slice bs 26 8 ++ [0, 17] ++ slice u 4 2
    some ⟨ipSrc bs, ipDst bs, be (slice u 0 2), be (slice u 2 2), sum == 0 || checksum (pseudo ++ u) == 0, u.drop 8⟩
  else none

/-- Is a frame an ARP request for an address? -/
def arpFor (ip : Nat) (bs : List Byte) : Bool :=
  etherType bs == 0x0806 && be (slice bs 20 2) == 1 && be (slice bs 38 4) == ip && ip != 0

/-- Is a frame PTP: EtherType 0x88F7, or UDP to ports 319 and 320? -/
def isPtp (bs : List Byte) : Bool :=
  etherType bs == 0x88F7 || (match readUdp bs with
    | some u => u.dport == 319 || u.dport == 320
    | none => false)

/-- The ARP reply to a request. -/
def State.arpReply (s : State) (p : Nat) (bs : List Byte) : State :=
  let who := slice bs 22 6
  s.sendFrame p 2 (who ++ s.macAddr p ++ [0x08, 0x06, 0, 1, 8, 0, 6, 4, 0, 2] ++ s.macAddr p ++ toBe 4 (s.portIp p) ++ who ++ slice bs 28 4)

/-- The ICMP echo reply to a request. -/
def State.icmpReply (s : State) (p : Nat) (bs : List Byte) : State :=
  let q := ipPayload bs
  let body0 := slice q 4 (q.length - 4)
  let icmp := [0, 0] ++ toBe 2 (checksum ([0, 0, 0, 0] ++ body0)) ++ body0
  let ip0 := [0x45, 0] ++ toBe 2 (20 + icmp.length) ++ [0, 0, 0x40, 0, 64, 1]
  let addrs := toBe 4 (s.portIp p) ++ slice bs 26 4
  s.sendFrame p 4 (slice bs 6 6 ++ s.macAddr p ++ [0x08, 0x00] ++ ip0 ++ toBe 2 (checksum (ip0 ++ [0, 0] ++ addrs)) ++ addrs ++ icmp)

/-- The contexts and paths that a datagram on a port is addressed to (R349): (context, path B). -/
def State.addressed (s : State) (p : Nat) (u : Udp) : List (Nat × Bool) :=
  (s.rxcs.filter s.rxUsed).flatMap fun n =>
    let w := s.rd (Reg.RXC_PATHS n)
    let up := s.rd (Reg.RXC_UDP n)
    (if fld w 9 0 == p && (s.rd (Reg.RXC_DST_A n)).toNat == u.dst && fld up 31 16 == u.dport then [(n, false)] else []) ++
      if bit w 31 && fld w 25 16 == p && (s.rd (Reg.RXC_DST_B n)).toNat == u.dst && fld up 15 0 == u.dport then [(n, true)] else []

/-- A datagram reaches a path of a context (R349). -/
def State.reach (s : State) (n : Nat) (b : Bool) (u : Udp) (full : Bool) : State :=
  let filt := if b then (s.rd (Reg.RXC_SRC_B n)).toNat else (s.rd (Reg.RXC_SRC_A n)).toNat
  s.rxPacket n b (u.sumOk && (filt == 0 || filt == u.src)) full u.payload

/-- Does an IPv4 frame go to a multicast group that a receive context joined on the port (R331, R349)? -/
def State.joinedOn (s : State) (p : Nat) (bs : List Byte) : Bool :=
  let dst := ipDst bs
  (ipProto bs).isSome && decide (0xE0000000 ≤ dst) && decide (dst < 0xF0000000) && (s.rxcs.filter s.rxUsed).any fun n =>
    let w := s.rd (Reg.RXC_PATHS n)
    (fld w 9 0 == p && (s.rd (Reg.RXC_DST_A n)).toNat == dst) || (bit w 31 && fld w 25 16 == p && (s.rd (Reg.RXC_DST_B n)).toNat == dst)

/-- A frame no rule accepts (R331). -/
def State.filtered (s : State) (p : Nat) : State := s.macCount (Reg.MAC_CNT_RX_FILTERED_LO p) 1

/-- Bytes in a receive queue. -/
def MacRun.fill (x : MacRun) : Nat := x.queue.foldl (fun n f => n + f.2.length) 0

/-- Show the queue's fill in KiB (R338). -/
def State.showFill (s : State) (p : Nat) : State := s.wrFld (Reg.MAC_QUEUE p) 31 16 ((s.macRun p).fill / 1024)

/-- Put a frame into the receive queue; without room it is dropped and counted (R331). Answers whether it went in. -/
def State.enqueueFrame (s : State) (p : Nat) (bs : List Byte) : State × Bool :=
  let x := s.macRun p
  if 1024 * s.rdFld (Reg.MAC_QUEUE p) 15 0 < x.fill + bs.length then
    ((s.macCount (Reg.MAC_CNT_RX_QUEUE_DROP_LO p) 1).macEvent p 5, false)
  else ((s.setMac p { x with queue := x.queue ++ [(s.now, bs)] }).showFill p, true)

/-- The drain of a content port takes its oldest frames (R331). -/
def State.drainQueue (s : State) (p n : Nat) : State :=
  if s.portClass p = 1 then (s.setMac p { s.macRun p with queue := (s.macRun p).queue.drop n }).showFill p else s

/-- The partner of a through port, if valid (R360). -/
def State.throughPartner (s : State) (p : Nat) : Option Nat :=
  let w := s.rd (Reg.MED_THROUGH_PAIR p)
  let q := fld w 9 0
  if bit w 31 && s.ethPort q && s.portClass q == 3 && q != p then some q else none

/-- Is a frame whole: unmarked, of 64 bytes up to MAX_LEN, its FCS right (R329)? -/
def State.wholeFrame (s : State) (p : Nat) (fr : EthFrame) : Bool :=
  let n := fr.bytes.length
  !fr.marked && decide (64 ≤ n) && decide (n ≤ s.rdFld (Reg.MAC_CFG p) 29 16) && toLe 4 (crc32 (fr.bytes.take (n - 4))) == fr.bytes.drop (n - 4)

/-- The datagram that a received frame brings to the contexts on its port (R331). -/
def State.brings (s : State) (p : Nat) (fr : EthFrame) : Option Udp :=
  let bs := fr.bytes
  let cls := s.portClass p
  let kept := s.ethPort p && s.portUp p && s.wholeFrame p fr && cls != 2 && etherType bs != 0x8808 && !arpFor (s.portIp p) bs &&
    !(cls == 0 && (isPtp bs || ipProto bs == some 2)) &&
    (cls != 1 || (slice bs 0 6 == s.macAddr p && ((s.drainQueue p fr.drained).enqueueFrame p bs).2))
  if kept then readUdp bs else none

/-- A frame that waits in this instant gives a context its packet now, once; on path A only, or on either (R361). -/
def State.takeFrom (n : Nat) (onlyA : Bool) (s : State) (c : Instr) : State :=
  match c with
  | .frameReceive t p fr =>
    match s.brings p fr with
    | some u => (s.addressed p u).foldl (fun a e =>
        if e.1 != n || (onlyA && e.2) || (a.rxc n).early.contains (e.2, u.payload) || decide (a.now < t) then a
        else
          let b := a.reach n e.2 u fr.storeFull
          b.setRxc n { b.rxc n with early := (e.2, u.payload) :: (b.rxc n).early }) s
    | none => s
  | _ => s

/-- The packets that reach a context in this instant are in time for what falls due in it, path A's before path B's (R361). -/
def State.takePackets (s : State) (n : Nat) : State :=
  let s1 := s.pending.foldl (State.takeFrom n true) s
  s1.pending.foldl (State.takeFrom n false) s1

/-- A datagram goes to the contexts it is addressed to (R349), after path A's of the same instant; one taken before its turn has been there (R361). -/
def State.deliver (s : State) (p : Nat) (u : Udp) (full : Bool) : State :=
  (s.addressed p u).foldl (fun a e =>
    let x := a.rxc e.1
    if x.early.contains (e.2, u.payload) then a.setRxc e.1 { x with early := x.early.erase (e.2, u.payload) }
    else (if e.2 then a.pending.foldl (State.takeFrom e.1 true) a else a).reach e.1 e.2 u full) s

/-- Filter of a MEDIA port, and of the local frames of a THROUGH port (R331). -/
def State.mediaFilter (s : State) (p : Nat) (bs : List Byte) (full : Bool) : State :=
  if arpFor (s.portIp p) bs then s.arpReply p bs
  else if isPtp bs || ipProto bs == some 2 then s
  else
    let other := if slice bs 0 6 = s.macAddr p ∨ s.joinedOn p bs = true then s else s.filtered p
    match readUdp bs with
    | some u => if s.addressed p u = [] then other else s.deliver p u full
    | none => other

/-- Filter of a CONTENT port: frames to its address for its contexts, through the queue; ARP (R331). -/
def State.contentFilter (s : State) (p : Nat) (bs : List Byte) (full : Bool) : State :=
  if arpFor (s.portIp p) bs then s.arpReply p bs
  else match readUdp bs with
    | some u =>
      if slice bs 0 6 = s.macAddr p ∧ s.addressed p u ≠ [] then
        let r := s.enqueueFrame p bs
        if r.2 then r.1.deliver p u full else r.1
      else s.filtered p
    | none => s.filtered p

/-- Is PTP enabled on a lane's port (R370)? -/
def State.ptpOn (s : State) (p : Nat) : Bool := (List.range 64).any fun k => s.ptpEnabled k && s.rdFld (Reg.PTPP_CFG k) 9 0 == p

/-- Filter of a THROUGH port: local frames as for MEDIA; others to the queue for the partner, and also to contexts that joined the group
(R331, R360). -/
def State.throughFilter (s : State) (p : Nat) (bs : List Byte) (full : Bool) : State :=
  let isLocal := slice bs 0 6 == s.macAddr p || arpFor (s.portIp p) bs || (isPtp bs && s.ptpOn p) ||
    ((ipProto bs).isSome && ipDst bs == s.portIp p && s.portIp p != 0)
  if isLocal then s.mediaFilter p bs full
  else
    let s1 := match readUdp bs with
      | some u => s.deliver p u full
      | none => s
    match s1.throughPartner p with
    | some _ => (s1.enqueueFrame p bs).1
    | none => s1.filtered p

/-- Filter of a management port (R332): a Fratin datagram for this device is received (R97). In BOOT, TRAIN and TEST every frame is filtered. -/
def State.controlFilter (s : State) (p : Nat) (bs : List Byte) : State :=
  let ip := s.portIp p
  let group := (s.rd (Reg.MAC_IPV4_GROUP p)).toNat
  if s.rwlLocked = false then s.filtered p
  else if arpFor ip bs then s.arpReply p bs
  else if ipProto bs = some 1 ∧ ipDst bs = ip ∧ ((ipPayload bs).getD 0 0).toNat = 8 then
    let x := s.macRun p
    let sec := s.now / 1000000000
    let n := if x.icmpSec = sec then x.icmp else 0
    if n < 1000 then (s.setMac p { x with icmpSec := sec, icmp := n + 1 }).icmpReply p bs else s.filtered p
  else if ipProto bs = some 2 ∧ ((ipPayload bs).getD 0 0).toNat = 0x11 ∧ group ≠ 0 ∧
      (be (slice (ipPayload bs) 4 4) = group ∨ be (slice (ipPayload bs) 4 4) = 0) then
    let body := igmpReport false [(group, 0)]
    let ip0 := [0x46, 0] ++ toBe 2 (24 + body.length) ++ [0, 0, 0x40, 0, 1, 2]
    let addrs := toBe 4 ip ++ [224, 0, 0, 22] ++ [0x94, 4, 0, 0]
    s.sendFrame p 3 ([0x01, 0x00, 0x5E, 0, 0, 22] ++ s.macAddr p ++ [0x08, 0x00] ++ ip0 ++
      toBe 2 (checksum (ip0 ++ [0, 0] ++ addrs)) ++ addrs ++ body)
  else match readUdp bs with
    | some u =>
      let d : Datagram := ⟨u.src, u.sport, u.dst, u.dport, false, u.payload⟩
      if s.mgtTakes (p - 1032) d then s.receiveMsg (.mgt (p - 1032)) u.src u.sport u.payload else s.filtered p
    | none => s.filtered p

/-- A pause received on a port that honours it (R334): the hold lasts for its quanta from now, or from the end of the frame in transmission; a
further pause reloads it; 0 ends it. -/
def State.holdFor (s : State) (p quanta : Nat) : State :=
  let s1 := s.macCount (Reg.MAC_CNT_RX_PAUSE_LO p) 1
  if quanta = 0 then s1.endHold p
  else
    let held := s1.rdBit (Reg.MAC_STATUS p) 27
    let s2 := if held then s1.clearHold p else s1
    let g := max 1 (s2.portGb p)
    let start := if held then s2.now else max s2.now (s2.macRun p).txEnd
    (s2.wrBit (Reg.MAC_STATUS p) 27 true).setMac p
      { s2.macRun p with holdFrom := start, holdUntil := start + (512 * quanta + g - 1) / g }

/-- A MAC control frame (R334). -/
def State.macControl (s : State) (p : Nat) (bs : List Byte) : State :=
  if be (slice bs 14 2) ≠ 1 then s.macCount (Reg.MAC_CNT_RX_MACCTL_UNSUP_LO p) 1
  else if s.hasQueue p then s.holdFor p (be (slice bs 16 2))
  else (s.macCount (Reg.MAC_CNT_RX_PAUSE_IGNORED_LO p) 1).macEvent p 7

/-- The class filter (R331). -/
def State.classFilter (s : State) (p : Nat) (bs : List Byte) (full : Bool) : State :=
  match s.portClass p with
  | 0 => s.mediaFilter p bs full
  | 1 => s.contentFilter p bs full
  | 2 => s.controlFilter p bs
  | _ => s.throughFilter p bs full

/-- An accepted frame is counted (R329). -/
def State.countOk (s : State) (p : Nat) (bs : List Byte) : State :=
  let s1 := (s.macCount (Reg.MAC_CNT_RX_OK_LO p) 1).macCount (Reg.MAC_CNT_RX_OCTETS_LO p) bs.length
  if slice bs 0 6 = List.replicate 6 0xFF then s1.macCount (Reg.MAC_CNT_RX_BCAST_LO p) 1
  else if (bs.getD 0 0).toNat % 2 = 1 then s1.macCount (Reg.MAC_CNT_RX_MCAST_LO p) 1 else s1

/-- What the coding counted (R294, R327, R338); a port without FEC has no codewords. The lane counters are those of the port's lowest lane. -/
def State.countCodes (s : State) (p : Nat) (fr : EthFrame) : State :=
  let c := fr.codes
  let add (a : State) (reg n : Nat) : State := if n = 0 then a else a.bumpBy reg n
  let s1 := if c.bad = 0 then s else s.macCount (Reg.MAC_CNT_PCS_ERR_LO p) c.bad
  let s2 := add (add (add (add s1 (Reg.LAN_CNT_SYNC_ERR p) c.sync) (Reg.LAN_CNT_RM_INS p) c.inserted)
    (Reg.LAN_CNT_RM_DEL p) c.deleted) (Reg.LAN_CNT_RM_OVF p) c.dropped
  let s3 := if c.dropped = 0 then s2 else s2.lanEvent p 4
  if s.rdFld (Reg.LAN_CFG p) 23 22 = 0 then s3
  else
    let s4 := if c.corr = 0 then s3 else s3.macCount (Reg.MAC_CNT_FEC_CORR_LO p) c.corr
    if c.uncorr = 0 then s4 else (s4.macCount (Reg.MAC_CNT_FEC_UNCORR_LO p) c.uncorr).macEvent p 6

/-- FRAME_RECEIVE (R327–R329, R331, R334): classification by length and FCS, MAC control, then the class filter. -/
def execFrameReceive (t port : Nat) (fr : EthFrame) (s0 : State) : Host.Outcome State Fault Refusal :=
  let s := s0.at t
  if s.ethPort port = false then .next s
  else if s.portUp port = false then .next ((s.countCodes port fr).macCount (Reg.MAC_CNT_RX_FCS_ERR_LO port) 1)
  else
    let s1 := (s.countCodes port fr).drainQueue port fr.drained
    let n := fr.bytes.length
    let good := !fr.marked && toLe 4 (crc32 (fr.bytes.take (n - 4))) == fr.bytes.drop (n - 4)
    let maxLen := s.rdFld (Reg.MAC_CFG port) 29 16
    if n < 64 then .next (s1.macCount (if good then Reg.MAC_CNT_RX_UNDERSIZE_LO port else Reg.MAC_CNT_RX_FRAGMENT_LO port) 1)
    else if maxLen < n then .next (s1.macCount (if good then Reg.MAC_CNT_RX_OVERSIZE_LO port else Reg.MAC_CNT_RX_JABBER_LO port) 1)
    else if good = false then .next (s1.macCount (Reg.MAC_CNT_RX_FCS_ERR_LO port) 1)
    else
      let s2 := s1.countOk port fr.bytes
      if etherType fr.bytes = 0x8808 ∧ (slice fr.bytes 0 6 = pauseAddr ∨ slice fr.bytes 0 6 = s.macAddr port) then
        .next (s2.macControl port fr.bytes)
      else .next (s2.classFilter port fr.bytes fr.storeFull)

/-! Pause (R333, R334). -/

/-- PAUSE_HOLD_EXPIRY (R334). -/
def execPauseHoldExpiry (t port : Nat) (s0 : State) : Host.Outcome State Fault Refusal :=
  let s := s0.at t
  if s.rdBit (Reg.MAC_STATUS port) 27 = true ∧ (s.macRun port).holdUntil ≤ s.now then .next (s.endHold port) else .next s

/-- Send a pause frame (R333): it is sent while the port is itself held. -/
def State.sendPause (s : State) (p quanta : Nat) : State :=
  let s1 := (s.macCount (Reg.MAC_CNT_TX_PAUSE_LO p) 1).sendFrame p 5
    (pauseAddr ++ s.macAddr p ++ [0x88, 0x08, 0, 1] ++ toBe 2 quanta)
  s1.setMac p { s1.macRun p with pauseAt := s1.now }

/-- The high watermark in KiB that the fill is tested against: a LIVE_SET that takes effect in the same instant counts (R335, R336). -/
def State.highMark (s : State) (p : Nat) : Nat :=
  let now := if s.serviceFalls then ((s.xpt.pending.filter fun x => x.left.contains 16).flatMap fun x => x.live).filter fun e =>
    e.param == 0x20 && e.index == p else []
  match now.getLast? with
  | some e => beAt e.value 0 4
  | none => s.rdFld (Reg.MAC_WM p) 31 16

/-- Has the queue drained to the low watermark, with what drains in this instant (R333, R336)? -/
def State.drainedNow (s : State) (p : Nat) : Bool :=
  let low := 1024 * s.rdFld (Reg.MAC_WM p) 15 0
  decide ((s.macRun p).fill ≤ low) || s.sameInstant fun c => match c with
    | .pauseOff t k n => decide (t ≤ s.now) && k == p && decide (((s.drainQueue p n).macRun p).fill ≤ low)
    | _ => false

/-- PAUSE_ON (R333): the fill has risen above the high watermark. -/
def execPauseOn (t port : Nat) (s0 : State) : Host.Outcome State Fault Refusal :=
  let s := s0.at t
  let st := Reg.MAC_STATUS port
  if s.ethPort port && s.hasQueue port && s.portUp port && !s.rdBit st 26 &&
      decide (1024 * s.highMark port < (s.macRun port).fill) then
    .next (((s.wrBit st 26 true).macEvent port 3).sendPause port (s.rdFld (Reg.MAC_PAUSE_CFG port) 15 0))
  else .next s

/-- PAUSE_REFRESH (R333): PAUSE_QUANTA / 2 quanta after the last pause frame, unless the low watermark is reached in the same instant (R336). -/
def execPauseRefresh (t port : Nat) (s0 : State) : Host.Outcome State Fault Refusal :=
  let s := s0.at t
  let q := s.rdFld (Reg.MAC_PAUSE_CFG port) 15 0
  if s.ethPort port && s.portUp port && s.rdBit (Reg.MAC_STATUS port) 26 && !s.drainedNow port &&
      decide ((s.macRun port).pauseAt + 512 * (q / 2) / s.portGb port ≤ s.now) then .next (s.sendPause port q)
  else .next s

/-- PAUSE_OFF (R333): the queue has drained to the low watermark or below. -/
def execPauseOff (t port drained : Nat) (s0 : State) : Host.Outcome State Fault Refusal :=
  let s := s0.at t
  if s.ethPort port = false then .next s
  else
    let s1 := s.drainQueue port drained
    let st := Reg.MAC_STATUS port
    if s1.rdBit st 26 && decide ((s1.macRun port).fill ≤ 1024 * s1.rdFld (Reg.MAC_WM port) 15 0) then
      let s2 := (s1.wrBit st 26 false).macEvent port 4
      .next (if s2.portUp port then s2.sendPause port 0 else s2)
    else .next s1

/-- Where the PTP header of an event message starts in a frame (R376): message types 0–3 over EtherType 0x88F7 or UDP port 319. -/
def ptpEventAt (bs : List Byte) : Option Nat :=
  let l2 := etherType bs == 0x88F7
  let udp := match readUdp bs with
    | some u => u.dport == 319
    | none => false
  let i := if l2 then 14 else 22 + 4 * ((bs.getD 14 0).toNat % 16)
  if (l2 || udp) && decide ((bs.getD i 0).toNat % 16 ≤ 3) then some i else none

/-- The PTP page whose card corrections serve a lane: an enabled one first (R367). -/
def State.ptpPage (s : State) (p : Nat) : Option Nat :=
  let names (k : Nat) : Bool := s.rdFld (Reg.PTPP_CFG k) 9 0 == p
  match (List.range 64).find? fun k => s.ptpEnabled k && names k with
  | some k => some k
  | none => (List.range 64).find? names

/-- The residence time in 2⁻¹⁶ ns of a frame that arrived at `arrived` on port p and leaves on port q now (R367, R376): both stamps stand at the
start of the frame, with the card corrections and the receiving port's delayAsymmetry. -/
def State.residence (s : State) (p q arrived len : Nat) : Int :=
  let card (o : Option Nat) (f : Nat → Int) : Int := match o with
    | some k => f k
    | none => 0
  let start : Int := arrived - (8 * len / s.portGb p : Nat)
  let leaves : Int := (max s.now (s.macRun q).txEnd : Nat)
  let ps := (leaves - start) * 1000 + card (s.ptpPage p) (fun k => s.rdFld (Reg.PTPP_INGRESS_LAT k) 23 0) +
    card (s.ptpPage q) (fun k => s.rdFld (Reg.PTPP_EGRESS_LAT k) 23 0) +
    card (s.ptpPage p) (fun k => toSigned 24 (s.rdFld (Reg.PTPP_ASYM k) 23 0))
  ps * 65536 / 1000

/-- The frame that is forwarded, without FCS: an event message has the residence time added to its correction field, and a UDP checksum of 0
(R368, R376). -/
def State.forwarded (s : State) (p q arrived : Nat) (bs : List Byte) : List Byte :=
  let body := bs.take (bs.length - 4)
  match ptpEventAt bs with
  | none => body
  | some i =>
    let c := (toSigned 64 (be (slice body (i + 8) 8)) + s.residence p q arrived bs.length) % 18446744073709551616
    let out := body.take (i + 8) ++ toBe 8 c.toNat ++ body.drop (i + 16)
    if etherType bs = 0x88F7 then out else out.take (i - 2) ++ [0, 0] ++ out.drop i

/-- Does a scheduled launch on a port fall in this instant (R361)? -/
def State.launchFalls (s : State) (q : Nat) : Bool :=
  s.sameInstant fun c => match c with
    | .launch t n _ _ _ _ =>
      let w := s.rd (Reg.TXC_PATHS n)
      decide (t ≤ s.now) && decide (n < 8192) && s.rdBit (Reg.TXC_CFG n) 31 && !s.rdBit (Reg.TXC_STATUS n) 30 &&
        (fld w 9 0 == q || (bit w 31 && fld w 25 16 == q))
    | _ => false

/-- THROUGH_FORWARD (R360): the oldest queued frame of a port goes to its partner if it ends before the partner's next scheduled launch
(`launch`, uptime). A partner that is held sends nothing; one whose link is down, or whose MAX_LEN is exceeded, drops it. -/
def execThroughForward (t port : Nat) (launch : Option Nat) (s0 : State) : Host.Outcome State Fault Refusal :=
  let s := s0.at t
  match s.portClass port == 3, s.throughPartner port, (s.macRun port).queue with
  | true, some q, (arrived, f) :: rest =>
    let popped := (s.setMac port { s.macRun port with queue := rest }).showFill port
    let ends := s.now + ((f.length + 20) * 8 + s.portGb q - 1) / s.portGb q
    let fits := match launch with
      | some l => decide (ends ≤ l)
      | none => true
    if s.launchFalls q then .next s
    else if s.portUp q = false then .next (popped.macCount (Reg.MAC_CNT_TX_DROP_LINK_LO q) 1)
    else if s.rdFld (Reg.MAC_CFG q) 29 16 < f.length then .next (popped.macCount (Reg.MAC_CNT_TX_DROP_OVERSIZE_LO q) 1)
    else if s.rdBit (Reg.MAC_STATUS q) 27 = true ∨ fits = false then .next s
    else .next (popped.sendFrame q 6 (popped.forwarded port q arrived f))
  | _, _, _ => .next s

end Sys2Proof.Machine
end

