-- ==== Sys2Proof/Machine/Synth.lean ====
section
/-! DEFINITION. Clock synthesis: references, loops and their shelter, furrow MDLLs (R269–R284). -/
namespace Sys2Proof.Machine

/-- Does the island of a loop have a shelter clock (R273)? -/
def hasShelter (n : Nat) : Bool := (decide (2 ≤ n) && decide (n ≤ 5)) || (decide (15 ≤ n) && decide (n ≤ 30))

/-- Is a loop present in the variant and used by the image (R273, R285)? -/
def State.loopPresent (s : State) (n : Nat) : Bool :=
  s.dev.variant.loopFitted n && !s.rdBit (Reg.SYN_LOOP_STATUS n) 28

/-- SHELTERED and ALL_LOCKED follow the loops (R285). -/
def State.synRefresh (s : State) : State :=
  let sheltered := (List.range 33).any fun n => s.rdBit (Reg.SYN_LOOP_STATUS n) 30
  let all := (List.range 33).all fun n => !s.loopPresent n || s.rdBit (Reg.SYN_LOOP_STATUS n) 31
  (s.wrBit Reg.SYN_STATUS 28 sheltered).wrBit Reg.SYN_STATUS 0 (all && !sheltered)

/-- The island of a loop moves onto its shelter clock, if it has one (R281). -/
def State.shelter (s : State) (n : Nat) : State :=
  let s1 := s.wrBit (Reg.SYN_LOOP_STATUS n) 31 false
  if hasShelter n then
    ((s1.wrBit (Reg.SYN_LOOP_STATUS n) 30 true).setSyn { s1.syn with shelterAt := Tab.insert s1.syn.shelterAt n s1.now }).synRefresh
  else s1.synRefresh

/-- A window outside ±200 ppm of target ends: the count of good windows starts again (R282). -/
def State.badWindow (s : State) (n : Nat) : State :=
  s.setSyn { s.syn with badAt := Tab.insert (Tab.erase s.syn.badAt n) n s.now }

/-- Does a window of the loop outside ±200 ppm end in this instant (R282)? -/
def State.badFalls (s : State) (n : Nat) : Bool :=
  s.sameInstant fun c => match c with
    | .loopUnlock t m e => decide (t ≤ s.now) && m == n && decide (200 < e.natAbs)
    | _ => false

/-- The mode of video-family synthesizer v: 0 INTERNAL, 1 EXT_PREFERRED, 2 EXT_REQUIRED (R270). -/
def State.vfsMode (s : State) (v : Nat) : Nat := s.rdFld Reg.SYN_REFCFG (4 * v + 1) (4 * v)

/-- The state of synthesizer v: 0 INTERNAL, 1 TRACKING, 2 HOLD (R285). -/
def State.vfsState (s : State) (v : Nat) : Nat := s.rdFld Reg.SYN_STATUS (25 + 2 * v) (24 + 2 * v)

/-- Set the state of synthesizer v. -/
def State.setVfs (s : State) (v x : Nat) : State := s.wrFld Reg.SYN_STATUS (25 + 2 * v) (24 + 2 * v) x

/-- Is the external input of synthesizer v present (R285: REFV_PRESENT bit 30, REFVF_PRESENT bit 29)? -/
def State.refPresent (s : State) (v : Nat) : Bool := s.rdBit Reg.SYN_STATUS (30 - v)

/-- A tracked input is lost (R271): the mean frequency of the tracking is held; event, C3. -/
def State.vfsLost (s : State) (v : Nat) (ppm : Int) : State :=
  (((s.setSyn { s.syn with held := Tab.put 0 s.syn.held v ppm }).setVfs v 2).synEvent (3 + v)).raise 0x019 0x05 v 3

/-- Is the device in JOIN or SERVICE (R284)? -/
def State.inOperation (s : State) : Bool := s.ctl.mode = .join || s.ctl.mode = .service

/-- VFS_REF_LOST (R271). -/
def execVfsRefLost (t v : Nat) (s0 : State) : Host.Outcome State Fault Refusal :=
  let s := s0.at t
  if 1 < v then .next s
  else
    let ppm := toSigned 16 (s.rdFld Reg.SYN_REF_PPM (15 + 16 * v) (16 * v))
    let s1 := (s.wrBit Reg.SYN_STATUS (30 - v) false).wrFld Reg.SYN_REF_PPM (15 + 16 * v) (16 * v) 0
    let s2 := s1.setSyn { s1.syn with retracking := Tab.erase s1.syn.retracking v }
    if s.vfsState v == 1 then .next (s2.vfsLost v ppm) else .next s2

/-- VFS_REF_REQUALIFIED (R271): present 1 s within ±100 ppm; a synthesizer that holds starts to retrack, and slews by no
more than 0.05 ppm per ms. -/
def execVfsRefRequalified (t v : Nat) (ppm : Int) (s0 : State) : Host.Outcome State Fault Refusal :=
  let s := s0.at t
  if decide (1 < v) || decide (10000 < ppm.natAbs) then .next s
  else
    let s1 := (s.wrBit Reg.SYN_STATUS (30 - v) true).wrFld Reg.SYN_REF_PPM (15 + 16 * v) (16 * v)
      (ofSigned 16 (clampInt (-32768) 32767 ppm))
    if s1.vfsState v == 2 && s1.vfsMode v != 0 then
      let back := s1.now + (ppm - Tab.get 0 s1.syn.held v).natAbs * 200000
      .next (s1.setSyn { s1.syn with retracking := Tab.insert (Tab.erase s1.syn.retracking v) v back })
    else .next s1

/-- VFS_TRACKING_AGAIN (R271): the slew from the held frequency is finished. -/
def execVfsTrackingAgain (t v : Nat) (s0 : State) : Host.Outcome State Fault Refusal :=
  let s := s0.at t
  match Tab.find? s.syn.retracking v with
  | some back =>
    if back ≤ s.now then .next (((s.setSyn { s.syn with retracking := Tab.erase s.syn.retracking v }).setVfs v 1).synEvent (5 + v))
    else .next s
  | none => .next s

/-- SYS_REF_LOST (R272): every loop that takes REFCLK_SYS stops, and the card port with them; the always-on domain moves onto the ring
oscillator; a C4 record is raised. The party wall stands still while SYS_OK is 0. -/
def execSysRefLost (t : Nat) (s0 : State) : Host.Outcome State Fault Refusal :=
  let s := s0.at t
  let s1 := (List.range 33).foldl (fun a n => a.wrBit (Reg.SYN_LOOP_STATUS n) 31 false) s
  let s2 := ((s1.wrBit (Reg.SYN_LOOP_STATUS 0) 30 true).wrBit Reg.SYN_STATUS 31 false).synRefresh
  .next (s2.raise 0x019 0x02 0 4).cardLinkDown

/-- LOOP_UNLOCK (R281, R284): the last window's error in ppm, outside ±1,000 ppm; the handling in JOIN and SERVICE is by loop. Of a loop out of lock, a
window outside ±200 ppm starts the count of R282 again. -/
def execLoopUnlock (t n : Nat) (error : Int) (s0 : State) : Host.Outcome State Fault Refusal :=
  let s := s0.at t
  let w := s.wrFld (Reg.SYN_LOOP_STATUS n) 15 0 (ofSigned 16 (clampInt (-32768) 32767 error))
  if !s.loopPresent n then .next s
  else if !s.rdBit (Reg.SYN_LOOP_STATUS n) 31 || decide (error.natAbs ≤ 1000) then
    .next (if 200 < error.natAbs then w.badWindow n else w)
  else
    let s1 := ((w.badWindow n).shelter n).synEvent 0
    if !s1.inOperation then .next s1
    else if 2 ≤ n ∧ n ≤ 5 then .next (s1.raise 0x019 0x03 n 3)
    else if 15 ≤ n ∧ n ≤ 30 then .next (s1.raise 0x019 0x03 n 1)
    else if 7 ≤ n ∧ n ≤ 14 then .next (s1.raise 0x019 0x03 n 4)
    else if n = 6 then .next s1.cardLinkDown
    else if 31 ≤ n ∧ s1.vfsState (n - 31) = 1 then .next (s1.vfsLost (n - 31) (toSigned 16 (s1.rdFld Reg.SYN_REF_PPM (15 + 16 * (n - 31)) (16 * (n - 31)))))
    else .next s1

/-- LOOP_RELOCKED (R282): 10 consecutive windows, 100 µs, within ±200 ppm, and none outside in the same instant; the island returns from shelter. -/
def execLoopRelocked (t n : Nat) (s0 : State) : Host.Outcome State Fault Refusal :=
  let s := s0.at t
  if !s.loopPresent n || (s.rdBit (Reg.SYN_LOOP_STATUS n) 31 && !s.rdBit (Reg.SYN_LOOP_STATUS n) 30) || s.badFalls n ||
      decide (s.now < Tab.get 0 s.syn.badAt n + 100000) then .next s
  else
    let s1 := ((s.wrBit (Reg.SYN_LOOP_STATUS n) 31 true).wrBit (Reg.SYN_LOOP_STATUS n) 30 false).wrBit
      (Reg.SYN_LOOP_STATUS n) 29 false
    .next (((s1.setSyn { s1.syn with shelterAt := Tab.erase s1.syn.shelterAt n, badAt := Tab.erase s1.syn.badAt n }).synRefresh).synEvent 1)

/-- LOOP_SHELTER_TIMEOUT (R284): CORE, CTRL, CMP or AUD on shelter for 20 ms in JOIN or SERVICE. -/
def execLoopShelterTimeout (t n : Nat) (s0 : State) : Host.Outcome State Fault Refusal :=
  let s := s0.at t
  match Tab.find? s.syn.shelterAt n with
  | some u =>
    if decide (2 ≤ n) && decide (n ≤ 5) && s.rdBit (Reg.SYN_LOOP_STATUS n) 30 && s.inOperation &&
        decide (u + 20000000 ≤ s.now) then .next (s.raise 0x019 0x03 n 4)
    else .next s
  | none => .next s

/-- GUARD_TRIP (R283): the guard moves the island to shelter; a loss of lock that follows is the loop's own (log 174). -/
def execGuardTrip (t n : Nat) (s0 : State) : Host.Outcome State Fault Refusal :=
  let s := s0.at t
  if s.loopPresent n && hasShelter n then
    let r := Reg.SYN_LOOP_STATUS n
    .next (((((s.badWindow n).shelter n).wrBit r 31 (s.rdBit r 31)).wrBit r 29 true).synEvent 2)
  else .next s

/-- The command RELOCK (R281, R285): loops 2–32, in BOOT, TRAIN and TEST only. -/
def State.relock (s : State) (n : Nat) : State := if 2 ≤ n ∧ s.loopPresent n = true ∧ s.rwlLocked = false then (s.badWindow n).shelter n else s

/-- RELOCK (R281, R285): SYN_CTRL with CONFIRM. -/
def execRelock (t confirm n : Nat) (s0 : State) : Host.Outcome State Fault Refusal :=
  let s := s0.at t
  if confirm = Config.confirm then .next (s.relock n) else .next s

/-- The output of an MDLL in Hz, rounded down (R275). -/
def mdllHz (family : Nat) : Nat := if family = 1 then 594000000 else if family = 2 then 593406593 else 625000000

/-- The lowest entry of a loop type of the band table whose range holds a frequency in Hz (R279). -/
def State.bandOf (s : State) (type hz : Nat) : Nat :=
  ((List.range 32).find? fun i => match Tab.find? s.syn.bands (32 * type + i) with
    | some b => b.fMax != 0 && decide (1000 * b.fMin ≤ hz) && decide (hz ≤ 1000 * b.fMax)
    | none => false).getD 0

/-- MDLL_LOCKED (R278): at the first exit of the furrow from LD. -/
def execMdllLocked (t f : Nat) (s0 : State) : Host.Outcome State Fault Refusal :=
  let s := s0.at t
  let r := Reg.SYN_FURROW_STATUS f
  let family := s.rdFld (Reg.SYN_FURROW_CFG f) 3 2
  if decide (16 * f < s.dev.variant.lanes) && family != 0 && s.rdBit r 30 then
    .next (((s.wrFld r 31 30 3).wrFld r 20 16 (s.bandOf 4 (mdllHz family))).setSyn { s.syn with mdllAt := Tab.erase s.syn.mdllAt f })
  else .next s

/-- MDLL_NO_LOCK (R278): no lock 20 ms after the MDLL was turned on; in SERVICE, the furrow's lanes stay in LD. -/
def execMdllNoLock (t f : Nat) (s0 : State) : Host.Outcome State Fault Refusal :=
  let s := s0.at t
  if s.ctl.mode = .service ∧ 16 * f < s.dev.variant.lanes ∧ s.rdBit (Reg.SYN_FURROW_STATUS f) 31 = false ∧
      s.rdBit (Reg.SYN_FURROW_STATUS f) 30 = true ∧ Tab.get s.now s.syn.mdllAt f + 20000000 ≤ s.now then
    let s1 := (List.range 16).foldl (fun a k =>
      let r := Reg.LAN_STATUS (16 * f + k)
      if a.rdFld r 29 28 = 3 then
        let a1 := a.wrFld r 29 28 2
        a1.setLane (16 * f + k) { a1.lane (16 * f + k) with goal := none }
      else a) s
    .next (((s1.setSyn { s1.syn with mdllAt := Tab.erase s1.syn.mdllAt f }).synEvent 7).raise 0x019 0x04 f 3)
  else .next s

/-- TX_STEER_LIMIT (R277): the steering demand of an SDI transmitter, in 0.001 ppm. Beyond ±250 ppm the rotator holds at the
limit and a C2 record is raised; a demand within range ends the condition. -/
def execTxSteerLimit (t lane : Nat) (demand : Int) (s0 : State) : Host.Outcome State Fault Refusal :=
  let s := s0.at t
  if !s.lanePresent lane || decide (1023 < lane) || !s.isSdi lane then .next s
  else if demand.natAbs ≤ 250000 then .next (s.setSyn { s.syn with steer := Tab.erase s.syn.steer lane })
  else .next ((s.setSyn { s.syn with steer := Tab.insert s.syn.steer lane demand }).raise (laneSource lane) 0x06 lane 2)

end Sys2Proof.Machine
end

