-- ==== Sys2Proof/Machine/Dram.lean ====
section
/-! DEFINITION. The DRAM controller: refresh, temperature, training, rate, ZQ calibration, real-time deadlines (R383–R401). -/
namespace Sys2Proof.Machine

/-- A channel with nothing owed. -/
def coldDrc : DrcRun := ⟨0, 0, 0, false, [], none⟩

/-- A channel's run. -/
def State.drcRun (s : State) (c : Nat) : DrcRun := Tab.get coldDrc s.drc.chans c

/-- Replace a channel's run. -/
def State.setDrc (s : State) (c : Nat) (x : DrcRun) : State :=
  s.setDrcs { s.drc with chans := Tab.put coldDrc s.drc.chans c x }

/-- Is a channel used: its group is declared (R385)? -/
def State.chanUsed (s : State) (c : Nat) : Bool := decide (c < s.dev.variant.channels) && s.groupUsed (c / 4)

/-- Ranks per channel (R383). -/
def State.ranks (s : State) : Nat := if s.rdBit Reg.DRC_CFG 28 then 2 else 1

/-- Is a channel kept refreshed: trained, and not in BOOT or TRAIN (R393)? -/
def State.refreshes (s : State) (c : Nat) : Bool :=
  s.chanUsed c && s.rdBit (Reg.DRCC_STATUS c) 30 && (s.rwlLocked || decide (s.ctl.mode = .test))

/-! Addresses (R386, R387). -/

/-- Where a byte of the window lies: its channel; in the channel, the rank, the row, the bank, the burst within the page, the byte within the burst. -/
structure DramPlace where
  chan : Nat
  rank : Nat
  row : Nat
  bank : Nat
  burst : Nat
  byte : Nat
  deriving DecidableEq, Repr

/-- The channel byte address of a window offset (R386). -/
def chanAddr (w : Nat) : Nat := w % 17179869184 / 2048 * 512 + w % 512

/-- The place of a window offset under the map and density of DRC_CFG (R386, R387). -/
def State.dramPlace (s : State) (w : Nat) : DramPlace :=
  let ca := chanAddr w
  let rankBit := if s.rdBit Reg.DRC_CFG 29 then 31 else 30
  let row := ca / 16384 % 2 ^ (rankBit - 14)
  let map := s.rdFld Reg.DRC_CFG 27 26
  let bank := if map = 1 then ca / 512 % 8
    else if map = 2 then Nat.xor (Nat.xor (ca / 2048 % 8) (row % 8)) (row / 8 % 8)
    else ca / 2048 % 8
  let burst := if map = 1 then ca / 4096 % 4 * 16 + ca / 32 % 16 else ca / 32 % 64
  ⟨4 * (w / 17179869184 % 8) + w / 512 % 4, ca / 2 ^ rankBit % 2, row, bank, burst, ca % 32⟩

/-! Refresh (R391–R393). -/

/-- Per-bank refresh (DRC_CFG.REFMODE)? -/
def State.perBank (s : State) : Bool := s.rdBit Reg.DRC_CFG 25

/-- The interval between refreshes of a rank of a channel in ns, halved while it is doubled (R391, R394). -/
def State.refreshEvery (s : State) (c : Nat) : Nat :=
  (if s.perBank then 488 else 3904) / (if s.rdBit (Reg.DRCC_STATUS c) 29 then 2 else 1)

/-- How long a refresh keeps its rank or bank busy, in ns (R391). -/
def State.refreshBusy (s : State) : Nat :=
  match s.perBank, s.rdBit Reg.DRC_CFG 29 with
  | false, false => 180
  | false, true => 280
  | true, false => 90
  | true, true => 140

/-- The refresh of a rank. -/
def DrcRun.rank (x : DrcRun) (r : Nat) : RankRef := Tab.get ⟨0, 0, 0, 0⟩ x.ranks r

/-- Is a bank of a rank refreshing: all of them, or in per-bank mode the one refreshed last (R391)? -/
def State.bankBusy (s : State) (c rank bank : Nat) : Bool :=
  let x := (s.drcRun c).rank rank
  decide (s.now < x.until_) && (!s.perBank || x.bank == bank)

/-- Has the interval since the last refresh of a rank that fell due passed? -/
def State.refreshFalls (s : State) (c rank : Nat) : Bool := decide (((s.drcRun c).rank rank).due + s.refreshEvery c ≤ s.now)

/-- Does a real-time burst at a window offset occupy the rank, or in per-bank mode the bank whose turn it is (R392)? -/
def State.burstOn (s : State) (c rank : Nat) (burst : Option Nat) : Bool :=
  match burst with
  | some w =>
    let p := s.dramPlace w
    p.chan == c && p.rank == rank && (!s.perBank || p.bank == ((s.drcRun c).rank rank).turn)
  | none => false

/-- What falls due is issued now, or owed; `issued` counts the refreshes of the rank up to now, banks in turn. -/
def State.refreshRank (s : State) (c rank issued : Nat) (now : Bool) : State :=
  let x := s.drcRun c
  let y := x.rank rank
  let turn := (y.turn + issued) % 8
  let z : RankRef := if now then ⟨s.now, turn, (turn + 7) % 8, s.now + s.refreshBusy⟩ else { y with due := s.now, turn := turn }
  s.setDrc c { x with ranks := Tab.put ⟨0, 0, 0, 0⟩ x.ranks rank z }

/-- REFRESH_DUE (R391, R392): not before its interval. `burst`: the window offset of the real-time burst in progress on the channel; `paid`: owed
refreshes paid in gaps since the last one fell due. A ninth owed one pre-empts. -/
def execRefreshDue (t c rank : Nat) (burst : Option Nat) (paid : Nat) (s0 : State) : Host.Outcome State Fault Refusal :=
  let s := s0.at t
  if s.refreshes c && decide (rank < s.ranks) && s.refreshFalls c rank then
    let busy := s.burstOn c rank burst
    let was := if rank = 0 then (s.drcRun c).owed0 else (s.drcRun c).owed1
    let owed := was - paid
    let next := if busy then min 8 (owed + 1) else owed
    let issue := !busy || owed == 8
    let x := (s.refreshRank c rank (min was paid + b2n issue) issue).drcRun c
    let y := if rank = 0 then { x with owed0 := next } else { x with owed1 := next }
    let s1 := (s.setDrc c y).wrFld (Reg.DRCC_STATUS c) 3 0 (max y.owed0 y.owed1)
    if busy && owed == 8 then
      .next (((s1.bump Reg.DRC_CNT_PREEMPT).bump (Reg.DRCC_CNT_PREEMPT c)).drcEvent 6)
    else .next s1
  else .next s

/-- HOT bit of a group follows its channels (R402). -/
def State.hotBit (s : State) (g : Nat) : State :=
  s.wrBit Reg.DRC_STATUS g ((List.range 4).any fun k => s.rdBit (Reg.DRCC_STATUS (4 * g + k)) 29)

/-- A reading of MR4 from a channel's ranks (R394); `poll`: at the poll interval, and so one of the two of the return. -/
def State.mr4 (s : State) (c r0 r1 : Nat) (poll : Bool) : State :=
  let st := Reg.DRCC_STATUS c
  let worst := if s.ranks = 2 then max r0 r1 else r0
  let s1 := (s.wrFld st 22 20 r0).wrFld st 26 24 (if s.ranks = 2 then r1 else 0)
  let x := s.drcRun c
  let was := s.rdBit st 29
  let s2 :=
    if 4 ≤ worst then
      let a := (s1.wrBit st 29 true).setDrc c { x with normal := 0, hot := worst == 7 }
      let b := if 6 ≤ worst then a.wrBit st 28 true else a
      let d := if was then b else b.drcEvent 3
      if worst = 7 then
        (let e := d.drcEvent 4; if x.hot then e else e.raise (0x0A0 + c) 0x25 c 3)
      else d
    else
      let n := if poll then x.normal + 1 else x.normal
      if was ∧ 2 ≤ n then (s1.wrFld st 29 28 0).setDrc c { x with normal := 0, hot := false }
      else s1.setDrc c { x with normal := if was then n else 0, hot := false }
  let s3 := s2.hotBit (c / 4)
  if poll && s3.rdBit st 29 then s3.bump Reg.DRC_CNT_DOUBLED else s3

/-- Has the poll interval in force passed since a channel's last poll (R394)? -/
def State.pollDue (s : State) (c : Nat) : Bool :=
  match (s.drcRun c).polled with
  | some u => decide (u + 1000000 * s.rdFld Reg.DRC_MAINT 21 16 ≤ s.now)
  | none => true

/-- MR4_POLL (R394): the readings of both ranks at the poll interval. -/
def execMr4Poll (t c r0 r1 : Nat) (s0 : State) : Host.Outcome State Fault Refusal :=
  let s := s0.at t
  if s.refreshes c && s.pollDue c then
    let s1 := s.mr4 c (r0 % 8) (r1 % 8) true
    .next (s1.setDrc c { s1.drcRun c with polled := some s1.now })
  else .next s

/-- The command MR4_POLL: every used channel is read now (R394, R402). -/
def State.mr4Command (s : State) (readings : List (Nat × Nat × Nat)) : State :=
  readings.foldl (fun a r => if a.refreshes r.1 then a.mr4 r.1 (r.2.1 % 8) (r.2.2 % 8) false else a) s

/-- MR4_POLL_CMD (R394). -/
def execMr4PollCmd (t confirm : Nat) (readings : List (Nat × Nat × Nat)) (s0 : State) : Host.Outcome State Fault Refusal :=
  let s := s0.at t
  if confirm = Config.confirm then .next (s.mr4Command readings) else .next s

/-- Training starts (R395): every used channel is untrained, its DRAM re-initialised and its contents lost; the rate written last is in
force. -/
def State.trainStart (s : State) : State :=
  let s1 := (List.range s.dev.variant.channels).foldl (fun a c =>
    if a.chanUsed c then (a.wr (Reg.DRCC_STATUS c) 0x80000000).setDrc c coldDrc else a) s
  let s2 := ((s1.wrFld Reg.DRC_STATUS 31 30 1).wrBit Reg.DRC_STATUS 28 false).wr Reg.DRC_TRAIN_STATUS 0x10000000
  ((s2.setDram []).setDrcs { s2.drc with trainAt := s2.now, rate := s2.rdFld Reg.DRC_CFG 31 30 })

/-- The group loops lock again at a new rate (R281, R398). -/
def State.relockGroups (s : State) : State :=
  if s.drc.rate = s.rdFld Reg.DRC_CFG 31 30 then s
  else (List.range s.dev.variant.groups).foldl (fun a g => if a.groupUsed g then a.relock (7 + g) else a) s

/-- The command TRAIN (R395, R398): in TEST, while no training runs. -/
def State.trainCommand (s : State) : State :=
  if s.ctl.mode = .test ∧ s.rdBit Reg.DRC_STATUS 30 = false then s.relockGroups.trainStart else s

/-- DRAM_TRAIN_CMD (R395). -/
def execDramTrainCmd (t confirm : Nat) (s0 : State) : Host.Outcome State Fault Refusal :=
  let s := s0.at t
  if confirm = Config.confirm then .next s.trainCommand else .next s

/-- Has sowing stage S2 started (R398)? -/
def State.s2Started (s : State) : Bool := decide (2 ≤ s.power.stage) || (decide (s.power.stage = 1) && s.power.sowing)

/-- Does training start in this instant: the command in TEST, or stage S2 in TRAIN (R401)? -/
def State.trainFalls (s : State) : Bool :=
  s.sameInstant fun c => match c with
    | .dramTrainCmd t confirm => decide (t ≤ s.now) && confirm == Config.confirm && s.ctl.mode == .test
    | .sowStageStart t _ => decide (t ≤ s.now) && s.ctl.mode == .train && s.power.stage == 1 && !s.power.sowing && s.power.reaping.isNone
    | _ => false

/-- A write of DRC_CFG.RATE (R398); one in the instant in which training starts is ignored and flagged (R401). -/
def State.rateWrite (s : State) (rate : Nat) : State :=
  if s.rwlLocked ∨ 3 ≤ rate then s
  else if (if s.ctl.mode = .test then s.rdBit Reg.DRC_STATUS 30 else s.s2Started) || s.trainFalls then s.drcEvent 2
  else s.wrFld Reg.DRC_CFG 31 30 rate

/-- DRC_RATE_WRITE (R398). -/
def execDrcRateWrite (t rate : Nat) (s0 : State) : Host.Outcome State Fault Refusal := .next ((s0.at t).rateWrite rate)

/-! Training steps (R384, R395, R396). -/

/-- Density code of a channel in MR8 (PRESUMED JESD209-4): OP[5:2] 0100 for 8 Gb, 0110 for 16 Gb; OP[7:6] 00 is x16. -/
def mr8Fits (sixteen : Bool) (v : Nat) : Bool := v / 64 == 0 && v / 4 % 16 == if sixteen then 6 else 4

/-- The longest run of set bits among codes 0–127: (first, length), scanning upward with the present run. -/
def eyeScanRun (mask : Nat) : Nat → Nat → Nat → (Nat × Nat) → (Nat × Nat)
  | 0, _, _, best => best
  | fuel + 1, code, run, best =>
    let r := if mask / 2 ^ code % 2 = 1 then run + 1 else 0
    eyeScanRun mask fuel (code + 1) r (if best.2 < r then (code + 1 - r, r) else best)

/-- The longest run of passing codes of a sweep. -/
def eyeOf (mask : Nat) : Nat × Nat := eyeScanRun mask 128 0 0 (0, 0)

/-- The word of an eye register (R402). -/
def eyeWord (mask : Nat) : Nat :=
  let e := eyeOf mask
  let right := e.1 + e.2 - 1
  if e.2 = 0 then 0
  else (if 8 ≤ e.2 then 2147483648 else 0) + right * 65536 + e.1 * 256 + (e.1 + right) / 2

/-- The first lane index with no eye, among the lanes of the ranks used. -/
def noEye (ranks : Nat) (v : List Nat) : Option Nat :=
  (List.range (2 * ranks)).find? fun k => decide ((eyeOf (v.getD k 0)).2 < 8)

/-- Record what one channel reports at the end of a step, and say whether it failed there: the lane index. -/
def State.trainChan (s : State) (step : Nat) (x : TrainChan) : State × Option Nat :=
  let c := x.chan
  let g (k : Nat) : Nat := x.v.getD k 0
  match step with
  | 2 =>
    let two := s.ranks == 2
    let id := g 0 % 256 * 16777216 + g 1 % 256 * 65536 + if two then g 2 % 256 * 256 + g 3 % 256 else 0
    let sixteen := s.rdBit Reg.DRC_CFG 29
    let bad0 := s.drc.rate == 3 || x.answers % 2 == 0 || !mr8Fits sixteen (g 1)
    let bad1 := two && (x.answers / 2 % 2 == 0 || !mr8Fits sixteen (g 3))
    (s.wr (Reg.DRCC_IDENT c) (BitVec.ofNat 32 id), if bad0 then some 0 else if bad1 then some 2 else none)
  | 3 => (s.wr (Reg.DRCC_CBT c) (BitVec.ofNat 32 (g 1 % 128 * 256 + g 0 % 128)), if x.ok then none else some 0)
  | 4 => (s.wr (Reg.DRCC_WLVL c) (BitVec.ofNat 32 (g 3 % 128 * 16777216 + g 2 % 128 * 65536 + g 1 % 128 * 256 + g 0 % 128)),
      if x.ok then none else some 0)
  | 5 => ((List.range (2 * s.ranks)).foldl (fun a k => a.wr (Reg.DRCC_REYE c k) (BitVec.ofNat 32 (eyeWord (g k)))) s, noEye s.ranks x.v)
  | 6 => ((List.range (2 * s.ranks)).foldl (fun a k => a.wr (Reg.DRCC_WEYE c k) (BitVec.ofNat 32 (eyeWord (g k)))) s, noEye s.ranks x.v)
  | _ => (s, none)

/-- Record a step on every used channel; the first failure in channel order. -/
def State.trainChans (s : State) (step : Nat) : List TrainChan → State × Option (Nat × Nat)
  | [] => (s, none)
  | x :: xs =>
    let r := if s.chanUsed x.chan then s.trainChan step x else (s, none)
    let rest := State.trainChans r.1 step xs
    match r.2, rest.2 with
    | some k, some (c, j) => (rest.1, if x.chan ≤ c then some (x.chan, k) else some (c, j))
    | some k, none => (rest.1, some (x.chan, k))
    | none, o => (rest.1, o)

/-- Duration of the training so far in ms, saturating (R402). -/
def State.trainMs (s : State) : Nat := min 1023 ((s.now - s.drc.trainAt) / 1000000)

/-- A training step ends (R395, R396): the next begins; after step 6 every used channel is trained; a failure ends the training. Answers the
refusal code of a failure. -/
def State.trainStep (s : State) (xs : List TrainChan) : State × Option Nat :=
  let step := s.rdFld Reg.DRC_TRAIN_STATUS 31 28
  let r := s.trainChans step xs
  match r.2 with
  | some (c, k) =>
    let s1 := (r.1.wr Reg.DRC_TRAIN_STATUS
      (BitVec.ofNat 32 (0x88000000 + c * 65536 + k * 4096 + s.trainMs))).wrFld Reg.DRC_STATUS 31 30 0
    (if s.ctl.mode = .test then s1.drcEvent 1 else s1, some (if step = 2 then 0x32 else 0x31))
  | none =>
    if 6 ≤ step then
      let s1 := (List.range s.dev.variant.channels).foldl (fun a c =>
        if a.chanUsed c then a.wrBit (Reg.DRCC_STATUS c) 30 true else a) r.1
      (((s1.wr Reg.DRC_TRAIN_STATUS (BitVec.ofNat 32 (0x70000000 + s.trainMs))).wrFld Reg.DRC_STATUS 31 30 2).drcEvent 0, none)
    else (r.1.wrFld Reg.DRC_TRAIN_STATUS 31 28 (step + 1), none)

/-! ZQ calibration (R399) and real-time deadlines (R390). -/

/-- ZQ_CALIBRATION (R399): a maintenance activity on the group's resource. -/
def execZqCalibration (t g : Nat) (s0 : State) : Host.Outcome State Fault Refusal :=
  let s := s0.at t
  if s.groupUsed g && s.refreshes (4 * g) then
    .next (s.mntRequest (66 + g) ⟨4, g⟩).1
  else .next s

/-- ZQ_LATCH (R399): 1 µs after ZQCal Start the activity ends with its latch. -/
def execZqLatch (t g : Nat) (s0 : State) : Host.Outcome State Fault Refusal :=
  let s := s0.at t
  if (s.res (66 + g)).running = some ⟨4, g⟩ ∧ Tab.get 0 s.drc.zqAt g + 1000 ≤ s.now then
    .next ((s.setDrcs { s.drc with zqAt := Tab.put 0 s.drc.zqAt g 0 }).mntDone (66 + g))
  else .next s

/-- RT_REQUEST_COMPLETE (R390): a request completes after its deadline (uptime): counted, a C2 record; a late read of a slot is substituted
at its use. -/
def execRtRequestComplete (t c : Nat) (write : Bool) (deadline stream tile : Nat) (s0 : State) :
    Host.Outcome State Fault Refusal :=
  let s := s0.at t
  if s.chanUsed c && decide (deadline < s.now) then
    let s1 := ((s.bump Reg.DRC_CNT_RT_LATE).drcEvent 5).raise (0x0A0 + c) 0x24 c 2
    .next (if write then s1 else (s1.setFst { s1.fst with late := (stream, tile) :: s1.fst.late }))
  else .next s

end Sys2Proof.Machine
end

