-- ==== Sys2Proof/Machine/Life.lean ====
section
/-! DEFINITION. The life log: the journal in flash, its reading at boot, checkpoints and severe records (R417–R421, R426). -/
namespace Sys2Proof.Machine

/-- The flash offset of a journal sector (R417). -/
def sectorAt (n : Nat) : Nat := 0x06040000 + 65536 * n

/-- MAGIC of a sector header (R417). -/
def lifeMagic : Nat := 0x5A484C46

/-- The 16 bytes of a sector header. -/
def sectorHeader (seq erases : Nat) : List Byte :=
  let b := toLe 4 lifeMagic ++ toLe 4 seq ++ toLe 4 erases
  b ++ toLe 4 (crc32 b)

/-- A valid sector header's sequence and erase count. -/
def State.sectorSeq (s : State) (n : Nat) : Option (Nat × Nat) :=
  let b := s.flashBytes (sectorAt n) 16
  if le (slice b 0 4) = lifeMagic ∧ le (slice b 12 4) = crc32 (slice b 0 12) then
    some (le (slice b 4 4), le (slice b 8 4))
  else none

/-- A journal entry found in a sector: where, and its bytes. -/
structure JournalEntry where
  at_ : Nat
  bytes : List Byte
  deriving DecidableEq, Repr

/-- The entry at a place, if its type, size and CRC are right (R417). -/
def State.entryAt (s : State) (base p : Nat) : Option JournalEntry :=
  let ty := le (s.flashBytes (base + p) 4)
  let n := if ty = 1 then 9216 else if ty = 2 then 64 else 0
  if n = 0 ∨ 65536 < p + n then none
  else
    let b := s.flashBytes (base + p) n
    if le (slice b (n - 4) 4) = crc32 (slice b 0 (n - 4)) then some ⟨p, b⟩ else none

/-- The entries of a sector from place p on. An entry with a bad CRC is passed over to the next 256-byte page (R417). -/
def State.entriesFrom (s : State) (base : Nat) : Nat → Nat → List JournalEntry
  | 0, _ => []
  | fuel + 1, p =>
    if 65536 < p + 64 then []
    else match s.entryAt base p with
      | some e => e :: State.entriesFrom s base fuel (p + e.bytes.length)
      | none => State.entriesFrom s base fuel ((p / 256 + 1) * 256)

/-- The entries of a sector. -/
def State.entries (s : State) (n : Nat) : List JournalEntry := s.entriesFrom (sectorAt n) 1024 32

/-- Insert a sector by its sequence. -/
def insertSector (x : Nat × Nat) : List (Nat × Nat) → List (Nat × Nat)
  | [] => [x]
  | y :: ys => if x.1 < y.1 then x :: y :: ys else y :: insertSector x ys

/-- The valid sectors as (sequence, number), in rising sequence. -/
def State.validSectors (s : State) : List (Nat × Nat) :=
  (List.range 128).foldl (fun a n => match s.sectorSeq n with
    | some (q, _) => insertSector (q, n) a
    | none => a) []

/-- The fault record held by a severe entry (R403, R417). -/
def recordOf (b : List Byte) : FaultRec :=
  let w (i : Nat) : Nat := le (slice b (16 + 4 * i) 4)
  ⟨w 0 + w 1 % 65536 * 4294967296, w 1 / 65536 % 4096, w 1 / 268435456 % 8, w 1 / 2147483648 == 1, w 2, w 3 % 16777216,
    w 3 / 16777216⟩

/-- Is an entry a checkpoint? -/
def JournalEntry.isCheckpoint (e : JournalEntry) : Bool := le (slice e.bytes 0 4) == 1

/-- The severe entries of a list, newest first. -/
def severeOf (es : List JournalEntry) : List SevereRec :=
  es.foldl (fun a e => if e.isCheckpoint then a else ⟨le (slice e.bytes 8 8), recordOf e.bytes⟩ :: a) []

/-- Write the totals of a checkpoint back into the registers (R418): the order of the totals after the calendar is the order
in which R418 lists them (DEDUCED, log 9). -/
def State.loadTotals (s : State) (b : List Byte) : State :=
  let v (o : Nat) : Nat := le (slice b o 8)
  let s1 := ((((s.wr64 Reg.LIFE_PON_LO Reg.LIFE_PON_HI (v 24)).wr64 Reg.LIFE_BOOTS_LO Reg.LIFE_BOOTS_HI (v 32)).wr64
    Reg.LIFE_KEYSEC_LO Reg.LIFE_KEYSEC_HI (v 40)).wr64 Reg.LIFE_ENTRIES_LO Reg.LIFE_ENTRIES_HI (v 48)).wr64
    Reg.LIFE_TILEFAIL_LO Reg.LIFE_TILEFAIL_HI (v 64)
  let s2 := s1.wr64 Reg.LIFE_TJSUM_LO Reg.LIFE_TJSUM_HI (v 96)
  let s3 := (List.range 16).foldl (fun a k => a.wr64 (Reg.LIFE_TJBIN_LO k) (Reg.LIFE_TJBIN_HI k) (v (104 + 8 * k))) s2
  let s4 := (List.range 1034).foldl (fun a k => a.wr64 (Reg.LIFE_LANEERR_LO k) (Reg.LIFE_LANEERR_HI k) (v (232 + 8 * k))) s3
  let s5 := (List.range 128).foldl (fun a k => a.wr (Reg.LIFE_ERASE k) (BitVec.ofNat 32 (le (slice b (8504 + 4 * k) 4)))) s4
  s5.setLife { s5.life with
    salvos := v 56, retired := v 72, c3 := v 80, c4 := v 88
    calSec := le (slice b 8 6), calNs := le (slice b 14 4) }

/-- Device time is loaded from the calendar (R365, R421). -/
def State.loadCalendar (s : State) : State :=
  ((s.setLife { s.life with calAt := s.now }).setPtp { s.ptp with offset := ((s.life.calSec * 1000000000 + s.life.calNs : Nat) : Int) * 1000000000 -
      (s.now : Int) * 1000000000 })

/-- Where writing goes on in a sector: after its last entry. -/
def nextFree (es : List JournalEntry) : Nat := es.foldl (fun _ e => e.at_ + e.bytes.length) 32

/-- Is the rest of a sector from a place on erased? -/
def State.erasedFrom (s : State) (n p : Nat) : Bool :=
  s.flash.all fun e => decide (e.1 < sectorAt n + p) || decide (sectorAt n + 65536 ≤ e.1)

/-- Erase a sector and give it a header (R417). -/
def State.openSector (s : State) (n seq : Nat) : State :=
  let c := (s.rd (Reg.LIFE_ERASE n)).toNat
  let s1 := s.flashPut (sectorAt n) (sectorHeader seq c)
  s1.setLife { s1.life with sector := n, sectorSeq := seq, writeAt := 32 }

/-- Erase a sector and count it. -/
def State.eraseSector (s : State) (n : Nat) : State := (s.flashErase (sectorAt n) 65536).bump (Reg.LIFE_ERASE n)

/-- The journal is read in S1 (R417, R419, R421): the newest checkpoint, the severe records after it, the calendar; a journal
with no valid sector is formatted. The boot is counted. -/
def State.readJournal (s : State) : State :=
  let s0 := s.setLife { s.life with lastSecond := s.now / 1000000000, lastCheckpoint := s.now }
  let s1 : State := match s0.validSectors.reverse with
    | [] =>
      (((s0.eraseSector 0).openSector 0 1).setLife
        { ((s0.eraseSector 0).openSector 0 1).life with formatted := true, entrySeq := 0 }).lifeEvent 1
    | (q, n) :: older =>
      let es : List JournalEntry := (((q, n) :: older).reverse.map fun (x : Nat × Nat) => s0.entries x.2).flatten
      let last := es.reverse.find? fun (e : JournalEntry) => e.isCheckpoint
      let after : List JournalEntry := es.foldl (fun (a : List JournalEntry) (e : JournalEntry) => if e.isCheckpoint then [] else a ++ [e]) []
      let sL := match last with
        | some e => s0.loadTotals e.bytes
        | none => s0
      let here := s0.entries n
      let p := nextFree here
      let free := if s0.erasedFrom n p then p else
        ((s0.flash.foldl (fun (a : Nat) (e : Nat × Byte) => if decide (sectorAt n ≤ e.1) && decide (e.1 < sectorAt n + 65536) then
          max a (e.1 - sectorAt n) else a) 0) / 256 + 1) * 256
      let new : List SevereRec := severeOf after
      sL.setLife { sL.life with
        valid := true
        entrySeq := match es.reverse with
          | e :: _ => le (slice e.bytes 4 4)
          | [] => 0
        sector := n
        sectorSeq := q
        writeAt := free
        severe := (severeOf es).take 4096
        c3 := sL.life.c3 + (new.filter fun (r : SevereRec) => r.record.cls == 3).length
        c4 := sL.life.c4 + (new.filter fun (r : SevereRec) => r.record.cls == 4).length }
  (s1.loadCalendar).bump64 Reg.LIFE_BOOTS_LO Reg.LIFE_BOOTS_HI 1

/-- The calendar (R421): seconds, nanoseconds, CONTINUED. -/
def State.calendar (s : State) : Nat × Nat × Bool :=
  if s.rdBit Reg.PTP_STATUS 31 then (s.deviceTime / 1000000000 % 281474976710656, s.deviceTime % 1000000000, false)
  else ((s.life.calSec + (s.now - s.life.calAt) / 1000000000) % 281474976710656, s.life.calNs, true)

/-- The 16 bytes of the calendar. -/
def State.calendarBytes (s : State) : List Byte :=
  let c := s.calendar
  toLe 6 c.1 ++ toLe 4 c.2.1 ++ toLe 2 0 ++ toLe 4 (b2n c.2.2)

/-- The bytes of a checkpoint (R417, R418). -/
def State.checkpointBytes (s : State) (seq : Nat) : List Byte :=
  let r (lo hi : Nat) : List Byte := toLe 8 (s.rd64 lo hi)
  let b := toLe 4 1 ++ toLe 4 seq ++ s.calendarBytes ++ r Reg.LIFE_PON_LO Reg.LIFE_PON_HI ++
    r Reg.LIFE_BOOTS_LO Reg.LIFE_BOOTS_HI ++ r Reg.LIFE_KEYSEC_LO Reg.LIFE_KEYSEC_HI ++
    r Reg.LIFE_ENTRIES_LO Reg.LIFE_ENTRIES_HI ++ toLe 8 s.life.salvos ++ r Reg.LIFE_TILEFAIL_LO Reg.LIFE_TILEFAIL_HI ++
    toLe 8 s.life.retired ++ toLe 8 s.life.c3 ++ toLe 8 s.life.c4 ++ r Reg.LIFE_TJSUM_LO Reg.LIFE_TJSUM_HI ++
    ((List.range 16).map fun k => r (Reg.LIFE_TJBIN_LO k) (Reg.LIFE_TJBIN_HI k)).flatten ++
    ((List.range 1034).map fun k => r (Reg.LIFE_LANEERR_LO k) (Reg.LIFE_LANEERR_HI k)).flatten ++
    ((List.range 128).map fun k => toLe 4 (s.rd (Reg.LIFE_ERASE k)).toNat).flatten
  let p := b ++ List.replicate (9212 - b.length) 0
  p ++ toLe 4 (crc32 p)

/-- The bytes of a severe record (R417). -/
def State.severeBytes (s : State) (seq : Nat) (r : FaultRec) : List Byte :=
  let b := toLe 4 2 ++ toLe 4 seq ++ toLe 8 s.calendar.1 ++ r.bytes ++ List.replicate 28 0
  b ++ toLe 4 (crc32 b)

/-- The sector after the present one is opened; the severe records of the one to be erased next, among the newest 4,096, are
copied forward before it is erased (R419). -/
def State.nextSector (s : State) : State :=
  let n := (s.life.sector + 1) % 128
  let m := (n + 1) % 128
  let s1 := s.openSector n (s.life.sectorSeq + 1)
  let keep := (s1.entries m).filter fun e => !e.isCheckpoint &&
    s1.life.severe.contains ⟨le (slice e.bytes 8 8), recordOf e.bytes⟩
  let s2 := keep.foldl (fun a e =>
    (a.flashPut (sectorAt n + a.life.writeAt) e.bytes).setLife { a.life with writeAt := a.life.writeAt + 64 }) s1
  s2.eraseSector m

/-- Program the bytes of an entry, in the next sector if they do not fit. -/
def State.programEntry (s : State) (bs : List Byte) : State :=
  let s1 := if s.life.writeAt + bs.length ≤ 65536 then s else s.nextSector
  (s1.flashPut (sectorAt s1.life.sector + s1.life.writeAt) bs).setLife
    { s1.life with writeAt := s1.life.writeAt + bs.length, entrySeq := s1.life.entrySeq + 1 }

/-- One queued write is programmed: a checkpoint (none) or a severe record. -/
def State.writeEntry (s : State) (w : Option FaultRec) : State :=
  match w with
  | none =>
    let c := s.calendar
    let s1 := (s.programEntry (s.checkpointBytes (s.life.entrySeq + 1))).lifeEvent 0
    s1.setLife { s1.life with calSec := c.1, calNs := c.2.1, calAt := s1.now }
  | some r =>
    let s1 := s.programEntry (s.severeBytes (s.life.entrySeq + 1) r)
    s1.setLife { s1.life with severe := (⟨s.calendar.1, r⟩ :: s1.life.severe).take 4096 }

/-- Has the journal been read at this boot? -/
def State.lifeReady (s : State) : Bool := s.life.valid || s.life.formatted

/-- Queue a life-log write (R416, R419, R422): one checkpoint at most waits, after the severe records that wait. -/
def State.queueLife (s : State) (w : Option FaultRec) : State :=
  if !s.lifeReady then s
  else
    let run := s.life.queued.take s.life.writing
    let wait := s.life.queued.drop s.life.writing
    let wait2 := match w with
      | none => if wait.contains none then wait else wait ++ [none]
      | some r => wait.filter (·.isSome) ++ [some r] ++ wait.filter (·.isNone)
    ((s.setLife { s.life with queued := run ++ wait2 }).mntRequest flashRes ⟨1, 0⟩).1

/-- CHECKPOINT (R426): LIFE_CTRL with CONFIRM. -/
def execCheckpoint (t confirm : Nat) (s0 : State) : Host.Outcome State Fault Refusal :=
  let s := s0.at t
  if confirm = Config.confirm then .next (s.queueLife none) else .next s

/-- Does a C3 or C4 record that the log takes arrive in this instant (R422)? -/
def State.severeComes (s : State) : Bool :=
  s.logsSevere && (s.flt.inbox.any fun m => decide (m.time ≤ s.now) && decide (3 ≤ s.escalated m)) && s.sameInstant fun c => match c with
    | .faultAccepted t => decide (t ≤ s.now)
    | _ => false

/-- A checkpoint is queued, behind severe records that have yet to be appended (R422). -/
def State.checkpoint (s : State) : State :=
  if s.flt.toAppend.isEmpty && !s.severeComes then s.queueLife none else s.setLife { s.life with afterSevere := true }

/-- CHECKPOINT_DUE (R419): 10 minutes of power-on since the last one; or after a C3 or C4, at most once per 60 s. Under ROM
fallback only the checkpoint of the boot is appended. -/
def execCheckpointDue (t : Nat) (s0 : State) : Host.Outcome State Fault Refusal :=
  let s := s0.at t
  let timed := decide (s.life.lastCheckpoint + 600000000000 ≤ s.now)
  let event := s.life.eventDue && (match s.life.lastEvent with
    | none => true
    | some u => decide (u + 60000000000 ≤ s.now))
  if s.boot.romFallback || !s.lifeReady then .next s
  else if timed || event then
    let s1 := s.setLife { s.life with
      lastCheckpoint := if timed then s.now else s.life.lastCheckpoint
      lastEvent := if event || s.severeComes then some s.now else s.life.lastEvent
      eventDue := s.life.eventDue && !event && !(timed && s.flt.toAppend.any fun r => r.time == s.deviceTime % 281474976710656) }
    .next s1.checkpoint
  else .next s

/-- LIFE_WRITE_DONE (R417, R426): the running life-log write is programmed; a failure raises FLASH_ERROR, sets WRITE_FAILED and
retries at the next 256-byte page. -/
def execLifeWriteDone (t : Nat) (ok : Bool) (s0 : State) : Host.Outcome State Fault Refusal :=
  let s := s0.at t
  if !s.mntRuns flashRes 1 then .next s
  else if ok then
    let s1 := (s.life.queued.take s.life.writing).foldl State.writeEntry s
    let s2 := s1.setLife { s1.life with queued := s1.life.queued.drop s1.life.writing, writing := 0 }
    .next (s2.mntDone flashRes)
  else
    let bad := sectorAt s.life.sector + s.life.writeAt
    let s1 := s.setLife { s.life with writeAt := (s.life.writeAt / 256 + 1) * 256 }
    .next ((s1.lifeEvent 2).raise 0x098 0x11 bad 2)

/-- Firmware appends the severe records accepted since the last period, and the checkpoint that follows them (R419, R422). -/
def State.appendSevere (s : State) : State :=
  let s1 := s.flt.toAppend.foldl (fun a r => a.queueLife (some r)) s
  let s2 := s1.setFlt { s1.flt with toAppend := [] }
  if s2.life.afterSevere then (s2.setLife { s2.life with afterSevere := false }).queueLife none else s2

end Sys2Proof.Machine
end

