-- ==== Sys2Proof/Machine/Live.lean ====
section
/-! DEFINITION. Live-set parameters: their ranges, the groups whose headlands they wait for, and how each takes effect (R51, R52, R121, R122, R155,
R165, R201, R246, R266, R293, R305, R335, R351, R380, R394, R400). -/
namespace Sys2Proof.Machine

/-- A big-endian field of a VALUE. -/
def liveVal (e : LiveEntry) (o n : Nat) : Nat := beAt e.value o n

/-- The compositor and layer an entry names: INDEX = 16 × c + n, or INDEX = c for 0x05 and 0x08 (R165). -/
def liveLayer (e : LiveEntry) : Nat × Nat := if e.param = 5 ∨ e.param = 8 then (e.index, 0) else (e.index / 16, e.index % 16)

/-! Effects. -/

/-- The crop asked for of a layer whose crop is clamped. -/
def State.askCrop (s : State) (c n : Nat) (x : Option (Nat × Nat)) : State :=
  let y := s.cmpRun c
  s.setCmp c { y with asked := match x with
    | some v => Tab.insert (Tab.erase y.asked n) n v
    | none => Tab.erase y.asked n }

/-- A layer's crop once its values are in: clamped if it is scaled and wider than 4,096 (R155, R66). The crop asked for is kept, so that a later size may fit it;
a clamp that lasts is counted again only with a new crop. -/
def State.clampLayer (s : State) (c n : Nat) (newCrop : Bool) : State :=
  let asked := Tab.find? (s.cmpRun c).asked n
  let was := !newCrop && asked.isSome
  let (x, w) := if newCrop then (s.rdFld (Reg.CMPL_CROP_XY c n) 15 0, s.rdFld (Reg.CMPL_CROP_WH c n) 15 0)
    else asked.getD (s.rdFld (Reg.CMPL_CROP_XY c n) 15 0, s.rdFld (Reg.CMPL_CROP_WH c n) 15 0)
  let sz := s.rd (Reg.CMPL_SIZE c n)
  let scaled := fld sz 15 0 != w || fld sz 31 16 != s.rdFld (Reg.CMPL_CROP_WH c n) 31 16
  let crop (a : State) (x w : Nat) : State := (a.wrFld (Reg.CMPL_CROP_WH c n) 15 0 w).wrFld (Reg.CMPL_CROP_XY c n) 15 0 x
  if scaled && decide (4096 < w) then
    let s1 := ((crop s (x + (w - 4096) / 2) 4096).askCrop c n (some (x, w))).wrBit (Reg.CMPL_CTRL c n) 26 true
    if was then s1 else (s1.bump (Reg.CMP_CNT_CLAMPED c)).cmpEvent c 1
  else ((crop s x w).askCrop c n none).wrBit (Reg.CMPL_CTRL c n) 26 false

/-- A register of two 16-bit halves: high, low. -/
def halves (hi lo : Nat) : Word := BitVec.ofNat 32 (hi % 65536 * 65536 + lo % 65536)

/-- A compositor's value takes effect (R165). -/
def State.applyCmp (s : State) (e : LiveEntry) : State :=
  let c := (liveLayer e).1
  let n := (liveLayer e).2
  match e.param with
  | 0x01 => (s.wr (Reg.CMPL_CROP_XY c n) (halves (liveVal e 2 2) (liveVal e 0 2))).wr (Reg.CMPL_CROP_WH c n)
      (halves (liveVal e 6 2) (liveVal e 4 2))
  | 0x02 => s.wr (Reg.CMPL_SIZE c n) (halves (liveVal e 2 2) (liveVal e 0 2))
  | 0x03 => s.wr (Reg.CMPL_POS c n) (halves (liveVal e 2 2) (liveVal e 0 2))
  | 0x04 => s.wrFld (Reg.CMPL_CTRL c n) 9 0 (liveVal e 0 2)
  | 0x05 =>
    let z (p : Nat) : Nat := byteAt e.value (2 + p / 2) / (if p % 2 = 0 then 16 else 1) % 16
    let word (lo k : Nat) : Nat := (List.range k).foldl (fun a i => a + z (lo + i) * 16 ^ i) 0
    (s.wr (Reg.CMP_ZORDER_LO c) (BitVec.ofNat 32 (word 0 8))).wr (Reg.CMP_ZORDER_HI c) (BitVec.ofNat 32 (word 8 4))
  | 0x06 => s.wrFld (Reg.CMPL_CTRL c n) 23 22 (liveVal e 0 1)
  | 0x07 => s.wrFld (Reg.CMPL_CTRL c n) 19 16 (liveVal e 0 1)
  | 0x08 => s.wr (Reg.CMP_BG c) (BitVec.ofNat 32 (liveVal e 2 2 * 1048576 + liveVal e 4 2 * 1024 + liveVal e 6 2))
  | 0x09 => s.wrFld (Reg.CMPL_TONE c n) 19 16 (liveVal e 0 1)
  | 0x0A => s.wrFld (Reg.CMPL_TONE c n) 15 8 (liveVal e 0 1)
  | 0x0B => s.wrFld (Reg.CMPL_TONE c n) 7 0 (liveVal e 0 1)
  | 0x0C => s.wrBit (Reg.CMPL_TONE c n) 31 (liveVal e 0 1 == 1)
  | 0x0D => (s.wr (Reg.CMPL_GADDR c n) (BitVec.ofNat 32 (liveVal e 0 4))).wr (Reg.CMPL_CROP_WH c n) (halves (liveVal e 6 2) (liveVal e 4 2))
  | 0x0E => s.wrBit (Reg.CMPL_CTRL c n) 30 (liveVal e 0 1 == 1)
  | 0x0F => s.wrBit (Reg.CMPL_CTRL c n) 31 (liveVal e 0 1 == 1)
  | _ => s

/-- Both halves of a 96 kHz destination pair, or the one destination (R201). -/
def State.dstHalves (s : State) (d : Nat) : List Nat :=
  match Tab.find? s.cfg.adst d with
  | some o => if o.rate = 1 then [d, d + 1] else [d]
  | none => [d]

/-- A value takes effect; `ns` is the switch point for the values that have one. Mode and delay of a stream are collected and applied together
by `State.applyLives` (R125). -/
def State.applyLive (ns : Int) (s : State) (e : LiveEntry) : State :=
  let i := e.index
  match e.param with
  | 0x10 => (s.dstHalves i).foldl (fun a d => a.setGain d (liveVal e 0 2) ns) s
  | 0x11 => (s.dstHalves i).foldl (fun a d =>
      (a.wrBit (Reg.AUD_GAIN d) 31 (liveVal e 0 1 == 1)).wrFld (Reg.AUD_GAIN d) 29 24 (clampNat 1 40 (liveVal e 1 1))) s
  | 0x12 => s.maskPending i (e.sub == 1) (liveVal e 0 8)
  | 0x13 => s.wrFld (Reg.AP_LEAD i) 15 0 (liveVal e 0 2)
  | 0x14 => s.wrFld (Reg.AP_LEAD i) 31 16 (liveVal e 0 2)
  | 0x17 => s.wrFld (Reg.TG_TOL i) 6 0 (liveVal e 0 1)
  | 0x18 => s.wrFld (Reg.TG_TOL i) 29 16 (liveVal e 0 2)
  | 0x19 => s.wrFld (Reg.TG_CFG i) 26 24 (liveVal e 0 1)
  | 0x1A => s.wrBit (Reg.TG_CFG i) 31 (liveVal e 0 1 == 1)
  | 0x1B => s.reorderCands i (BitVec.ofNat 32 (le (slice e.value 0 4)))
  | 0x1C => s.wrFld Reg.PTP_STEP 29 0 (liveVal e 0 4)
  | 0x1D => if e.sub = 1 then s.acceptStep else s.wrBit Reg.PTP_CFG 27 (liveVal e 0 1 == 1)
  | 0x1E => s.wrFld (Reg.LAN_TX_EQ i) 15 0 (liveVal e 0 1)
  | 0x1F => (s.wrFld (Reg.LAN_TX_EQ i) 23 16 (liveVal e 0 1)).wrFld (Reg.LAN_TX_EQ i) 31 24 (liveVal e 1 1)
  | 0x20 => s.wrFld (Reg.MAC_WM i) 31 16 (liveVal e 0 4)
  | 0x21 => s.wrFld (Reg.MAC_WM i) 15 0 (liveVal e 0 4)
  | 0x22 => s.wrFld (Reg.RXC_SKEW i) 15 0 (liveVal e 0 2)
  | 0x23 => s.setFst { s.fst with thumbMs := Tab.put 1000 s.fst.thumbMs i (liveVal e 0 2) }
  | 0x24 => s.wrFld (Reg.TG_FO_WIDTH i) 9 0 (liveVal e 0 2)
  | 0x25 => (s.wr (Reg.TWN_TALLY_CFG i) (BitVec.ofNat 32 (liveVal e 0 1 * 1073741824 + liveVal e 2 2))).wr (Reg.TWN_TALLY_DEST i)
      (BitVec.ofNat 32 (liveVal e 6 2 * 65536 + liveVal e 4 2))
  | 0x26 => s.wrFld Reg.DRC_MAINT 15 0 (liveVal e 0 2)
  | 0x27 => s.setEyeSec (liveVal e 0 2)
  | 0x28 => s.wrFld Reg.DRC_MAINT 21 16 (liveVal e 0 1)
  | _ => s.applyCmp e

/-- The live-set values in force, one per parameter, SUB and INDEX; an acceptance (0x1D SUB 1) is no value. -/
def rememberLive (l : List LiveEntry) (e : LiveEntry) : List LiveEntry :=
  if e.param = 0x1D ∧ e.sub = 1 then l
  else (l.filter fun x => !(x.param == e.param && x.sub == e.sub && x.index == e.index)) ++ [e]

/-- The layers whose crop or size a LIVE_SET names: clamped, or free of their clamp, by the values that it leaves (R155). -/
def State.clampLive (s : State) (es : List LiveEntry) : State :=
  ((es.filter fun e => e.param == 1 || e.param == 2).map liveLayer).eraseDups.foldl (fun a l =>
    a.clampLayer l.1 l.2 (es.any fun e => e.param == 1 && liveLayer e == l)) s

/-- Values take effect together, in order; the modes and delays of one stream as R125 says. -/
def State.applyLives (s : State) (ns : Int) (es : List LiveEntry) : State :=
  let s1 := (es.foldl (State.applyLive ns) s).clampLive es
  let streams := ((es.filter fun e => e.param == 0x15 || e.param == 0x16).map fun e => e.index).eraseDups
  let s2 := streams.foldl (fun a i => a.applyStreamSets i
    ((es.filter fun e => (e.param == 0x15 || e.param == 0x16) && e.index == i).map fun e =>
      ⟨e.param == 0x15, liveVal e 0 (if e.param = 0x15 then 1 else 2)⟩)) s1
  (s2.setXpt { s2.xpt with live := es.foldl rememberLive s2.xpt.live })

/-! Where a value waits (R52). -/

/-- The timing group of an audio destination (R176). -/
def State.audGroup (s : State) (d : Nat) : Nat :=
  match Tab.find? s.cfg.adst d with
  | some o =>
    if o.kind = 1 then (match Tab.find? s.cfg.dsts o.place with
      | some v => v.tg
      | none => 0)
    else o.tg
  | none => 0

/-- The group at whose headland an entry takes effect; none: within one service period. -/
def State.liveGroup (s : State) (e : LiveEntry) : Option Nat :=
  if 1 ≤ e.param ∧ e.param ≤ 0x0F then some (s.cmpGroup (liveLayer e).1)
  else if e.param = 0x10 ∨ e.param = 0x11 then some (s.audGroup e.index)
  else if e.param = 0x12 then some (s.portGroup e.index)
  else if e.param = 0x15 ∨ e.param = 0x16 then some ((s.streamCfg e.index).map (fun c => c.readGroup) |>.getD 0)
  else none

/-! Ranges (R109). -/

/-- A ratio of output to crop within 1/8–8. -/
def ratioOk (crop out : Nat) : Bool := decide (0 < crop) && decide (0 < out) && decide (crop ≤ 8 * out) && decide (out ≤ 8 * crop)

/-- Do a layer's ratios lie in range, and is a line-fed layer's vertical mapping the identity (R149, R153)? -/
def State.layerGeometryOk (s : State) (c n src : Nat) : Bool :=
  let xy := s.rd (Reg.CMPL_CROP_XY c n)
  let wh := s.rd (Reg.CMPL_CROP_WH c n)
  let sz := s.rd (Reg.CMPL_SIZE c n)
  ratioOk (fld wh 15 0) (fld sz 15 0) && ratioOk (fld wh 31 16) (fld sz 31 16) &&
    (!s.lineFed src || (fld wh 31 16 == fld sz 31 16 && s.rdFld (Reg.CMPL_POS c n) 31 16 == fld xy 31 16))

/-- Is a line-fed layer's vertical mapping the identity (R149)? -/
def State.verticalIdentity (s : State) (c n : Nat) : Bool :=
  s.rdFld (Reg.CMPL_CROP_WH c n) 31 16 == s.rdFld (Reg.CMPL_SIZE c n) 31 16 &&
    s.rdFld (Reg.CMPL_POS c n) 31 16 == s.rdFld (Reg.CMPL_CROP_XY c n) 31 16

/-- Are twelve numbers a permutation of 0–11? -/
def isPermutation (zs : List Nat) : Bool := (List.range 12).all fun n => zs.contains n

/-- Is a compositor entry in range? `after`: the committed state with the whole LIVE_SET applied. -/
def State.cmpLiveOk (s after : State) (e : LiveEntry) : Bool :=
  let c := (liveLayer e).1
  let n := (liveLayer e).2
  let isV := decide (n < 8)
  let isG := decide (8 ≤ n) && decide (n < 12)
  let v1 := liveVal e 0 1
  let geometry := after.layerGeometryOk c n (Tab.get idleRow after.xpt.vcom (3584 + 8 * c + n)).srcV
  s.cmpActive c && e.sub == 0 && match e.param with
  | 0x01 => isV && geometry
  | 0x02 => isV && geometry
  | 0x03 => (isV && (geometry || !after.lineFed (Tab.get idleRow after.xpt.vcom (3584 + 8 * c + n)).srcV)) || isG
  | 0x04 => (isV || isG) && decide (liveVal e 0 2 ≤ 1023)
  | 0x05 => isPermutation ((List.range 12).map fun p => byteAt e.value (2 + p / 2) / (if p % 2 = 0 then 16 else 1) % 16)
  | 0x06 => isV && decide (v1 ≤ 2)
  | 0x07 => isV && decide (v1 ≤ 15)
  | 0x08 => [2, 4, 6].all fun o => decide (4 ≤ liveVal e o 2) && decide (liveVal e o 2 ≤ 1019)
  | 0x09 => isV && decide (v1 ≤ 15)
  | 0x0A => isV && (decide (v1 ≤ 63) || v1 == 255)
  | 0x0B => isV && (decide (v1 ≤ 15) || v1 == 255)
  | 0x0C => isV && decide (v1 ≤ 1)
  | 0x0D => isG && (match s.streamCfg (8192 + 4 * c + (n - 8)) with
      | some k => s.contentFits (32 * liveVal e 0 4) (((liveVal e 4 2 + 31) / 32) * ((liveVal e 6 2 + 7) / 8) * slotBytes k.stored k.code)
      | none => false)
  | 0x0E => isG && decide (v1 ≤ 1)
  | 0x0F => (isV || isG) && decide (v1 ≤ 1)
  | _ => false

/-- The four KIND bytes of a candidate word. -/
def kindsOf (w : Word) : List Nat := (List.range 4).map fun k => fld w (8 * k + 7) (8 * k)

/-- Do two lists hold each value as many times? -/
def sameCounts (a b : List Nat) : Bool := a.length == b.length && a.all fun x => a.count x == b.count x

/-- Are a port's watermarks in range (R335)? -/
def State.watermarksOk (s : State) (p : Nat) : Bool :=
  let size := s.rdFld (Reg.MAC_QUEUE p) 15 0
  let hi := s.rdFld (Reg.MAC_WM p) 31 16
  let lo := s.rdFld (Reg.MAC_WM p) 15 0
  decide (16 ≤ lo) && decide (lo + 16 ≤ hi) && decide (hi + min 64 (size / 2) ≤ size)

/-- Is an entry in range? -/
def State.liveOk (s after : State) (e : LiveEntry) : Bool :=
  let i := e.index
  let v1 := liveVal e 0 1
  let v2 := liveVal e 0 2
  let within (lo hi v : Nat) : Bool := decide (lo ≤ v) && decide (v ≤ hi)
  let sub0 := e.sub == 0
  let dst := match Tab.find? s.cfg.adst i with
    | some o => o.kind != 0 && o.rate != 2
    | none => false
  let port := decide (i < s.dev.variant.ports)
  match e.param with
  | 0x10 => sub0 && dst && decide (v2 ≤ 2160)
  | 0x11 => sub0 && dst && decide (v1 ≤ 1)
  | 0x12 => port && decide (e.sub ≤ 1) && decide (liveVal e 0 8 < 2 ^ s.portSlots i)
  | 0x13 => sub0 && port
  | 0x14 => sub0 && port
  | 0x15 => sub0 && decide (i < 3968) && (s.streamCfg i).isSome && decide (v1 ≤ 3)
  | 0x16 => sub0 && decide (i < 3968) && (match s.streamCfg i with
      | some c => decide (v2 ≤ c.maxDelay)
      | none => false)
  | 0x17 => sub0 && s.tgUsed i && within 1 100 v1
  | 0x18 => sub0 && s.tgUsed i && within 1 10000 v2
  | 0x19 => sub0 && s.tgUsed i && decide (v1 ≤ 6)
  | 0x1A => sub0 && s.tgUsed i && decide (v1 ≤ 1)
  | 0x1B => sub0 && s.tgUsed i && sameCounts ((List.range 4).map fun k => byteAt e.value k) (kindsOf (s.rd (Reg.TG_CAND i)))
  | 0x1C => sub0 && i == 0 && within 100 1000000000 (liveVal e 0 4)
  | 0x1D => i == 0 && decide (e.sub ≤ 1) && (e.sub == 1 || decide (v1 ≤ 1))
  | 0x1E => sub0 && s.lanePresent i && s.pers i != 0 && decide (v1 ≤ 16)
  | 0x1F => sub0 && s.lanePresent i && s.pers i != 0 && decide (v1 ≤ 15) && decide (byteAt e.value 1 ≤ 31) &&
      decide (v1 + byteAt e.value 1 ≤ 24)
  | 0x20 => sub0 && decide (i < 1024) && s.lanePresent i && s.isEth i && s.hasQueue i && decide (liveVal e 0 4 < 65536) && after.watermarksOk i
  | 0x21 => sub0 && decide (i < 1024) && s.lanePresent i && s.isEth i && s.hasQueue i && decide (liveVal e 0 4 < 65536) && after.watermarksOk i
  | 0x22 => sub0 && decide (i < 8192) && within 100 10000 v2
  | 0x23 => sub0 && decide (i < s.dev.variant.fields) && s.boot.fieldsUsed.testBit i && (v2 == 0 || within 40 60000 v2)
  | 0x24 => sub0 && s.tgUsed i && within 1 1000 v2 && decide (v2 * 1000 < foPeriod (s.rd (Reg.TG_FO_STATUS i)) * s.framePeriod i)
  | 0x25 => sub0 && decide (i < 64) && s.cfg.tallies.testBit i && decide (v1 ≤ 3) && decide (liveVal e 2 2 < 4096) &&
      decide (liveVal e 4 2 < 4096) && decide (liveVal e 6 2 < 4096)
  | 0x26 => sub0 && i == 0 && (v2 == 0 || within 10 10080 v2)
  | 0x27 => sub0 && i == 0 && (v2 == 0 || within 10 3600 v2)
  | 0x28 => sub0 && i == 0 && within 4 64 v1
  | _ => s.cmpLiveOk after e

/-- The committed state: every value that waits applied (R165). -/
def State.committed (s : State) : State :=
  s.xpt.pending.foldl (fun a p => a.applyLives (a.deviceTime : Int) p.live) s

/-- Bytes of the slots that a picture of w × h takes in a stream's format. -/
def areaBytes (k : StreamCfg) (w h : Nat) : Nat := ((w + 31) / 32) * ((h + 7) / 8) * slotBytes k.stored k.code

/-- Bytes a graphic layer reads per frame. -/
def State.graphicCharge (s : State) (c n : Nat) : Nat :=
  match s.streamCfg (8192 + 4 * c + (n - 8)) with
  | some k => let wh := s.rd (Reg.CMPL_CROP_WH c n)
    areaBytes k (fld wh 15 0) (fld wh 31 16)
  | none => 0

/-- Tiles that a layer's crop touches in a picture of w × h samples. -/
def State.cropTiles (s : State) (c n across w h : Nat) : Nat :=
  let xy := s.rd (Reg.CMPL_CROP_XY c n)
  let wh := s.rd (Reg.CMPL_CROP_WH c n)
  let x := fld xy 15 0
  let y := fld xy 31 16
  (tilesIn across (min x w) (min (x + fld wh 15 0) w) (min y h) (min (y + fld wh 31 16) h)).length

/-- What a video layer reads per frame, if its source is a frame-synchronised source or a slate: the channel group, and the bytes of the tiles its crop
touches (R159). The other generators store no tiles. -/
def State.videoCharge (s : State) (c n src : Nat) : Nat × Nat :=
  if 4036 ≤ src ∧ src ≤ 4051 then
    match Tab.find? s.cfg.slates (src - 4036) with
    | some k => (groupOf k.content.base, s.cropTiles c n ((k.width + 31) / 32) k.width k.height * slotBytes k.content.stored k.content.code)
    | none => (0, 0)
  else
    match s.streamCfg src, Tab.find? s.cfg.srcs src with
    | some k, some sc =>
      if 3968 ≤ src ∨ s.lineFed src = true then (0, 0)
      else
        let sz := rasterSize sc.fmt.raster
        (groupOf k.base, s.cropTiles c n (tilesAcross sc.fmt.raster) sz.1 sz.2 * slotBytes k.stored k.code)
    | _, _ => (0, 0)

/-- The channel group of a stream's slots. -/
def State.streamGroup (s : State) (i : Nat) : Nat :=
  match s.streamCfg i with
  | some k => groupOf k.base
  | none => 0

/-- Four times a compositor's charges in bytes per frame, each with its channel group (R144, R159): its visible video layers by the committed table, its
visible graphic layers outside the static set, one cache read, and a quarter of the rebuild traffic. -/
def State.cmpCharges (s : State) (v : Tab VRow) (c : Nat) : List (Nat × Nat) :=
  let seen (n : Nat) : Bool := s.rdBit (Reg.CMPL_CTRL c n) 31
  let static := s.staticSet c
  let content (n : Nat) : Nat := s.streamGroup (8192 + 4 * c + (n - 8))
  let video := ((List.range 8).filter seen).map fun n =>
    let x := s.videoCharge c n (Tab.get idleRow v (3584 + 8 * c + n)).srcV
    (x.1, 4 * x.2)
  let graphic := ([8, 9, 10, 11].filter fun n => seen n && !static.contains n).map fun n => (content n, 4 * s.graphicCharge c n)
  let cache := match s.streamCfg (8448 + c) with
    | some k => k.tiles * slotBytes k.stored k.code
    | none => 0
  let rebuild := (static.filter seen).map fun n => (content n, s.graphicCharge c n)
  video ++ graphic ++ (if static.isEmpty then [] else (s.streamGroup (8448 + c), 5 * cache) :: rebuild)

/-- Four times a compositor's charge in bytes per frame. -/
def State.cmpCharge4 (s : State) (v : Tab VRow) (c : Nat) : Nat := (s.cmpCharges v c).foldl (fun a e => a + e.2) 0

/-- Does an entry's compositor exceed its read allowance once the LIVE_SET is applied (R503)? -/
def State.liveOver (s after : State) (e : LiveEntry) : Bool :=
  let c := (liveLayer e).1
  [0x01, 0x02, 0x0D, 0x0E, 0x0F].contains e.param && decide (4 * Tab.get 0 s.cfg.allow c < after.cmpCharge4 after.xpt.vcom c)

/-- The first refusal of a LIVE_SET: reason and ENTRY_INDEX (R109, R165). -/
def State.liveFault (s : State) (es : List LiveEntry) : Option (Nat × Nat) :=
  let base := s.committed
  let after := base.applyLives (base.deviceTime : Int) es
  (es.zipIdx.filterMap fun x =>
    let e := x.1
    if e.param < 1 ∨ 0x28 < e.param then some (0x24, x.2)
    else if e.param ≤ 0x0F ∧ e.param ≠ 5 ∧ e.param ≠ 8 ∧ e.index % 16 = 12 then some (0x23, x.2)
    else if base.liveOk after e && !base.liveOver after e then none
    else some (0x25, x.2)).head?

end Sys2Proof.Machine
end

