-- ==== Sys2Proof/Machine/Takes.lean ====
section
/-! DEFINITION. Takes, salvos and what goes on air at a headland: validation, commit, the switch point, the window rule, snapshots, LINTEL messages
(R71–R96, R114, R164–R172). -/
namespace Sys2Proof.Machine

/-! What an entry changes (R80, R180, R181). -/

/-- Does an entry take V, A, N? -/
def takesV (e : Entry) : Bool := !isMono e && e.levels.testBit 0
/-- Does an entry take A? -/
def takesA (e : Entry) : Bool := !isMono e && e.levels.testBit 1
/-- Does an entry take N? -/
def takesN (e : Entry) : Bool := !isMono e && e.levels.testBit 2
/-- Is it a follow take? -/
def isFollow (e : Entry) : Bool := !isMono e && !e.levels.testBit 7

/-- The level mask, BREAKAWAY and MONO combination (R80). -/
def levelOk (e : Entry) : Bool :=
  let low := e.levels % 8
  if isMono e then low == 2 else if e.levels.testBit 7 then low != 0 else low == 7

/-- The audio set of a video source, or of destination d at 4,096 + d (R179): BASE, COUNT. -/
def State.audioSet (s : State) (k : Nat) : Nat × Nat := (Tab.find? s.cfg.asets k).getD (0, 0)

/-- Byte i of a map; map 0 passes through (R180). -/
def State.mapByte (s : State) (m i : Nat) : Nat :=
  if m = 0 then i else byteAt ((Tab.find? s.cfg.amaps m).getD []) i

/-- What a map does to a destination position. -/
inductive MapTo where
  | take (src : Nat)
  | silent
  | keep
  deriving DecidableEq, Repr

/-- The map's action at each destination position of an entry that takes A. -/
def State.mapActions (s : State) (e : Entry) : List (Nat × MapTo) :=
  let src := s.audioSet e.src
  let dst := s.audioSet (4096 + e.dest)
  (List.range dst.2).map fun i =>
    let b := s.mapByte e.amap i
    (dst.1 + i, if b = 0xFF ∧ e.amap ≠ 0 then .keep else if b < src.2 then .take (src.1 + b) else .silent)

/-- The rate code of a channel's origin (R179). -/
def rateOf (t : Tab Origin) (ch : Nat) : Nat :=
  match Tab.find? t ch with
  | some o => o.rate
  | none => 0

/-- The audio destination channels an entry changes, with the source of each (none: silent). -/
def State.audioChanges (s : State) (e : Entry) : List (Nat × Option Nat) :=
  if isMono e then
    if rateOf s.cfg.adst e.dest = 1 then [(e.dest, some e.src), (e.dest + 1, some (e.src + 1))] else [(e.dest, some e.src)]
  else if takesA e then
    (s.mapActions e).filterMap fun x => match x.2 with
      | .take c => some (x.1, some c)
      | .silent => some (x.1, none)
      | .keep => none
  else []

/-- The timing groups an entry touches. -/
def State.entryGroups (s : State) (e : Entry) : List Nat :=
  ((if takesV e || takesN e then [s.dstGroup e.dest] else []) ++ (s.audioChanges e).map fun c => s.audGroup c.1).eraseDups

/-- The destination levels an entry names: V, N and A (3) of a video destination, the audio channels it changes (R82, R180). -/
def State.entryLevels (s : State) (e : Entry) : List (Nat × Nat) :=
  (if takesV e then [(0, e.dest)] else []) ++ (if takesN e then [(1, e.dest)] else []) ++ (if takesA e then [(3, e.dest)] else []) ++
    (s.audioChanges e).map fun c => (2, c.1)

/-- The group of a destination level. -/
def State.levelGroup (s : State) (l : Nat × Nat) : Nat := if l.1 = 2 then s.audGroup l.2 else s.dstGroup l.2

/-- A video row after an entry of generation `gen` (R80, R94). -/
def rowAfter (e : Entry) (gen : Nat) (r : VRow) : VRow :=
  let passNow := if takesV e || takesA e then isFollow e && e.amap == 0 else r.pass
  ⟨if takesV e then e.src else r.srcV, if takesN e then e.src else r.srcN, if takesA e then e.amap else r.amap, passNow, gen⟩

/-- Audio channels changed by an entry: a destination beside the entry's own whose set holds one of them takes its audio no longer by a follow take with
the pass-through map (R94). -/
def State.endPass (s : State) (e : Entry) (chans : List Nat) (v : Tab VRow) : Tab VRow :=
  (v.map fun x =>
    let a := s.audioSet (4096 + x.1)
    if x.2.pass && (isMono e || x.1 != e.dest) && chans.any (fun c => decide (a.1 ≤ c) && decide (c < a.1 + a.2)) then (x.1, { x.2 with pass := false })
    else x).filter fun x => x.2 != idleRow

/-- An entry applied to a video table and an audio table, where `p` holds of the destination level. -/
def State.applyTables (s : State) (p : Nat × Nat → Bool) (gen : Nat) (e : Entry) (v : Tab VRow) (a : Tab ARow) : Tab VRow × Tab ARow :=
  let v1 := if !isMono e && p (0, e.dest) then Tab.put idleRow v e.dest (rowAfter e gen (Tab.get idleRow v e.dest)) else v
  let chans := (s.audioChanges e).filter fun c => p (2, c.1)
  (s.endPass e (chans.map Prod.fst) v1, chans.foldl (fun t c => Tab.put idleARow t c.1 ⟨c.2, gen⟩) a)

/-! Validation (R82–R91). -/

/-- The format a video source carries; none: any (an internal generator). -/
def State.srcFormat (s : State) (src : Nat) : Option VFormat :=
  if 4032 ≤ src then none
  else if 3968 ≤ src then
    let w := s.rd (Reg.CMP_CFG (src - 3968))
    some ⟨fld w 19 16 + 2, fld w 3 0, fld w 27 26, 15⟩
  else (Tab.find? s.cfg.srcs src).map fun c => c.fmt

/-- Do two formats carry the same raster, scanning, frame rate and sample structure (R74)? -/
def sameFormat (a b : VFormat) : Bool := a.raster == b.raster && a.rate == b.rate && a.sampling == b.sampling

/-- Is an identifier one of a unit the variant lacks (R22)? -/
def State.unitAbsent (s : State) (e : Entry) : Bool :=
  !isMono e && ((isLayer e.dest && decide (s.dev.variant.compositors ≤ layerCmp e.dest)) ||
    (decide (3968 ≤ e.src) && decide (e.src < 4032) && decide (s.dev.variant.compositors ≤ e.src - 3968)))

/-- Is a destination assigned in the image? -/
def State.dstAssigned (s : State) (e : Entry) : Bool :=
  if isMono e then (match Tab.find? s.cfg.adst e.dest with
    | some o => o.kind != 0
    | none => false)
  else if isLayer e.dest then s.cmpActive (layerCmp e.dest)
  else (Tab.find? s.cfg.dsts e.dest).isSome

/-- Is a source assigned in the image, or a generator that exists (R96)? -/
def State.srcAssigned (s : State) (e : Entry) : Bool :=
  if isMono e then (match Tab.find? s.cfg.asrc e.src with
    | some o => o.kind != 0
    | none => false)
  else if 4032 ≤ e.src then decide (e.src ≤ 4052)
  else if 3968 ≤ e.src then s.cmpActive (e.src - 3968)
  else (Tab.find? s.cfg.srcs e.src).isSome

/-- Is a take to a guarded destination refused while the lintel layer is armed (R87)? -/
def State.guardRefuses (s : State) (e : Entry) : Bool :=
  let guarded := !isMono e && (match Tab.find? s.cfg.dsts e.dest with
    | some c => c.guarded
    | none => false)
  let bound := takesV e && decide (3968 ≤ e.src) && decide (e.src < 4032) && s.rdBit (Reg.CMP_CFG (e.src - 3968)) 31
  s.lintelMask != 0 && guarded && !bound

/-- Does an audio change break the rate, pair or follow-port rules (R181, R198)? `base`: the source set's BASE; `next`: the change after it;
`prev`: the one before. -/
def State.channelBad (s : State) (base : Nat) (prev next : Option (Nat × MapTo)) (x : Nat × MapTo) : Bool :=
  let rd := rateOf s.cfg.adst x.1
  let pairOk : Bool := match x.2 with
    | .take c =>
      (match Tab.find? s.cfg.asrc c with
        | some o => o.kind == 0 || o.rate == rd
        | none => rd == 0) &&
      (if rd = 1 then decide (next = some (x.1 + 1, .take (c + 1))) && (c - base) % 2 == 0
        else if rd = 2 then decide (prev = some (x.1 - 1, .take (c - 1))) else true)
    | y => if rd = 1 then decide (next = some (x.1 + 1, y)) else if rd = 2 then decide (prev = some (x.1 - 1, y)) else true
  let followOk : Bool := match Tab.find? s.cfg.adst x.1, x.2 with
    | some o, .take c =>
      !s.followDst o || decide (((Tab.find? s.cfg.asrc c).bind Origin.input) = some (s.rdFld (Reg.AP_CFG o.place) 13 0))
    | _, _ => true
  !(pairOk && followOk)

/-- Is any of a run of audio changes bad? -/
def State.channelsBad (s : State) (base : Nat) : Option (Nat × MapTo) → List (Nat × MapTo) → Bool
  | _, [] => false
  | prev, x :: xs => s.channelBad base prev xs.head? x || State.channelsBad s base (some x) xs

/-- Do a source that is not frame-synchronised and an SDI destination differ in their mapping (R310)? -/
def State.mappingBad (s : State) (src : Nat) (d : DstCfg) : Bool :=
  match Tab.find? s.cfg.srcs src with
  | some c => (match c.input with
      | .sdi _ => true
      | _ => false) && (s.streamCfg src).isNone && d.txc.isNone && c.fmt.map != d.fmt.map
  | none => false

/-- Is a format one that a compositor layer accepts: those a compositor supports (R74, R147, log 77)? -/
def layerFormat (f : VFormat) : Bool := decide (2 ≤ f.raster) && decide (f.raster ≤ 6) && rateNum f.rate != 0 && decide (f.sampling ≤ 2)

/-- The format check (R74, R181, R198, R310). -/
def State.formatBad (s : State) (e : Entry) : Bool :=
  if isMono e then
    let rd := rateOf s.cfg.adst e.dest
    let rs := rateOf s.cfg.asrc e.src
    decide (rd ≠ rs) || rd == 2 || s.channelsBad 0 none ((s.audioChanges e).filterMap fun c => c.2.map fun x => (c.1, .take x))
  else
    let video := (takesV e || takesN e) && (match s.srcFormat e.src, Tab.find? s.cfg.dsts e.dest with
      | some a, some d => if isLayer e.dest then !layerFormat a else !sameFormat a d.fmt || s.mappingBad e.src d
      | some a, none => isLayer e.dest && !layerFormat a
      | none, _ => false)
    video || (takesA e && s.channelsBad (s.audioSet e.src).1 none (s.mapActions e))

/-- The window check (R72, R73, R149). -/
def State.windowBad (s : State) (e : Entry) : Bool :=
  if isMono e || !(takesV e || takesN e) then false
  else if isLayer e.dest then
    s.lineFed e.src && (!s.inWindow e.src (s.dstGroup e.dest) ||
      (takesV e && !s.committed.verticalIdentity (layerCmp e.dest) ((e.dest - 3584) % 8)))
  else !s.inWindow e.src (s.dstGroup e.dest)

/-- The audio map check (R81): every entry names a map that is built in or loaded, or no map where it does not take A by a map to audio channels. -/
def State.mapBad (s : State) (e : Entry) : Bool :=
  e.amap != 0 && (if e.amap = 0xFFFF then takesA e && (s.audioSet (4096 + e.dest)).2 != 0 else (Tab.find? s.cfg.amaps e.amap).isNone)

/-- Links and Mb/s per link of a mapping (R86, R309). -/
def mapCharge (m : Nat) : Nat × Nat :=
  match m with
  | 0 => (1, 1485) | 1 => (1, 2970) | 2 => (1, 2970) | 3 => (2, 1485) | 4 => (2, 2970) | 5 => (4, 2970) | 6 => (4, 2970)
  | 7 => (1, 5940) | 8 => (2, 5940) | 9 => (1, 11880) | _ => (4, 11880)

/-- The charge of a format in 1/100,100 Mb/s: the mapping's, scaled by tenths, over 1.001 at the fractional rates. -/
def chargeUnits (rate m tenths : Nat) : Nat :=
  (mapCharge m).1 * (mapCharge m).2 * tenths * (if rateDen rate = 1 then 10010 else 10000)

/-- The charge of a destination (R86). -/
def dstCharge (c : DstCfg) : Nat :=
  let f := c.fmt
  let order := [0, 1, 2, 7, 9, 3, 4, 8, 5, 6, 10]
  let pick (smp : Nat) : Option Nat := order.find? fun m => mapCarries ⟨f.raster, f.rate, smp, m⟩
  if f.raster ≤ 1 then 270 * 10 * 10010
  else if c.txc.isNone then chargeUnits f.rate f.map 10
  else match pick f.sampling with
    | some m => chargeUnits f.rate m 10
    | none => match pick 0 with
      | some m => chargeUnits f.rate m (if f.sampling = 1 then 15 else if f.sampling = 2 then 18 else 10)
      | none => 0

/-- The fields that a destination loads: that of its output, and for a transmit context with path B in another field, that one too (R502). -/
def State.dstFields (s : State) (c : DstCfg) : List Nat :=
  match c.txc with
  | some n =>
    let w := s.rd (Reg.TXC_PATHS n)
    if bit w 31 then [c.lane / 64, fld w 25 16 / 64].eraseDups else [c.lane / 64]
  | none => [c.lane / 64]

/-- Is a field's egress above 1.6 Tb/s in a committed table (R23)? A destination counts while its source is any but 4,032 (R502). -/
def State.egressFull (s : State) (v : Tab VRow) : Bool :=
  (List.range 16).any fun f =>
    decide (1600000 * 100100 < (s.cfg.dsts.filter fun e => (s.dstFields e.2).contains f && (Tab.get idleRow v e.1).srcV != 4032).foldl
      (fun n e => n + dstCharge e.2) 0)

/-- The first compositor that the entries take to and whose charge in the resulting table exceeds its allowance (R503). -/
def State.overAllowance (s : State) (es : List Entry) (v : Tab VRow) : Option Nat :=
  let cs := ((es.filter fun e => takesV e && isLayer e.dest).map fun e => layerCmp e.dest).eraseDups
  let k := s.committed
  cs.find? fun c => decide (4 * Tab.get 0 s.cfg.allow c < k.cmpCharge4 v c)

/-- The compositors that a compositor's line-fed layers depend on in a table (R20). -/
def cmpDeps (v : Tab VRow) (c : Nat) : List Nat :=
  (List.range 8).filterMap fun n =>
    let src := (Tab.get idleRow v (3584 + 8 * c + n)).srcV
    if 3968 ≤ src ∧ src < 4032 then some (src - 3968) else none

/-- Drop the compositors that depend on none of those left, again and again. -/
def pruneCmps (v : Tab VRow) : Nat → List Nat → List Nat
  | 0, l => l
  | fuel + 1, l => pruneCmps v fuel (l.filter fun c => (cmpDeps v c).any l.contains)

/-- Is there a compositor loop (R20)? -/
def cmpLoop (v : Tab VRow) : Bool := !(pruneCmps v 64 (List.range 64)).isEmpty

/-- Do groups with one frame rate and switch points within half a frame period make up a COHERENT salvo (R89)? -/
def State.groupsCohere (s : State) (gs : List Nat) : Bool :=
  match gs with
  | [] => true
  | g :: rest => rest.all fun h => s.tgRate h == s.tgRate g &&
      gs.all fun k =>
        decide (2 * (s.switchPoint h (s.grp g).frame - s.switchPoint k (s.grp g).frame).natAbs ≤ s.framePeriod g)

/-- The headland frame of each group for an effective time against a commit instant (R83, R84, R89, R91), and whether its latch instant is past with no
LATE_OK; none: a FRAME group that the salvo does not touch (COHERENT) or that is not used (IMMEDIATE). -/
def State.headlandsOf (s : State) (gs : List Nat) (eff : EffTime) (late : Bool) (commit : Int) : Option (List (Nat × Nat) × Bool) :=
  let pick (fs next : List (Nat × Nat)) : List (Nat × Nat) × Bool :=
    if fs.any fun e => decide (s.latchOf e.1 e.2 < commit) then (if late then (next, false) else (fs, true)) else (fs, false)
  if s.ctl.immediate then
    let own (at_ : Int) : List (Nat × Nat) × Bool :=
      let fs := gs.map fun g => (g, s.headlandFor g at_)
      let isLate (e : Nat × Nat) : Bool := decide (s.latchOf e.1 e.2 < commit)
      if late then (fs.map fun e => if isLate e then (e.1, s.headlandAt e.1 commit) else e, false) else (fs, fs.any isLate)
    match eff with
    | .next => some (gs.map fun g => (g, s.headlandAt g commit), false)
    | .frame tg f => if s.tgUsed tg then some (own (s.switchPoint tg f)) else none
    | .time ns => some (own (ns : Int))
  else
    let all (f : Nat) : List (Nat × Nat) := gs.map fun g => (g, f)
    let next := all (gs.foldl (fun m g => max m (s.headlandAt g commit)) 0)
    match eff with
    | .next => some (pick next next)
    | .frame tg f => if gs.contains tg || gs.isEmpty then some (pick (all f) next) else none
    | .time ns => some (pick (all (gs.foldl (fun m g => max m (s.headlandFor g (ns : Int))) 0)) next)

/-- Does a switch point lie more than 86,400 s after the commit instant (R84)? -/
def State.tooFar (s : State) (fs : List (Nat × Nat)) (commit : Int) : Bool :=
  fs.any fun e => decide (commit + 86400000000000 < s.switchPoint e.1 e.2)

/-- The first entry that an entry check refuses, check by check for each entry in turn. -/
def State.entryFault (s : State) : Nat → List (Nat × Nat) → List Entry → Option (Nat × Nat)
  | _, _, [] => none
  | i, seen, e :: es =>
    if levelOk e = false then some (0x1F, i)
    else if s.unitAbsent e then some (0x12, i)
    else if s.dstAssigned e = false then some (0x11, i)
    else if s.srcAssigned e = false then some (0x10, i)
    else if (s.entryLevels e).any seen.contains then some (0x19, i)
    else if s.guardRefuses e then some (0x23, i)
    else if s.formatBad e then some (0x14, i)
    else if s.windowBad e then some (0x13, i)
    else if s.mapBad e then some (0x1E, i)
    else State.entryFault s (i + 1) (seen ++ s.entryLevels e) es

/-- The committed tables after a salvo. -/
def State.tablesAfter (s : State) (gen : Nat) (es : List Entry) : Tab VRow × Tab ARow :=
  es.foldl (fun t e => s.applyTables (fun _ => true) gen e t.1 t.2) (s.xpt.vcom, s.xpt.acom)

/-- Does a salvo share a destination level with a salvo that waits for a later headland (R84)? -/
def State.orderConflict (s : State) (es : List Entry) (frames : List (Nat × Nat)) : Bool :=
  let frameIn (l : List (Nat × Nat)) (g : Nat) : Nat := (l.find? fun e => e.1 == g).elim 0 fun e => e.2
  let mine := es.flatMap s.entryLevels
  s.xpt.pending.any fun p => p.kind == 0 && (p.entries.flatMap s.entryLevels).any fun l =>
    mine.contains l && decide (frameIn frames (s.levelGroup l) < frameIn p.frames (s.levelGroup l))

/-- The result of validation in the order of R85: the headland frames, or reason, entry index and DETAIL. -/
def State.validate (s : State) (v : Salvo) (commit : Int) : Except (Nat × Nat × Nat) (List (Nat × Nat)) :=
  let es := v.entries
  let gs := (es.flatMap s.entryGroups).eraseDups
  let whole (r detail : Nat) : Except (Nat × Nat × Nat) (List (Nat × Nat)) := .error (r, 0xFFFF, detail)
  if 16384 < es.length ∨ 4096 < (es.filter fun e => takesV e || takesN e).length then whole 0x18 0
  else match s.entryFault 0 [] es with
    | some f => .error (f.1, f.2, 0)
    | none =>
      if !s.ctl.immediate && !s.groupsCohere gs then whole 0x17 0
      else
        let after := s.tablesAfter 0 es
        if cmpLoop after.1 then whole 0x15 0
        else if s.egressFull after.1 then whole 0x16 0
        else match s.overAllowance es after.1, s.headlandsOf gs v.eff v.lateOk commit with
          | some c, _ => whole 0x16 (2147483648 + c)
          | none, none => whole 0x01 0
          | none, some (fs, late) =>
            if 16 ≤ (s.xpt.pending.filter fun p => p.kind == 0).length then whole 0x1C 0
            else if s.orderConflict es fs then whole 0x1D 0
            else if late then whole 0x1A 0
            else if s.tooFar fs commit then whole 0x1B 0
            else .ok fs

/-- The frame that every headland shares, else 0 (R111). -/
def sharedFrame (fs : List (Nat × Nat)) : Nat :=
  match fs with
  | [] => 0
  | f :: rest => if rest.all fun e => e.2 == f.2 then f.2 else 0

/-- The 16 frame counts of a TAKE_ORDER (R223). -/
def groupFrames (fs : List (Nat × Nat)) : List Nat :=
  (List.range 16).map fun g => (fs.find? fun e => e.1 == g).elim 0 fun e => e.2

/-- Is an order not yet wholly in effect (R237)? -/
def State.orderOpen (s : State) (o : Order) : Bool :=
  if o.order = 0 then s.xpt.pending.any fun p => p.kind == 0 && p.gen == o.gen && !p.left.isEmpty
  else if o.order = 1 then s.xpt.pending.any fun p => p.kind == 1 && p.commitTime == o.commit && decide (p.live = o.live)
  else o.frames.zipIdx.any fun x => x.1 != 0 && s.lin.due.any fun d => d.tg == x.2 && d.frame == x.1

/-- An order is kept while it is not wholly in effect, and goes to the peer from the keyholder with the wall up (R92, R52). -/
def State.sendOrder (s : State) (o : Order) : State :=
  let s1 := s.setTwn { s.twn with sent := s.twn.sent.filter s.orderOpen ++ [o] }
  if s1.tellsPeer then s1.sendWall (.takeOrder o) else s1

/-- A salvo becomes committed with its generation and headlands (R90, R92). -/
def State.commitSalvo (s : State) (r : Option ReplyTo) (gen : Nat) (es : List Entry) (fs : List (Nat × Nat)) (commit : Nat) : State :=
  let after := s.tablesAfter gen es
  let p : Pending := ⟨0, gen, fs, fs.map Prod.fst, es, [], r, commit⟩
  let s1 := s.setXpt { s.xpt with vcom := after.1, acom := after.2, pending := s.xpt.pending ++ [p], history := s.xpt.history ++ [.salvo es] }
  (((s1.wr Reg.XPT_GEN_COMMITTED (BitVec.ofNat 32 gen)).bump64 Reg.XPT_CNT_ENTRIES_LO Reg.XPT_CNT_ENTRIES_HI es.length).bump64
    Reg.XPT_CNT_SALVOS_LO Reg.XPT_CNT_SALVOS_HI 1).xptEvent 0 |>.abortTests

/-- A salvo is refused whole (R85). -/
def State.refuseSalvo (s : State) (r : ReplyTo) (reason index detail : Nat) : State :=
  let s1 := if reason = 0x23 then (((s.bump Reg.XPT_CNT_GUARD_REFUSED).xptEvent 6)).lintelRefused else s
  let s2 := ((s1.bump Reg.XPT_CNT_REFUSED).xptEvent 1).wr Reg.XPT_LAST_RESULT (BitVec.ofNat 32 (reason * 16777216 + index % 65536))
  s2.nakMsg r reason index detail 0

/-- Does this device validate: not as a follower while the wall is up (R226, R242)? -/
def State.validates (s : State) : Bool := !(s.ctl.role == .follower && s.twn.wall.up)

/-- SALVO_VALIDATION (R85): the take engine's next salvo. `t` is the instant at which validation ends, the commit instant. A device that left SERVICE
discards the request (R514). -/
def execSalvoValidation (t : Nat) (s0 : State) : Host.Outcome State Fault Refusal :=
  let s := s0.at t
  match s.xpt.queue with
  | [] => .next s
  | v :: rest =>
    if s.validates = false then .next s
    else
      let s1 := s.setXpt { s.xpt with queue := rest }
      if s1.ctl.mode ≠ .service then .next s1
      else
        let commit := s1.deviceTime
        match s1.validate v (commit : Int) with
        | .error f => .next (s1.refuseSalvo v.reply f.1 f.2.1 f.2.2)
        | .ok fs =>
          let gen := ((s1.rd Reg.XPT_GEN_COMMITTED).toNat + 1) % 4294967296
          let s2 := (s1.commitSalvo (if v.notify then some v.reply else none) gen v.entries fs commit).wr Reg.XPT_LAST_RESULT 0xFFFF
          let s3 := s2.sendOrder ⟨0, v.reply.sender, v.id, gen, commit, groupFrames fs, v.entries, [], []⟩
          .next (s3.ackMsg v.reply 0 v.entries.length gen (sharedFrame fs) commit)

/-! LIVE_SET (R52, R109). -/

/-- The headlands of a LIVE_SET's values against the end of its validation. -/
def State.liveHeadlands (s : State) (es : List LiveEntry) (commit : Int) : List (Nat × Nat) :=
  ((es.filterMap s.liveGroup).eraseDups).map fun g => (g, s.headlandAt g commit)

/-- Values wait for their headlands; group 16 stands for the next service period. -/
def State.commitLive (s : State) (es : List LiveEntry) (fs : List (Nat × Nat)) (commit : Nat) : State :=
  let p : Pending := ⟨1, 0, fs, fs.map Prod.fst ++ [16], [], es, none, commit⟩
  (s.setXpt { s.xpt with pending := s.xpt.pending ++ [p] })

/-- A follower holds a request until the keyholder's order covers it (R226). -/
def State.holdRequest (s : State) (r : ReplyTo) : State :=
  s.setXpt { s.xpt with held := (s.xpt.held ++ [r]).drop ((s.xpt.held.length + 1) - 256) }

/-- LIVE_SET (R109): validated all-or-nothing. -/
def execLiveSet (t : Nat) (s0 : State) : Host.Outcome State Fault Refusal :=
  let s := s0.at t
  match s.takeMsg 0x20 with
  | none => .next s
  | some (m, s1) =>
    if s1.ctl.mode ≠ .service then .next s1
    else if s1.validates = false then .next (s1.holdRequest m.reply)
    else
      let es := readLives (beAt m.body 0 2) (m.body.drop 4)
      match s1.liveFault es with
      | some (reason, i) =>
        let s2 := if reason = 0x23 then s1.lintelRefused else s1
        .next ((s2.bump Reg.XPT_CNT_REFUSED).nakMsg m.reply reason i 0 0)
      | none =>
        let commit := s1.deviceTime
        let fs := s1.liveHeadlands es (commit : Int)
        let s2 := (s1.commitLive es fs commit).sendOrder ⟨1, m.reply.sender, m.reply.seq, 0, commit, groupFrames fs, [], es, []⟩
        .next (s2.ackMsg m.reply 0 es.length 0 (sharedFrame fs) commit)

/-! LINTEL messages (R168–R172). -/

/-- The refusal of a LINTEL body: the unit is absent, an empty or image slot, a bad text. -/
def State.lintelFault (s : State) (b : List Byte) : Option Nat :=
  let op := byteAt b 0
  let slot := byteAt b 1
  let mask := beAt b 2 2
  let text := b.drop 16
  if s.dev.variant.compositors = 0 then some 0x12
  else if op = 1 then
    if (List.range 16).any fun m => mask.testBit m && (Tab.find? s.lintelSlots m).isNone then some 0x31 else none
  else if op = 2 then none
  else if 15 < slot then some 0x33
  else if (Tab.find? s.cfg.lintelSlots slot).isSome then some 0x32
  else if op = 4 then none
  else
    let bad := decide (1000 < beAt b 4 2) || decide (1000 < beAt b 6 2) || decide (7 < byteAt b 8) || decide (7 < byteAt b 9) ||
      decide (byteAt b 10 < 1) || decide (8 < byteAt b 10) || decide (text.length < 1) || decide (512 < text.length)
    match utf8Points text.length text with
    | none => some 0x33
    | some cs => if bad || decide (8 < (textLines cs).length) then some 0x33 else none

/-- A LINTEL message takes effect on the masks and slots. -/
def State.applyLintel (s : State) (b : List Byte) : State :=
  let op := byteAt b 0
  let slot := byteAt b 1
  if op = 1 then s.setLin { s.lin with msgMask := beAt b 2 2 }
  else if op = 2 then s.setLin { s.lin with msgMask := 0 }
  else if op = 3 then
    let text : LintelMsg := .text ⟨beAt b 4 2, beAt b 6 2, byteAt b 8, byteAt b 9, byteAt b 10, b.drop 16⟩
    (s.setLin { s.lin with loaded := Tab.insert (Tab.erase s.lin.loaded slot) slot text })
  else s.setLin { s.lin with loaded := Tab.erase s.lin.loaded slot }

/-- A LINTEL message of operation `op` at the front of the receive queue. -/
def State.lintelMsg (s : State) (op : Nat) : State :=
  match s.takeMsg 0x40 with
  | none => s
  | some (m, s1) =>
    if byteAt m.body 0 ≠ op then s
    else if s1.ctl.mode ≠ .service then s1
    else if s1.validates = false then s1.holdRequest m.reply
    else match s1.lintelFault m.body with
      | some reason => s1.nakMsg m.reply reason 0xFFFF 0 0
      | none =>
        let commit := s1.deviceTime
        let fs := s1.boundGroups.map fun g => (g, s1.headlandAt g (commit : Int))
        let s2 := (s1.applyLintel m.body).sendOrder ⟨2, m.reply.sender, m.reply.seq, 0, commit, groupFrames fs, [], [], m.body⟩
        (s2.lintelChange).ackMsg m.reply 0 0 0 (sharedFrame fs) commit

/-- LINTEL_ARM_MSG (R172). -/
def execLintelArmMsg (t : Nat) (s0 : State) : Host.Outcome State Fault Refusal := .next ((s0.at t).lintelMsg 1)

/-- LINTEL_DISARM_MSG (R172). -/
def execLintelDisarmMsg (t : Nat) (s0 : State) : Host.Outcome State Fault Refusal := .next ((s0.at t).lintelMsg 2)

/-- LOAD_TEXT (R172). -/
def execLoadText (t : Nat) (s0 : State) : Host.Outcome State Fault Refusal := .next ((s0.at t).lintelMsg 3)

/-- CLEAR_TEXT (R172). -/
def execClearText (t : Nat) (s0 : State) : Host.Outcome State Fault Refusal := .next ((s0.at t).lintelMsg 4)

/-! The headland (R77–R79, R89–R91). -/

/-- LATCH_INSTANT (R78): the frame whose latch instant falls now is fixed. -/
def execLatchInstant (t g : Nat) (s0 : State) : Host.Outcome State Fault Refusal :=
  let s := s0.at t
  if s.tgUsed g && (s.grp g).acquired then
    let f := s.headlandAt g (s.deviceTime : Int)
    let frame := if s.latchOf g f ≤ (s.deviceTime : Int) then f else f - 1
    .next (s.setXpt { s.xpt with latched := Tab.put 0 s.xpt.latched g frame })
  else .next s

/-- An entry goes on air in group g (R77, R185): its video rows and audio channels of that group. A lane that is not in L0 stays dark
(R299). -/
def State.airEntry (g gen : Nat) (ns : Int) (s : State) (e : Entry) : State :=
  let s1 := if !isMono e && (takesV e || takesN e || takesA e) && s.dstGroup e.dest == g then
      (s.setXpt { s.xpt with
          vout := Tab.put idleRow s.xpt.vout e.dest (rowAfter e gen (Tab.get idleRow s.xpt.vout e.dest))
          lost := if takesV e then Tab.erase s.xpt.lost e.dest else s.xpt.lost })
    else s
  let chans := (s1.audioChanges e).filter fun c => s1.audGroup c.1 == g
  chans.foldl (fun a c => a.switchAudio c.1 c.2 ns gen) (s1.setXpt { s1.xpt with vout := s1.endPass e (chans.map Prod.fst) s1.xpt.vout })

/-- The readback tables move on with entries (R90, R91). -/
def State.readbackEntries (s : State) (p : Nat × Nat → Bool) (gen : Nat) (es : List Entry) : State :=
  let t := es.foldl (fun t e => s.applyTables p gen e t.1 t.2) (s.xpt.vair, s.xpt.aair)
  (s.setXpt { s.xpt with vair := t.1, aair := t.2 })

/-- Does a committed change reach the headland of frame F of group g? -/
def Pending.airs (p : Pending) (g frame : Nat) : Bool := p.left.contains g && p.frames.any fun e => e.1 == g && decide (e.2 ≤ frame)

/-- The live values due at a headland take effect together, whichever LIVE_SET brought them (R125). -/
def State.airLives (s : State) (g frame : Nat) (ns : Int) : State :=
  let es := (s.xpt.pending.filter fun p => p.airs g frame).flatMap fun p => p.live.filter fun e => decide (s.liveGroup e = some g)
  if es.isEmpty then s else s.applyLives ns es

/-- A committed change reaches the headland of group g (R52, R77, R91): its entries go on air; its live values have taken effect. -/
def State.airPending (g frame : Nat) (ns : Int) (s : State) (p : Pending) : State :=
  if p.airs g frame then
    let left := p.left.filter (· != g)
    let s2 := p.entries.foldl (State.airEntry g p.gen ns) s
    let s3 := if s2.ctl.immediate then s2.readbackEntries (fun l => s2.levelGroup l == g) p.gen p.entries
      else if p.kind = 0 ∧ left.isEmpty then s2.readbackEntries (fun _ => true) p.gen p.entries else s2
    (s3.setXpt { s3.xpt with pending := s3.xpt.pending.map fun q => if q = p then { q with left := left } else q })
  else s

/-- The on-air generation (R90): the highest g such that every salvo up to g is fully on air. -/
def State.onAirGen (s : State) : Nat :=
  let wait := s.xpt.pending.filter fun p => p.kind == 0 && !p.left.isEmpty
  wait.foldl (fun m p => min m (p.gen - 1)) (s.rd Reg.XPT_GEN_COMMITTED).toNat

/-- Changes that are wholly in effect leave the pending list; a salvo's sender is told if it asked (R111); the on-air generation
follows. -/
def State.settlePending (s : State) : State :=
  let done := s.xpt.pending.filter fun p => p.left.isEmpty
  let s1 := s.setXpt { s.xpt with
    pending := s.xpt.pending.filter (fun p => !p.left.isEmpty)
    notify := s.xpt.notify ++ (done.filterMap fun p => p.notify.map (fun r => (r, p))) }
  let old := (s.rd Reg.XPT_GEN_ONAIR).toNat
  let gen := s1.onAirGen
  if gen = old then s1 else (s1.wr Reg.XPT_GEN_ONAIR (BitVec.ofNat 32 gen)).xptEvent 2

/-- Lanes that carry traffic but are not in L0 show DARK_ON_AIR (R299). -/
def State.darkOnAir (before s : State) : State :=
  ((List.range 1024).filter fun i => s.pers i != 0 && s.pstate i != 0).foldl (fun a i =>
    if a.carriesTraffic i then
      let b := a.wrBit (Reg.LAN_STATUS i) 27 true
      if before.rdBit (Reg.LAN_STATUS i) 27 then b else b.lanEvent i 6
    else a) s

/-- The initial connection of a destination on a video table, its levels whose source is out of window black (R66). -/
def State.legalRow (s : State) (d : Nat) (r : VRow) : VRow :=
  let bad (src level : Nat) : Bool := r.gen == 0 && src != 4032 && s.windowBad ⟨128 + level, d, src, 0xFFFF⟩
  { r with srcV := if bad r.srcV 1 then 4032 else r.srcV, srcN := if bad r.srcN 4 then 4032 else r.srcN }

/-- The first headland of a group in SERVICE (R66): an initial connection of a source out of window is refused with NOT_IN_WINDOW; the destination shows
black until a legal take. -/
def State.firstHeadland (s : State) (g : Nat) : State :=
  if s.xpt.started.contains g ∨ s.ctl.mode ≠ .service then s
  else
    let s1 := s.setXpt { s.xpt with started := g :: s.xpt.started }
    if s.ctl.role = .follower ∧ s.twn.wall.up = true then s1
    else
      let fix (e : Nat × VRow) : Nat × VRow := if s.dstGroup e.1 = g then (e.1, s.legalRow e.1 e.2) else e
      let table (v : Tab VRow) : Tab VRow := (v.map fix).filter fun e => e.2 != idleRow
      let refused := (s1.xpt.vout.filter fun e => fix e != e).length
      let s2 := s1.setXpt { s1.xpt with vcom := table s1.xpt.vcom, vout := table s1.xpt.vout, vair := table s1.xpt.vair }
      if refused = 0 then s2
      else ((s2.bumpBy Reg.XPT_CNT_REFUSED refused).xptEvent 1).wr Reg.XPT_LAST_RESULT 0x1300FFFF

/-- A take has ended the handling of R75 at destinations of a group: their black ends at the switching line. -/
def State.takenBlack (s : State) (g frame : Nat) : State :=
  (s.xpt.black.filter fun e => e.2.2.isNone && !s.isLost e.1 && s.dstGroup e.1 == g).foldl (fun a e =>
    a.endBlack e.1 frame (s.rdFld (Reg.XPT_TG_SWLINE g) 12 0)) s

/-- SWITCH_POINT (R77): everything due at this headland goes on air in group g: salvos, live-set values, lintel content, relocated slots, cache
buffers; then the group's compositors take up the frame, whose active lines all follow the switching line. -/
def execSwitchPoint (t g : Nat) (s0 : State) : Host.Outcome State Fault Refusal :=
  let s := s0.at t
  if (s.tgUsed g && (s.grp g).acquired) = false then .next s
  else
    match s.switchFrame g with
    | none => .next s
    | some frame =>
    let ns : Int := (s.deviceTime : Int)
    let cmps := s.cmpsOf g
    let s0 := s.setXpt { s.xpt with before := Tab.insert (Tab.erase s.xpt.before g) g (frame, s.xpt.vout) }
    let keys := cmps.map fun c => (c, s.staticKey c)
    let s1 := (((s.xpt.pending.foldl (State.airPending g frame ns) (s0.airLives g frame ns)).settlePending).firstHeadland g).takenBlack g frame
    let s2 := if s.fst.moves.isEmpty then s1 else s1.relocate
    let s3 := s2.lintelHeadland g frame
    let s4 := keys.foldl (fun a k => a.cacheHeadland k.1 k.2) s3
    let s5 := if s4.xpt.vout = s.xpt.vout ∧ s4.xpt.aout = s.xpt.aout then s4 else State.darkOnAir s s4
    let s6 := cmps.foldl (State.renderCmp frame) s5
    .next (s6.setTwn { s6.twn with
      decisions := s6.twn.decisions.filter fun d => !(d.kind == 2 && d.tg == g && decide (d.at_ ≤ frame)) })

/-- ON_AIR_NOTIFY (R111): the second ACK, with ON_AIR set. -/
def execOnAirNotify (t : Nat) (s0 : State) : Host.Outcome State Fault Refusal :=
  let s := s0.at t
  match s.xpt.notify with
  | [] => .next s
  | (r, p) :: rest =>
    .next ((s.setXpt { s.xpt with notify := rest }).ackMsg r 1 p.entries.length p.gen (sharedFrame p.frames) p.commitTime)

/-! The window (R72, R75). -/

/-- WINDOW_LEFT (R75): the source of destination d is out of its window from a line. -/
def execWindowLeft (t d line : Nat) (s0 : State) : Host.Outcome State Fault Refusal :=
  let s := s0.at t
  if isLayer d ∨ (Tab.find? s.cfg.dsts d).isNone ∨ s.inWindow ((Tab.get idleRow s.xpt.vout d).srcV) (s.dstGroup d) = true then .next s
  else .next (s.leaveWindow d (s.grp (s.dstGroup d)).frame line)

/-- LAG_MEASURE (R72): the smallest and largest lag of a source against a group over its last complete frame, in 1/65,536 line. -/
def execLagMeasure (t src g : Nat) (least most : Int) (s0 : State) : Host.Outcome State Fault Refusal :=
  let s := s0.at t
  if g < 16 ∧ src < 4032 ∧ least ≤ most then
    let key := src * 16 + g
    let s1 := s.setXpt { s.xpt with lags := Tab.insert (Tab.erase s.xpt.lags key) key ⟨least, most⟩ }
    if s1.inWindow src g then .next s1
    else .next (((s1.showing src).filter fun d => !isLayer d && s1.dstGroup d == g).foldl (fun a d => a.leaveWindow d (a.grp g).frame 1) s1)
  else .next s

/-- A destination's source is back in window at a frame start: the black ends (R75). -/
def State.windowBack (s : State) (d : Nat) : State :=
  let f := (s.grp (s.dstGroup d)).frame
  (s.endBlack d f 1).tellWindow d f 0

/-- The destinations of a group in R75 handling at a frame start: back in window they are restored, else a further frame is black. A following device
waits for the keyholder's decision. -/
def State.windowFrame (s : State) (g : Nat) : State :=
  ((s.xpt.lost.filter fun e => s.dstGroup e.1 == g).map Prod.fst).foldl (fun a d =>
    if a.inWindow ((Tab.get idleRow a.xpt.vout d).srcV) g && !(a.ctl.role == .follower && a.twn.wall.up) then a.windowBack d
    else (a.setXpt { a.xpt with lost := Tab.insert (Tab.erase a.xpt.lost d) d 1 }).bump Reg.XPT_CNT_WINDOW_LOST) s

/-- Has a group's next frame come, within 1/1,000 of a frame period: pulls and reference offsets move it by less (R260, log 142)? -/
def State.frameDue (s : State) (g : Nat) : Bool :=
  decide (s.frameStart g ((s.grp g).frame + 1) ≤ (s.deviceTime : Int) + (s.framePeriod g / 1000 : Nat))

/-- FRAME_START (R249): the group's frame count advances by 1; outputs that wait for a line 1 light or darken there (R239, R241); black frames go on or end
(R75). -/
def execFrameStart (t g : Nat) (s0 : State) : Host.Outcome State Fault Refusal :=
  let s := s0.at t
  let x := s.grp g
  if s.tgUsed g && x.acquired && s.frameDue g then
    let s1 := s.setGrp g { x with frame := x.frame + 1, start := (s.deviceTime : Int) }
    .next ((s1.lightGroup g).windowFrame g)
  else .next s

/-! Snapshots (R114). -/

/-- SNAPSHOT_START (R114): a write of START and TABLE; START is ignored while BUSY; a reserved TABLE takes no snapshot and DONE stays 0. -/
def State.snapStart (s : State) (table : Nat) : State :=
  if s.rdBit Reg.XPT_SNAP 30 then s.wrFld Reg.XPT_SNAP 3 0 table
  else if 7 < table then s.wr Reg.XPT_SNAP (BitVec.ofNat 32 (table % 16))
  else (s.wr Reg.XPT_SNAP (BitVec.ofNat 32 (1073741824 + table))).setXpt { s.xpt with snapTable := table }

/-- SNAPSHOT_START (R114). -/
def execSnapshotStart (t table : Nat) (s0 : State) : Host.Outcome State Fault Refusal := .next ((s0.at t).snapStart table)

/-- Has destination d a committed change that is not yet on air? Readback of a COHERENT salvo changes with its last group, of an IMMEDIATE one with
each group (R90, R91). -/
def State.levelPending (s : State) (d : Nat) : Bool :=
  s.xpt.pending.any fun p => p.entries.any fun e => !isMono e && e.dest == d && (!s.ctl.immediate || (s.entryGroups e).any p.left.contains)

/-- The four words of a video table's entry. -/
def State.snapVideo (s : State) (air : Bool) (d : Nat) : List Nat :=
  let r := Tab.get idleRow (if air then s.xpt.vair else s.xpt.vcom) d
  [r.srcN * 65536 + r.srcV, b2n r.pass * 65536 + r.amap % 65536, r.gen,
    b2n (s.isLost d) * 4 + b2n (s.levelPending d) * 2 + b2n (air && s.mixedGen r.gen)]

/-- Where the resource of an entry of a placement table lies: as the image pins it, or by self placement (R26, R114). -/
def State.placeOf (s : State) (table i : Nat) : Nat :=
  if s.ctl.selfPlaced then Config.placement (s.imgBytes s.cfgOff s.cfgBody) s.xpt.placed s.xpt.history table i
  else Tab.get 0 s.cfg.pinned (table * 16384 + i)

/-- The words of a snapshot of a table, by this device's own assignment (R114). -/
def State.ownWords (s : State) (table : Nat) : List Nat :=
  match table with
  | 0 => (List.range 4096).flatMap (s.snapVideo false)
  | 1 => (List.range 4096).flatMap (s.snapVideo true)
  | 2 => (List.range 16384).map fun c => let r := Tab.get idleARow s.xpt.acom c
      r.gen % 65536 * 65536 + (match r.src with
        | some x => x
        | none => 32768)
  | 3 => (List.range 16384).map fun c => let r := Tab.get idleARow s.xpt.aair c
      r.gen % 65536 * 65536 + (match r.src with
        | some x => x
        | none => 32768)
  | 4 => (List.range 4096).map fun i => match Tab.find? s.cfg.srcs i with
      | some c => 2147483648 + s.windowDepth c % 16 * 16777216 + s.placeOf 4 i % 2097152
      | none => if 3968 ≤ i ∧ i < 4032 ∧ s.cmpActive (i - 3968) then
          2147483648 + s.rdFld Reg.XPT_CFG 3 0 * 16777216 + s.placeOf 4 i % 2097152 else 0
  | 5 => (List.range 4096).map fun i => match s.streamCfg i with
      | some c => if i < 3968 then 2147483648 + groupOf c.base % 8 else 0
      | none => 0
  | 6 => (List.range 64).map fun c => if s.cmpActive c then 2147483648 + s.placeOf 6 c % 64 else 0
  | 7 => (List.range 16384).map fun c =>
      if (Tab.find? s.cfg.asrc c).isSome || (Tab.find? s.cfg.adst c).isSome then 2147483648 + s.placeOf 7 c % 65536 else 0
  | _ => []

/-- The words of a snapshot of a table (R114); under SELF a map taken from the keyholder replaces the device's own (R238), until a take or a retired
slot moves it on (R26). -/
def State.snapWords (s : State) (table : Nat) : List Nat :=
  if table < 4 ∨ s.xpt.placed.isEmpty = true ∨ s.xpt.history.isEmpty = false then s.ownWords table
  else (s.ownWords table).zipIdx.map fun x => Tab.get 0 s.xpt.placed (table * 16384 + x.2)

/-- SNAPSHOT_DONE (R114): the copy is complete. -/
def execSnapshotDone (t : Nat) (s0 : State) : Host.Outcome State Fault Refusal :=
  let s := s0.at t
  if s.rdBit Reg.XPT_SNAP 30 then
    let k := s.xpt.snapTable
    let gen := s.rd (if k = 1 ∨ k = 3 then Reg.XPT_GEN_ONAIR else Reg.XPT_GEN_COMMITTED)
    .next (((s.setXpt { s.xpt with snap := s.snapWords k }).wr Reg.XPT_SNAP (BitVec.ofNat 32 (2147483648 + k))).wr
      Reg.XPT_SNAP_GEN gen)
  else .next s

end Sys2Proof.Machine
end

