-- ==== Sys2Proof/Machine/Entry.lean ====
section
/-! DEFINITION. Health words and scores (R244, R245), what a HEARTBEAT carries (R221), and entry to SERVICE and JOIN (R34, R56, R207, R237). -/
namespace Sys2Proof.Machine

/-! Health (R244, R245). -/

/-- Is a health unit present and used? -/
def State.unitUsed (s : State) (u : Nat) : Bool :=
  if u = 4 then decide (0 < s.dev.variant.compositors) && s.rdFld Reg.TOP_USAGE 15 9 != 0
  else if u = 5 then s.ctl.paired
  else if u < 8 then true
  else if u < 16 then s.groupUsed (u - 8)
  else decide (u - 16 < s.dev.variant.fields) && s.boot.fieldsUsed.testBit (u - 16)

/-- Class C2 records of a unit in the last 10 s, saturating at 255. -/
def State.c2Rate (s : State) (u : Nat) : Nat :=
  min 255 (s.twn.c2Times.filter fun e => e.1 == u && decide (s.now ≤ e.2 + 10000000000)).length

/-- Points a unit takes off the score. -/
def State.deduct (s : State) (u : Nat) : Nat :=
  (if s.twn.failed.testBit u && s.unitUsed u then 400 else 0) + (if s.isOpen u 3 then 150 else 0) + min 100 (2 * s.c2Rate u)

/-- The health word of a unit (R244). -/
def State.healthWord (s : State) (u : Nat) : Nat :=
  let failed := s.twn.failed.testBit u
  let c3 := s.isOpen u 3
  let st := if s.unitUsed u = false then 3 else if failed then 2 else if c3 || decide (16 ≤ s.c2Rate u) then 1 else 0
  st * 1073741824 + b2n failed * 536870912 + b2n c3 * 268435456 + s.c2Rate u * 1048576 + s.deduct u * 1024

/-- All 32 health words. -/
def State.healthWords (s : State) : List Nat := (List.range 32).map s.healthWord

/-- The score (R245). -/
def State.score (s : State) : Nat :=
  let x := 1000 - ((List.range 32).map s.deduct).foldl (· + ·) 0
  if s.twn.arb.capped then min 499 x else x

/-- The peer's score as last received; 0 while the wall is down. -/
def State.peerScore (s : State) : Nat := s.rdFld Reg.TWN_SCORE 25 16

/-! What a HEARTBEAT carries (R221). -/

/-- Side B, by the TWIN_SIDE strap. -/
def State.sideB (s : State) : Bool := s.pins.straps % 2 == 1

/-- The configuration section hash. -/
def State.cfgHash (s : State) : List Byte := (List.range 8).flatMap fun i => toLe 4 (s.rd (Reg.BOOT_CFG_HASH i)).toNat

/-- TABLE_CRC: CRC-32 of snapshot tables 0 and 2 of the committed tables, each word's low byte first. -/
def State.tableCrc (s : State) : Nat :=
  crc32 ((s.snapWords 0 ++ s.snapWords 2).flatMap fun w => toLe 4 w)

/-- The HEARTBEAT this device sends now. -/
def State.ownHeartbeat (s : State) : Heartbeat where
  systemId := s.systemId
  side := b2n s.sideB
  pairId := s.pairId
  mode := s.ctl.mode.code
  role := s.ctl.role.code
  keyOut := s.pins.keyOut
  keyIn := s.pins.keyIn
  claiming := s.twn.key.claimAt.isSome
  seesUp := s.twn.wall.up
  count := s.twn.wall.hbCount
  time := s.deviceTime
  compat := (s.rd Reg.BOOT_COMPAT_ID).toNat
  genCommitted := (s.rd Reg.XPT_GEN_COMMITTED).toNat
  genOnAir := (s.rd Reg.XPT_GEN_ONAIR).toNat
  score := s.score
  tableCrc := s.tableCrc
  hash := s.cfgHash

/-- Does the peer carry an equal configuration section hash and COMPAT_ID? -/
def State.peerEqual (s : State) : Bool :=
  match s.twn.wall.peer with
  | some h => h.hash == s.cfgHash && h.compat == (s.rd Reg.BOOT_COMPAT_ID).toNat
  | none => false

/-- Does the peer report KEYHOLDER? -/
def State.peerHolds (s : State) : Bool :=
  match s.twn.wall.peer with
  | some h => h.role == 1
  | none => false

/-- The JOIN condition (R56). -/
def State.joinCond (s : State) : Bool := s.ctl.paired && s.twn.wall.up && s.peerHolds && s.peerEqual

/-! The state transfer's request (R237, R239). -/

/-- No state transfer. -/
def idleJoin : JoinState := ⟨false, false, 0, 0, 0, [], false, [], []⟩

/-- Section 0 is sent: the transfer is requested. -/
def State.requestState (s : State) (resync : Bool) (attempts : Nat) : State :=
  (s.setTwn { s.twn with join := { idleJoin with
      active := true, resync := resync, requestedAt := s.now, attempts := attempts } }).sendWall (.state .request)

/-! Entry to SERVICE and JOIN. -/

/-- A slot's state in a directory. -/
def slotState (d : Directory) : Slot → SlotState
  | .a => d.stateA
  | .b => d.stateB

/-- Replace a slot's state. -/
def withSlotState (d : Directory) (x : Slot) (st : SlotState) : Directory :=
  match x with
  | .a => { d with stateA := st }
  | .b => { d with stateB := st }

/-- The first entry to SERVICE or JOIN of the run: BOOT_TIME takes the ms since the release of RESET_N (R54); the booted slot becomes GOOD, and a defaulted directory is repaired, in one write
(R34). -/
def State.firstEntry (s : State) : State :=
  if s.ctl.entered then s
  else
    let s1 := (s.setCtl { s.ctl with entered := true }).wr Reg.BOOT_TIME
      (BitVec.ofNat 32 (min 65535 ((s.now - s.boot.released) / 1000000)))
    match s1.boot.booted with
    | none => s1.repairDir
    | some x =>
      if slotState s1.boot.dirDue x = .written then
        (s1.setBoot { s1.boot with dirDue := withSlotState s1.boot.dirDue x .good, defaulted := false }).queueDir
      else s1.repairDir

/-- What an entry to SERVICE from TRAIN changes, as it stood (R58). -/
def State.entryMark (s : State) : Option EntryMark :=
  if s.ctl.mode = .train then
    some ⟨s.now, s.ctl.role, s.ctl.entered, (s.rd Reg.BOOT_TIME).toNat, s.boot.dirDue, s.boot.defaulted, s.boot.dirQueued, s.res flashRes⟩
  else none

/-- TOP_MODE.MODE becomes SERVICE with a role (R56); a closing claim is over. -/
def State.enterService (s : State) (r : Role) : State :=
  ((((s.setCtl { s.ctl with mark := s.entryMark }).endClosing).setMode .service).setRole r).firstEntry

/-- TOP_MODE.MODE becomes JOIN: KEY_OUT low, follower, outputs dark; the state transfer is requested (R55, R237). -/
def State.enterJoin (s : State) : State :=
  let s0 := ((((s.keyLow.endClosing).setMode .join).setRole .follower).firstEntry)
  let s1 := s0.setAud { s0.aud with ins := s0.aud.ins.map fun e => (e.1, { e.2 with slips := 0 }) }
  (s1.setStreams (s1.streams.map fun e => (e.1, { e.2 with repeatsJoin := e.2.repeats, dropsJoin := e.2.drops }))).requestState false 1

/-- KEY_OUT is driven high by the SOLO entry to SERVICE (R207). -/
def State.soloService (s : State) : State :=
  (s.setPins { s.pins with keyOut := true }).enterService .solo

/-- The end of TRAIN for a PAIRED device that does not hold the key (R207): JOIN if its condition holds, else ALONGSIDE. -/
def State.closeTrain (s : State) : State :=
  let s1 := s.setTwn { s.twn with key := { s.twn.key with closing := false, claimAt := none } }
  if s1.joinCond then s1.enterJoin else s1.enterService .alongside

end Sys2Proof.Machine
end

