-- ==== Sys2Proof/Machine/Join.lean ====
section
/-! DEFINITION. Orders and decisions from the keyholder, and the state transfer of JOIN and resync (R223, R226–R228, R237–R239, R243). -/
namespace Sys2Proof.Machine

/-! Orders (R92, R223, R227). -/

/-- The headlands an order names: group, frame. -/
def orderFrames (o : Order) : List (Nat × Nat) := (o.frames.zipIdx.filter fun x => x.1 != 0).map fun x => (x.2, x.1)

/-- Is a headland later than its switch point minus 70 µs? -/
def State.headlandLate (s : State) (e : Nat × Nat) : Bool := decide (s.switchPoint e.1 e.2 - 70000 < (s.deviceTime : Int))

/-- The headlands at which an order is applied: the named one, or the group's next where that is past. -/
def State.heldFrames (s : State) (o : Order) : List (Nat × Nat) :=
  (orderFrames o).map fun e => if s.headlandLate e then (e.1, s.headlandAt e.1 (s.deviceTime : Int)) else e

/-- A change of an order waits for its headlands. -/
def State.pendOrder (s : State) (o : Order) (fs : List (Nat × Nat)) : State :=
  if o.order = 2 then
    s.setLin { s.lin with due := s.lin.due ++ fs.map s.lintelDue }
  else
    let left := fs.map Prod.fst ++ (if o.order = 1 then [16] else [])
    (s.setXpt { s.xpt with pending := s.xpt.pending ++ [⟨o.order, o.gen, fs, left, o.entries, o.live, none, o.commit⟩] })

/-- The reply data of the request an order covers, where this device holds it. -/
def State.orderReply (s : State) (o : Order) : Option ReplyTo :=
  if o.order = 0 then (s.xpt.queue.find? fun v => v.reply.sender == o.sender && v.id == o.id).map fun v => v.reply
  else s.xpt.held.find? fun r => r.sender == o.sender && r.seq == o.id

/-- The held copies of what an order covers are discarded (R226). -/
def State.dropHeld (s : State) (o : Order) : State :=
  if o.order = 0 then
    s.setXpt { s.xpt with
      queue := s.xpt.queue.filter fun v => !(v.reply.sender == o.sender && v.id == o.id)
      opened := s.xpt.opened.filter fun v => !(v.sender == o.sender && v.id == o.id) }
  else s.setXpt { s.xpt with held := s.xpt.held.filter fun r => !(r.sender == o.sender && r.seq == o.id) }

/-- The ACK the keyholder sent is stored, rebuilt from the order, for a retransmission (R101, R226). -/
def State.storeAck (s : State) (o : Order) : State :=
  match s.orderReply o with
  | none => s
  | some r =>
    let n := if o.order = 0 then o.entries.length else if o.order = 1 then o.live.length else 0
    let bytes := s.fratinMsg r 0x7E (ackBody r 0 n o.gen (sharedFrame (orderFrames o)) o.commit)
    let x := Tab.get coldSender s.xpt.senders r.sender
    (s.setXpt { s.xpt with
      senders := Tab.put coldSender s.xpt.senders r.sender { x with replies := ((r.seq, r, bytes) :: x.replies).take 16 } })

/-- What an order changes at once: the committed tables and generation of a salvo, the masks and slots of a LINTEL message. -/
def State.takeOrder (s : State) (o : Order) (fs : List (Nat × Nat)) : State :=
  let s1 := (s.storeAck o).dropHeld o
  if o.order = 0 then s1.commitSalvo none o.gen o.entries fs o.commit
  else if o.order = 1 then s1.commitLive o.live fs o.commit
  else (s1.applyLintel o.lintel).pendOrder o fs

/-- A late order (R227): counted, and LOCAL_CAUSE in the digests of the frames in between. -/
def State.orderLate (s : State) (o : Order) (fs : List (Nat × Nat)) : State :=
  let spans := ((orderFrames o).zip fs).filterMap fun x => if x.1.2 = x.2.2 then none else some (x.1.1, x.1.2, x.2.2)
  if spans.isEmpty then s
  else
    let s1 := (s.bump Reg.TWN_CNT_ORDER_LATE).twnEvent 10
    (s1.setTwn { s1.twn with lateSpans := s1.twn.lateSpans ++ spans })

/-- A follower applies an order. -/
def State.applyOrder (s : State) (o : Order) : State :=
  let fs := s.heldFrames o
  (s.takeOrder o fs).orderLate o fs

/-- Does a state transfer still wait for its snapshot, so that orders and decisions queue (R237)? -/
def State.joining (s : State) : Bool := s.twn.join.active && !s.twn.join.applied

/-- An order arrives (R61, R227): a follower in service applies it; a joining or resyncing device queues it until its snapshot is applied. -/
def State.hearOrder (s : State) (o : Order) : State :=
  if s.twn.wall.up = false then s
  else if s.joining then s.setTwn { s.twn with orders := s.twn.orders ++ [o] }
  else if (s.ctl.mode = .service ∨ s.ctl.mode = .join) ∧ (s.ctl.role = .follower ∨ s.twn.join.active = true) then s.applyOrder o
  else s

/-- TAKE_ORDER (R227). -/
def execTakeOrder (t : Nat) (o : Order) (s0 : State) : Host.Outcome State Fault Refusal := .next ((s0.at t).hearOrder o)

/-! Decisions (R119, R163, R170, R191, R222, R225). -/

/-- A decision takes effect or is held for its frame. Frame reads and verdicts (kinds 1 and 2) are held, but not a verdict that comes after its read start
(R163); slips, the lintel mask and window decisions go to the units that follow them. A lintel mask that comes after its latch instant waits for the next
headland (R170). -/
def State.applyDecision (s : State) (d : DecisionRec) : State :=
  if d.kind = 2 ∧ s.cmpReadStart (d.index / 16) d.at_ < (s.deviceTime : Int) then s
  else if d.kind = 1 ∨ d.kind = 2 then s.setTwn { s.twn with decisions := s.twn.decisions ++ [d] }
  else if d.kind = 3 then
    s.setAudIn d.index { s.audIn d.index with slip := some (d.at_, d.value == 1, false), crossed := none }
  else if d.kind = 4 then
    s.setLin { s.lin with held := s.lin.held ++ [(d.tg, max d.at_ (s.headlandAt d.tg (s.deviceTime : Int)), d.value % 65536)] }
  else if d.kind = 5 then
    if 9223372036854775808 ≤ d.value then s.windowLost d.index d.at_ (d.value % 8192) else s.endBlack d.index d.at_ 1
  else s

/-- Decisions arrive (R222): a follower applies them; a joining or resyncing device queues them. -/
def State.hearDecision (s : State) (recs : List DecisionRec) : State :=
  if s.twn.wall.up = false then s
  else if s.joining then s.setTwn { s.twn with decisions := s.twn.decisions ++ recs }
  else if (s.ctl.mode = .service ∨ s.ctl.mode = .join) ∧ (s.ctl.role = .follower ∨ s.twn.join.active = true) then
    recs.foldl State.applyDecision (s.setTwn { s.twn with following := true })
  else s

/-- DECISION (R222). -/
def execDecision (t : Nat) (recs : List DecisionRec) (s0 : State) : Host.Outcome State Fault Refusal := .next ((s0.at t).hearDecision recs)

/-- Every order and decision that is queued is applied (R228, R237). Orders that a snapshot brought late are not counted. -/
def State.applyQueued (s : State) : State :=
  let os := s.twn.orders
  let ds := s.twn.decisions
  let s1 := s.setTwn { s.twn with orders := [], decisions := [] }
  ds.foldl State.applyDecision (os.foldl (fun a o => a.takeOrder o (a.heldFrames o)) s1)

/-! The keyholder's snapshot (R237). -/

/-- A loaded text as a LOAD_TEXT body (R172). -/
def loadTextBody (slot : Nat) (m : LintelText) : List Byte :=
  [3, BitVec.ofNat 8 slot, 0, 0] ++ toBe 2 m.centreX ++ toBe 2 m.centreY ++
    [BitVec.ofNat 8 m.fg, BitVec.ofNat 8 m.bg, BitVec.ofNat 8 m.scale, 0] ++ toBe 2 m.text.length ++ [0, 0] ++ m.text

/-- The loaded slots as LOAD_TEXT bodies. -/
def State.loadedBodies (s : State) : List (List Byte) :=
  s.lin.loaded.filterMap fun e => match e.2 with
    | .text m => some (loadTextBody e.1 m)
    | .bitmap _ _ _ _ _ _ => none

/-- A stored stream's part of section 9. -/
def State.joinStream (s : State) (i : Nat) : JoinStream :=
  let x := s.stream i
  let f : RingFrame := match x.newest with
    | some e => e.2
    | none => ⟨x.nextW, false, false, 0⟩
  ⟨i, f.widx, f.at_, x.lastRead.getD decisionBlack, x.lossRun, x.mode⟩

/-- Sections 1–12 of a snapshot taken now. -/
def State.sections (s : State) : List Section :=
  let words := [4, 5, 6, 7].flatMap fun k => (s.snapWords k).zipIdx.filterMap fun x =>
    if x.1 = 0 then none else some (k * 16384 + x.2, x.1)
  let cmps := ((List.range 64).filter s.cmpActive).map fun c =>
    let x := s.cmpRun c
    (c, (⟨x.since, x.change, (List.range 12).map fun n => Tab.get decisionBlack x.pinned n⟩ : JoinCmp))
  let streams := (s.cfg.streams.filter fun e => decide (e.1 < 8192)).map fun e => s.joinStream e.1
  let audio := s.aud.ins.filterMap fun e => e.2.slip.map fun p => (⟨e.1, p.1, if p.2.1 then 1 else 2⟩ : JoinAudio)
  let senders := s.xpt.senders.map fun e => (⟨e.1, e.2.session, e.2.highest, e.2.seen.map Prod.fst⟩ : JoinSender)
  let parts := s.xpt.opened.flatMap fun o => o.parts.map fun p => (⟨o.sender, o.id, p.1, o.count, p.2⟩ : PartRec)
  [.instant s.deviceTime (s.rd Reg.XPT_GEN_COMMITTED).toNat (s.rd Reg.XPT_GEN_ONAIR).toNat,
    .videoCommitted (s.snapWords 0), .audioCommitted (s.snapWords 2), .orders (s.twn.sent.filter s.orderOpen), .placement words,
    .live s.xpt.live, .compositors cmps, .lintel s.lin.msgMask s.lintelMask s.loadedBodies, .streams streams audio,
    .senders senders parts, .videoOnAir (s.snapWords 1), .audioOnAir (s.snapWords 3)]

/-- STATE_REQUEST (R237): the keyholder takes its snapshot and sends sections 1–12. -/
def execStateRequest (t : Nat) (s0 : State) : Host.Outcome State Fault Refusal :=
  let s := s0.at t
  if s.ctl.role = .keyholder ∧ s.ctl.mode = .service ∧ s.twn.wall.up = true then
    .next (s.sections.foldl (fun a x => a.sendWall (.state x)) s)
  else .next s

/-! Applying a snapshot (R237–R239). -/

/-- A table from a list of rows. -/
def rowsTab {β : Type} [DecidableEq β] (d : β) (rows : List (Nat × β)) : Tab β :=
  rows.foldl (fun t e => Tab.put d t e.1 e.2) []

/-- The ring of a stream takes the keyholder's write index for its own frame of the same instant, its other frames and their slots' tags move with it,
and it counts on from there; without one the next
arrival is the anchor, counted as DECISION_UNMET (R238). Paired inputs are numbered by their packets (R232). -/
def State.anchorStream (s : State) (j : JoinStream) : State :=
  match s.streamCfg j.index with
  | none => s
  | some c =>
    let x := s.stream j.index
    let last := if j.lastRead = decisionBlack then none else some j.lastRead
    let y := { x with mode := j.mode, lossRun := j.loss, lastRead := last, toPin := none, pinned := if j.mode = 3 then last else none }
    if s.isPaired j.index then s.setStream j.index y
    else
      let near (f : RingFrame) : Bool := f.written && decide (((f.at_ : Int) - (j.arrival : Int)).natAbs < 150000)
      match List.find? (fun (e : Nat × RingFrame) => near e.2) x.ring with
      | some e =>
        let shift (w : Nat) : Nat := w + j.widx - e.2.widx
        let s1 := (x.ring.filter fun f => f.2.written && shift f.2.widx != f.2.widx).foldl (fun a f => a.retagPlace c f.1 (shift f.2.widx)) s
        s1.setStream j.index { y with
          ring := x.ring.map fun f => if f.2.written then (f.1, { f.2 with widx := shift f.2.widx }) else f
          nextW := shift x.nextW, widxLast := if x.newest.isSome then shift x.widxLast else x.widxLast }
      | none =>
        let p := s.framePeriod c.readGroup
        let n := if p = 0 then 0 else (s.deviceTime - j.arrival + p - 1) / p
        ((s.setStream j.index { y with nextW := j.widx + n }).bump Reg.FST_CNT_DECISION_UNMET).fstEvent 5

/-- An audio input's pending slip. -/
def State.anchorAudio (s : State) (j : JoinAudio) : State :=
  if j.direction = 0 then s
  else s.setAudIn j.index { s.audIn j.index with slip := some (j.block, j.direction == 1, false), crossed := none }

/-- A compositor's part of section 7. -/
def State.anchorCmp (s : State) (e : Nat × JoinCmp) : State :=
  let pins := (e.2.pinned.zipIdx.filter fun x => x.1 != decisionBlack).map fun x => (x.2, x.1)
  let s1 := s.setCmp e.1 { s.cmpRun e.1 with
    since := e.2.frames, change := e.2.change, pinned := rowsTab decisionBlack pins }
  pins.foldl (fun a p => a.pinLayer (a.layerSrc e.1 p.1) (16 * e.1 + p.1) (some p.2)) s1

/-- A sender's part of section 10. -/
def State.joinSender (s : State) (j : JoinSender) : State :=
  s.setXpt { s.xpt with
    senders := Tab.insert (Tab.erase s.xpt.senders j.sender) j.sender ⟨j.session, j.highest, j.seen.map fun q => (q, s.now), []⟩ }

/-- A held salvo part. -/
def State.joinPart (s : State) (p : PartRec) : State :=
  match s.openSalvo p.sender p.salvo with
  | some o => s.putOpen { o with parts := Tab.insert (Tab.erase o.parts p.index) p.index p.entries }
  | none => s.putOpen ⟨p.sender, p.salvo, p.count, [(p.index, p.entries)], s.now⟩

/-- The rows of a video table from its words (R114 tables 0 and 1). -/
def videoTable (ws : List Nat) : Tab VRow :=
  rowsTab idleRow ((List.range ((ws.length + 3) / 4)).map fun d =>
    let w (k : Nat) : Nat := ws.getD (4 * d + k) 0
    (d, ⟨w 0 % 4096, w 0 / 65536 % 4096, w 1 % 65536, w 1 / 65536 % 2 == 1, w 2⟩))

/-- The rows of an audio table from its words (R114 tables 2 and 3): GEN comes with 16 bits. -/
def audioTable (ws : List Nat) : Tab ARow :=
  rowsTab idleARow (ws.zipIdx.map fun x => (x.2, ⟨if x.1 / 32768 % 2 = 1 then none else some (x.1 % 16384), x.1 / 65536⟩))

/-- One section takes effect. -/
def State.applySection (s : State) (x : Section) : State :=
  match x with
  | .request => s
  | .instant tJ gc ga =>
    let s1 := s.setTwn { s.twn with join := { s.twn.join with tJ := tJ } }
    (s1.wr Reg.XPT_GEN_COMMITTED (BitVec.ofNat 32 gc)).wr Reg.XPT_GEN_ONAIR (BitVec.ofNat 32 ga)
  | .videoCommitted ws => s.setXpt { s.xpt with vcom := videoTable ws }
  | .audioCommitted ws => s.setXpt { s.xpt with acom := audioTable ws }
  | .orders os => os.foldl (fun a o => a.pendOrder o (a.heldFrames o)) (s.setXpt { s.xpt with pending := [] })
  | .placement words => if s.ctl.selfPlaced then (s.setXpt { s.xpt with placed := rowsTab 0 words, history := [] }) else s
  | .live es => s.applyLives (s.deviceTime : Int) es
  | .compositors cs => cs.foldl State.anchorCmp s
  | .lintel m d slots =>
    let s1 := s.setLin { s.lin with msgMask := m, decided := d, loaded := [] }
    let s2 := slots.foldl State.applyLintel s1
    let next := s2.boundGroups.map fun g => (g, s2.headlandAt g (s2.deviceTime : Int))
    (s2.setLin { s2.lin with
      held := s2.lin.held ++ next.map fun e => (e.1, e.2, d)
      due := s2.lin.due ++ next.map s2.lintelDue })
  | .streams ss audio => audio.foldl State.anchorAudio (ss.foldl State.anchorStream s)
  | .senders ss parts => parts.foldl State.joinPart (ss.foldl State.joinSender (s.setXpt { s.xpt with senders := [], opened := [] }))
  | .videoOnAir ws => s.setXpt { s.xpt with vair := videoTable ws, vout := videoTable ws }
  | .audioOnAir ws => s.setXpt { s.xpt with aair := audioTable ws, aout := audioTable ws }

/-- Frames a stream still has to complete: D + 2, less those begun and completed since T_J (R239). -/
def State.toFillOf (s : State) (i : Nat) (c : StreamCfg) : Nat :=
  let d := if i < 4096 then c.depth + c.maxDelay else c.delay
  let done := ((s.stream i).complete.filter fun e => decide (s.twn.join.tJ ≤ e.2.at_)).length
  d + 2 - done

/-- The frames every stream still has to complete. -/
def State.fillDue (s : State) : Tab Nat :=
  (s.cfg.streams.filter fun e => decide (e.1 < 8192)).foldl (fun t e => Tab.put 0 t e.1 (s.toFillOf e.1 e.2)) []

/-- The snapshot is applied (R237–R239): its sections, then what was queued since; then the streams fill and the caches are rebuilt. -/
def State.applySnapshot (s : State) : State :=
  let order := [1, 2, 3, 11, 12, 5, 6, 7, 8, 9, 10, 4]
  let s1 := order.foldl (fun a k => match a.twn.join.received.find? fun x => sectionNo x == k with
    | some x => a.applySection x
    | none => a) s
  let s2 := s1.setTwn { s1.twn with join := { s1.twn.join with applied := true } }
  let s3 := s2.applyQueued
  let fill := s3.fillDue
  let build := (List.range 64).filter fun c => s3.cmpActive c && !(s3.staticSet c).isEmpty
  (s3.setTwn { s3.twn with join := { s3.twn.join with toFill := fill, toRebuild := build } })

/-- STATE (R237): a section arrives; with all twelve held, the snapshot is applied. -/
def execState (t : Nat) (sec : Section) (s0 : State) : Host.Outcome State Fault Refusal :=
  let s := s0.at t
  if s.joining = false ∨ sectionNo sec = 0 ∨ s.twn.wall.up = false then .next s
  else
    let held := (s.twn.join.received.filter fun x => sectionNo x != sectionNo sec) ++ [sec]
    let s1 := s.setTwn { s.twn with join := { s.twn.join with received := held } }
    if held.length = 12 then .next s1.applySnapshot else .next s1

/-- Every section applied, every ring and delay line filled, every cache rebuilt (R239)? -/
def State.joinReady (s : State) : Bool :=
  let j := s.twn.join
  j.active && j.applied && j.toFill.isEmpty && j.toRebuild.isEmpty

/-- A change of the LINTEL_ARM pin latched in JOIN is shown (R61). -/
def State.showLatched (s : State) : State :=
  if s.lin.latched then (s.setLin { s.lin with latched := false }).lintelChange else s

/-- The state transfer completes (R239). -/
def State.completeJoin (s : State) : State :=
  let s1 := s.setTwn { s.twn with join := { s.twn.join with active := false }, resyncPending := false, following := true }
  if s1.ctl.mode = .join then (s1.enterService .follower).showLatched
  else if s1.ctl.mode = .service then s1.setRole .follower
  else s

/-- JOIN_COMPLETE (R239). -/
def execJoinComplete (t : Nat) (s0 : State) : Host.Outcome State Fault Refusal :=
  let s := s0.at t
  if s.joinReady then .next s.completeJoin else .next s

/-- Do the sections that arrive in this instant make the transfer whole (R239)? -/
def State.stateArrives (s : State) : Bool :=
  s.twn.wall.up && (List.range 12).all fun k => (s.twn.join.received.any fun x => sectionNo x == k + 1) || s.sameInstant fun c => match c with
    | .state t x => decide (t ≤ s.now) && sectionNo x == k + 1
    | _ => false

/-- JOIN_RETRY_TIMEOUT (R239): 500 ms after a request without the whole state it is requested again; after three attempts JOIN_STALLED. Sections that arrive in
the same cycle count as in time. -/
def execJoinRetryTimeout (t : Nat) (s0 : State) : Host.Outcome State Fault Refusal :=
  let s := s0.at t
  let j := s.twn.join
  if s.joining && decide (j.requestedAt + 500000000 ≤ s.now) && !s.stateArrives then
    let s1 := if j.attempts = 3 then (s.raise 0x080 0x45 j.attempts 3).twnEvent 11 else s
    .next (s1.requestState j.resync (j.attempts + 1))
  else .next s

/-- JOIN is abandoned (R58): the device enters SERVICE, and TOP_MODE.JOIN_ABANDONED is set; the delay lines fill on. -/
def State.abandonJoin (s : State) : State :=
  let fill := if s.twn.join.applied then s.twn.join.toFill else s.fillDue
  let s1 := (s.setCtl { s.ctl with joinAbandoned := true }).setTwn { s.twn with join := idleJoin, orders := [], decisions := [], unfilled := fill }
  (s1.enterService .follower).showLatched

/-- A resync starts (R243): DIVERGENT and RESYNC_PENDING, outputs dark, a transfer from section 1. -/
def State.startResync (s : State) : State :=
  (s.setTwn { s.twn with resyncPending := true, lit := 0, following := false }).requestState true 1

end Sys2Proof.Machine
end

