-- ==== Sys2Proof/Machine/Twin.lean ====
section
/-! DEFINITION. Twin operation: the key, the party wall, digests and arbitration, handover, health (R204–R247). -/
namespace Sys2Proof.Machine

/-- Replace the key logic. -/
def State.setKey (s : State) (k : KeyState) : State := s.setTwn { s.twn with key := k }

/-- Replace the wall. -/
def State.setWall (s : State) (w : WallState) : State := s.setTwn { s.twn with wall := w }

/-- Replace the arbitration. -/
def State.setArb (s : State) (a : ArbState) : State := s.setTwn { s.twn with arb := a }

/-- Replace the handover. -/
def State.setHo (s : State) (h : HandoverState) : State := s.setTwn { s.twn with ho := h }

/-! The key (R207–R213). -/

/-- Does an announcement of the peer at an instant count: any, but 1 ms or more after this device's own release with reason 2, 4 or 5
(R210)? -/
def State.countsFrom (s : State) (at_ : Option Nat) : Bool :=
  match at_, s.twn.key.gaveUp with
  | some u, some (r, v) => if r = 2 ∨ r = 4 ∨ r = 5 then decide (v + 1000000 ≤ u) else true
  | some _, none => true
  | none, _ => false

/-- Does a claim condition hold (R210, step 2; R211)? -/
def State.claimCause (s : State) : Bool :=
  let k := s.twn.key
  let full := k.closing || decide (500 ≤ s.score) || (s.ctl.role != .follower && s.ctl.role != .alongside)
  k.peerDead || (full && (s.countsFrom k.peerGaveUp || s.countsFrom k.peerIdle || (!s.twn.wall.up && k.lowLong)))

/-- May the device claim now (R210)? -/
def State.mayClaim (s : State) : Bool :=
  let k := s.twn.key
  ((k.closing && s.ctl.mode == .train) || (s.ctl.mode == .service && s.ctl.role != .solo)) && s.flt.aliveRuns && s.power.reaping.isNone &&
    !s.pins.keyOut && k.claimAt.isNone && !s.pins.keyIn && decide (k.keyInEdge + 10000 ≤ s.now) && s.claimCause

/-- Does KEY_IN rise in this instant (R213)? -/
def State.keyInRises (s : State) : Bool :=
  s.sameInstant fun c => match c with
    | .keyInEdge t level => level && decide (t ≤ s.now)
    | _ => false

/-- Does a HEARTBEAT of the pair arrive in this instant (R213)? -/
def State.heartbeatArrives (s : State) : Bool :=
  s.sameInstant fun c => match c with
    | .heartbeat t hb => decide (t ≤ s.now) && hb.pairId == s.pairId
    | _ => false

/-- Does ALIVE_PEER show an edge in this instant? -/
def State.alivePeerMoves (s : State) : Bool :=
  s.sameInstant fun c => match c with
    | .alivePeerEdge t level => decide (t ≤ s.now) && level != s.pins.alivePeer
    | _ => false

/-- Does a command of this instant raise a C4 record of itself (R58, R213): a firmware stall, a lost reference, a loop that fails, a thermal trip? -/
def State.severeFalls (s : State) : Bool :=
  s.sameInstant fun c => match c with
    | .watchdogExpiry t _ => decide (t ≤ s.now) && !s.kickFalls && s.flt.armed && s.kicking && decide (s.flt.lastKick + 2000000 ≤ s.now)
    | .sysRefLost t => decide (t ≤ s.now)
    | .loopUnlock t n e => decide (t ≤ s.now) && decide (1000 < e.natAbs) && decide (7 ≤ n) && decide (n ≤ 14) && s.rdBit (Reg.SYN_LOOP_STATUS n) 31
    | .loopShelterTimeout t n => decide (t ≤ s.now) && decide (2 ≤ n) && decide (n ≤ 5) && s.rdBit (Reg.SYN_LOOP_STATUS n) 30
    | .thermalRead t temps => decide (t ≤ s.now) && !s.flt.trips && temps.zipIdx.any fun x => decide (960 < x.1) && decide (2 ≤ (Tab.get coldDiode s.flt.diodes x.2).trip)
    | _ => false

/-- KEY_CLAIM (R210): the device drives KEY_OUT high; not where KEY_IN rises as its count completes (R213). -/
def execKeyClaim (t : Nat) (s0 : State) : Host.Outcome State Fault Refusal :=
  let s := s0.at t
  if s.mayClaim && !s.keyInRises then
    .next ((s.setKey { s.twn.key with claimAt := some s.now }).setPins { s.pins with keyOut := true })
  else .next s

/-- A claim held past its re-sample (R210, R228, R243): the device is KEYHOLDER; what it holds is applied; at the end of TRAIN it enters
SERVICE. -/
def State.becomeKeyholder (s : State) : State :=
  let closing := s.twn.key.closing
  let s1 := (s.setKey { s.twn.key with claimAt := none, closing := false, gaveUp := none }).twnEvent 0
  let s2 := s1.setTwn { s1.twn with
    resyncPending := false, following := false, join := idleJoin
    ho := if s1.twn.ho.phase = 3 then { s1.twn.ho with phase := 0 } else s1.twn.ho }
  let s3 := if closing then s2.enterService .keyholder else s2.setRole .keyholder
  (s3.applyQueued.setXpt { s3.applyQueued.xpt with held := [] })

/-- KEY_RESAMPLE (R210): 2 µs after the claim KEY_IN is sampled again, at the level given: side B withdraws from a high, else the claim
holds. -/
def execKeyResample (t : Nat) (level : Bool) (s0 : State) : Host.Outcome State Fault Refusal :=
  let s := s0.at t
  match s.twn.key.claimAt with
  | none => .next s
  | some u =>
    if s.now < u + 2000 then .next s
    else if level && s.sideB then
      let s1 := (s.keyLow).twnEvent 2
      if s1.twn.key.closing then .next s1.closeTrain else .next s1
    else
      let s1 := if level then s.setKey { s.twn.key with conflictAt := some (s.twn.key.conflictAt.getD s.now) } else s
      .next s1.becomeKeyholder

/-- KEY_IN_EDGE (R210, R207): a rise restarts the counts; during a closing claim not yet made, with the wall down, it ends the claim. -/
def execKeyInEdge (t : Nat) (level : Bool) (s0 : State) : Host.Outcome State Fault Refusal :=
  let s := s0.at t
  if s.pins.keyIn = level then .next s
  else
    let k := s.twn.key
    let k1 := if level then { k with
        keyInEdge := s.now, lowLong := false, peerGaveUp := none, peerIdle := none
        conflictAt := if s.pins.keyOut then some s.now else none }
      else { k with keyInEdge := s.now, conflictAt := none }
    let s1 := (s.setKey k1).setPins { s.pins with keyIn := level }
    if level && k.closing && k.claimAt.isNone && !s.twn.wall.up then .next s1.closeTrain else .next s1

/-- KEY_CONFLICT (R210): side A's KEY_OUT and KEY_IN have both been high for more than 10 µs. -/
def execKeyConflict (t : Nat) (s0 : State) : Host.Outcome State Fault Refusal :=
  let s := s0.at t
  match s.twn.key.conflictAt with
  | some u =>
    if !s.sideB && s.pins.keyOut && s.pins.keyIn && decide (u + 10000 < s.now) then
      .next (((s.setKey { s.twn.key with conflictAt := none }).raise 0x080 0x40 0 3).twnEvent 9)
    else .next s
  | none => .next s

/-- ALIVE_PEER_EDGE (R210): the 3 ms count restarts. -/
def execAlivePeerEdge (t : Nat) (level : Bool) (s0 : State) : Host.Outcome State Fault Refusal :=
  let s := s0.at t
  if s.pins.alivePeer = level then .next s
  else .next ((s.setKey { s.twn.key with aliveEdge := s.now, peerDead := false, aliveSeen := true }).setPins { s.pins with alivePeer := level })

/-- Has a HEARTBEAT arrived in this instant, or does one (R213)? -/
def State.heartbeatNow (s : State) : Bool := s.heartbeatArrives || (s.twn.wall.up && s.twn.wall.lastHb == s.now)

/-- ALIVE_PEER_TIMEOUT (R210): no edge for 3 ms, counted from the last edge or from the release of RESET_N. An arrival of the same instant wins (R213). -/
def execAlivePeerTimeout (t : Nat) (s0 : State) : Host.Outcome State Fault Refusal :=
  let s := s0.at t
  if max s.twn.key.aliveEdge s.boot.released + 3000000 ≤ s.now ∧ s.heartbeatNow = false ∧ s.alivePeerMoves = false then .next (s.setKey { s.twn.key with peerDead := true })
  else .next s

/-- WALL_DOWN_KEY_TIMEOUT (R210): the wall is down and KEY_IN has been low for 3 ms. -/
def execWallDownKeyTimeout (t : Nat) (s0 : State) : Host.Outcome State Fault Refusal :=
  let s := s0.at t
  if !s.twn.wall.up && !s.pins.keyIn && decide (s.twn.key.keyInEdge + 3000000 ≤ s.now) then
    .next (s.setKey { s.twn.key with lowLong := true })
  else .next s

/-- TWN_CTRL.CMD = GIVE_UP (R212): reason 5. -/
def State.cmdGiveUp (s : State) : State :=
  if s.ctl.role = .keyholder ∧ s.ctl.mode = .service then (s.cancelHandover.giveUp 5).setRole .follower else s

/-- GIVE_UP (R212, R247). -/
def execGiveUp (t confirm : Nat) (s0 : State) : Host.Outcome State Fault Refusal :=
  let s := s0.at t
  if confirm = Config.confirm then .next s.cmdGiveUp else .next s

/-- The peer announces that it gave up the key; during JOIN, JOIN is abandoned (R58, R212). -/
def State.hearGiveUp (s : State) (reason : Nat) : State :=
  if s.twn.wall.up = false ∨ reason = 0 ∨ 5 < reason then s
  else
    let s1 := (s.setKey { s.twn.key with peerGaveUp := some s.now }).twnEvent 8
    if s1.ctl.mode = .join then s1.abandonJoin else s1

/-- GIVE_UP_MSG (R212). -/
def execGiveUpMsg (t reason : Nat) (s0 : State) : Host.Outcome State Fault Refusal := .next ((s0.at t).hearGiveUp reason)

/-! The party wall (R214–R221). -/

/-- Does the party wall run: PAIRED, from the loading of an image on, not in TEST nor under ROM fallback, while REFCLK_SYS is
there (R46, R57, R60, R272)? -/
def State.wallRuns (s : State) : Bool :=
  s.ctl.paired && s.ctl.mode != .boot && s.ctl.mode != .test && !s.boot.romFallback && s.rdBit Reg.SYN_STATUS 31

/-- HEARTBEAT_SEND (R219): every 100 µs, over at least one bonded lane (R214). -/
def execHeartbeatSend (t : Nat) (s0 : State) : Host.Outcome State Fault Refusal :=
  let s := s0.at t
  if s.wallRuns && s.twn.wall.locked != 0 then
    let s1 := s.sendWall (.heartbeat s.ownHeartbeat)
    .next (s1.setWall { s1.twn.wall with hbCount := (s1.twn.wall.hbCount + 1) % 4294967296 })
  else .next s

/-- The follower when the wall comes up (R243): with equal generations and TABLE_CRC it follows again, else it resyncs. -/
def State.wallUpFollower (s : State) (h : Heartbeat) : State :=
  if s.twn.resyncPending then s.startResync
  else if h.role ≠ 1 then s
  else if h.genCommitted = (s.rd Reg.XPT_GEN_COMMITTED).toNat ∧ h.genOnAir = (s.rd Reg.XPT_GEN_ONAIR).toNat ∧
      h.tableCrc = s.tableCrc then s
  else s.startResync

/-- Is the device ALONGSIDE since its entry to SERVICE, not by handover (R207)? -/
def State.lateJoiner (s : State) : Bool :=
  s.ctl.mode == .service && s.ctl.role == .alongside && !s.twn.join.active &&
    (match s.twn.key.gaveUp with
      | some (r, _) => r != 3
      | none => true)

/-- The closing step of TRAIN after a HEARTBEAT (R207): a peer that holds the key decides it. -/
def State.closingHeard (s : State) : State :=
  if s.twn.key.closing && s.twn.key.claimAt.isNone && s.twn.wall.up && s.peerHolds then s.closeTrain else s

/-- A HEARTBEAT arrives (R205, R220, R221): a foreign PAIR_ID is counted and discarded; another keeps the wall up or brings it up. -/
def State.hearHeartbeat (s : State) (hb : Heartbeat) : State :=
  if s.wallRuns = false then s
  else if hb.pairId ≠ s.pairId then s.bump Reg.TWN_CNT_BLOCK_CRC
  else
    let was := s.twn.wall.up
    let k := s.twn.key
    let idle := !hb.keyOut && !hb.claiming
    let k1 : KeyState := { k with
      peerIdle := if idle then some s.now else none
      peerGaveUp := if idle then k.peerGaveUp else none
      lowLong := false }
    let w : WallState := { s.twn.wall with up := true, upAt := (if was then s.twn.wall.upAt else s.now), lastHb := s.now, peer := some hb }
    let s1 := ((s.setKey k1).setWall w).wrFld Reg.TWN_SCORE 25 16 hb.score
    let s2 := if was then s1 else s1.twnEvent 4
    let s3 := if hb.mode ≠ 3 then s2.cancelHandover else s2
    let s4 := if !was && s3.ctl.mode == .service && s3.ctl.role == .follower then s3.wallUpFollower hb else s3
    let s5 := if s4.lateJoiner && s4.joinCond then s4.requestState false 1 else s4
    s5.closingHeard

/-- HEARTBEAT (R221). -/
def execHeartbeat (t : Nat) (hb : Heartbeat) (s0 : State) : Host.Outcome State Fault Refusal := .next ((s0.at t).hearHeartbeat hb)

/-- What the wall carried is discarded and the peer's state is no longer known (R220, R247). -/
def State.clearWall (s : State) : State :=
  let w := s.twn.wall
  (s.setTwn { s.twn with
    wall := { w with up := false, peer := none, unacked := [], queue := [], discarding := false, rxOpen := none, rxStray := false, rxParts := [] }
    key := { s.twn.key with peerIdle := none }
    arb := { s.twn.arb with running := none, own := none, peer := none }
    following := false, ownDigests := [], peerDigests := [], lowSince := none })

/-- The peer's health words and score read 0 (R245, R247). -/
def State.clearPeer (s : State) : State :=
  ((List.range 32).foldl (fun (a : State) u => a.wr (Reg.TWN_PEER_HEALTH u) 0) s).wrFld Reg.TWN_SCORE 25 16 0

/-- A resync is abandoned with the wall, and stays pending (R243); a closing claim that KEY_IN holds off ends (R207). -/
def State.transferLost (s : State) : State :=
  let s1 := s.setTwn { s.twn with join := { s.twn.join with active := false }, orders := [] }
  if s1.twn.key.closing && s1.twn.key.claimAt.isNone && s1.pins.keyIn then s1.closeTrain else s1

/-- The wall is declared down (R220, R242, R243). -/
def State.wallDown (s : State) : State :=
  let s1 : State := ((s.clearWall.clearPeer.bump Reg.TWN_CNT_WALL_DOWN).twnEvent 3).cancelHandover
  if s1.ctl.mode = .join then s1.abandonJoin else s1.transferLost

/-- Does JOIN complete in this instant (R58)? -/
def State.joinCompletes (s : State) : Bool :=
  s.joinReady && s.sameInstant fun c => match c with
    | .joinComplete t => decide (t ≤ s.now)
    | _ => false

/-- WALL_DOWN (R220): no valid HEARTBEAT for 300 µs; an arrival in the same cycle wins (R213), and JOIN that completes in it completes first (R58). -/
def execWallDown (t : Nat) (s0 : State) : Host.Outcome State Fault Refusal :=
  let s := s0.at t
  if s.twn.wall.up && decide (s.twn.wall.lastHb + 300000 ≤ s.now) && !s.heartbeatArrives then
    .next (if s.joinCompletes then s.completeJoin else s).wallDown
  else .next s

/-- Is BSEQ x at or before y, modulo 2²⁴? -/
def seqBefore (x y : Nat) : Bool := decide ((y + 16777216 - x % 16777216) % 16777216 < 8388608)

/-- The peer's ACK: blocks up to it are acknowledged, the mailbox buffers they carried are free again (R439), and what waited goes out. -/
def State.ackWall (s : State) (ack : Nat) : State :=
  let freed := (s.twn.wall.unacked.filter fun e => seqBefore e.bseq ack).filterMap fun e => e.buffer
  let s1 := (s.setPw { s.pwmbx with held := s.pwmbx.held.filter fun b => !freed.contains b }).setWall
    { s.twn.wall with unacked := s.twn.wall.unacked.filter fun e => !seqBefore e.bseq ack }
  s1.drainWall s1.twn.wall.queue.length

/-- A wall block is discarded (R217): counted; the first asks for the expected BSEQ, and later ones are discarded until it arrives. -/
def State.discardBlock (s : State) : State :=
  let s1 := s.bump Reg.TWN_CNT_BLOCK_CRC
  if s1.twn.wall.discarding then s1
  else ((s1.setWall { s1.twn.wall with discarding := true }).deal [resendBlock s1.twn.wall.rxNext]).emit (.wall (.resend s1.twn.wall.rxNext))

/-- Resend from the oldest of the given blocks on; their age starts anew (R217). -/
def State.resendFrom (s : State) (p : SentBlock → Bool) : State :=
  let w := s.twn.wall
  let again := w.unacked.filter p
  let s1 := (s.setWall { w with unacked := w.unacked.map fun e => if p e then { e with at_ := s.now } else e }).bumpBy Reg.TWN_CNT_RESEND again.length
  again.foldl (fun a e => (a.deal (wallBlocks e.bseq a.wallAck e.bytes)).emit (.wall (.block e.bseq))) s1

/-- RESEND (R217): the peer names the BSEQ it expects. -/
def execResend (t bseq : Nat) (s0 : State) : Host.Outcome State Fault Refusal :=
  let s := s0.at t
  .next (s.resendFrom fun e => seqBefore bseq e.bseq)

/-- WALL_RESEND_TIMEOUT (R217): the oldest unacknowledged block is 20 µs old. -/
def execWallResendTimeout (t : Nat) (s0 : State) : Host.Outcome State Fault Refusal :=
  let s := s0.at t
  match s.twn.wall.unacked with
  | e :: _ => if e.at_ + 20000 ≤ s.now then .next (s.resendFrom fun _ => true) else .next s
  | [] => .next s

/-- WALL_REBOND (R214): PW lane `lane` gains or loses block lock; the blocks in flight are resent over the lanes that are left. -/
def execWallRebond (t lane : Nat) (lock : Bool) (s0 : State) : Host.Outcome State Fault Refusal :=
  let s := s0.at t
  if 8 ≤ lane ∨ s.twn.wall.locked.testBit lane = lock then .next s
  else
    let w := s.twn.wall
    let s1 := s.rebond (if lock then w.locked + 2 ^ lane else w.locked - 2 ^ lane)
    .next (if s1.twn.wall.locked = 0 then s1 else s1.resendFrom fun _ => true)

/-! Digests and arbitration (R235, R236). -/

/-- The self-test of an arbitration starts (R236): not within 1 s of the last, nor of the wall's coming up. -/
def State.startArb (s : State) (event : Nat) (announce : Bool) : State :=
  let a := s.twn.arb
  let held := a.running.isSome || (match a.last with
    | some u => decide (s.now < u + 1000000000)
    | none => false) || decide (s.now < s.twn.wall.upAt + 1000000000)
  if held || !s.twn.wall.up then s
  else
    let s1 := (s.setArb { a with
      running := some s.now, last := some s.now, own := none, peer := none, peerInputs := none, event := event % 4294967296 }).bump
        Reg.TWN_CNT_ARBITRATION
    if announce then s1.sendWall (.arbitrate 1 0 (event % 4294967296) 0 []) else s1

/-- A divergence (R235, R243): in the first second after the wall came up a follower resyncs and nothing is arbitrated. -/
def State.diverged (s : State) (tg frame : Nat) (r : DigestRec) : State :=
  let s1 := s.setTwn { s.twn with divergentAt := some s.now }
  let s2 : State := (s1.bump Reg.TWN_CNT_DIVERGENT).wr Reg.TWN_LAST_DIV
    (BitVec.ofNat 32 (tg % 16 * 268435456 + r.kind % 4 * 67108864 + r.id % 65536))
  let s3 : State := (s2.wr64 Reg.TWN_LAST_DIV_FRAME_LO Reg.TWN_LAST_DIV_FRAME_HI frame).raise 0x012 0x41 (r.kind % 4 * 1073741824 + r.id % 65536) 2
  let s4 : State := s3.twnEvent 5
  if decide (s4.now < s4.twn.wall.upAt + 1000000000) then
    if s4.ctl.role = .follower ∧ s4.twn.resyncPending = false ∧ s4.ctl.mode = .service then s4.startResync else s4
  else s4.startArb frame true

/-- One record of each side, with the same kind and ID, is compared (R235). -/
def State.compareRec (tg frame : Nat) (s : State) (p : DigestRec × DigestRec) : State :=
  if p.1.dark || p.2.dark || p.1.crc == p.2.crc then s
  else if p.1.localCause || p.2.localCause then
    (s.bump Reg.TWN_CNT_EXPLAINED).raise 0x012 0x42 (p.1.kind % 4 * 1073741824 + p.1.id % 65536) 1
  else s.diverged tg frame p.1

/-- Two sets of one group and frame are compared by kind and ID. -/
def State.compareSets (s : State) (a b : DigestSet) : State :=
  let pairs := a.recs.filterMap fun r => (b.recs.find? fun q => q.kind == r.kind && q.id == r.id).map fun q => (r, q)
  pairs.foldl (State.compareRec a.tg a.frame) s

/-- Is a set that of a group and frame? -/
def isSet (tg frame : Nat) (d : DigestSet) : Bool := d.tg == tg && d.frame == frame

/-- Does the device send and compare digests: KEYHOLDER and FOLLOWER in SERVICE with the wall up (R235, R240)? -/
def State.digests (s : State) : Bool :=
  s.ctl.mode == .service && (s.ctl.role == .keyholder || s.ctl.role == .follower) && s.twn.wall.up

/-- The peer's digests of a group and frame arrive (R235). -/
def State.hearDigest (s : State) (tg frame : Nat) (recs : List DigestRec) : State :=
  if s.digests = false then s
  else
    let set : DigestSet := ⟨tg, frame, recs, s.now⟩
    match s.twn.ownDigests.find? (isSet tg frame) with
    | some d =>
      (s.setTwn { s.twn with ownDigests := s.twn.ownDigests.filter fun x => !isSet tg frame x }).compareSets d set
    | none => s.setTwn { s.twn with peerDigests := s.twn.peerDigests ++ [set] }

/-- DIGEST (R235). -/
def execDigest (t tg frame : Nat) (recs : List DigestRec) (s0 : State) : Host.Outcome State Fault Refusal := .next ((s0.at t).hearDigest tg frame recs)

/-- DIGEST_MISSING (R235): 5 ms after the device's own no peer digest has come. -/
def execDigestMissing (t tg frame : Nat) (s0 : State) : Host.Outcome State Fault Refusal :=
  let s := s0.at t
  match s.twn.ownDigests.find? (isSet tg frame) with
  | some d =>
    if d.time + 5000000 ≤ s.now then
      .next ((s.setTwn { s.twn with ownDigests := s.twn.ownDigests.filter fun x => !isSet tg frame x }).bump Reg.TWN_CNT_DIGEST_MISSING)
    else .next s
  | none => .next s

/-- INPUTS compared (R236): pairs of one input that arrived less than 150 µs apart; a differing pair blames its input. -/
def State.blameInputs (s : State) (own peer : List InputRec) : State :=
  let bad := own.filterMap fun r =>
    if peer.any fun q => q.input == r.input && decide (((q.arrival : Int) - (r.arrival : Int)).natAbs < 150000) && q.crc != r.crc
    then some r.input else none
  bad.eraseDups.foldl (fun a i => a.raise 0x012 0x43 i 2) s

/-- The arbitration ends once both devices' INPUTS are held. -/
def State.endInputs (s : State) : State :=
  match s.twn.arb.own, s.twn.arb.peer, s.twn.arb.peerInputs with
  | some 0, some 0, some q => (s.setArb { s.twn.arb with running := none }).blameInputs s.twn.arb.ownInputs q
  | _, _, _ => s

/-- The outcome, with both results held (R236): a keyholder that failed against a peer that passed gives up with reason 2; with two passes both
exchange INPUTS. -/
def State.arbOutcome (s : State) : State :=
  match s.twn.arb.own, s.twn.arb.peer with
  | some o, some p =>
    let s1 := s.twnEvent 6
    if o = 0 ∧ p = 0 then (s1.sendWall (.arbitrate 3 0 s1.twn.arb.event 0 s1.twn.arb.ownInputs)).endInputs
    else
      let s2 := s1.setArb { s1.twn.arb with running := none }
      if s2.ctl.role = .keyholder ∧ o ≠ 0 ∧ p = 0 then (s2.cancelHandover.giveUp 2).setRole .follower else s2
  | _, _ => s

/-- TWN_CTRL.CMD = ARBITRATE (R236, R247). The command names no frame: EVENT is a free value. -/
def State.cmdArbitrate (s : State) : State :=
  if s.digests then s.freeNext.startArb s.freeVal true else s

/-- ARBITRATE (R236). -/
def execArbitrate (t confirm : Nat) (s0 : State) : Host.Outcome State Fault Refusal :=
  let s := s0.at t
  if confirm = Config.confirm then .next s.cmdArbitrate else .next s

/-- ARBITRATE_MSG (R236): START, RESULT or INPUTS. -/
def execArbitrateMsg (t phase result event units : Nat) (inputs : List InputRec) (s0 : State) : Host.Outcome State Fault Refusal :=
  let s := s0.at t
  if s.digests = false then .next s
  else if phase = 1 then .next (s.startArb event false)
  else if phase = 2 ∧ s.twn.arb.running.isSome = true ∧ s.twn.arb.peer.isNone = true then
    .next (s.setArb { s.twn.arb with peer := some (if result = 0 ∧ units = 0 then 0 else 1) }).arbOutcome
  else if phase = 3 ∧ s.twn.arb.running.isSome = true then
    .next (s.setArb { s.twn.arb with peerInputs := some inputs }).endInputs
  else .next s

/-- SELFTEST_DONE (R236): the test ends with the failing units; `inputs` are the CRCs of the last 16 frames of the inputs that feed the
output. -/
def execSelftestDone (t units : Nat) (inputs : List InputRec) (s0 : State) : Host.Outcome State Fault Refusal :=
  let s := s0.at t
  if s.twn.arb.running.isNone ∨ s.twn.arb.own.isSome then .next s
  else
    let u := units % 4294967296
    let r := if u = 0 then 0 else 1
    let s1 := s.setArb { s.twn.arb with own := some r, ownInputs := inputs, capped := s.twn.arb.capped || r == 1 }
    let s2 := if r = 1 then (s1.setTwn { s1.twn with failed := s1.twn.failed ||| u }).raise 0x080 0x44 u 3 else s1
    .next (s2.sendWall (.arbitrate 2 r s2.twn.arb.event u [])).arbOutcome

/-! Handover (R241). -/

/-- The handover frame as written. -/
def State.hoFrame (s : State) : Nat := s.rd64 Reg.TWN_HO_FRAME_LO Reg.TWN_HO_FRAME_HI

/-- The group of the handover frame as written. -/
def State.hoGroup (s : State) : Nat := s.rdFld Reg.TWN_HO_CTRL 19 16

/-- T_H: line 1 of the handover frame. -/
def State.hoInstant (s : State) : Int := s.frameStart s.twn.ho.tg s.twn.ho.frame

/-- TWN_CTRL.CMD = HANDOVER_ARM: the keyholder sends PROPOSE; a frame of 0 is refused. -/
def State.cmdHandoverArm (s : State) : State :=
  if s.ctl.role ≠ .keyholder ∨ s.ctl.mode ≠ .service then s
  else if s.hoFrame = 0 ∨ s.twn.wall.up = false ∨ s.tgUsed s.hoGroup = false then s.setHo { s.twn.ho with status := 3, phase := 0 }
  else
    let s1 := s.setHo ⟨0, 1, false, s.hoGroup, s.hoFrame, s.now⟩
    s1.sendWall (.handover 1 s1.twn.ho.tg s1.twn.ho.frame)

/-- HANDOVER_ARM (R241). -/
def execHandoverArm (t confirm : Nat) (s0 : State) : Host.Outcome State Fault Refusal :=
  let s := s0.at t
  if confirm = Config.confirm then .next s.cmdHandoverArm else .next s

/-- A proposed or armed handover is cancelled and the peer told. -/
def State.cancelAndTell (s : State) : State :=
  if s.twn.ho.phase = 1 ∨ s.twn.ho.phase = 2 then
    let h := s.twn.ho
    let s1 := s.cancelHandover
    if s1.twn.wall.up then s1.sendWall (.handover 4 h.tg h.frame) else s1
  else s

/-- HANDOVER_CANCEL (R241). -/
def execHandoverCancel (t confirm : Nat) (s0 : State) : Host.Outcome State Fault Refusal :=
  let s := s0.at t
  if confirm = Config.confirm then .next s.cancelAndTell else .next s

/-- The ALONGSIDE device's answer to PROPOSE. -/
def State.answerPropose (s : State) (tg frame : Nat) : State :=
  if s.ctl.role ≠ .alongside then s
  else
    let ok := s.ctl.mode == .service && decide (500 ≤ s.score) && s.tgUsed tg &&
      decide ((s.deviceTime : Int) + 10000000 ≤ s.frameStart tg frame)
    if ok then (s.setHo ⟨1, 2, true, tg, frame, s.now⟩).sendWall (.handover 2 tg frame)
    else s.sendWall (.handover 3 tg frame)

/-- HANDOVER (R241): PROPOSE, ACCEPT, REFUSE or CANCEL arrives. An ACCEPT after CANCEL is ignored. -/
def execHandover (t opcode tg frame : Nat) (s0 : State) : Host.Outcome State Fault Refusal :=
  let s := s0.at t
  let h := s.twn.ho
  let mine := h.phase = 1 ∧ h.incoming = false ∧ h.tg = tg ∧ h.frame = frame
  if s.twn.wall.up = false then .next s
  else if opcode = 1 then .next (s.answerPropose tg frame)
  else if opcode = 2 then .next (if mine then s.setHo { h with phase := 2, status := 1 } else s)
  else if opcode = 3 then .next (if mine then s.cancelHandover else s)
  else if opcode = 4 then .next (if h.phase = 1 ∨ h.phase = 2 then s.cancelHandover else s)
  else .next s

/-- HANDOVER_REPLY_TIMEOUT (R241): 5 ms after PROPOSE, or 10 ms before T_H if that comes first. -/
def execHandoverReplyTimeout (t : Nat) (s0 : State) : Host.Outcome State Fault Refusal :=
  let s := s0.at t
  let h := s.twn.ho
  if h.phase = 1 ∧ (h.proposedAt + 5000000 ≤ s.now ∨ s.hoInstant - 10000000 ≤ (s.deviceTime : Int)) then .next s.cancelAndTell
  else .next s

/-- HANDOVER_INSTANT (R241): at T_H the old keyholder gives up with reason 3 and is ALONGSIDE, dark from each group's line 1; the new device's
outputs light from the same lines, and it claims by the GIVE_UP condition. A C4 record of the same instant cancels it instead (R213). Groups whose handover frame starts at T_H itself change now. -/
def execHandoverInstant (t : Nat) (s0 : State) : Host.Outcome State Fault Refusal :=
  let s := s0.at t
  let h := s.twn.ho
  if h.phase ≠ 2 ∨ s.ctl.mode ≠ .service ∨ (s.deviceTime : Int) < s.hoInstant ∨ s.severeFalls = true then .next s
  else
    let s1 := if h.incoming then s.setHo { h with phase := 3, status := 2 }
      else ((s.setHo { h with phase := 0, status := 2 }).giveUp 3).setRole .alongside
    let now := (List.range 16).filter fun g => s1.tgUsed g && (s1.grp g).acquired && decide (s.hoInstant ≤ (s1.grp g).start)
    .next (now.foldl State.lightGroup (s1.twnEvent 7))

/-! Health (R244, R245). -/

/-- HEALTH_SEND (R244): every 10 ms by each device. Records of class C2 older than 10 s no longer count. -/
def execHealthSend (t : Nat) (s0 : State) : Host.Outcome State Fault Refusal :=
  let s := s0.at t
  let s1 := s.setTwn { s.twn with
    c2Times := s.twn.c2Times.filter fun e => decide (s.now ≤ e.2 + 10000000000), lastHealth := s.now }
  if s1.wallRuns && s1.twn.wall.up then .next (s1.sendWall (.health s1.score s1.twn.arb.capped s1.healthWords)) else .next s1

/-- Since when the keyholder's score has been below 500 against a peer's at or above it (R245). -/
def State.yieldWatch (s : State) : State :=
  let low := s.ctl.role == .keyholder && decide (s.score < 500) && decide (500 ≤ s.peerScore)
  (s.setTwn { s.twn with lowSince := if low then some (s.twn.lowSince.getD s.now) else none })

/-- HEALTH (R244): the peer's score and health words. -/
def execHealth (t score : Nat) (_capped : Bool) (words : List Nat) (s0 : State) : Host.Outcome State Fault Refusal :=
  let s := s0.at t
  if s.twn.wall.up = false then .next s
  else
    let s1 := (List.range 32).foldl (fun a u => a.wr (Reg.TWN_PEER_HEALTH u) (BitVec.ofNat 32 (words.getD u 0))) s
    .next (s1.wrFld Reg.TWN_SCORE 25 16 score).yieldWatch

/-- YIELD (R245): 10 s of it, with TWN_CFG.YIELD set. -/
def execYield (t : Nat) (s0 : State) : Host.Outcome State Fault Refusal :=
  let s := s0.at t
  match s.twn.lowSince with
  | some u =>
    if s.rdBit Reg.TWN_CFG 1 && s.ctl.role == .keyholder && s.ctl.mode == .service && decide (s.score < 500) && decide (u + 10000000000 ≤ s.now) then
      .next (((s.cancelHandover.giveUp 4).setRole .follower).setTwn { ((s.cancelHandover.giveUp 4).setRole .follower).twn with lowSince := none })
    else .next s
  | none => .next s

/-! Commands and relays. -/

/-- TWN_CTRL.CMD = RESYNC: a follower darkens and receives the transfer again (R243, R247). -/
def State.cmdResync (s : State) : State :=
  if s.ctl.role = .follower ∧ s.ctl.mode = .service ∧ s.twn.wall.up = true then s.startResync else s

/-- RESYNC (R243). -/
def execResync (t confirm : Nat) (s0 : State) : Host.Outcome State Fault Refusal :=
  let s := s0.at t
  if confirm = Config.confirm then .next s.cmdResync else .next s

/-- REPLY_RELAY (R226, R50): the keyholder sends the follower's reply from the named MGT port, through its key gate. -/
def execReplyRelay (t ip udp mgt : Nat) (data : List Byte) (s0 : State) : Host.Outcome State Fault Refusal :=
  let s := s0.at t
  if s.ctl.role = .keyholder ∧ s.twn.wall.up = true ∧ s.gateOpen = true ∧ mgt < 2 then .next (s.emit (.fratin (.mgt mgt) ip udp data))
  else .next s

/-! The party-wall mailbox (R439). -/

/-- A fragment goes into the lowest free receive buffer; none where all are full. -/
def State.placeFragment (s : State) (data : List Byte) : Option State :=
  match (List.range 8).find? fun b => !s.pwmbx.full.contains b with
  | some b =>
    let base := 0x8000 + 0x1000 * b
    let page := data.take 0x1000 ++ List.replicate (0x1000 - data.length) 0
    some (s.setPw { s.pwmbx with bytes := Tab.putBytes 0 s.pwmbx.bytes base page, full := s.pwmbx.full ++ [b] })
  | none => none

/-- Fragments of the internal queue move into buffers as they become free. -/
def State.fillPw (s : State) : Nat → State
  | 0 => s
  | fuel + 1 =>
    match s.pwmbx.backlog with
    | [] => s
    | f :: rest => match (s.setPw { s.pwmbx with backlog := rest }).placeFragment f with
      | some s1 => State.fillPw s1 fuel
      | none => s

/-- A fragment of a firmware-handled type goes into the mailbox, through a queue of 32; none where the queue is full. -/
def State.mailFragment (s : State) (data : List Byte) : Option State :=
  if s.pwmbx.backlog.isEmpty then
    match s.placeFragment data with
    | some s1 => some s1
    | none => some (s.setPw { s.pwmbx with backlog := [data] })
  else if s.pwmbx.backlog.length < 32 then some (s.setPw { s.pwmbx with backlog := s.pwmbx.backlog ++ [data] })
  else none

/-- PW_MAILBOX_FRAGMENT (R439): with the queue full the wall block is discarded. -/
def execPwMailboxFragment (t : Nat) (data : List Byte) (s0 : State) : Host.Outcome State Fault Refusal :=
  let s := s0.at t
  if data.length < 8 ∨ 4096 < data.length then .next s
  else .next ((s.mailFragment data).getD s.discardBlock)

/-- The fragment that stands in transmit buffer b: LENGTH bytes, header included (R218). -/
def State.pwFragment (s : State) (b : Nat) : List Byte :=
  let base := 0x1000 * b
  let n := be (Tab.bytes 0 s.pwmbx.bytes (base + 2) 2)
  Tab.bytes 0 s.pwmbx.bytes base (clampNat 8 4096 n)

/-- A write of PWMBX_GO: each set bit of a buffer not held hands it to the engine. -/
def State.pwGo (s : State) (value : Nat) : State :=
  ((List.range 8).filter fun b => value.testBit b && !s.pwmbx.held.contains b).foldl (fun a b =>
    let f := a.pwFragment b
    (a.setPw { a.pwmbx with held := a.pwmbx.held ++ [b] }).handFrag ⟨typePriority (byteAt f 0), some (.fragment f), f, some b⟩) s

/-- PWMBX_GO (R439). -/
def execPwmbxGo (t value : Nat) (s0 : State) : Host.Outcome State Fault Refusal := .next ((s0.at t).pwGo value)

/-- A write of PWMBX_FREE: the buffers named are released, and waiting fragments take their places. -/
def State.pwFree (s : State) (value : Nat) : State :=
  let s1 := s.setPw { s.pwmbx with full := s.pwmbx.full.filter fun b => !value.testBit b }
  s1.fillPw 32

/-- PWMBX_FREE (R439). -/
def execPwmbxFree (t value : Nat) (s0 : State) : Host.Outcome State Fault Refusal := .next ((s0.at t).pwFree value)

/-- PW_FRAGMENT_ACKED (R439): the wall block that carried a handed buffer is acknowledged. -/
def execPwFragmentAcked (t buffer : Nat) (s0 : State) : Host.Outcome State Fault Refusal :=
  let s := s0.at t
  .next (s.setPw { s.pwmbx with held := s.pwmbx.held.filter (· != buffer) })

end Sys2Proof.Machine
end

