-- ==== Sys2Proof/Machine/Boot.lean ====
section
/-! DEFINITION. Boot: the directory, the image header and sections, the refusal codes, the fallback to the other slot (R30–R47). -/
namespace Sys2Proof.Machine

/-! The directory (R31–R33). -/

/-- A slot state's code (R32). -/
def SlotState.code : SlotState → Nat
  | .empty => 0
  | .writing => 1
  | .written => 2
  | .good => 3
  | .failed => 4

/-- The slot state of a code; none for a value not listed. -/
def slotStateOf (n : Nat) : Option SlotState :=
  match n with
  | 0 => some .empty
  | 1 => some .writing
  | 2 => some .written
  | 3 => some .good
  | 4 => some .failed
  | _ => none

/-- NEXT as a bit. -/
def slotCode : Slot → Nat
  | .a => 0
  | .b => 1

/-- The 64 bytes of a directory copy (R31). -/
def Directory.bytes (d : Directory) : List Byte :=
  let b := toLe 4 0x5A484249 ++ toLe 4 d.seq ++
    [BitVec.ofNat 8 (slotCode d.next), BitVec.ofNat 8 d.stateA.code, BitVec.ofNat 8 d.stateB.code, 0] ++
    toLe 4 d.lenA ++ toLe 4 d.lenB ++ List.replicate 40 0
  b ++ toLe 4 (crc32 b)

/-- A valid directory copy (R33): MAGIC, NEXT, states and CRC are correct. -/
def readDirectory (b : List Byte) : Option Directory :=
  let f (o n : Nat) : Nat := le (slice b o n)
  if f 0 4 ≠ 0x5A484249 ∨ f 0x3C 4 ≠ crc32 (slice b 0 0x3C) ∨ 1 < f 8 1 then none
  else match slotStateOf (f 9 1), slotStateOf (f 10 1) with
    | some a, some c => some ⟨f 4 4, if f 8 1 = 0 then .a else .b, a, c, f 12 4, f 16 4⟩
    | _, _ => none

/-- The directory in use and its copy: the valid copy with the higher SEQ, copy 0 on equal ones (R33). -/
def chooseDirectory (c0 c1 : Option Directory) : Option (Directory × Nat) :=
  match c0, c1 with
  | some a, some b => if a.seq < b.seq then some (b, 1) else some (a, 0)
  | some a, none => some (a, 0)
  | none, some b => some (b, 1)
  | none, none => none

/-- The defaults with no valid copy (R33): NEXT slot A, both states WRITTEN. -/
def Directory.default : Directory := ⟨0, .a, .written, .written, 0, 0⟩

/-! Refusal and fallback (R44–R46). -/

/-- Registers written by software or the image return to their reset values, and settings loaded at boot are forgotten: what the refused
image set does not reach the next one (R45, log 40). -/
def State.unload (s : State) : State :=
  let back (e : Nat × Word) : Option (Nat × Word) :=
    match RegMap.rowOf e.1 with
    | some r =>
      let m := BitVec.ofNat 32 (r.rw ||| r.rwl)
      let w := (e.2 &&& ~~~ m) ||| (BitVec.ofNat 32 r.reset &&& m)
      if w = BitVec.ofNat 32 r.reset then none else some (e.1, w)
    | none => none
  let kept := s.regs.filterMap fun e => if decide (0x0C0000 ≤ e.1) && decide (e.1 < 0x0E0000) then none else back e
  let s1 := (((((((((((s.setRegs kept).setCfg ImageCfg.none).setTables []).setTmg []).setSdis []).setStreams []).setCmps []).setXpt { XptState.reset with ownSeq := s.xpt.ownSeq, senders := s.xpt.senders }).setSyn { s.syn with bands := [], shelterAt := [], badAt := [], retracking := [], held := [], mdllAt := [] }).setCtl { s.ctl with paired := false, selfPlaced := false, immediate := false }).setProt (0, 0)).setBoot { s.boot with booted := none, fieldsUsed := 0, locks := [] }
  let zero := [Reg.TOP_USAGE, Reg.BOOT_IMG_VER, Reg.BOOT_FW_VER, Reg.BOOT_COMPAT_ID, Reg.BOOT_SYSTEM_ID] ++
    (List.range 8).map Reg.BOOT_CFG_HASH
  let s2 := zero.foldl (fun a o => a.wr o 0) s1
  (List.range 31).foldl (fun a k => a.wr (Reg.SYN_LOOP_STATUS (k + 2)) (RegMap.resetOf (Reg.SYN_LOOP_STATUS (k + 2))))
    (s2.wrFld Reg.BOOT_STATUS 1 0 2)

/-- ROM fallback (R46): both slots are refused; the device enters SAFE with cause 1. -/
def State.romFallback (s : State) : State :=
  let s1 := (s.wrBit Reg.BOOT_STATUS 10 true).setBoot { s.boot with romFallback := true, stage := .idle }
  (s1.unload).enterSafe 1 0 0

/-- The slot being tried is refused with a code (R44, R45): the code is recorded, the slot becomes FAILED unless the code is 0x02, and what has
been sown is reaped before the other slot is tried; with both refused the ROM fallback firmware runs. -/
def State.slotRefused (s : State) (code : Nat) : State :=
  let x := s.boot.slot
  let s1 := match x with
    | .a => s.wrFld Reg.BOOT_STATUS 23 16 code
    | .b => s.wrFld Reg.BOOT_STATUS 31 24 code
  let s2 := s1.setBoot { s1.boot with
    stage := .fallback, booted := none
    firstRefusal := if s1.boot.otherTried then s1.boot.firstRefusal else code
    dirDue := if code = 2 then s1.boot.dirDue else withSlotState s1.boot.dirDue x .failed }
  let s3 := if code = 2 then s2 else s2.queueDir
  if s3.boot.otherTried then s3.romFallback
  else s3.startReaping .fallback

/-- A slot is tried: one that is EMPTY, WRITING or FAILED is refused with 0x02 before it is read (R44). -/
def State.trySlot (s : State) (x : Slot) : State :=
  let s1 := s.setBoot { s.boot with slot := x, recOff := 0 }
  match slotState s1.boot.dirDue x with
  | .written => s1.setBoot { s1.boot with stage := .header }
  | .good => s1.setBoot { s1.boot with stage := .header }
  | _ => s1.slotRefused 0x02

/-- DIRECTORY_READ_DONE (R33). -/
def execDirectoryReadDone (t : Nat) (s0 : State) : Host.Outcome State Fault Refusal :=
  let s := s0.at t
  if s.boot.stage ≠ .directory ∨ s.power.inReset then .next s
  else match chooseDirectory (readDirectory (s.flashBytes 0 64)) (readDirectory (s.flashBytes 0x20000 64)) with
    | some (d, k) =>
      .next (((s.wrBit Reg.BOOT_STATUS 8 (k == 1)).setBoot { s.boot with dir := d, dirDue := d, dirCopy := k }).trySlot d.next)
    | none =>
      .next (((s.wrBit Reg.BOOT_STATUS 11 true).setBoot
        { s.boot with dir := Directory.default, dirDue := Directory.default, dirCopy := 1, defaulted := true }).trySlot .a)

/-- Is a slot being read? -/
def State.reading (s : State) : Bool :=
  match s.boot.stage with
  | .header => true
  | .fwHeader => true
  | .fwSection => true
  | .records => true
  | .signature => true
  | _ => false

/-- FLASH_READ_ERROR (R44). -/
def execFlashReadError (t : Nat) (s0 : State) : Host.Outcome State Fault Refusal :=
  let s := s0.at t
  if s.reading then .next (s.slotRefused 0x01) else .next s

/-- FALLBACK_SLOT_TRY (R45): once what was sown has been reaped. -/
def execFallbackSlotTry (t : Nat) (s0 : State) : Host.Outcome State Fault Refusal :=
  let s := s0.at t
  if s.boot.stage = .fallback ∧ s.ctl.mode = .boot ∧ s.power.reaping.isNone = true ∧ s.boot.otherTried = false then
    .next ((s.setBoot { s.boot with otherTried := true }).trySlot (otherSlot s.boot.slot))
  else .next s

/-- The booted slot is accepted after the other was refused (R45): FELL_BACK, NEXT moves, a C3 record BOOT_FELL_BACK. The move goes
with the next directory write of R34: by itself it is none of its events. -/
def State.fellBack (s : State) : State :=
  if s.boot.otherTried then
    ((s.wrBit Reg.BOOT_STATUS 9 true).setBoot { s.boot with dirDue := { s.boot.dirDue with next := s.boot.slot } }).raise
      0x002 0x10 s.boot.firstRefusal 3
  else s

/-! The image header (R35, R42). -/

/-- The bit of a variant in VARIANT_MASK (R35). -/
def Variant.maskBit (v : Variant) : Nat := v.code - 1

/-- Do two ranges overlap? -/
def overlap (a n b m : Nat) : Bool := decide (a < b + m) && decide (b < a + n)

/-- A section of the image is misaligned or leaves the slot or the header's end (R44: 0x0A). -/
def sectionBad (off len : Nat) : Bool :=
  off % 4096 != 0 || decide (slotLength < off + len) || decide (off < 256)

/-- The first header check that fails (R44, step 3). -/
def State.headerFault (s : State) : Option Nat :=
  let f := s.img
  let fwo := f 0x20 4
  let fwl := f 0x24 4
  let cfo := f 0x28 4
  let cfl := f 0x2C 4
  if f 0 4 ≠ 0x5A48494D ∨ f 6 2 ≠ 256 then some 0x03
  else if f 4 2 ≠ 1 then some 0x04
  else if f 0xFC 4 ≠ crc32 (s.imgBytes 0 0xFC) then some 0x05
  else if 8 ≤ f 0x0B 1 ∨ 4 ≤ f 0x12 1 ∨ 2 ≤ f 0x13 1 ∨ 16384 ≤ f 0x54 2 ∨ 16384 ≤ f 0x56 2 ∨ 16384 ≤ f 0x58 2 ∨
      allZero (s.imgBytes 0x5A 162) = false then some 0x06
  else if f 8 2 ≠ 0x5A48 then some 0x07
  else if (f 0x0B 1).testBit s.dev.variant.maskBit = false then some 0x08
  else if f 0x18 8 ≠ 0 ∧ f 0x18 8 ≠ s.dev.uid then some 0x09
  else if sectionBad fwo fwl ∨ sectionBad cfo cfl ∨ overlap fwo fwl cfo cfl ∨ cfl < 128 then some 0x0A
  else none

/-- HEADER_READ_DONE (R44). -/
def execHeaderReadDone (t : Nat) (s0 : State) : Host.Outcome State Fault Refusal :=
  let s := s0.at t
  if s.boot.stage ≠ .header then .next s
  else match s.headerFault with
    | some c => .next (s.slotRefused c)
    | none => .next (s.setBoot { s.boot with stage := .fwHeader })

/-! The firmware section (R36, R40). -/

/-- The slot offset of the firmware section. -/
def State.fwOff (s : State) : Nat := s.img 0x20 4
/-- The first check of the firmware header that fails (R44, step 4). -/
def State.fwHeaderFault (s : State) : Option Nat :=
  let f (o n : Nat) : Nat := s.img (s.fwOff + o) n
  let n := f 0x10 4
  if f 0 4 ≠ 0x5A484657 then some 0x03
  else if allZero (s.imgBytes (s.fwOff + 0x18) 40) = false then some 0x06
  else if n = 0 ∨ 1048576 < n ∨ s.img 0x24 4 ≠ 128 + n ∨ f 0x14 4 % 4 ≠ 0 ∨ n ≤ f 0x14 4 then some 0x0A
  else none

/-- FW_HEADER_READ_DONE (R44). -/
def execFwHeaderReadDone (t : Nat) (s0 : State) : Host.Outcome State Fault Refusal :=
  let s := s0.at t
  if s.boot.stage ≠ .fwHeader then .next s
  else match s.fwHeaderFault with
    | some c => .next (s.slotRefused c)
    | none => .next (s.setBoot { s.boot with stage := .fwSection })

/-- The first check of the firmware section that fails (R40, R44): its hash, its signature, its stepping mask. -/
def State.fwFault (s : State) : Option Nat :=
  let n := s.img 0x24 4
  let sect := s.imgBytes s.fwOff n
  if sha256 sect ≠ s.imgBytes 0x30 32 then some 0x10
  else if ecdsaOk Config.biestornKey (sect.drop (n - 64)) (sect.take (n - 64)) = false then some 0x11
  else if (s.img (s.fwOff + 0x0C) 4).testBit s.dev.stepping = false then some 0x12
  else none

/-- FW_SECTION_LOADED (R36, R44): the body is in TCM from offset 0. -/
def execFwSectionLoaded (t : Nat) (s0 : State) : Host.Outcome State Fault Refusal :=
  let s := s0.at t
  if s.boot.stage ≠ .fwSection then .next s
  else
    let s1 := s.tcmPut 0 (s.imgBytes (s.fwOff + 64) (s.img (s.fwOff + 0x10) 4))
    match s1.fwFault with
    | some c => .next (s1.slotRefused c)
    | none => .next (s1.setBoot { s1.boot with stage := if s1.cfgBody = 0 then .signature else .records, recOff := 0 })

/-! The configuration section (R37, R40). -/

/-- A field of the record at an offset of the body. -/
def State.recFld (s : State) (p o n : Nat) : Nat := s.img (s.cfgOff + p + o) n

/-- The space a record takes: its header and its data, padded to a multiple of 16 bytes (R37). -/
def recSpan (len : Nat) : Nat := 16 + (len + 15) / 16 * 16

/-- Is a record type listed (R38)? -/
def recTypeListed (ty : Nat) : Bool := [0x0001, 0x0002, 0x0010, 0x0011, 0x0012, 0x0013, 0x0014].contains ty

/-- Does the record at an offset break code 0x0B (R44)? -/
def State.recordBad (s : State) (p : Nat) : Bool :=
  let len := s.recFld p 8 4
  let ty := s.recFld p 0 2
  let off := s.recFld p 4 4
  decide (s.cfgBody < p + 16) || decide (s.cfgBody < p + recSpan len) || !recTypeListed ty || s.recFld p 2 2 != 0 ||
    s.recFld p 12 4 != crc32 (s.imgBytes (s.cfgOff + p + 16) len) ||
    (ty == 1 && (off % 4 != 0 || len % 4 != 0 || decide (16777216 < off + len)))

/-- Is stage S1 being sown or sown: the signature engine works (R457)? -/
def State.s1Runs (s : State) : Bool := decide (1 ≤ s.power.stage) || s.power.sowing

/-- CFG_RECORD_STREAMED (R37, R44). -/
def execCfgRecordStreamed (t : Nat) (s0 : State) : Host.Outcome State Fault Refusal :=
  let s := s0.at t
  if s.boot.stage ≠ .records ∨ s.s1Runs = false then .next s
  else if s.recordBad s.boot.recOff then .next (s.slotRefused 0x0B)
  else
    let p := s.boot.recOff + recSpan (s.recFld s.boot.recOff 8 4)
    .next (s.setBoot { s.boot with recOff := p, stage := if s.cfgBody ≤ p then .signature else .records })

/-- The first check of the customer key, the signature and the unit requirements that fails (R42, R44, steps 6 and 7). -/
def State.sectionFault (s : State) : Option Nat :=
  let body := s.imgBytes s.cfgOff s.cfgBody
  let key := s.imgBytes (s.cfgOff + s.cfgBody) 64
  let sig := s.imgBytes (s.cfgOff + s.cfgBody + 64) 64
  let v := s.dev.variant
  match s.boot.fuse with
  | none => some 0x13
  | some h =>
    if sha256 key ≠ h then some 0x14
    else if ecdsaOk key sig (s.imgBytes 0 256 ++ body) = false then some 0x15
    else if 2 ^ v.fields ≤ s.img 0x0C 2 then some 0x20
    else if 2 ^ v.groups ≤ s.img 0x0E 1 then some 0x21
    else if v.compositors < s.img 0x0F 1 then some 0x22
    else if (s.img 0x12 1).testBit 0 = true ∧ v.compositors = 0 then some 0x23
    else if (s.img 0x12 1).testBit 1 = true ∧ v.compositors = 0 then some 0x24
    else if 2 ^ v.ports ≤ s.img 0x10 2 then some 0x25
    else none

/-- CFG_SIGNATURE_CHECKED (R40, R44). -/
def execCfgSignatureChecked (t : Nat) (s0 : State) : Host.Outcome State Fault Refusal :=
  let s := s0.at t
  if s.boot.stage ≠ .signature ∨ s.s1Runs = false then .next s
  else match s.sectionFault with
    | some c => .next (s.slotRefused c)
    | none => .next (s.setBoot { s.boot with stage := .apply })

end Sys2Proof.Machine
end

