-- ==== Sys2Proof/Machine/Content.lean ====
section
/-! DEFINITION. What a destination carries: the source on air at each line, its picture rows and its ancillary packets, black lines, output
delay (R75, R77, R94–R96, R123, R127, R145, R150). -/
namespace Sys2Proof.Machine

/-! The source on air at a line. -/

/-- Does a line of a frame come before another? -/
def lineBefore (a b : Nat × Nat) : Bool := decide (a.1 < b.1) || (a.1 == b.1 && decide (a.2 < b.2))

/-- A connection as the outputs show it: in TEST only the internal generators are carried, and black in place of every other source (R57). -/
def State.shownRow (s : State) (r : VRow) : VRow :=
  if s.ctl.mode = .test then { r with srcV := max 4032 r.srcV, srcN := 4032, pass := false } else r

/-- The connection of a destination at a line of frame F: that before the group's last switch point for the lines before its switching line (R77). -/
def State.rowOnAir (s : State) (d F line : Nat) : VRow :=
  let g := s.dstGroup d
  let now := Tab.get idleRow s.xpt.vout d
  s.shownRow (match Tab.find? s.xpt.before g with
  | some (f, old) => if lineBefore (F, line) (f, s.rdFld (Reg.XPT_TG_SWLINE g) 12 0) then Tab.get idleRow old d else now
  | none => now)

/-- Raster lines of a format to one line of its numbering (R512). -/
def linesPer (raster : Nat) : Nat := rasterLines raster / formatLines raster

/-- Is a destination black at a line of frame F under R75? The line of a loss counts raster lines. -/
def State.isBlack (s : State) (d F line raster : Nat) : Bool :=
  match Tab.find? s.xpt.black d with
  | none => false
  | some (start, stop) =>
    let at_ := (F, linesPer raster * (line - 1) + 1)
    !lineBefore at_ start && (match stop with
      | some e => lineBefore (F, line) e
      | none => true)

/-! Rows. -/

/-- A row in carried order from the samples of its planes: Cb Y Cr Y, or Y Cb Cr pixel by pixel. -/
def carried (sampling w : Nat) (v : Nat → Nat → Nat) : List Nat :=
  if sampling = 0 then (List.range w).flatMap fun x => [v (1 + x % 2) (x / 2), v 0 x]
  else (List.range w).flatMap fun x => [v 0 x, v 1 x, v 2 x]

/-- A black row. -/
def blackRow (sampling w : Nat) : List Nat := carried sampling w fun plane _ => blackOf sampling false plane

/-- A row of the bars or the ramp in a destination's format (R96). -/
def patternRow (src sampling w y : Nat) : List Nat :=
  carried sampling w fun plane x =>
    Config.pattern src plane (if sampling = 0 ∧ plane ≠ 0 then 2 * x else x) y / (if sampling = 2 then 1 else 4)

/-- A row of the tile-code test pattern in a destination's format (R145). The rule gives 10-bit samples; 12-bit ones are four times as large (log 32). -/
def testRow (raster sampling y : Nat) : List Nat :=
  let w := (rasterSize raster).1
  let n := if sampling = 0 then 2 else 3
  (prbsRun (n * w) (prbsAt (n * w * carriedRow (twoFields raster) (rasterSize raster).2 y))).zipIdx.map fun u =>
    prbsClass (u.2 / n) u.1 * (if sampling = 2 then 4 else 1)

/-- A row of a picture in a destination's sampling and width: samples stored in that sampling as they are; others through the blend space (R151, R152). Beyond
the picture it is black. -/
def picRow (sampling w : Nat) (p : Pic) (y : Nat) : List Nat :=
  let inside (x : Nat) : Bool := decide (x < p.size.1) && decide (y < p.size.2)
  let stored : Bool := match p with
    | .tiles f _ _ _ _ => f == sampling
    | _ => false
  if stored then carried sampling w fun plane x =>
    if inside (if sampling = 0 ∧ plane ≠ 0 then 2 * x else x) then p.raw plane x y else blackOf sampling false plane
  else outRow sampling ((List.range w).map fun x =>
    if inside x then (List.range 3).map fun plane => p.at12 plane x y else [256, 2048, 2048])

/-- A row of a slate. -/
def State.slateRow (s : State) (src sampling w y : Nat) : List Nat :=
  match Tab.find? s.cfg.slates (src - 4036) with
  | none => blackRow sampling w
  | some k =>
    let c := k.content
    let across := (k.width + 31) / 32
    let r := State.fetchWith (fun a n => a.useContent c (c.base + n * slotBytes c.stored c.code)) s (tilesIn across 0 k.width y (y + 1))
    picRow sampling w (.tiles c.stored k.width k.height across r.2) y

/-- Does a frame whose line 1 leaves at `start` still show the read before the last one of a stream? A read starts 16 line periods before the line 1 of the frame
it is for (R117). -/
def State.showsOld (s : State) (g i : Nat) (start : Int) : Bool :=
  let period := s.framePeriod g
  decide (start + (period / 2 : Nat) < ((s.stream i).readAt : Int) + (16 * period / formatLines (s.tgFormat g) : Nat))

/-- A row of the frame that a stream reads, or of the one before it: what its slots bring at use (R138); black where it reads none. -/
def State.tileRow (s : State) (i : Nat) (old : Bool) (sampling w y : Nat) : List Nat :=
  let x := s.stream i
  match s.streamCfg i, (if old then x.readBefore.1 else x.reading) with
  | some c, some p =>
    let across := (w + 31) / 32
    let known := if old then x.tilesBefore else x.tiles
    let tiles := (List.range across).map fun k =>
      let n := y / 8 * across + k
      (Tab.find? known n).getD (s.useTile i c p (if old then none else x.prev) n).2
    let plane (j : Nat) : List Nat := tiles.flatMap fun t =>
      let n := ((tilePlanes c.stored).getD j (32, 256)).1
      ((t.getD j []).drop (y % 8 * n)).take n
    let ps := [plane 0, plane 1, plane 2]
    carried sampling w fun j k => (ps.getD j []).getD k 0
  | _, _ => blackRow sampling w

/-- Row y of a source in a destination's format, for a frame whose line 1 leaves at `start` (R96, R127, R148, R71). -/
def State.srcRow (s : State) (g : Nat) (start : Int) (raster sampling src y : Nat) : List Nat :=
  let w := (rasterSize raster).1
  if 4052 < src ∨ src = 4032 then blackRow sampling w
  else if src = 4052 then testRow raster sampling y
  else if 4036 ≤ src then s.slateRow src sampling w y
  else if 4032 ≤ src then patternRow src sampling w y
  else if 3968 ≤ src then s.cmpRow 65 (src - 3968) y
  else match Tab.find? s.cfg.srcs src with
    | none => blackRow sampling w
    | some c =>
      if c.synced then s.tileRow src (s.showsOld g src start) sampling w y
      else
        let r := Tab.get [] s.rows (lineKey src y)
        if r.isEmpty then blackRow sampling w else r

/-! Ancillary packets. -/

/-- The line that a packet names; one without a line of its own takes line 11 (log 162). -/
def ancLine (p : AncPacket) : Nat := if 0x7FD ≤ p.line then 11 else p.line

/-- The packets of a stream's frame on a line. -/
def State.storedAnc (s : State) (g i : Nat) (start : Int) (line : Nat) : List AncPacket :=
  let x := s.stream i
  (s.ancPackets i (if s.showsOld g i start then x.readBefore.1 else x.reading)).filter fun p => ancLine p == line

/-- The packets of a source on a line (R93, R95): of a received line, of a stored frame, or of a -40 flow. -/
def State.srcAnc (s : State) (g : Nat) (start : Int) (src line : Nat) : List AncPacket :=
  match Tab.find? s.cfg.srcs src with
  | none => []
  | some c =>
    if c.synced then s.storedAnc g src start line
    else match c.input with
      | .sdi _ => lineAnc c.fmt line (Tab.get noLine s.win (lineKey src line)).words
      | .rxc _ => (Tab.get [] s.med.anc src).filter fun p => ancLine p == line

/-! Destinations. -/

/-- Does an output delay stream stand before a destination (R123)? -/
def State.delayed (s : State) (d : Nat) : Bool := (s.streamCfg (4096 + d)).isSome

/-- The format of a destination: of an SDI output that of its group in the mapping and sampling of SDIn_TX_CFG (R320). -/
def State.outFormat (s : State) (c : DstCfg) : VFormat :=
  match c.txc with
  | some _ => c.fmt
  | none =>
    let w := s.rd (Reg.SDI_TX_CFG c.lane)
    ⟨s.tgFormat c.tg, s.tgRate c.tg, fld w 19 18, fld w 31 28⟩

/-- When a line of frame F leaves at a group's output timing (R249, R320). -/
def State.lineStart (s : State) (g F line : Nat) : Int :=
  s.frameStart g F + ((s.rdFld (Reg.TG_OFFSET g) 25 0 + s.framePart g (line - 1) (formatLines (s.tgFormat g)) : Nat) : Int)

/-- The line, in the numbering of its format, that carries row y of a picture. -/
def lineOfRow (raster y : Nat) : Nat :=
  if raster < 6 then rowLine raster y else 42 + y % (1080 * linesPer raster) / linesPer raster

/-- Row y of what a destination is connected to in frame F, before its output delay. -/
def State.freshRow (s : State) (d : Nat) (c : DstCfg) (F y : Nat) : List Nat :=
  let f := s.outFormat c
  let line := lineOfRow f.raster y
  if s.isBlack d F line f.raster then blackRow f.sampling (rasterSize f.raster).1
  else s.srcRow c.tg (s.lineStart c.tg F 1) f.raster f.sampling (s.rowOnAir d F line).srcV y

/-- The packets that travel with the picture of what a destination is connected to, on a line of frame F, before its output delay: those of the N source (R95);
on black lines the video source brings none. -/
def State.freshAnc (s : State) (d : Nat) (c : DstCfg) (F line : Nat) : List AncPacket :=
  let r := s.rowOnAir d F line
  if s.isBlack d F line (s.outFormat c).raster ∧ r.srcN = r.srcV then []
  else (s.srcAnc c.tg (s.lineStart c.tg F 1) r.srcN line).filter fun p => p.travels

/-- Row y of a destination's output. -/
def State.dstRow (s : State) (d : Nat) (c : DstCfg) (F y : Nat) : List Nat :=
  let f := s.outFormat c
  if s.delayed d then
    s.tileRow (4096 + d) (s.showsOld c.tg (4096 + d) (s.lineStart c.tg F 1)) f.sampling (rasterSize f.raster).1 y
  else s.freshRow d c F y

/-- The packets of a destination's output that travel with its picture, on a line. -/
def State.dstAnc (s : State) (d : Nat) (c : DstCfg) (F line : Nat) : List AncPacket :=
  if s.delayed d then s.storedAnc c.tg (4096 + d) (s.lineStart c.tg F 1) line else s.freshAnc d c F line

end Sys2Proof.Machine
end

