-- ==== Sys2Proof/Machine/Framer.lean ====
section
/-! DEFINITION. The output framer: the lines that SDI outputs send, with their ancillary space in order, line CRCs and digests, and the rows that enter
output delays (R93–R95, R123, R189, R230, R231, R319–R321). -/
namespace Sys2Proof.Machine

/-- An output that sends nothing. -/
def coldOut : OutRun := ⟨0, 0, 0, [], []⟩

/-- The line of its link that a line of a format is: mappings that give each line to one link in turn halve the count. -/
def linkLine (f : VFormat) (line : Nat) : Nat := if alternates f.map then (line + 1) / 2 else line

/-- The links that a line of an output goes to: all, or the one whose turn it is. -/
def lineLinkNos (f : VFormat) (line : Nat) : List Nat :=
  if alternates f.map then [(line - 1) % 2] else List.range (mapLinks f.map)

/-- Is a line one of those that carry something once a frame, or once a field or segment of an interlaced or segmented format? -/
def onceAt (f : VFormat) (first second line : Nat) : Bool :=
  linkLine f line == first || ((f.raster == 3 || f.raster == 4) && line == second)

/-! Words. -/

/-- The data streams of a line that the framer makes: EAV, line number, room for the CRC, blank ancillary space, SAV, and the active part (R93, R320). -/
def builtStreams (f : VFormat) (line : Nat) (row : Nat → List Nat) : List (List Nat) :=
  let j := lineRow f.raster line
  let field := secondField f.raster line
  let blank := (lineTotal f.raster f.rate - lineActive f.raster) * wordsPer f.sampling - 12
  let n := linkSubs f.map
  (List.range (lineLinks f.map * n)).flatMap fun q =>
    let yc := match j with
      | some j => rowStreams f.sampling (subRow f.map f.raster q j row)
      | none => (List.replicate (streamActive f) (blankWord false), List.replicate (streamActive f) (blankWord true))
    let one (chroma : Bool) (active : List Nat) : List Nat :=
      trs field j.isNone true ++ lineWords line ++ [0, 0] ++ List.replicate blank (blankWord chroma) ++ trs field j.isNone false ++ active
    [one false yc.1, one true yc.2]

/-- The payload ID of an output on a link (R321): generated, or with PID_OVERRIDE that of SDIn_PID_TX with the link number in bits 7:5 of byte 4. -/
def State.payloadOf (s : State) (lane : Nat) (f : VFormat) (link : Nat) : Nat :=
  if s.rdBit (Reg.SDI_TX_CFG lane) 14 then
    let w := (s.rd (Reg.SDI_PID_TX lane)).toNat
    w / 256 * 256 + link % 8 * 32 + w % 32
  else Config.payloadId f link % 4294967296

/-- The payload ID packet of link k of a line, the first in the luminance stream's horizontal space. -/
def State.pidPacket (s : State) (lane : Nat) (f : VFormat) (line k link : Nat) : AncPacket :=
  ⟨line, 2 * linkSubs f.map * k, streamActive f + 8,
    ancWords 0x41 0x01 ((toBe 4 (s.payloadOf lane f link)).map fun b => parityWord b.toNat)⟩

/-! Audio (R94, R189). -/

/-- The samples whose output stamp lies in [a, b): sample n has the stamp n / 48,000 s + 500 µs. -/
def stampedIn (a b : Int) : List Nat :=
  let first (t : Int) : Nat := (-((500000 - t) * 3 / 62500)).toNat
  (List.range (first b - first a)).map (first a + ·)

/-- The audio destination of a channel of an SDI output. -/
def State.sdiAudio (s : State) (lane ch : Nat) : Option Nat :=
  (List.find? (fun e => e.2.kind == 1 && e.2.place == lane && e.2.channel == ch) s.cfg.adst).map Prod.fst

/-- The audio packets of link k of a line that lasts from a to b: control packets once a field, and the data packets of the samples whose output stamps fall into the
line (R178, R189). -/
def State.audioPackets (s : State) (lane : Nat) (f : VFormat) (line k link : Nat) (a b : Int) : List AncPacket :=
  let base := linkChannels f.map * link
  let luma := 2 * linkSubs f.map * k
  (List.range (linkChannels f.map / 4)).flatMap fun g =>
    let dsts := (List.range 4).map fun j => s.sdiAudio lane (base + 4 * g + j)
    let active : Nat := dsts.zipIdx.foldl (fun m e => m + if e.1.isSome then 2 ^ e.2 else 0) 0
    if active = 0 then []
    else
      (if onceAt f 9 571 line then [⟨line, luma, streamActive f + 8, controlPacket g active⟩] else []) ++
        (stampedIn a b).map fun n =>
          let stamp : Int := ((n * 1000000000 / 48000 + 500000 : Nat) : Int)
          let clock := ((stamp - a).toNat * lineTotal f.raster f.rate) / max 1 (b - a).toNat
          let xs := dsts.map fun d => match d with
            | some d => (Tab.find? (Tab.get coldDst s.aud.dsts d).recent n).getD ⟨0, none⟩
            | none => ⟨0, none⟩
          ⟨line, luma + 1, streamActive f + 8, audioPacket g clock n false xs⟩

/-! Lines. -/

/-- The received line that a destination passes on: on the synchronous SDI path, while it is not black (R16). -/
def State.passedLine (s : State) (d : Nat) (f : VFormat) (F line : Nat) : Option SdiLine :=
  let src := (s.rowOnAir d F line).srcV
  if s.delayed d || s.isBlack d F line f.raster then none
  else match Tab.find? s.cfg.srcs src with
    | some c => (match c.input with
      | .sdi _ =>
        if c.synced ∨ c.fmt ≠ f then none
        else match Tab.find? s.win (lineKey src line) with
          | some ln => if ln.words.isEmpty then none else some ln
          | none => none
      | .rxc _ => none)
    | none => none

/-- A packet in a mapping with so many data streams: one recorded in a mapping with more keeps its kind of stream; a position that names a space only is that
space's first (log 162). -/
def inStreams (f : VFormat) (n : Nat) (p : AncPacket) : AncPacket :=
  { p with stream := if p.stream < n then p.stream else p.stream % 2, pos := if p.pos = 4095 then streamActive f + 8 else if p.pos = 4094 then 0 else p.pos }

/-- The packets of a line of an SDI output, in the order of R319: payload ID, audio, those that travel with the picture. -/
def State.linePackets (s : State) (d : Nat) (c : DstCfg) (f : VFormat) (F line : Nat) (passed : Option SdiLine) : List AncPacket :=
  let received := match passed with
    | some ln => lineAnc f line ln.words
    | none => []
  let links := (lineLinkNos f line).zipIdx
  let a := s.lineStart c.tg F line
  let b := s.lineStart c.tg F (line + 1)
  let own := passed.isNone || s.rdBit (Reg.SDI_TX_CFG c.lane) 14
  let pids := if own then (if onceAt f 10 572 line then links.map fun e => s.pidPacket c.lane f line e.2 e.1 else [])
    else received.filter fun p => p.isPid
  let audio := if passed.isSome ∧ (s.rowOnAir d F line).pass = true then received.filter fun p => p.isAudio
    else links.flatMap fun e => s.audioPackets c.lane f line e.2 e.1 a b
  pids ++ audio ++ (s.dstAnc d c F line).map (inStreams f (lineLinks f.map * linkSubs f.map * 2))

/-- The twin sequence packet of frame F with a digest (R231). -/
def State.twinPacket (s : State) (F digest : Nat) : List Nat :=
  ancWords 0x51 0x0A ((toBe 4 (F % 4294967296) ++ [BitVec.ofNat 8 (128 * b2n s.sideB + s.pairId / 256 % 64), BitVec.ofNat 8 s.pairId] ++
    toBe 4 digest ++ [1]).map fun (b : Byte) => parityWord b.toNat)

/-- The words of a line with its CRCs (R93), link by link, and the CRC registers over the active words that the next line's continue. -/
def closeLine (f : VFormat) (regs : List Nat) (xs : List (List Nat)) : List (List Nat) × List Nat :=
  let closed := xs.zipIdx.map fun e => putWords e.1 6 (crcWords (crc18 (regs.getD e.2 0) (e.1.take 6)))
  (closed, closed.map fun x => crc18 0 (x.drop (x.length - streamActive f)))

/-- The words of each link of a line from its data streams. -/
def linkRows (f : VFormat) (xs : List (List Nat)) : List (List Nat) :=
  let n := 2 * linkSubs f.map
  (List.range (xs.length / n)).map fun l =>
    let ys := (xs.drop (n * l)).take n
    interleave (linkSubs f.map) (ys.getD 0 []).length ys

/-- Words into a digest: 16 bits each, the low byte first (R230). -/
def digestWords (c : Nat) (ws : List Nat) : Nat := crcRun c (ws.flatMap (toLe 2))

/-- Where the twin sequence packet of the last line stands: after every other packet of the horizontal space of link 1's luminance stream. -/
def tspPosition (f : VFormat) (as_ : List Space) : Nat :=
  match as_.find? fun a => a.stream == 0 && a.first != 0 with
  | some a => a.used.foldl (fun m u => max m u.2) a.first
  | none => streamActive f + 8

/-- The words of link 1 that come before a horizontal position of its luminance stream. -/
def wordsBefore (f : VFormat) (pos : Nat) (ws : List Nat) : List Nat :=
  let n := linkSubs f.map
  ws.take (2 * n * (pos - streamActive f) + (streamOrder n).idxOf 0)

/-- Packets that an output dropped (R319). -/
def State.ancDropped (s : State) (lane n : Nat) : State :=
  if n = 0 then s else (s.bumpBy (Reg.SDI_CNT_ANC_DROP lane) n).sdiEvent lane 5

/-- A line of an SDI output leaves (R319, R320). With the last line of a frame the digest is complete, whether or not a twin sequence packet carries it. -/
def State.sendLine (s : State) (d : Nat) (c : DstCfg) (x : OutRun) (F line : Nat) : State × OutRun :=
  let f := s.outFormat c
  let passed := s.passedLine d f F line
  let base := match passed with
    | some ln => lineStreams f ln.words
    | none => builtStreams f line (s.dstRow d c F)
  let placed := placeAll ((lineSpaces f line base).map Space.cleared) (s.linePackets d c f F line passed)
  let turn := if alternates f.map then 2 * linkSubs f.map * ((line - 1) % 2) else 0
  let regs := x.lineCrc.drop turn
  let before := if line = 1 then 0xFFFFFFFF else x.crc
  let last := line == formatLines f.raster
  let pos := tspPosition f placed.1
  let plain := closeLine f regs (fillSpaces f placed.1 base)
  let upto := wordsBefore f pos ((linkRows f plain.1).getD 0 [])
  let digest := Nat.xor (digestWords before upto) 0xFFFFFFFF
  let tsp := placeAll placed.1 (if last && s.rdBit (Reg.SDI_TX_CFG c.lane) 15 then [⟨line, 0, pos, s.twinPacket F digest⟩] else [])
  let done := closeLine f regs (fillSpaces f tsp.1 base)
  let links := linkRows f done.1
  let crc := if last then digestWords before upto else links.foldl digestWords before
  let old := x.lineCrc ++ List.replicate (2 * linkSubs f.map * mapLinks f.map - x.lineCrc.length) 0
  let y : OutRun := ⟨F, line, crc, old.take turn ++ done.2 ++ old.drop (turn + done.2.length),
    if last then Tab.insert (Tab.erase (x.digests.filter fun e => decide (F < e.1 + 8)) F) F digest else x.digests⟩
  let sent := (List.range (mapLinks f.map)).map fun l => if alternates f.map then (if l = (line - 1) % 2 then links.getD 0 [] else []) else links.getD l []
  ((s.emit (.line c.lane line (s.lineStart c.tg F line).toNat sent)).ancDropped c.lane (placed.2 + tsp.2), y)

/-- The rows and packets of a line enter the destination's output delay (R123). -/
def State.delayLine (s : State) (d : Nat) (c : DstCfg) (F line : Nat) : State :=
  let i := 4096 + d
  let f := s.outFormat c
  let s1 := if line = 1 ∧ (s.stream i).opened.isNone then s.openFrame i else s
  let s2 := ((List.range (rasterSize f.raster).2).filter fun y => lineOfRow f.raster y == line).foldl (fun a y =>
    a.writeRow i f.raster y (s.freshRow d c F y)) s1
  (s.freshAnc d c F line).foldl (fun a p => a.writeAnc i p) s2

/-- Does a running test take a lane's transmit data (R301): the generator, or a loop? -/
def State.testTakesTx (s : State) (i : Nat) : Bool :=
  s.rdFld (Reg.LAN_TEST i) 31 28 == 2 && (s.rdBit (Reg.LAN_TEST i) 19 || s.rdFld (Reg.LAN_TEST i) 25 24 != 0)

/-- Does a destination's SDI output send: its group runs and is lit, its transmitter is used and in L0, no test has it, its configuration is good (R299,
R301, R320)? -/
def State.outputSends (s : State) (c : DstCfg) : Bool :=
  let r := Reg.LAN_CFG c.lane
  c.txc.isNone && s.twn.lit.testBit c.tg && s.lanePresent c.lane && s.isSdi c.lane && s.pstate c.lane == 0 && s.rdBit r 18 && !s.testTakesTx c.lane &&
    !s.rdBit (Reg.SDI_STATUS c.lane) 25 && mapCarries (s.outFormat c)

/-- The lines of a destination that are due, n at most: a line is due when its time and the eight lines of a window lie behind (R71, log 164). -/
def State.runLines (d : Nat) (c : DstCfg) : Nat → State → OutRun → State × OutRun
  | 0, s, x => (s, x)
  | n + 1, s, x =>
    let lines := formatLines (s.tgFormat c.tg)
    let at_ : Nat × Nat := if lines ≤ x.line then (x.frame + 1, 1) else (x.frame, x.line + 1)
    if (s.deviceTime : Int) < s.lineStart c.tg at_.1 (at_.2 + 8) then (s, x)
    else
      let s1 := if s.delayed d then s.delayLine d c at_.1 at_.2 else s
      let r := if s1.outputSends c then s1.sendLine d c x at_.1 at_.2 else (s1, { x with frame := at_.1, line := at_.2 })
      State.runLines d c n r.1 r.2

/-- A destination up to now: from the current frame's line 1 if it did not send, or is more than a frame behind. -/
def State.runOutput (s : State) (d : Nat) (c : DstCfg) : State :=
  let put (a : State) (x : OutRun) : State := a.setXpt { a.xpt with outs := Tab.put coldOut a.xpt.outs d x }
  if (s.tgUsed c.tg && (s.grp c.tg).acquired && (s.outputSends c || s.delayed d)) = false then put s coldOut
  else
    let x := Tab.get coldOut s.xpt.outs d
    let F := s.frameOf c.tg ((s.deviceTime : Int) - (s.rdFld (Reg.TG_OFFSET c.tg) 25 0 : Nat))
    let x1 := if x.frame + 1 < F then { x with frame := F, line := 0 } else x
    let r := State.runLines d c (formatLines (s.tgFormat c.tg)) s x1
    put r.1 r.2

/-- What the clock does while no command waits: every output sends the lines that are due (log 166). -/
def State.tick (s : State) : State := s.cfg.dsts.foldl (fun a e => a.runOutput e.1 e.2) s

end Sys2Proof.Machine
end

