-- ==== Sys2Proof/Machine/Launch.lean ====
section
/-! DEFINITION. Packetisers: what the packets of transmit contexts carry, and their launch (R189, R229, R230, R342–R348, R377). -/
namespace Sys2Proof.Machine

/-! Video (R342, R343). -/

/-- The bytes of a row of samples in pixel groups. -/
def rowBytes (sampling : Nat) (row : List Nat) : List Byte :=
  let w := if sampling = 2 then 12 else 10
  let xs := if sampling = 0 then row else turnTriples 1 0 2 row.length row
  packBits (row.length * w) (xs.flatMap (bitsOf w))

/-- Where packet i of P begins and ends in the active bytes of its frame or field, and whether that is the second field. -/
def packetSpan (f : VFormat) (P i : Nat) : Nat × Nat × Bool :=
  let gb := (pixelGroup f.sampling).1
  let two := twoFields f.raster
  let n := if two then P / 2 else P
  let total := if two then activeBytes f / 2 else activeBytes f
  let l := gb * ((total + n * gb - 1) / (n * gb))
  let k := i % max 1 n
  (k * l, min ((k + 1) * l) total, two && decide (n ≤ i))

/-- The data of packet i of a frame: the bytes of the rows that it touches. -/
def State.videoData (s : State) (d : Nat) (c : DstCfg) (F P i : Nat) : List Byte :=
  let f := c.fmt
  let (lo, hi, second) := packetSpan f P i
  let line := max 1 ((rasterSize f.raster).1 / (pixelGroup f.sampling).2 * (pixelGroup f.sampling).1)
  let first := lo / line
  let row (r : Nat) : Nat := if twoFields f.raster then 2 * r + b2n second else r
  let bytes := (List.range ((hi + line - 1) / line - first)).flatMap fun k => rowBytes f.sampling (s.dstRow d c F (row (first + k)))
  (bytes.drop (lo - first * line)).take (hi - lo)

/-! Ancillary data (R344). -/

/-- Packets into n datagrams, one after the other, each with room for so many bytes and 255 packets: the datagrams' contents, and how many packets fit in none. -/
def packAnc (room n : Nat) (ps : List AncPacket) : List (List AncPacket) × Nat :=
  let size (p : AncPacket) : Nat := (ancBits p).length / 8
  let r := ps.foldl (fun (r : List (List AncPacket) × List AncPacket × Nat × Nat) p =>
    let (full, open_, used, lost) := r
    if room < size p then (full, open_, used, lost + 1)
    else if used + size p ≤ room ∧ open_.length < 255 then (full, open_ ++ [p], used + size p, lost)
    else if full.length + 1 < n then (full ++ [open_], [p], size p, lost)
    else (full, open_, used, lost + 1)) ([], [], 0, 0)
  (r.1 ++ [r.2.1], r.2.2.2)

/-- The packets of a destination's frame, or of one of its fields, in line order. -/
def State.frameAnc (s : State) (d : Nat) (c : DstCfg) (F : Nat) (field : Option Bool) : List AncPacket :=
  ((List.range (formatLines c.fmt.raster)).filter fun n => field.isNone || field == some (secondField c.fmt.raster (n + 1))).flatMap fun n =>
    s.dstAnc d c F (n + 1)

/-- Bytes that ancillary packets may take in a datagram of a context: the longest frame of its ports without 58 bytes of headers and the 8 of the payload's own. -/
def State.ancRoom (s : State) (n : Nat) : Nat :=
  let w := s.rd (Reg.TXC_PATHS n)
  let len (p : Nat) : Nat := s.rdFld (Reg.MAC_CFG p) 29 16
  (if bit w 31 then min (len (fld w 9 0)) (len (fld w 25 16)) else len (fld w 9 0)) - 66

/-- The RFC 8331 payload of packet i of P, and how many ancillary packets found no room in its frame or field. -/
def State.ancData (s : State) (n d : Nat) (c : DstCfg) (F P i seq : Nat) : List Byte × Nat :=
  let two := twoFields c.fmt.raster
  let per := if two then max 1 (P / 2) else P
  let second := decide (per ≤ i)
  let r := packAnc (s.ancRoom n) per (s.frameAnc d c F (if two then some second else none))
  let ps := r.1.getD (i % per) []
  let body := ps.flatMap fun p => packBits (ancBits p).length (ancBits p)
  let field : Nat := if two then (if second then 192 else 128) else 0
  (toBe 2 (seq / 65536) ++ toBe 2 body.length ++ [BitVec.ofNat 8 ps.length, BitVec.ofNat 8 field, 0, 0] ++ body, r.2)

/-! Audio (R344). -/

/-- The audio destination of a flow's channel: at 96 kHz the two halves of a pair of destination channels alternate. -/
def State.flowDst (s : State) (n ch rate : Nat) : Option Nat :=
  (List.find? (fun e => (e.2.kind == 2 || e.2.kind == 3) && e.2.place == n && e.2.channel == ch && e.2.rate == rate) s.cfg.adst).map Prod.fst

/-- The payload of an audio packet whose first flow sample is m. -/
def State.audioData (s : State) (n m S : Nat) : List Byte :=
  let src := s.rd (Reg.TXC_SOURCE n)
  let chans := fld src 21 16 + 1
  let twice := bit src 9
  let aes := s.rdFld (Reg.TXC_CFG n) 30 28 == 2
  (List.range S).flatMap fun j => (List.range chans).flatMap fun ch =>
    let at_ := m + j
    let x := match s.flowDst n ch (if twice then 1 + at_ % 2 else 0) with
      | some d => (Tab.find? (Tab.get coldDst s.aud.dsts d).recent (if twice then at_ / 2 else at_)).getD ⟨0, none⟩
      | none => ⟨0, none⟩
    if aes then am824 ch at_ x else toBe 3 x.bits24

/-! Launch. -/

/-- A payload enters the digest of its frame (R230); `fresh` begins one. -/
def State.digestPayload (s : State) (n F : Nat) (fresh : Bool) (payload : List Byte) : State :=
  let x := s.txc n
  let c := crcRun (if fresh then 0xFFFFFFFF else (Tab.find? x.digs F).getD 0xFFFFFFFF) payload
  s.setTxc n { x with digs := Tab.insert (Tab.erase (x.digs.filter fun e => decide (F < e.1 + 8)) F) F c }

/-- Ancillary packets that fit in no packet of a context (R344). -/
def State.txcDropped (s : State) (n lost : Nat) : State :=
  if lost = 0 then s
  else ((s.setTxc n { s.txc n with drop := (s.txc n).drop + lost }).bumpBy (Reg.TXC_CNT_DROP n) lost).txcEvent n 1

/-- Where a wide sender's packets of a line begin: at the start of the line that follows the last row of packet i (R346). -/
def State.wideStart (s : State) (c : DstCfg) (F P i : Nat) : Nat :=
  let f := c.fmt
  let (_, hi, second) := packetSpan f P i
  let line := max 1 ((rasterSize f.raster).1 / (pixelGroup f.sampling).2 * (pixelGroup f.sampling).1)
  let r := (hi - 1) / line
  (s.lineStart c.tg F (lineOfRow f.raster (if twoFields f.raster then 2 * r + b2n second else r) + 1)).toNat

/-- When packet i of frame F of a -20 or -40 context is due: as scheduled, or when its data is complete (R346, R347); `after` is the end of the packet before
it on its line, for a wide sender. -/
def State.launchDue (s : State) (n F i ready after : Nat) (c : DstCfg) : Int :=
  let P := max 1 (s.rdFld (Reg.TXC_PKT n) 15 0)
  let lineAt := if s.rdFld (Reg.TXC_CFG n) 30 28 = 0 then max after (s.wideStart c F P i) else after
  max (s.txSchedule n F i lineAt c) (ready : Int)

/-- When an audio packet of S samples from sample m on is due: at the output stamp of its last sample, or when its data is complete (R189, R346). -/
def audioDue (m S fs ready : Nat) : Int := max (((m + S - 1) * 1000000000 / fs + 500000 : Nat) : Int) (ready : Int)

/-- LAUNCH (R346–R348, R377): packet i of frame `frame` of a -20 or -40 context, or the audio packet whose first sample is `frame`, not before it is due;
`ready` is the device time at which its data was complete. -/
def execLaunch (t txc frame i ready lineAt : Nat) (s0 : State) : Host.Outcome State Fault Refusal :=
  let s := s0.at t
  let cfg := s.rd (Reg.TXC_CFG txc)
  let port := s.rdFld (Reg.TXC_PATHS txc) 9 0
  let sent (due : Int) (rtp : List Byte) (a : State) : State := (a.txSend txc due rtp).wrBit (Reg.TXC_STATUS txc) 31 true
  if bit cfg 31 = false ∨ s.rdBit (Reg.TXC_STATUS txc) 30 = true ∨ 8192 ≤ txc then .next s
  else if fld cfg 30 28 = 0 ∨ fld cfg 30 28 = 3 then
    match s.txDst txc with
    | none => .next s
    | some (d, c) =>
      let due := s.launchDue txc frame i ready lineAt c
      if s.txLit c.tg port = false ∨ (s.deviceTime : Int) < due then .next s
      else
        let P := max 1 (s.rdFld (Reg.TXC_PKT txc) 15 0)
        let seq := (frame * P + i) % 4294967296
        let ts := frameStamp (s.tgRate c.tg) frame
        let last := if twoFields c.fmt.raster then (i + 1) % max 1 (P / 2) == 0 else i + 1 == P
        let r := if fld cfg 30 28 = 0 then (videoPayload c.fmt P i seq (s.videoData d c frame P i), 0) else s.ancData txc d c frame P i seq
        let s1 := (s.digestPayload txc frame (i == 0) r.1).txcDropped txc (if last then r.2 else 0)
        .next (sent due (s.rtpHead txc seq ts last ++ r.1) s1)
  else
    match s.txAudioGroup txc with
    | none => .next s
    | some g =>
      let src := s.rd (Reg.TXC_SOURCE txc)
      let fs := if bit src 9 then 96000 else 48000
      let S := (if bit src 8 then 6 else 48) * fs / 48000
      let due := audioDue frame S fs ready
      if s.txLit g port = false ∨ s.txFed txc = false ∨ (s.deviceTime : Int) < due then .next s
      else
        let ts := (frame + fs / 2000) % 4294967296
        let payload := s.audioData txc frame S
        let s1 := s.digestPayload txc (s.frameOf g ((frame * 1000000000 / fs + 500000 : Nat) : Int)) false payload
        .next (sent due (s.rtpHead txc (frame / S) ts false ++ payload) s1)

end Sys2Proof.Machine
end

