-- ==== Sys2Proof/Machine/Digest.lean ====
section
/-! DEFINITION. The digests of a frame's outputs, and what makes a record LOCAL_CAUSE (R230, R235). -/
namespace Sys2Proof.Machine

/-! What feeds an output. -/

/-- What feeds a video source, as keys of the local causes: the source, or a compositor's layers and their sources in turn. -/
def State.videoFeeds (s : State) : Nat → Nat → List Nat
  | 0, _ => []
  | fuel + 1, src =>
    if 4032 ≤ src then []
    else if src < 3968 then [src]
    else (s.visibleV (src - 3968) ++ [8, 9, 10, 11]).flatMap fun n =>
      (8192 + 16 * (src - 3968) + n) :: if n < 8 then State.videoFeeds s fuel (s.layerSrc (src - 3968) n) else []

/-- What feeds a video destination in frame F, its output delay among it. -/
def State.dstFeeds (s : State) (d F : Nat) : List Nat :=
  let rs := [s.rowOnAir d F 1, s.rowOnAir d F 8191]
  (4096 + d) :: rs.flatMap fun r => s.videoFeeds 65 r.srcV ++ s.videoFeeds 65 r.srcN

/-- The audio inputs that feed the destination channels of an output. -/
def State.audioFeeds (s : State) (p : Origin → Bool) : List Nat :=
  (s.cfg.adst.filter fun e => p e.2).filterMap fun e =>
    ((Tab.get idleARow s.xpt.aout e.1).src.bind fun c => (Tab.find? s.cfg.asrc c).bind Origin.input).map (16384 + ·)

/-- Did one of these take a local or fallback path in frame F of a group (R235)? A frame's own time begins 32 lines before its line 1, with its reads and
decisions. A not-ready audio input, an island on shelter and a delay line that an abandoned JOIN left partly filled count while they last (R58,
R200, R284). -/
def State.localIn (s : State) (g F : Nat) (keys : List Nat) (audio : Bool) : Bool :=
  let period : Int := (s.framePeriod g : Nat)
  let start := s.lineStart g F 1
  let from_ := start - 32 * period / (formatLines (s.tgFormat g) : Nat)
  let sheltered (n : Nat) : Bool := s.rdBit (Reg.SYN_LOOP_STATUS n) 30
  (s.twn.causes.any fun c => keys.contains c.1 && decide (from_ ≤ (c.2 : Int)) && decide ((c.2 : Int) < start + period)) ||
    (keys.any fun k => decide (16384 ≤ k) && (s.audIn (k - 16384)).notReady) || (keys.any fun k => Tab.get 0 s.twn.unfilled k != 0) ||
    sheltered 2 || sheltered 3 || (keys.any (fun k => decide (8192 ≤ k) && decide (k < 16384)) && sheltered 4) || (audio && sheltered 5) ||
    s.twn.lateSpans.any fun x => x.1 == g && decide (x.2.1 ≤ F) && decide (F < x.2.2)

/-! Records. -/

/-- A record of this device: DARK while its group's outputs are dark or where the frame left no digest. -/
def State.digestRec (s : State) (g F kind id : Nat) (crc : Option Nat) (feeds : List Nat) (audio : Bool) : DigestRec :=
  ⟨kind, s.localIn g F feeds audio, crc.isNone || !s.twn.lit.testBit g, id, crc.getD 0⟩

/-- The records of the SDI outputs of a group. -/
def State.sdiRecs (s : State) (g F : Nat) : List DigestRec :=
  (s.cfg.dsts.filter fun e => e.2.txc.isNone && e.2.tg == g && s.isSdi e.2.lane).map fun e =>
    let audio := s.audioFeeds fun o => o.kind == 1 && o.place == e.2.lane
    s.digestRec g F 0 e.1 (Tab.find? (Tab.get coldOut s.xpt.outs e.1).digests F) (s.dstFeeds e.1 F ++ audio) (!audio.isEmpty)

/-- The records of the transmit contexts of a group. -/
def State.txcRecs (s : State) (g F : Nat) : List DigestRec :=
  (s.txcs.filter fun n => s.txGroup n == some g).map fun n =>
    let crc := (Tab.find? (s.txc n).digs F).map fun c => Nat.xor c 0xFFFFFFFF
    let video := s.rdFld (Reg.TXC_CFG n) 30 28 = 0 ∨ s.rdFld (Reg.TXC_CFG n) 30 28 = 3
    let feeds := if video then s.dstFeeds (s.rdFld (Reg.TXC_SOURCE n) 11 0) F
      else s.audioFeeds fun o => (o.kind == 2 || o.kind == 3) && o.place == n
    s.digestRec g F 1 n crc feeds (!decide video)

/-- The records of the MASTER_HOUSE ports of a group (R198: follow ports have none). -/
def State.tdmRecs (s : State) (g F : Nat) : List DigestRec :=
  ((List.range s.dev.variant.ports).filter fun p => s.portClock p == 0 && s.portGroup p == g && (s.port p).phase != 0).map fun p =>
    let crc := (Tab.find? (s.port p).digs F).map fun c => Nat.xor c 0xFFFFFFFF
    s.digestRec g F 2 p crc (s.audioFeeds fun o => o.kind == 4 && o.place == p) true

/-- DIGEST_SEND (R235): the records of a group's outputs for a frame go to the peer and are held for its own. -/
def execDigestSend (t tg frame : Nat) (s0 : State) : Host.Outcome State Fault Refusal :=
  let s := s0.at t
  if s.digests = false ∨ s.tgUsed tg = false then .next s
  else
    let mine := s.sdiRecs tg frame ++ s.txcRecs tg frame ++ s.tdmRecs tg frame
    let set : DigestSet := ⟨tg, frame, mine, s.now⟩
    let s1 := s.sendWall (.digest tg frame mine)
    let s2 := s1.setTwn { s1.twn with lateSpans := s1.twn.lateSpans.filter fun x => !(x.1 == tg && decide (x.2.2 ≤ frame)) }
    match s2.twn.peerDigests.find? (isSet tg frame) with
    | some d =>
      .next ((s2.setTwn { s2.twn with peerDigests := s2.twn.peerDigests.filter fun x => !isSet tg frame x }).compareSets set d)
    | none => .next (s2.setTwn { s2.twn with ownDigests := s2.twn.ownDigests ++ [set] })

end Sys2Proof.Machine
end

