-- ==== Sys2Proof/Machine/Flow.lean ====
section
/-! DEFINITION. What falls due in a receive context: line deadlines, bands, audio blocks, the loss of a path (R351–R361). -/
namespace Sys2Proof.Machine

/-! Line deadlines (R353, R354). -/

/-- Has the deadline of the line that carries a row come, t_(n+1) of the frame that its timestamp names (R353, R354)? -/
def State.lineDue (s : State) (n ts row : Nat) : Bool :=
  let c := s.rd (Reg.RXC_CFG n)
  let rate := fld c 19 16
  let raster := fld c 23 20
  match s.stampFrame rate ts with
  | none => false
  | some F =>
    let lines := F * formatLines raster + lineOfRow raster row
    decide (lines * 1000000000 * rateDen rate / (rateNum rate * formatLines raster) + (s.rd (Reg.RXC_OFFSET n)).toNat ≤ s.deviceTime)

/-- LINE_DEADLINE (R354): row `row` of the frame with timestamp `ts` on the line-exchange path, not before it. -/
def execLineDeadline (t n ts row : Nat) (s0 : State) : Host.Outcome State Fault Refusal :=
  let s := (s0.at t).takePackets n
  let h := (rasterSize (s.rdFld (Reg.RXC_CFG n) 23 20)).2
  if s.rxUsed n && s.rxEssence n == 0 && s.rxLineExchange n && decide (row < h) && s.lineDue n ts row then
    let s1 := s.rxDeadline n fun c => c.ts == ts && decide (c.pos ≤ row)
    let r := s1.rxRow n ts row
    let x := r.1.rxc n
    let s2 := r.1.setRxc n { x with passed := (ts * 65536 + row) :: x.passed.filter fun e => e / 65536 == ts }
    .next ((s2.sourcesOf (.rxc n)).foldl (fun a src => match Tab.find? a.cfg.srcs src with
      | some c => if c.synced then a else a.keepRow src row r.2
      | none => a) s2)
  else .next s

/-! Bands (R357). -/

/-- The skew limit in force in µs: a LIVE_SET that takes effect in this instant counts (R351, R361). -/
def State.skewLimit (s : State) (n : Nat) : Nat :=
  let now := if s.serviceFalls then ((s.xpt.pending.filter fun x => x.left.contains 16).flatMap fun x => x.live).filter fun e =>
    e.param == 0x22 && e.index == n else []
  match now.getLast? with
  | some e => beAt e.value 0 2
  | none => s.rdFld (Reg.RXC_SKEW n) 15 0

/-- WAIT in ns (R357). -/
def State.bandWait (s : State) (n : Nat) : Nat := if s.rdBit (Reg.RXC_PATHS n) 31 then 1000 * s.skewLimit n else 500000

/-- When a packet first arrived. -/
def CopyRec.first (c : CopyRec) : Nat := match c.a, c.b with
  | some a, some b => min a b
  | some a, none => a
  | none, some b => b
  | none, none => 0

/-- The earliest of some instants. -/
def earliest : List Nat → Option Nat
  | [] => none
  | x :: xs => some (xs.foldl min x)

/-- Are all samples of a band there? -/
def State.bandComplete (s : State) (n ts band : Nat) : Bool :=
  let c := s.rd (Reg.RXC_CFG n)
  let (w, h) := rasterSize (fld c 23 20)
  let x := s.rxc n
  (List.range 8).all fun k => decide (h ≤ 8 * band + k) || (List.range (w / (pixelGroup (fld c 15 14)).2)).all fun i =>
    Tab.get [] x.groups (ts * 4294967296 + (8 * band + k) * 65536 + i) != []

/-- A place among the groups whose band has not passed: its band (timestamp × 65,536 + band). -/
def RxRun.waitsIn (x : RxRun) (key : Nat) : Option Nat :=
  let b := key / 4294967296 * 65536 + key / 65536 % 65536 / 8
  if x.passed.contains b then none else some b

/-- The frame-store contexts of a field. -/
def State.storeContexts (s : State) (f : Nat) : List Nat :=
  s.rxcs.filter fun n => s.rxUsed n && s.rxEssence n == 0 && !s.rxLineExchange n && s.rxField n == f

/-- Bytes in a field's band store. -/
def State.bandBytes (s : State) (f : Nat) : Nat :=
  (s.storeContexts f).foldl (fun k n => (s.rxc n).groups.foldl (fun k e => if ((s.rxc n).waitsIn e.1).isSome then k + e.2.length else k) k) 0

/-- Since when a band waits: the arrival of its first packet. -/
def RxRun.waitsSince (x : RxRun) (ts band : Nat) : Option Nat :=
  earliest ((x.copies.filter fun c => c.ts == ts && c.pos / 8 == band).map CopyRec.first)

/-- Is a band the oldest that waits in its field? -/
def State.oldestBand (s : State) (n ts band : Nat) : Bool :=
  match (s.rxc n).waitsSince ts band with
  | none => false
  | some a => (s.storeContexts (s.rxField n)).all fun m => (s.rxc m).copies.all fun c =>
      decide (a ≤ c.first) || (s.rxc m).passed.contains (c.ts * 65536 + c.pos / 8)

/-- Does a band pass now (R357): complete; WAIT since the first packet of a row 16 or more lines below it, or since the end of its frame; or the oldest in a
field's band store of 8 MiB that is full? -/
def State.bandDue (s : State) (n ts band : Nat) : Bool :=
  let x := s.rxc n
  let w := s.bandWait n
  let passed (o : Option Nat) : Bool := match o with
    | some u => decide (u + w ≤ s.now)
    | none => false
  s.bandComplete n ts band || passed (earliest ((x.copies.filter fun c => c.ts == ts && decide (8 * band + 23 ≤ c.pos)).map CopyRec.first)) ||
    passed (Tab.find? x.ends ts) || (decide (8388608 ≤ s.bandBytes (s.rxField n)) && s.oldestBand n ts band)

/-- BAND_PASS (R357): a band of 8 rows goes to the write engine. The first band of a frame opens its ring frame. -/
def execBandPass (t n ts band : Nat) (s0 : State) : Host.Outcome State Fault Refusal :=
  let s := (s0.at t).takePackets n
  let raster := s.rdFld (Reg.RXC_CFG n) 23 20
  let h := (rasterSize raster).2
  let x := s.rxc n
  if s.rxUsed n && s.rxEssence n == 0 && !s.rxLineExchange n && decide (8 * band < h) && !x.passed.contains (ts * 65536 + band) &&
      s.bandDue n ts band then
    let srcs := (s.sourcesOf (.rxc n)).filter fun src => (s.streamCfg src).isSome
    let fresh := !x.passed.any fun e => e / 65536 == ts
    let s1 := if fresh then srcs.foldl State.openFrame s else s
    let s2 := s1.rxDeadline n fun c => c.ts == ts && decide (c.pos < 8 * (band + 1))
    let s3 := ((List.range 8).filter fun k => decide (8 * band + k < h)).foldl (fun a k =>
      let r := a.rxRow n ts (8 * band + k)
      srcs.foldl (fun b src => b.writeRow src raster (8 * band + k) r.2) r.1) s2
    let y := s3.rxc n
    .next (s3.setRxc n { y with passed := (ts * 65536 + band) :: y.passed.filter fun e => e / 65536 == ts })
  else .next s

/-! Readiness and paths (R351, R352). -/

/-- CONTEXT_NOT_READY (R352): cause 0 no packet for 2 ms, nor in this instant (R361), 1 the links of all paths down, 2 a malformed frame, 3 timestamps that match no
frame. -/
def execContextNotReady (t n cause : Nat) (s0 : State) : Host.Outcome State Fault Refusal :=
  let s := (s0.at t).takePackets n
  let x := s.rxc n
  let holds :=
    if cause = 0 then !x.pathA.recent s.now && !x.pathB.recent s.now
    else if cause = 1 then (s.rxPorts n).all fun p => !s.portUp p
    else if cause = 2 then x.malformed && (s.rxEssence n == 0 || s.rxEssence n == 3)
    else cause == 3 && x.malformed && s.rxEssence n == 0 && s.rxLineExchange n
  if s.rxUsed n && holds then .next (s.rxNotReady n) else .next s

/-- PATH_INACTIVE (R351): path 0 A, 1 B, with no accepted packet for 2 ms. -/
def execPathInactive (t n path : Nat) (s0 : State) : Host.Outcome State Fault Refusal :=
  let s := (s0.at t).takePackets n
  let x := s.rxc n
  let y := if path = 0 then x.pathA else x.pathB
  let i := if path = 0 then 30 else 29
  if s.rdBit (Reg.RXC_STATUS n) i && decide (path ≤ 1) && !y.recent s.now then
    .next ((s.wrBit (Reg.RXC_STATUS n) i false).rxcEvent n 4)
  else .next s

/-! Audio (R188, R358). -/

/-- The packets that reach audio contexts in this instant are in time for its block (R361). -/
def State.takeFlows (s : State) : State :=
  (s.rxcs.filter fun n => s.rxEssence n == 1 || s.rxEssence n == 2).foldl State.takePackets s

/-- AUDIO_BLOCK (R183–R194): block b; `ins` are the frames that serial ports took in since the block before. -/
def execAudioBlock (t b : Nat) (ins : List PortFrames) (s0 : State) : Host.Outcome State Fault Refusal :=
  let s := (s0.at t).takeFlows
  if s.audioRuns = false then .next s
  else
    let s1 := (((s.setAud { s.aud with block := b }).wr64 Reg.AUD_BLOCK_LO Reg.AUD_BLOCK_HI b).takeFrames ins).startFifos
    let s2 := (s1.aud.ins.map Prod.fst).foldl (State.checkFifo b) s1
    let src := s2.blockSources b ins
    let s3 := (s2.setAud { s2.aud with last := src.2 }).markNonAudio src.1
    let ds := s3.cfg.adst.filter fun e => e.2.kind != 0 && !s3.followDst e.2
    let outs := ds.foldl (fun (o : Tab (List Samp)) e => Tab.insert o e.1 (s3.dstSamples src.1 b e.1)) []
    let s4 := ds.foldl (fun a e =>
      let xs := Tab.get [] outs e.1
      let a1 := a.emit (.audio e.1 (xs.map Samp.v))
      if e.2.kind = 4 then a1 else a1.keepSamples e.1 b xs) s3
    let s5 := (List.range s4.dev.variant.ports).foldl (fun a p => a.portBlock b ins outs p) (s4.passBlock b)
    let s6 := s5.setAud { s5.aud with dsts := s5.aud.dsts.filterMap fun e =>
        let y := e.2.settle (6 * b + 6)
        if y = coldDst then none else some (e.1, y) }
    .next (s6.rxcs.foldl (State.flowDeadline b) s6)

end Sys2Proof.Machine
end

