-- ==== Sys2Proof/Machine/Budget.lean ====
section
/-! DEFINITION. The budgets of R501 that the image fixes: field ingress, line-exchange SRAM, DRAM bandwidth (R71, R144, R341, R516), and the ranges of the
initial live-set values (R51, R162). -/
namespace Sys2Proof.Machine

/-! Field ingress (R341, R501). -/

/-- The SDI receive lanes that feed a source. -/
def State.feedingLanes (s : State) : List Nat :=
  (List.range s.dev.variant.lanes).filter fun i => s.isSdi i &&
    s.cfg.srcs.any fun e => decide (e.2.input = .sdi (s.rxLead i)) || e.2.pairB == some (s.rxLead i)

/-- The charge of one link of an SDI receive lane, in 1/100,100 Mb/s. -/
def State.laneCharge (s : State) (i : Nat) : Nat :=
  let f := s.sdiExpected (s.rxLead i)
  (mapCharge f.map).2 * 10 * (if rateDen f.rate = 1 then 10010 else 10000)

/-- The charge of a -20 receive context: that of an IP essence of its raster, rate and sampling (R86, R341). -/
def State.rxCharge (s : State) (n : Nat) : Nat :=
  let w := s.rd (Reg.RXC_CFG n)
  dstCharge ⟨0, some n, 0, ⟨fld w 23 20, fld w 19 16, fld w 15 14, 0⟩, false, 0⟩

/-- Is a field's ingress above 1.6 Tb/s? -/
def State.ingressFull (s : State) : Bool :=
  let lanes := s.feedingLanes
  let rx := s.rxcs.filter fun n => s.rxEssence n == 0
  (List.range 16).any fun f =>
    decide (1600000 * 100100 <
      (lanes.filter fun i => i / 64 == f).foldl (fun a i => a + s.laneCharge i)
        ((rx.filter fun n => ((s.rxPorts n).map (· / 64)).contains f).foldl (fun a n => a + s.rxCharge n) 0))

/-! Line-exchange SRAM (R71). -/

/-- Total samples of a line of a raster at a rate (R71; SMPTE ST 296 and ST 274 below 50 Hz). -/
def lineSamples (raster rate : Nat) : Nat :=
  let hd := if rate = 3 ∨ rate = 6 then 2640 else if rate = 1 ∨ rate = 2 then 2750 else 2200
  match raster with
  | 0 => 1716
  | 1 => 1728
  | 2 => if rate = 6 then 1980 else if rate = 3 then 3960 else if rate = 4 ∨ rate = 5 then 3300 else if rate = 1 ∨ rate = 2 then 4125 else 1650
  | 6 => 2 * hd
  | 7 => 2 * hd
  | _ => hd

/-- The raster that a link of a mapping carries (R71): a 1080p sub-image in mappings 5 and 6, a 2160p one in mapping 10. -/
def linkRaster (f : VFormat) : Nat := if f.map = 5 ∨ f.map = 6 then 5 else f.raster

/-- The line size of a link of a format: 2.5 bytes a sample at 4:2:2, scaled at 4:4:4, in whole 64 bytes. -/
def lineSize (f : VFormat) : Nat :=
  let tenths := if f.sampling = 1 then 15 else if f.sampling = 2 then 18 else 10
  (lineSamples (linkRaster f) f.rate * tenths + 3) / 4 + 63 - ((lineSamples (linkRaster f) f.rate * tenths + 3) / 4 + 63) % 64

/-- Links of a format: one where no mapping carries its raster. -/
def formatLinks (f : VFormat) : Nat := if f.raster ≤ 1 then 1 else (mapCharge f.map).1

/-- The format of a compositor's output (R147). -/
def State.cmpFormat (s : State) (c : Nat) : VFormat :=
  let w := s.rd (Reg.CMP_CFG c)
  ⟨fld w 19 16 + 2, fld w 3 0, fld w 27 26, 0⟩

/-- Bytes of all source windows: every source of the image, and every active compositor's output at XPT_CFG.WIN_DEFAULT. -/
def State.windowBytes (s : State) : Nat :=
  s.cfg.srcs.foldl (fun a e => a + s.windowDepth e.2 * lineSize e.2.fmt * formatLinks e.2.fmt)
    (((List.range 64).filter s.cmpActive).foldl (fun a c => a + s.rdFld Reg.XPT_CFG 3 0 * lineSize (s.cmpFormat c)) 0)

/-! DRAM bandwidth (R144, R503, R516). -/

/-- n bytes a frame at a rate code, in bytes per 1,001 s. -/
def perSecond (rate n : Nat) : Nat := n * rateNum rate * (1001 / rateDen rate)

/-- The frame rate of a ring: that of its input, or of its destination's group. -/
def State.ringRate (s : State) (i : Nat) : Nat :=
  if i < 3968 then (match Tab.find? s.cfg.srcs i with
    | some c => c.fmt.rate
    | none => 0)
  else match Tab.find? s.cfg.dsts (i - 4096) with
    | some c => s.tgRate c.tg
    | none => 0

/-- Is a source's input a pair, both copies of which are written (R232)? -/
def State.pairedSource (s : State) (i : Nat) : Bool :=
  match Tab.find? s.cfg.srcs i with
  | some c => c.pairB.isSome
  | none => false

/-- The charge of a ring: each frame and its ancillary area once written, each copy of a paired input for itself, and once read. Graphic content and
caches carry no charge. -/
def State.ringCharge (s : State) (e : Nat × StreamCfg) : Nat :=
  if 8192 ≤ e.1 then 0 else perSecond (s.ringRate e.1) ((if s.pairedSource e.1 then 3 else 2) * streamFrameBytes e.2)

/-- DRAM data rate in MT/s. -/
def State.dramRate (s : State) : Nat := if s.rdFld Reg.DRC_CFG 31 30 = 0 then 3200 else if s.rdFld Reg.DRC_CFG 31 30 = 1 then 3733 else 4266

/-- The admission ceiling in bytes per 1,001 s: 0.8 × 2 B × the DRAM rate × the channels (R516). -/
def State.dramCeiling (s : State) : Nat := 1600000 * s.dramRate * s.dev.variant.channels * 1001

/-- The CONTENT and THROUGH queues at their ports' line rate (R331, R501). -/
def State.queueCharge (s : State) : Nat :=
  ((List.range s.dev.variant.lanes).filter fun p => s.ethPort p && s.hasQueue p).foldl (fun a p => a + s.portGb p * 125000000 * 1001) 0

/-- The compositors' read allowances at their frame rates (R503). -/
def State.allowCharge (s : State) : Nat :=
  ((List.range 64).filter s.cmpActive).foldl (fun a c => a + perSecond (s.rdFld (Reg.CMP_CFG c) 3 0) (Tab.get 0 s.cfg.allow c)) 0

/-- Four times the compositor reads from a channel group in the initial table. -/
def State.groupReads4 (s : State) (g : Nat) : Nat :=
  ((List.range 64).filter s.cmpActive).foldl (fun a c =>
    a + perSecond (s.rdFld (Reg.CMP_CFG c) 3 0) (((s.cmpCharges s.xpt.vcom c).filter fun e => e.1 == g).foldl (fun b e => b + e.2) 0)) 0

/-- Is the frame-store load above the admission ceiling, or under PLACEMENT=HOST that of a channel group above its share: its rings, the compositor reads
from it, and in the group of the management area the receive queues, which lie there (R331)? -/
def State.dramFull (s : State) : Bool :=
  let load (p : Nat × StreamCfg → Bool) : Nat := (s.cfg.streams.filter p).foldl (fun a e => a + s.ringCharge e) 0
  decide (s.dramCeiling < load (fun _ => true) + s.allowCharge + s.queueCharge) ||
    (!s.ctl.selfPlaced && (List.range s.dev.variant.groups).any fun g =>
      decide (4 * s.dramCeiling < s.dev.variant.groups * (4 * load (fun e => groupOf e.2.base == g) + s.groupReads4 g +
        (if groupOf s.mgmtBase = g then 4 * s.queueCharge else 0))))

/-! Initial live-set values (R65: 0x54). -/

/-- Is an initial value of a compositor outside its range (R165)? A layer whose crop and output size are 0 has no geometry yet. -/
def State.cmpInitBad (s : State) (c : Nat) : Bool :=
  let bg := s.rd (Reg.CMP_BG c)
  !isPermutation (s.zOrder c) ||
    [fld bg 29 20, fld bg 19 10, fld bg 9 0].any (fun v => decide (v < 4) || decide (1019 < v)) ||
    (List.range 8).any (fun n =>
      let wh := s.rd (Reg.CMPL_CROP_WH c n)
      let sz := s.rd (Reg.CMPL_SIZE c n)
      let tone := s.rd (Reg.CMPL_TONE c n)
      (decide (wh ≠ 0 ∨ sz ≠ 0) && !(ratioOk (fld wh 15 0) (fld sz 15 0) && ratioOk (fld wh 31 16) (fld sz 31 16))) ||
        s.rdFld (Reg.CMPL_CTRL c n) 23 22 == 3 ||
        (decide (63 < fld tone 15 8) && fld tone 15 8 != 255) || (decide (15 < fld tone 7 0) && fld tone 7 0 != 255)) ||
    (List.range 4).any fun g =>
      match s.streamCfg (8192 + 4 * c + g) with
      | some k =>
        let wh := s.rd (Reg.CMPL_CROP_WH c (8 + g))
        decide (wh ≠ 0) && !s.contentFits (32 * (s.rd (Reg.CMPL_GADDR c (8 + g))).toNat) (areaBytes k (fld wh 15 0) (fld wh 31 16))
      | none => false

/-- Does a preset of the table area name a table, matrix or curve that is not there (R162)? -/
def State.presetBad (s : State) : Bool :=
  let base := s.rd64 Reg.CMP_TABLE_BASE_LO Reg.CMP_TABLE_BASE_HI + 0x1C00
  (List.range 16).any fun k =>
    let b := s.dramBytes (base + 16 * k) 6
    decide (15 < byteAt b 0) || decide (15 < byteAt b 1) || decide (63 < byteAt b 2) || decide (63 < byteAt b 3) || decide (63 < byteAt b 4) ||
      decide (15 < byteAt b 5)

/-- Is an initial live-set value of the image outside its range (R65, R122, R201, R246, R266, R293, R305, R351, R380, R394, R400)? -/
def State.liveInitBad (s : State) : Bool :=
  let out (lo hi v : Nat) : Bool := decide (v < lo) || decide (hi < v)
  let tol (g : Nat) : Word := s.rd (Reg.TG_TOL g)
  ((List.range 64).any fun c => s.cmpActive c && s.cmpInitBad c) ||
    (s.cfg.adst.any fun e => e.2.kind != 0 && decide (2160 < s.rdFld (Reg.AUD_GAIN e.1) 11 0)) ||
    ((List.range s.dev.variant.ports).any fun p => s.rdBit (Reg.AP_CFG p) 31 &&
      (decide (2 ^ s.portSlots p ≤ s.portMask p false) || decide (2 ^ s.portSlots p ≤ s.portMask p true))) ||
    (s.cfg.streams.any fun e => decide (e.1 < 3968) && (decide (3 < e.2.mode) || decide (e.2.maxDelay < e.2.delay))) ||
    ((List.range 16).any fun g => s.tgUsed g && (out 1 100 (fld (tol g) 6 0) || out 1 10000 (fld (tol g) 29 16) ||
      decide (6 < s.rdFld (Reg.TG_CFG g) 26 24) || out 1 1000 (s.rdFld (Reg.TG_FO_WIDTH g) 9 0) ||
      decide (foPeriod (s.rd (Reg.TG_FO_CFG g)) * s.framePeriod g ≤ 1000 * s.rdFld (Reg.TG_FO_WIDTH g) 9 0))) ||
    out 100 1000000000 (s.rdFld Reg.PTP_STEP 29 0) ||
    ((List.range 1034).any fun i => s.lanePresent i && s.pers i != 0 && (let w := s.rd (Reg.LAN_TX_EQ i)
      decide (16 < fld w 15 0) || decide (15 < fld w 23 16) || decide (31 < fld w 31 24) || decide (24 < fld w 23 16 + fld w 31 24))) ||
    (s.rxcs.any fun n => out 100 10000 (s.rdFld (Reg.RXC_SKEW n) 15 0)) ||
    (s.eyeSec != 0 && out 10 3600 s.eyeSec) ||
    (s.rdFld Reg.DRC_MAINT 15 0 != 0 && out 10 10080 (s.rdFld Reg.DRC_MAINT 15 0)) || out 4 64 (s.rdFld Reg.DRC_MAINT 21 16)

end Sys2Proof.Machine
end

