-- ==== Sys2Proof/Machine/Rules.lean ====
section
/-! DEFINITION. The values that a register field takes: a reserved or out-of-range value leaves it as it is (R113, R202, R268, R285, R338, R382,
R402). -/
namespace Sys2Proof.Machine

/-- The switching line of a format, first field (R76). -/
def lineOf (fmt : Nat) : Nat := if fmt = 0 then 10 else if fmt = 1 then 6 else 7

/-- A field whose out-of-range or reserved value leaves it as it is: high bit, low bit, the values that it takes, whether the rule also
binds the image loader (the values of live-set parameters and of R76 are left to the content checks, those of R369 to R369). -/
structure FieldRule where
  hi : Nat
  lo : Nat
  ok : Nat → Bool
  loader : Bool

/-- The values from a to b. -/
def inRange (a b : Nat) (v : Nat) : Bool := decide (a ≤ v) && decide (v ≤ b)

/-- The field rules of TMG (R268). -/
def tmgRules (off : Nat) : List FieldRule :=
  if off = Reg.TMG_GLA_CFG ∨ off = Reg.TMG_GLB_CFG then [⟨23, 12, inRange 1 4095, true⟩]
  else if off < 0x040100 then []
  else match (off - 0x040100) % 0x40 with
    | 0x00 => [⟨26, 24, inRange 0 6, false⟩, ⟨19, 16, inRange 0 8, true⟩, ⟨11, 8, inRange 0 7, true⟩]
    | 0x0C => [⟨29, 16, inRange 1 10000, false⟩, ⟨6, 0, inRange 1 100, false⟩]
    | 0x34 => [⟨31, 29, inRange 1 5, true⟩, ⟨28, 26, inRange 0 4, true⟩]
    | 0x38 => [⟨9, 0, inRange 1 1000, false⟩]
    | _ => []

/-- The field rules of SYN (R285). -/
def synRules (off : Nat) : List FieldRule :=
  if off = Reg.SYN_REFCFG then [⟨5, 4, inRange 0 2, true⟩, ⟨1, 0, inRange 0 2, true⟩]
  else if off = Reg.SYN_SSC then
    [⟨19, 16, inRange 0 5, true⟩, ⟨9, 8, inRange 0 1, true⟩, ⟨7, 6, inRange 0 1, true⟩, ⟨5, 4, inRange 0 2, true⟩, ⟨3, 2, inRange 0 2, true⟩, ⟨1, 0, inRange 0 2, true⟩]
  else if 0x050100 ≤ off ∧ off < 0x050200 then [⟨1, 0, inRange 0 2, true⟩]
  else []

/-- The ranges and defaults of logSyncInterval, logAnnounceInterval and logMinDelayReqInterval by PTP_CFG.PROFILE, and the default domain
(R369, R382): a profile code above 1 acts as ST 2059-2. -/
def ptpProfile (profile : Nat) : List (Int × Int × Int) × Nat :=
  if profile = 1 then ([(-4, 1, -3), (0, 4, 1), (-3, 5, 0)], 0) else ([(-7, -1, -3), (-3, 1, -2), (-7, 0, -3)], 127)

/-- Does a byte of PTP_INTERVALS lie in its profile's range? -/
def intervalOk (r : Int × Int × Int) (v : Nat) : Bool := decide (r.1 ≤ toSigned 8 v) && decide (toSigned 8 v ≤ r.2.1)

/-- The field rules of PTP (R369, R382). -/
def ptpRules (profile off : Nat) : List FieldRule :=
  if off = Reg.PTP_INTERVALS then
    ((ptpProfile profile).1.zipIdx.map fun e => ⟨31 - 8 * e.2, 24 - 8 * e.2, intervalOk e.1, false⟩) ++ [⟨3, 0, inRange 2 10, false⟩]
  else if off = Reg.PTP_CFG then [⟨25, 16, inRange 1 1000, true⟩, ⟨7, 0, inRange 0 127, false⟩]
  else if off = Reg.PTP_PPSOUT_CFG then [⟨9, 0, inRange 1 999, true⟩]
  else if off = Reg.PTP_PPSOUT_OFFSET then
    [⟨29, 0, fun v => decide (-500000000 ≤ toSigned 30 v) && decide (toSigned 30 v ≤ 499999999), true⟩]
  else []

/-- The field rules of a register (R268, R285, R382, R113, R202, R402, R338). -/
def State.fieldRules (s : State) (off : Nat) : List FieldRule :=
  if 0x040000 ≤ off ∧ off < 0x050000 then tmgRules off
  else if 0x050000 ≤ off ∧ off < 0x060000 then synRules off
  else if 0x060000 ≤ off ∧ off < 0x070000 then ptpRules (s.rdFld Reg.PTP_CFG 31 30) off
  else if 0x080100 ≤ off ∧ off < 0x080140 then [⟨10, 0, inRange 100 2000, false⟩]
  else if 0x080140 ≤ off ∧ off < 0x080180 then [⟨12, 0, fun v => v == lineOf (s.tgFormat ((off - 0x080140) / 4)), false⟩]
  else if 0x0E1000 ≤ off ∧ off < 0x0E2000 ∧ off % 0x100 = 8 then [⟨19, 0, inRange 0 1000000, true⟩]
  else if off = Reg.DRC_MAINT then
    [⟨31, 24, inRange 1 64, true⟩, ⟨21, 16, inRange 4 64, false⟩, ⟨15, 0, fun v => v == 0 || inRange 10 10080 v, false⟩]
  else if ((0x500000 ≤ off ∧ off < 0x580000) ∨ (0x5C0000 ≤ off ∧ off < 0x5C0400)) ∧ off % 0x200 = 0x20 then [⟨15, 0, inRange 0x100 0xFFFF, true⟩]
  else []

/-- The fields that a rule keeps, taken back from the old word. -/
def keepFields (old : Word) : List FieldRule → Word → Word
  | [], new => new
  | r :: rs, new => keepFields old rs (if r.ok (fld new r.hi r.lo) then new else setFld new r.hi r.lo (fld old r.hi r.lo))

end Sys2Proof.Machine
end

