-- ==== Sys2Proof/Machine/Adjust.lean ====
section
/-! DEFINITION. What the device makes at boot of image values that it does not refuse: replaced and clamped values, contexts and ports that stay
unusable with CFG_BAD (R66, R286, R306, R309, R335, R338, R340–R343, R369). -/
namespace Sys2Proof.Machine

/-! Lanes (R286, R306). -/

/-- The FEC code a personality takes (R286): one it does not permit is replaced. -/
def fecOf (pers fec : Nat) : Nat :=
  match pers with
  | 3 => 0
  | 4 => if fec = 3 then 2 else fec
  | 5 => 3
  | _ => fec

/-- The lane pages as the personality asks (R286, R306): replaced FEC values, code 6 on the party-wall lanes. -/
def State.adjustLanes (s : State) : State :=
  let s1 := (List.range 8).foldl (fun a k => a.wrFld (Reg.LAN_CFG (1024 + k)) 31 28 6) s
  ((List.range 1034).filter fun i => s1.lanePresent i && s1.pers i != 0).foldl (fun a i =>
    let f := a.rdFld (Reg.LAN_CFG i) 23 22
    let g := fecOf (a.pers i) f
    if f = g then a else (a.wrFld (Reg.LAN_CFG i) 23 22 g).wrBit (Reg.LAN_STATUS i) 26 true) s1

/-! SDI ports (R309, R320). -/

/-- The format of the SDI output of a lane: its group's format and rate in its own mapping and sampling. -/
def State.sdiOutFormat (s : State) (l : Nat) : Option VFormat :=
  (List.find? (fun e => e.2.txc.isNone && e.2.lane == s.txLead l) s.cfg.dsts).map fun e =>
    let w := s.rd (Reg.SDI_TX_CFG l)
    ⟨s.tgFormat e.2.tg, s.tgRate e.2.tg, fld w 19 18, fld w 31 28⟩

/-- Does the configuration of a lane's SDI port name a reserved value, or a format and sampling that its mapping does not carry? Only the directions
in use count. -/
def State.sdiCfgBad (s : State) (l : Nat) : Bool :=
  (s.rdBit (Reg.LAN_CFG l) 19 && !mapCarries (s.sdiExpected l)) ||
    (s.rdBit (Reg.LAN_CFG l) 18 && (match s.sdiOutFormat l with
      | some f => !mapCarries f
      | none => decide (10 < s.rdFld (Reg.SDI_TX_CFG l) 31 28) || s.rdFld (Reg.SDI_TX_CFG l) 19 18 == 3))

/-- SDIn_STATUS.CFG_BAD of every SDI lane. -/
def State.markSdi (s : State) : State :=
  ((List.range s.dev.variant.lanes).filter s.isSdi).foldl (fun a l => a.wrBit (Reg.SDI_STATUS l) 25 (a.sdiCfgBad l)) s

/-! MAC pages (R335, R338). -/

/-- A port of a MAC page that acted on a replaced value. -/
def State.macAdjusted (s : State) (p : Nat) : State := s.wrBit (Reg.MAC_STATUS p) 25 true

/-- The replacement watermarks of a port (R335): high, low. -/
def replacedMarks (size : Nat) : Nat × Nat :=
  let hi := size - min 64 (size / 2)
  (hi, max 16 (hi / 3))

/-- An Ethernet port's page: CLASS 0b10 of a numbered page acts as MEDIA; MAX_LEN outside 1,518–9,216, SIZE outside 64–16,384 of a port with a
queue and watermarks that break their rules are replaced; a port without a queue has SIZE 0. -/
def State.adjustMac (s : State) (p : Nat) : State :=
  let cfg := Reg.MAC_CFG p
  let s1 := if p < 1024 ∧ s.rdFld cfg 31 30 = 2 then s.macAdjusted p else s
  let len := s1.rdFld cfg 29 16
  let s2 := if len < 1518 ∨ 9216 < len then (s1.wrFld cfg 29 16 1518).macAdjusted p else s1
  if s2.hasQueue p then
    let size := s2.rdFld (Reg.MAC_QUEUE p) 15 0
    let s3 := if size < 64 ∨ 16384 < size then (s2.wrFld (Reg.MAC_QUEUE p) 15 0 1024).macAdjusted p else s2
    if s3.watermarksOk p then s3
    else
      let m := replacedMarks (s3.rdFld (Reg.MAC_QUEUE p) 15 0)
      ((s3.wrFld (Reg.MAC_WM p) 31 16 m.1).wrFld (Reg.MAC_WM p) 15 0 m.2).macAdjusted p
  else s2.wrFld (Reg.MAC_QUEUE p) 15 0 0

/-- The pages of all Ethernet ports. -/
def State.adjustMacs (s : State) : State := ((List.range 1034).filter s.ethPort).foldl State.adjustMac s

/-! PTP (R369). -/

/-- Domain, message intervals and announceReceiptTimeout outside the profile's ranges take the profile's defaults; the declared ports listen (IEEE
1588-2019, 9.2). -/
def State.adjustPtp (s : State) : State :=
  let r := ptpProfile (s.rdFld Reg.PTP_CFG 31 30)
  let s1 := if 127 < s.rdFld Reg.PTP_CFG 7 0 then s.wrFld Reg.PTP_CFG 7 0 r.2 else s
  let s2 := r.1.zipIdx.foldl (fun a e =>
    let hi := 31 - 8 * e.2
    if intervalOk e.1 (a.rdFld Reg.PTP_INTERVALS hi (hi - 7)) then a
    else a.wrFld Reg.PTP_INTERVALS hi (hi - 7) (ofSigned 8 e.1.2.2)) s1
  let s3 := if inRange 2 10 (s2.rdFld Reg.PTP_INTERVALS 3 0) then s2 else s2.wrFld Reg.PTP_INTERVALS 3 0 3
  (List.range 64).foldl (fun a k => if a.ptpEnabled k then a.wrFld (Reg.PTPP_STATE k) 27 24 4 else a)
    (s3.setPtp { s3.ptp with listen := s3.now })

/-! Flow contexts (R340–R344). -/

/-- Is an IPv4 address one of 224.0.1.0–239.255.255.255, which transmit contexts may send to? -/
def sendGroup (a : Nat) : Bool := decide (0xE0000100 ≤ a) && decide (a ≤ 0xEFFFFFFF)

/-- Bytes of a packet's payload of a transmit context of audio (R344). -/
def State.txAudioBytes (s : State) (n : Nat) : Nat :=
  let w := s.rd (Reg.TXC_SOURCE n)
  (if bit w 8 then 6 else 48) * (if bit w 9 then 2 else 1) * (fld w 21 16 + 1) * (if s.rdFld (Reg.TXC_CFG n) 30 28 = 2 then 4 else 3)

/-- Bytes of the active picture that one numbering of packets covers, and its packets (R342, R343): a frame, or a field of two-field video. -/
def txCover (f : VFormat) (P : Nat) : Nat × Nat := if twoFields f.raster then (activeBytes f / 2, P / 2) else (activeBytes f, P)

/-- Active bytes L of a packet (R342). -/
def packetL (f : VFormat) (P : Nat) : Nat :=
  let c := txCover f P
  let g := (pixelGroup f.sampling).1
  if c.2 = 0 then 0 else g * ((c.1 + c.2 * g - 1) / (c.2 * g))

/-- The longest frame on the wire of a -20 transmit context (R344). -/
def longestVideo (f : VFormat) (P : Nat) : Nat :=
  let (gb, gp) := pixelGroup f.sampling
  let c := txCover f P
  let l := packetL f P
  (List.range c.2).foldl (fun m k =>
    let hi := min ((k + 1) * l) c.1
    max m (hi - k * l + 60 + 6 * (srdsOf gb gp ((rasterSize f.raster).1 / gp * gb) 0 16 (k * l) hi).length)) 0

/-- The longest frame of a transmit context whose image fixes it; the packets of a -40 context are filled to fit. -/
def State.longestTx (s : State) (n : Nat) : Nat :=
  match s.rdFld (Reg.TXC_CFG n) 30 28 with
  | 0 => (match s.txDst n with
    | some (_, c) => longestVideo c.fmt (s.rdFld (Reg.TXC_PKT n) 15 0)
    | none => 0)
  | 3 => 0
  | _ => s.txAudioBytes n + 58

/-- The longest frame of a receive context that the image fixes: that of its audio. -/
def State.longestRx (s : State) (n : Nat) : Nat :=
  if s.rxEssence n = 1 ∨ s.rxEssence n = 2 then s.packetBytes n + 58 else 0

/-- The ports of a transmit context's paths. -/
def State.txPorts (s : State) (n : Nat) : List Nat :=
  let w := s.rd (Reg.TXC_PATHS n)
  if bit w 31 then [fld w 9 0, fld w 25 16] else [fld w 9 0]

/-- Do the ports of a context have one class, and does a frame of n bytes fit each? -/
def State.pathsFit (s : State) (ports : List Nat) (n : Nat) : Bool :=
  ports.all fun p => s.portClass p == s.portClass (ports.headD 0) && decide (n ≤ s.rdFld (Reg.MAC_CFG p) 29 16)

/-- The class rule of R340 for a receive context on a port with a destination address. -/
def State.rxClassOk (s : State) (n port dst : Nat) : Bool :=
  let ess := s.rxEssence n
  if s.portClass port = 1 then
    (ess == 0 || ess == 3) && !(ess == 0 && s.rxLineExchange n) && decide (dst = (s.rd (Reg.MED_PORT_IPV4 port)).toNat)
  else s.portClass port != 2 && decide (dst / 268435456 = 14)

/-- Does a receive context fail R341 by itself? The line-exchange path takes only -20 of a PTP-locked sender. -/
def State.rxBadCfg (s : State) (n : Nat) : Bool :=
  let w := s.rd (Reg.RXC_CFG n)
  let da := (s.rd (Reg.RXC_DST_A n)).toNat
  let db := (s.rd (Reg.RXC_DST_B n)).toNat
  decide (3 < fld w 30 28) || fld w 26 25 == 3 || !s.pathsFit (s.rxPorts n) (s.longestRx n) ||
    !((s.rxPorts n).zip [da, db]).all (fun e => s.rxClassOk n e.1 e.2) ||
    (fld w 30 28 == 0 && bit w 27 && !bit w 24)

/-- Does a transmit context fail R341? -/
def State.txBadCfg (s : State) (n : Nat) : Bool :=
  let w := s.rd (Reg.TXC_CFG n)
  let da := (s.rd (Reg.TXC_DST_A n)).toNat
  let db := (s.rd (Reg.TXC_DST_B n)).toNat
  decide (3 < fld w 30 28) || fld w 26 25 == 3 || !s.pathsFit (s.txPorts n) (s.longestTx n) ||
    !((s.txPorts n).zip [da, db]).all (fun e => (s.portClass e.1 == 0 || s.portClass e.1 == 3) && sendGroup e.2)

/-- The contexts at boot: L of the -20 transmit contexts (R342), and CFG_BAD of those that fail R341; a -40 context fails with the video context it
names. -/
def State.checkContexts (s : State) : State :=
  let s1 := (s.txcs.filter fun n => s.rdFld (Reg.TXC_CFG n) 30 28 == 0).foldl (fun a n => match a.txDst n with
    | some (_, c) => a.wrFld (Reg.TXC_PKT n) 31 16 (packetL c.fmt (a.rdFld (Reg.TXC_PKT n) 15 0))
    | none => a) s
  let badTx := s1.txcs.filter s1.txBadCfg
  let badRx := s1.rxcs.filter s1.rxBadCfg
  let s2 := badTx.foldl (fun a n => a.wrBit (Reg.TXC_STATUS n) 30 true) s1
  let s3 := badRx.foldl (fun a n => a.wrBit (Reg.RXC_STATUS n) 27 true) s2
  (s3.rxcs.filter fun n => s3.rxEssence n == 3 &&
      (let v := s3.rdFld (Reg.RXC_TARGET n) 12 0
       !(s3.rxUsed v && s3.rxEssence v == 0))).foldl (fun a n => a.wrBit (Reg.RXC_STATUS n) 27 true) s3

/-! Values that Genra rejects and the device clamps (R66). -/

/-- Crossfade lengths outside 1–40 ms; crops wider than 4,096 samples of scaled layers. -/
def State.clampImage (s : State) : State :=
  let s1 := s.cfg.adst.foldl (fun a e =>
    a.wrFld (Reg.AUD_GAIN e.1) 29 24 (clampNat 1 40 (a.rdFld (Reg.AUD_GAIN e.1) 29 24))) s
  ((List.range 64).filter s1.cmpActive).foldl (fun a c => (List.range 8).foldl (fun b n => b.clampLayer c n true) a) s1

/-- All of it, once the records and the description are applied. -/
def State.adjustImage (s : State) : State :=
  ((s.adjustLanes.adjustMacs.adjustPtp).markSdi.checkContexts).clampImage

end Sys2Proof.Machine
end

