-- ==== Sys2Proof/Machine/Layout.lean ====
section
/-! DEFINITION. The capacity of the frame store and where its streams lie: the total of its allocations (R144, R501), and self placement (R26, R116). -/
namespace Sys2Proof.Machine

/-- Bytes of all frames of a stream. -/
def streamSize (c : StreamCfg) : Nat := streamPlaces c * streamFrameBytes c

/-- Is a stream graphic content, which lies where the image or DMA puts it (R115)? -/
def isContent (i : Nat) : Bool := decide (8192 ≤ i) && decide (i < 8448)

/-- The declared channel groups. -/
def State.usedGroups (s : State) : List Nat := (List.range 8).filter s.groupUsed

/-- Are the allocations together above the fitted DRAM of the declared groups: rings, delay lines, graphics and caches with their ancillary areas, the
spare pools, and the management area, which holds the thumbnails (R115, R144)? -/
def State.capacityFull (s : State) : Bool :=
  decide (s.usedGroups.length * s.groupBytes <
    s.cfg.streams.foldl (fun a e => a + streamSize e.2) (s.mgmtSize + s.usedGroups.length * s.spareBytes))

/-- Take bytes a … a + n − 1 out of a list of spans [lo, hi). -/
def cutSpan (a n : Nat) (l : List (Nat × Nat)) : List (Nat × Nat) :=
  if n = 0 then l
  else l.flatMap fun x => [(x.1, min x.2 a), (max x.1 (a + n), x.2)].filter fun y => decide (y.1 < y.2)

/-- Where a group's streams may lie under SELF: its fitted part below the spare pool, without the management area, the table area, the fault ring and the
protected lintel region. -/
def State.freeSpans (s : State) (g : Nat) : List (Nat × Nat) :=
  let base := 17179869184 * g
  let whole := [(base, base + s.groupBytes - s.spareBytes)]
  let a := cutSpan s.mgmtBase s.mgmtSize whole
  let b := cutSpan s.prot.1 s.prot.2 a
  let c := if s.rdBit Reg.FLT_CFG 0 then cutSpan (s.rd64 Reg.FLT_RING_BASE_LO Reg.FLT_RING_BASE_HI) 65536 b else b
  if s.rdFld Reg.TOP_USAGE 15 9 = 0 then c else cutSpan (s.rd64 Reg.CMP_TABLE_BASE_LO Reg.CMP_TABLE_BASE_HI) 262144 c

/-- A place for each of a list of streams (index, bytes), one after another in the spans, if there is one: every choice of spans is tried. -/
def packStreams : List (Nat × Nat) → List (Nat × Nat) → Option (List (Nat × Nat))
  | [], _ => some []
  | (i, n) :: rest, spans => spans.zipIdx.findSome? fun x =>
    if x.1.1 + n ≤ x.1.2 then (packStreams rest (spans.set x.2 (x.1.1 + n, x.1.2))).map fun l => (i, x.1.1) :: l else none

/-- Do spans lie apart from each other? -/
def spansApart : List (Nat × Nat) → Bool
  | [] => true
  | (a, n) :: rest => rest.all (fun x => decide (a + n ≤ x.1) || decide (x.1 + x.2 ≤ a)) && spansApart rest

/-- The streams that the device places under SELF: index, bytes. -/
def State.toPlace (s : State) : List (Nat × Nat) :=
  (s.cfg.streams.filter fun e => !isContent e.1).map fun e => (e.1, streamSize e.2)

/-- The bases of the streams under SELF (R26, R116); none: no placement exists. The choice among the placements that exist is a function of the
configuration section that the spec does not give (log 34). -/
def State.selfBases (s : State) : Option (List (Nat × Nat)) :=
  let spans := s.usedGroups.flatMap s.freeSpans
  let own := s.toPlace.map fun e => (e.1, 32 * Config.placement (s.imgBytes s.cfgOff s.cfgBody) [] [] 8 e.1)
  let at_ := (own.zip s.toPlace).map fun x => (x.1.2, x.2.2)
  if at_.all (fun x => spans.any fun y => decide (y.1 ≤ x.1) && decide (x.1 + x.2 ≤ y.2)) && spansApart at_ then some own
  else packStreams s.toPlace spans

/-- Under SELF the streams lie where the device places them. -/
def State.placeStreams (s : State) : State :=
  if s.ctl.selfPlaced then
    match s.selfBases with
    | some l => s.setCfg { s.cfg with streams := s.cfg.streams.map fun e => match l.find? fun x => x.1 == e.1 with
        | some x => (e.1, { e.2 with base := x.2 })
        | none => e }
    | none => s
  else s

end Sys2Proof.Machine
end

