-- ==== Sys2Proof/Machine/Loader.lean ====
section
/-! DEFINITION. The image loader: the configuration records applied in body order (R38, R510, R517) and the configuration content checks
(R64, R65, R71, R76). -/
namespace Sys2Proof.Machine

/-! Records (R38). -/

/-- The bits of the register at an offset that the image loader writes (R510): its RW and RWL fields. BOOT_KEYHASH takes writes only in
TEST (R508). -/
def loadMask (off : Nat) : Word :=
  if 0x010060 ≤ off ∧ off < 0x010080 then 0
  else match RegMap.rowOf off with
    | some r => BitVec.ofNat 32 (r.rw ||| r.rwl)
    | none => 0

/-- The image loader writes a register (R510), if the variant has its unit (R2). A reserved or out-of-range value leaves its field as it is, but
where the content checks or R369 say what becomes of it. -/
def State.loadReg (s : State) (off v : Nat) : State :=
  let m := loadMask off
  if m = 0 ∨ s.dev.variant.hasUnit off = false then s
  else s.wr off (keepFields (s.rd off) ((s.fieldRules off).filter fun r => r.loader) ((s.rd off &&& ~~~ m) ||| (BitVec.ofNat 32 v &&& m)))

/-- The image loader writes consecutive registers from bytes. -/
def State.loadRegs (s : State) (off : Nat) : Nat → List Byte → State
  | 0, _ => s
  | n + 1, bs => State.loadRegs (s.loadReg off (le (bs.take 4))) (off + 4) n (bs.drop 4)

/-- A Fratin key entry (R99): none where a field lies outside its encoding. -/
def readKey (b : List Byte) : Option (Nat × FKey) :=
  let f (o n : Nat) : Nat := le (slice b o n)
  if 14 < f 0 1 ∨ f 1 3 ≠ 0 ∨ 15 < f 4 4 ∨ f 40 8 ≠ 0 then none else some (f 0 1, ⟨f 4 4, slice b 8 32⟩)

/-- The key entries of a record. -/
def State.loadKeys (s : State) : Nat → List Byte → State
  | 0, _ => s
  | n + 1, b =>
    let s1 := match readKey (b.take 48) with
      | some (k, x) => s.setCfg { s.cfg with keys := Tab.insert (Tab.erase s.cfg.keys k) k x }
      | none => s
    State.loadKeys s1 n (b.drop 48)

/-- Do key entries hold a value outside its encoding (R517)? -/
def keysBad : Nat → List Byte → Bool
  | 0, _ => false
  | n + 1, b => (readKey (b.take 48)).isNone || keysBad n (b.drop 48)

/-- Entry size of an audio table (R179). -/
def audioEntrySize (table : Nat) : Nat := if table = 2 then 4 else if table = 3 then 128 else 8

/-- The greatest WHERE and CHANNEL of a kind of origin (R179): an input lane or a video destination, a flow context, a port; the channels of the four
3G links of a port (R175), of a flow, the slots of a port. -/
def originLimit (source : Bool) (kind : Nat) : Nat × Nat :=
  match kind with
  | 1 => (if source then 1023 else 3583, 127)
  | 2 => (8191, 63)
  | 3 => (8191, 63)
  | 4 => (15, 63)
  | _ => (65535, 255)

/-- An origin entry (R179): none where a value is reserved. -/
def readOrigin (source : Bool) (b : List Byte) : Option Origin :=
  let f (o n : Nat) : Nat := le (slice b o n)
  let kind := f 0 1
  if 4 < kind ∨ 2 < f 1 1 ∨ (originLimit source kind).1 < f 2 2 ∨ (originLimit source kind).2 < f 4 1 ∨ (if source then 1 else 0) < f 5 1 ∨
      f 7 1 ≠ 0 ∨ (source = false ∧ 2 ≤ kind ∧ 15 < f 6 1) then none
  else some ⟨kind, f 1 1, f 2 2, f 4 1, f 5 1 == 1, if source then 0 else f 6 1⟩

/-- One entry of an audio table is loaded (R179); none where it cannot be interpreted. -/
def State.loadAudioEntry (s : State) (table i : Nat) (b : List Byte) : Option State :=
  let c := s.cfg
  if table = 2 then
    let base := le (slice b 0 2)
    let count := le (slice b 2 1)
    if 8191 < i ∨ 128 < count ∨ le (slice b 3 1) ≠ 0 ∨ 16384 < base + count then none
    else some (s.setCfg { c with asets := Tab.insert (Tab.erase c.asets i) i (base, count) })
  else if table = 3 then
    if i = 0 ∨ 4095 < i then none else some (s.setCfg { c with amaps := Tab.insert (Tab.erase c.amaps i) i b })
  else if 1 < table ∨ 16383 < i then none
  else match readOrigin (table == 0) b with
    | none => none
    | some o =>
      if table = 0 then
        some (s.setCfg { c with asrc := if o.kind = 0 then Tab.erase c.asrc i else Tab.insert (Tab.erase c.asrc i) i o })
      else some (s.setCfg { c with adst := if o.kind = 0 then Tab.erase c.adst i else Tab.insert (Tab.erase c.adst i) i o })

/-- The entries of an audio record from an index on. -/
def State.loadAudio (s : State) (table i : Nat) : Nat → List Byte → Option State
  | 0, _ => some s
  | n + 1, b =>
    match s.loadAudioEntry table i (b.take (audioEntrySize table)) with
    | some s1 => State.loadAudio s1 table (i + 1) n (b.drop (audioEntrySize table))
    | none => none

/-- The entries of a band-table record from an index on (R279). -/
def State.loadBands (s : State) (ty i : Nat) : Nat → List Byte → Option State
  | 0, _ => some s
  | n + 1, b =>
    let f (o k : Nat) : Nat := le (slice b o k)
    if 31 < i ∨ f 11 5 ≠ 0 then none
    else
      let x : Band := ⟨f 0 4, f 4 4, f 8 1, f 9 1, f 10 1⟩
      State.loadBands (s.setSyn { s.syn with bands := Tab.insert (Tab.erase s.syn.bands (32 * ty + i)) (32 * ty + i) x })
        ty (i + 1) n (b.drop 16)

/-- A record of type 0x0011 is loaded: rows of the initial table, a later row of one destination over an earlier (R38). -/
def State.loadInitial (s : State) (r : InitialRec) : State :=
  let v := r.video.foldl (fun t e => Tab.put idleRow t e.1 { e.2 with gen := 0 }) s.xpt.vcom
  let a := r.audio.foldl (fun t e => Tab.put idleARow t e.1 ⟨some e.2, 0⟩) s.xpt.acom
  s.setXpt { s.xpt with vcom := v, vout := v, vair := v, acom := a, aout := a, aair := a }

/-- A record of type 0x0013 is loaded: the lintel authority key, messages of slots. -/
def State.loadLintel (s : State) (r : LintelRec) : State :=
  s.setCfg { s.cfg with
    keys := match r.key with
      | some k => Tab.insert (Tab.erase s.cfg.keys 15) 15 ⟨0, k⟩
      | none => s.cfg.keys
    lintelSlots := r.slots.foldl (fun t e => Tab.insert (Tab.erase t e.1) e.1 e.2) s.cfg.lintelSlots }

/-- One record is applied, with the content check it fails, if any (R38, R517). `d` begins with what the next record of types 0x0011 and 0x0013 says
(log 30). -/
def State.applyRecord (s : State) (d : ImageDesc) (p : Nat) : State × Nat :=
  let ty := s.recFld p 0 2
  let off := s.recFld p 4 4
  let len := s.recFld p 8 4
  let data := s.imgBytes (s.cfgOff + p + 16) len
  match ty with
  | 0x0001 => (s.loadRegs off (len / 4) data, 0)
  | 0x0002 => (s.dramPut off data, 0)
  | 0x0010 => if off ≠ 0 ∨ len % 48 ≠ 0 ∨ keysBad (len / 48) data = true then (s, 0x50) else (s.loadKeys (len / 48) data, 0)
  | 0x0011 => (match d.initial.headD none with
    | some r => (s.loadInitial r, 0)
    | none => (s, 0x45))
  | 0x0012 =>
    let table := off / 268435456
    let n := audioEntrySize table
    if 3 < table ∨ len % n ≠ 0 then (s, 0x4D)
    else (match s.loadAudio table (off % 268435456) (len / n) data with
      | some s1 => (s1, 0)
      | none => (s, 0x4D))
  | 0x0013 => (match d.lintel.headD none with
    | some r => (s.loadLintel r, 0)
    | none => (s, 0x4F))
  | 0x0014 =>
    if 65536 ≤ off ∨ 5 < off / 256 ∨ len % 16 ≠ 0 then (s, 0x53)
    else (match s.loadBands (off / 256) (off % 256) (len / 16) data with
      | some s1 => (s1, 0)
      | none => (s, 0x53))
  | _ => (s, 0)

/-- The description after a record of a type: what it said is used up. -/
def descPast (d : ImageDesc) (ty : Nat) : ImageDesc :=
  if ty = 0x0011 then { d with initial := d.initial.tail } else if ty = 0x0013 then { d with lintel := d.lintel.tail } else d

/-- The records from a place of the body on, in body order; the codes of those whose content cannot be interpreted. -/
def State.applyRecords : Nat → Nat → ImageDesc → State → List Nat → State × List Nat
  | 0, _, _, s, bad => (s, bad)
  | fuel + 1, p, d, s, bad =>
    if s.cfgBody ≤ p then (s, bad)
    else
      let r := s.applyRecord d p
      State.applyRecords fuel (p + recSpan (s.recFld p 8 4)) (descPast d (s.recFld p 0 2)) r.1 (if r.2 = 0 then bad else r.2 :: bad)

/-- Does something hold of a record of a type, given its OFFSET and LENGTH? -/
def State.anyRecord (ty : Nat) (p : Nat → Nat → Bool) : Nat → Nat → State → Bool
  | 0, _, _ => false
  | fuel + 1, at_, s =>
    if s.cfgBody ≤ at_ then false
    else (s.recFld at_ 0 2 == ty && p (s.recFld at_ 4 4) (s.recFld at_ 8 4)) ||
      State.anyRecord ty p fuel (at_ + recSpan (s.recFld at_ 8 4)) s

/-- Does the image write a register? -/
def State.imageSets (s : State) (off : Nat) : Bool :=
  State.anyRecord 0x0001 (fun o n => decide (o ≤ off) && decide (off < o + n)) (s.cfgBody / 16) 0 s

/-- A group whose switching line the image does not set takes the default of its format (R76). -/
def State.defaultLines (s : State) : State :=
  ((List.range 16).filter fun g => s.tgUsed g && !s.imageSets (Reg.XPT_TG_SWLINE g)).foldl (fun a g =>
    a.wrFld (Reg.XPT_TG_SWLINE g) 12 0 (lineOf (a.tgFormat g))) s

/-- The frame-store content of the image is written again once the DRAM is trained, which lost what stood there (R393, R395, log 41). -/
def State.contentAgain : Nat → Nat → State → State
  | 0, _, s => s
  | fuel + 1, p, s =>
    if s.cfgBody ≤ p then s
    else
      let s1 := if s.recFld p 0 2 = 2 then s.dramPut (s.recFld p 4 4) (s.imgBytes (s.cfgOff + p + 16) (s.recFld p 8 4)) else s
      State.contentAgain fuel (p + recSpan (s.recFld p 8 4)) s1

/-- A list of pairs as a table. -/
def tabOf {β : Type} (l : List (Nat × β)) : Tab β := l.foldl (fun t e => Tab.insert t e.1 e.2) []

/-- The ring depth in force (R29): 2–8, else the default 3; graphic content and caches hold single frames (log 30). -/
def ringDepth (i depth : Nat) : Nat := if 8192 ≤ i then 0 else if depth < 2 ∨ 8 < depth then 3 else depth

/-- The settings that no record carries are loaded (log 30). A register is loaded in the bits that software cannot write and records of type 0x0001 do not
reach; HOLD_FRAMES above 15 takes 15 (R66). -/
def State.loadDesc (s : State) (d : ImageDesc) : State :=
  let streams := tabOf (d.streams.map fun e => (e.1, { e.2 with depth := ringDepth e.1 e.2.depth }))
  let s1 := d.loaded.foldl (fun x e => x.wr e.1 ((x.rd e.1 &&& loadMask e.1) ||| (BitVec.ofNat 32 e.2 &&& ~~~ (loadMask e.1)))) s
  let s2 := d.holds.foldl (fun x e => x.wrFld (Reg.CMPL_CTRL (e.1 / 16) (e.1 % 16)) 19 16 (min 15 e.2)) s1
  let s3 := (List.range (min 64 (s.img 0x0F 1))).foldl (fun x c => x.wrBit (Reg.CMP_CFG c) 30 true) s2
  let s4 := s3.setCfg { s3.cfg with
    srcs := tabOf d.srcs, dsts := tabOf d.dsts, streams := streams, pinMask := d.pinMask
    glyphW := d.glyphW, glyphH := d.glyphH, font := tabOf d.font, substGlyph := d.substGlyph
    slates := tabOf d.slates, tallies := d.tallies, allow := tabOf d.allow, pinned := tabOf d.pinned, udpPort := d.udpPort }
  let s5 := s4.setCtl { s4.ctl with paired := d.paired, selfPlaced := d.selfPlaced, immediate := d.immediate }
  (s5.setProt (d.protBase, d.protLength)).setStreams (streams.map fun e => (e.1, { coldStream with mode := e.2.mode, delay := e.2.delay }))

/-- The read allowance of each compositor (R503): the declared one, and at least what the initial table asks for. -/
def State.setAllowances (s : State) : State :=
  let k := s.committed
  (List.range 64).foldl (fun a c =>
    if s.cmpActive c then
      let need := (k.cmpCharge4 s.xpt.vcom c + 3) / 4
      let have_ := Tab.get 0 a.cfg.allow c
      if have_ < need then a.setCfg { a.cfg with allow := Tab.put 0 a.cfg.allow c need } else a
    else a) s

/-! Content checks (R64, R65), each true where its code holds. -/

/-- The lanes that carry a personality. -/
def State.usedLanes (s : State) : List Nat := (List.range s.dev.variant.lanes).filter fun i => s.pers i != 0

/-- The furrow family a personality needs; 0: none may stand on a numbered lane (R286). -/
def familyOf (pers : Nat) : Nat := if pers = 1 then 1 else if pers = 2 then 2 else if 3 ≤ pers ∧ pers ≤ 5 then 3 else 0

/-- Is id x no unit of a compositor (`base` on, k a compositor, up to source 4,031 or destination 4,095), or one of a declared compositor? -/
def State.cmpDeclared (s : State) (x base k : Nat) : Bool := decide (x < base) || decide (base + 64 * k ≤ x) || decide (x < base + k * s.img 0x0F 1)

/-- Is an index one that selects a stream, for graphic content and caches one of a declared compositor (R115)? -/
def State.streamDeclared (s : State) (i : Nat) : Bool :=
  decide (i < 3968) || (decide (4096 ≤ i) && decide (i < 7680)) || (decide (8192 ≤ i) && decide (i < 8512)) && (if i < 8448 then decide ((i - 8192) / 4 < s.img 0x0F 1) else decide (i - 8448 < s.img 0x0F 1))

/-- A format that no source that enters the line exchange may carry: a part of it is not declared (R71). -/
def formatOpen (f : VFormat) : Bool := rateNum f.rate == 0 || decide (7 < f.raster) || decide (2 < f.sampling) || decide (10 < f.map)

/-- The rows of all initial-table records. -/
def descRows (d : ImageDesc) : List (Nat × VRow) := d.initial.flatMap fun x => x.elim [] fun r => r.video

/-- Is the channel of an SDI origin one that the port does not carry: the port of an input lane, or the output of a video destination (R175)? -/
def State.sdiChannelBad (s : State) (source : Bool) (o : Origin) : Bool :=
  let m := if source then (s.sdiExpected (s.rxLead o.place)).map else (match Tab.find? s.cfg.dsts o.place with
    | some c => c.fmt.map
    | none => 10)
  o.kind == 1 && decide (mapLinks m * linkChannels m ≤ o.channel)

/-- Is a flow of more than 64 channels sent from a transmit context (R175)? -/
def State.flowFull (s : State) : Bool :=
  let flows := s.cfg.adst.filter fun e => e.2.kind == 2 || e.2.kind == 3
  flows.any fun e => decide (64 < (flows.filter fun x => x.2.place == e.2.place).length)

/-- Is a paired input declared on a source that is not frame-synchronised in synchronise or delay mode (R232)? -/
def pairBad (d : ImageDesc) (e : Nat × SrcCfg) : Bool :=
  e.2.pairB.isSome && !(e.2.synced && d.streams.any fun x => x.1 == e.1 && (x.2.mode == 1 || x.2.mode == 2))

/-- A check of R65 for its code. -/
def State.contentCheck (s : State) (d : ImageDesc) (code : Nat) : Bool :=
  let used := s.usedLanes
  let fields := s.img 0x0C 2
  let stored := d.streams.map fun e => e.2
  let placed := s.cfg.streams.filter fun e => !s.ctl.selfPlaced || isContent e.1
  match code with
  | 0x40 => used.any fun i => familyOf (s.pers i) != s.rdFld (Reg.SYN_FURROW_CFG (i / 16)) 3 2 || familyOf (s.pers i) == 0
  | 0x41 => used.any fun i => s.pers i == 5 && !((List.range 4).all fun k => s.pers (i - i % 4 + k) == 5)
  | 0x42 => (used.any fun i => !fields.testBit (i / 64)) ||
      ((List.range 64).any fun c => decide (s.img 0x0F 1 ≤ c) && (s.rdBit (Reg.CMP_CFG c) 31 || s.rdBit (Reg.CMP_CFG c) 30)) ||
      ((List.range 16).any fun p => s.rdBit (Reg.AP_CFG p) 31 && !(s.img 0x10 2).testBit p) ||
      ((s.cfg.asrc ++ s.cfg.adst).any fun e => e.2.kind == 4 && !(s.img 0x10 2).testBit e.2.place) ||
      (placed.any fun e => !s.groupUsed (groupOf e.2.base) || decide (groupOf (e.2.base + streamSize e.2 - 1) ≠ groupOf e.2.base)) ||
      (s.cfg.streams.any fun e => decide (8192 ≤ e.1) && decide (e.1 < 8512) && !s.streamDeclared e.1) ||
      s.xpt.vcom.any fun e => !s.cmpDeclared e.1 3584 8 || !s.cmpDeclared e.2.srcV 3968 1 || !s.cmpDeclared e.2.srcN 3968 1
  | 0x43 => d.dsts.any fun e => e.2.txc.isNone && ((s.pers e.2.lane == 2) != (rateDen (s.tgRate e.2.tg) == 1001))
  | 0x44 => (List.range 16).any fun g => s.tgUsed g && (decide (s.rdFld (Reg.XPT_TG_LEAD g) 10 0 < 100) ||
      decide (2000 < s.rdFld (Reg.XPT_TG_LEAD g) 10 0) || s.rdFld (Reg.XPT_TG_SWLINE g) 12 0 != lineOf (s.tgFormat g))
  | 0x45 => (d.srcs.any fun e => decide (3967 < e.1) || pairBad d e) ||
      (d.streams.any fun e => !s.streamDeclared e.1) || (d.dsts.any fun e => e.2.txc.isSome && s.rdBit (Reg.SDI_TX_CFG e.2.lane) 15) ||
      (d.srcs.any fun e => formatOpen e.2.fmt) ||
      (d.dsts.any fun e => decide (3583 < e.1) || decide (15 < e.2.tg)) ||
      ((descRows d).any fun e => decide (4095 < e.1) || decide (4095 < e.2.srcV) || decide (4095 < e.2.srcN)) ||
      decide ((d.srcs.map fun e => e.1).eraseDups.length ≠ d.srcs.length) ||
      decide ((d.dsts.map fun e => e.1).eraseDups.length ≠ d.dsts.length)
  | 0x46 => ((s.contexts 0x140000).any fun n => (s.rxPorts n).any (fun p => !s.isEth p) ||
        (let w := s.rd (Reg.RXC_CFG n); fld w 30 28 == 0 && bit w 27 && fld w 26 25 == 2)) ||
      (s.contexts 0x1C0000).any fun n => (s.txPorts n).any fun p => !s.isEth p
  | 0x47 => s.ingressFull || s.egressFull s.xpt.vcom
  | 0x48 => decide (100663296 < s.windowBytes) || decide (s.rdFld Reg.XPT_CFG 3 0 < 2) || decide (8 < s.rdFld Reg.XPT_CFG 3 0) ||
      d.srcs.any fun e => decide (s.windowDepth e.2 < 2) || decide (8 < s.windowDepth e.2)
  | 0x49 => s.dramFull
  | 0x4A => s.img 0x0E 1 == 0 || !s.dramSpan s.mgmtBase s.mgmtSize ||
      (s.rdBit Reg.FLT_CFG 0 && !s.dramSpan (s.rd64 Reg.FLT_RING_BASE_LO Reg.FLT_RING_BASE_HI) 65536) ||
      (s.img 0x0F 1 != 0 && !s.dramSpan (s.rd64 Reg.CMP_TABLE_BASE_LO Reg.CMP_TABLE_BASE_HI) 262144) ||
      State.anyRecord 0x0002 (fun o n => !s.contentFits o n) (s.cfgBody / 16) 0 s || s.capacityFull ||
      placed.any fun e => !s.dramSpan e.2.base (streamSize e.2)
  | 0x4B => s.ctl.selfPlaced && s.selfBases.isNone
  | 0x4C => (stored.any fun k => decide (4 < k.code) || decide (4 < k.stored) || (decide (2 ≤ k.stored) && decide (2 ≤ k.code))) ||
      d.streams.any fun e => decide (8192 ≤ e.1) && decide (2 ≤ e.2.code)
  | 0x4D => (s.cfg.asrc.any fun e => s.sdiChannelBad true e.2) || (s.cfg.adst.any fun e => s.sdiChannelBad false e.2) || s.flowFull ||
      ((s.cfg.asrc ++ s.cfg.adst).any fun e =>
      (e.2.rate == 1 && e.1 % 2 == 1) || (e.2.rate == 2 && e.1 % 2 == 0) ||
      (e.2.kind == 4 && (decide (8 * 2 ^ s.rdFld (Reg.AP_CFG e.2.place) 21 20 ≤ e.2.channel) || (e.2.rate == 1 && e.2.channel % 2 == 1))))
      || (s.contexts 0x140000).any fun n => (s.rxEssence n == 1 || s.rxEssence n == 2) && decide (63 < s.rdFld (Reg.RXC_CFG n) 23 16)
  | 0x4E => cmpLoop s.xpt.vcom
  | 0x4F => ((Tab.find? s.cfg.keys 15).isNone && decide (s.boundCmps ≠ [])) || s.cfg.lintelSlots.any fun e => decide (15 < e.1)
  | 0x50 => !(s.cfg.keys.any fun e => decide (e.1 < 15))
  | 0x51 => d.paired && (s.img 0x54 2 == 0 || s.img 0x56 2 == s.img 0x58 2)
  | 0x52 => (List.range 2).any fun v => s.vfsMode v == 2 && !s.refPresent v
  | 0x53 => d.loopHz.any fun e => !(List.range 32).any fun i =>
      match Tab.find? s.syn.bands (32 * e.1 + i) with
      | some b => b.fMax != 0 && decide (b.fMin ≤ e.2) && decide (e.2 ≤ b.fMax)
      | none => false
  | 0x54 => s.liveInitBad || (s.img 0x0F 1 != 0 && s.presetBad)
  | 0x55 => used.any fun i => s.isSdi i && (s.rxLead i / 16 != i / 16 || s.txLead i / 16 != i / 16)
  | _ => false

/-- The lowest content check that fails (R65); 0: none. `bad` are the codes of records whose content cannot be interpreted. -/
def State.contentFault (s : State) (d : ImageDesc) (bad : List Nat) : Option Nat :=
  ((List.range 0x16).map (· + 0x40)).find? fun c => bad.contains c || s.contentCheck d c

/-! Synthesis loops in S1 (R273, R274, R457). -/

/-- Is a loop in use: in the variant and declared by the image (R273, R285)? A video family runs while a furrow uses it (R270). -/
def State.loopNeeded (s : State) (n : Nat) : Bool :=
  if n < 4 ∨ n = 5 ∨ n = 6 then true
  else if n = 4 then decide (s.dev.variant ≠ .r) && s.img 0x0F 1 != 0
  else if n < 15 then (s.img 0x0E 1).testBit (n - 7)
  else if n < 31 then (s.img 0x0C 2).testBit (n - 15)
  else (List.range 64).any fun f => s.rdFld (Reg.SYN_FURROW_CFG f) 3 2 == n - 30

/-- The loops of S1, in the order of R457. -/
def State.s1Loops (s : State) : List Nat :=
  ([2, 3, 4, 5, 6] ++ (List.range 16).map (· + 15) ++ [31, 32]).filter s.loopNeeded

/-- The records are accepted: ABSENT is set for loops not in use (R285), and the loops of S1 are to be sown. -/
def State.toLoops (s : State) : State :=
  let s1 := (List.range 33).foldl (fun a n => if s.loopNeeded n then a else a.wrBit (Reg.SYN_LOOP_STATUS n) 28 true) s
  ((s1.setBoot { s1.boot with stage := .locking }).setPower { s1.power with toSow := (s.s1Loops).map BlockId.loop })

/-- The records in body order and what follows from them, with the code of the content check that fails, if one does (R38, R65). -/
def State.applyImage (s : State) (d : ImageDesc) : State × Option Nat :=
  let r := State.applyRecords (s.cfgBody / 16) 0 d s []
  let s1 := ((((((r.1.wrFld Reg.TOP_USAGE 31 24 (s.img 0x0E 1)).loadDesc d).defaultLines).placeStreams).adjustImage).foLoad).setAllowances
  (s1, s1.contentFault d r.2)

/-- RECORDS_APPLIED (R38, R65): the records are applied in body order, then the content is checked. -/
def execRecordsApplied (t : Nat) (d : ImageDesc) (s0 : State) : Host.Outcome State Fault Refusal :=
  let s := s0.at t
  if s.boot.stage ≠ .apply ∨ s.s1Runs = false then .next s
  else
    match s.applyImage d with
    | (s1, some c) => .next (s1.slotRefused c)
    | (s1, none) => .next s1.toLoops

end Sys2Proof.Machine
end

