-- ==== Sys2Proof/Machine/Pins.lean ====
section
/-! DEFINITION. The keyed output pins: the GPIO tallies, FRAME_OUT and CHG (R208, R246). -/
namespace Sys2Proof.Machine

/-- What an output pin does. -/
inductive Level where
  | low
  | high
  | highZ
  deriving DecidableEq, Repr

/-- The tally of GPIO n (R246): mode 1 high while its source is on air at a destination of its range, by the rows the outputs carry since their switch points;
mode 2 high; mode 3, and mode 0 off, low (log 170). -/
def State.tallyOn (s : State) (n : Nat) : Bool :=
  let cfg := s.rd (Reg.TWN_TALLY_CFG n)
  let dst := s.rd (Reg.TWN_TALLY_DEST n)
  match fld cfg 31 30 with
  | 1 => (List.range (fld dst 27 16 + 1 - fld dst 11 0)).any fun k => (Tab.get idleRow s.xpt.vout (fld dst 11 0 + k)).srcV == fld cfg 11 0
  | 2 => true
  | _ => false

/-- A keyed pin: high impedance with the key gate closed (R208). -/
def State.keyedPin (s : State) (level : Bool) : Level := if s.gateOpen then (if level then .high else .low) else .highZ

/-- The pin GPIOn: keyed where the image sets it as a tally output; no other use of it is given. -/
def State.gpioPin (s : State) (n : Nat) : Level := if s.cfg.tallies.testBit n then s.keyedPin (s.tallyOn n) else .highZ

/-- The pin FRAME_OUTg; `pulse`: a pulse of R264 is under way. High impedance for a group without a frame rate. -/
def State.frameOutPin (s : State) (g : Nat) (pulse : Bool) : Level := if s.tgUsed g then s.keyedPin pulse else .highZ

/-- The pin CHGn. The spec gives its gate and no more: the level it is driven to is free (log 170). -/
def State.chgPin (s : State) (n : Nat) : Level := s.keyedPin (Config.chgLevel s.freeCtr n)

end Sys2Proof.Machine
end

