-- ==== Sys2Proof/Machine/Power.lean ====
section
/-! DEFINITION. Resets, sowing and reaping, the end of BOOT and of TRAIN, the adaptive core voltage (R43, R56, R207, R453–R469, R483). -/
namespace Sys2Proof.Machine

/-! Resets (R464, R466, R507). -/

/-- Causes of TOP_RESET_CAUSE (R469). -/
def ReapCause.resetCode : ReapCause → Nat
  | .pin => 1
  | .restart => 2
  | .powerFail => 3
  | _ => 0

/-- The internal reset: every register returns to its reset value; the flash, the fuses and TOP_RESET_CAUSE survive (R466). What has left the
device, the free values taken and the waiting commands are the model's own. -/
def State.internalReset (s : State) : State :=
  let r := State.afterReset s.dev s.pins s.boot.fuse s.flash s.now
  (((((r.setRegs (s.regs.filter fun e => e.1 == Reg.TOP_RESET_CAUSE)).setPower { r.power with inReset := true }).setFreeCtr s.freeCtr).setOut s.out).setPending s.pending)

/-- TOP_RESET_CAUSE of a reset: its cause, and one more reset since power-on, saturating (R469). -/
def State.resetCause (s : State) (code : Nat) : State :=
  (s.wrFld Reg.TOP_RESET_CAUSE 2 0 code).wrFld Reg.TOP_RESET_CAUSE 15 8 (min 255 (s.rdFld Reg.TOP_RESET_CAUSE 15 8 + 1))

/-- TEST is entered (R56, R57): ALIVE runs and the watchdog is armed at the exit from BOOT (R410, R411). -/
def State.enterTest (s : State) : State := (s.keyLow.setMode .test).leaveBoot

/-- The internal reset ends (R483): the straps are sampled, and BOOT begins at S0; with TEST_EN high and the key fuse blank the ROM boot loader
enters TEST without reading a slot (R47). -/
def State.endReset (s : State) (straps : Nat) : State :=
  if s.power.inReset ∧ s.pins.resetN = true ∧ s.pins.pwrgood = true then
    let s1 := (((s.endClosing.setPins { s.pins with straps := straps % 16, keyOut := false }).setPower { s.power with inReset := false }).setBoot (BootState.reset s.boot.fuse s.now)).setCtl { s.ctl with mode := .boot, modeSince := s.now }
    if straps / 4 % 2 = 1 ∧ s.boot.fuse.isNone = true then (s1.setBoot { s1.boot with stage := .idle }).enterTest else s1
  else s

/-- POWER_ON (R464): everything is reset, the always-on domain too. -/
def execPowerOn (t straps : Nat) (resetN : Bool) (s0 : State) : Host.Outcome State Fault Refusal :=
  let s := s0.at t
  let s1 := s.setPins { s.pins with pwrgood := true, resetN := resetN }
  .next ((s1.internalReset.setRegs []).endReset straps)

/-- The start of a reset that RESET_N or RESTART asks for: reaping, and the final checkpoint before S1 is reaped (R458, R464). -/
def State.resetBegins (s : State) (c : ReapCause) : State :=
  match s.power.reaping with
  | some .restart => s.reapForReset c
  | some .pin => s.reapForReset c
  | some .powerFail => s.reapForReset c
  | _ => (s.reapForReset c).queueLife none

/-- RESET_N_FALL (R464): a low of 2 µs or more. -/
def execResetNFall (t : Nat) (s0 : State) : Host.Outcome State Fault Refusal :=
  let s := s0.at t
  let s1 := s.setPins { s.pins with resetN := false }
  if s.pins.pwrgood = false ∨ s.power.inReset then .next s1 else .next (s1.resetBegins .pin)

/-- RESET_N_RELEASE (R43, R467): with PWRGOOD high and reaping complete the device enters BOOT; else reaping completes first. -/
def execResetNRelease (t straps : Nat) (s0 : State) : Host.Outcome State Fault Refusal :=
  let s := s0.at t
  .next ((s.setPins { s.pins with resetN := true }).endReset straps)

/-- POWER_FAIL (R464, R467): a low of PWRGOOD of 1 µs or more. The checkpoint wait is dropped; a reset that is held already becomes one
of cause power fail (log 42). -/
def execPowerFail (t : Nat) (s0 : State) : Host.Outcome State Fault Refusal :=
  let s := s0.at t
  let s1 := s.setPins { s.pins with pwrgood := false }
  if s1.power.inReset then .next (s1.wrFld Reg.TOP_RESET_CAUSE 2 0 3)
  else .next (s1.reapForReset .powerFail)

/-- POWER_FAIL_END (R464): PWRGOOD rises again with VDD_AON held; the cause stays. -/
def execPowerFailEnd (t straps : Nat) (s0 : State) : Host.Outcome State Fault Refusal :=
  let s := s0.at t
  .next ((s.setPins { s.pins with pwrgood := true }).endReset straps)

/-- TEST_RESET (R464, R507): the JTAG test logic only, which holds no register of the device. -/
def execTestReset (t : Nat) (s0 : State) : Host.Outcome State Fault Refusal := .next (s0.at t)

/-- INTERNAL_RESET_END (R483). -/
def execInternalResetEnd (t straps : Nat) (s0 : State) : Host.Outcome State Fault Refusal := .next ((s0.at t).endReset straps)

/-! The end of BOOT (R54, R56). -/

/-- The values loaded at boot, valid from the entry to TRAIN (R54, R68, R507). -/
def State.loadBootValues (s : State) : State :=
  let hash := sha256 (s.imgBytes s.cfgOff s.cfgBody)
  let used := s.img 0x0E 1 * 16777216 + s.img 0x0F 1 * 512 + s.img 0x12 1 % 4
  let own := s.img (if s.sideB then 0x58 else 0x56) 2
  let w (a : State) (o v : Nat) : State := a.wr o (BitVec.ofNat 32 v)
  let s1 := w (w (w (w (w s Reg.TOP_USAGE used) Reg.BOOT_IMG_VER (s.img 0x14 4)) Reg.BOOT_FW_VER (s.img (s.fwOff + 4) 4))
    Reg.BOOT_COMPAT_ID (s.img (s.fwOff + 8) 4)) Reg.BOOT_SYSTEM_ID (s.img 0x54 2 % 16384 * 65536 + own % 16384)
  let s2 := (List.range 8).foldl (fun a k => w a (Reg.BOOT_CFG_HASH k) (le (slice hash (4 * k) 4))) s1
  (s2.wrFld Reg.BOOT_STATUS 1 0 (slotCode s.boot.slot)).setBoot { s2.boot with
    stage := .accepted, booted := some s.boot.slot, fieldsUsed := s.img 0x0C 2 }

/-- Does the image run in TEST: the TEST_EN strap, or FLAGS.TEST_PERMIT (R56)? -/
def State.testImage (s : State) : Bool := s.pins.straps / 4 % 2 == 1 || (s.img 0x13 1).testBit 0

/-- The image is accepted (R56): from BOOT to TRAIN, or TEST. -/
def State.imageAccepted (s : State) : State :=
  let s1 := s.loadBootValues
  if s.ctl.mode ≠ .boot then s
  else if s.testImage then s1.enterTest.fellBack else (s1.setMode .train).leaveBoot

/-- The loop of a sown block of S1 or S2, if it has one. -/
def BlockId.loopOf : BlockId → Option Nat
  | .loop n => some n
  | .chgrp g => some (7 + g)
  | _ => none

/-- SYNTH_LOOP_LOCKED (R274): band-table entry `band`. When every loop of S1 has locked, the device leaves BOOT. -/
def execSynthLoopLocked (t n band : Nat) (s0 : State) : Host.Outcome State Fault Refusal :=
  let s := s0.at t
  if (Tab.find? s.boot.locks n).isNone then .next s
  else
    let s1 := (s.setBoot { s.boot with locks := Tab.erase s.boot.locks n }).wr (Reg.SYN_LOOP_STATUS n)
      (setFld (setFld (s.rd (Reg.SYN_LOOP_STATUS n)) 31 29 4) 20 16 band)
    let v := n - 31
    let s2 := if 31 ≤ n then
        s1.setVfs v (if s1.vfsMode v = 0 then 0 else if s1.refPresent v then 1 else 2)
      else s1
    let s3 := s2.synRefresh
    if s3.boot.stage = .locking ∧ s3.boot.locks = [] ∧ s3.power.toSow = [] then .next s3.imageAccepted else .next s3

/-- SYNTH_LOCK_TIMEOUT (R274): a loop not locked 20 ms after its start stops boot with 0x30 (R44). -/
def execSynthLockTimeout (t n : Nat) (s0 : State) : Host.Outcome State Fault Refusal :=
  let s := s0.at t
  match Tab.find? s.boot.locks n with
  | some u => if u + 20000000 ≤ s.now ∧ (s.ctl.mode = .boot ∨ s.ctl.mode = .train) then .next (s.slotRefused 0x30) else .next s
  | none => .next s

/-! Sowing (R455–R457). -/

/-- The furrows sown at S3: those of a declared field that hold a lane not OFF. -/
def State.s3Furrows (s : State) : List Nat :=
  (List.range (s.dev.variant.lanes / 16)).filter fun f => s.boot.fieldsUsed.testBit (f / 4) &&
    (List.range 16).any fun k => s.pers (16 * f + k) != 0

/-- The dedicated lanes sown at S3: PW0–PW7 unless SOLO_ONLY, MGT0, MGT1. -/
def State.s3Dedicated (s : State) : List Nat := if s.ctl.paired then List.range 10 else [8, 9]

/-- The blocks of a stage, in block order (R457). The loops of S1 are known once the records are accepted. -/
def State.stageBlocks (s : State) (n : Nat) : List BlockId :=
  let fields := (List.range s.dev.variant.fields).filter s.boot.fieldsUsed.testBit
  let groups := (List.range s.dev.variant.groups).filter s.groupUsed
  match n with
  | 2 => groups.map BlockId.chgrp
  | 3 => s.s3Furrows.map BlockId.furrow ++ s.s3Dedicated.map BlockId.dedicated
  | 4 => BlockId.core :: (fields.map BlockId.fieldPorts ++ groups.map BlockId.frameEngines)
  | 5 => (List.range ((s.rdFld Reg.TOP_USAGE 15 9 + 3) / 4)).map BlockId.compositors ++ [BlockId.audio] ++
      ((List.range 16).filter fun p => s.boot.booted.isSome && (s.img 0x10 2).testBit p).map BlockId.tdm
  | _ => []

/-- The stage of a block. -/
def BlockId.stage : BlockId → Nat
  | .loop _ => 1
  | .chgrp _ => 2
  | .furrow _ => 3
  | .dedicated _ => 3
  | .core => 4
  | .fieldPorts _ => 4
  | .frameEngines _ => 4
  | .compositors _ => 5
  | .audio => 5
  | .tdm _ => 5

/-- May a stage start in this mode (R56, R457)? S1 in BOOT and, for the flash and the card port, in TEST without an image and in SAFE after ROM
fallback; S2 to S5 in TRAIN, and on command in TEST; S3 only after training (R395). -/
def State.mayStart (s : State) (n : Nat) : Bool :=
  match s.ctl.mode with
  | .boot => n == 1 && decide (s.boot.stage ≠ .fallback)
  | .train => decide (2 ≤ n) && decide (n ≤ 5) && (n != 3 || s.rdFld Reg.DRC_STATUS 31 30 == 2)
  | .test => decide (1 ≤ n) && decide (n ≤ 5)
  | .safe => n == 1 && s.boot.romFallback
  | _ => false

/-- In S1 the device reads VOUT_MODE (R462): `vout` none after the third failure; any mode but ULINEAR16, whose bits 7–5 are 0 (PRESUMED
PMBus), disables adaptive voltage. -/
def State.readVoutMode (s : State) (vout : Option Nat) : State :=
  if s.rdBit Reg.TOP_AVS_CFG 31 = false then s
  else match vout with
    | some v => if v / 32 = 0 then s.wrBit Reg.TOP_PWR_STATUS 25 true else s.orReg Reg.TOP_PWR_STICKY 1
    | none => s.orReg Reg.TOP_PWR_STICKY 1

/-- SOW_STAGE_START (R457). In S1 the journal is read (R417). -/
def execSowStageStart (t : Nat) (vout : Option Nat) (s0 : State) : Host.Outcome State Fault Refusal :=
  let s := s0.at t
  let n := s.power.stage + 1
  if s.power.inReset ∨ s.power.sowing ∨ s.power.reaping.isSome = true ∨ s.mayStart n = false then .next s
  else
    let s1 := s.setPower { s.power with sowing := true, toSow := s.stageBlocks n }
    if n = 1 then .next ((if s1.lifeReady then s1 else s1.readJournal).readVoutMode vout) else .next s1

/-- The lanes of a unit that are sown leave LD (R297, R298). -/
def State.sowLanes (s : State) (u : Nat) : State :=
  let off := decide (u < 64) && !s.rdBit (Reg.SYN_FURROW_STATUS u) 31
  let s1 := if off then s.mdllOn u else s
  let s2 := ((unitLanes u).filter fun i => s1.pers i != 0 || decide (64 ≤ u)).foldl (fun a i =>
    State.startMove off (a.setLane i { a.lane i with want := some 0 }) i) s1
  s2.setPower { s2.power with lastMove := s2.now }

/-- What comes up with a block: a loop starts to lock; lanes leave LD; a group's slots are filled, and the image's content is written over the fill (R130,
log 41). -/
def State.blockRises (s : State) (b : BlockId) : State :=
  match b with
  | .loop n => s.setBoot { s.boot with locks := Tab.insert (Tab.erase s.boot.locks n) n s.now }
  | .chgrp g => s.setBoot { s.boot with locks := Tab.insert (Tab.erase s.boot.locks (7 + g)) (7 + g) s.now }
  | .furrow f => s.sowLanes f
  | .dedicated d => s.sowLanes (64 + d)
  | .frameEngines g => if s.boot.booted.isSome then State.contentAgain (s.cfgBody / 16) 0 (s.sowFill g) else s
  | _ => s

/-- Is a block a furrow or a dedicated lane: paced at one per 100 µs (R298)? -/
def BlockId.isMove : BlockId → Bool
  | .furrow _ => true
  | .dedicated _ => true
  | _ => false

/-- May the next block start: its rails have waited, and a move its 100 µs? -/
def State.blockDue (s : State) (b : BlockId) (rated : List (Nat × Nat)) : Bool :=
  s.railsFree rated && (!b.isMove || decide (s.power.lastMove + 100000 ≤ s.now) || s.power.lastMove == 0)

/-- Does every rated current keep within 8 A (R456)? -/
def ratedOk (rated : List (Nat × Nat)) : Bool := rated.all fun e => decide (e.2 ≤ 8000)

/-- Does reaping start in this instant (R467)? -/
def State.reapFalls (s : State) : Bool :=
  s.severeFalls || s.sameInstant fun c => match c with
    | .resetNFall t => decide (t ≤ s.now) && s.pins.pwrgood
    | .powerFail t => decide (t ≤ s.now)
    | .restart t confirm => decide (t ≤ s.now) && confirm == Config.confirm && s.boot.session.isNone
    | .enterSafe t confirm => decide (t ≤ s.now) && confirm == Config.confirm
    | _ => false

/-- SOW_BLOCK (R456): not in the instant in which reaping starts (R467); `rated`: the rated current change on each rail it touches, in mA (log 43). -/
def execSowBlock (t : Nat) (rated : List (Nat × Nat)) (s0 : State) : Host.Outcome State Fault Refusal :=
  let s := s0.at t
  match s.power.toSow with
  | b :: rest =>
    if s.power.sowing ∧ s.blockDue b rated = true ∧ ratedOk rated = true ∧ s.reapFalls = false then
      .next ((((s.takeRails rated).setPower { (s.takeRails rated).power with toSow := rest, sown := b :: s.power.sown })).blockRises b)
    else .next s
  | [] => .next s

/-- At S5 the compositor array copies the table area into its own memory (R162). -/
def State.copyTables (s : State) : State :=
  let base := s.rd64 Reg.CMP_TABLE_BASE_LO Reg.CMP_TABLE_BASE_HI
  (s.setTables ((s.dram.filter fun e => decide (base ≤ e.1) && decide (e.1 < base + 262144)).map fun e => (e.1 - base, e.2)))

/-- What follows the last block of a stage: S2, the training of the BOOT and TRAIN path (R395); S5, the tables, FREERUN for groups without timing (R258), and the entry to SERVICE of a
SOLO_ONLY device, whose KEY_OUT rises in that cycle (R207). -/
def State.stageDone (s : State) (n : Nat) : State :=
  if n = 2 ∧ s.ctl.mode = .train then s.trainStart
  else if n = 5 then
    let s1 := (if s.rdFld Reg.TOP_USAGE 15 9 = 0 then s else s.copyTables).startFree
    if s1.ctl.mode = .train ∧ s1.ctl.paired = false then s1.soloService else s1
  else s

/-- SOW_STAGE_COMPLETE (R457): the last block has been sown and its loops have locked. -/
def execSowStageComplete (t : Nat) (s0 : State) : Host.Outcome State Fault Refusal :=
  let s := s0.at t
  let n := s.power.stage + 1
  if s.power.sowing = false ∨ s.power.toSow ≠ [] ∨ s.boot.locks ≠ [] ∨ (n = 1 ∧ s.ctl.mode = .boot) then .next s
  else .next ((s.setPower { s.power with stage := n, sowing := false }).stageDone n)

/-- TRAIN_CLOSING_CLAIM (R207): the end of TRAIN once sowing is complete. A SOLO_ONLY device enters SERVICE; one that meets the JOIN condition
enters JOIN; one whose peer holds the key becomes ALONGSIDE; else the device claims the key. -/
def execTrainClosingClaim (t : Nat) (s0 : State) : Host.Outcome State Fault Refusal :=
  let s := s0.at t
  if s.ctl.mode ≠ .train ∨ s.power.stage ≠ 5 then .next s
  else if s.ctl.paired = false then .next s.soloService
  else if s.joinCond then .next s.enterJoin
  else if (s.twn.wall.up && s.peerHolds) || (!s.twn.wall.up && s.pins.keyIn) then .next s.closeTrain
  else .next (s.setTwn { s.twn with key := { s.twn.key with closing := true } })

/-- DRAM_TRAIN_STEP_DONE (R395, R396): in TRAIN a failure refuses the image, and success after the other slot was refused makes the fallback
good (R45); the frame-store content is written (log 41). -/
def execDramTrainStepDone (t : Nat) (chans : List TrainChan) (s0 : State) : Host.Outcome State Fault Refusal :=
  let s := s0.at t
  if s.rdBit Reg.DRC_STATUS 30 = false then .next s
  else
    let r := s.trainStep chans
    if s.ctl.mode ≠ .train then .next r.1
    else match r.2 with
      | some code => .next (r.1.slotRefused code)
      | none =>
        if r.1.rdFld Reg.DRC_STATUS 31 30 = 2 then
          .next ((State.contentAgain (r.1.cfgBody / 16) 0 r.1).fellBack)
        else .next r.1

/-! Reaping (R458, R459). -/

/-- Is a sown block to be reaped for the cause (R458)? Entry to SAFE from a loaded image keeps S2 and below, PW0–PW7, MGT0 and MGT1; after ROM
fallback it keeps S1. -/
def State.reapable (s : State) (c : ReapCause) (b : BlockId) : Bool :=
  match c with
  | .safe => if s.boot.romFallback then decide (2 ≤ b.stage)
      else decide (3 ≤ b.stage) && (match b with
        | .dedicated _ => false
        | _ => true)
  | _ => true

/-- Has the final checkpoint been written, or is none owed (R419, R458)? -/
def State.checkpointDone (s : State) : Bool := !s.power.finalCheckpoint || !s.lifeReady || s.life.queued.isEmpty

/-- May a block be reaped now: S1 waits for the final checkpoint and for every tail (R458, R459)? -/
def State.reapAllowed (s : State) (b : BlockId) : Bool := decide (2 ≤ b.stage) || (s.checkpointDone && s.power.tails.isEmpty)

/-- The lanes of a unit go to LD; the furrow's MDLL is off (R297, R278). -/
def State.reapLanes (s : State) (u : Nat) : State :=
  let s1 := (unitLanes u).foldl (fun a i =>
    ((a.setPstate i 2).wrFld (Reg.LAN_STATUS i) 31 30 0).setLane i { a.lane i with want := none, goal := none }) s
  let s2 := if u < 64 then s1.wrFld (Reg.SYN_FURROW_STATUS u) 31 30 0 else s1
  s2.setPower { s2.power with lastMove := s2.now }

/-- The receive groups joined are left before the engines go (R359). -/
def State.leaveGroups (s : State) : State :=
  if s.med.joined then
    let s1 := (List.range 1024).foldl (fun a p => if a.isEth p then a.igmp p true else a) s
    (s1.setMed { s1.med with joined := false, reported := none })
  else s

/-- What goes down with a block (R393: the ranks are in self-refresh, every owed refresh paid). -/
def State.blockFalls (s : State) (b : BlockId) : State :=
  let unlock (a : State) (n : Nat) : State :=
    (a.setBoot { a.boot with locks := Tab.erase a.boot.locks n }).wrBit (Reg.SYN_LOOP_STATUS n) 31 false
  match b with
  | .loop n => unlock s n
  | .chgrp g =>
    (List.range 4).foldl (fun a k =>
      let c := 4 * g + k
      (a.setDrc c coldDrc).wr (Reg.DRCC_STATUS c) (a.rd (Reg.DRCC_STATUS c) &&& 0x80000000)) ((unlock s (7 + g)).wrBit Reg.DRC_STATUS 28 true)
  | .furrow f => s.reapLanes f
  | .dedicated d => s.reapLanes (64 + d)
  | .core => s.leaveGroups
  | _ => s

/-- Take the newest sown block that is to be reaped. -/
def takeBlock (p : BlockId → Bool) : List BlockId → Option (BlockId × List BlockId)
  | [] => none
  | b :: rest =>
    if p b then some (b, rest)
    else match takeBlock p rest with
      | some (x, l) => some (x, b :: l)
      | none => none

/-- REAP_BLOCK (R458): in reverse order of sowing. -/
def execReapBlock (t : Nat) (rated : List (Nat × Nat)) (s0 : State) : Host.Outcome State Fault Refusal :=
  let s := s0.at t
  match s.power.reaping with
  | none => .next s
  | some c =>
    match takeBlock (s.reapable c) s.power.sown with
    | none => .next s
    | some (b, rest) =>
      if s.blockDue b rated = true ∧ s.reapAllowed b = true ∧ ratedOk rated = true then
        let s1 := s.takeRails rated
        let gone := !rest.any fun x => x.stage == b.stage && s.reapable c x
        let st := if gone then min s1.power.stage (b.stage - 1) else s1.power.stage
        .next ((s1.setPower { s1.power with sown := rest, stage := st }).blockFalls b)
      else .next s

/-- The stage that reaping stops at for a cause. -/
def State.reapFloor (s : State) (c : ReapCause) : Nat :=
  match c with
  | .safe => if s.boot.romFallback then 1 else 2
  | _ => 0

/-- REAPING_COMPLETE (R458): reaping has reached the depth of its cause. SAFE is settled, and a restart that waits is carried out (R58); a refused
image's device is back in BOOT, ALIVE low, the watchdog disarmed (R45); or the internal reset is asserted (R464, R467). -/
def execReapingComplete (t : Nat) (s0 : State) : Host.Outcome State Fault Refusal :=
  let s := s0.at t
  match s.power.reaping with
  | none => .next s
  | some c =>
    if s.power.sown.any (s.reapable c) then .next s
    else
      let s1 := s.setPower { s.power with reaping := none, stage := min s.power.stage (s.reapFloor c) }
      match c with
      | .safe =>
        if s1.power.restartDue then .next ((s1.setPower { s1.power with restartDue := false }).resetBegins .restart) else .next s1
      | .fallback => .next ((s1.keyLow.endClosing.unload.setMode .boot).enterBoot)
      | _ =>
        if s.checkpointDone && s.power.tails.isEmpty then .next ((s1.resetCause c.resetCode).internalReset) else .next s

/-- STOP_TAIL_END (R196, R459): a port's fade and tail end; TAIL_PENDING clears with the last. -/
def execStopTailEnd (t p : Nat) (s0 : State) : Host.Outcome State Fault Refusal :=
  let s := s0.at t
  let x := s.port p
  if x.phase = 3 ∧ x.since + s.portTailNs p ≤ s.now then
    let s1 := (s.setPort p { x with phase := 0, since := s.now }).wrBit (Reg.AP_STATUS p) 27 false
    .next (s1.setPower { s1.power with tails := s1.power.tails.filter (· != p) })
  else .next s

/-! RESTART (R53, R58) and ENTER_SAFE (R59). -/

/-- RESTART, once nothing forbids it: reaping, or the wait for reaping into SAFE (R58). -/
def State.restart (s : State) : State :=
  if s.power.reaping = some .safe then s.setPower { s.power with restartDue := true }
  else s.resetBegins .restart

/-- The command ENTER_SAFE (R59). -/
def State.cmdEnterSafe (s : State) : State := s.enterSafe 3 0 0

/-- ENTER_SAFE (R59, R70): TOP_CTRL with CONFIRM. -/
def execEnterSafe (t confirm : Nat) (s0 : State) : Host.Outcome State Fault Refusal :=
  let s := s0.at t
  if confirm = Config.confirm then .next s.cmdEnterSafe else .next s

/-! Adaptive core voltage (R462, R463). -/

/-- Does adaptive voltage run? -/
def State.avsRuns (s : State) : Bool := s.rdBit Reg.TOP_PWR_STATUS 25 && s.rdBit Reg.TOP_AVS_CFG 31

/-- AVS_TARGET_COMPUTE (R463): `need`: the lowest voltage in mV at which the speed monitors show margin. -/
def execAvsTargetCompute (t need : Nat) (s0 : State) : Host.Outcome State Fault Refusal :=
  let s := s0.at t
  if s.avsRuns then
    let mv := max 700 ((need + 4) / 5 * 5)
    let s1 := if 800 < mv then s.orReg Reg.TOP_PWR_STICKY 2 else s
    .next ((s1.setPower { s1.power with avsTarget := min 800 mv }).wrFld Reg.TOP_AVS_STATUS 25 16 (min 800 mv))
  else .next s

/-- A transaction that is not acknowledged three times (R462). -/
def State.pmbusFail (s : State) : State := s.orReg Reg.TOP_PWR_STICKY 1

/-- Send VOUT_COMMAND, after PAGE where one is set (R462). -/
def State.voutCommand (s : State) (mv : Nat) : State :=
  let page := s.rdFld Reg.TOP_AVS_CFG 15 8
  (if page = 255 then s else s.emit (.pmbus 0 page)).emit (.pmbus 0x21 mv)

/-- AVS_STEP (R463): one step of 5 mV towards the target, from the last command or from the regulator's own setpoint `own`. -/
def execAvsStep (t own : Nat) (acked : Bool) (s0 : State) : Host.Outcome State Fault Refusal :=
  let s := s0.at t
  let last := s.rdFld Reg.TOP_AVS_STATUS 9 0
  let here := if last = 0 then own else last
  if s.avsRuns = false ∨ s.power.avsTarget = 0 ∨ here = s.power.avsTarget ∨ (s.power.lastAvs ≠ 0 ∧ s.now < s.power.lastAvs + 100000000) then
    .next s
  else
    let mv := if here < s.power.avsTarget then min (here + 5) s.power.avsTarget else max (here - 5) s.power.avsTarget
    let s1 := (s.voutCommand mv).setPower { s.power with lastAvs := s.now }
    if acked then .next (s1.wrFld Reg.TOP_AVS_STATUS 9 0 mv) else .next s1.pmbusFail

/-- PMBUS_IOUT_READ (R462): READ_IOUT in 0.1 A; none after the third failure. -/
def execPmbusIoutRead (t : Nat) (iout : Option Nat) (s0 : State) : Host.Outcome State Fault Refusal :=
  let s := s0.at t
  if s.s1Runs = false then .next s
  else match iout with
    | some v => .next (s.wr Reg.TOP_CORE_IOUT (BitVec.ofNat 32 (min 65535 v)))
    | none => .next s.pmbusFail

end Sys2Proof.Machine
end

