-- ==== Sys2Proof/Machine/Session.lean ====
section
/-! DEFINITION. Write sessions, the directory writes and the commands of BOOT_CTRL and of IMAGE_CHUNK (R34, R48–R54, R110). -/
namespace Sys2Proof.Machine

/-- Set LAST_RESULT (R54). -/
def State.lastResult (s : State) (r : Nat) : State := s.wrFld Reg.BOOT_WR_STATUS 31 24 r

/-- Are BOOT_CTRL's SET_NEXT and ABORT_WRITE, and the Fratin forms, accepted in this mode (R53, R61)? They are in those in which RWL fields are
locked. -/
def State.sessionMode (s : State) : Bool := s.rwlLocked

/-! The directory (R34). -/

/-- DIRECTORY_WRITE (R33, R34): programmed into the other copy, with SEQ one higher and every change that is due. -/
def execDirectoryWrite (t : Nat) (s0 : State) : Host.Outcome State Fault Refusal :=
  let s := s0.at t
  if !s.mntRuns flashRes 2 then .next s
  else
    let d : Directory := { s.boot.dirDue with seq := (s.boot.dir.seq + 1) % 4294967296 }
    let k := 1 - s.boot.dirCopy
    let s1 := ((s.flashErase (131072 * k) 131072).flashPut (131072 * k) d.bytes).wrBit Reg.BOOT_STATUS 8 (k == 1)
    let s2 := if s1.rdFld Reg.BOOT_WR_STATUS 3 0 = 3 then s1.wrFld Reg.BOOT_WR_STATUS 3 0 4 else s1
    .next ((s2.setBoot { s2.boot with dir := d, dirDue := d, dirCopy := k, dirQueued := 0 }).mntDone flashRes)

/-! SET_NEXT, ABORT_WRITE, RESTART (R48, R53). -/

/-- A slot becomes NEXT unless a session is open or it is EMPTY, WRITING or FAILED (R53); with the result code. -/
def State.setNext (s : State) (x : Slot) : State × Nat :=
  if s.boot.session.isSome then (s, 0x02)
  else match slotState s.boot.dirDue x with
    | .written => ((s.setBoot { s.boot with dirDue := { s.boot.dirDue with next := x } }).queueDir, 0)
    | .good => ((s.setBoot { s.boot with dirDue := { s.boot.dirDue with next := x } }).queueDir, 0)
    | _ => (s, 0x09)

/-- DATA chunks that wait for the flash are withdrawn. -/
def State.dropChunks (s : State) : State :=
  let x := s.res flashRes
  s.setRes flashRes { x with queue := x.queue.filter fun a => a.code != 3 }

/-- The open session is closed in a state of BOOT_WR_STATUS; its slot stays as it is (R48). -/
def State.closeSession (s : State) (state : Nat) : State :=
  ((s.setBoot { s.boot with session := none }).dropChunks).wrFld Reg.BOOT_WR_STATUS 3 0 state

/-- BOOT_CTRL SET_NEXT. -/
def State.cmdSetNext (s : State) (x : Slot) : State :=
  if s.sessionMode then
    let r := s.setNext x
    r.1.lastResult r.2
  else s.lastResult 0x08

/-- BOOT_CTRL ABORT_WRITE: whatever the path of the open session. -/
def State.cmdAbortWrite (s : State) : State :=
  if s.sessionMode = false then s.lastResult 0x08
  else if s.boot.session.isSome then (s.closeSession 5).lastResult 0
  else s.lastResult 0x07

/-- BOOT_CTRL RESTART: in every mode. -/
def State.cmdRestart (s : State) : State :=
  if s.boot.session.isSome then s.lastResult 0x02 else (s.lastResult 0).restart

/-- A write of BOOT_CTRL (R54): ignored without CONFIRM. -/
def State.bootCtrl (s : State) (confirm cmd : Nat) : State :=
  if confirm ≠ Config.confirm then s
  else match cmd with
    | 0 => s
    | 1 => s.cmdSetNext .a
    | 2 => s.cmdSetNext .b
    | 3 => s.cmdAbortWrite
    | 4 => s.cmdRestart
    | _ => s.lastResult 0x0C

/-- SET_NEXT_A (R53). -/
def execSetNextA (t confirm : Nat) (s0 : State) : Host.Outcome State Fault Refusal := .next ((s0.at t).bootCtrl confirm 1)

/-- SET_NEXT_B (R53). -/
def execSetNextB (t confirm : Nat) (s0 : State) : Host.Outcome State Fault Refusal := .next ((s0.at t).bootCtrl confirm 2)

/-- ABORT_WRITE (R48). -/
def execAbortWrite (t confirm : Nat) (s0 : State) : Host.Outcome State Fault Refusal := .next ((s0.at t).bootCtrl confirm 3)

/-- RESTART (R53). -/
def execRestart (t confirm : Nat) (s0 : State) : Host.Outcome State Fault Refusal := .next ((s0.at t).bootCtrl confirm 4)

/-- BAD_COMMAND (R54): commands 0x5–0xF. -/
def execBadCommand (t confirm cmd : Nat) (s0 : State) : Host.Outcome State Fault Refusal :=
  let s := s0.at t
  if 5 ≤ cmd ∧ cmd ≤ 15 then .next (s.bootCtrl confirm cmd) else .next s

/-- The staged key hash, BOOT_KEYHASH0 first, low byte first (R54). -/
def State.stagedHash (s : State) : List Byte := (List.range 8).flatMap fun k => toLe 4 (s.rd (Reg.BOOT_KEYHASH k)).toNat

/-- A write of BOOT_FUSE_CTRL (R54): BURN with CONFIRM in TEST with the fuse blank. `got` is what the fuses read back. -/
def State.fuseWrite (s : State) (w : Word) (got : List Byte) : State :=
  let s1 := s.wrFld Reg.BOOT_FUSE_CTRL 31 16 (fld w 31 16)
  if fld w 31 16 = Config.confirm ∧ bit w 0 = true ∧ s.ctl.mode = .test ∧ s.boot.fuse.isNone = true then
    let s2 := s1.setBoot { s1.boot with fuse := some got }
    if got = s.stagedHash then s2 else s2.wrBit Reg.BOOT_FUSE_CTRL 2 true
  else s1

/-- FUSE_BURN (R54). -/
def execFuseBurn (t value : Nat) (got : List Byte) (s0 : State) : Host.Outcome State Fault Refusal :=
  .next ((s0.at t).fuseWrite (BitVec.ofNat 32 value) got)

/-! IMAGE_CHUNK (R48, R49, R110). -/

/-- The path code of BOOT_WR_STATUS (R54); MGT0 and MGT1 are one path (R48). -/
def pathCode : MsgPath → Nat
  | .mgt _ => 1
  | .mailbox => 2

/-- The next expected offset that replies carry (R110). -/
def State.nextOffset (s : State) : Nat :=
  match s.boot.session with
  | some w => w.expected
  | none => (s.rd Reg.BOOT_WR_OFFSET).toNat

/-- An operation is accepted: VALUE is the next expected offset (R110). -/
def State.chunkOk (s : State) (r : ReplyTo) : State := (s.lastResult 0).ackMsg r 0 0 s.nextOffset 0 0

/-- An operation is refused with IMAGE_REFUSED (R110). -/
def State.chunkNo (s : State) (r : ReplyTo) (code : Nat) : State := (s.lastResult code).nakMsg r 0x26 0xFFFF code s.nextOffset

/-- The IMAGE_CHUNK at the front of the receive queue, if it carries an operation. -/
def State.takeImage (s : State) (op : Nat) : Option (Msg × State) :=
  match s.takeMsg 0x30 with
  | some (m, s1) => if byteAt m.body 0 = op then some (m, s1) else none
  | none => none

/-- The slot an operation names. -/
def bodySlot (b : List Byte) : Slot := if byteAt b 1 = 0 then .a else .b

/-- Does an operation that names a session name the open one on its path (R48)? Else the code of its refusal. -/
def State.sessionOf (s : State) (m : Msg) : Except Nat WriteSession :=
  match s.boot.session with
  | none => .error 0x07
  | some w =>
    if w.slot ≠ bodySlot m.body ∨ w.sid ≠ byteAt m.body 2 then .error 0x07
    else if pathCode w.path ≠ pathCode m.reply.path then .error 0x02
    else .ok w

/-- Is an operation of a write session heard (R50, R61)? A follower whose party wall is down is written only through its card port. -/
def State.imageServed (s : State) (m : Msg) : Bool :=
  s.sessionMode && !(pathCode m.reply.path == 1 && s.ctl.role == .follower && !s.twn.wall.up)

/-- Is a slot the one booted in this run (R48)? -/
def State.activeSlot (s : State) (x : Slot) : Bool := decide (s.boot.booted = some x)

/-- A session is opened (R48): its slot becomes WRITING; NEXT leaves it for the active slot. -/
def State.openSession (s : State) (m : Msg) : State :=
  let x := bodySlot m.body
  let d0 := withSlotState s.boot.dirDue x .writing
  let d1 : Directory := match x with
    | .a => { d0 with lenA := 0 }
    | .b => { d0 with lenB := 0 }
  let d : Directory := match s.boot.booted with
    | some active => if d1.next = x then { d1 with next := active } else d1
    | none => d1
  let w : WriteSession := ⟨m.reply.path, x, byteAt m.body 2, beAt m.body 4 4, beAt m.body 8 4, 0, s.now, s.now, []⟩
  let s1 := (s.dropChunks.setBoot { s.boot with session := some w, dirDue := d }).queueDir
  let st := w.sid * 256 + pathCode m.reply.path * 64 + slotCode x * 16 + 1
  (s1.wr Reg.BOOT_WR_STATUS (BitVec.ofNat 32 st)).wr Reg.BOOT_WR_OFFSET 0

/-- IMAGE_START (R48): refused with ADDRESS_PAIR, FLASH_BUSY, SLOT_ACTIVE or PAST_SLOT, in this order, leaving an open session as it
was. -/
def execImageStart (t : Nat) (s0 : State) : Host.Outcome State Fault Refusal :=
  let s := s0.at t
  match s.takeImage 1 with
  | none => .next s
  | some (m, s1) =>
    if s1.imageServed m = false then .next s1
    else if m.toPair then .next (s1.chunkNo m.reply 0x0A)
    else if s1.boot.session.any fun w => pathCode w.path != pathCode m.reply.path then .next (s1.chunkNo m.reply 0x02)
    else if s1.activeSlot (bodySlot m.body) then .next (s1.chunkNo m.reply 0x01)
    else if slotLength < beAt m.body 4 4 then .next (s1.chunkNo m.reply 0x05)
    else .next ((s1.openSession m).chunkOk m.reply)

/-- Replace the open session. -/
def State.setSession (s : State) (w : WriteSession) : State := s.setBoot { s.boot with session := some w }

/-- What the offset and the CRC of a chunk say (R48): 0 to be programmed, 1 acknowledged again, or a refusal code above 1. -/
def chunkVerdict (w : WriteSession) (c : QueuedChunk) : Nat :=
  if c.offset < w.expected then 1
  else if w.expected < c.offset then 0x03
  else if c.crcOk = false then 0x04
  else 0

/-- A chunk is queued on the flash resource (R49): QUEUED while it waits behind another activity. -/
def State.queueChunk (s : State) (w : WriteSession) (c : QueuedChunk) : State :=
  let r := (s.setSession { w with chunks := w.chunks ++ [c] }).mntRequest flashRes ⟨3, w.opened⟩
  match r.2 with
  | .queued => r.1.wrFld Reg.BOOT_WR_STATUS 3 0 2
  | _ => r.1

/-- IMAGE_DATA (R48, R49): a chunk behind others of its session is judged when its turn comes (log 44). -/
def execImageData (t : Nat) (s0 : State) : Host.Outcome State Fault Refusal :=
  let s := s0.at t
  match s.takeImage 2 with
  | none => .next s
  | some (m, s1) =>
    if s1.imageServed m = false then .next s1
    else if m.toPair then .next (s1.chunkNo m.reply 0x0A)
    else match s1.sessionOf m with
      | .error code => .next (s1.chunkNo m.reply code)
      | .ok w0 =>
        let w : WriteSession := { w0 with lastChunk := s1.now }
        let s2 := s1.setSession w
        let n := beAt m.body 8 2
        let data := slice m.body 16 n
        let c : QueuedChunk := ⟨m.reply, beAt m.body 4 4, data, crc32 data == beAt m.body 12 4⟩
        if w.total < c.offset + n then .next (s2.chunkNo m.reply 0x05)
        else
          let v := if w.chunks.isEmpty then chunkVerdict w c else 0
          if v = 1 then .next (s2.chunkOk m.reply)
          else if 1 < v then .next (s2.chunkNo m.reply v)
          else if 16 ≤ (s2.res flashRes).queue.length then .next (s2.chunkNo m.reply 0x02)
          else .next (s2.queueChunk w c)

/-- Erase the sectors whose first byte a chunk writes (R48). -/
def State.eraseFor (s : State) (x : Slot) (off n : Nat) : State :=
  let first := (off + 65535) / 65536
  let last := (off + n + 65535) / 65536
  (List.range (last - first)).foldl (fun a k => a.flashErase (slotBase x + 65536 * (first + k)) 65536) s

/-- n bytes that the spec leaves open (log 2). -/
def freeBytes (v : Nat) (n : Nat) : List Byte := (List.range n).map fun i => BitVec.ofNat 8 (v / 256 ^ i)

/-- The chunk whose turn has come is programmed and read back (R48, R49). A failed one leaves open what its bytes hold. -/
def State.programChunk (s : State) (w : WriteSession) (c : QueuedChunk) (ok : Bool) : State :=
  let at_ := slotBase w.slot + c.offset
  let n := c.data.length
  let s1 := s.eraseFor w.slot c.offset n
  if ok then
    let s2 := (s1.flashPut at_ c.data).setSession { w with expected := c.offset + n }
    (s2.wr Reg.BOOT_WR_OFFSET (BitVec.ofNat 32 (c.offset + n))).chunkOk c.reply
  else
    let s2 := (s1.flashPut at_ (freeBytes s1.freeVal n)).freeNext
    ((s2.setSession w).raise 0x098 0x11 at_ 2).chunkNo c.reply 0x0B

/-- CHUNK_PROGRAMMED (R49): `ok`: the read-back agrees. -/
def execChunkProgrammed (t : Nat) (ok : Bool) (s0 : State) : Host.Outcome State Fault Refusal :=
  let s := s0.at t
  match (s.res flashRes).running, s.boot.session with
  | some a, some w =>
    if a.code ≠ 3 then .next s
    else if a.unit ≠ w.opened then .next (s.mntDone flashRes)
    else match w.chunks with
      | [] => .next (s.mntDone flashRes)
      | c :: rest =>
        let w1 : WriteSession := { w with chunks := rest }
        let v := chunkVerdict w c
        let s1 := if v = 0 then s.programChunk w1 c ok
          else if v = 1 then (s.setSession w1).chunkOk c.reply
          else (s.setSession w1).chunkNo c.reply v
        .next (s1.mntDone flashRes)
  | some a, none => if a.code = 3 then .next (s.mntDone flashRes) else .next s
  | none, _ => .next s

/-- IMAGE_END (R48). STATE reads FINISHING until the directory write that makes the slot WRITTEN is done (DESIGN CHOICE, log 44). -/
def execImageEnd (t : Nat) (s0 : State) : Host.Outcome State Fault Refusal :=
  let s := s0.at t
  match s.takeImage 3 with
  | none => .next s
  | some (m, s1) =>
    if s1.imageServed m = false then .next s1
    else if m.toPair then .next (s1.chunkNo m.reply 0x0A)
    else match s1.sessionOf m with
      | .error code => .next (s1.chunkNo m.reply code)
      | .ok w =>
        let s2 := s1.setSession { w with lastChunk := s1.now }
        if w.expected < w.total then .next (s2.chunkNo m.reply 0x03)
        else if crc32 (s2.flashBytes (slotBase w.slot) w.total) ≠ w.crc then
          .next ((s2.closeSession 5).chunkNo m.reply 0x06)
        else
          let d0 := withSlotState s2.boot.dirDue w.slot .written
          let d1 : Directory := match w.slot with
            | .a => { d0 with lenA := w.total }
            | .b => { d0 with lenB := w.total }
          let d : Directory := if byteAt m.body 3 = 1 then { d1 with next := w.slot } else d1
          .next (((((s2.setBoot { s2.boot with dirDue := d }).queueDir).closeSession 3)).chunkOk m.reply)

/-- IMAGE_SET_NEXT (R53, R110). -/
def execImageSetNext (t : Nat) (s0 : State) : Host.Outcome State Fault Refusal :=
  let s := s0.at t
  match s.takeImage 4 with
  | none => .next s
  | some (m, s1) =>
    if s1.sessionMode = false then .next s1
    else if m.toPair then .next (s1.chunkNo m.reply 0x0A)
    else
      let r := s1.setNext (bodySlot m.body)
      if r.2 = 0 then .next (r.1.chunkOk m.reply) else .next (r.1.chunkNo m.reply r.2)

/-- IMAGE_RESTART (R53, R110): the ACK is sent before reaping begins. -/
def execImageRestart (t : Nat) (s0 : State) : Host.Outcome State Fault Refusal :=
  let s := s0.at t
  match s.takeImage 5 with
  | none => .next s
  | some (m, s1) =>
    if s1.sessionMode = false then .next s1
    else if m.toPair then .next (s1.chunkNo m.reply 0x0A)
    else if s1.boot.session.isSome then .next (s1.chunkNo m.reply 0x02)
    else .next ((s1.chunkOk m.reply).restart)

/-- IMAGE_ABORT_WRITE (R48). -/
def execImageAbortWrite (t : Nat) (s0 : State) : Host.Outcome State Fault Refusal :=
  let s := s0.at t
  match s.takeImage 6 with
  | none => .next s
  | some (m, s1) =>
    if s1.imageServed m = false then .next s1
    else if m.toPair then .next (s1.chunkNo m.reply 0x0A)
    else match s1.sessionOf m with
      | .error code => .next (s1.chunkNo m.reply code)
      | .ok _ => .next ((s1.closeSession 5).chunkOk m.reply)

/-- Is a message body a DATA chunk of a session? -/
def chunkOf (w : WriteSession) (b : List Byte) : Bool := byteAt b 0 == 2 && bodySlot b == w.slot && byteAt b 2 == w.sid

/-- Has a DATA chunk of the open session arrived that has not been taken yet, or does one arrive in this instant (R49)? -/
def State.chunkArrives (s : State) (w : WriteSession) : Bool :=
  (s.xpt.rx.any fun m => m.reply.type == 0x30 && chunkOf w m.body && pathCode m.reply.path == pathCode w.path) ||
  s.sameInstant fun c => match c with
    | .fratinReceive t p d => decide (t ≤ s.now) && pathCode p == pathCode w.path && byteAt d.data 3 == 0x30 && chunkOf w (d.data.drop 24)
    | _ => false

/-- WRITE_SESSION_TIMEOUT (R49): no chunk for 60 s; the slot stays WRITING. A chunk of the same instant is accepted, and the timeout does not
fire. -/
def execWriteSessionTimeout (t : Nat) (s0 : State) : Host.Outcome State Fault Refusal :=
  let s := s0.at t
  match s.boot.session with
  | some w => if w.lastChunk + 60000000000 ≤ s.now ∧ s.chunkArrives w = false then .next ((s.closeSession 5).lastResult 0x0D) else .next s
  | none => .next s

end Sys2Proof.Machine
end

