-- ==== Sys2Proof/Machine/View.lean ====
section
/-! DEFINITION. What the registers read as (R2, R5, R6): those the device computes from its state; every other register reads what it
stores. -/
namespace Sys2Proof.Machine

/-- A word of fields: value and lowest bit of each. -/
def word (fs : List (Nat × Nat)) : Word := BitVec.ofNat 32 (fs.foldl (fun a f => a + f.1 * 2 ^ f.2) 0)

/-- A word of bits n = 0–31. -/
def sumWord (p : Nat → Bool) : Word := word ((List.range 32).map fun n => (b2n (p n), n))

/-- The low word of a number. -/
def loWord (n : Nat) : Word := BitVec.ofNat 32 n
/-- The high word of a 64-bit number. -/
def hiWord (n : Nat) : Word := BitVec.ofNat 32 (n / 4294967296)

/-! TOP (R70, R469). -/

/-- TOP_MODE. -/
def State.modeWord (s : State) : Word :=
  word [(s.ctl.mode.code, 0), (s.ctl.role.code, 8), (b2n s.ctl.immediate, 12), (b2n s.ctl.selfPlaced, 13), (b2n s.ctl.paired, 14),
    (b2n s.ctl.joinAbandoned, 15)]

/-- TOP_CAP_UNITS. -/
def State.capUnits (s : State) : Word :=
  let v := s.dev.variant
  let c := b2n (decide (0 < v.compositors))
  word [(2 ^ v.groups - 1, 0), (v.compositors, 8), (c, 16), (c, 17)]

/-- TOP_PWR_STATUS; PMBUS_OK is the stored bit. -/
def State.pwrStatus (s : State) : Word :=
  word [(s.power.moves.length, 0), (b2n (s.rdBit Reg.TOP_PWR_STATUS 25), 25), (b2n (!s.power.tails.isEmpty), 26), (b2n s.power.sowing, 27),
    (b2n s.power.reaping.isSome, 28), (s.power.stage, 29)]

/-- The registers of TOP that are computed. -/
def State.viewTop (s : State) (off : Nat) : Option Word :=
  if off = Reg.TOP_ID then some (word [(0x5A48, 16), (s.dev.variant.code, 8), (s.dev.stepping % 32, 0)])
  else if off = Reg.TOP_CAP_FIELDS then some (loWord (2 ^ s.dev.variant.fields - 1))
  else if off = Reg.TOP_CAP_UNITS then some s.capUnits
  else if off = Reg.TOP_CAP_AUDIO then some (loWord (2 ^ s.dev.variant.ports - 1))
  else if off = Reg.TOP_MODE then some s.modeWord
  else if off = Reg.TOP_MODE_TIME then some (loWord (min 4294967295 ((s.now - s.ctl.modeSince) / 1000000000)))
  else if off = Reg.TOP_STRAPS then some (loWord (s.pins.straps % 16))
  else if off = Reg.TOP_PWR_STATUS then some s.pwrStatus
  else none

/-! BOOT (R54). -/

/-- BOOT_DIR: the directory in use; 0 until it has been read. -/
def State.dirWord (s : State) : Word :=
  let d := s.boot.dir
  word [(slotCode d.next, 0), (d.stateA.code, 4), (d.stateB.code, 8), (d.seq % 65536, 16)]

/-- The registers of BOOT that are computed. -/
def State.viewBoot (s : State) (off : Nat) : Option Word :=
  if off = Reg.BOOT_DIR then some s.dirWord
  else if off = Reg.BOOT_UID_LO then some (loWord s.dev.uid)
  else if off = Reg.BOOT_UID_HI then some (hiWord s.dev.uid)
  else if off = Reg.BOOT_FUSE_CTRL then some (setFld (s.rd Reg.BOOT_FUSE_CTRL) 1 1 (b2n s.boot.fuse.isSome))
  else if 0x010060 ≤ off ∧ off < 0x010080 then
    some (loWord (le (slice (s.boot.fuse.getD []) (off - 0x010060) 4)))
  else none

/-! FLT (R424). -/

/-- FLT_MNT_STATE of the resource in FLT_MNT_SEL. -/
def State.mntWord (s : State) : Word :=
  let r := s.rdFld Reg.FLT_MNT_SEL 6 0
  if s.resPresent r = false then 0
  else
    let x := s.res r
    match x.running with
    | none => loWord (x.refused % 65536)
    | some a => word [(min x.refused 65535, 0), (min x.queue.length 16, 16), (a.code, 24), (if x.queue.isEmpty then 1 else 2, 28)]

/-- The registers of FLT that are computed. -/
def State.viewFlt (s : State) (off : Nat) : Option Word :=
  if off = Reg.FLT_STATUS then
    some (word [(s.flt.fifo.length, 0), (b2n s.flt.armed, 29), (b2n s.faultN, 30), (b2n s.flt.overflow, 31)])
  else if 0x020010 ≤ off ∧ off < 0x020020 then
    some (match s.flt.fifo with
      | r :: _ => r.word ((off - 0x020010) / 4)
      | [] => 0)
  else if off = Reg.FLT_MNT_STATE then some s.mntWord
  else none

/-! TWN (R247). -/

/-- Are the keyholder's decisions followed (R119, R242)? -/
def State.followsNow (s : State) : Bool := s.ctl.role == .follower && s.twn.wall.up && s.twn.following

/-- TWN_STATUS. -/
def State.twnStatus (s : State) : Word :=
  let divergent := s.twn.resyncPending || (match s.twn.divergentAt with
    | some u => decide (s.now ≤ u + 1000000000)
    | none => false)
  word [(s.twn.ho.status % 4, 16), (b2n s.twn.resyncPending, 21), (b2n s.twn.arb.capped, 22), (b2n s.twn.arb.running.isSome, 23),
    (b2n divergent, 24), (b2n s.followsNow, 25), (b2n s.twn.wall.up, 26), (b2n s.gateOpen, 27),
    (b2n (s.twn.key.aliveSeen && decide (s.now < s.twn.key.aliveEdge + 3000000)), 28), (b2n s.flt.aliveRuns, 29),
    (b2n s.pins.keyIn, 30), (b2n s.pins.keyOut, 31)]

/-- TWN_PEER: what the last HEARTBEAT said, while it is at most 300 µs old. -/
def State.peerWord (s : State) : Word :=
  match s.twn.wall.peer with
  | none => 0
  | some h =>
    if s.twn.wall.up && decide (s.now ≤ s.twn.wall.lastHb + 300000) then
      word [(h.systemId % 16384, 0), (b2n (h.compat == (s.rd Reg.BOOT_COMPAT_ID).toNat), 21), (b2n (h.hash == s.cfgHash), 22),
        (h.side % 2, 23), (h.role % 8, 24), (h.mode % 8, 28), (1, 31)]
    else 0

/-- TWN_JOIN. -/
def State.joinWord (s : State) : Word :=
  let j := s.twn.join
  let fill := j.toFill.foldl (fun a e => a + e.2) 0
  word [(min fill 16777215, 0), (min j.attempts 15, 24), (b2n (decide (3 < j.attempts)), 29), (b2n j.applied, 30), (b2n j.active, 31)]

/-- The registers of TWN that are computed. In BOOT no health is kept yet: the score and the health words read 0. -/
def State.viewTwn (s : State) (off : Nat) : Option Word :=
  if off = Reg.TWN_STATUS then some s.twnStatus
  else if off = Reg.TWN_SCORE then some (word [(if s.ctl.mode = .boot then 0 else s.score, 0), (s.peerScore, 16)])
  else if off = Reg.TWN_PEER then some s.peerWord
  else if off = Reg.TWN_WALL then
    let l := s.twn.wall.locked % 256
    some (word [(l, 0), (l, 16), (b2n (l != 0), 30), (b2n s.twn.wall.up, 31)])
  else if off = Reg.TWN_JOIN then some s.joinWord
  else if 0x030080 ≤ off ∧ off < 0x030100 then
    some (if s.ctl.mode = .boot then 0 else loWord (s.healthWord ((off - 0x030080) / 4)))
  else none

/-! TMG and PTP (R268, R382). -/

/-- TMG_TGg_STATE. -/
def State.tgState (s : State) (g : Nat) : Word :=
  let x := s.grp g
  let active := if s.tgUsed g then x.active else none
  word [(s.liveBits g, 0), (match active with
      | some k => s.candKind g k
      | none => 0, 8), (b2n x.realign.isSome, 14), (b2n x.holdValid, 15), (match active with
      | some k => k
      | none => 7, 16)]

/-- TMG_TGg_CAND_STATUS. -/
def State.candStatus (s : State) (g : Nat) : Word :=
  word ((List.range 4).map fun k =>
    let c := (s.grp g).cand k
    let free := s.candKind g k == 5
    (b2n (c.present || free) + 2 * b2n (c.qualified || free) + 4 * b2n c.drift + 8 * (c.cause % 8), 8 * k))

/-- The registers of TMG that are computed. -/
def State.viewTmg (s : State) (off : Nat) : Option Word :=
  if off = Reg.TMG_STATUS then
    some (sumWord fun n => if n < 16 then (s.liveBits n).testBit 0 else (s.liveBits (n - 16)).testBit 2 || (s.liveBits (n - 16)).testBit 3)
  else if 0x040100 ≤ off ∧ off < 0x040500 then
    let g := (off - 0x040100) / 0x40
    let x := s.grp g
    match (off - 0x040100) % 0x40 with
    | 0x14 => some (s.tgState g)
    | 0x20 => some (s.candStatus g)
    | 0x24 => some (BitVec.ofInt 32 (if x.active.isSome then x.phi else 0))
    | 0x28 => some (BitVec.ofInt 32 x.freq)
    | 0x2C => some (loWord x.frame)
    | 0x30 => some (hiWord x.frame)
    | _ => none
  else none

/-- Is PTP port k MASTER behind a closed key gate (R372)? -/
def State.ptpGated (s : State) (k : Nat) : Bool := s.ptpPort k == 6 && !s.gateOpen

/-- The registers of PTP that are computed in part. A read in the instant of a PPS_IN edge returns the previous edge (R381). -/
def State.viewPtp (s : State) (off : Nat) : Option Word :=
  if off = Reg.PTP_PPSIN_OFF then some (match s.ptp.ppsEdge with
    | some (_, u) => if u = s.now then s.ptp.ppsOff else s.rd off
    | none => s.rd off)
  else if off = Reg.PTP_STATUS then some (setFld (s.rd off) 26 26 (b2n ((List.range 64).any s.ptpGated)))
  else if 0x060100 ≤ off ∧ off < 0x060900 ∧ off % 0x20 = 4 then
    some (setFld (s.rd off) 31 31 (b2n (s.ptpGated ((off - 0x060100) / 0x20))))
  else none

/-! XPT and FST (R113, R146). -/

/-- XPT_STATUS. -/
def State.xptStatus (s : State) : Word :=
  word [(b2n (s.lintelMask != 0), 8), (b2n (!s.xpt.queue.isEmpty && s.validates), 9), (min s.xpt.opened.length 16, 10),
    (min (s.xpt.pending.filter fun p => p.kind == 0).length 16, 15), (min s.xpt.rx.length 256, 20)]

/-- SWLINE_F2: the second-field switching line of the format of a group in use, else 0 (R76). -/
def lineF2 (format : Nat) : Nat :=
  match format with
  | 0 => 273
  | 1 => 319
  | 3 => 569
  | 4 => 569
  | _ => 0

/-- The registers of XPT that are computed; what XPT_SNAP_DATA reads with no snapshot is open (R113). -/
def State.viewXpt (s : State) (off : Nat) : Option Word :=
  if off = Reg.XPT_STATUS then some s.xptStatus
  else if 0x080140 ≤ off ∧ off < 0x080180 then
    let g := (off - 0x080140) / 4
    some (setFld (s.rd off) 28 16 (if s.tgUsed g then lineF2 (s.tgFormat g) else 0))
  else if 0x090000 ≤ off ∧ off < 0x0A0000 then some (loWord (s.xpt.snap.getD ((off - 0x090000) / 4) 0))
  else none

/-- The mode of a stream as R143 numbers it. -/
def State.streamMode (s : State) (i : Nat) : Nat :=
  if i < 4096 then (s.stream i).mode else if i < 8192 then 4 else if i < 8448 then 5 else 6

/-- FST_STREAM of the selected stream. -/
def State.streamWord (s : State) (i : Nat) : Word :=
  match s.streamCfg i with
  | none => 0
  | some c =>
    word [((if i < 4096 then (s.stream i).delay else if i < 8192 then c.delay else 0) % 65536, 0), (if i < 8192 then c.depth % 16 else 0, 16),
      (c.readGroup % 16, 20), (s.streamMode i, 24), (c.code % 8, 28), (1, 31)]

/-- The registers of FST that are computed: those of the stream in FST_SEL, and FOLLOWING. -/
def State.viewFst (s : State) (off : Nat) : Option Word :=
  let i := s.rdFld Reg.FST_SEL 13 0
  let x := s.stream i
  let empty := s.rdBit Reg.FST_STATUS 2 || (s.ctl.selfPlaced && s.usedGroups.any fun g => decide (s.spareBytes < Tab.get 0 s.fst.spares g + 160))
  if off = Reg.FST_STATUS then some (setFld (setFld (s.rd Reg.FST_STATUS) 0 0 (b2n s.followsNow)) 2 2 (b2n empty))
  else if off = Reg.FST_STREAM then some (s.streamWord i)
  else if off = Reg.FST_QMAX then some (loWord s.qmaxValue)
  else if off = Reg.FST_INEXACT then some (loWord x.inexactLast)
  else if off = Reg.FST_WIDX_LO then some (loWord x.widxLast)
  else if off = Reg.FST_WIDX_HI then some (hiWord x.widxLast)
  else if 0x0A0040 ≤ off ∧ off < 0x0A0068 then some (loWord (Tab.get 0 x.qLast ((off - 0x0A0040) / 4)))
  else if off = Reg.FST_CNT_REPEAT then some (loWord (x.repeats - x.repeatsRead))
  else if off = Reg.FST_CNT_DROP then some (loWord (x.drops - x.dropsRead))
  else none

/-! CMP and AUD (R173, R202). -/

/-- CMP_LINTEL. -/
def State.lintelWord (s : State) : Word :=
  let m := s.lintelMask
  word [(m % 65536, 0), (b2n (!s.decides), 28), (b2n (s.lin.msgMask != 0), 29), (b2n s.lin.pinLevel, 30), (b2n (m != 0), 31)]

/-- CMP_LINTEL_LOADED. -/
def State.loadedWord (s : State) : Word :=
  sumWord fun n => if n < 16 then (Tab.find? s.lintelSlots n).isSome else (Tab.find? s.cfg.lintelSlots (n - 16)).isSome

/-- The registers of CMP that are computed: LINE_FED of the V layers of an active compositor; CMP_Ln_TONE of a G layer reads 0,
and its CMP_Ln_SIZE is the content size in CMP_Ln_CROP_WH. -/
def State.viewCmp (s : State) (off : Nat) : Option Word :=
  let o := (off - 0x0C0000) % 0x800
  let c := (off - 0x0C0000) / 0x800
  if o = 0x400 then some s.lintelWord
  else if o = 0x404 then some s.loadedWord
  else if 0x300 ≤ o ∧ o < 0x400 ∧ o % 0x40 = 0x14 then some 0
  else if 0x300 ≤ o ∧ o < 0x400 ∧ o % 0x40 = 0x08 then some (s.rd (off - 4))
  else if 0x100 ≤ o ∧ o < 0x300 ∧ o % 0x40 = 0x10 then
    some (setFld (s.rd off) 27 27 (b2n (s.cmpActive c && s.lineFed (s.layerSrc c ((o - 0x100) / 0x40)))))
  else none

/-- AUD_IN_STATUS of the input in AUD_IN_SEL. -/
def State.audInWord (s : State) : Word :=
  let i := s.rdFld Reg.AUD_IN_SEL 13 0
  if (s.originsOf i).isEmpty then 0
  else
    let x := s.audIn i
    word [(min x.slips 65535, 0), (min x.fill 8, 24), (b2n x.notReady, 29), (b2n (s.inForeign i), 30), (1, 31)]

/-- The registers of AUD that are computed. -/
def State.viewAud (s : State) (off : Nat) : Option Word :=
  if off = Reg.AUD_STATUS then
    some (sumWord fun n => if n < 16 then s.rdBit (Reg.AP_STATUS n) 31 else s.rdBit (Reg.AP_STATUS (n - 16)) 30)
  else if off = Reg.AUD_IN_STATUS then some s.audInWord
  else if 0xE1004 ≤ off ∧ off < 0xE2000 ∧ off % 256 = 4 then
    (let p := (off - 0xE1000) / 256
     some (setFld (s.rd off) 27 27 (b2n (s.rdBit off 27 || s.inTail p))))
  else if 0xE1000 ≤ off ∧ off < 0xE2000 ∧ 0x10 ≤ off % 256 ∧ off % 256 < 0x20 then
    (let m := s.portMask ((off - 0xE1000) / 256) (decide (0x18 ≤ off % 256))
     some (BitVec.ofNat 32 (if off % 8 = 0 then m else m / 4294967296)))
  else none

/-! DMA and CPT (R451, R452). -/

/-- The code of a DMA channel state. -/
def ChanState.code : ChanState → Nat
  | .idle => 0
  | .run => 1
  | .idleAtEnd => 2
  | .stopped => 3
  | .halted => 4

/-- The registers of DMA that are computed. -/
def State.viewDma (s : State) (off : Nat) : Option Word :=
  if off = Reg.DMA_STATUS then
    some (setFld (s.rd Reg.DMA_STATUS) 5 0 ((List.range 32).filter fun c => (s.chan c).st == .run).length)
  else if off = Reg.DMA_REQ_LO then some (sumWord s.lineUp)
  else if off = Reg.DMA_REQ_HI then some (sumWord fun n => s.lineUp (n + 32))
  else if 0x100040 ≤ off ∧ off < 0x100050 then
    some (setFld (s.rd off) 29 24 (min 64 (s.capture ((off - 0x100040) / 4)).length))
  else if 0x100050 ≤ off ∧ off < 0x100060 then
    some (match s.capture ((off - 0x100050) / 4) with
      | [] => 0
      | v :: _ => BitVec.ofNat 32 (v % 16777216 * 256))
  else if 0x101000 ≤ off ∧ off < 0x101800 then
    let x := s.chan ((off - 0x101000) / 0x40)
    match (off - 0x101000) % 0x40 with
    | 0x00 => some (loWord (b2n x.kickPending))
    | 0x04 => some (word [(x.err % 16, 24), (x.st.code, 28)])
    | 0x10 => some (loWord (x.remain % 16777216))
    | _ => none
  else if 0x108000 ≤ off ∧ off < 0x110000 then
    let d := (off - 0x108000) / 2
    some (word [(Tab.get 0 s.dma.meters d % 65536, 0), (Tab.get 0 s.dma.meters (d + 1) % 65536, 16)])
  else none

/-- Does the SDI or MAC page of a numbered lane have an enabled event set? -/
def State.portEvent (s : State) (l : Nat) : Bool :=
  s.evCond (Reg.SDI_EVENT l) (Reg.SDI_EVENT_EN l) || s.evCond (Reg.MAC_EVENT l) (Reg.MAC_EVENT_EN l)

/-- CPT_STATUS. -/
def State.cptStatus (s : State) : Word :=
  word [(b2n s.pcie.d3hot, 20), (b2n s.spiMode, 21), (b2n s.pcie.busMaster, 22), (b2n s.pcie.msixEn, 23), (s.pcie.width % 16, 24),
    (s.pcie.speed % 8, 28), (b2n s.pcie.linkUp, 31)]

/-- The registers of CPT that are computed; what CPT_MBX_OUT reads beyond the reply presented is open (R451). -/
def State.viewCpt (s : State) (off : Nat) : Option Word :=
  if off = Reg.CPT_STATUS then some s.cptStatus
  else if off = Reg.CPT_PCI_ID then some (word [(0x5A48, 16), (s.dev.vendorId % 65536, 0)])
  else if off = Reg.CPT_MBX_OUT_STATUS then
    some (word [(s.card.mbxOut.length, 0), (s.card.mbxQueue.length, 16), (b2n (!s.card.mbxOut.isEmpty), 31)])
  else if 0x110100 ≤ off ∧ off < 0x110180 then
    some (sumWord fun b => s.portEvent (8 * (off - 0x110100) + b))
  else if off = Reg.CPT_CMP_SUM_LO then some (sumWord fun c => s.evCond (Reg.CMP_EVENT c) (Reg.CMP_EVENT_EN c))
  else if off = Reg.CPT_CMP_SUM_HI then some (sumWord fun c => s.evCond (Reg.CMP_EVENT (c + 32)) (Reg.CMP_EVENT_EN (c + 32)))
  else if off = Reg.CPT_PORT_SUM_MGT then
    some (sumWord fun m => decide (m < 2) && s.evCond (Reg.MAC_EVENT (1032 + m)) (Reg.MAC_EVENT_EN (1032 + m)))
  else if 0x118000 ≤ off ∧ off < 0x11A328 then some (loWord (le (slice s.card.mbxOut (off - 0x118000) 4)))
  else none

/-! MED, LAN, MAC, LIFE (R362, R308, R338, R426). -/

/-- The registers of MED that are computed. -/
def State.viewMed (s : State) (off : Nat) : Option Word :=
  if off = Reg.MED_STATUS then some (word [(s.rxcs.length, 0), (s.txcs.length, 16)])
  else if 0x240100 ≤ off ∧ off < 0x240500 then
    some (sumWord fun b => (s.rd (Reg.RXC_EVENT (8 * (off - 0x240100) + b)) &&& (s.rd Reg.MED_EVENT_EN &&& 0xFF)) != 0)
  else if 0x240500 ≤ off ∧ off < 0x240900 then
    some (sumWord fun b => (s.rd (Reg.TXC_EVENT (8 * (off - 0x240500) + b)) &&& (s.rd Reg.MED_EVENT_EN >>> 8)) != 0)
  else none

/-- TXCn_STATUS: SENDING while the context's outputs are lit, and the links of its paths. -/
def State.viewTxc (s : State) (off : Nat) : Option Word :=
  let n := (off - 0x1C0000) / 0x40
  if off % 0x40 = 0x28 then
    let w := s.rd (Reg.TXC_PATHS n)
    let on := s.rdBit (Reg.TXC_CFG n) 31 && !s.rdBit off 30
    let lit := match s.txGroup n with
      | some g => s.txLit g (fld w 9 0)
      | none => false
    some (word [(b2n (on && bit w 31 && s.portUp (fld w 25 16)), 28), (b2n (on && s.portUp (fld w 9 0)), 29),
      (b2n (s.rdBit off 30), 30), (b2n (on && lit && s.txFed n && s.rdBit off 31), 31)])
  else none

/-- SDIn_STATUS: TX_ACTIVE while the lane's transmitter is used, in L0 and its destination lit (R320). SDIn_PID_TX: the payload ID in use on link 1. -/
def State.viewSdi (s : State) (off : Nat) : Option Word :=
  let l := (off - 0x580000) / 0x100
  let dst := List.find? (fun e => e.2.txc.isNone && e.2.lane == s.txLead l) s.cfg.dsts
  if off % 0x100 = 0x1C then dst.map fun e => BitVec.ofNat 32 (s.payloadOf e.2.lane (s.outFormat e.2) 0)
  else if off % 0x100 = 0x08 then
    let lit := match dst with
      | some e => s.twn.lit.testBit e.2.tg
      | none => false
    some (setFld (s.rd off) 24 24 (b2n (lit && s.rdBit (Reg.LAN_CFG l) 18 && s.pstate l == 0 && !s.testTakesTx l && !s.rdBit off 25)))
  else none

/-- LAN_EVENT_SUM. -/
def State.viewLan (s : State) (off : Nat) : Option Word :=
  if 0x3FF100 ≤ off ∧ off < 0x3FF184 then
    some (sumWord fun b =>
      let i := 8 * (off - 0x3FF100) + b
      decide (i < 1034) && s.evCond (Reg.LAN_EVENT i) (Reg.LAN_EVENT_EN i))
  else none

/-- Quanta left of the received hold of a port (R334). -/
def State.quantaLeft (s : State) (p : Nat) : Nat :=
  if s.rdBit (Reg.MAC_STATUS p) 27 then ((s.macRun p).holdUntil - s.now) * s.portGb p / 512 else 0

/-- MACn_PAUSE_STATUS and the queue fill. -/
def State.viewMac (s : State) (off : Nat) : Option Word :=
  let p := if off < 0x580000 then (off - 0x500000) / 0x200 else 1032 + (off - 0x5C0000) / 0x200
  if off % 0x200 = 0x24 then some (loWord (min 65535 (s.quantaLeft p))) else none

/-- The registers of LIFE that are computed. -/
def State.viewLife (s : State) (off : Nat) : Option Word :=
  let c := s.calendar
  if off = Reg.LIFE_STATUS then
    some (word [(s.life.severe.length, 0), (s.life.sector % 256, 16), (b2n s.life.formatted, 28), (b2n (c.2.2 && s.lifeReady), 29),
      (b2n (!s.life.queued.isEmpty), 30), (b2n s.life.valid, 31)])
  else if off = Reg.LIFE_CAL_LO then some (loWord c.1)
  else if off = Reg.LIFE_CAL_HI then some (word [(c.1 / 4294967296 % 65536, 0), (b2n c.2.2, 31)])
  else if 0x600110 ≤ off ∧ off < 0x600120 then
    some (match s.life.severe[s.rdFld Reg.LIFE_REC_SEL 11 0]? with
      | some r => r.record.word ((off - 0x600110) / 4)
      | none => 0)
  else none

/-! Reading a register. -/

/-- The computed value of the register at an offset, if it is computed. -/
def State.viewOf (s : State) (off : Nat) : Option Word :=
  if off < 0x010000 then s.viewTop off
  else if off < 0x020000 then s.viewBoot off
  else if off < 0x030000 then s.viewFlt off
  else if off < 0x040000 then s.viewTwn off
  else if off < 0x050000 then s.viewTmg off
  else if off < 0x060000 then none
  else if off < 0x070000 then s.viewPtp off
  else if off < 0x080000 then none
  else if off < 0x0A0000 then s.viewXpt off
  else if off < 0x0C0000 then s.viewFst off
  else if off < 0x0E0000 then s.viewCmp off
  else if off < 0x100000 then s.viewAud off
  else if off < 0x110000 then s.viewDma off
  else if off < 0x120000 then s.viewCpt off
  else if off < 0x1C0000 then none
  else if off < 0x240000 then s.viewTxc off
  else if off < 0x3F0000 then s.viewMed off
  else if off < 0x500000 then s.viewLan off
  else if off < 0x580000 then s.viewMac off
  else if off < 0x5C0000 then s.viewSdi off
  else if off < 0x600000 then s.viewMac off
  else s.viewLife off

/-- Does the page of a register exist: its unit fitted (R2), an SDI page only for an SDI lane (R325), a MAC page only for the lead lane of an Ethernet
port (R326)? -/
def State.pagePresent (s : State) (off : Nat) : Bool :=
  s.dev.variant.hasUnit off &&
    (if 0x500000 ≤ off ∧ off < 0x580000 then s.ethPort ((off - 0x500000) / 0x200)
    else if 0x580000 ≤ off ∧ off < 0x5C0000 then s.isSdi ((off - 0x580000) / 0x100)
    else true)

/-- What a register reads as now: nothing is cleared, no HI is held back. -/
def State.view (s : State) (off : Nat) : Word :=
  if s.pagePresent off = false then 0
  else match s.viewOf off with
    | some w => w
    | none => s.rd off

end Sys2Proof.Machine
end

