-- ==== Sys2Proof/Machine/Status.lean ====
section
/-! DEFINITION. Fratin STATUS (R108, R143, R172, R203, R245, R267, R363, R425). -/
namespace Sys2Proof.Machine

/-- Registers as a reply carries them: big-endian, 4 bytes each. -/
def State.regBytes (s : State) (offs : List Nat) : List Byte := offs.flatMap fun o => toBe 4 (s.view o).toNat

/-- The STATUS message at the front of the receive queue, if it asks for an item: its INDEX. -/
def State.takeStatus (s : State) (item : Nat) : Option (Msg × Nat × State) :=
  match s.takeMsg 0x11 with
  | some (m, s1) => if beAt m.body 0 2 = item then some (m, beAt m.body 4 4, s1) else none
  | none => none

/-- Answer a STATUS (R108): ITEM, INDEX, DATA_LENGTH, two bytes of 0, the data; an INDEX that selects nothing gives no data. A read through
STATUS clears no counter. -/
def State.statusItem (s : State) (item : Nat) (data : State → Nat → List Byte) : State :=
  match s.takeStatus item with
  | none => s
  | some (m, i, s1) =>
    let d := data s1 i
    s1.answer m.reply 0x11 (toBe 2 item ++ toBe 4 i ++ toBe 2 d.length ++ [0, 0] ++ d)

/-- Item 0x0001 (R108): the device summary. -/
def State.summaryData (s : State) : List Byte :=
  s.regBytes [Reg.TOP_ID, Reg.TOP_MODE, Reg.XPT_GEN_COMMITTED, Reg.XPT_GEN_ONAIR, Reg.XPT_STATUS, Reg.BOOT_STATUS]

/-- STATUS_DEVICE_SUMMARY (R108). -/
def execStatusDeviceSummary (t : Nat) (s0 : State) : Host.Outcome State Fault Refusal :=
  .next ((s0.at t).statusItem 1 fun s _ => s.summaryData)

/-- Item 0x0002 (R267): timing group g. -/
def State.groupData (s : State) (g : Nat) : List Byte :=
  if 15 < g then []
  else
    s.regBytes [Reg.TG_CFG g, Reg.TG_CAND g, Reg.TG_STATE g, Reg.TG_STICKY g, Reg.TG_CAND_STATUS g, Reg.TG_PHASE g, Reg.TG_FREQ g] ++
      toBe 8 (s.grp g).frame ++
      ((List.range 4).flatMap fun k => toBe 2 (ofSigned 16 (clampInt (-32768) 32767 ((s.grp g).cand k).mean))) ++ s.regBytes [Reg.TG_TOL g]

/-- STATUS_TIMING_GROUP (R267). -/
def execStatusTimingGroup (t : Nat) (s0 : State) : Host.Outcome State Fault Refusal := .next ((s0.at t).statusItem 2 State.groupData)

/-- Item 0x0003 (R143): a stored stream. -/
def State.streamData (s : State) (i : Nat) : List Byte :=
  match s.streamCfg i with
  | none => []
  | some c =>
    let x := s.stream i
    toBe 8 x.widxLast ++ ((List.range 10).flatMap fun q => toBe 4 (Tab.get 0 x.qLast q)) ++
      [BitVec.ofNat 8 x.qmaxLast, BitVec.ofNat 8 c.code, BitVec.ofNat 8 (s.streamMode i), 0] ++ toBe 4 x.inexactLast ++ toBe 4 (x.repeats - x.repeatsJoin) ++
      toBe 4 (x.drops - x.dropsJoin)

/-- STATUS_STORED_STREAM (R143). -/
def execStatusStoredStream (t : Nat) (s0 : State) : Host.Outcome State Fault Refusal := .next ((s0.at t).statusItem 3 State.streamData)

/-- Item 0x0004 (R425): the fault summary. -/
def State.faultData (s : State) : List Byte :=
  toBe 2 s.flt.fifo.length ++ toBe 2 (b2n s.flt.overflow + 2 * b2n s.faultN) ++
    s.regBytes ((List.range 4).map Reg.FLT_OPEN_C) ++ ((List.range 5).flatMap fun c => toBe 4 (s.flt.bootCounts.getD c 0)) ++
    s.regBytes ((List.range 4).map Reg.FLT_LAST_SEVERE) ++ toBe 2 s.score ++ [0, 0] ++ toBe 4 s.flt.bootLost

/-- STATUS_FAULT_SUMMARY (R425). -/
def execStatusFaultSummary (t : Nat) (s0 : State) : Host.Outcome State Fault Refusal :=
  .next ((s0.at t).statusItem 4 fun s _ => s.faultData)

/-- Item 0x0005 (R363): a flow context: its page's first twelve words, then the totals since boot or JOIN. -/
def State.flowData (s : State) (i : Nat) : List Byte :=
  let page (base : Nat) : List Byte := s.regBytes ((List.range 12).map fun k => base + 4 * k)
  if i < 8192 then
    let x := s.rxc i
    page (Reg.RXC_CFG i) ++ toBe 4 x.lost ++ toBe 4 x.late ++ toBe 4 x.reorder ++ toBe 4 x.bad
  else if i < 16384 then
    let x := s.txc (i - 8192)
    page (Reg.TXC_CFG (i - 8192)) ++ toBe 8 x.sent ++ toBe 4 x.late ++ toBe 4 x.drop
  else []

/-- STATUS_FLOW_CONTEXT (R363). -/
def execStatusFlowContext (t : Nat) (s0 : State) : Host.Outcome State Fault Refusal := .next ((s0.at t).statusItem 5 State.flowData)

/-- Item 0x0006 (R245): scores, roles and health words of both sides; the peer's are 0 while the wall is down. -/
def State.healthData (s : State) : List Byte :=
  let up := s.twn.wall.up
  let peerRole := match s.twn.wall.peer with
    | some h => h.role
    | none => 0
  toBe 2 s.score ++ toBe 2 (if up then s.peerScore else 0) ++
    [BitVec.ofNat 8 s.ctl.role.code, BitVec.ofNat 8 (if up then peerRole else 0), BitVec.ofNat 8 (b2n up), 0] ++
    (s.healthWords.flatMap fun w => toBe 4 w) ++
    (List.range 32).flatMap fun u => toBe 4 (if up then (s.rd (Reg.TWN_PEER_HEALTH u)).toNat else 0)

/-- STATUS_HEALTH (R245). -/
def execStatusHealth (t : Nat) (s0 : State) : Host.Outcome State Fault Refusal :=
  .next ((s0.at t).statusItem 6 fun s _ => s.healthData)

/-- STATUS_BOOT_REGISTERS (R108): item 0x0007, BOOT registers 0x000–0x07C. -/
def execStatusBootRegisters (t : Nat) (s0 : State) : Host.Outcome State Fault Refusal :=
  .next ((s0.at t).statusItem 7 fun s _ => s.regBytes ((List.range 32).map fun k => 0x010000 + 4 * k))

/-- Item 0x0008 (R172): the lintel state. -/
def State.lintelData (s : State) : List Byte :=
  s.regBytes [Reg.CMP_LINTEL 0, Reg.CMP_LINTEL_LOADED 0] ++ toBe 8 (s.boundCmps.foldl (fun a c => a + 2 ^ c) 0) ++ toBe 4 s.lin.refused

/-- STATUS_LINTEL (R172). -/
def execStatusLintel (t : Nat) (s0 : State) : Host.Outcome State Fault Refusal :=
  .next ((s0.at t).statusItem 8 fun s _ => s.lintelData)

/-- Item 0x0009 (R203): an audio port. -/
def State.portData (s : State) (p : Nat) : List Byte :=
  if p < s.dev.variant.ports then
    s.regBytes [Reg.AP_CFG p, Reg.AP_STATUS p] ++ toBe 8 (s.portMask p false) ++ toBe 8 (s.portMask p true) ++ toBe 4 (s.port p).slips ++
      toBe 4 (s.port p).losses
  else []

/-- STATUS_AUDIO_PORT (R203). -/
def execStatusAudioPort (t : Nat) (s0 : State) : Host.Outcome State Fault Refusal := .next ((s0.at t).statusItem 9 State.portData)

end Sys2Proof.Machine
end

