-- ==== Sys2Proof/Machine/Service.lean ====
section
/-! DEFINITION. The firmware's service period (R14, R52, R408, R419, R423) and the thumbnails (R122, R447). -/
namespace Sys2Proof.Machine

/-- Does the condition stand under which firmware acknowledges a "Cond" record (R406)? -/
def State.condHolds (s : State) (o : OpenRec) : Bool :=
  match o.kind with
  | 0x03 => !s.rdBit (Reg.SYN_LOOP_STATUS o.addr) 30
  | 0x04 => s.rdBit (Reg.SYN_FURROW_STATUS o.addr) 31
  | 0x05 => s.vfsState o.addr == 1
  | 0x06 => (Tab.find? s.syn.steer o.addr).isNone
  | 0x07 => s.flt.diodes.all fun d => decide (d.2.temp < 800)
  | 0x20 => !s.isLost o.addr
  | 0x25 => !(s.drcRun o.addr).hot
  | 0x31 => !s.rdBit (Reg.AP_STATUS o.addr) 26
  | 0x40 => !s.pins.keyIn
  | 0x45 => !s.twn.join.active
  | 0x50 => !s.rdBit (Reg.LAN_STATUS o.addr) 24
  | 0x51 => !s.rdBit (Reg.RXC_STATUS o.addr) 28
  | 0x52 => s.ptp.refused.isNone
  | 0x53 => s.pcie.linkUp
  | _ => false

/-- Firmware acknowledges in a service period: every C0 and C1 record, and each C2 or C3 "Cond" record whose condition holds (R408). -/
def State.serviceAck (s : State) : State := s.ack fun o => decide (o.cls ≤ 1) || s.condHolds o

/-- Values of a LIVE_SET that wait for no headland take effect within one service period (R52). -/
def State.serviceLive (s : State) : State :=
  let s1 := s.xpt.pending.foldl (fun a p =>
    if p.left.contains 16 then a.applyLives (a.deviceTime : Int) (p.live.filter fun e => decide (a.liveGroup e = none)) else a) s
  let s2 : State := s1.setXpt { s1.xpt with
      pending := s1.xpt.pending.map fun p => { p with left := p.left.filter (· != 16) } }
  s2.settlePending

/-- Does firmware drain the FIFO into the fault ring (R423)? -/
def State.drains (s : State) : Bool := s.rwlLocked && !s.boot.romFallback && s.rdBit Reg.FLT_CFG 0

/-- One record goes into the fault ring at its write index; the ring holds 4,096 records of 16 bytes. -/
def State.ringPut (s : State) (r : FaultRec) : State :=
  let w := s.rdFld Reg.FLT_RING_WR 11 0
  (s.winWrite (s.rd64 Reg.FLT_RING_BASE_LO Reg.FLT_RING_BASE_HI + 16 * w) r.bytes).wr Reg.FLT_RING_WR (BitVec.ofNat 32 ((w + 1) % 4096))

/-- The FIFO is drained into the fault ring. -/
def State.drainRing (s : State) : State :=
  if s.drains then s.flt.fifo.foldl State.ringPut (s.setFlt { s.flt with fifo := [] }) else s

/-- SERVICE_PERIOD (R14): one pass of the firmware's service loop. In BOOT and under ROM fallback the boot ROM runs and the loop does not. -/
def execServicePeriod (t : Nat) (s0 : State) : Host.Outcome State Fault Refusal :=
  let s := s0.at t
  if s.ctl.mode = .boot ∨ s.boot.romFallback = true then .next s
  else .next (((s.serviceLive.serviceAck).appendSevere).drainRing)

/-! Thumbnails. -/

/-- The inputs that feed a video source: of a paired input both sides. -/
def inputsOf (c : SrcCfg) : List Input := c.input :: (match c.pairB with
  | some l => [.sdi l]
  | none => [])

/-- The field of a video input (R18). -/
def State.inputField (s : State) : Input → Nat
  | .sdi lane => lane / 64
  | .rxc n => s.rxField n

/-- The bytes of a thumbnail: 240 × 135 RAW 4:2:2 is 8 × 17 slots of 672 bytes (R115, R129). -/
def thumbBytes : Nat := 91392

/-- The thumbnails of a field wait in its engine's output register, 2,048 bytes a request (R447). -/
def State.thumbReady (s : State) (f : Nat) (bs : List Byte) : State :=
  let old := Tab.get [] s.dma.thumbOut f
  let more := (old ++ bs).length / 2048 - old.length / 2048
  (s.setDma { s.dma with
      thumbOut := Tab.put [] s.dma.thumbOut f (old ++ bs)
      requests := Tab.put 0 s.dma.requests f (Tab.get 0 s.dma.requests f + more) })

/-- THUMBNAIL_INTERVAL (R122): at each interval of a field's rate its engine writes one thumbnail of each input that feeds a source;
`pictures` are their RAW images, in the order of the inputs (log 1). -/
def execThumbnailInterval (t f : Nat) (pictures : List (List Byte)) (s0 : State) : Host.Outcome State Fault Refusal :=
  let s := s0.at t
  let ms := Tab.get 1000 s.fst.thumbMs f
  if s.boot.fieldsUsed.testBit f = false ∨ s.dev.variant.fields ≤ f ∨ s.power.stage < 4 ∨ ms = 0 ∨
      s.now < Tab.get 0 s.fst.thumbAt f + 1000000 * ms then .next s
  else
    let n := ((s.cfg.srcs.flatMap fun e => inputsOf e.2).eraseDups.filter fun x => s.inputField x == f).length
    let bs := (pictures.take n).flatMap fun p => (p ++ List.replicate thumbBytes 0).take thumbBytes
    let s1 := (s.thumbReady f bs).setFst { s.fst with thumbAt := Tab.put 0 s.fst.thumbAt f s.now }
    match s1.waiters f 32 with
    | c :: _ => .next (s1.advance c)
    | [] => .next s1

end Sys2Proof.Machine
end

