-- ==== Sys2Proof/Machine/RegAccess.lean ====
section
/-! DEFINITION. Reads and writes of registers from the card port, firmware, DMA and SPI (R5–R7, R430, R435, R436, R506), and the bursts of
the DMA engine (R446). -/
namespace Sys2Proof.Machine

/-! Reads. -/

/-- Does the value at an offset stand open: CPT_MBX_OUT beyond the reply presented (R433, R451), XPT_SNAP_DATA with no complete snapshot or
beyond its table (R113, R114)? -/
def State.openWord (s : State) (off : Nat) : Bool :=
  if 0x118000 ≤ off ∧ off < 0x11A328 then decide (s.card.mbxOut.length ≤ off - 0x118000)
  else if 0x090000 ≤ off ∧ off < 0x0A0000 then !s.rdBit Reg.XPT_SNAP 31 || decide (s.xpt.snap.length ≤ (off - 0x090000) / 4)
  else false

/-- The lane whose LANn_RX_CTRL or LANn_RX_DFE lies at an offset while its receiver adapts: the codes in force stand open (R288, log 167). -/
def State.adaptLane (s : State) (off : Nat) : Option Nat :=
  let lane := if off < 0x400000 then 1024 + (off - 0x3FC000) / 0x400 else (off - 0x400000) / 0x400
  if 0x3FC000 ≤ off ∧ off < 0x500000 ∧ (off % 0x400 = 0x18 ∨ off % 0x400 = 0x1C) ∧ s.adapting lane = true then some lane else none

/-- A read of the codes in force of a receiver that adapts. -/
def State.readCodes (s : State) (off : Nat) : State × Word :=
  (s.freeNext, if off % 0x400 = 0x18 then setFld (s.view off) 11 8 (s.freeVal % 16) else BitVec.ofNat 32 (s.freeVal % 2147483648))

/-- What a counter's read returns, and what it restarts at: events counted in the same instant are not in the value, and the counter restarts with
them (R444). -/
def State.freshCount (s : State) (off v : Nat) : Nat × Nat := (Tab.find? s.freshNow.counts off).getD (v, 0)

/-- The events of this instant stand behind a read of their counter (R444). -/
def State.countsKept (s : State) (off : Nat) : State :=
  match Tab.find? s.freshNow.counts off with
  | some x => s.setFresh { s.freshNow with counts := Tab.insert (Tab.erase s.freshNow.counts off) off (0, x.2) }
  | none => s

/-- A read of a counter (R7, R444). -/
def State.readCounter (s : State) (off : Nat) : State × Word :=
  let x := s.freshCount off (s.view off).toNat
  ((s.wr off (BitVec.ofNat 32 x.2)).countsKept off, BitVec.ofNat 32 x.1)

/-- A read of a LO register of a pair (R5): HI is held for a following read; a pair of counters clears as a whole (R337). -/
def State.readLo (s : State) (r : RegRow) (off : Nat) : State × Word :=
  let v := (s.view off).toNat + 4294967296 * (s.view (off + 4)).toNat
  let x := if r.rc = 0 then (v, 0) else s.freshCount off v
  let s1 := s.setSnap (Tab.insert s.snap (off + 4) (BitVec.ofNat 32 (x.1 / 4294967296)))
  (if r.rc = 0 then s1 else (s1.wr64 off (off + 4) x.2).countsKept off, BitVec.ofNat 32 x.1)

/-- Is this the HI register of a pair? -/
def isHi (off : Nat) : Bool :=
  match RegMap.rowOf (off - 4) with
  | some r => r.lo
  | none => false

/-- A read of a HI register: the snapshot; with none, a counter's reads 0 and another's its present value. -/
def State.readHi (s : State) (r : RegRow) (off : Nat) : Word :=
  match Tab.find? s.snap off with
  | some w => w
  | none => if r.rc = 0 then s.view off else 0

/-- A read of a register with a row in the map. -/
def State.readRow (s : State) (r : RegRow) (off : Nat) : State × Word :=
  if r.lo then s.readLo r off
  else if isHi off then (s, s.readHi r off)
  else if r.rc = 0 then (s, s.view off)
  else s.readCounter off

/-- FST_CNT_REPEAT and FST_CNT_DROP of the selected stream count from their last read (R143). -/
def State.readStreamCount (s : State) (drop : Bool) : State :=
  let i := s.rdFld Reg.FST_SEL 13 0
  let x := s.stream i
  s.setStream i (if drop then { x with dropsRead := x.drops } else { x with repeatsRead := x.repeats })

/-- A read of a register and its side effects. -/
def State.busRead (s : State) (off : Nat) : State × Word :=
  if s.pagePresent off = false then (s, 0)
  else if s.openWord off then (s.freeNext, BitVec.ofNat 32 s.freeVal)
  else if (s.adaptLane off).isSome then s.readCodes off
  else if off = Reg.FLT_REC 3 then s.popRecord
  else if 0x100050 ≤ off ∧ off < 0x100060 then s.captureRead ((off - 0x100050) / 4)
  else if off = Reg.FST_QMAX then (s.qmaxRead, s.view off)
  else if off = Reg.FST_CNT_REPEAT then (s.readStreamCount false, s.view off)
  else if off = Reg.FST_CNT_DROP then (s.readStreamCount true, s.view off)
  else if off = Reg.PTP_TIME_FRAC then (s.timeSnapshot, s.timeSnapshot.rd off)
  else if off = Reg.FLT_CNT_LOST then (s.setFlt { s.flt with overflow := false }).readCounter off
  else match RegMap.rowOf off with
    | some r => s.readRow r off
    | none => (s, s.view off)

/-- A read returned to its master. -/
def State.readOut (s : State) (off : Nat) : State :=
  let r := s.busRead off
  r.1.emit (.read off r.2.toNat)

/-- RC_COUNTER_READ (R7, R337): a register with RC bits. -/
def execRcCounterRead (t off : Nat) (s0 : State) : Host.Outcome State Fault Refusal :=
  let s := s0.at t
  match RegMap.rowOf off with
  | some r => if r.rc = 0 then .next s else .next (s.readOut off)
  | none => .next s

/-- LO_SNAPSHOT_READ (R5). -/
def execLoSnapshotRead (t off : Nat) (s0 : State) : Host.Outcome State Fault Refusal :=
  let s := s0.at t
  match RegMap.rowOf off with
  | some r => if r.lo then .next (s.readOut off) else .next s
  | none => .next s

/-! Writes under an access code (R6, R7). -/

/-- What a register with a row holds after a write (R6, R7): RW bits take the word, RWL bits only where they are not locked, W1C bits fall
where the word is 1, but for those that were set in the same instant (R444); every other bit stays. -/
def State.written (s : State) (r : RegRow) (off : Nat) (w : Word) : Word :=
  let old := s.rd off
  let m := BitVec.ofNat 32 (if s.rwlLocked then r.rw else Nat.lor r.rw r.rwl)
  let c := BitVec.ofNat 32 r.w1c &&& ~~~ s.freshFlags off
  keepFields old (s.fieldRules off) ((old &&& ~~~ m &&& ~~~ (w &&& c)) ||| (w &&& m))

/-- The vectors that a register bears on (R434): an event register or its enables. -/
def vectorsOf (off : Nat) : List Nat :=
  if off = Reg.CPT_EVENT ∨ off = Reg.CPT_EVENT_EN then [0]
  else if off = Reg.TOP_EVENT ∨ off = Reg.TOP_EVENT_EN then [1]
  else if off = Reg.FLT_EVENT ∨ off = Reg.FLT_EVENT_EN then [2]
  else if off = Reg.TWN_EVENT ∨ off = Reg.TWN_EVENT_EN then [3]
  else if off = Reg.TMG_EVENT ∨ off = Reg.TMG_EVENT_EN then [4]
  else if off = Reg.SYN_EVENT ∨ off = Reg.SYN_EVENT_EN then [5]
  else if off = Reg.PTP_EVENT ∨ off = Reg.PTP_EVENT_EN then [6]
  else if off = Reg.XPT_EVENT ∨ off = Reg.XPT_EVENT_EN then [7]
  else if off = Reg.FST_EVENT ∨ off = Reg.FST_EVENT_EN then [8]
  else if off = Reg.AUD_EVENT ∨ off = Reg.AUD_EVENT_EN then [9]
  else if off = Reg.DRC_EVENT ∨ off = Reg.DRC_EVENT_EN then [10]
  else if off = Reg.LIFE_EVENT ∨ off = Reg.LIFE_EVENT_EN then [11]
  else if 0x0C0000 ≤ off ∧ off < 0x0E0000 then (if off % 0x800 = 8 ∨ off % 0x800 = 12 then [12] else [])
  else if 0x3FC000 ≤ off ∧ off < 0x3FE800 then (if off % 0x400 = 8 ∨ off % 0x400 = 12 then [13] else [])
  else if 0x400000 ≤ off ∧ off < 0x500000 then (if off % 0x400 = 8 ∨ off % 0x400 = 12 then [13] else [])
  else if 0x580000 ≤ off ∧ off < 0x5C0000 then (if off % 0x100 = 12 ∨ off % 0x100 = 16 then [14] else [])
  else if 0x500000 ≤ off ∧ off < 0x5C0400 then (if off % 0x200 = 8 ∨ off % 0x200 = 12 then [14] else [])
  else if 0x140000 ≤ off ∧ off < 0x1C0000 then (if off % 64 = 0x28 then [15] else [])
  else if 0x1C0000 ≤ off ∧ off < 0x240000 then (if off % 64 = 0x2C then [15] else [])
  else if off = Reg.MED_EVENT_EN then [15]
  else if off = Reg.DMA_CH_EVENT ∨ off = Reg.DMA_CH_EVENT_EN then (List.range 32).map (· + 16)
  else if off = Reg.DMA_EVENT ∨ off = Reg.DMA_EVENT_EN then [48]
  else []

/-- Does a register hold a bit that a write now takes (R7)? -/
def State.takesWrite (s : State) (r : RegRow) : Bool := r.rw != 0 || (r.rwl != 0 && !s.rwlLocked)

/-- A write of a register under its access codes; one that HI takes ends its snapshot (log 60). A write to a W1C register that leaves the condition of a vector of its at 1 sends a new
message; a write of enables sends one where the condition rises (R435). -/
def State.applyWrite (s : State) (r : RegRow) (off : Nat) (w : Word) : State :=
  let s0 := s.wr off (s.written r off w)
  let s1 := if s.takesWrite r then s0.setSnap (Tab.erase s.snap off) else s0
  (vectorsOf off).foldl (fun a v =>
    if r.w1c = 0 then State.irqRise s a v else if a.vecCond v then a.signal v else a) s1

/-! Registers that act when written. -/

/-- A command word: CMD, if CONFIRM is right, else 0. -/
def cmdOf (w : Word) : Nat := if fld w 31 16 = Config.confirm then fld w 3 0 else 0

/-- The commands of the control block registers TOP to TWN (R70, R54, R424, R247). -/
def State.writeControl (s : State) (x : WriteAux) (off : Nat) (w : Word) : Option State :=
  if off = Reg.TOP_CTRL then some (if cmdOf w = 1 then s.cmdEnterSafe else s)
  else if off = Reg.BOOT_CTRL then some (s.bootCtrl (fld w 31 16) (fld w 3 0))
  else if off = Reg.BOOT_FUSE_CTRL then some (s.fuseWrite w x.fuses)
  else if 0x010060 ≤ off ∧ off < 0x010080 then
    if s.ctl.mode = .test ∧ s.boot.fuse.isNone = true then none else some s
  else if off = Reg.FLT_ACK then
    some (s.ack fun o => o.unit == fld w 20 16 && w.toNat.testBit o.cls && decide (o.cls < 4))
  else if off = Reg.FLT_KICK then some s.fltKick
  else if 0x020030 ≤ off ∧ off < 0x020040 then some (s.ack fun o => o.cls == (off - 0x020030) / 4 && bit w o.unit)
  else if off = Reg.TWN_CTRL then
    some (match cmdOf w with
      | 1 => s.cmdGiveUp
      | 2 => s.cmdHandoverArm
      | 3 => s.cancelAndTell
      | 4 => s.cmdResync
      | 5 => s.cmdArbitrate
      | _ => s)
  else none

/-- The commands of TMG, SYN, PTP, XPT, DRC and LIFE (R268, R285, R382, R113, R402, R426). -/
def State.writeTiming (s : State) (x : WriteAux) (off : Nat) (w : Word) : Option State :=
  if off = Reg.TMG_TG_REALIGN then some (if fld w 31 16 = Config.confirm then s.realign (fld w 15 0) else s)
  else if off = Reg.SYN_CTRL then some (if cmdOf w = 1 then s.relock (fld w 13 8) else s)
  else if off = Reg.PTP_CTRL then some (if cmdOf w = 1 then s.acceptStep else s)
  else if off = Reg.XPT_SNAP then some (if bit w 4 then s.snapStart (fld w 3 0) else s.wrFld Reg.XPT_SNAP 3 0 (fld w 3 0))
  else if off = Reg.DRC_CTRL then
    some (match cmdOf w with
      | 1 => s.trainCommand
      | 2 => s.mr4Command x.readings
      | _ => s)
  else if off = Reg.DRC_CFG then
    let s1 := s.rateWrite (fld w 31 30)
    some (if s1.rwlLocked then s1 else s1.wrFld Reg.DRC_CFG 29 25 (fld w 29 25))
  else if off = Reg.LIFE_CTRL then some (if cmdOf w = 1 then s.queueLife none else s)
  else none

/-- The page index of a lane register (R9). -/
def laneOf (off : Nat) : Nat := if off < 0x400000 then 1024 + (off - 0x3FC000) / 0x400 else (off - 0x400000) / 0x400

/-- The registers of a lane page that act (R290, R291, R299, R302–R304). -/
def State.writeLane (s : State) (x : WriteAux) (off : Nat) (w : Word) : Option State :=
  if (0x3FC000 ≤ off ∧ off < 0x3FE800) ∨ (0x400000 ≤ off ∧ off < 0x500000) then
    let i := laneOf off
    match off % 0x400 with
    | 0x10 => some (s.pwrReq i (fld w 1 0))
    | 0x14 => some (s.setTxEq i (fld w 4 0) (fld w 19 16) (fld w 28 24))
    | 0x18 => some (s.rxCtrlWrite i false w)
    | 0x1C => some (s.rxCtrlWrite i true w)
    | 0x20 =>
      let s1 := s.testFields i w
      let s2 := if bit w 26 then s1.testStop i x.bits x.errs else if bit w 27 then s1.testStart i else s1
      some (if bit w 16 then s2.inject i else s2)
    | 0x34 => some (if bit w 31 then s.eyeWrite i w else s.eyeFields i w)
    | _ => none
  else none

/-- The registers of the audio ports and compositors that act (R195, R171). -/
def State.writeEssence (s : State) (off : Nat) (w : Word) : Option State :=
  if 0x0E1000 ≤ off ∧ off < 0x0E2000 then
    let p := (off - 0x0E1000) / 0x100
    match off % 0x100 with
    | 0x10 => some (s.maskLoWrite p false w.toNat)
    | 0x14 => some (s.maskHiWrite p false w.toNat)
    | 0x18 => some (s.maskLoWrite p true w.toNat)
    | 0x1C => some (s.maskHiWrite p true w.toNat)
    | _ => none
  else if 0x0C0000 ≤ off ∧ off < 0x0E0000 ∧ (off % 0x800 = 0x400 ∨ off % 0x800 = 0x404) then some s.lintelRefused
  else none

/-- The registers of DMA and of the card port that act (R432, R433, R435, R447–R451). -/
def State.writePort (s : State) (card : Bool) (off : Nat) (w : Word) : Option State :=
  if off = Reg.DMA_CTRL then
    let s1 := if bit w 31 then s.wrBit Reg.DMA_CTRL 31 true else s.dmaDisable
    some (if bit w 0 then s1.clearErr else s1)
  else if 0x101000 ≤ off ∧ off < 0x101800 then
    let c := (off - 0x101000) / 0x40
    if State.pageBarred c card then some ((s.bump Reg.CPT_CNT_BAD_ACCESS).cptEvent 4)
    else match off % 0x40 with
      | 0x00 => some (if bit w 31 then s.kick c else s)
      | 0x08 => if (s.chan c).st = .idle then none else some s
      | 0x0C => if (s.chan c).st = .idle then none else some s
      | _ => none
  else if off = Reg.CPT_MBX_IN_CTRL then
    some (if bit w 31 then s.mbxGo (fld w 13 0) else s.wrFld Reg.CPT_MBX_IN_CTRL 13 0 (fld w 13 0))
  else if 0x114000 ≤ off ∧ off < 0x116328 then some (s.mbxInWrite ((off - 0x114000) / 4) w)
  else if off = Reg.CPT_MBX_OUT_STATUS then some (if bit w 31 then s.mbxRelease else s)
  else if 0x1100C0 ≤ off ∧ off < 0x110100 ∧ off % 8 = 0 then (if fld w 11 0 = 0 then none else some s)
  else if 0x111000 ≤ off ∧ off < 0x111400 ∧ off % 16 = 12 then
    let v := (off - 0x111000) / 16
    some ((s.wrBit (Reg.MSIX_CTRL v) 0 (bit w 0)).unmasked v)
  else none

/-- A register whose write acts beyond its own bits; none: the write follows the access codes alone. -/
def State.writeActs (s : State) (x : WriteAux) (card : Bool) (off : Nat) (w : Word) : Option State :=
  if off < 0x040000 then s.writeControl x off w
  else if off < 0x0C0000 then s.writeTiming x off w
  else if off < 0x100000 then s.writeEssence off w
  else if off < 0x120000 then s.writePort card off w
  else if off < 0x140000 then s.writeTiming x off w
  else if off < 0x500000 then s.writeLane x off w
  else s.writeTiming x off w

/-- A write of a register. An offset that nothing names, or a page of an absent unit, ignores it (R2, R506). -/
def State.busWrite (s : State) (x : WriteAux) (card : Bool) (off : Nat) (w : Word) : State :=
  if s.pagePresent off = false ∨ off % 4 ≠ 0 then s
  else match s.writeActs x card off w with
    | some s1 => s1
    | none => match RegMap.rowOf off with
      | some r => s.applyWrite r off w
      | none => s

/-- REGISTER_WRITE (R506, R430, R437): outside the 16 MiB a decode error; from the card port only with the link up, and an access that is not a
whole aligned word is dropped and counted. -/
def execRegisterWrite (t off value : Nat) (fromCard full : Bool) (aux : WriteAux) (s0 : State) : Host.Outcome State Fault Refusal :=
  let s := s0.at t
  if 16777216 ≤ off then .fault (.decodeError off)
  else if fromCard && (!s.pcie.linkUp || s.pcie.d3hot) then .next s
  else if fromCard && (!full || off % 4 != 0) then .next ((s.bump Reg.CPT_CNT_BAD_ACCESS).cptEvent 4)
  else .next (s.busWrite aux fromCard off (BitVec.ofNat 32 value))

/-! The SPI target (R436). -/

/-- Nothing outside the device bears on a write. -/
def noAux : WriteAux := ⟨0, 0, [], []⟩

/-- Successive words of an SPI READ. -/
def State.spiWords (s : State) (addr : Nat) : Nat → State
  | 0 => s
  | n + 1 => State.spiWords (s.readOut (addr % 16777216)) (addr + 4) n

/-- SPI_READ: n words from an address; a first word that is late is returned as 0. -/
def execSpiRead (t addr n : Nat) (late : Bool) (s0 : State) : Host.Outcome State Fault Refusal :=
  let s := s0.at t
  let a := addr % 16777216 / 4 * 4
  if !s.spiMode then .next s
  else if late && decide (0 < n) then
    let s1 := ((s.busRead a).1).emit (.read a 0)
    .next (State.spiWords (s1.setCard { s1.card with spiLate := true }) (a + 4) (n - 1))
  else .next (s.spiWords a n)

/-- Successive words of an SPI WRITE. -/
def State.spiPuts (s : State) (x : WriteAux) (addr : Nat) : List Nat → State
  | [] => s
  | v :: vs => State.spiPuts (s.busWrite x true (addr % 16777216) (BitVec.ofNat 32 v)) x (addr + 4) vs

/-- SPI_WRITE: whole words are written; a word cut short is not, and sets PARTIAL. -/
def execSpiWrite (t addr : Nat) (words : List Nat) (partial_ : Bool) (aux : WriteAux) (s0 : State) : Host.Outcome State Fault Refusal :=
  let s := s0.at t
  if !s.spiMode then .next s
  else
    let s1 := s.spiPuts aux (addr % 16777216 / 4 * 4) words
    .next (s1.setCard { s1.card with spiPartial := s1.card.spiPartial || partial_ })

/-- SPI_STATUS: LATE and PARTIAL are returned and cleared. -/
def execSpiStatus (t : Nat) (s0 : State) : Host.Outcome State Fault Refusal :=
  let s := s0.at t
  if !s.spiMode then .next s
  else
    let s1 := s.emit (.spiStatus (b2n s.card.spiLate + 2 * b2n s.card.spiPartial))
    .next (s1.setCard { s1.card with spiLate := false, spiPartial := false })

/-- The level of IRQ_N in SPI mode: low while an unmasked vector's condition holds. -/
def State.irqN (s : State) : Bool := !((List.range 64).any fun v => s.vecCond v && !s.rdBit (Reg.MSIX_CTRL v) 0)

/-! Bursts (R446). -/

/-- Words read from registers at ascending offsets; `fixed` for a FIFO register read again and again. -/
def State.readWords (s : State) (off : Nat) (fixed : Bool) : Nat → State × List Byte
  | 0 => (s, [])
  | n + 1 =>
    let r := s.busRead off
    let rest := State.readWords r.1 (if fixed then off else off + 4) fixed n
    (rest.1, toLe 4 r.2.toNat ++ rest.2)

/-- Words written to registers at ascending offsets. -/
def State.writeWords (s : State) (off : Nat) : Nat → List Byte → State
  | 0, _ => s
  | n + 1, bs => State.writeWords (s.busWrite noAux false off (BitVec.ofNat 32 (le (bs.take 4)))) (off + 4) n (bs.drop 4)

/-- Thumbnail bytes leave the output register of a field's engine. -/
def State.takeThumb (s : State) (f n : Nat) : State × List Byte :=
  let all := Tab.get [] s.dma.thumbOut f
  ((s.setDma { s.dma with thumbOut := Tab.put [] s.dma.thumbOut f (all.drop n) }), (all ++ List.replicate n 0).take n)

/-- The read of a burst of channel c. A burst that a thumbnail engine requested and whose source is register space reads the engine's output
register. -/
def State.burstRead (s : State) (c n : Nat) (host : List Byte) : Except Nat (State × List Byte) :=
  let x := s.chan c
  match s.target x.srcAt n with
  | some (.regs o) =>
    if ctlBit x.control 21 && decide (reqLine x.control < 16) then .ok (s.takeThumb (reqLine x.control) n)
    else .ok (s.readWords o (ctlBit x.control 23 && decide (0x100050 ≤ o) && decide (o < 0x100060)) (n / 4))
  | _ => s.memRead c x.srcAt n host

/-- The write of a burst of channel c; PWMBX_GO and PWMBX_FREE act (R439). -/
def State.burstWrite (s : State) (c : Nat) (bs : List Byte) : Except Nat State :=
  let a := (s.chan c).dstAt
  match s.target a bs.length with
  | some (.regs o) => .ok (s.writeWords o (bs.length / 4) bs)
  | some (.mailbox o) =>
    if 8 ≤ c then .error 1
    else
      let s1 := s.pwPuts o bs
      let s2 := if o ≤ 0x10004 ∧ 0x10008 ≤ o + bs.length then s1.pwGo (le (slice bs (0x10004 - o) 4)) else s1
      .ok (if o ≤ 0x10008 ∧ 0x1000C ≤ o + bs.length then s2.pwFree (le (slice bs (0x10008 - o) 4)) else s2)
  | _ => s.memWrite c a bs

/-- The addresses and the bytes left move on by a burst. -/
def Chan.past (x : Chan) (n : Nat) : Chan :=
  { x with
    srcAt := if ctlBit x.control 23 then x.src else x.srcAt + n
    dstAt := if ctlBit x.control 22 then x.dst else x.dstAt + n
    remain := x.remain - n }

/-- A burst issued has completed: a channel in RUN goes on; one that a bus error stopped keeps the point reached (R449). -/
def State.burstDone (s : State) (c n : Nat) : State :=
  let y := (s.chan c).past n
  if y.st = .run then State.advance (s.setChan c y) c
  else s.setChan c { y with phase := if y.remain = 0 then .complete else .request }

/-- DMA_BURST_COMPLETE (R446): the burst's data is read and written. `err` is 0 or the code of an error response; `host` is what a read of host
memory returned. -/
def execDmaBurstComplete (t c err : Nat) (host : List Byte) (s0 : State) : Host.Outcome State Fault Refusal :=
  let s := s0.at t
  let x := s.chan c
  let n := min (burstBytes x.control) x.remain
  if decide (32 ≤ c) || x.phase != .burst || x.st == .idle || x.st == .idleAtEnd || x.failed then .next s
  else if err ≠ 0 then .next (s.busError c err x.srcAt)
  else match s.burstRead c n host with
    | .error e => .next (s.busError c e x.srcAt)
    | .ok (s1, bs) => match s1.burstWrite c bs with
      | .error e => .next (s1.busError c e x.dstAt)
      | .ok s2 => .next (s2.burstDone c n)

end Sys2Proof.Machine
end

