-- ==== Sys2Proof/Machine/Wall.lean ====
section
/-! DEFINITION. The party wall's receiver: lanes, wall blocks, fragments, messages (R214–R219, R439). -/
namespace Sys2Proof.Machine

/-! Reading message bodies (R221–R224). A body of another length or form is none. -/

/-- A TIME of R104, in ns; its fraction counts as the next whole ns. -/
def readTime (b : List Byte) : Nat := beAt b 0 6 * 1000000000 + beAt b 6 4 + (if beAt b 10 2 = 0 then 0 else 1)

/-- A HEARTBEAT. -/
def readHeartbeat (b : List Byte) : Option Heartbeat :=
  if b.length ≠ 76 then none
  else
    let f := byteAt b 6
    some { systemId := beAt b 0 2, side := beAt b 2 2 / 32768, pairId := beAt b 2 2 % 16384, mode := byteAt b 4, role := byteAt b 5
           keyOut := f.testBit 0, keyIn := f.testBit 1, claiming := f.testBit 2, seesUp := f.testBit 3, count := beAt b 8 4
           time := readTime (b.drop 12), compat := beAt b 24 4, genCommitted := beAt b 28 4, genOnAir := beAt b 32 4, score := beAt b 36 2
           tableCrc := beAt b 40 4, hash := slice b 44 32 }

/-- The records of a DECISION. -/
def readDecisions (b : List Byte) : Option (List DecisionRec) :=
  let n := beAt b 0 2
  if n < 1 ∨ 160 < n ∨ b.length ≠ 4 + 24 * n then none
  else some ((List.range n).map fun i =>
    let r := slice b (4 + 24 * i) 24
    ⟨byteAt r 0, byteAt r 2, beAt r 4 4, beAt r 8 8, beAt r 16 8⟩)

/-- A TAKE_ORDER. -/
def readOrder (b : List Byte) : Option Order :=
  let kind := byteAt b 0
  let n := beAt b 156 4
  let size := if kind = 0 then 8 * n else if kind = 1 then 16 * n else n
  if 2 < kind ∨ b.length ≠ 160 + size then none
  else
    let rest := b.drop 160
    some { order := kind, sender := beAt b 4 2, id := beAt b 8 4, gen := beAt b 12 4, commit := readTime (b.drop 16)
           frames := (List.range 16).map fun g => beAt b (28 + 8 * g) 8
           entries := if kind = 0 then readEntries n rest else []
           live := if kind = 1 then readLives n rest else []
           lintel := if kind = 2 then rest else [] }

/-- The records of a DIGEST. -/
def readDigest (b : List Byte) : Option (Nat × Nat × List DigestRec) :=
  let n := beAt b 12 2
  if b.length ≠ 16 + 8 * n then none
  else some (byteAt b 0, beAt b 4 8, (List.range n).map fun i =>
    let r := slice b (16 + 8 * i) 8
    ⟨byteAt r 0, (byteAt r 1).testBit 0, (byteAt r 1).testBit 1, beAt r 2 2, beAt r 4 4⟩)

/-- What the engine does with a message of a type it handles itself (R439); a body that cannot be read is discarded and counted (log 121). -/
def State.hearMessage (s : State) (ty : Nat) (b : List Byte) : State :=
  let bad := s.bump Reg.TWN_CNT_BLOCK_CRC
  match ty with
  | 1 => match readHeartbeat b with
    | some h => s.hearHeartbeat h
    | none => bad
  | 2 => if b.length = 4 then s.hearGiveUp (byteAt b 0) else bad
  | 3 => match readDecisions b with
    | some rs => s.hearDecision rs
    | none => bad
  | 4 => match readOrder b with
    | some o => s.hearOrder o
    | none => bad
  | 5 => match readDigest b with
    | some d => s.hearDigest d.1 d.2.1 d.2.2
    | none => bad
  | _ => bad

/-- Is a type one that firmware handles through the mailbox (R439)? -/
def firmwareType (ty : Nat) : Bool := decide (6 ≤ ty) && decide (ty ≤ 10)

/-- The fragments of a wall block's bytes (R218); none where a LENGTH does not fit. -/
def splitFragments : Nat → List Byte → Option (List (List Byte))
  | 0, b => if b.isEmpty then some [] else none
  | fuel + 1, b =>
    if b.isEmpty then some []
    else
      let n := beAt b 2 2
      if n < 8 ∨ b.length < n then none else (splitFragments fuel (b.drop n)).map fun r => b.take n :: r

/-- A fragment is taken (R218, R219, R439): one for firmware goes into the mailbox; another is put behind what came of its message, which is heard with its last
fragment. A message of a type not listed is discarded and counted. -/
def State.takeFragment (s : State) (f : List Byte) : State :=
  let ty := byteAt f 0
  if firmwareType ty then (s.mailFragment f).getD s
  else
    let id := beAt f 4 4
    let body := Tab.get [] s.twn.wall.rxParts id ++ f.drop 8
    let keep (t : Tab (List Byte)) : State := s.setWall { s.twn.wall with rxParts := t }
    if (byteAt f 1).testBit 0 then (keep (Tab.erase s.twn.wall.rxParts id)).hearMessage ty body
    else keep (Tab.put [] s.twn.wall.rxParts id body)

/-- Is there room in the mailbox for so many fragments (R439)? -/
def State.mailRoom (s : State) (n : Nat) : Bool :=
  decide (n ≤ (if s.pwmbx.backlog.isEmpty then 8 - s.pwmbx.full.length else 0) + (32 - s.pwmbx.backlog.length))

/-- A wall block has come whole (R217): in order, with its CRC, its fragments readable and room for those that firmware handles it is delivered, else
discarded. -/
def State.closeBlock (s : State) (bseq ack : Nat) (data : List Byte) (crc : Nat) : State :=
  match splitFragments 513 data with
  | some fs =>
    if decide (1 ≤ data.length) && decide (data.length ≤ 4096) && crc32 data == crc && bseq == s.twn.wall.rxNext &&
        s.mailRoom (fs.filter fun f => firmwareType (byteAt f 0)).length then
      let s1 := s.setWall { s.twn.wall with rxNext := (bseq + 1) % 16777216, discarding := false }
      fs.foldl State.takeFragment (s1.ackWall ack)
    else s.discardBlock
  | none => s.discardBlock

/-- A block outside a wall block: broken framing, discarded once for a run of them (R217). -/
def State.strayBlock (s : State) : State :=
  if s.twn.wall.rxStray then s else (s.setWall { s.twn.wall with rxStray := true }).discardBlock

/-- A data block. -/
def State.dataBlock (s : State) (b : List Byte) : State :=
  match s.twn.wall.rxOpen with
  | some (q, a, d) =>
    if 4096 ≤ d.length then (s.setWall { s.twn.wall with rxOpen := none, rxStray := true }).discardBlock
    else s.setWall { s.twn.wall with rxOpen := some (q, a, d ++ b) }
  | none => s.strayBlock

/-- A TAIL. -/
def State.tailBlock (s : State) (b : List Byte) : State :=
  match s.twn.wall.rxOpen with
  | some (q, a, d) =>
    let s1 := s.setWall { s.twn.wall with rxOpen := none }
    let valid := byteAt b 1
    if valid < 1 ∨ 8 < valid ∨ d.isEmpty = true then s1.discardBlock
    else s1.closeBlock q a (d.take (d.length - 8 + valid)) (beAt b 2 4)
  | none => s.strayBlock

/-- One block of the de-striped sequence (R215, R217). A HEAD that finds a wall block open breaks that one's framing; a type not listed is counted and
ignored. -/
def State.takeBlock (s : State) (k : Block66) : State :=
  let b := k.bytes
  if k.sync = 1 then s.dataBlock b
  else match byteAt b 0 with
    | 0xA5 =>
      let s1 := if s.twn.wall.rxOpen.isSome then s.discardBlock else s
      s1.setWall { s1.twn.wall with rxOpen := some (beAt b 1 3, beAt b 4 3, []), rxStray := false }
    | 0xB4 => s.tailBlock b
    | 0xC3 => s.resendFrom fun e => seqBefore (beAt b 1 3) e.bseq
    | _ => s.bump Reg.TWN_CNT_BLOCK_CRC

/-- The blocks that stand in the lanes' buffers, taken from the bonded lanes in turn, as long as the lane whose turn it is has one (R214, R216). -/
def State.destripe (s : State) (lanes : List Nat) : Nat → State
  | 0 => s
  | fuel + 1 =>
    let w := s.twn.wall
    let l := lanes.getD w.rxPos 0
    match Tab.get [] w.rxFifo l with
    | [] => s
    | k :: rest =>
      let s1 := s.setWall { w with rxFifo := Tab.put [] w.rxFifo l rest, rxPos := if w.rxPos + 1 < lanes.length then w.rxPos + 1 else 0 }
      State.destripe (s1.takeBlock k) lanes fuel

/-- Is a block FILLER or ALIGN, which go before de-striping (R215)? -/
def laneLocal (k : Block66) : Bool := k.sync == 2 && (byteAt k.bytes 0 == 0x1E || byteAt k.bytes 0 == 0x66)

/-- What one lane received (R214, R215, R295): deletions and invalid sync headers are counted, and what is left waits for its turn. -/
def State.takeLane (rx : WallRx) (s : State) (l : Nat) : State :=
  let bs := rx.lanes.getD l []
  let valid := bs.filter fun k => k.sync == 1 || k.sync == 2
  let add (a : State) (reg n : Nat) : State := if n = 0 then a else a.bumpBy reg n
  let s1 := add (add s (Reg.LAN_CNT_RM_DEL (1024 + l)) (rx.deleted.getD l 0)) (Reg.LAN_CNT_SYNC_ERR (1024 + l)) (bs.length - valid.length)
  let keep := valid.filter fun k => !laneLocal k
  if keep.isEmpty then s1
  else s1.setWall { s1.twn.wall with rxFifo := Tab.put [] s1.twn.wall.rxFifo l (Tab.get [] s1.twn.wall.rxFifo l ++ keep) }

/-- WALL_BLOCK_RECEIVE (R214–R217): the lanes' blocks are put in line and taken in turn. Lanes more than 64 blocks apart cannot be: what they brought is
discarded. -/
def execWallBlockReceive (t : Nat) (rx : WallRx) (s0 : State) : Host.Outcome State Fault Refusal :=
  let s := s0.at t
  if s.wallRuns = false then .next s
  else if rx.skew.any fun n => decide (64 < n) then
    .next (s.setWall { s.twn.wall with rxFifo := [], rxOpen := none, rxStray := true }).discardBlock
  else
    let lanes := s.bonded
    let s1 := lanes.foldl (State.takeLane rx) s
    .next (s1.destripe lanes ((s1.twn.wall.rxFifo.map fun e => e.2.length).foldl (· + ·) 0))

end Sys2Proof.Machine
end

