-- ==== Sys2Proof/Machine/Dispatch.lean ====
section
/-! DEFINITION. One arm per command: its meaning, on everything but the queue. -/
namespace Sys2Proof.Machine

/-- The effect of a command. -/
def exec (i : Instr) (s : State) : Host.Outcome State Fault Refusal :=
  match i with
  | .powerOn t straps resetN => Sys2Proof.Machine.execPowerOn t straps resetN s
  | .resetNFall t => Sys2Proof.Machine.execResetNFall t s
  | .resetNRelease t straps => Sys2Proof.Machine.execResetNRelease t straps s
  | .powerFail t => Sys2Proof.Machine.execPowerFail t s
  | .powerFailEnd t straps => Sys2Proof.Machine.execPowerFailEnd t straps s
  | .cardPortReset t hot => Sys2Proof.Machine.execCardPortReset t hot s
  | .testReset t => Sys2Proof.Machine.execTestReset t s
  | .internalResetEnd t straps => Sys2Proof.Machine.execInternalResetEnd t straps s
  | .sowStageStart t vout => Sys2Proof.Machine.execSowStageStart t vout s
  | .sowBlock t rated => Sys2Proof.Machine.execSowBlock t rated s
  | .sowStageComplete t => Sys2Proof.Machine.execSowStageComplete t s
  | .reapBlock t rated => Sys2Proof.Machine.execReapBlock t rated s
  | .reapingComplete t => Sys2Proof.Machine.execReapingComplete t s
  | .furrowMove t => Sys2Proof.Machine.execFurrowMove t s
  | .furrowMoveDone t unit => Sys2Proof.Machine.execFurrowMoveDone t unit s
  | .stopTailEnd t p => Sys2Proof.Machine.execStopTailEnd t p s
  | .avsTargetCompute t need => Sys2Proof.Machine.execAvsTargetCompute t need s
  | .avsStep t own acked => Sys2Proof.Machine.execAvsStep t own acked s
  | .pmbusIoutRead t iout => Sys2Proof.Machine.execPmbusIoutRead t iout s
  | .directoryReadDone t => Sys2Proof.Machine.execDirectoryReadDone t s
  | .flashReadError t => Sys2Proof.Machine.execFlashReadError t s
  | .headerReadDone t => Sys2Proof.Machine.execHeaderReadDone t s
  | .fwHeaderReadDone t => Sys2Proof.Machine.execFwHeaderReadDone t s
  | .fwSectionLoaded t => Sys2Proof.Machine.execFwSectionLoaded t s
  | .cfgRecordStreamed t => Sys2Proof.Machine.execCfgRecordStreamed t s
  | .cfgSignatureChecked t => Sys2Proof.Machine.execCfgSignatureChecked t s
  | .recordsApplied t desc => Sys2Proof.Machine.execRecordsApplied t desc s
  | .synthLoopLocked t n band => Sys2Proof.Machine.execSynthLoopLocked t n band s
  | .synthLockTimeout t n => Sys2Proof.Machine.execSynthLockTimeout t n s
  | .fallbackSlotTry t => Sys2Proof.Machine.execFallbackSlotTry t s
  | .dramTrainStepDone t chans => Sys2Proof.Machine.execDramTrainStepDone t chans s
  | .trainClosingClaim t => Sys2Proof.Machine.execTrainClosingClaim t s
  | .directoryWrite t => Sys2Proof.Machine.execDirectoryWrite t s
  | .setNextA t confirm => Sys2Proof.Machine.execSetNextA t confirm s
  | .setNextB t confirm => Sys2Proof.Machine.execSetNextB t confirm s
  | .abortWrite t confirm => Sys2Proof.Machine.execAbortWrite t confirm s
  | .restart t confirm => Sys2Proof.Machine.execRestart t confirm s
  | .badCommand t confirm cmd => Sys2Proof.Machine.execBadCommand t confirm cmd s
  | .fuseBurn t value got => Sys2Proof.Machine.execFuseBurn t value got s
  | .imageStart t => Sys2Proof.Machine.execImageStart t s
  | .imageData t => Sys2Proof.Machine.execImageData t s
  | .chunkProgrammed t ok => Sys2Proof.Machine.execChunkProgrammed t ok s
  | .imageEnd t => Sys2Proof.Machine.execImageEnd t s
  | .imageSetNext t => Sys2Proof.Machine.execImageSetNext t s
  | .imageRestart t => Sys2Proof.Machine.execImageRestart t s
  | .imageAbortWrite t => Sys2Proof.Machine.execImageAbortWrite t s
  | .writeSessionTimeout t => Sys2Proof.Machine.execWriteSessionTimeout t s
  | .enterSafe t confirm => Sys2Proof.Machine.execEnterSafe t confirm s
  | .servicePeriod t => Sys2Proof.Machine.execServicePeriod t s
  | .fratinReceive t path d => Sys2Proof.Machine.execFratinReceive t path d s
  | .take t => Sys2Proof.Machine.execTake t s
  | .salvoPart t => Sys2Proof.Machine.execSalvoPart t s
  | .salvoCommit t => Sys2Proof.Machine.execSalvoCommit t s
  | .salvoOpenTimeout t => Sys2Proof.Machine.execSalvoOpenTimeout t s
  | .salvoValidation t => Sys2Proof.Machine.execSalvoValidation t s
  | .liveSet t => Sys2Proof.Machine.execLiveSet t s
  | .query t => Sys2Proof.Machine.execQuery t s
  | .statusDeviceSummary t => Sys2Proof.Machine.execStatusDeviceSummary t s
  | .statusTimingGroup t => Sys2Proof.Machine.execStatusTimingGroup t s
  | .statusStoredStream t => Sys2Proof.Machine.execStatusStoredStream t s
  | .statusFaultSummary t => Sys2Proof.Machine.execStatusFaultSummary t s
  | .statusFlowContext t => Sys2Proof.Machine.execStatusFlowContext t s
  | .statusHealth t => Sys2Proof.Machine.execStatusHealth t s
  | .statusBootRegisters t => Sys2Proof.Machine.execStatusBootRegisters t s
  | .statusLintel t => Sys2Proof.Machine.execStatusLintel t s
  | .statusAudioPort t => Sys2Proof.Machine.execStatusAudioPort t s
  | .lintelArmMsg t => Sys2Proof.Machine.execLintelArmMsg t s
  | .lintelDisarmMsg t => Sys2Proof.Machine.execLintelDisarmMsg t s
  | .loadText t => Sys2Proof.Machine.execLoadText t s
  | .clearText t => Sys2Proof.Machine.execClearText t s
  | .lintelArmEdge t level => Sys2Proof.Machine.execLintelArmEdge t level s
  | .lintelPinQualified t => Sys2Proof.Machine.execLintelPinQualified t s
  | .latchInstant t g => Sys2Proof.Machine.execLatchInstant t g s
  | .switchPoint t g => Sys2Proof.Machine.execSwitchPoint t g s
  | .onAirNotify t => Sys2Proof.Machine.execOnAirNotify t s
  | .windowLeft t d line => Sys2Proof.Machine.execWindowLeft t d line s
  | .lagMeasure t src g least most => Sys2Proof.Machine.execLagMeasure t src g least most s
  | .snapshotStart t table => Sys2Proof.Machine.execSnapshotStart t table s
  | .snapshotDone t => Sys2Proof.Machine.execSnapshotDone t s
  | .mbxGo t length => Sys2Proof.Machine.execMbxGo t length s
  | .mbxInTaken t => Sys2Proof.Machine.execMbxInTaken t s
  | .mbxOutRelease t => Sys2Proof.Machine.execMbxOutRelease t s
  | .inputFrameComplete t stream => Sys2Proof.Machine.execInputFrameComplete t stream s
  | .decisionInstant t g frame => Sys2Proof.Machine.execDecisionInstant t g frame s
  | .readStart t stream frame => Sys2Proof.Machine.execReadStart t stream frame s
  | .slotRead t stream tile => Sys2Proof.Machine.execSlotRead t stream tile s
  | .scrubChunk t g => Sys2Proof.Machine.execScrubChunk t g s
  | .thumbnailInterval t f pictures => Sys2Proof.Machine.execThumbnailInterval t f pictures s
  | .cacheRebuild t c => Sys2Proof.Machine.execCacheRebuild t c s
  | .goldenTileTest t c ok => Sys2Proof.Machine.execGoldenTileTest t c ok s
  | .sramBistChunk t res c ok => Sys2Proof.Machine.execSramBistChunk t res c ok s
  | .audioBlock t b ins => Sys2Proof.Machine.execAudioBlock t b ins s
  | .slipApply t input => Sys2Proof.Machine.execSlipApply t input s
  | .deembPacketError t lane => Sys2Proof.Machine.execDeembPacketError t lane s
  | .maskHiWrite t p out value => Sys2Proof.Machine.execMaskHiWrite t p out value s
  | .maskApply t p => Sys2Proof.Machine.execMaskApply t p s
  | .portStart t p => Sys2Proof.Machine.execPortStart t p s
  | .startLeadEnd t p => Sys2Proof.Machine.execStartLeadEnd t p s
  | .portStop t p => Sys2Proof.Machine.execPortStop t p s
  | .portClockLoss t p cause => Sys2Proof.Machine.execPortClockLoss t p cause s
  | .portRecovery t p => Sys2Proof.Machine.execPortRecovery t p s
  | .followRange t p low => Sys2Proof.Machine.execFollowRange t p low s
  | .keyInEdge t level => Sys2Proof.Machine.execKeyInEdge t level s
  | .keyClaim t => Sys2Proof.Machine.execKeyClaim t s
  | .keyResample t level => Sys2Proof.Machine.execKeyResample t level s
  | .keyConflict t => Sys2Proof.Machine.execKeyConflict t s
  | .alivePeerEdge t level => Sys2Proof.Machine.execAlivePeerEdge t level s
  | .alivePeerTimeout t => Sys2Proof.Machine.execAlivePeerTimeout t s
  | .wallDownKeyTimeout t => Sys2Proof.Machine.execWallDownKeyTimeout t s
  | .giveUp t confirm => Sys2Proof.Machine.execGiveUp t confirm s
  | .handoverArm t confirm => Sys2Proof.Machine.execHandoverArm t confirm s
  | .handoverCancel t confirm => Sys2Proof.Machine.execHandoverCancel t confirm s
  | .resync t confirm => Sys2Proof.Machine.execResync t confirm s
  | .arbitrate t confirm => Sys2Proof.Machine.execArbitrate t confirm s
  | .heartbeatSend t => Sys2Proof.Machine.execHeartbeatSend t s
  | .heartbeat t hb => Sys2Proof.Machine.execHeartbeat t hb s
  | .wallDown t => Sys2Proof.Machine.execWallDown t s
  | .wallBlockReceive t rx => Sys2Proof.Machine.execWallBlockReceive t rx s
  | .resend t bseq => Sys2Proof.Machine.execResend t bseq s
  | .wallResendTimeout t => Sys2Proof.Machine.execWallResendTimeout t s
  | .wallRebond t lane lock => Sys2Proof.Machine.execWallRebond t lane lock s
  | .giveUpMsg t reason => Sys2Proof.Machine.execGiveUpMsg t reason s
  | .decision t recs => Sys2Proof.Machine.execDecision t recs s
  | .takeOrder t o => Sys2Proof.Machine.execTakeOrder t o s
  | .digestSend t tg frame => Sys2Proof.Machine.execDigestSend t tg frame s
  | .digest t tg frame recs => Sys2Proof.Machine.execDigest t tg frame recs s
  | .digestMissing t tg frame => Sys2Proof.Machine.execDigestMissing t tg frame s
  | .arbitrateMsg t phase result event units inputs => Sys2Proof.Machine.execArbitrateMsg t phase result event units inputs s
  | .selftestDone t units inputs => Sys2Proof.Machine.execSelftestDone t units inputs s
  | .handover t opcode tg frame => Sys2Proof.Machine.execHandover t opcode tg frame s
  | .handoverReplyTimeout t => Sys2Proof.Machine.execHandoverReplyTimeout t s
  | .handoverInstant t => Sys2Proof.Machine.execHandoverInstant t s
  | .healthSend t => Sys2Proof.Machine.execHealthSend t s
  | .health t score capped words => Sys2Proof.Machine.execHealth t score capped words s
  | .yield t => Sys2Proof.Machine.execYield t s
  | .stateRequest t => Sys2Proof.Machine.execStateRequest t s
  | .state t sec => Sys2Proof.Machine.execState t sec s
  | .joinComplete t => Sys2Proof.Machine.execJoinComplete t s
  | .joinRetryTimeout t => Sys2Proof.Machine.execJoinRetryTimeout t s
  | .replyRelay t ip udp mgt data => Sys2Proof.Machine.execReplyRelay t ip udp mgt data s
  | .pwMailboxFragment t data => Sys2Proof.Machine.execPwMailboxFragment t data s
  | .pwmbxGo t value => Sys2Proof.Machine.execPwmbxGo t value s
  | .pwmbxFree t value => Sys2Proof.Machine.execPwmbxFree t value s
  | .pwFragmentAcked t buffer => Sys2Proof.Machine.execPwFragmentAcked t buffer s
  | .candidateMeasure t g k offset mark => Sys2Proof.Machine.execCandidateMeasure t g k offset mark s
  | .candidateQualified t g k => Sys2Proof.Machine.execCandidateQualified t g k s
  | .candidateLoss t g k => Sys2Proof.Machine.execCandidateLoss t g k s
  | .candidateGlitch t g k => Sys2Proof.Machine.execCandidateGlitch t g k s
  | .candidateRateChange t g k => Sys2Proof.Machine.execCandidateRateChange t g k s
  | .candidateReturn t g k => Sys2Proof.Machine.execCandidateReturn t g k s
  | .groupAcquire t g target => Sys2Proof.Machine.execGroupAcquire t g target s
  | .dpllLocked t g mark => Sys2Proof.Machine.execDpllLocked t g mark s
  | .frameStart t g => Sys2Proof.Machine.execFrameStart t g s
  | .frameOutPulse t g => Sys2Proof.Machine.execFrameOutPulse t g s
  | .tgRealign t confirm mask => Sys2Proof.Machine.execTgRealign t confirm mask s
  | .realignApply t g => Sys2Proof.Machine.execRealignApply t g s
  | .vfsRefLost t v => Sys2Proof.Machine.execVfsRefLost t v s
  | .vfsRefRequalified t v ppm => Sys2Proof.Machine.execVfsRefRequalified t v ppm s
  | .sysRefLost t => Sys2Proof.Machine.execSysRefLost t s
  | .loopUnlock t n error => Sys2Proof.Machine.execLoopUnlock t n error s
  | .loopRelocked t n => Sys2Proof.Machine.execLoopRelocked t n s
  | .loopShelterTimeout t n => Sys2Proof.Machine.execLoopShelterTimeout t n s
  | .guardTrip t n => Sys2Proof.Machine.execGuardTrip t n s
  | .relock t confirm n => Sys2Proof.Machine.execRelock t confirm n s
  | .mdllLocked t f => Sys2Proof.Machine.execMdllLocked t f s
  | .mdllNoLock t f => Sys2Proof.Machine.execMdllNoLock t f s
  | .los t lane signal => Sys2Proof.Machine.execLos t lane signal s
  | .rxLocked t lane ppm => Sys2Proof.Machine.execRxLocked t lane ppm s
  | .pwrReq t lane value => Sys2Proof.Machine.execPwrReq t lane value s
  | .txEqWrite t lane value => Sys2Proof.Machine.execTxEqWrite t lane value s
  | .rxCtrlWrite t lane dfe value => Sys2Proof.Machine.execRxCtrlWrite t lane dfe value s
  | .testStart t lane value => Sys2Proof.Machine.execTestStart t lane value s
  | .testStop t lane bits errs => Sys2Proof.Machine.execTestStop t lane bits errs s
  | .testDurationEnd t lane bits errs => Sys2Proof.Machine.execTestDurationEnd t lane bits errs s
  | .inject t lane => Sys2Proof.Machine.execInject t lane s
  | .prbsResync t lane bits errs => Sys2Proof.Machine.execPrbsResync t lane bits errs s
  | .eyePointStart t lane value => Sys2Proof.Machine.execEyePointStart t lane value s
  | .eyeScanStart t lane value => Sys2Proof.Machine.execEyeScanStart t lane value s
  | .eyeDone t lane count horizontal vertical => Sys2Proof.Machine.execEyeDone t lane count horizontal vertical s
  | .eyePeriodicScan t lane => Sys2Proof.Machine.execEyePeriodicScan t lane s
  | .sdiLine t lane ln => Sys2Proof.Machine.execSdiLine t lane ln s
  | .sdiReady t lane fr => Sys2Proof.Machine.execSdiReady t lane fr s
  | .sdiLost t lane cause => Sys2Proof.Machine.execSdiLost t lane cause s
  | .pairedFrameComplete t src a b => Sys2Proof.Machine.execPairedFrameComplete t src a b s
  | .linkUp t port => Sys2Proof.Machine.execLinkUp t port s
  | .linkDown t port cause rx => Sys2Proof.Machine.execLinkDown t port cause rx s
  | .frameReceive t port fr => Sys2Proof.Machine.execFrameReceive t port fr s
  | .pauseHoldExpiry t port => Sys2Proof.Machine.execPauseHoldExpiry t port s
  | .pauseOn t port => Sys2Proof.Machine.execPauseOn t port s
  | .pauseRefresh t port => Sys2Proof.Machine.execPauseRefresh t port s
  | .pauseOff t port drained => Sys2Proof.Machine.execPauseOff t port drained s
  | .throughForward t port launch => Sys2Proof.Machine.execThroughForward t port launch s
  | .lineDeadline t n ts row => Sys2Proof.Machine.execLineDeadline t n ts row s
  | .bandPass t n ts band => Sys2Proof.Machine.execBandPass t n ts band s
  | .contextNotReady t n cause => Sys2Proof.Machine.execContextNotReady t n cause s
  | .contextReady t n => Sys2Proof.Machine.execContextReady t n s
  | .pathInactive t n path => Sys2Proof.Machine.execPathInactive t n path s
  | .skewMeasure t n => Sys2Proof.Machine.execSkewMeasure t n s
  | .launch t txc frame packet ready lineAt => Sys2Proof.Machine.execLaunch t txc frame packet ready lineAt s
  | .igmpReport t port query => Sys2Proof.Machine.execIgmpReport t port query s
  | .ptpEventReceive t port kind domain version origin stamp correction => Sys2Proof.Machine.execPtpEventReceive t port kind domain version origin stamp correction s
  | .announceReceive t port body => Sys2Proof.Machine.execAnnounceReceive t port body s
  | .announceTimeout t port => Sys2Proof.Machine.execAnnounceTimeout t port s
  | .autoStepAccept t => Sys2Proof.Machine.execAutoStepAccept t s
  | .acceptStep t confirm => Sys2Proof.Machine.execAcceptStep t confirm s
  | .slewComplete t => Sys2Proof.Machine.execSlewComplete t s
  | .ptpSend t port kind => Sys2Proof.Machine.execPtpSend t port kind s
  | .delayReqReceive t port domain version => Sys2Proof.Machine.execDelayReqReceive t port domain version s
  | .ppsInEdge t stamp => Sys2Proof.Machine.execPpsInEdge t stamp s
  | .ppsInLost t => Sys2Proof.Machine.execPpsInLost t s
  | .ppsOutPulse t => Sys2Proof.Machine.execPpsOutPulse t s
  | .refreshDue t c rank burst paid => Sys2Proof.Machine.execRefreshDue t c rank burst paid s
  | .mr4Poll t c r0 r1 => Sys2Proof.Machine.execMr4Poll t c r0 r1 s
  | .mr4PollCmd t confirm readings => Sys2Proof.Machine.execMr4PollCmd t confirm readings s
  | .dramTrainCmd t confirm => Sys2Proof.Machine.execDramTrainCmd t confirm s
  | .drcRateWrite t rate => Sys2Proof.Machine.execDrcRateWrite t rate s
  | .zqCalibration t g => Sys2Proof.Machine.execZqCalibration t g s
  | .zqLatch t g => Sys2Proof.Machine.execZqLatch t g s
  | .rtRequestComplete t c write deadline stream tile => Sys2Proof.Machine.execRtRequestComplete t c write deadline stream tile s
  | .faultAccepted t => Sys2Proof.Machine.execFaultAccepted t s
  | .faultRecordRemove t => Sys2Proof.Machine.execFaultRecordRemove t s
  | .fltAck t unit classes => Sys2Proof.Machine.execFltAck t unit classes s
  | .fltOpenClear t x mask => Sys2Proof.Machine.execFltOpenClear t x mask s
  | .holdExpiry t => Sys2Proof.Machine.execHoldExpiry t s
  | .fltKick t => Sys2Proof.Machine.execFltKick t s
  | .watchdogExpiry t pc => Sys2Proof.Machine.execWatchdogExpiry t pc s
  | .aliveEdge t => Sys2Proof.Machine.execAliveEdge t s
  | .thermalRead t temps => Sys2Proof.Machine.execThermalRead t temps s
  | .maintenanceRequest t r code unit => Sys2Proof.Machine.execMaintenanceRequest t r code unit s
  | .maintenanceDone t r => Sys2Proof.Machine.execMaintenanceDone t r s
  | .checkpointDue t => Sys2Proof.Machine.execCheckpointDue t s
  | .checkpoint t confirm => Sys2Proof.Machine.execCheckpoint t confirm s
  | .lifeWriteDone t ok => Sys2Proof.Machine.execLifeWriteDone t ok s
  | .bar2Access t x n write data => Sys2Proof.Machine.execBar2Access t x n write data s
  | .registerWrite t off value fromCard full aux => Sys2Proof.Machine.execRegisterWrite t off value fromCard full aux s
  | .rcCounterRead t off => Sys2Proof.Machine.execRcCounterRead t off s
  | .cardPortLinkDown t => Sys2Proof.Machine.execCardPortLinkDown t s
  | .cardPortLinkUp t speed width => Sys2Proof.Machine.execCardPortLinkUp t speed width s
  | .spiRead t addr n late => Sys2Proof.Machine.execSpiRead t addr n late s
  | .spiWrite t addr words partial_ aux => Sys2Proof.Machine.execSpiWrite t addr words partial_ aux s
  | .spiStatus t => Sys2Proof.Machine.execSpiStatus t s
  | .msixUnmask t v => Sys2Proof.Machine.execMsixUnmask t v s
  | .kick t c fromCard => Sys2Proof.Machine.execKick t c fromCard s
  | .descriptorFetched t c err host => Sys2Proof.Machine.execDescriptorFetched t c err host s
  | .descriptorComplete t c => Sys2Proof.Machine.execDescriptorComplete t c s
  | .dmaRequest t r => Sys2Proof.Machine.execDmaRequest t r s
  | .dmaBurstComplete t c err host => Sys2Proof.Machine.execDmaBurstComplete t c err host s
  | .busError t c code addr => Sys2Proof.Machine.execBusError t c code addr s
  | .completionTimeout t c => Sys2Proof.Machine.execCompletionTimeout t c s
  | .clearErr t => Sys2Proof.Machine.execClearErr t s
  | .dmaDisable t => Sys2Proof.Machine.execDmaDisable t s
  | .captureRead t n => Sys2Proof.Machine.execCaptureRead t n s
  | .fstSelWrite t value => Sys2Proof.Machine.execFstSelWrite t value s
  | .fstQmaxRead t => Sys2Proof.Machine.execFstQmaxRead t s
  | .ptpTimeFracRead t => Sys2Proof.Machine.execPtpTimeFracRead t s
  | .loSnapshotRead t off => Sys2Proof.Machine.execLoSnapshotRead t off s
  | .signalDetect t lane => Sys2Proof.Machine.execSignalDetect t lane s
  | .blockLockGained t port => Sys2Proof.Machine.execBlockLockGained t port s
  | .prbsCheckerInSync t lane => Sys2Proof.Machine.execPrbsCheckerInSync t lane s
  | .dpllLeavesLocked t g mark => Sys2Proof.Machine.execDpllLeavesLocked t g mark s
  | .txSteerLimit t lane demand => Sys2Proof.Machine.execTxSteerLimit t lane demand s
  | .vfsTrackingAgain t v => Sys2Proof.Machine.execVfsTrackingAgain t v s
  | .pcieConfigurationRequest t q => Sys2Proof.Machine.execPcieConfigurationRequest t q s

end Sys2Proof.Machine
end

