-- ==== Sys2Proof/Safety.lean ====
section
/-! DEFINITION. What a safe run keeps, in the terms the claims use: the key, the modes, the canonical form of the memories. -/
namespace Sys2Proof.Machine

/-- KEY_OUT is high only in SERVICE, or in TRAIN during the closing claim; that claim runs only in TRAIN (R207, R209). -/
abbrev State.keySafe (s : State) : Prop :=
  (s.pins.keyOut = true → s.ctl.mode = .service ∨ (s.ctl.mode = .train ∧ s.twn.key.closing = true)) ∧
    (s.twn.key.closing = true → s.ctl.mode = .train)

/-- The moves between modes that R56 lists; a reset leads to BOOT from any mode. -/
def Mode.moves : Mode → Mode → Bool
  | _, .boot => true
  | .boot, .train => true
  | .boot, .test => true
  | .train, .join => true
  | .train, .service => true
  | .join, .service => true
  | _, .safe => true
  | a, b => a == b

/-- The end of the internal reset straight into TEST (R47, R56). -/
abbrev State.resetIntoTest (s t : State) : Prop := s.power.inReset = true ∧ t.power.inReset = false ∧ t.ctl.mode = .test

/-- The canonical form of the register file, the DRAM, the TCM and the flash. -/
def State.memoryCanonical (s : State) : Bool :=
  Tab.wf RegMap.resetOf s.regs && Tab.wf (fun _ => Config.blankByte) s.dram && Tab.wf (fun _ => Config.blankByte) s.tcm &&
    Tab.wf (fun _ => Config.erasedByte) s.flash

/-- The slot is refused with a code and the other is to be tried (R44, R45): the code stands in BOOT_STATUS, what is sown is reaped, and the slot
is FAILED unless the code is 0x02. -/
abbrev State.refusedWith (u : State) (x : Slot) (code : Nat) : Prop :=
  u.rdFld Reg.BOOT_STATUS (if x = .a then 23 else 31) (if x = .a then 16 else 24) = code ∧ u.boot.stage = .fallback ∧
    u.power.reaping = some .fallback ∧ (code ≠ 2 → slotState u.boot.dirDue x = .failed)

/-- A reply of a type and body was built in state s for a message, counted by the device's SEQ and kept as the sender's newest (R98, R101). -/
abbrev State.replied (s u : State) (r : ReplyTo) (type : Nat) (body : List Byte) : Prop :=
  u.xpt.ownSeq = (s.xpt.ownSeq + 1) % 4294967296 ∧
    (Tab.get coldSender u.xpt.senders r.sender).replies.head? = some (r.seq, r, s.fratinMsg r type body)

/-- Does a message reach the receiver (R97): every one of the mailbox, of a management port those it takes? -/
def State.servedOn (s : State) : MsgPath → Datagram → Bool
  | .mailbox, _ => true
  | .mgt i, d => s.mgtTakes i d

/-- The wall runs over its lane 0 alone, and no block waits in a buffer. -/
def State.oneLane (s : State) : Bool :=
  s.wallRuns && s.twn.wall.locked == 1 && s.twn.wall.rxFifo.isEmpty && s.twn.wall.rxPos == 0

/-- The message was acknowledged with a VALUE and no other field (R111). -/
abbrev State.acked (s u : State) (r : ReplyTo) (value : Nat) : Prop := s.replied u r 0x7E (ackBody r 0 0 value 0 0)

/-- The message was refused (R111, R112). -/
abbrev State.naked (s u : State) (r : ReplyTo) (reason index detail detail2 : Nat) : Prop :=
  s.replied u r 0x7F (toBe 4 r.seq ++ [BitVec.ofNat 8 r.type, BitVec.ofNat 8 reason] ++ toBe 2 index ++ toBe 4 detail ++ toBe 4 detail2)

/-- No key verifies the tag of a message: its key is not loaded, or the tag is not the first 16 bytes of the HMAC under it (R98, R99). -/
abbrev State.tagWrong (s : State) (bs : List Byte) : Prop :=
  ∀ k ∈ (Tab.find? s.cfg.keys (byteAt bs 12)).toList, (hmacSha256 k.key (bs.take (bs.length - 16))).take 16 ≠ bs.drop (bs.length - 16)

/-- A message of a type stands at the front of the receive queue, addressed to the device itself. -/
abbrev State.hasMsg (s : State) (m : Msg) (type : Nat) : Prop :=
  s.xpt.rx.head? = some m ∧ m.reply.type = type ∧ m.reply.own = true ∧ m.toPair = false

/-- An IMAGE_CHUNK operation stands at the front of the receive queue, in a mode that takes it (R61, R110). -/
abbrev State.hasOrder (s : State) (m : Msg) (op : Nat) : Prop := s.hasMsg m 0x30 ∧ byteAt m.body 0 = op ∧ s.rwlLocked = true

/-- The operation names the open session on its own path (R48). -/
abbrev namesSession (w : WriteSession) (m : Msg) : Prop :=
  w.slot = bodySlot m.body ∧ w.sid = byteAt m.body 2 ∧ pathCode w.path = pathCode m.reply.path

end Sys2Proof.Machine
end

