-- ==== Sys2Proof/Certificates/Slice0/Obligations.lean ====
section
/-! DEFINITION. The statements for the provers. -/
open Sys2Proof Sys2Proof.Machine

/-- A step is exec of the front command with the queue's rest, and a tick of the outputs on an empty queue: the model's convention (logs 4, 166), not a rule of the spec. -/
def Obligations.step_runs_front_command : Prop :=
  (∀ (c : Instr) (rest : List Instr) (s : State), step { s with pending := c :: rest } = exec c { s with pending := rest }) ∧
  (∀ s : State, s.pending = [] → step s = .next s.tick)

/-- What the spec gives for reset (R146, R410, R452), and that the invariants of the model (R207, R209; the canonical form of its memories, log 8) hold there. -/
def Obligations.reset_state_is_safe_and_as_stated : Prop :=
  (State.reset.keySafe ∧ State.reset.memoryCanonical = true ∧ State.reset.ctl.mode = .boot ∧ State.reset.ctl.role = .solo ∧
    State.reset.pins.keyOut = false ∧ State.reset.pins.alive = false ∧ State.reset.power.stage = 0 ∧ State.reset.flt.fifo = [] ∧
    State.reset.pending = [] ∧ State.reset.dram = [] ∧ State.reset.tcm = []) ∧
  (State.reset.rd Reg.DMA_CTRL = 0x80000000 ∧ State.reset.rd Reg.FST_CFG = 0x00001019 ∧ ∀ a, State.reset.rd a = RegMap.resetOf a)

/-- The invariant State.keySafe (R207, R209): no command raises KEY_OUT elsewhere, and every way out of SERVICE or of the closing claim drives it low. -/
def Obligations.key_out_is_high_only_in_service_or_the_closing_claim : Prop :=
  ∀ s t : State, s.keySafe → step s = .next t → t.keySafe

/-- Mode.moves lists the transitions of R56. The premise rules out states in which a closing claim runs outside TRAIN (R207), which no run reaches. A power-on is a reset from any mode. -/
def Obligations.modes_change_only_along_the_transitions : Prop :=
  ∀ s t : State, s.keySafe → step s = .next t → Mode.moves s.ctl.mode t.ctl.mode = true ∨ s.resetIntoTest t ∨ (t.ctl.mode = .test ∧
    ∃ x y, s.pending.head? = some (.powerOn x y true))

/-- What no command changes: the variant, stepping, UID and vendor ID (R1); the queue and the record of outputs are the model's own (logs 3, 4). -/
def Obligations.clock_queue_and_identity : Prop :=
  ∀ s t : State, step s = .next t → t.dev = s.dev ∧ t.pending = s.pending.tail ∧ s.now ≤ t.now ∧ s.out <+: t.out

/-- POWER_ON (R464, R483, R47). -/
def Obligations.power_on_resets_everything : Prop :=
  (∀ t straps s, straps / 4 % 2 = 0 ∨ s.boot.fuse ≠ none → ∃ u, exec (.powerOn t straps true) s = .next u ∧
    (∀ a, u.rd a = RegMap.resetOf a) ∧ u.ctl.mode = .boot ∧ u.ctl.role = .solo ∧ u.boot.stage = .directory ∧ u.power.inReset = false ∧
    u.power.stage = 0 ∧ u.pins.straps = straps % 16 ∧ u.pins.keyOut = false ∧ u.flash = s.flash ∧ u.boot.fuse = s.boot.fuse ∧ u.dram = [] ∧
    u.tcm = []) ∧
  (∀ t straps s, straps / 4 % 2 = 1 → s.boot.fuse = none → ∃ u, exec (.powerOn t straps true) s = .next u ∧ u.ctl.mode = .test ∧
    u.power.inReset = false ∧ u.pins.keyOut = false ∧ u.flt.aliveRuns = true) ∧
  (∀ t straps s, ∃ u, exec (.powerOn t straps false) s = .next u ∧ (∀ a, u.rd a = RegMap.resetOf a) ∧ u.ctl.mode = .boot ∧
    u.power.inReset = true ∧ u.pins.keyOut = false ∧ u.flash = s.flash ∧ u.boot.fuse = s.boot.fuse)

/-- RESET_N_RELEASE, POWER_FAIL_END, INTERNAL_RESET_END (R43, R464, R467, R483). -/
def Obligations.internal_reset_ends_in_boot : Prop :=
  (∀ t straps s, s.power.inReset = true → s.pins.pwrgood = true → straps / 4 % 2 = 0 ∨ s.boot.fuse ≠ none →
    ∃ u, exec (.resetNRelease t straps) s = .next u ∧ u.power.inReset = false ∧ u.ctl.mode = .boot ∧ u.boot.stage = .directory ∧
    u.pins.straps = straps % 16 ∧ u.pins.resetN = true ∧ (∀ a, u.rd a = s.rd a) ∧ u.flash = s.flash ∧ u.boot.fuse = s.boot.fuse) ∧
  (∀ t straps s, s.power.inReset = true → s.pins.resetN = true → straps / 4 % 2 = 0 ∨ s.boot.fuse ≠ none →
    ∃ u, exec (.powerFailEnd t straps) s = .next u ∧ u.power.inReset = false ∧ u.ctl.mode = .boot ∧ u.boot.stage = .directory ∧
    u.pins.straps = straps % 16 ∧ u.pins.pwrgood = true ∧ (∀ a, u.rd a = s.rd a) ∧ u.flash = s.flash ∧ u.boot.fuse = s.boot.fuse) ∧
  (∀ t straps s, s.power.inReset = true → s.pins.resetN = true → s.pins.pwrgood = true → straps / 4 % 2 = 0 ∨ s.boot.fuse ≠ none →
    ∃ u, exec (.internalResetEnd t straps) s = .next u ∧ u.power.inReset = false ∧ u.ctl.mode = .boot ∧ u.boot.stage = .directory ∧
    u.pins.straps = straps % 16 ∧ (∀ a, u.rd a = s.rd a) ∧ u.flash = s.flash ∧ u.boot.fuse = s.boot.fuse)

/-- RESET_N_FALL, POWER_FAIL, TEST_RESET (R464, R458, R467, R209). The cause of a reset already held is the model's choice (log 42). -/
def Obligations.reset_sources_start_reaping : Prop :=
  (∀ t s, s.pins.pwrgood = true → s.power.inReset = false → s.power.reaping = none → ∃ u, exec (.resetNFall t) s = .next u ∧
    u.pins.resetN = false ∧ u.pins.keyOut = false ∧ u.power.reaping = some .pin ∧ u.power.finalCheckpoint = true ∧ u.power.toSow = [] ∧
    u.power.sowing = false ∧ u.flt.aliveRuns = false ∧ u.twn.lit = 0 ∧ u.ctl = s.ctl ∧ (∀ a, u.dramByte a = s.dramByte a) ∧
    u.flash = s.flash) ∧
  (∀ t s, s.power.inReset = false → ∃ u, exec (.powerFail t) s = .next u ∧ u.pins.pwrgood = false ∧ u.pins.keyOut = false ∧
    u.power.reaping = some .powerFail ∧ (s.power.reaping ≠ some .powerFail → u.power.finalCheckpoint = false) ∧ u.flt.aliveRuns = false ∧
    u.twn.lit = 0 ∧ u.ctl = s.ctl ∧ (∀ a, u.dramByte a = s.dramByte a) ∧ u.flash = s.flash) ∧
  (∀ t s, s.power.inReset = true → ∃ u, exec (.powerFail t) s = .next u ∧ u.rdFld Reg.TOP_RESET_CAUSE 2 0 = 3 ∧
    (∀ a, a ≠ Reg.TOP_RESET_CAUSE → u.rd a = s.rd a) ∧ u.power = s.power ∧ u.ctl = s.ctl) ∧
  (∀ t s, exec (.testReset t) s = .next (s.at t))

/-- Across a pin, restart or power-fail reset the fuses, the flash and TOP_RESET_CAUSE survive (R466); its value is that of R469. -/
def Obligations.internal_reset_keeps_flash_and_fuses : Prop :=
  ∀ t s c, s.power.reaping = some c → c = .pin ∨ c = .restart ∨ c = .powerFail → s.power.sown = [] → s.power.tails = [] →
    s.power.finalCheckpoint = false ∨ s.life.queued = [] → ∃ u, exec (.reapingComplete t) s = .next u ∧ u.power.inReset = true ∧
    (∀ a, a ≠ Reg.TOP_RESET_CAUSE → u.rd a = RegMap.resetOf a) ∧
    u.rdFld Reg.TOP_RESET_CAUSE 2 0 = (if c = .pin then 1 else if c = .restart then 2 else 3) ∧
    u.rdFld Reg.TOP_RESET_CAUSE 15 8 = min 255 (s.rdFld Reg.TOP_RESET_CAUSE 15 8 + 1) ∧ u.dram = [] ∧ u.tcm = [] ∧ u.flash = s.flash ∧
    u.boot.fuse = s.boot.fuse ∧ u.pins.keyOut = false ∧ u.ctl.mode = .boot ∧ u.pins.pwrgood = s.pins.pwrgood ∧ u.pins.resetN = s.pins.resetN

/-- SOW_STAGE_START, SOW_BLOCK, SOW_STAGE_COMPLETE, REAP_BLOCK (R456–R458, R207). -/
def Obligations.sowing_moves_one_block : Prop :=
  (∀ t vout s, s.power.inReset = false → s.power.sowing = false → s.power.reaping = none → s.ctl.mode = .train → s.power.stage = 3 →
    ∃ u, exec (.sowStageStart t vout) s = .next u ∧ u.power.sowing = true ∧ u.power.toSow.head? = some .core ∧ u.power.stage = 3 ∧
    (∀ a, u.rd a = s.rd a) ∧ (∀ a, u.dramByte a = s.dramByte a)) ∧
  (∀ t vout s, s.power.inReset = false → s.power.sowing = false → s.power.reaping = none → s.ctl.mode = .boot → s.power.stage = 0 →
    s.boot.stage ≠ .fallback → ∃ u, exec (.sowStageStart t vout) s = .next u ∧ u.power.sowing = true ∧ u.power.toSow = []) ∧
  (∀ t rated s b rest, s.power.toSow = b :: rest → s.power.sowing = true → (s.at t).reapFalls = false → (s.at t).blockDue b rated = true →
    ratedOk rated = true → ∃ u, exec (.sowBlock t rated) s = .next u ∧ u.power.toSow = rest ∧ u.power.sown = b :: s.power.sown ∧
    u.power.stage = s.power.stage ∧ (∀ a, u.dramByte a = s.dramByte a)) ∧
  (∀ t r c s b rest, s.power.toSow = b :: rest → s.power.sowing = true → (s.at t).reapFalls = false → (s.at t).blockDue b [(r, c)] = true →
    c ≤ 8000 → ∃ u, exec (.sowBlock t [(r, c)]) s = .next u ∧ Tab.get 0 u.power.railFree r = max s.now t + max 10000 (25 * c)) ∧
  (∀ t s, s.power.sowing = true → s.power.toSow = [] → s.boot.locks = [] → s.power.stage = 3 → ∃ u, exec (.sowStageComplete t) s = .next u ∧
    u.power.stage = 4 ∧ u.power.sowing = false ∧ u.ctl = s.ctl ∧ (∀ a, u.rd a = s.rd a)) ∧
  (∀ t s, s.power.sowing = true → s.power.toSow = [] → s.boot.locks = [] → s.power.stage = 4 → s.ctl.mode = .train → s.ctl.paired = false →
    ∃ u, exec (.sowStageComplete t) s = .next u ∧ u.power.stage = 5 ∧ u.power.sowing = false ∧ u.ctl.mode = .service ∧ u.ctl.role = .solo ∧
    u.pins.keyOut = true) ∧
  (∀ t rated s c b rest, s.power.reaping = some c → s.power.sown = b :: rest → (s.at t).reapable c b = true →
    (s.at t).blockDue b rated = true → (s.at t).reapAllowed b = true → ratedOk rated = true → ∃ u, exec (.reapBlock t rated) s = .next u ∧
    u.power.sown = rest ∧ u.power.reaping = some c ∧ (∀ a, u.dramByte a = s.dramByte a))

/-- FURROW_MOVE, FURROW_MOVE_DONE, STOP_TAIL_END (R297, R298, R456, R459). -/
def Obligations.furrow_moves_and_tails : Prop :=
  (∀ t s x rest i w, s.power.moves = x :: rest → s.power.lastMove + 100000 ≤ max s.now t → (s.at t).railsFree moveRated = true →
    i ∈ unitLanes x → (s.lane i).want = some w → ∃ u, exec (.furrowMove t) s = .next u ∧ u.power.moves = rest ∧
    u.power.lastMove = max s.now t ∧ (u.lane i).want = none ∧ (u.lane i).goal.map Prod.fst = some w ∧ (∀ a, u.dramByte a = s.dramByte a)) ∧
  (∀ t x s i g n, i ∈ unitLanes x → (s.lane i).goal = some (g, n) → n ≤ max s.now t → g < 4 → g = 2 ∨ 64 ≤ x ∨
    s.rdBit (Reg.SYN_FURROW_STATUS x) 31 = true → ∃ u, exec (.furrowMoveDone t x) s = .next u ∧ u.rdFld (Reg.LAN_STATUS i) 29 28 = g ∧
    (u.lane i).goal = none ∧ u.rdBit (Reg.LAN_EVENT i) 2 = true ∧ (∀ a, u.dramByte a = s.dramByte a)) ∧
  (∀ t p s, (s.port p).phase = 3 → (s.port p).since + (s.at t).portTailNs p ≤ max s.now t → ∃ u, exec (.stopTailEnd t p) s = .next u ∧
    (u.port p).phase = 0 ∧ u.rdBit (Reg.AP_STATUS p) 27 = false ∧ p ∉ u.power.tails ∧ (∀ a, a ≠ Reg.AP_STATUS p → u.rd a = s.rd a) ∧
    (∀ a, u.dramByte a = s.dramByte a))

/-- AVS_TARGET_COMPUTE, AVS_STEP, PMBUS_IOUT_READ (R462, R463). -/
def Obligations.adaptive_voltage_steps : Prop :=
  (∀ t need s, s.avsRuns = true → ∃ u, exec (.avsTargetCompute t need) s = .next u ∧ u.power.avsTarget % 5 = 0 ∧ 700 ≤ u.power.avsTarget ∧
    u.power.avsTarget ≤ 800 ∧ (need ≤ 800 → need ≤ u.power.avsTarget) ∧ (700 ≤ need → need ≤ 800 → u.power.avsTarget < need + 5) ∧
    (need ≤ 700 → u.power.avsTarget = 700) ∧ u.rdFld Reg.TOP_AVS_STATUS 25 16 = u.power.avsTarget ∧ (800 < need →
    u.rdBit Reg.TOP_PWR_STICKY 1 = true) ∧ (∀ a, a ≠ Reg.TOP_AVS_STATUS → a ≠ Reg.TOP_PWR_STICKY → u.rd a = s.rd a)) ∧
  (∀ t own s, s.avsRuns = true → s.power.avsTarget ≠ 0 → s.power.avsTarget ≤ 800 → s.rdFld Reg.TOP_AVS_STATUS 9 0 ≠ 0 →
    s.rdFld Reg.TOP_AVS_STATUS 9 0 ≠ s.power.avsTarget → s.power.lastAvs + 100000000 ≤ max s.now t →
    ∃ u, exec (.avsStep t own true) s = .next u ∧ u.power.lastAvs = max s.now t ∧ (s.rdFld Reg.TOP_AVS_STATUS 9 0 < s.power.avsTarget →
    u.rdFld Reg.TOP_AVS_STATUS 9 0 = min (s.rdFld Reg.TOP_AVS_STATUS 9 0 + 5) s.power.avsTarget) ∧
    (s.power.avsTarget < s.rdFld Reg.TOP_AVS_STATUS 9 0 →
    u.rdFld Reg.TOP_AVS_STATUS 9 0 = max (s.rdFld Reg.TOP_AVS_STATUS 9 0 - 5) s.power.avsTarget) ∧ (∀ a, a ≠ Reg.TOP_AVS_STATUS →
    u.rd a = s.rd a)) ∧
  (∀ t own s, s.avsRuns = true → s.power.avsTarget ≠ 0 → s.rdFld Reg.TOP_AVS_STATUS 9 0 ≠ 0 →
    s.rdFld Reg.TOP_AVS_STATUS 9 0 ≠ s.power.avsTarget → s.power.lastAvs + 100000000 ≤ max s.now t →
    ∃ u, exec (.avsStep t own false) s = .next u ∧ u.rdBit Reg.TOP_PWR_STICKY 0 = true ∧ (∀ a, a ≠ Reg.TOP_PWR_STICKY → u.rd a = s.rd a)) ∧
  (∀ t v s, s.s1Runs = true → ∃ u, exec (.pmbusIoutRead t (some v)) s = .next u ∧ u.rd Reg.TOP_CORE_IOUT = BitVec.ofNat 32 (min 65535 v) ∧
    (∀ a, a ≠ Reg.TOP_CORE_IOUT → u.rd a = s.rd a)) ∧
  (∀ t s, s.s1Runs = true → ∃ u, exec (.pmbusIoutRead t none) s = .next u ∧ u.rdBit Reg.TOP_PWR_STICKY 0 = true ∧
    (∀ a, a ≠ Reg.TOP_PWR_STICKY → u.rd a = s.rd a))

/-- DIRECTORY_READ_DONE and FALLBACK_SLOT_TRY (R33, R44, R45). -/
def Obligations.directory_is_chosen : Prop :=
  (∀ t s, s.boot.stage = .directory → s.power.inReset = false → readDirectory (s.flashBytes 0 64) = none →
    readDirectory (s.flashBytes 0x20000 64) = none → ∃ u, exec (.directoryReadDone t) s = .next u ∧ u.boot.dir.next = .a ∧
    u.boot.dir.stateA = .written ∧ u.boot.dir.stateB = .written ∧ u.boot.slot = .a ∧ u.boot.stage = .header ∧ u.boot.defaulted = true ∧
    u.rdBit Reg.BOOT_STATUS 11 = true ∧ u.flash = s.flash) ∧
  (∀ t s d k, s.boot.stage = .directory → s.power.inReset = false →
    chooseDirectory (readDirectory (s.flashBytes 0 64)) (readDirectory (s.flashBytes 0x20000 64)) = some (d, k) →
    slotState d d.next = .written ∨ slotState d d.next = .good → ∃ u, exec (.directoryReadDone t) s = .next u ∧ u.boot.dir = d ∧
    u.boot.slot = d.next ∧ u.boot.stage = .header ∧ u.rdBit Reg.BOOT_STATUS 8 = (k == 1) ∧ u.flash = s.flash) ∧
  (∀ t s d k, s.boot.stage = .directory → s.power.inReset = false → s.boot.otherTried = false →
    chooseDirectory (readDirectory (s.flashBytes 0 64)) (readDirectory (s.flashBytes 0x20000 64)) = some (d, k) →
    slotState d d.next ≠ .written → slotState d d.next ≠ .good → ∃ u, exec (.directoryReadDone t) s = .next u ∧ u.boot.slot = d.next ∧
    u.refusedWith d.next 0x02 ∧ u.flash = s.flash) ∧
  (∀ t s, s.boot.stage = .fallback → s.ctl.mode = .boot → s.power.reaping = none → s.boot.otherTried = false →
    slotState s.boot.dirDue (otherSlot s.boot.slot) = .written ∨ slotState s.boot.dirDue (otherSlot s.boot.slot) = .good →
    ∃ u, exec (.fallbackSlotTry t) s = .next u ∧ u.boot.slot = otherSlot s.boot.slot ∧ u.boot.otherTried = true ∧ u.boot.stage = .header ∧
    (∀ a, u.rd a = s.rd a) ∧ u.flash = s.flash)

/-- The checks of R44 in their order; R46 for the second refusal. -/
def Obligations.image_checks_advance_or_refuse : Prop :=
  (∀ t s, s.reading = true → s.boot.otherTried = false → ∃ u, exec (.flashReadError t) s = .next u ∧ u.refusedWith s.boot.slot 0x01 ∧
    u.flash = s.flash) ∧
  (∀ t s, s.reading = true → s.boot.otherTried = true → s.ctl.mode = .boot → ∃ u, exec (.flashReadError t) s = .next u ∧
    u.ctl.mode = .safe ∧ u.rd Reg.TOP_SAFE_CAUSE = 1 ∧ u.rdBit Reg.BOOT_STATUS 10 = true ∧ u.boot.romFallback = true ∧
    u.pins.keyOut = false ∧ u.flash = s.flash) ∧
  (∀ t s, s.boot.stage = .header → s.headerFault = none → ∃ u, exec (.headerReadDone t) s = .next u ∧ u.boot.stage = .fwHeader ∧
    (∀ a, u.rd a = s.rd a) ∧ u.flash = s.flash) ∧
  (∀ t s, s.boot.stage = .header → s.boot.otherTried = false → s.img 0 4 ≠ 0x5A48494D → ∃ u, exec (.headerReadDone t) s = .next u ∧
    u.refusedWith s.boot.slot 0x03) ∧
  (∀ t s, s.boot.stage = .fwHeader → s.fwHeaderFault = none → ∃ u, exec (.fwHeaderReadDone t) s = .next u ∧ u.boot.stage = .fwSection ∧
    (∀ a, u.rd a = s.rd a) ∧ u.flash = s.flash) ∧
  (∀ t s, s.boot.stage = .fwHeader → s.boot.otherTried = false → s.img s.fwOff 4 ≠ 0x5A484657 →
    ∃ u, exec (.fwHeaderReadDone t) s = .next u ∧ u.refusedWith s.boot.slot 0x03) ∧
  (∀ t s, s.boot.stage = .fwSection → s.boot.otherTried = false → ∃ u, exec (.fwSectionLoaded t) s = .next u ∧ (s.fwFault = none →
    u.boot.recOff = 0 ∧ (s.cfgBody ≠ 0 → u.boot.stage = .records)) ∧ (∀ c, s.fwFault = some c → u.refusedWith s.boot.slot c) ∧
    u.tcmBytes 0 (s.img (s.fwOff + 0x10) 4) = s.imgBytes (s.fwOff + 64) (s.img (s.fwOff + 0x10) 4) ∧ (∀ a, u.dramByte a = s.dramByte a)) ∧
  (∀ t s, s.boot.stage = .records → s.s1Runs = true → s.recordBad s.boot.recOff = false → ∃ u, exec (.cfgRecordStreamed t) s = .next u ∧
    u.boot.recOff = s.boot.recOff + recSpan (s.recFld s.boot.recOff 8 4) ∧ (u.boot.recOff < s.cfgBody → u.boot.stage = .records) ∧
    (s.cfgBody ≤ u.boot.recOff → u.boot.stage = .signature) ∧ (∀ a, u.rd a = s.rd a)) ∧
  (∀ t s, s.boot.stage = .records → s.s1Runs = true → s.boot.otherTried = false → s.recordBad s.boot.recOff = true →
    ∃ u, exec (.cfgRecordStreamed t) s = .next u ∧ u.refusedWith s.boot.slot 0x0B) ∧
  (∀ t s, s.boot.stage = .signature → s.s1Runs = true → s.boot.otherTried = false → ∃ u, exec (.cfgSignatureChecked t) s = .next u ∧
    (s.sectionFault = none → u.boot.stage = .apply) ∧ (∀ c, s.sectionFault = some c → u.refusedWith s.boot.slot c) ∧ u.flash = s.flash) ∧
  (∀ t s, s.boot.stage = .signature → s.s1Runs = true → s.boot.otherTried = false → s.boot.fuse = none →
    ∃ u, exec (.cfgSignatureChecked t) s = .next u ∧ u.refusedWith s.boot.slot 0x13)

/-- RECORDS_APPLIED, SYNTH_LOOP_LOCKED, SYNTH_LOCK_TIMEOUT (R38, R56, R274). -/
def Obligations.image_is_applied_and_accepted : Prop :=
  (∀ t d s, s.boot.stage = .apply → s.s1Runs = true → s.boot.otherTried = false → ∃ u, exec (.recordsApplied t d) s = .next u ∧
    (u.boot.stage = .locking ∨ (u.boot.stage = .fallback ∧ u.power.reaping = some .fallback ∧
    slotState u.boot.dirDue s.boot.slot = .failed)) ∧ u.flash = s.flash ∧ u.ctl.mode = s.ctl.mode) ∧
  (∀ t d s, s.boot.stage = .apply → s.s1Runs = true → ((s.at t).applyImage d).2 = none → ∃ u, exec (.recordsApplied t d) s = .next u ∧
    u.boot.stage = .locking ∧ u.power.toSow = ((s.at t).applyImage d).1.s1Loops.map BlockId.loop ∧ u.cfg = ((s.at t).applyImage d).1.cfg ∧
    u.xpt = ((s.at t).applyImage d).1.xpt ∧ u.dram = ((s.at t).applyImage d).1.dram ∧
    (∀ n ∈ List.range 33, ((s.at t).applyImage d).1.loopNeeded n = false → u.rdBit (Reg.SYN_LOOP_STATUS n) 28 = true)) ∧
  (∀ t d c s, s.boot.stage = .apply → s.s1Runs = true → s.boot.otherTried = false → ((s.at t).applyImage d).2 = some c → c < 256 →
    ∃ u, exec (.recordsApplied t d) s = .next u ∧ u.refusedWith s.boot.slot c) ∧
  (∀ t n band w s, n < 33 → band < 32 → Tab.find? s.boot.locks n = some w → s.boot.stage ≠ .locking →
    ∃ u, exec (.synthLoopLocked t n band) s = .next u ∧ u.rdFld (Reg.SYN_LOOP_STATUS n) 31 29 = 4 ∧
    u.rdFld (Reg.SYN_LOOP_STATUS n) 20 16 = band ∧ Tab.find? u.boot.locks n = none ∧ (∀ a, a ≠ Reg.SYN_LOOP_STATUS n → a ≠ Reg.SYN_STATUS →
    u.rd a = s.rd a) ∧ (∀ a, u.dramByte a = s.dramByte a)) ∧
  (∀ t n band w s, n < 33 → band < 32 → Tab.find? s.boot.locks n = some w → ∃ u, exec (.synthLoopLocked t n band) s = .next u ∧
    u.rdFld (Reg.SYN_LOOP_STATUS n) 31 29 = 4 ∧ u.rdFld (Reg.SYN_LOOP_STATUS n) 20 16 = band ∧ Tab.find? u.boot.locks n = none ∧
    u.flash = s.flash) ∧
  (∀ t n band w s, n < 33 → s.boot.locks = [(n, w)] → s.boot.stage = .locking → s.power.toSow = [] → s.ctl.mode = .boot →
    s.testImage = false → ∃ u, exec (.synthLoopLocked t n band) s = .next u ∧ u.ctl.mode = .train ∧ u.boot.stage = .accepted ∧
    u.boot.booted = some s.boot.slot ∧ u.boot.locks = [] ∧ u.flt.aliveRuns = true ∧ u.flt.armed = true ∧
    u.rd Reg.BOOT_IMG_VER = BitVec.ofNat 32 (s.img 0x14 4) ∧ u.rdBit Reg.TOP_EVENT 0 = true ∧ u.flash = s.flash) ∧
  (∀ t n w s, Tab.find? s.boot.locks n = some w → w + 20000000 ≤ max s.now t → s.ctl.mode = .boot ∨ s.ctl.mode = .train →
    s.boot.otherTried = false → ∃ u, exec (.synthLockTimeout t n) s = .next u ∧ u.refusedWith s.boot.slot 0x30) ∧
  (∀ t n w s, Tab.find? s.boot.locks n = some w → w + 20000000 ≤ max s.now t → s.ctl.mode = .boot ∨ s.ctl.mode = .train →
    s.boot.otherTried = true → ∃ u, exec (.synthLockTimeout t n) s = .next u ∧ u.ctl.mode = .safe ∧
    slotState u.boot.dirDue s.boot.slot = .failed ∧ u.flash = s.flash)

/-- DRAM_TRAIN_STEP_DONE and TRAIN_CLOSING_CLAIM (R395, R396, R56, R207). -/
def Obligations.train_ends_in_its_mode : Prop :=
  (∀ t chans s, s.rdBit Reg.DRC_STATUS 30 = true → s.rdFld Reg.DRC_TRAIN_STATUS 31 28 < 6 → ((s.at t).trainStep chans).2 = none →
    ∃ u, exec (.dramTrainStepDone t chans) s = .next u ∧ u.rdFld Reg.DRC_TRAIN_STATUS 31 28 = s.rdFld Reg.DRC_TRAIN_STATUS 31 28 + 1 ∧
    u.ctl = s.ctl) ∧
  (∀ t chans s, s.rdBit Reg.DRC_STATUS 30 = true → s.rdFld Reg.DRC_TRAIN_STATUS 31 28 = 6 → ((s.at t).trainStep chans).2 = none →
    ∃ u, exec (.dramTrainStepDone t chans) s = .next u ∧ u.rdFld Reg.DRC_TRAIN_STATUS 31 28 = 7 ∧ u.rdFld Reg.DRC_STATUS 31 30 = 2 ∧
    u.rdBit Reg.DRC_EVENT 0 = true ∧ u.ctl = s.ctl) ∧
  (∀ t chans s code, s.rdBit Reg.DRC_STATUS 30 = true → s.ctl.mode = .train → s.boot.otherTried = false →
    ((s.at t).trainStep chans).2 = some code → ∃ u, exec (.dramTrainStepDone t chans) s = .next u ∧ u.refusedWith s.boot.slot code ∧
    u.rdFld Reg.DRC_STATUS 31 30 = 0) ∧
  (∀ t s, s.ctl.mode = .train → s.power.stage = 5 → s.ctl.paired = false → ∃ u, exec (.trainClosingClaim t) s = .next u ∧
    u.ctl.mode = .service ∧ u.ctl.role = .solo ∧ u.pins.keyOut = true) ∧
  (∀ t s, s.ctl.mode = .train → s.power.stage = 5 → (s.at t).joinCond = true → ∃ u, exec (.trainClosingClaim t) s = .next u ∧
    u.ctl.mode = .join ∧ u.ctl.role = .follower ∧ u.pins.keyOut = false ∧ u.twn.join.active = true) ∧
  (∀ t s, s.ctl.mode = .train → s.power.stage = 5 → s.ctl.paired = true → (s.at t).joinCond = false → s.twn.wall.up = true →
    s.peerHolds = true → ∃ u, exec (.trainClosingClaim t) s = .next u ∧ u.ctl.mode = .service ∧ u.ctl.role = .alongside ∧
    u.pins.keyOut = s.pins.keyOut) ∧
  (∀ t s, s.ctl.mode = .train → s.power.stage = 5 → s.ctl.paired = true → s.twn.wall.up = true → s.peerHolds = false →
    ∃ u, exec (.trainClosingClaim t) s = .next u ∧ u.twn.key.closing = true ∧ u.ctl = s.ctl ∧ u.pins = s.pins ∧ (∀ a, u.rd a = s.rd a))

/-- SET_NEXT_A, SET_NEXT_B, ABORT_WRITE, RESTART, BAD_COMMAND, ENTER_SAFE, FUSE_BURN, DIRECTORY_WRITE (R34, R48, R53, R54, R59). -/
def Obligations.boot_commands_do_what_they_name : Prop :=
  (∀ t s, s.rwlLocked = true → s.boot.session = none → s.boot.dirDue.stateA = .written ∨ s.boot.dirDue.stateA = .good →
    ∃ u, exec (.setNextA t Config.confirm) s = .next u ∧ u.boot.dirDue = { s.boot.dirDue with next := .a } ∧ 0 < u.boot.dirQueued ∧
    u.rdFld Reg.BOOT_WR_STATUS 31 24 = 0 ∧ (∀ a, a ≠ Reg.BOOT_WR_STATUS → u.rd a = s.rd a) ∧ u.flash = s.flash) ∧
  (∀ t s, s.rwlLocked = true → s.boot.session = none → s.boot.dirDue.stateB = .written ∨ s.boot.dirDue.stateB = .good →
    ∃ u, exec (.setNextB t Config.confirm) s = .next u ∧ u.boot.dirDue = { s.boot.dirDue with next := .b } ∧ 0 < u.boot.dirQueued ∧
    u.rdFld Reg.BOOT_WR_STATUS 31 24 = 0 ∧ (∀ a, a ≠ Reg.BOOT_WR_STATUS → u.rd a = s.rd a) ∧ u.flash = s.flash) ∧
  (∀ t s w, s.rwlLocked = true → s.boot.session = some w → ∃ u, exec (.abortWrite t Config.confirm) s = .next u ∧ u.boot.session = none ∧
    u.boot.dirDue = s.boot.dirDue ∧ u.rdFld Reg.BOOT_WR_STATUS 3 0 = 5 ∧ u.rdFld Reg.BOOT_WR_STATUS 31 24 = 0 ∧
    (∀ a, a ≠ Reg.BOOT_WR_STATUS → u.rd a = s.rd a) ∧ u.flash = s.flash) ∧
  (∀ t s, s.rwlLocked = true → s.boot.session = none → ∃ u, exec (.abortWrite t Config.confirm) s = .next u ∧ u.boot = s.boot ∧
    u.rdFld Reg.BOOT_WR_STATUS 31 24 = 7 ∧ (∀ a, a ≠ Reg.BOOT_WR_STATUS → u.rd a = s.rd a)) ∧
  (∀ t s, s.boot.session = none → s.power.inReset = false → s.power.reaping = none → ∃ u, exec (.restart t Config.confirm) s = .next u ∧
    u.power.reaping = some .restart ∧ u.power.finalCheckpoint = true ∧ u.pins.keyOut = false ∧ u.flt.aliveRuns = false ∧ u.twn.lit = 0 ∧
    u.flash = s.flash) ∧
  (∀ t cmd s, 5 ≤ cmd → cmd ≤ 15 → ∃ u, exec (.badCommand t Config.confirm cmd) s = .next u ∧ u.rdFld Reg.BOOT_WR_STATUS 31 24 = 0x0C ∧
    u.boot = s.boot ∧ (∀ a, a ≠ Reg.BOOT_WR_STATUS → u.rd a = s.rd a) ∧ u.flash = s.flash) ∧
  (∀ t k cmd s, k ≠ Config.confirm → exec (.setNextA t k) s = .next (s.at t) ∧ exec (.setNextB t k) s = .next (s.at t) ∧
    exec (.abortWrite t k) s = .next (s.at t) ∧ exec (.restart t k) s = .next (s.at t) ∧ exec (.badCommand t k cmd) s = .next (s.at t) ∧
    exec (.enterSafe t k) s = .next (s.at t)) ∧
  (∀ t s, s.ctl.mode ≠ .safe → ∃ u, exec (.enterSafe t Config.confirm) s = .next u ∧ u.ctl.mode = .safe ∧ u.pins.keyOut = false ∧
    u.flt.severeLatched = true ∧ u.flt.armed = false ∧ u.flt.aliveRuns = false ∧ u.twn.lit = 0 ∧ u.rd Reg.TOP_SAFE_CAUSE = 3 ∧
    u.flash = s.flash) ∧
  (∀ t v got s, fld (BitVec.ofNat 32 v) 31 16 = Config.confirm → bit (BitVec.ofNat 32 v) 0 = true → s.ctl.mode = .test →
    s.boot.fuse = none → ∃ u, exec (.fuseBurn t v got) s = .next u ∧ u.boot.fuse = some got ∧ (got ≠ s.stagedHash →
    u.rdBit Reg.BOOT_FUSE_CTRL 2 = true) ∧ (∀ a, a ≠ Reg.BOOT_FUSE_CTRL → u.rd a = s.rd a) ∧ u.flash = s.flash) ∧
  (∀ t s, s.mntRuns flashRes 2 = true → ∃ u, exec (.directoryWrite t) s = .next u ∧
    u.boot.dir = { s.boot.dirDue with seq := (s.boot.dir.seq + 1) % 4294967296 } ∧ u.boot.dirCopy = 1 - s.boot.dirCopy ∧
    u.boot.dirQueued = 0 ∧ (s.rdFld Reg.BOOT_WR_STATUS 3 0 = 3 → u.rdFld Reg.BOOT_WR_STATUS 3 0 = 4) ∧
    u.flashBytes (131072 * (1 - s.boot.dirCopy)) 64 = u.boot.dir.bytes ∧ (∀ a, a < 131072 * (1 - s.boot.dirCopy) ∨
    131072 * (1 - s.boot.dirCopy) + 131072 ≤ a → Tab.get Config.erasedByte u.flash a = Tab.get Config.erasedByte s.flash a) ∧
    u.dram = s.dram)

/-- IMAGE_START, IMAGE_DATA, CHUNK_PROGRAMMED, IMAGE_END, IMAGE_ABORT_WRITE, WRITE_SESSION_TIMEOUT (R48, R49, R110). The bytes of a failed chunk are a free value (log 2). -/
def Obligations.write_session_runs : Prop :=
  (∀ t m s, s.hasOrder m 1 → s.boot.session = none → s.boot.booted = some (otherSlot (bodySlot m.body)) → beAt m.body 4 4 ≤ slotLength →
    ∃ u, exec (.imageStart t) s = .next u ∧
    u.boot.session.map (fun w => (w.slot, w.sid, w.total, w.crc)) = some (bodySlot m.body, byteAt m.body 2, beAt m.body 4 4, beAt m.body 8 4) ∧
    u.boot.session.map (fun w => (w.expected, w.chunks)) = some (0, []) ∧ slotState u.boot.dirDue (bodySlot m.body) = .writing ∧
    u.boot.dirDue.next = otherSlot (bodySlot m.body) ∧ 0 < u.boot.dirQueued ∧ s.acked u m.reply 0 ∧ u.flash = s.flash) ∧
  (∀ t m s, s.hasOrder m 1 → s.boot.session = none → s.boot.booted = some (bodySlot m.body) → ∃ u, exec (.imageStart t) s = .next u ∧
    u.boot = s.boot ∧ s.naked u m.reply 0x26 0xFFFF 0x01 s.nextOffset ∧ u.flash = s.flash) ∧
  (∀ t m s w, s.hasOrder m 2 → s.boot.session = some w → namesSession w m → beAt m.body 4 4 + beAt m.body 8 2 ≤ w.total → w.chunks = [] →
    beAt m.body 4 4 = w.expected → crc32 (slice m.body 16 (beAt m.body 8 2)) = beAt m.body 12 4 → (s.res flashRes).queue.length < 16 →
    ∃ u, exec (.imageData t) s = .next u ∧
    u.boot.session = some { w with lastChunk := max s.now t, chunks := [⟨m.reply, w.expected, slice m.body 16 (beAt m.body 8 2), true⟩] } ∧
    u.flash = s.flash ∧ u.boot.dirDue = s.boot.dirDue) ∧
  (∀ t m s w, s.hasOrder m 2 → s.boot.session = some w → namesSession w m → beAt m.body 4 4 + beAt m.body 8 2 ≤ w.total → w.chunks = [] →
    beAt m.body 4 4 < w.expected → ∃ u, exec (.imageData t) s = .next u ∧ u.boot.session = some { w with lastChunk := max s.now t } ∧
    s.acked u m.reply w.expected ∧ u.flash = s.flash) ∧
  (∀ t s w c rest, s.mntRuns flashRes 3 = true → (s.res flashRes).running = some ⟨3, w.opened⟩ → s.boot.session = some w →
    w.chunks = c :: rest → c.offset = w.expected → c.crcOk = true → c.reply.own = true → ∃ u, exec (.chunkProgrammed t true) s = .next u ∧
    u.boot.session = some { w with chunks := rest, expected := c.offset + c.data.length } ∧
    u.flashBytes (slotBase w.slot + c.offset) c.data.length = c.data ∧ s.acked u c.reply (c.offset + c.data.length) ∧
    (∀ a, a < slotBase w.slot + c.offset → Tab.get Config.erasedByte u.flash a = Tab.get Config.erasedByte s.flash a) ∧ u.dram = s.dram) ∧
  (∀ t s w c rest, s.mntRuns flashRes 3 = true → (s.res flashRes).running = some ⟨3, w.opened⟩ → s.boot.session = some w →
    w.chunks = c :: rest → c.offset = w.expected → c.crcOk = true → c.reply.own = true → ∃ u, exec (.chunkProgrammed t false) s = .next u ∧
    u.boot.session = some { w with chunks := rest } ∧ s.naked u c.reply 0x26 0xFFFF 0x0B w.expected ∧
    u.rdFld Reg.BOOT_WR_STATUS 31 24 = 0x0B ∧ (∀ a, a < slotBase w.slot + c.offset →
    Tab.get Config.erasedByte u.flash a = Tab.get Config.erasedByte s.flash a)) ∧
  (∀ t m s w, s.hasOrder m 3 → s.boot.session = some w → namesSession w m → w.total ≤ w.expected →
    crc32 (s.flashBytes (slotBase w.slot) w.total) = w.crc → ∃ u, exec (.imageEnd t) s = .next u ∧ u.boot.session = none ∧
    slotState u.boot.dirDue w.slot = .written ∧ (byteAt m.body 3 = 1 → u.boot.dirDue.next = w.slot) ∧ (byteAt m.body 3 ≠ 1 →
    u.boot.dirDue.next = s.boot.dirDue.next) ∧ u.rdFld Reg.BOOT_WR_STATUS 3 0 = 3 ∧ u.rdFld Reg.BOOT_WR_STATUS 31 24 = 0 ∧
    u.flash = s.flash) ∧
  (∀ t m s w, s.hasOrder m 3 → s.boot.session = some w → namesSession w m → w.expected < w.total → ∃ u, exec (.imageEnd t) s = .next u ∧
    u.boot.session = some { w with lastChunk := max s.now t } ∧ s.naked u m.reply 0x26 0xFFFF 0x03 w.expected ∧
    u.boot.dirDue = s.boot.dirDue ∧ u.flash = s.flash) ∧
  (∀ t m s w, s.hasOrder m 6 → s.boot.session = some w → namesSession w m → ∃ u, exec (.imageAbortWrite t) s = .next u ∧
    u.boot.session = none ∧ u.boot.dirDue = s.boot.dirDue ∧ u.rdFld Reg.BOOT_WR_STATUS 3 0 = 5 ∧ u.flash = s.flash) ∧
  (∀ t s w, s.boot.session = some w → w.lastChunk + 60000000000 ≤ max s.now t → (s.at t).chunkArrives w = false →
    ∃ u, exec (.writeSessionTimeout t) s = .next u ∧ u.boot.session = none ∧ u.boot.dirDue = s.boot.dirDue ∧
    u.rdFld Reg.BOOT_WR_STATUS 3 0 = 5 ∧ u.rdFld Reg.BOOT_WR_STATUS 31 24 = 0x0D ∧ (∀ a, a ≠ Reg.BOOT_WR_STATUS → u.rd a = s.rd a) ∧
    u.flash = s.flash) ∧
  (∀ t m s, s.hasOrder m 4 → s.boot.session = none → slotState s.boot.dirDue (bodySlot m.body) = .written ∨
    slotState s.boot.dirDue (bodySlot m.body) = .good → ∃ u, exec (.imageSetNext t) s = .next u ∧
    u.boot.dirDue = { s.boot.dirDue with next := bodySlot m.body } ∧ 0 < u.boot.dirQueued ∧ u.rdFld Reg.BOOT_WR_STATUS 31 24 = 0 ∧
    s.acked u m.reply s.nextOffset ∧ u.flash = s.flash) ∧
  (∀ t m s, s.hasOrder m 5 → s.boot.session = none → s.power.reaping = none → s.power.inReset = false →
    ∃ u, exec (.imageRestart t) s = .next u ∧ s.acked u m.reply s.nextOffset ∧ u.power.reaping = some .restart ∧ u.pins.keyOut = false ∧
    u.flt.aliveRuns = false ∧ u.flash = s.flash)

/-- FRATIN_RECEIVE and MBX_IN_TAKEN (R88, R97–R101, R432, R515). -/
def Obligations.fratin_messages_pass_their_checks : Prop :=
  (∀ t path d data s k r x, data = d.data → s.servedOn path d = true → s.boot.romFallback = false → 40 ≤ data.length → data.length ≤ 9000 →
    beAt data 0 2 = 0x4652 → byteAt data 2 = 1 → beAt data 4 2 = data.length → Tab.find? s.cfg.keys (byteAt data 12) = some k →
    (hmacSha256 k.key (data.take (data.length - 16))).take 16 = data.drop (data.length - 16) → beAt data 8 2 < 16384 →
    beAt data 8 2 = s.systemId → beAt data 6 2 = 0 → beAt data 13 3 = 0 → beAt data 10 2 ≠ 0 →
    r = ⟨path, (if path = .mailbox then 0 else d.ip), (if path = .mailbox then 0 else d.udp), byteAt data 12, beAt data 10 2, beAt data 20 4, byteAt data 3, true⟩ →
    (s.at t).dedup (beAt data 10 2) (beAt data 16 4) (beAt data 20 4) = .fresh x →
    s.firstFault r false (slice data 24 (data.length - 40)) = none → s.xpt.rx.length < 256 →
    ∃ u, exec (.fratinReceive t path d) s = .next u ∧ u.xpt.rx = s.xpt.rx ++ [⟨r, 0, false, slice data 24 (data.length - 40)⟩] ∧
    Tab.get coldSender u.xpt.senders r.sender = x ∧ (∀ a, u.rd a = s.rd a) ∧ u.xpt.vcom = s.xpt.vcom ∧ u.flash = s.flash ∧
    u.dram = s.dram) ∧
  (∀ t path d s, s.servedOn path d = true → s.boot.romFallback = false → s.tagWrong d.data →
    (s.rd Reg.XPT_CNT_AUTH_FAIL).toNat + 1 < 4294967296 → ∃ u, exec (.fratinReceive t path d) s = .next u ∧
    u.rd Reg.XPT_CNT_AUTH_FAIL = BitVec.ofNat 32 ((s.rd Reg.XPT_CNT_AUTH_FAIL).toNat + 1) ∧ u.xpt = s.xpt ∧ u.card = s.card ∧
    u.flash = s.flash ∧ u.dram = s.dram) ∧
  (∀ t i d s, s.mgtTakes i d = false → ∃ u, exec (.fratinReceive t (.mgt i) d) s = .next u ∧ u = s.at t) ∧
  (∀ t s, s.mbxBusy = true → ∃ u, exec (.mbxInTaken t) s = .next u ∧ u.mbxBusy = false ∧ u.rdBit Reg.CPT_EVENT 1 = true ∧
    u.xpt.vcom = s.xpt.vcom ∧ u.xpt.vair = s.xpt.vair ∧ u.xpt.pending = s.xpt.pending ∧ u.cfg = s.cfg ∧ u.ctl.mode = s.ctl.mode ∧
    u.flash = s.flash ∧ u.dram = s.dram)

/-- TAKE, SALVO_PART, SALVO_COMMIT, SALVO_OPEN_TIMEOUT (R105, R106). -/
def Obligations.takes_and_salvos_queue : Prop :=
  (∀ t m s eff late, s.hasMsg m 1 → s.ctl.mode = .service → readEff m.body = some (eff, late) → ∃ u, exec (.take t) s = .next u ∧
    u.xpt = { s.xpt with rx := s.xpt.rx.drop 1, queue := s.xpt.queue ++ [⟨m.reply, m.reply.seq, [readEntry (m.body.drop 16)], eff, late, m.flags.testBit 1⟩] } ∧
    u.regs = s.regs ∧ u.flash = s.flash ∧ u.dram = s.dram) ∧
  (∀ t m s, s.hasMsg m 2 → s.ctl.mode = .service → s.openSalvo m.reply.sender (beAt m.body 0 4) = none → s.xpt.opened.length < 16 →
    ∃ u, exec (.salvoPart t) s = .next u ∧
    u.xpt.opened = s.xpt.opened ++ [⟨m.reply.sender, beAt m.body 0 4, beAt m.body 6 2, [(beAt m.body 4 2, readEntries (beAt m.body 8 2) (m.body.drop 12))], max s.now t⟩] ∧
    s.replied u m.reply 0x7E (ackBody m.reply 0 1 0 0 0) ∧ u.xpt.vcom = s.xpt.vcom ∧ u.xpt.queue = s.xpt.queue ∧ u.flash = s.flash ∧
    u.dram = s.dram) ∧
  (∀ t m s o, s.hasMsg m 2 → s.ctl.mode = .service → s.openSalvo m.reply.sender (beAt m.body 0 4) = some o →
    (Tab.find? o.parts (beAt m.body 4 2)).isSome = true → ∃ u, exec (.salvoPart t) s = .next u ∧
    u.openSalvo m.reply.sender (beAt m.body 0 4) = some { o with last := max s.now t } ∧
    s.replied u m.reply 0x7E (ackBody m.reply 0 o.parts.length 0 0 0) ∧ u.xpt.vcom = s.xpt.vcom ∧ u.flash = s.flash) ∧
  (∀ t m s, s.hasMsg m 2 → s.ctl.mode = .service → s.openSalvo m.reply.sender (beAt m.body 0 4) = none → 16 ≤ s.xpt.opened.length →
    ∃ u, exec (.salvoPart t) s = .next u ∧ u.xpt.opened = s.xpt.opened ∧ s.naked u m.reply 0x22 0xFFFF 0 0) ∧
  (∀ t m s o eff late, s.hasMsg m 3 → s.ctl.mode = .service → readEff (m.body.drop 12) = some (eff, late) →
    s.openSalvo m.reply.sender (beAt m.body 0 4) = some o → (∀ i ∈ List.range (beAt m.body 4 2), (Tab.find? o.parts i).isSome = true) →
    (o.parts.flatMap fun p => p.2).length = beAt m.body 8 4 → ∃ u, exec (.salvoCommit t) s = .next u ∧
    u.xpt.queue = s.xpt.queue ++ [⟨m.reply, beAt m.body 0 4, o.parts.flatMap fun p => p.2, eff, late, m.flags.testBit 1⟩] ∧
    u.openSalvo m.reply.sender (beAt m.body 0 4) = none ∧ u.xpt.vcom = s.xpt.vcom ∧ u.regs = s.regs ∧ u.flash = s.flash) ∧
  (∀ t m s eff, s.hasMsg m 3 → s.ctl.mode = .service → readEff (m.body.drop 12) = some eff →
    s.openSalvo m.reply.sender (beAt m.body 0 4) = none → ∃ u, exec (.salvoCommit t) s = .next u ∧ u.xpt.queue = s.xpt.queue ∧
    u.xpt.opened = s.xpt.opened ∧ s.naked u m.reply 0x20 0xFFFF 0 0) ∧
  (∀ t s, ∃ u, exec (.salvoOpenTimeout t) s = .next u ∧
    u.xpt = { s.xpt with opened := s.xpt.opened.filter fun o => decide (max s.now t < o.last + 1000000000) } ∧ u.regs = s.regs ∧
    u.flash = s.flash ∧ u.dram = s.dram)

/-- SALVO_VALIDATION and ON_AIR_NOTIFY (R85, R90, R111). -/
def Obligations.validation_commits_or_refuses_whole : Prop :=
  (∀ t s v rest fs, s.xpt.queue = v :: rest → s.ctl.mode = .service → s.validates = true →
    (((s.at t).setXpt { s.xpt with queue := rest }).validate v ((s.at t).deviceTime : Int)).toOption = some fs → v.reply.own = true →
    ∃ u, exec (.salvoValidation t) s = .next u ∧ u.xpt.queue = rest ∧
    (u.xpt.vcom, u.xpt.acom) = s.tablesAfter (((s.rd Reg.XPT_GEN_COMMITTED).toNat + 1) % 4294967296) v.entries ∧
    u.rd Reg.XPT_GEN_COMMITTED = BitVec.ofNat 32 ((s.rd Reg.XPT_GEN_COMMITTED).toNat + 1) ∧ u.rd Reg.XPT_LAST_RESULT = 0xFFFF ∧
    u.xpt.pending.length = s.xpt.pending.length + 1 ∧ u.xpt.vout = s.xpt.vout ∧ u.xpt.aout = s.xpt.aout ∧
    u.rd Reg.XPT_GEN_ONAIR = s.rd Reg.XPT_GEN_ONAIR ∧
    s.replied u v.reply 0x7E (ackBody v.reply 0 v.entries.length (((s.rd Reg.XPT_GEN_COMMITTED).toNat + 1) % 4294967296) (sharedFrame fs) (s.at t).deviceTime)) ∧
  (∀ t s v rest, s.xpt.queue = v :: rest → s.ctl.mode = .service → s.validates = true →
    (((s.at t).setXpt { s.xpt with queue := rest }).validate v ((s.at t).deviceTime : Int)).toOption = none →
    ∃ u, exec (.salvoValidation t) s = .next u ∧ u.xpt.queue = rest ∧ u.xpt.vcom = s.xpt.vcom ∧ u.xpt.acom = s.xpt.acom ∧
    u.xpt.pending = s.xpt.pending ∧ u.xpt.vout = s.xpt.vout ∧ u.rd Reg.XPT_GEN_COMMITTED = s.rd Reg.XPT_GEN_COMMITTED ∧
    u.rd Reg.XPT_LAST_RESULT ≠ 0xFFFF) ∧
  (∀ t s r p rest, s.xpt.notify = (r, p) :: rest → r.own = true → ∃ u, exec (.onAirNotify t) s = .next u ∧ u.xpt.notify = rest ∧
    s.replied u r 0x7E (ackBody r 1 p.entries.length p.gen (sharedFrame p.frames) p.commitTime) ∧ u.xpt.vout = s.xpt.vout ∧
    u.flash = s.flash)

/-- LIVE_SET (R52, R109). -/
def Obligations.live_sets_validate_whole : Prop :=
  (∀ t m s, s.hasMsg m 0x20 → s.ctl.mode = .service → s.validates = true →
    ((s.at t).setXpt { s.xpt with rx := s.xpt.rx.drop 1 }).liveFault (readLives (beAt m.body 0 2) (m.body.drop 4)) = none →
    ∃ u, exec (.liveSet t) s = .next u ∧ u.xpt.pending.length = s.xpt.pending.length + 1 ∧
    u.xpt.pending.getLast?.map (fun p => (p.kind, p.live)) = some (1, readLives (beAt m.body 0 2) (m.body.drop 4)) ∧
    u.xpt.vcom = s.xpt.vcom ∧ u.flash = s.flash ∧ u.dram = s.dram ∧ u.xpt.ownSeq = (s.xpt.ownSeq + 1) % 4294967296) ∧
  (∀ t m s i, s.hasMsg m 0x20 → s.ctl.mode = .service → s.validates = true →
    ((s.at t).setXpt { s.xpt with rx := s.xpt.rx.drop 1 }).liveFault (readLives (beAt m.body 0 2) (m.body.drop 4)) = some (0x25, i) →
    ∃ u, exec (.liveSet t) s = .next u ∧ u.xpt.pending = s.xpt.pending ∧ s.naked u m.reply 0x25 i 0 0 ∧ u.xpt.vcom = s.xpt.vcom ∧
    u.dram = s.dram)

/-- QUERY (R107). -/
def Obligations.query_reads_the_tables : Prop :=
  ∀ t m s, s.hasMsg m 0x10 → byteAt m.body 0 = 0 → byteAt m.body 1 = 0 → beAt m.body 2 2 + beAt m.body 4 2 ≤ 4096 →
    ∃ u, exec (.query t) s = .next u ∧
    s.replied u m.reply 0x10 (slice m.body 0 4 ++ toBe 2 (beAt m.body 4 2) ++ [0, 0] ++ toBe 4 (s.rd Reg.XPT_GEN_COMMITTED).toNat ++ toBe 4 0 ++ ((List.range (beAt m.body 4 2)).map (beAt m.body 2 2 + ·)).flatMap fun d => toBe 2 d ++ toBe 2 (Tab.get idleRow s.xpt.vcom d).srcV ++ toBe 2 (Tab.get idleRow s.xpt.vcom d).srcN ++ toBe 2 (Tab.get idleRow s.xpt.vcom d).amap ++ toBe 4 (Tab.get idleRow s.xpt.vcom d).gen) ∧
    u.xpt.vcom = s.xpt.vcom ∧ u.xpt.vair = s.xpt.vair ∧ u.flash = s.flash ∧ u.dram = s.dram

/-- STATUS_DEVICE_SUMMARY, STATUS_TIMING_GROUP, STATUS_STORED_STREAM, STATUS_FAULT_SUMMARY, STATUS_FLOW_CONTEXT, STATUS_HEALTH, STATUS_BOOT_REGISTERS, STATUS_LINTEL, STATUS_AUDIO_PORT (R108). -/
def Obligations.status_items_answer : Prop :=
  (∀ t m s d, s.hasMsg m 0x11 → beAt m.body 0 2 = 1 → d = ((s.at t).setXpt { s.xpt with rx := s.xpt.rx.drop 1 }).summaryData →
    ∃ u, exec (.statusDeviceSummary t) s = .next u ∧
    s.replied u m.reply 0x11 (toBe 2 1 ++ toBe 4 (beAt m.body 4 4) ++ toBe 2 d.length ++ [0, 0] ++ d) ∧ (∀ a, a ≠ Reg.CPT_EVENT →
    a ≠ Reg.MSIX_PENDING 0 → a ≠ Reg.CPT_CNT_MBX_REPLY_DROP → u.rd a = s.rd a) ∧ u.flash = s.flash ∧ u.dram = s.dram) ∧
  (∀ t m s d, s.hasMsg m 0x11 → beAt m.body 0 2 = 2 →
    d = ((s.at t).setXpt { s.xpt with rx := s.xpt.rx.drop 1 }).groupData (beAt m.body 4 4) → ∃ u, exec (.statusTimingGroup t) s = .next u ∧
    s.replied u m.reply 0x11 (toBe 2 2 ++ toBe 4 (beAt m.body 4 4) ++ toBe 2 d.length ++ [0, 0] ++ d) ∧ (∀ a, a ≠ Reg.CPT_EVENT →
    a ≠ Reg.MSIX_PENDING 0 → a ≠ Reg.CPT_CNT_MBX_REPLY_DROP → u.rd a = s.rd a) ∧ u.flash = s.flash ∧ u.dram = s.dram) ∧
  (∀ t m s d, s.hasMsg m 0x11 → beAt m.body 0 2 = 3 →
    d = ((s.at t).setXpt { s.xpt with rx := s.xpt.rx.drop 1 }).streamData (beAt m.body 4 4) →
    ∃ u, exec (.statusStoredStream t) s = .next u ∧
    s.replied u m.reply 0x11 (toBe 2 3 ++ toBe 4 (beAt m.body 4 4) ++ toBe 2 d.length ++ [0, 0] ++ d) ∧ (∀ a, a ≠ Reg.CPT_EVENT →
    a ≠ Reg.MSIX_PENDING 0 → a ≠ Reg.CPT_CNT_MBX_REPLY_DROP → u.rd a = s.rd a) ∧ u.flash = s.flash ∧ u.dram = s.dram) ∧
  (∀ t m s d, s.hasMsg m 0x11 → beAt m.body 0 2 = 4 → d = ((s.at t).setXpt { s.xpt with rx := s.xpt.rx.drop 1 }).faultData →
    ∃ u, exec (.statusFaultSummary t) s = .next u ∧
    s.replied u m.reply 0x11 (toBe 2 4 ++ toBe 4 (beAt m.body 4 4) ++ toBe 2 d.length ++ [0, 0] ++ d) ∧ (∀ a, a ≠ Reg.CPT_EVENT →
    a ≠ Reg.MSIX_PENDING 0 → a ≠ Reg.CPT_CNT_MBX_REPLY_DROP → u.rd a = s.rd a) ∧ u.flash = s.flash ∧ u.dram = s.dram) ∧
  (∀ t m s d, s.hasMsg m 0x11 → beAt m.body 0 2 = 5 →
    d = ((s.at t).setXpt { s.xpt with rx := s.xpt.rx.drop 1 }).flowData (beAt m.body 4 4) → ∃ u, exec (.statusFlowContext t) s = .next u ∧
    s.replied u m.reply 0x11 (toBe 2 5 ++ toBe 4 (beAt m.body 4 4) ++ toBe 2 d.length ++ [0, 0] ++ d) ∧ (∀ a, a ≠ Reg.CPT_EVENT →
    a ≠ Reg.MSIX_PENDING 0 → a ≠ Reg.CPT_CNT_MBX_REPLY_DROP → u.rd a = s.rd a) ∧ u.flash = s.flash ∧ u.dram = s.dram) ∧
  (∀ t m s d, s.hasMsg m 0x11 → beAt m.body 0 2 = 6 → d = ((s.at t).setXpt { s.xpt with rx := s.xpt.rx.drop 1 }).healthData →
    ∃ u, exec (.statusHealth t) s = .next u ∧
    s.replied u m.reply 0x11 (toBe 2 6 ++ toBe 4 (beAt m.body 4 4) ++ toBe 2 d.length ++ [0, 0] ++ d) ∧ (∀ a, a ≠ Reg.CPT_EVENT →
    a ≠ Reg.MSIX_PENDING 0 → a ≠ Reg.CPT_CNT_MBX_REPLY_DROP → u.rd a = s.rd a) ∧ u.flash = s.flash ∧ u.dram = s.dram) ∧
  (∀ t m s d, s.hasMsg m 0x11 → beAt m.body 0 2 = 7 →
    d = ((s.at t).setXpt { s.xpt with rx := s.xpt.rx.drop 1 }).regBytes ((List.range 32).map fun k => 0x010000 + 4 * k) →
    ∃ u, exec (.statusBootRegisters t) s = .next u ∧
    s.replied u m.reply 0x11 (toBe 2 7 ++ toBe 4 (beAt m.body 4 4) ++ toBe 2 d.length ++ [0, 0] ++ d) ∧ (∀ a, a ≠ Reg.CPT_EVENT →
    a ≠ Reg.MSIX_PENDING 0 → a ≠ Reg.CPT_CNT_MBX_REPLY_DROP → u.rd a = s.rd a) ∧ u.flash = s.flash ∧ u.dram = s.dram) ∧
  (∀ t m s d, s.hasMsg m 0x11 → beAt m.body 0 2 = 8 → d = ((s.at t).setXpt { s.xpt with rx := s.xpt.rx.drop 1 }).lintelData →
    ∃ u, exec (.statusLintel t) s = .next u ∧
    s.replied u m.reply 0x11 (toBe 2 8 ++ toBe 4 (beAt m.body 4 4) ++ toBe 2 d.length ++ [0, 0] ++ d) ∧ (∀ a, a ≠ Reg.CPT_EVENT →
    a ≠ Reg.MSIX_PENDING 0 → a ≠ Reg.CPT_CNT_MBX_REPLY_DROP → u.rd a = s.rd a) ∧ u.flash = s.flash ∧ u.dram = s.dram) ∧
  (∀ t m s d, s.hasMsg m 0x11 → beAt m.body 0 2 = 9 →
    d = ((s.at t).setXpt { s.xpt with rx := s.xpt.rx.drop 1 }).portData (beAt m.body 4 4) → ∃ u, exec (.statusAudioPort t) s = .next u ∧
    s.replied u m.reply 0x11 (toBe 2 9 ++ toBe 4 (beAt m.body 4 4) ++ toBe 2 d.length ++ [0, 0] ++ d) ∧ (∀ a, a ≠ Reg.CPT_EVENT →
    a ≠ Reg.MSIX_PENDING 0 → a ≠ Reg.CPT_CNT_MBX_REPLY_DROP → u.rd a = s.rd a) ∧ u.flash = s.flash ∧ u.dram = s.dram)

/-- SNAPSHOT_START and SNAPSHOT_DONE (R114). -/
def Obligations.snapshot_copies_a_table : Prop :=
  (∀ t table s, table ≤ 7 → s.rdBit Reg.XPT_SNAP 30 = false → ∃ u, exec (.snapshotStart t table) s = .next u ∧
    u.rd Reg.XPT_SNAP = BitVec.ofNat 32 (1073741824 + table) ∧ u.xpt = { s.xpt with snapTable := table } ∧ (∀ a, a ≠ Reg.XPT_SNAP →
    u.rd a = s.rd a) ∧ u.dram = s.dram) ∧
  (∀ t table s, 7 < table → s.rdBit Reg.XPT_SNAP 30 = false → ∃ u, exec (.snapshotStart t table) s = .next u ∧
    u.rdBit Reg.XPT_SNAP 30 = false ∧ u.rdBit Reg.XPT_SNAP 31 = false ∧ u.xpt = s.xpt ∧ (∀ a, a ≠ Reg.XPT_SNAP → u.rd a = s.rd a)) ∧
  (∀ t table s, s.rdBit Reg.XPT_SNAP 30 = true → ∃ u, exec (.snapshotStart t table) s = .next u ∧ u.rdBit Reg.XPT_SNAP 30 = true ∧
    u.rdFld Reg.XPT_SNAP 3 0 = table % 16 ∧ u.xpt = s.xpt ∧ (∀ a, a ≠ Reg.XPT_SNAP → u.rd a = s.rd a) ∧ u.dram = s.dram) ∧
  (∀ t s, s.rdBit Reg.XPT_SNAP 30 = true → ∃ u, exec (.snapshotDone t) s = .next u ∧
    u.rd Reg.XPT_SNAP = BitVec.ofNat 32 (2147483648 + s.xpt.snapTable) ∧ u.xpt.snap = s.snapWords s.xpt.snapTable ∧
    u.rd Reg.XPT_SNAP_GEN = s.rd (if s.xpt.snapTable = 1 ∨ s.xpt.snapTable = 3 then Reg.XPT_GEN_ONAIR else Reg.XPT_GEN_COMMITTED) ∧
    (∀ a, a ≠ Reg.XPT_SNAP → a ≠ Reg.XPT_SNAP_GEN → u.rd a = s.rd a)) ∧
  (∀ t s d r, s.rdBit Reg.XPT_SNAP 30 = true → s.xpt.snapTable = 0 → d < 4096 → Tab.get idleRow s.xpt.vcom d = r →
    ∃ u, exec (.snapshotDone t) s = .next u ∧ u.xpt.snap[4 * d]? = some (r.srcN * 65536 + r.srcV) ∧
    u.xpt.snap[4 * d + 1]? = some (b2n r.pass * 65536 + r.amap % 65536) ∧ u.xpt.snap[4 * d + 2]? = some r.gen)

/-- LINTEL_ARM_MSG, LINTEL_DISARM_MSG, LOAD_TEXT, CLEAR_TEXT, LINTEL_ARM_EDGE, LINTEL_PIN_QUALIFIED (R168, R169, R172). -/
def Obligations.lintel_messages_and_pin : Prop :=
  (∀ t m s, s.hasMsg m 0x40 → byteAt m.body 0 = 1 → s.ctl.mode = .service → s.validates = true → 0 < s.dev.variant.compositors →
    ∀ k ∈ List.range 16, (beAt m.body 2 2).testBit k = true → (Tab.find? s.lintelSlots k).isSome = true →
    ∃ u, exec (.lintelArmMsg t) s = .next u ∧ u.lin.msgMask = beAt m.body 2 2 ∧ u.lin.airMask = s.lin.airMask ∧
    u.lin.loaded = s.lin.loaded ∧ u.lin.pinLevel = s.lin.pinLevel ∧ u.xpt.ownSeq = (s.xpt.ownSeq + 1) % 4294967296 ∧
    u.xpt.vout = s.xpt.vout ∧ u.dram = s.dram ∧
    s.replied u m.reply 0x7E (ackBody m.reply 0 0 0 (sharedFrame ((s.at t).boundGroups.map fun g => (g, (s.at t).headlandAt g ((s.at t).deviceTime : Int)))) (s.at t).deviceTime)) ∧
  (∀ t m s, s.hasMsg m 0x40 → byteAt m.body 0 = 1 → s.ctl.mode = .service → s.validates = true → 0 < s.dev.variant.compositors →
    ∃ k ∈ List.range 16, (beAt m.body 2 2).testBit k = true ∧ Tab.find? s.lintelSlots k = none → ∃ u, exec (.lintelArmMsg t) s = .next u ∧
    s.naked u m.reply 0x31 0xFFFF 0 0 ∧ u.lin = s.lin) ∧
  (∀ t m s, s.hasMsg m 0x40 → byteAt m.body 0 = 2 → s.ctl.mode = .service → s.validates = true → 0 < s.dev.variant.compositors →
    ∃ u, exec (.lintelDisarmMsg t) s = .next u ∧ u.lin.msgMask = 0 ∧ u.lin.airMask = s.lin.airMask ∧ u.lin.pinLevel = s.lin.pinLevel ∧
    u.lin.loaded = s.lin.loaded ∧ u.xpt.ownSeq = (s.xpt.ownSeq + 1) % 4294967296 ∧ u.dram = s.dram ∧
    s.replied u m.reply 0x7E (ackBody m.reply 0 0 0 (sharedFrame ((s.at t).boundGroups.map fun g => (g, (s.at t).headlandAt g ((s.at t).deviceTime : Int)))) (s.at t).deviceTime)) ∧
  (∀ t m s, s.hasMsg m 0x40 → byteAt m.body 0 = 3 → s.ctl.mode = .service → s.validates = true →
    ((s.at t).setXpt { s.xpt with rx := s.xpt.rx.drop 1 }).lintelFault m.body = none → ∃ u, exec (.loadText t) s = .next u ∧
    Tab.find? u.lin.loaded (byteAt m.body 1) = some (.text ⟨beAt m.body 4 2, beAt m.body 6 2, byteAt m.body 8, byteAt m.body 9, byteAt m.body 10, m.body.drop 16⟩) ∧
    (∀ a, a ≠ byteAt m.body 1 → Tab.find? u.lin.loaded a = Tab.find? s.lin.loaded a) ∧ u.lin.airSlots = s.lin.airSlots ∧
    u.lin.msgMask = s.lin.msgMask ∧ u.dram = s.dram ∧
    s.replied u m.reply 0x7E (ackBody m.reply 0 0 0 (sharedFrame ((s.at t).boundGroups.map fun g => (g, (s.at t).headlandAt g ((s.at t).deviceTime : Int)))) (s.at t).deviceTime)) ∧
  (∀ t m s, s.hasMsg m 0x40 → byteAt m.body 0 = 4 → byteAt m.body 1 ≤ 15 → Tab.find? s.cfg.lintelSlots (byteAt m.body 1) = none →
    s.ctl.mode = .service → s.validates = true → 0 < s.dev.variant.compositors → ∃ u, exec (.clearText t) s = .next u ∧
    Tab.find? u.lin.loaded (byteAt m.body 1) = none ∧ (∀ a, a ≠ byteAt m.body 1 → Tab.find? u.lin.loaded a = Tab.find? s.lin.loaded a) ∧
    u.lin.airSlots = s.lin.airSlots ∧ u.lin.msgMask = s.lin.msgMask ∧ u.dram = s.dram ∧
    s.replied u m.reply 0x7E (ackBody m.reply 0 0 0 (sharedFrame ((s.at t).boundGroups.map fun g => (g, (s.at t).headlandAt g ((s.at t).deviceTime : Int)))) (s.at t).deviceTime)) ∧
  (∀ t level s, s.pins.lintelArm ≠ level → ∃ u, exec (.lintelArmEdge t level) s = .next u ∧ u.pins.lintelArm = level ∧
    u.lin = { s.lin with pinEdge := max s.now t } ∧ u.regs = s.regs ∧ u.ctl = s.ctl ∧ u.dram = s.dram) ∧
  (∀ t s, s.lin.pinEdge + 100000 ≤ max s.now t → s.pins.lintelArm ≠ s.lin.pinLevel → 0 < s.dev.variant.compositors → s.ctl.mode = .service ∨
    s.ctl.mode = .join → ∃ u, exec (.lintelPinQualified t) s = .next u ∧ (s.ctl.mode = .join → u.lin.latched = !s.lin.latched) ∧
    u.lin.pinLevel = s.pins.lintelArm ∧ u.lin.airMask = s.lin.airMask ∧ u.lin.msgMask = s.lin.msgMask ∧ u.regs = s.regs ∧ u.dram = s.dram) ∧
  (∀ t s, s.ctl.mode ≠ .service → s.ctl.mode ≠ .join → exec (.lintelPinQualified t) s = .next (s.at t))

/-- LATCH_INSTANT and SWITCH_POINT (R77, R78). The refusal of an initial connection at the first headland (R66) is outside its hypotheses. -/
def Obligations.committed_goes_on_air_at_the_headland : Prop :=
  (∀ t g s f, s.tgUsed g = true → (s.grp g).acquired = true → f = (s.at t).headlandAt g ((s.at t).deviceTime : Int) →
    ∃ u, exec (.latchInstant t g) s = .next u ∧
    Tab.get 0 u.xpt.latched g = (if (s.at t).latchOf g f ≤ ((s.at t).deviceTime : Int) then f else f - 1) ∧ u.xpt.vout = s.xpt.vout ∧
    u.xpt.pending = s.xpt.pending ∧ u.regs = s.regs ∧ u.dram = s.dram) ∧
  (∀ t g s p e f F, s.tgUsed g = true → (s.grp g).acquired = true → (s.at t).switchFrame g = some F → g ∈ s.xpt.started →
    s.xpt.pending = [p] → p.kind = 0 → p.entries = [e] → p.live = [] → p.left = [g] → p.frames = [(g, f)] → f ≤ F → isMono e = false →
    takesV e = true → s.dstGroup e.dest = g → ∃ u, exec (.switchPoint t g) s = .next u ∧
    Tab.get idleRow u.xpt.vout e.dest = rowAfter e p.gen (Tab.get idleRow s.xpt.vout e.dest) ∧ (∀ a, a ≠ e.dest →
    Tab.get idleRow u.xpt.vout a = Tab.get idleRow s.xpt.vout a) ∧ u.xpt.pending = [] ∧ Tab.find? u.xpt.lost e.dest = none ∧
    u.xpt.vcom = s.xpt.vcom) ∧
  (∀ t g s p f F, s.tgUsed g = true → (s.grp g).acquired = true → (s.at t).switchFrame g = some F → g ∈ s.xpt.started →
    s.xpt.pending = [p] → p.left = [g] → p.frames = [(g, f)] → F < f → ∃ u, exec (.switchPoint t g) s = .next u ∧ u.xpt.vout = s.xpt.vout ∧
    u.xpt.pending = [p] ∧ u.xpt.vcom = s.xpt.vcom)

/-- FRAME_START, LAG_MEASURE, WINDOW_LEFT (R72, R75, R249). -/
def Obligations.frames_advance_and_windows_hold : Prop :=
  (∀ t g s, s.tgUsed g = true → (s.grp g).acquired = true → (s.at t).frameDue g = true → ∃ u, exec (.frameStart t g) s = .next u ∧
    u.grp g = { s.grp g with frame := (s.grp g).frame + 1, start := ((s.at t).deviceTime : Int) } ∧ (∀ a, a ≠ g → u.grp a = s.grp a) ∧
    u.xpt.vout = s.xpt.vout ∧ u.xpt.pending = s.xpt.pending ∧ u.dram = s.dram) ∧
  (∀ t src g least most s, g < 16 → src < 4032 → least ≤ most → ∃ u, exec (.lagMeasure t src g least most) s = .next u ∧
    Tab.find? u.xpt.lags (src * 16 + g) = some ⟨least, most⟩ ∧ (∀ a, a ≠ src * 16 + g → Tab.find? u.xpt.lags a = Tab.find? s.xpt.lags a) ∧
    u.xpt.vcom = s.xpt.vcom ∧ u.xpt.vout = s.xpt.vout ∧ u.dram = s.dram) ∧
  (∀ t d line s, isLayer d = false → (Tab.find? s.cfg.dsts d).isSome = true →
    s.inWindow ((Tab.get idleRow s.xpt.vout d).srcV) (s.dstGroup d) = false → Tab.find? s.xpt.lost d = none → s.validates = true →
    ∃ u, exec (.windowLeft t d line) s = .next u ∧ (Tab.find? u.xpt.lost d).isSome = true ∧
    Tab.find? u.xpt.black d = some (((s.grp (s.dstGroup d)).frame, line), none) ∧ u.rdBit Reg.XPT_EVENT 3 = true ∧
    (⟨max s.now t, 0x011, 0x20, d % 4294967296, 2⟩ : FaultMsg) ∈ u.flt.inbox ∧ u.xpt.vcom = s.xpt.vcom ∧ u.xpt.vout = s.xpt.vout ∧
    u.dram = s.dram)

/-- INPUT_FRAME_COMPLETE (R117, R142). The tiles and the ancillary area are written as the lines arrive (SDI_LINE, BAND_PASS). -/
def Obligations.input_frames_become_complete : Prop :=
  (∀ t i s c p, Tab.find? s.cfg.streams i = some c → i < 4096 → s.isPaired i = false → (s.stream i).opened = some p →
    (s.stream i).broken = false → (s.at t).lossFalls i = false → ∃ u, exec (.inputFrameComplete t i) s = .next u ∧
    (u.stream i).opened = none ∧ Tab.get coldFrame (u.stream i).ring p = { Tab.get coldFrame (s.stream i).ring p with complete := true } ∧
    (∀ a, a ≠ p → Tab.get coldFrame (u.stream i).ring a = Tab.get coldFrame (s.stream i).ring a) ∧
    (u.stream i).widxLast = (Tab.get coldFrame (s.stream i).ring p).widx ∧ (∀ a, a ≠ i → u.stream a = s.stream a) ∧ (∀ a, u.rd a = s.rd a) ∧
    u.dram = s.dram) ∧
  (∀ t i s c p, Tab.find? s.cfg.streams i = some c → i < 4096 → s.isPaired i = false → (s.stream i).opened = some p →
    (s.stream i).broken = true → ∃ u, exec (.inputFrameComplete t i) s = .next u ∧ (u.stream i).opened = none ∧
    Tab.get coldFrame (u.stream i).ring p = { Tab.get coldFrame (s.stream i).ring p with complete := false } ∧ (∀ a, a ≠ p →
    Tab.get coldFrame (u.stream i).ring a = Tab.get coldFrame (s.stream i).ring a) ∧ (∀ a, a ≠ i → u.stream a = s.stream a) ∧
    (∀ a, u.rd a = s.rd a) ∧ u.dram = s.dram) ∧
  (∀ t i s c p, Tab.find? s.cfg.streams i = some c → 4096 ≤ i → i < 8192 → s.isPaired i = false → (s.stream i).opened = some p →
    (s.stream i).broken = false → (s.at t).lossFalls i = false → ∃ u, exec (.inputFrameComplete t i) s = .next u ∧
    (u.stream i).opened.isSome = true ∧ (u.stream i).widxLast = (Tab.get coldFrame (s.stream i).ring p).widx ∧
    (u.stream i).nextW = (s.stream i).nextW + 1 ∧ (∀ a, a ≠ i → u.stream a = s.stream a) ∧ (∀ a, u.rd a = s.rd a) ∧ u.dram = s.dram)

/-- DECISION_INSTANT and READ_START (R118, R119). -/
def Obligations.streams_read_what_was_decided : Prop :=
  (∀ t g frame s i, s.tgUsed g = true → s.decides = true → s.ringsOf g = [i] → (s.at t).completesNow i = false →
    ∃ u, exec (.decisionInstant t g frame) s = .next u ∧ (u.stream i).chosen = some (frame, (s.choose i).1) ∧ (∀ a, a ≠ i →
    u.stream a = s.stream a) ∧ u.xpt = s.xpt ∧ u.tmg = s.tmg ∧ u.dram = s.dram) ∧
  (∀ t i frame s c w, Tab.find? s.cfg.streams i = some c → i < 4096 → (s.stream i).ancLen = [] → s.decides = true →
    (s.stream i).chosen = some (frame, some w) → ∃ u, exec (.readStart t i frame) s = .next u ∧
    (u.stream i).reading = (s.stream i).placeOf w ∧ (u.stream i).lastRead = some w ∧ (u.stream i).chosen = none ∧
    u.out = s.out ++ [.video i i w] ∧ (∀ a, a ≠ i → u.stream a = s.stream a) ∧ (∀ a, u.rd a = s.rd a) ∧ u.dram = s.dram) ∧
  (∀ t i frame s c d p, Tab.find? s.cfg.streams i = some c → i < 4096 → (s.stream i).ancLen = [] → (s.stream i).ready = true →
    s.decides = false → s.twn.decisions.find? (fun d => d.kind == 1 && d.index == i && d.at_ == frame) = some d → d.value ≠ decisionBlack →
    (s.stream i).placeOf d.value = some p → ∃ u, exec (.readStart t i frame) s = .next u ∧ (u.stream i).reading = some p ∧
    (u.stream i).lastRead = some d.value ∧ (∀ a, u.rd a = s.rd a) ∧ u.dram = s.dram) ∧
  (∀ t i frame s c w p n, Tab.find? s.cfg.streams i = some c → i < 4096 → s.decides = true → (s.stream i).chosen = some (frame, some w) →
    (s.stream i).placeOf w = some p → n = s.badBlocks c p (Tab.get 0 (s.stream i).ancLen p) → n ≠ 0 →
    (s.rd Reg.FST_CNT_CRC_FAIL).toNat + n < 4294967296 → ∃ u, exec (.readStart t i frame) s = .next u ∧ (u.stream i).reading = some p ∧
    u.rd Reg.FST_CNT_CRC_FAIL = BitVec.ofNat 32 ((s.rd Reg.FST_CNT_CRC_FAIL).toNat + n) ∧ u.rdBit Reg.FST_EVENT 0 = true ∧
    (∀ a, a ∉ [Reg.FST_CNT_CRC_FAIL, Reg.FST_EVENT, Reg.MSIX_PENDING 0, Reg.MSIX_PENDING 1] → u.rd a = s.rd a) ∧ u.dram = s.dram) ∧
  (∀ t i frame s c, Tab.find? s.cfg.streams i = some c → i < 4096 → s.decides = false →
    s.twn.decisions.find? (fun d => d.kind == 1 && d.index == i && d.at_ == frame) = none →
    (s.rd Reg.FST_CNT_DECISION_MISSED).toNat + 1 < 4294967296 → ∃ u, exec (.readStart t i frame) s = .next u ∧
    (u.stream i).reading = (s.choose i).1.bind (s.stream i).placeOf ∧
    u.rd Reg.FST_CNT_DECISION_MISSED = BitVec.ofNat 32 ((s.rd Reg.FST_CNT_DECISION_MISSED).toNat + 1) ∧ u.rdBit Reg.FST_EVENT 4 = true ∧
    u.dram = s.dram)

/-- SLOT_READ and SCRUB_CHUNK (R138, R141, R400). -/
def Obligations.slots_are_checked_at_use : Prop :=
  (∀ t i tile s c p a ps, Tab.find? s.cfg.streams i = some c → i < 8192 → tile < c.tiles → (s.stream i).reading = some p →
    (Tab.get coldFrame (s.stream i).ring p).written = true → s.fst.late.contains (i, tile) = false →
    s.slotAt (slotAddrOf c p tile) = some a →
    (decodeSlot c.stored c.code c.rgb (some ((Tab.get coldFrame (s.stream i).ring p).widx % 65536)) (s.slotBytesAt c a)).toOption = some ps →
    ∃ u, exec (.slotRead t i tile) s = .next u ∧ u.out = s.out ++ [.samples i tile (s.shownTile i c tile ps).flatten] ∧
    (∀ a, u.rd a = s.rd a) ∧ u.flt = s.flt ∧ u.dram = s.dram) ∧
  (∀ t i tile s c p a, Tab.find? s.cfg.streams i = some c → i < 8192 → tile < c.tiles → (s.stream i).reading = some p →
    (s.stream i).prev = none → (Tab.get coldFrame (s.stream i).ring p).written = true → s.fst.late.contains (i, tile) = false →
    s.slotAt (slotAddrOf c p tile) = some a →
    (decodeSlot c.stored c.code c.rgb (some ((Tab.get coldFrame (s.stream i).ring p).widx % 65536)) (s.slotBytesAt c a)).toOption = none →
    ∃ u, exec (.slotRead t i tile) s = .next u ∧
    u.out.getLast? = some (.samples i tile (s.shownTile i c tile (fillTile c.stored c.rgb)).flatten) ∧
    (⟨max s.now t, 0x0C0 + groupOf (slotAddrOf c p tile), 0x21, slotAddrOf c p tile / 32 % 4294967296, 1⟩ : FaultMsg) ∈ u.flt.inbox ∧
    u.rdBit Reg.FST_EVENT 0 = true ∧ u.dram = s.dram) ∧
  (∀ t g s k, s.rdFld Reg.DRC_MAINT 15 0 ≠ 0 → s.groupUsed g = true → (s.res (66 + g)).running = none →
    k = Tab.get 0 s.fst.scrubAt g + ((s.at t).scrubFrom (Tab.get 0 s.fst.scrubAt g) 1048576 (s.groupStreams g)).2 →
    ∃ u, exec (.scrubChunk t g) s = .next u ∧ Tab.get 0 u.fst.scrubAt g = (if s.groupSlots g ≤ k then 0 else k) ∧ u.streams = s.streams ∧
    u.dram = s.dram)

/-- FST_SEL_WRITE, FST_QMAX_READ, THUMBNAIL_INTERVAL (R122, R142, R146, R447). The bytes of a thumbnail are the command's operand (log 1). -/
def Obligations.frame_store_registers : Prop :=
  (∀ t v s, ∃ u, exec (.fstSelWrite t v) s = .next u ∧ u.rd Reg.FST_SEL = BitVec.ofNat 32 (v % 16384) ∧ (∀ a, a ≠ Reg.FST_SEL →
    u.rd a = s.rd a) ∧ u.streams = s.streams ∧ u.dram = s.dram) ∧
  (∀ t s i, i = s.rdFld Reg.FST_SEL 13 0 → ∃ u, exec (.fstQmaxRead t) s = .next u ∧
    u.out = s.out ++ [.read Reg.FST_QMAX ((s.stream i).qmaxHeld * 256 + (s.stream i).qmaxLast)] ∧
    u.stream i = { s.stream i with qmaxHeld := 0 } ∧ (∀ a, a ≠ i → u.stream a = s.stream a) ∧ (∀ a, u.rd a = s.rd a) ∧ u.dram = s.dram) ∧
  (∀ t f ps s, s.boot.fieldsUsed.testBit f = true → f < s.dev.variant.fields → 4 ≤ s.power.stage → Tab.get 1000 s.fst.thumbMs f ≠ 0 →
    Tab.get 0 s.fst.thumbAt f + 1000000 * Tab.get 1000 s.fst.thumbMs f ≤ max s.now t → s.waiters f 32 = [] →
    ∃ u, exec (.thumbnailInterval t f ps) s = .next u ∧ Tab.get 0 u.fst.thumbAt f = max s.now t ∧
    (Tab.get [] u.dma.thumbOut f).length = (Tab.get [] s.dma.thumbOut f).length + 91392 * min ps.length ((s.cfg.srcs.flatMap fun e => inputsOf e.2).eraseDups.filter fun x => s.inputField x == f).length ∧
    (∀ a, u.rd a = s.rd a) ∧ u.dram = s.dram)

/-- CACHE_REBUILD, GOLDEN_TILE_TEST, SRAM_BIST_CHUNK (R158, R414). The results of the tests are operands (log 1). -/
def Obligations.compositor_caches_and_self_tests : Prop :=
  (∀ t c s, s.cmpActive c = true → (s.cmpRun c).change = true → 4 ≤ (s.cmpRun c).since → ∃ u, exec (.cacheRebuild t c) s = .next u ∧
    (u.cmpRun c).since = 0 ∧ (u.cmpRun c).change = false ∧ (u.cmpRun c).building = true ∧ u.rdBit (Reg.CMP_STATUS c) 30 = true ∧
    u.xpt.vout = s.xpt.vout) ∧
  (∀ t c s, s.cmpActive c = true → ∃ u, exec (.goldenTileTest t c true) s = .next u ∧ u.cmpRun c = { s.cmpRun c with misses := 0 } ∧
    (∀ a, a ≠ c → u.cmpRun a = s.cmpRun a) ∧ (∀ a, u.rd a = s.rd a) ∧ u.flt = s.flt ∧ u.dram = s.dram) ∧
  (∀ t c s, s.cmpActive c = true → ∃ u, exec (.goldenTileTest t c false) s = .next u ∧ (u.cmpRun c).misses = (s.cmpRun c).misses + 1 ∧
    ((s.cmpRun c).misses = 0 → (⟨max s.now t, 0x040 + c, 0x0A, (s.grp (s.cmpGroup c)).frame % 4294967296, 1⟩ : FaultMsg) ∈ u.flt.inbox) ∧
    ((s.cmpRun c).misses ≠ 0 → (⟨max s.now t, 0x040 + c, 0x09, 1, 3⟩ : FaultMsg) ∈ u.flt.inbox) ∧ (∀ a, u.rd a = s.rd a) ∧
    u.dram = s.dram) ∧
  (∀ t r c s, r = 75 ∨ (r = 76 ∧ c < s.dev.variant.compositors) → (s.res r).running = none →
    ∃ u, exec (.sramBistChunk t r c true) s = .next u ∧ u.flt = s.flt ∧ u.mnt = s.mnt ∧ (∀ a, u.rd a = s.rd a) ∧ u.dram = s.dram) ∧
  (∀ t c s, (s.res 75).running = none → ∃ u, exec (.sramBistChunk t 75 c false) s = .next u ∧
    (⟨max s.now t, 0x011, 0x09, 2, 3⟩ : FaultMsg) ∈ u.flt.inbox ∧ u.mnt = s.mnt ∧ (∀ a, u.rd a = s.rd a) ∧ u.dram = s.dram)

/-- AUDIO_BLOCK, SLIP_APPLY, DEEMB_PACKET_ERROR (R178, R188, R190). -/
def Obligations.audio_blocks_and_slips : Prop :=
  (∀ t b ins s, s.audioRuns = true → ∃ u, exec (.audioBlock t b ins) s = .next u ∧ u.aud.block = b ∧ u.xpt.aout = s.xpt.aout ∧
    u.ctl = s.ctl ∧ u.tmg = s.tmg ∧ u.dram = s.dram) ∧
  (∀ t b i s, s.audioRuns = true → s.decides = true → (s.audIn i).going = true → s.inPlaced i = false → s.inExact i = false →
    (s.audIn i).slip = none → (s.audIn i).notReady = false → 6 < (s.audIn i).fill ∨ (s.audIn i).fill < 2 →
    ∃ u, exec (.audioBlock t b []) s = .next u ∧ (u.audIn i).slip = some (b, decide (6 < (s.audIn i).fill), false) ∧
    (u.audIn i).fifo = ((s.audIn i).fifo.map fun c => (c.1, c.2.drop 6)).filter fun c => c.2 != []) ∧
  (∀ t i s b drop, (s.audIn i).slip = some (b, drop, false) → b + 8 ≤ s.aud.block → s.ctl.role ≠ .follower →
    ∃ u, exec (.slipApply t i) s = .next u ∧ (u.audIn i).slip = some (b, drop, true) ∧
    (u.audIn i).slips = min ((s.audIn i).slips + 1) 65535 ∧ (u.audIn i).fifo = slipFifo drop (s.audIn i).fifo (s.audIn i).prev ∧
    u.rdBit Reg.AUD_EVENT 0 = true ∧ (s.inForeign i = false → (⟨max s.now t, 0x020, 0x30, i % 4294967296, 2⟩ : FaultMsg) ∈ u.flt.inbox) ∧
    u.xpt = s.xpt ∧ u.dram = s.dram) ∧
  (∀ t lane s, s.sdiPort lane = true → (s.rd Reg.AUD_CNT_DEEMB_ERR).toNat + 1 < 4294967296 →
    ∃ u, exec (.deembPacketError t lane) s = .next u ∧
    u.rd Reg.AUD_CNT_DEEMB_ERR = BitVec.ofNat 32 ((s.rd Reg.AUD_CNT_DEEMB_ERR).toNat + 1) ∧ u.rdBit Reg.AUD_EVENT 7 = true ∧ u.aud = s.aud ∧
    u.dram = s.dram)

/-- MASK_HI_WRITE and MASK_APPLY (R195). -/
def Obligations.audio_masks_wait_for_their_frame : Prop :=
  (∀ t p v s, p < s.dev.variant.ports → ∃ u, exec (.maskHiWrite t p true v) s = .next u ∧
    (u.port p).pendOut = some (((s.port p).loOut + 4294967296 * (v % 4294967296)) % 2 ^ s.portSlots p, max s.now t) ∧
    (u.port p).pendIn = (s.port p).pendIn ∧ (∀ a, u.rd a = s.rd a) ∧ (∀ a, a ≠ p → u.port a = s.port a) ∧ u.dram = s.dram) ∧
  (∀ t p v s, p < s.dev.variant.ports → ∃ u, exec (.maskHiWrite t p false v) s = .next u ∧
    (u.port p).pendIn = some (((s.port p).loIn + 4294967296 * (v % 4294967296)) % 2 ^ s.portSlots p, max s.now t) ∧
    (u.port p).pendOut = (s.port p).pendOut ∧ (∀ a, u.rd a = s.rd a) ∧ (∀ a, a ≠ p → u.port a = s.port a) ∧ u.dram = s.dram) ∧
  (∀ t p s m n j k, p < s.dev.variant.ports → (s.port p).phase = 1 ∨ (s.port p).phase = 2 → (s.port p).pendIn = some (m, j) →
    (s.port p).pendOut = some (n, k) → j < max s.now t → k < max s.now t → m < 2 ^ s.portSlots p → n < 2 ^ s.portSlots p →
    m < 18446744073709551616 → n < 18446744073709551616 → ∃ u, exec (.maskApply t p) s = .next u ∧ u.portMask p false = m ∧
    u.portMask p true = n ∧ (u.port p).pendIn = none ∧ (u.port p).pendOut = none ∧ (∀ a, a ≠ p → u.port a = s.port a) ∧
    (∀ a, a ≠ Reg.AP_MASK_IN_LO p → a ≠ Reg.AP_MASK_IN_HI p → a ≠ Reg.AP_MASK_OUT_LO p → a ≠ Reg.AP_MASK_OUT_HI p → u.rd a = s.rd a)) ∧
  (∀ t p s m k, p < s.dev.variant.ports → (s.port p).phase = 1 ∨ (s.port p).phase = 2 → (s.port p).pendIn = none →
    (s.port p).pendOut = some (m, k) → k = max s.now t → ∃ u, exec (.maskApply t p) s = .next u ∧ (u.port p).pendOut = some (m, k) ∧
    (∀ a, u.rd a = s.rd a) ∧ (∀ a, a ≠ p → u.port a = s.port a) ∧ u.dram = s.dram)

/-- PORT_START, START_LEAD_END, PORT_STOP, PORT_CLOCK_LOSS, PORT_RECOVERY, FOLLOW_RANGE (R196–R198). -/
def Obligations.audio_ports_start_and_stop : Prop :=
  (∀ t p s, p < s.dev.variant.ports → s.rdBit (Reg.AP_CFG p) 31 = true → s.audioRuns = true → (s.port p).phase = 0 → s.ctl.mode ≠ .safe →
    5 ≤ s.power.stage → s.power.reaping = none → s.portBadCfg p = false → ∃ u, exec (.portStart t p) s = .next u ∧ (u.port p).phase = 1 ∧
    (u.port p).since = max s.now t ∧ (u.port p).lead = s.rdFld (Reg.AP_LEAD p) 15 0 ∧ u.rdBit (Reg.AP_STATUS p) 27 = true ∧
    u.rdFld (Reg.AP_STATUS p) 31 30 = 0 ∧ (∀ a, a ≠ p → u.port a = s.port a) ∧ u.dram = s.dram) ∧
  (∀ t p s, p < s.dev.variant.ports → (s.port p).phase = 1 → (s.port p).since + framesToNs (s.port p).lead ≤ max s.now t →
    ∃ u, exec (.startLeadEnd t p) s = .next u ∧ (u.port p).phase = 2 ∧ u.rdBit (Reg.AP_STATUS p) 31 = true ∧
    u.rdBit (Reg.AP_STATUS p) 27 = false ∧ (∀ a, a ≠ p → u.port a = s.port a) ∧ (∀ a, a ≠ Reg.AP_STATUS p → u.rd a = s.rd a) ∧
    u.dram = s.dram) ∧
  (∀ t p s, p < s.dev.variant.ports → s.power.reaping.isSome = true ∨ s.rdBit (Reg.AP_CFG p) 31 = false ∨ s.ctl.mode = .safe →
    (s.port p).phase = 1 ∨ (s.port p).phase = 2 ∨ (s.port p).phase = 4 → ∃ u, exec (.portStop t p) s = .next u ∧ (u.port p).phase = 3 ∧
    (u.port p).since = max s.now t ∧ u.rdBit (Reg.AP_STATUS p) 31 = false ∧ u.rdBit (Reg.AP_STATUS p) 27 = false ∧
    (u.port p).tail = (if s.portClock p = 1 then 0 else s.rdFld (Reg.AP_LEAD p) 31 16) ∧ (∀ a, a ≠ p → u.port a = s.port a) ∧
    (∀ a, a ≠ Reg.AP_STATUS p → u.rd a = s.rd a) ∧ u.dram = s.dram) ∧
  (∀ t p cause s, p < s.dev.variant.ports → s.portClock p = 1 → 1 ≤ cause → cause ≤ 3 → (s.port p).phase = 2 →
    ∃ u, exec (.portClockLoss t p cause) s = .next u ∧ (u.port p).phase = 4 ∧ (u.port p).losses = (s.port p).losses + 1 ∧
    u.rdBit (Reg.AP_STATUS p) 31 = false ∧ u.rdBit (Reg.AP_STATUS p) 30 = true ∧ u.rdFld (Reg.AP_STATUS p) 29 28 = cause ∧
    u.rdBit Reg.AUD_EVENT 1 = true ∧ (∀ a, a ≠ p → u.port a = s.port a) ∧ u.dram = s.dram) ∧
  (∀ t p s, p < s.dev.variant.ports → (s.port p).phase = 4 → (s.port p).since + 100000000 ≤ max s.now t →
    ∃ u, exec (.portRecovery t p) s = .next u ∧ (u.port p).phase = 1 ∧ (u.port p).since = max s.now t ∧
    u.rdBit (Reg.AP_STATUS p) 27 = true ∧ u.rdBit Reg.AUD_EVENT 2 = true ∧ (∀ a, a ≠ p → u.port a = s.port a) ∧ u.dram = s.dram) ∧
  (∀ t p low at_ s, p < s.dev.variant.ports → s.portClock p = 2 → (s.port p).phase = 2 → (s.port p).atLimit = some (low, at_) →
    at_ + 1000000000 ≤ max s.now t → ∃ u, exec (.followRange t p low) s = .next u ∧
    u.rd (Reg.AP_NCO p) = BitVec.ofInt 32 (if low then -10000 else 10000) ∧ u.rdBit (Reg.AP_STATUS p) 26 = true ∧
    (⟨max s.now t, 0x030 + p, 0x31, p % 4294967296, 2⟩ : FaultMsg) ∈ u.flt.inbox ∧ (u.port p).slips = (s.port p).slips + 1 ∧
    u.rdBit Reg.AUD_EVENT 3 = true ∧ u.dram = s.dram)

/-- KEY_IN_EDGE, KEY_CLAIM, KEY_RESAMPLE, KEY_CONFLICT (R210, R213). -/
def Obligations.key_is_claimed_and_held : Prop :=
  (∀ t level s, s.pins.keyIn ≠ level → s.twn.key.closing = false → ∃ u, exec (.keyInEdge t level) s = .next u ∧
    u.pins = { s.pins with keyIn := level } ∧ u.twn.key.keyInEdge = max s.now t ∧ (level = true → u.twn.key.lowLong = false ∧
    u.twn.key.peerGaveUp = none ∧ u.twn.key.peerIdle = none) ∧ u.ctl = s.ctl ∧ u.regs = s.regs ∧ u.dram = s.dram) ∧
  (∀ t s, s.ctl.mode = .service → s.ctl.role ≠ .solo → s.flt.aliveRuns = true → s.power.reaping = none → s.pins.keyOut = false →
    s.pins.keyIn = false → s.twn.key.claimAt = none → s.twn.key.keyInEdge + 10000 ≤ max s.now t → s.twn.key.peerDead = true →
    (s.at t).keyInRises = false → ∃ u, exec (.keyClaim t) s = .next u ∧ u.pins = { s.pins with keyOut := true } ∧
    u.twn.key.claimAt = some (max s.now t) ∧ u.ctl = s.ctl ∧ u.regs = s.regs ∧ u.dram = s.dram) ∧
  (∀ t s, s.pins.keyIn = true ∨ s.flt.aliveRuns = false ∨ s.power.reaping.isSome = true ∨ max s.now t < s.twn.key.keyInEdge + 10000 →
    exec (.keyClaim t) s = .next (s.at t)) ∧
  (∀ t level s v, s.twn.key.claimAt = some v → v + 2000 ≤ max s.now t → level = false ∨ s.sideB = false → s.twn.key.closing = false →
    ∃ u, exec (.keyResample t level) s = .next u ∧ u.ctl = { s.ctl with role := .keyholder } ∧ u.pins = s.pins ∧ u.twn.key.claimAt = none ∧
    u.rdBit Reg.TWN_EVENT 0 = true ∧ u.dram = s.dram) ∧
  (∀ t s v, s.twn.key.claimAt = some v → v + 2000 ≤ max s.now t → s.sideB = true → s.twn.key.closing = false → s.pins.keyOut = true →
    ∃ u, exec (.keyResample t true) s = .next u ∧ u.ctl = s.ctl ∧ u.pins = { s.pins with keyOut := false } ∧ u.twn.key.claimAt = none ∧
    u.rdBit Reg.TWN_EVENT 2 = true ∧ u.dram = s.dram) ∧
  (∀ t s v, s.twn.key.claimAt = some v → v + 2000 ≤ max s.now t → s.twn.key.closing = true → s.ctl.mode = .train →
    ∃ u, exec (.keyResample t false) s = .next u ∧ u.ctl.mode = .service ∧ u.ctl.role = .keyholder ∧ u.pins = s.pins) ∧
  (∀ t s v, s.twn.key.conflictAt = some v → s.sideB = false → s.pins.keyOut = true → s.pins.keyIn = true → v + 10000 < max s.now t →
    ∃ u, exec (.keyConflict t) s = .next u ∧ (⟨max s.now t, 0x080, 0x40, 0, 3⟩ : FaultMsg) ∈ u.flt.inbox ∧ u.rdBit Reg.TWN_EVENT 9 = true ∧
    u.twn.key.conflictAt = none ∧ u.pins = s.pins ∧ u.ctl = s.ctl ∧ u.dram = s.dram)

/-- ALIVE_PEER_EDGE, ALIVE_PEER_TIMEOUT, WALL_DOWN_KEY_TIMEOUT, GIVE_UP_MSG (R210, R212, R58). -/
def Obligations.the_peer_is_watched : Prop :=
  (∀ t level s, s.pins.alivePeer ≠ level → ∃ u, exec (.alivePeerEdge t level) s = .next u ∧ u.pins = { s.pins with alivePeer := level } ∧
    u.twn.key.aliveEdge = max s.now t ∧ u.twn.key.peerDead = false ∧ u.ctl = s.ctl ∧ u.regs = s.regs ∧ u.dram = s.dram) ∧
  (∀ t s, max s.twn.key.aliveEdge s.boot.released + 3000000 ≤ max s.now t → (s.at t).heartbeatNow = false →
    (s.at t).alivePeerMoves = false → ∃ u, exec (.alivePeerTimeout t) s = .next u ∧ u.twn.key = { s.twn.key with peerDead := true } ∧
    u.pins = s.pins ∧ u.ctl = s.ctl ∧ u.regs = s.regs) ∧
  (∀ t s, max s.now t < max s.twn.key.aliveEdge s.boot.released + 3000000 → exec (.alivePeerTimeout t) s = .next (s.at t)) ∧
  (∀ t s, s.twn.wall.up = false → s.pins.keyIn = false → s.twn.key.keyInEdge + 3000000 ≤ max s.now t →
    ∃ u, exec (.wallDownKeyTimeout t) s = .next u ∧ u.twn.key = { s.twn.key with lowLong := true } ∧ u.pins = s.pins ∧ u.ctl = s.ctl ∧
    u.regs = s.regs) ∧
  (∀ t reason s, s.twn.wall.up = true → 1 ≤ reason → reason ≤ 5 → s.ctl.mode ≠ .join → ∃ u, exec (.giveUpMsg t reason) s = .next u ∧
    u.twn.key.peerGaveUp = some (max s.now t) ∧ u.rdBit Reg.TWN_EVENT 8 = true ∧ u.pins = s.pins ∧ u.ctl = s.ctl ∧ u.dram = s.dram) ∧
  (∀ t reason s, s.twn.wall.up = true → 1 ≤ reason → reason ≤ 5 → s.ctl.mode = .join → ∃ u, exec (.giveUpMsg t reason) s = .next u ∧
    u.ctl.mode = .service ∧ u.ctl.role = .follower ∧ u.ctl.joinAbandoned = true ∧ u.pins = s.pins)

/-- GIVE_UP, HANDOVER_ARM, HANDOVER_CANCEL, HANDOVER, HANDOVER_REPLY_TIMEOUT, HANDOVER_INSTANT, YIELD (R212, R241, R245). -/
def Obligations.the_key_is_given_up : Prop :=
  (∀ t s, s.ctl.role = .keyholder → s.ctl.mode = .service → ∃ u, exec (.giveUp t Config.confirm) s = .next u ∧ u.pins.keyOut = false ∧
    u.ctl = { s.ctl with role := .follower } ∧ u.twn.key.gaveUp = some (5, max s.now t) ∧ u.flash = s.flash ∧ u.dram = s.dram) ∧
  (∀ t s, s.ctl.role = .keyholder → s.ctl.mode = .service → s.hoFrame ≠ 0 → s.twn.wall.up = true → s.tgUsed s.hoGroup = true →
    ∃ u, exec (.handoverArm t Config.confirm) s = .next u ∧ u.twn.ho = ⟨0, 1, false, s.hoGroup, s.hoFrame, max s.now t⟩ ∧ u.pins = s.pins ∧
    u.ctl = s.ctl ∧ u.regs = s.regs) ∧
  (∀ t s, s.ctl.role = .keyholder → s.ctl.mode = .service → s.hoFrame = 0 → ∃ u, exec (.handoverArm t Config.confirm) s = .next u ∧
    u.twn.ho.status = 3 ∧ u.twn.ho.phase = 0 ∧ u.pins = s.pins ∧ u.ctl = s.ctl ∧ u.out = s.out) ∧
  (∀ t s, s.twn.ho.phase = 1 ∨ s.twn.ho.phase = 2 → ∃ u, exec (.handoverCancel t Config.confirm) s = .next u ∧
    u.twn.ho = { s.twn.ho with phase := 0, status := 3 } ∧ u.pins = s.pins ∧ u.ctl = s.ctl ∧ u.regs = s.regs) ∧
  (∀ t s, s.twn.wall.up = true → s.twn.ho.phase = 1 → s.twn.ho.incoming = false →
    ∃ u, exec (.handover t 2 s.twn.ho.tg s.twn.ho.frame) s = .next u ∧ u.twn.ho = { s.twn.ho with phase := 2, status := 1 } ∧
    u.pins = s.pins ∧ u.ctl = s.ctl ∧ u.regs = s.regs) ∧
  (∀ t tg frame s, s.twn.wall.up = true → s.ctl.role = .alongside → s.ctl.mode = .service → 500 ≤ s.score → (s.at t).score = s.score →
    s.tgUsed tg = true → ((s.at t).deviceTime : Int) + 10000000 ≤ s.frameStart tg frame → ∃ u, exec (.handover t 1 tg frame) s = .next u ∧
    u.twn.ho = ⟨1, 2, true, tg, frame, max s.now t⟩ ∧ u.pins = s.pins ∧ u.ctl = s.ctl ∧ u.regs = s.regs) ∧
  (∀ t s, s.twn.ho.phase = 1 → s.twn.ho.proposedAt + 5000000 ≤ max s.now t → ∃ u, exec (.handoverReplyTimeout t) s = .next u ∧
    u.twn.ho = { s.twn.ho with phase := 0, status := 3 } ∧ u.pins = s.pins ∧ u.ctl = s.ctl ∧ u.regs = s.regs) ∧
  (∀ t s, s.twn.ho.phase = 2 → s.twn.ho.incoming = false → s.ctl.mode = .service → s.hoInstant ≤ ((s.at t).deviceTime : Int) →
    ∃ u, exec (.handoverInstant t) s = .next u ∧ u.twn.ho.phase = 0 ∧ u.twn.ho.status = 2 ∧ u.pins.keyOut = false ∧
    u.ctl = { s.ctl with role := .alongside } ∧ u.twn.key.gaveUp = some (3, max s.now t) ∧ u.rdBit Reg.TWN_EVENT 7 = true) ∧
  (∀ t s, s.twn.ho.phase = 2 → s.twn.ho.incoming = true → s.ctl.mode = .service → s.hoInstant ≤ ((s.at t).deviceTime : Int) →
    ∃ u, exec (.handoverInstant t) s = .next u ∧ u.twn.ho.phase = 3 ∧ u.twn.ho.status = 2 ∧ u.pins = s.pins ∧ u.ctl = s.ctl ∧
    u.rdBit Reg.TWN_EVENT 7 = true) ∧
  (∀ t s v, s.twn.lowSince = some v → s.rdBit Reg.TWN_CFG 1 = true → s.ctl.role = .keyholder → s.ctl.mode = .service →
    (s.at t).score < 500 → v + 10000000000 ≤ max s.now t → ∃ u, exec (.yield t) s = .next u ∧ u.pins.keyOut = false ∧
    u.ctl = { s.ctl with role := .follower } ∧ u.twn.key.gaveUp = some (4, max s.now t) ∧ u.twn.lowSince = none ∧ u.dram = s.dram)

/-- HEARTBEAT_SEND, HEARTBEAT, WALL_DOWN (R205, R219–R221). For a device whose closing claim does not run and that is in SERVICE. -/
def Obligations.heartbeats_keep_the_wall : Prop :=
  (∀ t s, s.wallRuns = true → s.twn.wall.locked ≠ 0 → s.twn.wall.unacked.length < 256 → s.twn.wall.queue = [] →
    ∃ u, exec (.heartbeatSend t) s = .next u ∧ u.twn.wall.hbCount = (s.twn.wall.hbCount + 1) % 4294967296 ∧
    u.twn.wall.txBseq = (s.twn.wall.txBseq + 1) % 16777216 ∧ u.out = s.out ++ [.wall (.heartbeat (s.at t).ownHeartbeat)] ∧ u.ctl = s.ctl ∧
    u.pins = s.pins ∧ u.regs = s.regs ∧ u.dram = s.dram) ∧
  (∀ t hb s, s.wallRuns = true → hb.pairId = s.pairId → s.ctl.mode = .service → s.ctl.role = .keyholder → s.twn.key.closing = false →
    ∃ u, exec (.heartbeat t hb) s = .next u ∧ u.twn.wall.up = true ∧ u.twn.wall.lastHb = max s.now t ∧ u.twn.wall.peer = some hb ∧
    u.rdFld Reg.TWN_SCORE 25 16 = hb.score % 1024 ∧ (s.twn.wall.up = false → u.twn.wall.upAt = max s.now t ∧
    u.rdBit Reg.TWN_EVENT 4 = true) ∧ (hb.keyOut = false → hb.claiming = false → u.twn.key.peerIdle = some (max s.now t)) ∧ u.ctl = s.ctl ∧
    u.pins = s.pins ∧ u.dram = s.dram) ∧
  (∀ t hb s, s.wallRuns = true → hb.pairId ≠ s.pairId → (s.rd Reg.TWN_CNT_BLOCK_CRC).toNat + 1 < 4294967296 →
    ∃ u, exec (.heartbeat t hb) s = .next u ∧ u.rd Reg.TWN_CNT_BLOCK_CRC = BitVec.ofNat 32 ((s.rd Reg.TWN_CNT_BLOCK_CRC).toNat + 1) ∧
    u.twn = s.twn ∧ u.ctl = s.ctl ∧ u.pins = s.pins ∧ (∀ a, a ≠ Reg.TWN_CNT_BLOCK_CRC → u.rd a = s.rd a)) ∧
  (∀ t s, s.twn.wall.up = true → s.twn.wall.lastHb + 300000 ≤ max s.now t → s.ctl.mode = .service → s.twn.key.closing = false →
    (s.at t).heartbeatArrives = false → ∃ u, exec (.wallDown t) s = .next u ∧ u.twn.wall.up = false ∧ u.twn.wall.peer = none ∧
    u.twn.wall.unacked = [] ∧ u.twn.wall.queue = [] ∧ u.twn.following = false ∧ u.rdFld Reg.TWN_SCORE 25 16 = 0 ∧ (∀ a, a ∈ List.range 32 →
    u.rd (Reg.TWN_PEER_HEALTH a) = 0) ∧ u.rdBit Reg.TWN_EVENT 3 = true ∧ u.ctl = s.ctl ∧ u.pins = s.pins ∧ u.dram = s.dram) ∧
  (∀ t s, max s.now t < s.twn.wall.lastHb + 300000 → exec (.wallDown t) s = .next (s.at t))

/-- WALL_BLOCK_RECEIVE, RESEND, WALL_RESEND_TIMEOUT, WALL_REBOND (R214–R218). Over one bonded lane; the fragment is of a type the engine keeps and not its message's last. -/
def Obligations.wall_blocks_go_back_n : Prop :=
  (∀ t ack f s, s.oneLane = true → s.twn.wall.rxOpen = none → 8 ≤ f.length → f.length ≤ 4096 → beAt f 2 2 = f.length →
    (byteAt f 1).testBit 0 = false → firmwareType (byteAt f 0) = false → s.twn.wall.rxNext < 16777216 →
    ∃ u, exec (.wallBlockReceive t ⟨[wallBlocks s.twn.wall.rxNext ack f], [], []⟩) s = .next u ∧
    u.twn.wall.rxNext = (s.twn.wall.rxNext + 1) % 16777216 ∧ u.twn.wall.discarding = false ∧ u.twn.wall.rxOpen = none ∧
    Tab.get [] u.twn.wall.rxParts (beAt f 4 4) = Tab.get [] s.twn.wall.rxParts (beAt f 4 4) ++ f.drop 8 ∧ u.twn.key = s.twn.key ∧
    u.ctl = s.ctl ∧ u.pins = s.pins ∧ u.regs = s.regs ∧ u.dram = s.dram) ∧
  (∀ t bseq ack f s, s.oneLane = true → s.twn.wall.rxOpen = none → 8 ≤ f.length → f.length ≤ 4096 → bseq < 16777216 →
    bseq ≠ s.twn.wall.rxNext → s.twn.wall.discarding = false → (s.rd Reg.TWN_CNT_BLOCK_CRC).toNat + 1 < 4294967296 →
    ∃ u, exec (.wallBlockReceive t ⟨[wallBlocks bseq ack f], [], []⟩) s = .next u ∧ u.twn.wall.rxNext = s.twn.wall.rxNext ∧
    u.twn.wall.rxParts = s.twn.wall.rxParts ∧ u.twn.wall.discarding = true ∧ u.out = s.out ++ [.wall (.resend s.twn.wall.rxNext)] ∧
    u.rd Reg.TWN_CNT_BLOCK_CRC = BitVec.ofNat 32 ((s.rd Reg.TWN_CNT_BLOCK_CRC).toNat + 1) ∧ (∀ a, a ≠ Reg.TWN_CNT_BLOCK_CRC →
    u.rd a = s.rd a) ∧ u.ctl = s.ctl) ∧
  (∀ t q ack d crc s, s.oneLane = true → s.twn.wall.rxOpen = some (q, ack, d) → d ≠ [] → crc < 4294967296 → crc32 d ≠ crc →
    s.twn.wall.discarding = false → (s.rd Reg.TWN_CNT_BLOCK_CRC).toNat + 1 < 4294967296 →
    ∃ u, exec (.wallBlockReceive t ⟨[[control ([0xB4, 8] ++ toBe 4 crc ++ [0, 0])]], [], []⟩) s = .next u ∧
    u.twn.wall.rxNext = s.twn.wall.rxNext ∧ u.twn.wall.rxOpen = none ∧ u.twn.wall.discarding = true ∧
    u.out = s.out ++ [.wall (.resend s.twn.wall.rxNext)] ∧
    u.rd Reg.TWN_CNT_BLOCK_CRC = BitVec.ofNat 32 ((s.rd Reg.TWN_CNT_BLOCK_CRC).toNat + 1) ∧ u.ctl = s.ctl) ∧
  (∀ t b s, s.oneLane = true → s.twn.wall.rxOpen = none → s.twn.wall.rxStray = false → s.twn.wall.discarding = false →
    (s.rd Reg.TWN_CNT_BLOCK_CRC).toNat + 1 < 4294967296 → ∃ u, exec (.wallBlockReceive t ⟨[[⟨1, b⟩]], [], []⟩) s = .next u ∧
    u.twn.wall.rxStray = true ∧ u.twn.wall.discarding = true ∧
    u.rd Reg.TWN_CNT_BLOCK_CRC = BitVec.ofNat 32 ((s.rd Reg.TWN_CNT_BLOCK_CRC).toNat + 1) ∧ u.ctl = s.ctl) ∧
  (∀ t ty n s, s.oneLane = true → ty ∉ [0xA5, 0xB4, 0xC3, 0x1E, 0x66] → ty < 256 → (s.rd (Reg.LAN_CNT_RM_DEL 1024)).toNat + n < 4294967296 →
    (s.rd Reg.TWN_CNT_BLOCK_CRC).toNat + 1 < 4294967296 →
    ∃ u, exec (.wallBlockReceive t ⟨[[control (BitVec.ofNat 8 ty :: List.replicate 7 0)]], [n], []⟩) s = .next u ∧
    u.rd (Reg.LAN_CNT_RM_DEL 1024) = BitVec.ofNat 32 ((s.rd (Reg.LAN_CNT_RM_DEL 1024)).toNat + n) ∧
    u.rd Reg.TWN_CNT_BLOCK_CRC = BitVec.ofNat 32 ((s.rd Reg.TWN_CNT_BLOCK_CRC).toNat + 1) ∧ u.twn.wall.rxNext = s.twn.wall.rxNext ∧
    u.twn.wall.discarding = s.twn.wall.discarding ∧ u.ctl = s.ctl ∧ u.pins = s.pins) ∧
  (∀ t bseq s, ∃ u, exec (.resend t bseq) s = .next u ∧ u.twn.wall.unacked.map SentBlock.bseq = s.twn.wall.unacked.map SentBlock.bseq ∧
    u.out = s.out ++ (s.twn.wall.unacked.filter fun e => seqBefore bseq e.bseq).map (fun e => .wall (.block e.bseq)) ∧
    u.twn.wall.rxNext = s.twn.wall.rxNext ∧ u.ctl = s.ctl ∧ u.pins = s.pins ∧ u.dram = s.dram) ∧
  (∀ t s b rest, s.twn.wall.unacked = b :: rest → b.at_ + 20000 ≤ max s.now t → ∃ u, exec (.wallResendTimeout t) s = .next u ∧
    u.twn.wall.unacked = s.twn.wall.unacked.map (fun e => { e with at_ := max s.now t }) ∧
    u.out = s.out ++ s.twn.wall.unacked.map (fun e => .wall (.block e.bseq)) ∧ u.ctl = s.ctl ∧ u.pins = s.pins ∧ u.dram = s.dram) ∧
  (∀ t lane s, lane < 8 → s.twn.wall.locked.testBit lane = false → ∃ u, exec (.wallRebond t lane true) s = .next u ∧
    u.twn.wall.locked = s.twn.wall.locked + 2 ^ lane ∧ u.twn.wall.unacked.map SentBlock.bseq = s.twn.wall.unacked.map SentBlock.bseq ∧
    u.ctl = s.ctl ∧ u.pins = s.pins ∧ u.dram = s.dram) ∧
  (∀ t lane s, lane < 8 → s.twn.wall.locked.testBit lane = true → ∃ u, exec (.wallRebond t lane false) s = .next u ∧
    u.twn.wall.locked = s.twn.wall.locked - 2 ^ lane ∧ u.twn.wall.unacked.map SentBlock.bseq = s.twn.wall.unacked.map SentBlock.bseq ∧
    u.ctl = s.ctl ∧ u.pins = s.pins ∧ u.dram = s.dram)

/-- DECISION and TAKE_ORDER (R119, R222, R227, R237). -/
def Obligations.follower_takes_orders_and_decisions : Prop :=
  (∀ t s d, s.twn.wall.up = true → s.ctl.mode = .service ∨ s.ctl.mode = .join → s.ctl.role = .follower → s.joining = false → d.kind = 1 ∨
    (d.kind = 2 ∧ ((s.at t).deviceTime : Int) ≤ (s.at t).cmpReadStart (d.index / 16) d.at_) → ∃ u, exec (.decision t [d]) s = .next u ∧
    u.twn.decisions = s.twn.decisions ++ [d] ∧ u.twn.following = true ∧ u.ctl = s.ctl ∧ u.pins = s.pins ∧ u.xpt = s.xpt ∧ u.regs = s.regs ∧
    u.dram = s.dram) ∧
  (∀ t s recs, s.twn.wall.up = true → s.joining = true → ∃ u, exec (.decision t recs) s = .next u ∧
    u.twn.decisions = s.twn.decisions ++ recs ∧ u.xpt = s.xpt ∧ u.ctl = s.ctl ∧ u.regs = s.regs) ∧
  (∀ t s o, s.twn.wall.up = true → s.ctl.mode = .service ∨ s.ctl.mode = .join → s.ctl.role = .follower → s.joining = false → o.order = 0 →
    ∃ u, exec (.takeOrder t o) s = .next u ∧ (u.xpt.vcom, u.xpt.acom) = s.tablesAfter o.gen o.entries ∧
    u.rd Reg.XPT_GEN_COMMITTED = BitVec.ofNat 32 o.gen ∧
    u.xpt.pending = s.xpt.pending ++ [⟨0, o.gen, (s.at t).heldFrames o, ((s.at t).heldFrames o).map Prod.fst, o.entries, [], none, o.commit⟩] ∧
    u.xpt.vout = s.xpt.vout ∧ u.ctl = s.ctl ∧ u.pins = s.pins ∧ u.dram = s.dram) ∧
  (∀ t s o, s.twn.wall.up = true → s.joining = true → ∃ u, exec (.takeOrder t o) s = .next u ∧ u.twn.orders = s.twn.orders ++ [o] ∧
    u.xpt = s.xpt ∧ u.ctl = s.ctl ∧ u.regs = s.regs) ∧
  (∀ t s o recs, s.twn.wall.up = false ∨ (s.ctl.role ≠ .follower ∧ s.twn.join.active = false) → exec (.decision t recs) s = .next (s.at t) ∧
    exec (.takeOrder t o) s = .next (s.at t))

/-- DIGEST_SEND, DIGEST, DIGEST_MISSING (R235). -/
def Obligations.digests_find_divergence : Prop :=
  (∀ t tg frame s, s.digests = true → s.tgUsed tg = true → s.twn.peerDigests = [] → ∃ u, exec (.digestSend t tg frame) s = .next u ∧
    u.twn.ownDigests = s.twn.ownDigests ++ [⟨tg, frame, (s.at t).sdiRecs tg frame ++ (s.at t).txcRecs tg frame ++ (s.at t).tdmRecs tg frame, max s.now t⟩] ∧
    u.xpt = s.xpt ∧ u.ctl = s.ctl ∧ u.regs = s.regs ∧ u.dram = s.dram) ∧
  (∀ t tg frame recs s, s.digests = true → s.twn.ownDigests.find? (isSet tg frame) = none →
    ∃ u, exec (.digest t tg frame recs) s = .next u ∧ u.twn.peerDigests = s.twn.peerDigests ++ [⟨tg, frame, recs, max s.now t⟩] ∧
    u.ctl = s.ctl ∧ u.regs = s.regs) ∧
  (∀ t tg frame r own tm s, s.digests = true → s.twn.ownDigests = [⟨tg, frame, [own], tm⟩] → r.kind = own.kind → r.id = own.id →
    r.crc = own.crc → ∃ u, exec (.digest t tg frame [r]) s = .next u ∧ u.twn.ownDigests = [] ∧ u.flt = s.flt ∧ u.ctl = s.ctl ∧
    u.regs = s.regs) ∧
  (∀ t tg frame r own tm s, s.digests = true → s.ctl.role = .keyholder → s.twn.ownDigests = [⟨tg, frame, [own], tm⟩] → r.kind = own.kind →
    r.id = own.id → r.crc ≠ own.crc → r.dark = false → own.dark = false → r.localCause = false → own.localCause = false →
    ∃ u, exec (.digest t tg frame [r]) s = .next u ∧
    (⟨max s.now t, 0x012, 0x41, own.kind % 4 * 1073741824 + own.id % 65536, 2⟩ : FaultMsg) ∈ u.flt.inbox ∧
    u.rdFld Reg.TWN_LAST_DIV 15 0 = own.id % 65536 ∧ u.rdBit Reg.TWN_EVENT 5 = true ∧ u.twn.divergentAt = some (max s.now t) ∧
    u.ctl = s.ctl ∧ u.pins = s.pins ∧ u.dram = s.dram) ∧
  (∀ t tg frame d s, s.twn.ownDigests.find? (isSet tg frame) = some d → d.time + 5000000 ≤ max s.now t →
    (s.rd Reg.TWN_CNT_DIGEST_MISSING).toNat + 1 < 4294967296 → ∃ u, exec (.digestMissing t tg frame) s = .next u ∧
    u.twn.ownDigests.find? (isSet tg frame) = none ∧
    u.rd Reg.TWN_CNT_DIGEST_MISSING = BitVec.ofNat 32 ((s.rd Reg.TWN_CNT_DIGEST_MISSING).toNat + 1) ∧ (∀ a, a ≠ Reg.TWN_CNT_DIGEST_MISSING →
    u.rd a = s.rd a) ∧ u.ctl = s.ctl)

/-- ARBITRATE, ARBITRATE_MSG, SELFTEST_DONE, HEALTH_SEND, HEALTH (R236, R244, R245). EVENT of the command is a free value (log 2). -/
def Obligations.arbitration_moves_the_key_only_from_a_failing_keyholder : Prop :=
  (∀ t s, s.digests = true → s.twn.arb.running = none → s.twn.arb.last = none → s.twn.wall.upAt + 1000000000 ≤ max s.now t →
    ∃ u, exec (.arbitrate t Config.confirm) s = .next u ∧ u.twn.arb.running = some (max s.now t) ∧ u.twn.arb.last = some (max s.now t) ∧
    u.twn.arb.own = none ∧ u.twn.arb.peer = none ∧ u.ctl = s.ctl ∧ u.pins = s.pins ∧ u.dram = s.dram) ∧
  (∀ t result event units inputs s, s.digests = true → s.twn.arb.running = none → s.twn.arb.last = none →
    s.twn.wall.upAt + 1000000000 ≤ max s.now t → ∃ u, exec (.arbitrateMsg t 1 result event units inputs) s = .next u ∧
    u.twn.arb.running = some (max s.now t) ∧ u.twn.arb.event = event % 4294967296 ∧ u.ctl = s.ctl ∧ u.pins = s.pins ∧ u.out = s.out) ∧
  (∀ t event inputs s v, s.digests = true → s.ctl.role = .keyholder → s.twn.arb.running = some v → s.twn.arb.own = some 1 →
    s.twn.arb.peer = none → ∃ u, exec (.arbitrateMsg t 2 0 event 0 inputs) s = .next u ∧ u.pins.keyOut = false ∧
    u.ctl = { s.ctl with role := .follower } ∧ u.twn.key.gaveUp = some (2, max s.now t) ∧ u.twn.arb.running = none ∧
    u.rdBit Reg.TWN_EVENT 6 = true) ∧
  (∀ t units inputs s v, s.twn.arb.running = some v → s.twn.arb.own = none → s.twn.arb.peer = none → units % 4294967296 ≠ 0 →
    ∃ u, exec (.selftestDone t units inputs) s = .next u ∧ u.twn.arb.own = some 1 ∧ u.twn.arb.capped = true ∧
    (⟨max s.now t, 0x080, 0x44, units % 4294967296, 3⟩ : FaultMsg) ∈ u.flt.inbox ∧ u.ctl = s.ctl ∧ u.pins = s.pins ∧ u.regs = s.regs) ∧
  (∀ t units inputs s v, s.twn.arb.running = some v → s.twn.arb.own = none → s.twn.arb.peer = none → units % 4294967296 = 0 →
    ∃ u, exec (.selftestDone t units inputs) s = .next u ∧ u.twn.arb.own = some 0 ∧ u.twn.arb.capped = s.twn.arb.capped ∧ u.flt = s.flt ∧
    u.ctl = s.ctl ∧ u.pins = s.pins ∧ u.regs = s.regs) ∧
  (∀ t s, s.wallRuns = true → s.twn.wall.up = true → s.twn.wall.unacked.length < 256 → s.twn.wall.queue = [] →
    ∃ u, exec (.healthSend t) s = .next u ∧ u.twn.lastHealth = max s.now t ∧ u.twn.wall.txBseq = (s.twn.wall.txBseq + 1) % 16777216 ∧
    u.ctl = s.ctl ∧ u.pins = s.pins ∧ u.regs = s.regs ∧ u.dram = s.dram) ∧
  (∀ t score capped words s, s.twn.wall.up = true → ∃ u, exec (.health t score capped words) s = .next u ∧
    u.rdFld Reg.TWN_SCORE 25 16 = score % 1024 ∧ (∀ a, a ∈ List.range 32 →
    u.rd (Reg.TWN_PEER_HEALTH a) = BitVec.ofNat 32 (words.getD a 0)) ∧ u.ctl = s.ctl ∧ u.pins = s.pins ∧ u.dram = s.dram)

/-- STATE_REQUEST, STATE, JOIN_COMPLETE, JOIN_RETRY_TIMEOUT, RESYNC (R237, R239, R243). -/
def Obligations.state_transfer_leads_to_following : Prop :=
  (∀ t s, s.ctl.role = .keyholder → s.ctl.mode = .service → s.twn.wall.up = true → s.twn.wall.unacked = [] → s.twn.wall.queue = [] →
    ∃ u, exec (.stateRequest t) s = .next u ∧ u.twn.wall.msgId = (s.twn.wall.msgId + (s.at t).sections.length) % 4294967296 ∧
    u.out = s.out ++ ((s.at t).sections.map fun x => Output.wall (.state x)).take (u.out.length - s.out.length) ∧ (u.twn.wall.queue = [] →
    u.out = s.out ++ (s.at t).sections.map fun x => Output.wall (.state x)) ∧ u.ctl = s.ctl ∧ u.pins = s.pins ∧ u.xpt = s.xpt ∧
    u.regs = s.regs ∧ u.dram = s.dram) ∧
  (∀ t s sec, s.joining = true → s.twn.wall.up = true → sectionNo sec ≠ 0 → s.twn.join.received = [] →
    ∃ u, exec (.state t sec) s = .next u ∧ u.twn.join.received = [sec] ∧ u.twn.join.applied = false ∧ u.xpt = s.xpt ∧ u.ctl = s.ctl ∧
    u.pins = s.pins ∧ u.regs = s.regs ∧ u.dram = s.dram) ∧
  (∀ t s gc ga tj, s.joining = true → s.twn.wall.up = true →
    s.twn.join.received = [.videoCommitted ((List.replicate 5 [264245184, 0, 0, 0]).flatten ++ [524295, 65545, 1, 0]), .audioCommitted [], .orders [], .placement [], .live [], .compositors [], .lintel 0 0 [], .streams [] [], .senders [] [], .videoOnAir ((List.replicate 5 [264245184, 0, 0, 0]).flatten ++ [524295, 65545, 1, 0]), .audioOnAir []] →
    s.twn.orders = [] → s.twn.decisions = [] → ∃ u, exec (.state t (.instant tj gc ga)) s = .next u ∧
    u.xpt.vcom = [(5, ⟨7, 8, 9, true, 1⟩)] ∧ u.xpt.vout = [(5, ⟨7, 8, 9, true, 1⟩)] ∧ u.xpt.acom = [] ∧
    u.rd Reg.XPT_GEN_COMMITTED = BitVec.ofNat 32 gc ∧ u.rd Reg.XPT_GEN_ONAIR = BitVec.ofNat 32 ga ∧ u.twn.join.applied = true ∧
    u.ctl = s.ctl ∧ u.pins = s.pins) ∧
  (∀ t s, s.ctl.mode = .join → s.twn.join.active = true → s.twn.join.applied = true → s.twn.join.toFill = [] → s.twn.join.toRebuild = [] →
    ∃ u, exec (.joinComplete t) s = .next u ∧ u.ctl.mode = .service ∧ u.ctl.role = .follower ∧ u.twn.join.active = false ∧
    u.twn.following = true ∧ u.twn.resyncPending = false ∧ u.pins = s.pins ∧ u.xpt = s.xpt) ∧
  (∀ t s, s.twn.join.applied = false ∨ s.twn.join.toFill ≠ [] ∨ s.twn.join.toRebuild ≠ [] → exec (.joinComplete t) s = .next (s.at t)) ∧
  (∀ t s, s.joining = true → s.twn.join.requestedAt + 500000000 ≤ max s.now t → (s.at t).stateArrives = false →
    ∃ u, exec (.joinRetryTimeout t) s = .next u ∧ u.twn.join.active = true ∧ u.twn.join.requestedAt = max s.now t ∧
    u.twn.join.attempts = s.twn.join.attempts + 1 ∧ u.twn.join.received = [] ∧ (s.twn.join.attempts = 3 → u.rdBit Reg.TWN_EVENT 11 = true ∧
    (⟨max s.now t, 0x080, 0x45, 3, 3⟩ : FaultMsg) ∈ u.flt.inbox) ∧ u.ctl = s.ctl ∧ u.pins = s.pins ∧ u.dram = s.dram) ∧
  (∀ t s, s.ctl.role = .follower → s.ctl.mode = .service → s.twn.wall.up = true → ∃ u, exec (.resync t Config.confirm) s = .next u ∧
    u.twn.lit = 0 ∧ u.twn.resyncPending = true ∧ u.twn.following = false ∧ u.twn.join.active = true ∧ u.twn.join.resync = true ∧
    u.twn.join.applied = false ∧ u.ctl = s.ctl ∧ u.pins = s.pins ∧ u.regs = s.regs ∧ u.dram = s.dram)

/-- PW_MAILBOX_FRAGMENT, PWMBX_GO, PWMBX_FREE, PW_FRAGMENT_ACKED, REPLY_RELAY (R208, R226, R439). -/
def Obligations.wall_mailbox_and_relay : Prop :=
  (∀ t data s b, 8 ≤ data.length → data.length ≤ 4096 → s.pwmbx.backlog = [] → b < 8 → b ∉ s.pwmbx.full →
    ∀ k ∈ List.range b, k ∈ s.pwmbx.full → ∃ u, exec (.pwMailboxFragment t data) s = .next u ∧ u.pwmbx.full = s.pwmbx.full ++ [b] ∧
    Tab.bytes 0 u.pwmbx.bytes (0x8000 + 0x1000 * b) data.length = data ∧ u.pwmbx.held = s.pwmbx.held ∧ u.pwmbx.backlog = [] ∧
    u.ctl = s.ctl ∧ u.regs = s.regs ∧ u.dram = s.dram) ∧
  (∀ t data s, 8 ≤ data.length → data.length ≤ 4096 → s.pwmbx.backlog = [] → ∀ k ∈ List.range 8, k ∈ s.pwmbx.full →
    ∃ u, exec (.pwMailboxFragment t data) s = .next u ∧ u.pwmbx = { s.pwmbx with backlog := [data] } ∧ u.ctl = s.ctl ∧ u.regs = s.regs ∧
    u.dram = s.dram) ∧
  (∀ t b s, b < 8 → b ∉ s.pwmbx.held → s.twn.wall.unacked.length < 256 → s.twn.wall.queue = [] →
    ∃ u, exec (.pwmbxGo t (2 ^ b)) s = .next u ∧ u.pwmbx.held = s.pwmbx.held ++ [b] ∧
    u.out = s.out ++ [.wall (.fragment (s.pwFragment b))] ∧ u.pwmbx.full = s.pwmbx.full ∧ u.pwmbx.bytes = s.pwmbx.bytes ∧ u.regs = s.regs ∧
    u.dram = s.dram) ∧
  (∀ t v s, s.pwmbx.backlog = [] → ∃ u, exec (.pwmbxFree t v) s = .next u ∧
    u.pwmbx = { s.pwmbx with full := s.pwmbx.full.filter fun b => !v.testBit b } ∧ u.regs = s.regs ∧ u.dram = s.dram) ∧
  (∀ t b s, ∃ u, exec (.pwFragmentAcked t b) s = .next u ∧ u.pwmbx = { s.pwmbx with held := s.pwmbx.held.filter (· != b) } ∧
    u.regs = s.regs ∧ u.ctl = s.ctl ∧ u.dram = s.dram) ∧
  (∀ t ip udp g data s, s.ctl.role = .keyholder → s.twn.wall.up = true → s.pins.keyOut = true → s.pins.keyIn = false → g < 2 →
    ∃ u, exec (.replyRelay t ip udp g data) s = .next u ∧ u.out = s.out ++ [.fratin (.mgt g) ip udp data] ∧ u.ctl = s.ctl ∧ u.twn = s.twn ∧
    u.regs = s.regs ∧ u.dram = s.dram) ∧
  (∀ t ip udp g data s, s.gateOpen = false → exec (.replyRelay t ip udp g data) s = .next (s.at t))

/-- CANDIDATE_MEASURE, CANDIDATE_QUALIFIED, CANDIDATE_LOSS, CANDIDATE_GLITCH, CANDIDATE_RATE_CHANGE, CANDIDATE_RETURN (R253–R256). The frequency a loop filter gives is a free value (log 2). -/
def Obligations.candidates_qualify_and_fall : Prop :=
  (∀ t g k off mark s, s.tgUsed g = true → k ≤ 3 → s.candKind g k ≠ 0 → s.candKind g k ≠ 5 → ((s.grp g).cand k).present = true →
    ((s.grp g).cand k).measureDue (max s.now t) = true → (s.at t).serviceFalls = false →
    ∃ u, exec (.candidateMeasure t g k off mark) s = .next u ∧
    ((u.grp g).cand k).means = (((max s.now t, off) :: ((s.grp g).cand k).means).filter fun m => decide (max s.now t < m.1 + 10000000000)) ∧
    ((u.grp g).cand k).phi = (s.at t).phaseError g k mark ∧ (s.candFits g k = false → ((u.grp g).cand k).qualified = false) ∧
    (u.grp g).frame = (s.grp g).frame ∧ (u.grp g).start = (s.grp g).start ∧ (∀ a, a ≠ g → u.grp a = s.grp a) ∧ u.dram = s.dram) ∧
  (∀ t g k s, s.tgUsed g = true → k ≤ 3 → s.candKind g k ≠ 0 → s.candKind g k ≠ 5 → ((s.grp g).cand k).present = true →
    ((s.grp g).cand k).qualified = false → s.candFits g k = true →
    max ((s.grp g).cand k).presentSince ((s.grp g).cand k).cleanSince + 60000000000 ≤ max s.now t → (s.at t).candFaultFalls g k = false →
    ∃ u, exec (.candidateQualified t g k) s = .next u ∧ ((u.grp g).cand k).qualified = true ∧ ((u.grp g).cand k).cause = 0 ∧
    (u.grp g).frame = (s.grp g).frame ∧ (u.grp g).start = (s.grp g).start ∧ (∀ a, a ≠ g → u.grp a = s.grp a) ∧ u.dram = s.dram) ∧
  (∀ t g k s, max s.now t < max ((s.grp g).cand k).presentSince ((s.grp g).cand k).cleanSince + 60000000000 →
    exec (.candidateQualified t g k) s = .next (s.at t)) ∧
  (∀ t g k s, s.tgUsed g = true → k ≤ 3 → s.candKind g k ≠ 0 → s.candKind g k ≠ 5 → (s.at t).serviceFalls = false →
    ∃ u, exec (.candidateLoss t g k) s = .next u ∧ ((u.grp g).cand k).qualified = false ∧ ((u.grp g).cand k).present = false ∧
    ((u.grp g).cand k).lost = true ∧ ((u.grp g).cand k).cause = 1 ∧ (u.grp g).frame = (s.grp g).frame ∧ (u.grp g).start = (s.grp g).start ∧
    (∀ a, a ≠ g → u.grp a = s.grp a) ∧ u.dram = s.dram) ∧
  (∀ t g k s, s.tgUsed g = true → k ≤ 3 → s.candKind g k ≠ 0 → s.candKind g k ≠ 5 → (s.at t).serviceFalls = false →
    ∃ u, exec (.candidateGlitch t g k) s = .next u ∧ ((u.grp g).cand k).qualified = false ∧
    ((u.grp g).cand k).present = ((s.grp g).cand k).present ∧ ((u.grp g).cand k).cause = 2 ∧ (u.grp g).frame = (s.grp g).frame ∧
    (∀ a, a ≠ g → u.grp a = s.grp a) ∧ u.dram = s.dram) ∧
  (∀ t g k s, s.tgUsed g = true → k ≤ 3 → s.candKind g k ≠ 0 → s.candKind g k ≠ 5 → (s.at t).serviceFalls = false →
    ∃ u, exec (.candidateRateChange t g k) s = .next u ∧ ((u.grp g).cand k).qualified = false ∧ ((u.grp g).cand k).present = false ∧
    ((u.grp g).cand k).cause = 3 ∧ (u.grp g).frame = (s.grp g).frame ∧ (∀ a, a ≠ g → u.grp a = s.grp a) ∧ u.dram = s.dram) ∧
  (∀ t g k s, s.tgUsed g = true → k ≤ 3 → s.candKind g k ≠ 0 → s.candKind g k ≠ 5 → ((s.grp g).cand k).present = false →
    ∃ u, exec (.candidateReturn t g k) s = .next u ∧ ((u.grp g).cand k).present = true ∧ ((u.grp g).cand k).presentSince = max s.now t ∧
    ((u.grp g).cand k).lost = false ∧ ((u.grp g).cand k).qualified = ((s.grp g).cand k).qualified ∧ ((u.grp g).cand k).means = [] ∧
    (u.grp g).frame = (s.grp g).frame ∧ (∀ a, a ≠ g → u.grp a = s.grp a) ∧ u.dram = s.dram)

/-- GROUP_ACQUIRE, DPLL_LOCKED, DPLL_LEAVES_LOCKED, FRAME_OUT_PULSE, TG_REALIGN, REALIGN_APPLY (R258–R265). That the group pulls again after leaving LOCKED is the model's choice (log 20). -/
def Obligations.groups_acquire_lock_and_pulse : Prop :=
  (∀ t g target s k, s.ctl.entered = false → s.tgUsed g = true → (s.grp g).acquired = false → (s.at t).acquirable g = some k →
    ∃ u, exec (.groupAcquire t g target) s = .next u ∧ (u.grp g).acquired = true ∧ (u.grp g).active = some k ∧
    ((u.grp g).cand k).qualified = true ∧ (u.grp g).frame = s.nearestFrame g (u.grp g).start.toNat ∧
    (u.grp g).start = ((s.candTarget g k target : Nat) : Int) ∧ (∀ a, a ≠ g → u.grp a = s.grp a) ∧ u.dram = s.dram) ∧
  (∀ t g target s, s.ctl.entered = true ∨ (s.grp g).acquired = true → exec (.groupAcquire t g target) s = .next (s.at t)) ∧
  (∀ t g mark s, s.tgUsed g = true → (s.grp g).active.isSome = true → ((s.at t).activeError g mark).natAbs ≤ 20 →
    (s.at t).switchesNow g = false → ∃ u, exec (.dpllLocked t g mark) s = .next u ∧ (u.grp g).locked = true ∧ (u.grp g).pulling = false ∧
    (u.grp g).phi = (s.at t).activeError g mark ∧ (u.grp g).frame = (s.grp g).frame ∧ (u.grp g).start = (s.grp g).start ∧ (∀ a, a ≠ g →
    u.grp a = s.grp a) ∧ u.dram = s.dram) ∧
  (∀ t g mark s, s.tgUsed g = true → (s.grp g).active.isSome = true → (s.grp g).locked = true → 100 < ((s.at t).activeError g mark).natAbs →
    ∃ u, exec (.dpllLeavesLocked t g mark) s = .next u ∧ (u.grp g).locked = false ∧ (u.grp g).phi = (s.at t).activeError g mark ∧
    (u.grp g).frame = (s.grp g).frame ∧ (u.grp g).start = (s.grp g).start ∧ (∀ a, a ≠ g → u.grp a = s.grp a) ∧ u.dram = s.dram) ∧
  (∀ t g s, s.tgUsed g = true → (s.grp g).acquired = true → s.gateOpen = true →
    ((s.grp g).frame : Int) = (s.rdFld (Reg.TG_FO_STATUS g) 28 26 : Int) → ∃ u, exec (.frameOutPulse t g) s = .next u ∧
    u.out = s.out ++ [.pulse g ((s.grp g).start + (s.rdFld (Reg.TG_FO_STATUS g) 25 0 : Int)).toNat (1000 * s.rdFld (Reg.TG_FO_WIDTH g) 9 0)] ∧
    u.tmg = s.tmg ∧ u.regs = s.regs ∧ u.dram = s.dram) ∧
  (∀ t g s, s.pins.keyOut = false ∨ s.pins.keyIn = true → exec (.frameOutPulse t g) s = .next (s.at t)) ∧
  (∀ t mask s, ∃ u, exec (.tgRealign t Config.confirm mask) s = .next u ∧ (∀ a, a < 16 →
    (u.grp a).realign = (if mask / 2 ^ a % 2 = 1 then some (max s.now t) else (s.grp a).realign)) ∧
    (∀ a, (u.grp a).frame = (s.grp a).frame) ∧ u.regs = s.regs ∧ u.dram = s.dram) ∧
  (∀ t g s w, s.tgUsed g = true → (s.grp g).realign = some (w : Nat) → w + 1000000 ≤ max s.now t → (s.at t).frameStarts g = true ∨
    ((w : Nat) : Int) + 1000000 + (((s.at t).deviceTime : Int) - (s.grp g).start) ≤ ((max s.now t : Nat) : Int) →
    ∃ u, exec (.realignApply t g) s = .next u ∧ (u.grp g) = { s.grp g with realign := none } ∧
    u.rdFld (Reg.TG_FO_STATUS g) 25 0 = s.rdFld (Reg.TG_FO_CFG g) 25 0 % s.framePeriod g % 67108864 ∧ (∀ a, a ≠ g → u.grp a = s.grp a) ∧
    (∀ a, a ≠ Reg.TG_FO_STATUS g → u.rd a = s.rd a) ∧ u.dram = s.dram) ∧
  (∀ t g s w, (s.grp g).realign = some w → max s.now t < w + 1000000 → exec (.realignApply t g) s = .next (s.at t))

/-- VFS_REF_LOST, VFS_REF_REQUALIFIED, VFS_TRACKING_AGAIN, SYS_REF_LOST, LOOP_UNLOCK, LOOP_RELOCKED, LOOP_SHELTER_TIMEOUT, GUARD_TRIP, RELOCK, MDLL_LOCKED, MDLL_NO_LOCK, TX_STEER_LIMIT (R271–R284). -/
def Obligations.loops_and_references : Prop :=
  (∀ t v s, v ≤ 1 → s.vfsState v = 1 → ∃ u, exec (.vfsRefLost t v) s = .next u ∧ u.vfsState v = 2 ∧ u.refPresent v = false ∧
    (⟨max s.now t, 0x019, 0x05, v, 3⟩ : FaultMsg) ∈ u.flt.inbox ∧ u.rdBit Reg.SYN_EVENT (3 + v) = true ∧ u.ctl = s.ctl ∧ u.dram = s.dram) ∧
  (∀ t v ppm s, v ≤ 1 → ppm.natAbs ≤ 10000 → s.vfsState v = 2 → s.vfsMode v ≠ 0 → ∃ u, exec (.vfsRefRequalified t v ppm) s = .next u ∧
    u.refPresent v = true ∧ Tab.find? u.syn.retracking v = some (max s.now t + (ppm - Tab.get 0 s.syn.held v).natAbs * 200000) ∧
    u.vfsState v = 2 ∧ u.rdFld Reg.SYN_REF_PPM (15 + 16 * v) (16 * v) = ofSigned 16 ppm ∧ u.ctl = s.ctl ∧ u.flt = s.flt ∧ u.dram = s.dram) ∧
  (∀ t v s b, v ≤ 1 → Tab.find? s.syn.retracking v = some b → b ≤ max s.now t → ∃ u, exec (.vfsTrackingAgain t v) s = .next u ∧
    u.vfsState v = 1 ∧ Tab.find? u.syn.retracking v = none ∧ u.rdBit Reg.SYN_EVENT (5 + v) = true ∧ u.ctl = s.ctl ∧ u.flt = s.flt ∧
    u.dram = s.dram) ∧
  (∀ t s, ∃ u, exec (.sysRefLost t) s = .next u ∧ (⟨max s.now t, 0x019, 0x02, 0, 4⟩ : FaultMsg) ∈ u.flt.inbox ∧
    u.rdBit Reg.SYN_STATUS 31 = false ∧ u.rdBit (Reg.SYN_LOOP_STATUS 0) 30 = true ∧ (∀ a, a < 33 →
    u.rdBit (Reg.SYN_LOOP_STATUS a) 31 = false) ∧ u.ctl = s.ctl ∧ u.dram = s.dram) ∧
  (∀ t n err s, s.loopPresent n = true → s.rdBit (Reg.SYN_LOOP_STATUS n) 31 = true → s.ctl.mode = .service → 2 ≤ n ∧ n ≤ 5 →
    1000 < err.natAbs → ∃ u, exec (.loopUnlock t n err) s = .next u ∧ u.rdBit (Reg.SYN_LOOP_STATUS n) 31 = false ∧
    u.rdBit (Reg.SYN_LOOP_STATUS n) 30 = true ∧ Tab.find? u.syn.shelterAt n = some (max s.now t) ∧
    (⟨max s.now t, 0x019, 0x03, n, 3⟩ : FaultMsg) ∈ u.flt.inbox ∧ u.rdBit Reg.SYN_EVENT 0 = true ∧ u.ctl = s.ctl ∧ u.dram = s.dram) ∧
  (∀ t n err s, s.loopPresent n = true → s.rdBit (Reg.SYN_LOOP_STATUS n) 31 = true → s.ctl.mode = .service → 7 ≤ n ∧ n ≤ 14 →
    1000 < err.natAbs → ∃ u, exec (.loopUnlock t n err) s = .next u ∧ u.rdBit (Reg.SYN_LOOP_STATUS n) 31 = false ∧
    (⟨max s.now t, 0x019, 0x03, n, 4⟩ : FaultMsg) ∈ u.flt.inbox ∧ u.rdBit Reg.SYN_EVENT 0 = true ∧ u.ctl = s.ctl ∧ u.dram = s.dram) ∧
  (∀ t n s, n < 33 → s.loopPresent n = true → s.rdBit (Reg.SYN_LOOP_STATUS n) 31 = false ∨ s.rdBit (Reg.SYN_LOOP_STATUS n) 30 = true →
    (s.at t).badFalls n = false → Tab.get 0 s.syn.badAt n + 100000 ≤ max s.now t → ∃ u, exec (.loopRelocked t n) s = .next u ∧
    u.rdFld (Reg.SYN_LOOP_STATUS n) 31 29 = 4 ∧ Tab.find? u.syn.shelterAt n = none ∧ u.rdBit Reg.SYN_EVENT 1 = true ∧ u.ctl = s.ctl ∧
    u.flt = s.flt ∧ u.dram = s.dram) ∧
  (∀ t n s v, 2 ≤ n → n ≤ 5 → s.ctl.mode = .service → s.rdBit (Reg.SYN_LOOP_STATUS n) 30 = true → Tab.find? s.syn.shelterAt n = some v →
    v + 20000000 ≤ max s.now t → ∃ u, exec (.loopShelterTimeout t n) s = .next u ∧
    (⟨max s.now t, 0x019, 0x03, n, 4⟩ : FaultMsg) ∈ u.flt.inbox ∧ u.regs = s.regs ∧ u.ctl = s.ctl ∧ u.dram = s.dram) ∧
  (∀ t n s, n < 33 → s.loopPresent n = true → hasShelter n = true → ∃ u, exec (.guardTrip t n) s = .next u ∧
    u.rdFld (Reg.SYN_LOOP_STATUS n) 30 29 = 3 ∧ Tab.find? u.syn.shelterAt n = some (max s.now t) ∧ u.rdBit Reg.SYN_EVENT 2 = true ∧
    u.ctl = s.ctl ∧ u.flt = s.flt ∧ u.dram = s.dram) ∧
  (∀ t n s, 2 ≤ n → s.loopPresent n = true → hasShelter n = true → s.rwlLocked = false →
    ∃ u, exec (.relock t Config.confirm n) s = .next u ∧ u.rdBit (Reg.SYN_LOOP_STATUS n) 31 = false ∧
    u.rdBit (Reg.SYN_LOOP_STATUS n) 30 = true ∧ u.ctl = s.ctl ∧ u.flt = s.flt ∧ u.dram = s.dram) ∧
  (∀ t f s, 16 * f < s.dev.variant.lanes → s.rdFld (Reg.SYN_FURROW_CFG f) 3 2 ≠ 0 → s.rdBit (Reg.SYN_FURROW_STATUS f) 30 = true →
    ∃ u, exec (.mdllLocked t f) s = .next u ∧ u.rdFld (Reg.SYN_FURROW_STATUS f) 31 30 = 3 ∧ (∀ a, a ≠ Reg.SYN_FURROW_STATUS f →
    u.rd a = s.rd a) ∧ u.ctl = s.ctl ∧ u.dram = s.dram) ∧
  (∀ t f s w, s.ctl.mode = .service → 16 * f < s.dev.variant.lanes → s.rdBit (Reg.SYN_FURROW_STATUS f) 31 = false →
    s.rdBit (Reg.SYN_FURROW_STATUS f) 30 = true → Tab.find? s.syn.mdllAt f = some w → w + 20000000 ≤ max s.now t →
    ∃ u, exec (.mdllNoLock t f) s = .next u ∧ (⟨max s.now t, 0x019, 0x04, f, 3⟩ : FaultMsg) ∈ u.flt.inbox ∧ u.rdBit Reg.SYN_EVENT 7 = true ∧
    u.ctl = s.ctl ∧ u.dram = s.dram) ∧
  (∀ t lane demand s, s.lanePresent lane = true → lane ≤ 1023 → s.isSdi lane = true → 250000 < demand.natAbs →
    ∃ u, exec (.txSteerLimit t lane demand) s = .next u ∧ Tab.find? u.syn.steer lane = some demand ∧
    (⟨max s.now t, laneSource lane, 0x06, lane, 2⟩ : FaultMsg) ∈ u.flt.inbox ∧ u.regs = s.regs ∧ u.ctl = s.ctl ∧ u.dram = s.dram)

/-- LOS, SIGNAL_DETECT, RX_LOCKED, PWR_REQ, TX_EQ_WRITE, RX_CTRL_WRITE (R287–R299). TEST_START, TEST_STOP, TEST_DURATION_END, INJECT, PRBS_RESYNC, PRBS_CHECKER_IN_SYNC, EYE_POINT_START, EYE_SCAN_START, EYE_DONE, EYE_PERIODIC_SCAN (R302–R305). -/
def Obligations.lanes_lock_take_settings_and_run_tests : Prop :=
  (∀ t i sig s, s.rxOn i = true → s.rdBit (Reg.LAN_STATUS i) 31 = true → (s.rd (Reg.LAN_CNT_LOS i)).toNat + 1 < 4294967296 →
    ∃ u, exec (.los t i sig) s = .next u ∧ u.rdBit (Reg.LAN_STATUS i) 31 = false ∧ u.rdBit (Reg.LAN_STATUS i) 30 = sig ∧
    u.rd (Reg.LAN_CNT_LOS i) = BitVec.ofNat 32 ((s.rd (Reg.LAN_CNT_LOS i)).toNat + 1) ∧ u.rdBit (Reg.LAN_EVENT i) 0 = true ∧
    (∀ a, a ∉ [Reg.LAN_STATUS i, Reg.LAN_CNT_LOS i, Reg.LAN_EVENT i, Reg.LAN_RX_CTRL i, Reg.LAN_RX_DFE i, Reg.MSIX_PENDING 0, Reg.MSIX_PENDING 1] →
    u.rd a = s.rd a) ∧ u.ctl = s.ctl ∧ u.pins = s.pins ∧ u.cfg = s.cfg ∧ u.dram = s.dram) ∧
  (∀ t i s, s.rxOn i = true → ∃ u, exec (.signalDetect t i) s = .next u ∧ u.rdBit (Reg.LAN_STATUS i) 30 = true ∧
    u.rdBit (Reg.LAN_STATUS i) 31 = s.rdBit (Reg.LAN_STATUS i) 31 ∧ (∀ a, a ≠ Reg.LAN_STATUS i → u.rd a = s.rd a) ∧ u.ctl = s.ctl ∧
    u.pins = s.pins ∧ u.cfg = s.cfg ∧ u.dram = s.dram) ∧
  (∀ t i ppm s, s.rxOn i = true → s.rdBit (Reg.LAN_STATUS i) 30 = true → s.rdBit (Reg.LAN_STATUS i) 31 = false → ppm.natAbs ≤ 3000 →
    ∃ u, exec (.rxLocked t i ppm) s = .next u ∧ u.rdBit (Reg.LAN_STATUS i) 31 = true ∧ u.rdFld (Reg.LAN_STATUS i) 15 0 = ofSigned 16 ppm ∧
    u.rdBit (Reg.LAN_EVENT i) 1 = true ∧ (∀ a, a ∉ [Reg.LAN_STATUS i, Reg.LAN_EVENT i, Reg.MSIX_PENDING 0, Reg.MSIX_PENDING 1] →
    u.rd a = s.rd a) ∧ u.ctl = s.ctl ∧ u.pins = s.pins ∧ u.cfg = s.cfg ∧ u.dram = s.dram) ∧
  (∀ t i ppm s, s.isSdi i = false → 3000 < ppm.natAbs → exec (.rxLocked t i ppm) s = .next (s.at t)) ∧
  (∀ t i v s, s.lanePresent i = true → v = 1 ∨ v = 2 → s.ctl.mode = .service → s.pers i ≠ 0 → 3 ≤ s.power.stage →
    s.carriesTraffic i = true → ∃ u, exec (.pwrReq t i v) s = .next u ∧ u.rdBit (Reg.LAN_PWR i) 31 = true ∧
    u.rdFld (Reg.LAN_PWR i) 1 0 = v ∧ u.rdBit (Reg.LAN_EVENT i) 7 = true ∧ (∀ a, u.pstate a = s.pstate a) ∧
    (∀ a, a ∉ [Reg.LAN_PWR i, Reg.LAN_EVENT i, Reg.MSIX_PENDING 0, Reg.MSIX_PENDING 1] → u.rd a = s.rd a) ∧ u.ctl = s.ctl ∧
    u.pins = s.pins ∧ u.cfg = s.cfg ∧ u.dram = s.dram) ∧
  (∀ t i s, s.lanePresent i = true → s.ctl.mode ≠ .service → ∃ u, exec (.pwrReq t i 2) s = .next u ∧ u.rdFld (Reg.LAN_PWR i) 1 0 = 2 ∧
    (∀ a, a ≠ Reg.LAN_PWR i → u.rd a = s.rd a) ∧ u.power = s.power ∧ u.ctl = s.ctl ∧ u.pins = s.pins ∧ u.cfg = s.cfg ∧ u.dram = s.dram) ∧
  (∀ t i s, s.lanePresent i = true → s.ctl.mode = .service → s.pers i ≠ 0 → s.pers i ≠ 5 → 3 ≤ s.power.stage → s.carriesTraffic i = false →
    s.pstate i = 0 → (s.lane i).goal = none → ∃ u, exec (.pwrReq t i 1) s = .next u ∧ u.pstate i = 1 ∧ u.rdBit (Reg.LAN_PWR i) 31 = false ∧
    u.rdBit (Reg.LAN_EVENT i) 2 = true ∧
    (∀ a, a ∉ [Reg.LAN_PWR i, Reg.LAN_STATUS i, Reg.LAN_EVENT i, Reg.MSIX_PENDING 0, Reg.MSIX_PENDING 1] → u.rd a = s.rd a) ∧
    u.ctl = s.ctl ∧ u.pins = s.pins ∧ u.cfg = s.cfg ∧ u.dram = s.dram) ∧
  (∀ t i v s swing pre post, s.lanePresent i = true → swing = fld (BitVec.ofNat 32 v) 4 0 → pre = fld (BitVec.ofNat 32 v) 19 16 →
    post = fld (BitVec.ofNat 32 v) 28 24 → ∃ u, exec (.txEqWrite t i v) s = .next u ∧ u.rd (Reg.LAN_TX_EQ i) = (if swing ≤ 16 ∧
    pre + post ≤ 24 then BitVec.ofNat 32 (post * 16777216 + pre * 65536 + swing) else s.rd (Reg.LAN_TX_EQ i)) ∧ (∀ a, a ≠ Reg.LAN_TX_EQ i →
    u.rd a = s.rd a) ∧ u.ctl = s.ctl ∧ u.pins = s.pins ∧ u.cfg = s.cfg ∧ u.dram = s.dram) ∧
  (∀ t i v s, s.lanePresent i = true → s.adapting i = true → ∃ u, exec (.rxCtrlWrite t i false v) s = .next u ∧
    u.rdFld (Reg.LAN_RX_CTRL i) 31 30 = fld (BitVec.ofNat 32 v) 31 30 ∧ (bit (BitVec.ofNat 32 v) 30 = true →
    u.rdFld (Reg.LAN_RX_CTRL i) 11 8 = fld (BitVec.ofNat 32 v) 11 8) ∧ (∀ a, a ≠ Reg.LAN_RX_CTRL i → a ≠ Reg.LAN_RX_DFE i →
    u.rd a = s.rd a) ∧ u.ctl = s.ctl ∧ u.pins = s.pins ∧ u.cfg = s.cfg ∧ u.dram = s.dram) ∧
  (∀ t i v s, s.lanePresent i = true → s.adapting i = false → ∃ u, exec (.rxCtrlWrite t i false v) s = .next u ∧
    u.rdFld (Reg.LAN_RX_CTRL i) 31 30 = fld (BitVec.ofNat 32 v) 31 30 ∧
    u.rdFld (Reg.LAN_RX_CTRL i) 11 8 = (if bit (BitVec.ofNat 32 v) 30 then fld (BitVec.ofNat 32 v) 11 8 else s.rdFld (Reg.LAN_RX_CTRL i) 11 8) ∧
    (∀ a, a ≠ Reg.LAN_RX_CTRL i → u.rd a = s.rd a) ∧ u.ctl = s.ctl ∧ u.pins = s.pins ∧ u.cfg = s.cfg ∧ u.dram = s.dram) ∧
  (∀ t i v s, s.lanePresent i = true → ∃ u, exec (.rxCtrlWrite t i true v) s = .next u ∧
    u.rdFld (Reg.LAN_RX_DFE i) 30 0 = (if s.rdBit (Reg.LAN_RX_CTRL i) 30 then v % 2147483648 else s.rdFld (Reg.LAN_RX_DFE i) 30 0) ∧
    (∀ a, a ≠ Reg.LAN_RX_DFE i → u.rd a = s.rd a) ∧ u.ctl = s.ctl ∧ u.pins = s.pins ∧ u.cfg = s.cfg ∧ u.dram = s.dram) ∧
  (∀ t i v s, s.lanePresent i = true → s.ctl.mode = .test → s.testState i = 0 ∨ 3 ≤ s.testState i → fld (BitVec.ofNat 32 v) 22 20 ≤ 4 →
    (s.res (laneRes i)).running = none → ∃ u, exec (.testStart t i v) s = .next u ∧ u.testState i = 2 ∧
    (u.res (laneRes i)).running = some ⟨7, i⟩ ∧ u.rdFld (Reg.LAN_TEST i) 25 17 = fld (BitVec.ofNat 32 v) 25 17 ∧
    u.rdFld (Reg.LAN_TEST i) 15 0 = v % 65536 ∧ (u.lane i).testAt = max s.now t ∧ (∀ a, a ≠ Reg.LAN_TEST i → u.rd a = s.rd a) ∧
    (∀ a, a ≠ laneRes i → u.res a = s.res a) ∧ u.ctl = s.ctl ∧ u.pins = s.pins ∧ u.cfg = s.cfg ∧ u.dram = s.dram) ∧
  (∀ t i v s x, s.lanePresent i = true → s.ctl.mode = .service → s.carriesTraffic i = false → s.testState i = 0 →
    fld (BitVec.ofNat 32 v) 22 20 ≤ 4 → (s.res (laneRes i)).running = some x → (s.res (laneRes i)).queue.length < 16 →
    (s.res (laneRes i)).began ≠ some (max s.now t) → ((s.res (laneRes i)).askedAt ≠ max s.now t ∨ (s.res (laneRes i)).asked = 0) →
    ∃ u, exec (.testStart t i v) s = .next u ∧ u.testState i = 1 ∧ (u.res (laneRes i)).queue = (s.res (laneRes i)).queue ++ [⟨7, i⟩] ∧
    (u.res (laneRes i)).running = some x ∧ (∀ a, a ≠ Reg.LAN_TEST i → u.rd a = s.rd a) ∧ u.ctl = s.ctl ∧ u.pins = s.pins ∧ u.cfg = s.cfg ∧
    u.dram = s.dram) ∧
  (∀ t i v s, s.lanePresent i = true → s.testState i = 0 → 4 < fld (BitVec.ofNat 32 v) 22 20 ∨ (s.ctl.mode = .service ∧
    s.carriesTraffic i = true) → ∃ u, exec (.testStart t i v) s = .next u ∧ u.testState i = 4 ∧ u.rdBit (Reg.LAN_EVENT i) 3 = true ∧
    (∀ a, u.res a = s.res a) ∧ (∀ a, a ∉ [Reg.LAN_TEST i, Reg.LAN_STATUS i, Reg.LAN_EVENT i, Reg.MSIX_PENDING 0, Reg.MSIX_PENDING 1] →
    u.rd a = s.rd a) ∧ u.ctl = s.ctl ∧ u.pins = s.pins ∧ u.cfg = s.cfg ∧ u.dram = s.dram) ∧
  (∀ t i b e s, s.testState i = 2 → (s.res (laneRes i)).queue = [] → ∃ u, exec (.testStop t i b e) s = .next u ∧ u.testState i = 3 ∧
    (u.res (laneRes i)).running = none ∧ u.rdBit (Reg.LAN_EVENT i) 3 = true ∧ (∀ a, a ≠ laneRes i → u.res a = s.res a) ∧ u.ctl = s.ctl ∧
    u.pins = s.pins ∧ u.cfg = s.cfg ∧ u.dram = s.dram) ∧
  (∀ t i b e s, s.testState i = 1 → ∃ u, exec (.testStop t i b e) s = .next u ∧ u.testState i = 0 ∧ ⟨7, i⟩ ∉ (u.res (laneRes i)).queue ∧
    (∀ a, a ≠ Reg.LAN_TEST i → u.rd a = s.rd a) ∧ (∀ a, a ≠ laneRes i → u.res a = s.res a) ∧ u.ctl = s.ctl ∧ u.pins = s.pins ∧
    u.cfg = s.cfg ∧ u.dram = s.dram) ∧
  (∀ t i b e s, s.testState i = 2 → s.rdFld (Reg.LAN_TEST i) 15 0 ≠ 0 →
    (s.lane i).testAt + s.rdFld (Reg.LAN_TEST i) 15 0 * 1000000 ≤ max s.now t → (s.res (laneRes i)).queue = [] →
    ∃ u, exec (.testDurationEnd t i b e) s = .next u ∧ u.testState i = 3 ∧ (u.res (laneRes i)).running = none ∧ u.ctl = s.ctl ∧
    u.pins = s.pins ∧ u.cfg = s.cfg ∧ u.dram = s.dram) ∧
  (∀ t i b e s, s.rdFld (Reg.LAN_TEST i) 15 0 = 0 → exec (.testDurationEnd t i b e) s = .next (s.at t)) ∧
  (∀ t i s, s.testState i = 2 → s.rdFld (Reg.LAN_TEST i) 19 18 = 3 → s.rdFld (Reg.LAN_TEST i) 25 24 = 1 →
    s.rdBit (Reg.LAN_STATUS i) 25 = true → ∃ u, exec (.inject t i) s = .next u ∧
    u.rd64 (Reg.LAN_PRBS_ERR_LO i) (Reg.LAN_PRBS_ERR_HI i) = (s.rd64 (Reg.LAN_PRBS_ERR_LO i) (Reg.LAN_PRBS_ERR_HI i) + 1) % 18446744073709551616 ∧
    u.rd64 (Reg.LAN_PRBS_BITS_LO i) (Reg.LAN_PRBS_BITS_HI i) = (s.rd64 (Reg.LAN_PRBS_BITS_LO i) (Reg.LAN_PRBS_BITS_HI i) + 1) % 18446744073709551616 ∧
    (∀ a, a ∉ [Reg.LAN_PRBS_ERR_LO i, Reg.LAN_PRBS_ERR_HI i, Reg.LAN_PRBS_BITS_LO i, Reg.LAN_PRBS_BITS_HI i] → u.rd a = s.rd a) ∧
    u.ctl = s.ctl ∧ u.pins = s.pins ∧ u.cfg = s.cfg ∧ u.dram = s.dram) ∧
  (∀ t i b e s, s.testState i = 2 → s.rdBit (Reg.LAN_TEST i) 18 = true → s.rdBit (Reg.LAN_STATUS i) 25 = true →
    (s.rd (Reg.LAN_CNT_PRBS_RESYNC i)).toNat + 1 < 4294967296 → ∃ u, exec (.prbsResync t i b e) s = .next u ∧
    u.rdBit (Reg.LAN_STATUS i) 25 = false ∧
    u.rd (Reg.LAN_CNT_PRBS_RESYNC i) = BitVec.ofNat 32 ((s.rd (Reg.LAN_CNT_PRBS_RESYNC i)).toNat + 1) ∧
    u.rd64 (Reg.LAN_PRBS_ERR_LO i) (Reg.LAN_PRBS_ERR_HI i) = (s.rd64 (Reg.LAN_PRBS_ERR_LO i) (Reg.LAN_PRBS_ERR_HI i) + e) % 18446744073709551616 ∧
    u.ctl = s.ctl ∧ u.pins = s.pins ∧ u.cfg = s.cfg ∧ u.dram = s.dram) ∧
  (∀ t i s, s.testState i = 2 → s.rdBit (Reg.LAN_TEST i) 18 = true → ∃ u, exec (.prbsCheckerInSync t i) s = .next u ∧
    u.rdBit (Reg.LAN_STATUS i) 25 = true ∧ (∀ a, a ≠ Reg.LAN_STATUS i → u.rd a = s.rd a) ∧ u.ctl = s.ctl ∧ u.pins = s.pins ∧ u.cfg = s.cfg ∧
    u.dram = s.dram) ∧
  (∀ t i v s, s.lanePresent i = true → fld (BitVec.ofNat 32 v) 23 16 ≠ 128 → fld (BitVec.ofNat 32 v) 3 0 ≤ 8 →
    s.rdBit (Reg.LAN_EYE_CTRL i) 30 = false → (s.res (laneRes i)).running = none → ∃ u, exec (.eyePointStart t i v) s = .next u ∧
    u.rdBit (Reg.LAN_EYE_CTRL i) 30 = true ∧ (u.lane i).eye = 1 ∧ (u.res (laneRes i)).running = some ⟨6, i⟩ ∧ (∀ a, a ≠ Reg.LAN_EYE_CTRL i →
    u.rd a = s.rd a) ∧ u.ctl = s.ctl ∧ u.pins = s.pins ∧ u.cfg = s.cfg ∧ u.dram = s.dram) ∧
  (∀ t i v s, s.lanePresent i = true → fld (BitVec.ofNat 32 v) 23 16 ≠ 128 → fld (BitVec.ofNat 32 v) 3 0 ≤ 8 →
    s.rdBit (Reg.LAN_EYE_CTRL i) 30 = false → (s.res (laneRes i)).running = none → ∃ u, exec (.eyeScanStart t i v) s = .next u ∧
    u.rdBit (Reg.LAN_EYE_CTRL i) 30 = true ∧ (u.lane i).eye = 2 ∧ (u.res (laneRes i)).running = some ⟨6, i⟩ ∧ (∀ a, a ≠ Reg.LAN_EYE_CTRL i →
    u.rd a = s.rd a) ∧ u.ctl = s.ctl ∧ u.pins = s.pins ∧ u.cfg = s.cfg ∧ u.dram = s.dram) ∧
  (∀ t i n h v s, (s.lane i).eye = 1 → (s.lane i).eyeWaits = false → (s.res (laneRes i)).queue = [] →
    (s.res (laneRes i)).running = some ⟨6, i⟩ → ∃ u, exec (.eyeDone t i n h v) s = .next u ∧
    u.rd (Reg.LAN_EYE_RESULT i) = BitVec.ofNat 32 (min n (2 ^ (16 + s.rdFld (Reg.LAN_EYE_CTRL i) 3 0))) ∧
    u.rdBit (Reg.LAN_EYE_CTRL i) 30 = false ∧ (u.lane i).eye = 0 ∧ (u.res (laneRes i)).running = none ∧
    (∀ a, a ∉ [Reg.LAN_EYE_RESULT i, Reg.LAN_EYE_CTRL i] → u.rd a = s.rd a) ∧ u.ctl = s.ctl ∧ u.pins = s.pins ∧ u.cfg = s.cfg ∧
    u.dram = s.dram) ∧
  (∀ t i n h v s, (s.lane i).eye = 2 → (s.lane i).eyeWaits = false → (s.res (laneRes i)).queue = [] →
    (s.res (laneRes i)).running = some ⟨6, i⟩ → s.rdFld (Reg.LAN_STATUS i) 31 31 = 1 → s.rdBit (Reg.LAN_STATUS i) 24 = false →
    h < s.rdFld Reg.LAN_EYE_LIMITS 22 16 → ∃ u, exec (.eyeDone t i n h v) s = .next u ∧
    u.rd (Reg.LAN_EYE_MARGIN i) = BitVec.ofNat 32 (2147483648 + min h 64 * 65536 + min v 255) ∧ u.rdBit (Reg.LAN_STATUS i) 24 = true ∧
    u.rdBit (Reg.LAN_EVENT i) 5 = true ∧ (⟨max s.now t, laneSource i, 0x50, i, 2⟩ : FaultMsg) ∈ u.flt.inbox ∧
    u.rdBit (Reg.LAN_EYE_CTRL i) 30 = false ∧
    (∀ a, a ∉ [Reg.LAN_EYE_MARGIN i, Reg.LAN_STATUS i, Reg.LAN_EVENT i, Reg.LAN_EYE_CTRL i, Reg.MSIX_PENDING 0, Reg.MSIX_PENDING 1] →
    u.rd a = s.rd a) ∧ u.ctl = s.ctl ∧ u.pins = s.pins ∧ u.cfg = s.cfg ∧ u.dram = s.dram) ∧
  (∀ t i s, s.rxOn i = true → s.pstate i = 0 → s.rdBit (Reg.LAN_STATUS i) 31 = true → s.eyeSec ≠ 0 →
    s.rdBit (Reg.LAN_EYE_CTRL i) 30 = false → (s.res (laneRes i)).running = none → (s.lane i).scanDue ≤ max s.now t →
    (s.at t).losFalls i = false → ∃ u, exec (.eyePeriodicScan t i) s = .next u ∧ u.rdBit (Reg.LAN_EYE_CTRL i) 30 = true ∧
    (u.lane i).eye = 3 ∧ (u.res (laneRes i)).running = some ⟨6, i⟩ ∧ (∀ a, a ≠ Reg.LAN_EYE_CTRL i → u.rd a = s.rd a) ∧ u.ctl = s.ctl ∧
    u.pins = s.pins ∧ u.cfg = s.cfg ∧ u.dram = s.dram)

/-- SDI_LINE, SDI_READY, SDI_LOST, PAIRED_FRAME_COMPLETE (R312–R323). -/
def Obligations.sdi_ports_check_and_become_ready : Prop :=
  (∀ t l ln s, s.sdiPort l = true → s.sdiIsReady l = true → ln.lnBad = true ∨ ln.trsBad = true ∨ ln.lengthBad = true →
    (s.rd (Reg.SDI_CNT_LOSS l)).toNat + 1 < 4294967296 → ∃ u, exec (.sdiLine t l ln) s = .next u ∧ u.sdiIsReady l = false ∧
    u.rd (Reg.SDI_CNT_LOSS l) = BitVec.ofNat 32 ((s.rd (Reg.SDI_CNT_LOSS l)).toNat + 1) ∧ u.rdBit (Reg.SDI_EVENT l) 0 = true ∧
    (u.sdiRun l).bad = true ∧ u.win = s.win ∧ u.ctl = s.ctl ∧ u.pins = s.pins ∧ u.cfg = s.cfg ∧ u.dram = s.dram) ∧
  (∀ t l ln s, s.sdiPort l = true → ln.crcBad = true → ln.lnBad = false → ln.trsBad = false → ln.trsCorrected = false →
    ln.lengthBad = false → s.sourcesOf (.sdi l) = [] → (s.rd (Reg.SDI_CNT_CRC l)).toNat + 1 < 4294967296 →
    ∃ u, exec (.sdiLine t l ln) s = .next u ∧ u.sdiIsReady l = s.sdiIsReady l ∧
    u.rd (Reg.SDI_CNT_CRC l) = BitVec.ofNat 32 ((s.rd (Reg.SDI_CNT_CRC l)).toNat + 1) ∧ (ln.line ≠ 1 →
    (u.sdiRun l).crcLines = (s.sdiRun l).crcLines + 1) ∧
    (∀ a, a ∉ [Reg.SDI_CNT_CRC l, Reg.SDI_EVENT l, Reg.SDI_CNT_ANC_CSUM l, Reg.MSIX_PENDING 0, Reg.MSIX_PENDING 1] → u.rd a = s.rd a) ∧
    u.ctl = s.ctl ∧ u.pins = s.pins ∧ u.cfg = s.cfg ∧ u.dram = s.dram) ∧
  (∀ t l ln s x c, s.sdiPort l = true → s.sdiIsReady l = true → ln.crcBad = false →
    (checkCrc (s.sdiExpected l) (s.sdiRun l).lineCrc ln.line ln.words).1 = false → ln.lnBad = false → ln.trsBad = false →
    ln.trsCorrected = false → ln.lengthBad = false → s.sourcesOf (.sdi l) = [x] → Tab.find? s.cfg.srcs x = some c → c.synced = false →
    ∃ u, exec (.sdiLine t l ln) s = .next u ∧ Tab.get noLine u.win (lineKey x ln.line) = ln ∧ (∀ a, a ≠ lineKey x ln.line →
    Tab.get noLine u.win a = Tab.get noLine s.win a) ∧
    u.rows = (lineRows c.fmt ln.line ln.words).foldl (fun r e => Tab.put [] r (lineKey x e.1) e.2) s.rows ∧ (∀ a, u.rd a = s.rd a) ∧
    u.ctl = s.ctl ∧ u.pins = s.pins ∧ u.cfg = s.cfg ∧ u.dram = s.dram) ∧
  (∀ t l fr s, s.sdiPort l = true → ((s.rxLanes l).all fun i => s.rdBit (Reg.LAN_STATUS i) 31) = true → s.sdiIsReady l = false →
    fr.clean = true → (s.sdiRun l).bad = false → fr.rateOk = true →
    sdiResolve fr.fits fr.pidFormat (s.sdiExpected l) = some (s.sdiExpected l) → fr.skew ≤ 1000 → mapCarries (s.sdiExpected l) = true →
    s.rdFld (Reg.SDI_RX_CFG l) 15 14 ≠ 2 → ∃ u, exec (.sdiReady t l fr) s = .next u ∧ u.sdiIsReady l = true ∧
    u.rdBit (Reg.SDI_STATUS l) 30 = true ∧ u.rdBit (Reg.SDI_STATUS l) 29 = false ∧ u.rdBit (Reg.SDI_EVENT l) 1 = true ∧
    u.rd (Reg.SDI_FORMAT l) = BitVec.ofNat 32 (formatWord (s.sdiExpected l) true) ∧ u.rdFld (Reg.SDI_STATUS l) 15 0 = fr.skew ∧
    u.ctl = s.ctl ∧ u.pins = s.pins ∧ u.cfg = s.cfg ∧ u.dram = s.dram) ∧
  (∀ t l fr s, s.sdiPort l = true → ((s.rxLanes l).all fun i => s.rdBit (Reg.LAN_STATUS i) 31) = true → fr.clean = false ∨
    fr.rateOk = false ∨ 1000 < fr.skew ∨ sdiResolve fr.fits fr.pidFormat (s.sdiExpected l) ≠ some (s.sdiExpected l) →
    ∃ u, exec (.sdiReady t l fr) s = .next u ∧ u.sdiIsReady l = false ∧ u.ctl = s.ctl ∧ u.pins = s.pins ∧ u.cfg = s.cfg ∧ u.dram = s.dram) ∧
  (∀ t l cause s, s.sdiPort l = true → s.sdiIsReady l = true → cause = 1 ∨ cause = 2 ∨ (cause = 3 ∧ s.rdFld (Reg.SDI_RX_CFG l) 15 14 = 2) ∨
    (cause = 0 ∧ ((s.rxLanes l).any fun i => !s.rdBit (Reg.LAN_STATUS i) 31) = true) → (s.rd (Reg.SDI_CNT_LOSS l)).toNat + 1 < 4294967296 →
    ∃ u, exec (.sdiLost t l cause) s = .next u ∧ u.sdiIsReady l = false ∧
    u.rd (Reg.SDI_CNT_LOSS l) = BitVec.ofNat 32 ((s.rd (Reg.SDI_CNT_LOSS l)).toNat + 1) ∧ u.rdBit (Reg.SDI_EVENT l) 0 = true ∧ (cause = 2 →
    u.rdBit (Reg.SDI_STATUS l) 26 = true) ∧ u.ctl = s.ctl ∧ u.pins = s.pins ∧ u.cfg = s.cfg ∧ u.dram = s.dram) ∧
  (∀ t x a0 b0 s c sc la lb n g p, Tab.find? s.cfg.srcs x = some c → s.streamCfg x = some sc → c.input = .sdi la → c.pairB = some lb →
    a0.writing = false → b0.writing = true → a0.packet = some (n, true, g) → s.copyExpected la (s.grp sc.readGroup).frame a0.packet = true →
    a0.digestOk = true → (s.sdiRun la).crcLines = 0 → (s.stream x).broken = false → (s.stream x).opened = some p →
    (s.rd (Reg.SDI_CNT_PAIR_A la)).toNat + 1 < 4294967296 → ∃ u, exec (.pairedFrameComplete t x a0 b0) s = .next u ∧
    Tab.get coldFrame (u.stream x).ring p = ⟨extendNear n (s.grp sc.readGroup).frame, true, true, (Tab.get coldFrame (s.stream x).ring p).at_⟩ ∧
    (u.stream x).opened = none ∧ u.rd (Reg.SDI_CNT_PAIR_A la) = BitVec.ofNat 32 ((s.rd (Reg.SDI_CNT_PAIR_A la)).toNat + 1) ∧
    u.rd (Reg.SDI_LAST_TSP_FRAME la) = BitVec.ofNat 32 n ∧ (∀ a, a ∉ [Reg.SDI_CNT_PAIR_A la, Reg.SDI_LAST_TSP_FRAME la] → u.rd a = s.rd a) ∧
    u.ctl = s.ctl ∧ u.cfg = s.cfg) ∧
  (∀ t x a0 b0 s, a0.writing = true → exec (.pairedFrameComplete t x a0 b0) s = .next (s.at t))

/-- BLOCK_LOCK_GAINED, LINK_UP, LINK_DOWN, FRAME_RECEIVE, PAUSE_HOLD_EXPIRY, PAUSE_ON, PAUSE_REFRESH, PAUSE_OFF, THROUGH_FORWARD (R326–R337, R360). -/
def Obligations.ethernet_links_frames_and_pause : Prop :=
  (∀ t p s, s.ethPort p = true → ((s.rxLanes p).all fun i => s.rdBit (Reg.LAN_STATUS i) 31) = true →
    ∃ u, exec (.blockLockGained t p) s = .next u ∧ u.rdBit (Reg.MAC_STATUS p) 30 = true ∧ u.rdBit (Reg.MAC_STATUS p) 29 = false ∧
    (u.macRun p).lockedAt = some (max s.now t) ∧ u.portUp p = s.portUp p ∧ (∀ a, a ≠ Reg.MAC_STATUS p → u.rd a = s.rd a) ∧ u.ctl = s.ctl ∧
    u.pins = s.pins ∧ u.cfg = s.cfg ∧ u.dram = s.dram) ∧
  (∀ t p s v, s.ethPort p = true → (s.macRun p).lockedAt = some v → s.rdBit (Reg.MAC_STATUS p) 30 = true → s.portUp p = false →
    v + 10000000 ≤ max s.now t → ∃ u, exec (.linkUp t p) s = .next u ∧ u.rdFld (Reg.MAC_STATUS p) 31 28 = 12 ∧
    u.rdBit (Reg.MAC_EVENT p) 1 = true ∧ (∀ a, a ∉ [Reg.MAC_STATUS p, Reg.MAC_EVENT p, Reg.MSIX_PENDING 0, Reg.MSIX_PENDING 1] →
    u.rd a = s.rd a) ∧ u.ctl = s.ctl ∧ u.pins = s.pins ∧ u.cfg = s.cfg ∧ u.dram = s.dram) ∧
  (∀ t p s v, (s.macRun p).lockedAt = some v → max s.now t < v + 10000000 → exec (.linkUp t p) s = .next (s.at t)) ∧
  (∀ t p cause s, s.ethPort p = true → s.portUp p = true → cause ≤ 3 → ∃ u, exec (.linkDown t p cause false) s = .next u ∧
    u.portUp p = false ∧ u.rdBit (Reg.MAC_EVENT p) 0 = true ∧
    u.rd64 (Reg.MAC_CNT_LINK_DOWN_LO p) (Reg.MAC_CNT_LINK_DOWN_HI p) = (s.rd64 (Reg.MAC_CNT_LINK_DOWN_LO p) (Reg.MAC_CNT_LINK_DOWN_HI p) + 1) % 18446744073709551616 ∧
    u.rdBit (Reg.MAC_STATUS p) 27 = false ∧ (cause ≤ 1 → (u.macRun p).lockedAt = none ∧ u.rdBit (Reg.MAC_STATUS p) 30 = false) ∧
    (cause = 3 → u.rdBit (Reg.MAC_STATUS p) 28 = true) ∧ u.ctl = s.ctl ∧ u.pins = s.pins ∧ u.cfg = s.cfg ∧ u.dram = s.dram) ∧
  (∀ t p fr s, s.ethPort p = true → s.portUp p = false → fr.codes = ⟨0, 0, 0, 0, 0, 0, 0⟩ → ∃ u, exec (.frameReceive t p fr) s = .next u ∧
    u.rd64 (Reg.MAC_CNT_RX_FCS_ERR_LO p) (Reg.MAC_CNT_RX_FCS_ERR_HI p) = (s.rd64 (Reg.MAC_CNT_RX_FCS_ERR_LO p) (Reg.MAC_CNT_RX_FCS_ERR_HI p) + 1) % 18446744073709551616 ∧
    (∀ a, a ∉ [Reg.MAC_CNT_RX_FCS_ERR_LO p, Reg.MAC_CNT_RX_FCS_ERR_HI p] → u.rd a = s.rd a) ∧ u.xpt = s.xpt ∧ u.out = s.out ∧
    u.ctl = s.ctl ∧ u.pins = s.pins ∧ u.cfg = s.cfg ∧ u.dram = s.dram) ∧
  (∀ t p fr s, s.ethPort p = true → s.portUp p = true → fr.codes = ⟨0, 0, 0, 0, 0, 0, 0⟩ → s.portClass p ≠ 1 → 64 ≤ fr.bytes.length →
    fr.bytes.length ≤ s.rdFld (Reg.MAC_CFG p) 29 16 → fr.marked = true ∨
    toLe 4 (crc32 (fr.bytes.take (fr.bytes.length - 4))) ≠ fr.bytes.drop (fr.bytes.length - 4) →
    ∃ u, exec (.frameReceive t p fr) s = .next u ∧
    u.rd64 (Reg.MAC_CNT_RX_FCS_ERR_LO p) (Reg.MAC_CNT_RX_FCS_ERR_HI p) = (s.rd64 (Reg.MAC_CNT_RX_FCS_ERR_LO p) (Reg.MAC_CNT_RX_FCS_ERR_HI p) + 1) % 18446744073709551616 ∧
    (∀ a, a ∉ [Reg.MAC_CNT_RX_FCS_ERR_LO p, Reg.MAC_CNT_RX_FCS_ERR_HI p] → u.rd a = s.rd a) ∧ u.xpt = s.xpt ∧ u.out = s.out ∧
    u.ctl = s.ctl ∧ u.pins = s.pins ∧ u.cfg = s.cfg ∧ u.dram = s.dram) ∧
  (∀ t p fr s b, s.ethPort p = true → s.portUp p = true → fr.codes = ⟨0, 0, 0, 0, 0, 0, 0⟩ → s.portClass p = 0 →
    s.rd (Reg.MED_PORT_IPV4 p) = 0 → p < 1024 → fr.marked = false → fr.bytes = b ++ toLe 4 (crc32 b) → 60 ≤ b.length →
    b.length + 4 ≤ s.rdFld (Reg.MAC_CFG p) 29 16 → etherType fr.bytes = 0x1234 → slice fr.bytes 0 6 ≠ s.macAddr p →
    ((fr.bytes.getD 0 0).toNat % 2 = 0) → ∃ u, exec (.frameReceive t p fr) s = .next u ∧
    u.rd64 (Reg.MAC_CNT_RX_OK_LO p) (Reg.MAC_CNT_RX_OK_HI p) = (s.rd64 (Reg.MAC_CNT_RX_OK_LO p) (Reg.MAC_CNT_RX_OK_HI p) + 1) % 18446744073709551616 ∧
    u.rd64 (Reg.MAC_CNT_RX_OCTETS_LO p) (Reg.MAC_CNT_RX_OCTETS_HI p) = (s.rd64 (Reg.MAC_CNT_RX_OCTETS_LO p) (Reg.MAC_CNT_RX_OCTETS_HI p) + b.length + 4) % 18446744073709551616 ∧
    u.rd64 (Reg.MAC_CNT_RX_FILTERED_LO p) (Reg.MAC_CNT_RX_FILTERED_HI p) = (s.rd64 (Reg.MAC_CNT_RX_FILTERED_LO p) (Reg.MAC_CNT_RX_FILTERED_HI p) + 1) % 18446744073709551616 ∧
    u.xpt = s.xpt ∧ u.out = s.out ∧ u.ctl = s.ctl ∧ u.pins = s.pins ∧ u.cfg = s.cfg ∧ u.dram = s.dram) ∧
  (∀ t p n fr s b, s.ethPort p = true → s.portUp p = true → s.portClass p = 3 → 1 ≤ n → n < 65536 → s.rdBit (Reg.MAC_STATUS p) 27 = false →
    b = padTo 60 ([0x01, 0x80, 0xC2, 0, 0, 1, 2, 0, 0, 0, 0, 0, 0x88, 0x08, 0, 1] ++ toBe 2 n) →
    fr = ⟨b ++ toLe 4 (crc32 b), false, 0, false, ⟨0, 0, 0, 0, 0, 0, 0⟩⟩ → 64 ≤ s.rdFld (Reg.MAC_CFG p) 29 16 →
    ∃ u, exec (.frameReceive t p fr) s = .next u ∧ u.rdBit (Reg.MAC_STATUS p) 27 = true ∧
    (u.macRun p).holdUntil = max (max s.now t) (s.macRun p).txEnd + (512 * n + max 1 (s.portGb p) - 1) / max 1 (s.portGb p) ∧
    u.rd64 (Reg.MAC_CNT_RX_PAUSE_LO p) (Reg.MAC_CNT_RX_PAUSE_HI p) = (s.rd64 (Reg.MAC_CNT_RX_PAUSE_LO p) (Reg.MAC_CNT_RX_PAUSE_HI p) + 1) % 18446744073709551616 ∧
    u.out = s.out ∧ u.ctl = s.ctl ∧ u.pins = s.pins ∧ u.cfg = s.cfg ∧ u.dram = s.dram) ∧
  (∀ t p s, s.rdBit (Reg.MAC_STATUS p) 27 = true → (s.macRun p).holdUntil ≤ max s.now t → (s.macRun p).waiting = [] →
    ∃ u, exec (.pauseHoldExpiry t p) s = .next u ∧ u.rdBit (Reg.MAC_STATUS p) 27 = false ∧ u.portUp p = s.portUp p ∧
    (∀ a, a ∉ [Reg.MAC_STATUS p, Reg.MAC_CNT_TX_HELD_QUANTA_LO p, Reg.MAC_CNT_TX_HELD_QUANTA_HI p] → u.rd a = s.rd a) ∧ u.ctl = s.ctl ∧
    u.pins = s.pins ∧ u.cfg = s.cfg ∧ u.dram = s.dram) ∧
  (∀ t p s, s.ethPort p = true → s.hasQueue p = true → s.portUp p = true → s.rdBit (Reg.MAC_STATUS p) 26 = false →
    1024 * (s.at t).highMark p < (s.macRun p).fill → ∃ u, exec (.pauseOn t p) s = .next u ∧ u.rdBit (Reg.MAC_STATUS p) 26 = true ∧
    u.rdBit (Reg.MAC_EVENT p) 3 = true ∧
    u.rd64 (Reg.MAC_CNT_TX_PAUSE_LO p) (Reg.MAC_CNT_TX_PAUSE_HI p) = (s.rd64 (Reg.MAC_CNT_TX_PAUSE_LO p) (Reg.MAC_CNT_TX_PAUSE_HI p) + 1) % 18446744073709551616 ∧
    (u.macRun p).pauseAt = max s.now t ∧ (u.macRun p).queue = (s.macRun p).queue ∧ u.ctl = s.ctl ∧ u.pins = s.pins ∧ u.cfg = s.cfg ∧
    u.dram = s.dram) ∧
  (∀ t p s, s.ethPort p = true → s.portUp p = true → s.rdBit (Reg.MAC_STATUS p) 26 = true →
    (s.macRun p).pauseAt + 512 * (s.rdFld (Reg.MAC_PAUSE_CFG p) 15 0 / 2) / s.portGb p ≤ max s.now t → (s.at t).drainedNow p = false →
    ∃ u, exec (.pauseRefresh t p) s = .next u ∧
    u.out = s.out ++ [.frame p 5 (padTo 60 (pauseAddr ++ s.macAddr p ++ [0x88, 0x08, 0, 1] ++ toBe 2 (s.rdFld (Reg.MAC_PAUSE_CFG p) 15 0)) ++ toLe 4 (crc32 (padTo 60 (pauseAddr ++ s.macAddr p ++ [0x88, 0x08, 0, 1] ++ toBe 2 (s.rdFld (Reg.MAC_PAUSE_CFG p) 15 0)))))] ∧
    (u.macRun p).pauseAt = max s.now t ∧ u.rdBit (Reg.MAC_STATUS p) 26 = true ∧ u.ctl = s.ctl ∧ u.pins = s.pins ∧ u.cfg = s.cfg ∧
    u.dram = s.dram) ∧
  (∀ t p s, s.ethPort p = true → s.portUp p = true → s.portClass p = 3 → s.rdBit (Reg.MAC_STATUS p) 26 = true →
    (s.macRun p).fill ≤ 1024 * s.rdFld (Reg.MAC_WM p) 15 0 → ∃ u, exec (.pauseOff t p 0) s = .next u ∧
    u.rdBit (Reg.MAC_STATUS p) 26 = false ∧ u.rdBit (Reg.MAC_EVENT p) 4 = true ∧
    u.rd64 (Reg.MAC_CNT_TX_PAUSE_LO p) (Reg.MAC_CNT_TX_PAUSE_HI p) = (s.rd64 (Reg.MAC_CNT_TX_PAUSE_LO p) (Reg.MAC_CNT_TX_PAUSE_HI p) + 1) % 18446744073709551616 ∧
    u.ctl = s.ctl ∧ u.pins = s.pins ∧ u.cfg = s.cfg ∧ u.dram = s.dram) ∧
  (∀ t p s q v f rest, s.portClass p = 3 → s.throughPartner p = some q → (s.macRun p).queue = (v, f) :: rest → ptpEventAt f = none →
    s.portUp q = true → f.length ≤ s.rdFld (Reg.MAC_CFG q) 29 16 → s.rdBit (Reg.MAC_STATUS q) 27 = false →
    ∃ u, exec (.throughForward t p none) s = .next u ∧ (u.macRun p).queue = rest ∧
    u.out = s.out ++ [.frame q 6 (padTo 60 (f.take (f.length - 4)) ++ toLe 4 (crc32 (padTo 60 (f.take (f.length - 4)))))] ∧
    u.rd64 (Reg.MAC_CNT_TX_OK_LO q) (Reg.MAC_CNT_TX_OK_HI q) = (s.rd64 (Reg.MAC_CNT_TX_OK_LO q) (Reg.MAC_CNT_TX_OK_HI q) + 1) % 18446744073709551616 ∧
    u.ctl = s.ctl ∧ u.pins = s.pins ∧ u.cfg = s.cfg ∧ u.dram = s.dram) ∧
  (∀ t p s q v f rest b, s.portClass p = 3 → s.throughPartner p = some q → (s.macRun p).queue = (v, f) :: rest → s.portUp q = true →
    f.length ≤ s.rdFld (Reg.MAC_CFG q) 29 16 → s.rdBit (Reg.MAC_STATUS q) 27 = false → b = padTo 60 ((s.at t).forwarded p q v f) →
    ∃ u, exec (.throughForward t p none) s = .next u ∧ (u.macRun p).queue = rest ∧ u.out = s.out ++ [.frame q 6 (b ++ toLe 4 (crc32 b))] ∧
    u.ctl = s.ctl ∧ u.pins = s.pins ∧ u.cfg = s.cfg ∧ u.dram = s.dram) ∧
  (∀ t p fr s, s.ethPort p = true → s.portUp p = false → fr.codes.inserted ≠ 0 → fr.codes.dropped = 0 →
    (s.rd (Reg.LAN_CNT_RM_INS p)).toNat + fr.codes.inserted < 4294967296 →
    (s.rd (Reg.LAN_CNT_RM_DEL p)).toNat + fr.codes.deleted < 4294967296 → ∃ u, exec (.frameReceive t p fr) s = .next u ∧
    u.rd (Reg.LAN_CNT_RM_INS p) = BitVec.ofNat 32 ((s.rd (Reg.LAN_CNT_RM_INS p)).toNat + fr.codes.inserted) ∧
    u.rd (Reg.LAN_CNT_RM_DEL p) = BitVec.ofNat 32 ((s.rd (Reg.LAN_CNT_RM_DEL p)).toNat + fr.codes.deleted) ∧
    u.rd (Reg.LAN_CNT_RM_OVF p) = s.rd (Reg.LAN_CNT_RM_OVF p) ∧ u.xpt = s.xpt ∧ u.out = s.out ∧ u.mac = s.mac ∧ u.ctl = s.ctl ∧
    u.pins = s.pins ∧ u.cfg = s.cfg ∧ u.dram = s.dram)

/-- LINE_DEADLINE, BAND_PASS, CONTEXT_NOT_READY, CONTEXT_READY, PATH_INACTIVE, SKEW_MEASURE, LAUNCH, IGMP_REPORT (R345–R359). -/
def Obligations.media_contexts_receive_and_send : Prop :=
  (∀ t n ts row s x c r, s.rxUsed n = true → s.rxEssence n = 0 → s.rxLineExchange n = true →
    row < (rasterSize (s.rdFld (Reg.RXC_CFG n) 23 20)).2 → (s.at t).takePackets n = s.at t → (s.at t).lineDue n ts row = true →
    (s.rxc n).copies = [] → s.sourcesOf (.rxc n) = [x] → Tab.find? s.cfg.srcs x = some c → c.synced = false →
    r = (s.rxc n).rowGroups (s.rdFld (Reg.RXC_CFG n) 15 14) (rasterSize (s.rdFld (Reg.RXC_CFG n) 23 20)).1 ts row →
    ∃ u, exec (.lineDeadline t n ts row) s = .next u ∧
    Tab.get [] u.rows (lineKey x row) = inCarried (s.rdFld (Reg.RXC_CFG n) 15 14) (r.1.flatMap (groupSamples (s.rdFld (Reg.RXC_CFG n) 15 14))) ∧
    (u.rxc n).concealed = or (s.rxc n).concealed r.2 ∧ (∀ a, a ≠ lineKey x row → Tab.get [] u.rows a = Tab.get [] s.rows a) ∧
    (∀ a, u.rd a = s.rd a) ∧ u.ctl = s.ctl ∧ u.pins = s.pins ∧ u.cfg = s.cfg ∧ u.dram = s.dram) ∧
  (∀ t n ts row s c d, s.rxUsed n = true → s.rxEssence n = 0 → s.rxLineExchange n = true →
    row < (rasterSize (s.rdFld (Reg.RXC_CFG n) 23 20)).2 → (s.at t).takePackets n = s.at t → (s.at t).lineDue n ts row = true →
    (s.rxc n).copies = [c] → c.ts = ts → c.pos ≤ row → (s.rxc n).doneSeq = some d → d + 1 < c.seq → s.sourcesOf (.rxc n) = [] →
    (s.rd (Reg.RXC_CNT_LOST n)).toNat + (c.seq - d - 1) < 4294967296 → ∃ u, exec (.lineDeadline t n ts row) s = .next u ∧
    u.rd (Reg.RXC_CNT_LOST n) = BitVec.ofNat 32 ((s.rd (Reg.RXC_CNT_LOST n)).toNat + (c.seq - d - 1)) ∧ (u.rxc n).doneSeq = some c.seq ∧
    (u.rxc n).copies = (s.rxc n).copies ∧ u.rdBit (Reg.RXC_EVENT n) 2 = true ∧
    (∀ a, a ∉ [Reg.RXC_CNT_LOST n, Reg.RXC_EVENT n, Reg.MSIX_PENDING 0, Reg.MSIX_PENDING 1] → u.rd a = s.rd a) ∧ u.ctl = s.ctl ∧
    u.pins = s.pins ∧ u.cfg = s.cfg ∧ u.dram = s.dram) ∧
  (∀ t n ts band s, s.rxUsed n = true → s.rxEssence n = 0 → s.rxLineExchange n = false →
    8 * band < (rasterSize (s.rdFld (Reg.RXC_CFG n) 23 20)).2 → (s.rxc n).passed.contains (ts * 65536 + band) = false →
    (s.at t).takePackets n = s.at t → (s.at t).bandDue n ts band = true → ∃ u, exec (.bandPass t n ts band) s = .next u ∧
    (ts * 65536 + band) ∈ (u.rxc n).passed ∧ u.ctl = s.ctl ∧ u.pins = s.pins ∧ u.cfg = s.cfg ∧ u.xpt = s.xpt) ∧
  (∀ t n s, s.rxUsed n = true → s.rdBit (Reg.RXC_STATUS n) 31 = true → (s.at t).takePackets n = s.at t →
    (s.rxc n).pathA.recent (max s.now t) = false → (s.rxc n).pathB.recent (max s.now t) = false →
    ∃ u, exec (.contextNotReady t n 0) s = .next u ∧ u.rdBit (Reg.RXC_STATUS n) 31 = false ∧ u.rdBit (Reg.RXC_EVENT n) 0 = true ∧
    (u.rxc n).clean = false ∧ (u.rxc n).since = none ∧ u.ctl = s.ctl ∧ u.pins = s.pins ∧ u.cfg = s.cfg ∧ u.dram = s.dram) ∧
  (∀ t n s, s.rxUsed n = true → s.rxEssence n = 0 ∨ s.rxEssence n = 3 → s.rdBit (Reg.RXC_STATUS n) 31 = false → (s.rxc n).clean = true →
    ∃ u, exec (.contextReady t n) s = .next u ∧ u.rdBit (Reg.RXC_STATUS n) 31 = true ∧ u.rdBit (Reg.RXC_EVENT n) 1 = true ∧
    (∀ a, a ∉ [Reg.RXC_STATUS n, Reg.RXC_EVENT n, Reg.MSIX_PENDING 0, Reg.MSIX_PENDING 1] → u.rd a = s.rd a) ∧ u.med = s.med ∧
    u.ctl = s.ctl ∧ u.pins = s.pins ∧ u.cfg = s.cfg ∧ u.dram = s.dram) ∧
  (∀ t n s v, s.rxUsed n = true → s.rxEssence n = 1 ∨ s.rxEssence n = 2 → s.rdBit (Reg.RXC_STATUS n) 31 = false → (s.rxc n).since = some v →
    v + 2000000 ≤ max s.now t → (s.rxc n).pathA.recent (max s.now t) = true → ∃ u, exec (.contextReady t n) s = .next u ∧
    u.rdBit (Reg.RXC_STATUS n) 31 = true ∧ u.rdBit (Reg.RXC_EVENT n) 1 = true ∧
    (∀ a, a ∉ [Reg.RXC_STATUS n, Reg.RXC_EVENT n, Reg.MSIX_PENDING 0, Reg.MSIX_PENDING 1] → u.rd a = s.rd a) ∧ u.med = s.med ∧
    u.ctl = s.ctl ∧ u.pins = s.pins ∧ u.cfg = s.cfg ∧ u.dram = s.dram) ∧
  (∀ t n s, s.rdBit (Reg.RXC_STATUS n) 29 = true → (s.at t).takePackets n = s.at t → (s.rxc n).pathB.recent (max s.now t) = false →
    ∃ u, exec (.pathInactive t n 1) s = .next u ∧ u.rdBit (Reg.RXC_STATUS n) 29 = false ∧ u.rdBit (Reg.RXC_EVENT n) 4 = true ∧
    (∀ a, a ∉ [Reg.RXC_STATUS n, Reg.RXC_EVENT n, Reg.MSIX_PENDING 0, Reg.MSIX_PENDING 1] → u.rd a = s.rd a) ∧ u.med = s.med ∧
    u.ctl = s.ctl ∧ u.pins = s.pins ∧ u.cfg = s.cfg ∧ u.dram = s.dram) ∧
  (∀ t n s, s.rxUsed n = true → (s.rxc n).skewN ≠ 0 → ((s.rxc n).skewSum / (s.rxc n).skewN / 1000).natAbs ≤ s.rdFld (Reg.RXC_SKEW n) 15 0 →
    ∃ u, exec (.skewMeasure t n) s = .next u ∧ u.rdBit (Reg.RXC_STATUS n) 28 = false ∧ (u.rxc n).skewN = 0 ∧ (u.rxc n).skewSum = 0 ∧
    u.flt = s.flt ∧ (∀ a, a ∉ [Reg.RXC_SKEW n, Reg.RXC_STATUS n] → u.rd a = s.rd a) ∧ u.ctl = s.ctl ∧ u.pins = s.pins ∧ u.cfg = s.cfg ∧
    u.dram = s.dram) ∧
  (∀ t n s (us : Int), s.rxUsed n = true → (s.rxc n).skewN ≠ 0 → us = (s.rxc n).skewSum / (s.rxc n).skewN / 1000 →
    s.rdFld (Reg.RXC_SKEW n) 15 0 < us.natAbs → ∃ u, exec (.skewMeasure t n) s = .next u ∧ u.rdBit (Reg.RXC_STATUS n) 28 = true ∧
    u.rdFld (Reg.RXC_SKEW n) 31 16 = ofSigned 16 (clampInt (-32768) 32767 us) ∧ u.rdBit (Reg.RXC_EVENT n) 6 = true ∧
    (⟨max s.now t, 0x500 + s.rxField n, 0x51, n, 2⟩ : FaultMsg) ∈ u.flt.inbox ∧ u.ctl = s.ctl ∧ u.pins = s.pins ∧ u.cfg = s.cfg ∧
    u.dram = s.dram) ∧
  (∀ t n frame i ready la s d c port rtp, n < 8192 → s.rdFld (Reg.TXC_CFG n) 31 28 = 8 → s.rdBit (Reg.TXC_STATUS n) 30 = false →
    port = s.rdFld (Reg.TXC_PATHS n) 9 0 → s.rdBit (Reg.TXC_PATHS n) 31 = false → s.txDst n = some (d, c) → s.txLit c.tg port = true →
    s.portUp port = true → s.rdBit (Reg.MAC_STATUS port) 27 = false → twoFields c.fmt.raster = false →
    (s.at t).launchDue n frame i ready la c ≤ ((s.at t).deviceTime : Int) →
    rtp = s.rtpHead n ((frame * max 1 (s.rdFld (Reg.TXC_PKT n) 15 0) + i) % 4294967296) (frameStamp (s.tgRate c.tg) frame) (i + 1 == max 1 (s.rdFld (Reg.TXC_PKT n) 15 0)) ++ videoPayload c.fmt (max 1 (s.rdFld (Reg.TXC_PKT n) 15 0)) i ((frame * max 1 (s.rdFld (Reg.TXC_PKT n) 15 0) + i) % 4294967296) ((s.at t).videoData d c frame (max 1 (s.rdFld (Reg.TXC_PKT n) 15 0)) i) →
    ∃ u, exec (.launch t n frame i ready la) s = .next u ∧
    (u.out.drop s.out.length).head? = some (.frame port 0 (padTo 60 (s.txFrame n port (s.rd (Reg.TXC_DST_A n)).toNat rtp) ++ toLe 4 (crc32 (padTo 60 (s.txFrame n port (s.rd (Reg.TXC_DST_A n)).toNat rtp))))) ∧
    (u.txc n).sent = (s.txc n).sent + 1 ∧ (u.txc n).drop = (s.txc n).drop ∧ u.rdBit (Reg.TXC_STATUS n) 31 = true ∧ u.xpt = s.xpt ∧
    u.ctl = s.ctl ∧ u.pins = s.pins ∧ u.cfg = s.cfg ∧ u.dram = s.dram) ∧
  (∀ t n frame i ready la s d c, n < 8192 → s.rdFld (Reg.TXC_CFG n) 31 28 = 8 → s.rdBit (Reg.TXC_STATUS n) 30 = false →
    s.rdBit (Reg.TXC_PATHS n) 31 = false → s.txDst n = some (d, c) → s.txLit c.tg (s.rdFld (Reg.TXC_PATHS n) 9 0) = true →
    s.portUp (s.rdFld (Reg.TXC_PATHS n) 9 0) = false → (s.rdFld (Reg.TXC_CFG n) 30 28 = 0 →
    (s.at t).launchDue n frame i ready la c ≤ ((s.at t).deviceTime : Int)) → (s.rd (Reg.TXC_CNT_DROP n)).toNat + 1 < 4294967296 →
    ∃ u, exec (.launch t n frame i ready la) s = .next u ∧ (u.txc n).drop = (s.txc n).drop + 1 ∧ (u.txc n).sent = (s.txc n).sent ∧
    u.rd (Reg.TXC_CNT_DROP n) = BitVec.ofNat 32 ((s.rd (Reg.TXC_CNT_DROP n)).toNat + 1) ∧ u.xpt = s.xpt ∧ u.ctl = s.ctl ∧ u.pins = s.pins ∧
    u.cfg = s.cfg ∧ u.dram = s.dram) ∧
  (∀ t p q s, 4 ≤ s.power.stage → s.isEth p = true → s.portUp p = true → s.rdBit (Reg.MAC_STATUS p) 27 = false → s.power.reaping = none →
    s.memberships p ≠ [] → s.rd (Reg.MED_PORT_IPV4 p) ≠ 0 → s.rdFld (Reg.MAC_CFG p) 31 30 ≠ 1 → ∃ u, exec (.igmpReport t p q) s = .next u ∧
    u.med.joined = true ∧ u.med.reported = (if q then s.med.reported else some (max s.now t)) ∧ u.out.length = s.out.length + 1 ∧
    (∀ a, a ∉ [Reg.MAC_CNT_TX_OK_LO p, Reg.MAC_CNT_TX_OK_HI p, Reg.MAC_CNT_TX_OCTETS_LO p, Reg.MAC_CNT_TX_OCTETS_HI p] → u.rd a = s.rd a) ∧
    u.ctl = s.ctl ∧ u.pins = s.pins ∧ u.cfg = s.cfg ∧ u.dram = s.dram)

/-- PTP_EVENT_RECEIVE, ANNOUNCE_RECEIVE, ANNOUNCE_TIMEOUT, AUTO_STEP_ACCEPT, ACCEPT_STEP, SLEW_COMPLETE (R365–R375). The rate the loop filter gives is a free value within its range (log 2). PTP_SEND, DELAY_REQ_RECEIVE, PPS_IN_EDGE, PPS_IN_LOST, PPS_OUT_PULSE, PTP_TIME_FRAC_READ (R366–R379). -/
def Obligations.device_time_ptp_and_pps : Prop :=
  (∀ t k origin stamp corr s, s.ptpEnabled k = true → s.ptpPort k = 9 →
    ∃ u, exec (.ptpEventReceive t k 0 (s.rdFld Reg.PTP_CFG 7 0) 2 origin stamp corr) s = .next u ∧
    u.ptp.lastSync = some (stamp - (s.rdFld (Reg.PTPP_INGRESS_LAT k) 23 0 : Int) - origin - corr) ∧ u.ptp.rate = s.ptp.rate ∧
    u.ptp.refused = s.ptp.refused ∧ (∀ a, a ≠ Reg.PTPP_CNT_RX k → u.rd a = s.rd a) ∧ u.ctl = s.ctl ∧ u.pins = s.pins ∧ u.cfg = s.cfg ∧
    u.dram = s.dram) ∧
  (∀ t k origin stamp corr s ms (sm mean off : Int), s.ptpEnabled k = true → s.ptpPort k = 9 → s.ptp.lastSync = some ms →
    s.ctl.entered = true → s.rdBit Reg.PTP_STATUS 27 = false → s.ptp.refused = none →
    sm = origin - (stamp + (s.rdFld (Reg.PTPP_EGRESS_LAT k) 23 0 : Int)) - corr → mean = (ms + sm) / 2 →
    off = (ms - mean - toSigned 24 (s.rdFld (Reg.PTPP_ASYM k) 23 0)) / 1000 → off.natAbs ≤ s.stepLimit →
    ∃ u, exec (.ptpEventReceive t k 1 (s.rdFld Reg.PTP_CFG 7 0) 2 origin stamp corr) s = .next u ∧
    u.rd Reg.PTP_OFFSET = BitVec.ofNat 32 (sat32 off) ∧ u.rd Reg.PTP_PATH_DELAY = BitVec.ofNat 32 (sat32 (mean / 1000)) ∧
    u.ptp.rate.natAbs ≤ 200000 ∧ u.rd Reg.PTP_FREQ = BitVec.ofNat 32 (ofSigned 32 u.ptp.rate) ∧ u.ptp.offset = (s.at t).ptp.offset ∧
    u.ptp.refused = none ∧ u.tmg = s.tmg ∧ u.ctl = s.ctl ∧ u.pins = s.pins ∧ u.cfg = s.cfg ∧ u.dram = s.dram) ∧
  (∀ t k origin stamp corr s ms (sm mean off : Int), s.ptpEnabled k = true → s.ptpPort k = 9 → s.ptp.lastSync = some ms →
    s.ctl.entered = true → s.rdBit Reg.PTP_STATUS 27 = false → s.ptp.refused = none →
    sm = origin - (stamp + (s.rdFld (Reg.PTPP_EGRESS_LAT k) 23 0 : Int)) - corr → mean = (ms + sm) / 2 →
    off = (ms - mean - toSigned 24 (s.rdFld (Reg.PTPP_ASYM k) 23 0)) / 1000 → s.stepLimit < off.natAbs →
    ∃ u, exec (.ptpEventReceive t k 1 (s.rdFld Reg.PTP_CFG 7 0) 2 origin stamp corr) s = .next u ∧
    u.rd Reg.PTP_REFUSED = BitVec.ofNat 32 (sat32 off) ∧ u.rdBit Reg.PTP_STATUS 28 = true ∧ u.rdBit Reg.PTP_EVENT 3 = true ∧
    (⟨max s.now t, 0x01A, 0x52, sat32 off, 2⟩ : FaultMsg) ∈ u.flt.inbox ∧ u.ptp.refused = some ⟨max s.now t, off, off, off⟩ ∧
    u.ptp.rate = s.ptp.rate ∧ u.ptp.offset = (s.at t).ptp.offset ∧ u.ctl = s.ctl ∧ u.pins = s.pins ∧ u.cfg = s.cfg ∧ u.dram = s.dram) ∧
  (∀ t k b s, s.ptpEnabled k = true → b.domain = s.rdFld Reg.PTP_CFG 7 0 → b.version = 2 → Tab.find? s.ptp.best k = none →
    ∃ u, exec (.announceReceive t k b) s = .next u ∧
    Tab.find? u.ptp.best k = some (⟨b.priority1, b.clockClass, b.accuracy, b.variance, b.priority2, b.identity, b.steps + 1, b.sender⟩, max s.now t) ∧
    (∀ a, a < 64 → u.ptpPort a = u.portDecision u.bestAnnounce a) ∧ u.ptp.rate = s.ptp.rate ∧ u.ctl = s.ctl ∧ u.pins = s.pins ∧
    u.cfg = s.cfg ∧ u.dram = s.dram) ∧
  (∀ t k s d v, Tab.find? s.ptp.best k = some (d, v) →
    v + s.rdFld Reg.PTP_INTERVALS 3 0 * logNs (toSigned 8 (s.rdFld Reg.PTP_INTERVALS 23 16)) ≤ max s.now t → s.ptpPort k = 9 →
    ∃ u, exec (.announceTimeout t k) s = .next u ∧ Tab.find? u.ptp.best k = none ∧ u.rdBit Reg.PTP_STATUS 29 = true ∧
    u.rdBit Reg.PTP_STATUS 30 = false ∧ u.rdBit Reg.PTP_EVENT 5 = true ∧ u.ptp.rate = (s.at t).meanRate ∧ u.ctl = s.ctl ∧ u.pins = s.pins ∧
    u.cfg = s.cfg ∧ u.dram = s.dram) ∧
  (∀ t k s, Tab.find? s.ptp.best k = none → s.ptpEnabled k = true → s.ptpPort k = 4 → s.mayMaster k = true → s.ptp.best = [] →
    s.ptp.listen + s.rdFld Reg.PTP_INTERVALS 3 0 * logNs (toSigned 8 (s.rdFld Reg.PTP_INTERVALS 23 16)) ≤ max s.now t →
    ∃ u, exec (.announceTimeout t k) s = .next u ∧ u.ptpPort k = 6 ∧ u.rdBit Reg.PTP_EVENT 5 = true ∧ u.ptp = (s.at t).ptp ∧ u.ctl = s.ctl ∧
    u.pins = s.pins ∧ u.cfg = s.cfg ∧ u.dram = s.dram) ∧
  (∀ t s e, s.ptp.refused = some e → s.rdBit Reg.PTP_CFG 27 = true → e.since + 10000000000 ≤ max s.now t → s.ctl.entered = true →
    ∃ u, exec (.autoStepAccept t) s = .next u ∧ u.rdBit Reg.PTP_STATUS 27 = true ∧ u.rdBit Reg.PTP_STATUS 28 = false ∧
    u.rdBit Reg.PTP_EVENT 4 = true ∧ u.ptp.refused = none ∧ u.ptp.offset = (s.at t).ptp.offset ∧
    u.ptp.slew = (if 0 < e.last then -((100 * s.rdFld Reg.PTP_CFG 25 16 : Nat) : Int) else ((100 * s.rdFld Reg.PTP_CFG 25 16 : Nat) : Int)) ∧
    u.tmg = s.tmg ∧ u.ctl = s.ctl ∧ u.pins = s.pins ∧ u.cfg = s.cfg ∧ u.dram = s.dram) ∧
  (∀ t s e, s.ptp.refused = some e → s.ctl.entered = false → ∃ u, exec (.acceptStep t Config.confirm) s = .next u ∧
    u.ptp.offset = (s.at t).ptp.offset - e.last * 1000000000 ∧ u.ptp.refused = none ∧ u.rdBit Reg.PTP_STATUS 28 = false ∧
    u.rdBit Reg.PTP_EVENT 4 = true ∧ u.ctl = s.ctl ∧ u.pins = s.pins ∧ u.cfg = s.cfg ∧ u.dram = s.dram) ∧
  (∀ t v s, v ≠ Config.confirm → exec (.acceptStep t v) s = .next (s.at t)) ∧
  (∀ t s, s.rdBit Reg.PTP_STATUS 27 = true → (s.at t).ptp.slewLeft = 0 → ∃ u, exec (.slewComplete t) s = .next u ∧ u.ptp.slew = 0 ∧
    u.rdBit Reg.PTP_STATUS 27 = false ∧ u.ptp.offset = (s.at t).ptp.offset ∧ (∀ a, a ≠ Reg.PTP_STATUS → u.rd a = s.rd a) ∧ u.ctl = s.ctl ∧
    u.pins = s.pins ∧ u.cfg = s.cfg ∧ u.dram = s.dram) ∧
  (∀ t k kind p s, s.ptpEnabled k = true → (s.ptpPort k = 6 ∧ s.gateOpen = true ∧ (kind = 0 ∨ kind = 11)) ∨ (s.ptpPort k = 9 ∧ kind = 1) ∨
    (s.ptpPort k = 6 ∧ kind = 13) → p = s.rdFld (Reg.PTPP_CFG k) 9 0 → s.portUp p = true → s.rdBit (Reg.MAC_STATUS p) 27 = false →
    ∃ u, exec (.ptpSend t k kind) s = .next u ∧
    u.out = s.out ++ [.ptp k kind ((s.at t).deviceTime * 1000 + s.rdFld (Reg.PTPP_EGRESS_LAT k) 23 0)] ∧
    (∀ a, a ∉ [Reg.PTPP_CNT_TX k, Reg.MAC_CNT_TX_OK_LO p, Reg.MAC_CNT_TX_OK_HI p, Reg.MAC_CNT_TX_OCTETS_LO p, Reg.MAC_CNT_TX_OCTETS_HI p] →
    u.rd a = s.rd a) ∧ u.ctl = s.ctl ∧ u.pins = s.pins ∧ u.cfg = s.cfg ∧ u.dram = s.dram) ∧
  (∀ t k kind s, s.ptpPort k = 6 → s.gateOpen = false → kind ≠ 13 → exec (.ptpSend t k kind) s = .next (s.at t)) ∧
  (∀ t k p s, s.ptpEnabled k = true → s.ptpPort k = 6 → s.gateOpen = true → p = s.rdFld (Reg.PTPP_CFG k) 9 0 → s.portUp p = true →
    s.rdBit (Reg.MAC_STATUS p) 27 = false → ∃ u, exec (.delayReqReceive t k (s.rdFld Reg.PTP_CFG 7 0) 2) s = .next u ∧
    u.out = s.out ++ [.ptp k 9 ((s.at t).deviceTime * 1000 - s.rdFld (Reg.PTPP_INGRESS_LAT k) 23 0)] ∧
    (∀ a, a ∉ [Reg.PTPP_CNT_TX k, Reg.PTPP_CNT_RX k, Reg.MAC_CNT_TX_OK_LO p, Reg.MAC_CNT_TX_OK_HI p, Reg.MAC_CNT_TX_OCTETS_LO p, Reg.MAC_CNT_TX_OCTETS_HI p] →
    u.rd a = s.rd a) ∧ u.ctl = s.ctl ∧ u.pins = s.pins ∧ u.cfg = s.cfg ∧ u.dram = s.dram) ∧
  (∀ t k s, s.ptpEnabled k = true → s.ptpPort k = 6 → s.gateOpen = false →
    ∃ u, exec (.delayReqReceive t k (s.rdFld Reg.PTP_CFG 7 0) 2) s = .next u ∧ u.out = s.out ∧ (∀ a, a ≠ Reg.PTPP_CNT_RX k →
    u.rd a = s.rd a) ∧ u.ctl = s.ctl ∧ u.pins = s.pins ∧ u.cfg = s.cfg ∧ u.dram = s.dram) ∧
  (∀ t stamp s, ∃ u, exec (.ppsInEdge t stamp) s = .next u ∧ u.ptp.ppsEdge = some (stamp, max s.now t) ∧
    u.rd Reg.PTP_PPSIN_OFF = BitVec.ofNat 32 (ofSigned 32 (if stamp % 4000000000 < 2000000000 then ((stamp % 4000000000 : Nat) : Int) else ((stamp % 4000000000 : Nat) : Int) - 4000000000)) ∧
    u.rdBit Reg.PTP_EVENT 6 = true ∧ (∀ a, a ∉ [Reg.PTP_PPSIN_OFF, Reg.PTP_STATUS, Reg.PTP_EVENT, Reg.MSIX_PENDING 0, Reg.MSIX_PENDING 1] →
    u.rd a = s.rd a) ∧ u.ctl = s.ctl ∧ u.pins = s.pins ∧ u.cfg = s.cfg ∧ u.dram = s.dram) ∧
  (∀ t s v w, s.ptp.ppsEdge = some (v, w) → s.ptp.ppsPresent = true → w + 2000000000 ≤ max s.now t → ∃ u, exec (.ppsInLost t) s = .next u ∧
    u.ptp.ppsPresent = false ∧ u.ptp.ppsEdge = none ∧ u.rdBit Reg.PTP_STATUS 24 = false ∧ u.rdBit Reg.PTP_EVENT 7 = true ∧
    (∀ a, a ∉ [Reg.PTP_STATUS, Reg.PTP_EVENT, Reg.MSIX_PENDING 0, Reg.MSIX_PENDING 1] → u.rd a = s.rd a) ∧ u.ctl = s.ctl ∧ u.pins = s.pins ∧
    u.cfg = s.cfg ∧ u.dram = s.dram) ∧
  (∀ t s, s.rdFld Reg.PTP_PPSOUT_CFG 31 30 = 2 ∨ (s.rdBit Reg.PTP_PPSOUT_CFG 31 = true ∧ s.rdFld Reg.PTP_STATUS 31 30 = 3) →
    ∃ u, exec (.ppsOutPulse t) s = .next u ∧
    u.out = s.out ++ [.pulse 16 (((((s.at t).deviceTime : Int) - toSigned 30 (s.rdFld Reg.PTP_PPSOUT_OFFSET 29 0) + 500000000) / 1000000000) * 1000000000 + toSigned 30 (s.rdFld Reg.PTP_PPSOUT_OFFSET 29 0)).toNat (1000000 * s.rdFld Reg.PTP_PPSOUT_CFG 9 0)] ∧
    (∀ a, u.rd a = s.rd a) ∧ u.ctl = s.ctl ∧ u.pins = s.pins ∧ u.cfg = s.cfg ∧ u.dram = s.dram) ∧
  (∀ t s, s.rdFld Reg.PTP_PPSOUT_CFG 31 30 = 3 → s.rdBit Reg.PTP_STATUS 31 = false → exec (.ppsOutPulse t) s = .next (s.at t)) ∧
  (∀ t s ns, ns = (s.at t).fineTime / 1000000000 → ∃ u, exec (.ptpTimeFracRead t) s = .next u ∧
    u.rd Reg.PTP_TIME_NS = BitVec.ofNat 32 (ns % 1000000000) ∧ u.rd Reg.PTP_TIME_SEC_LO = BitVec.ofNat 32 (ns / 1000000000) ∧
    u.rd Reg.PTP_TIME_SEC_HI = BitVec.ofNat 32 (ns / 1000000000 / 4294967296 % 65536) ∧
    u.rd Reg.PTP_TIME_FRAC = BitVec.ofNat 32 ((s.at t).fineTime % 1000000000 * 65536 / 1000000000) ∧
    u.out = s.out ++ [.read Reg.PTP_TIME_FRAC (u.rd Reg.PTP_TIME_FRAC).toNat] ∧
    (∀ a, a ∉ [Reg.PTP_TIME_FRAC, Reg.PTP_TIME_NS, Reg.PTP_TIME_SEC_LO, Reg.PTP_TIME_SEC_HI] → u.rd a = s.rd a) ∧ u.ctl = s.ctl ∧
    u.pins = s.pins ∧ u.cfg = s.cfg ∧ u.dram = s.dram)

/-- REFRESH_DUE, MR4_POLL, MR4_POLL_CMD, DRAM_TRAIN_CMD, DRC_RATE_WRITE, ZQ_CALIBRATION, ZQ_LATCH, RT_REQUEST_COMPLETE (R387–R399). -/
def Obligations.dram_is_refreshed_trained_and_calibrated : Prop :=
  (∀ t c w s, s.refreshes c = true → 0 < s.ranks → (s.at t).refreshFalls c 0 = true → s.burstOn c 0 (some w) = true →
    (s.drcRun c).owed0 < 8 → ∃ u, exec (.refreshDue t c 0 (some w) 0) s = .next u ∧ ((u.drcRun c).rank 0).due = max s.now t ∧
    (u.drcRun c).owed0 = (s.drcRun c).owed0 + 1 ∧ (u.drcRun c).owed1 = (s.drcRun c).owed1 ∧ (∀ a, a ≠ c → u.drcRun a = s.drcRun a) ∧
    (∀ a, a ≠ Reg.DRCC_STATUS c → u.rd a = s.rd a) ∧ u.ctl = s.ctl ∧ u.pins = s.pins ∧ u.cfg = s.cfg ∧ u.dram = s.dram) ∧
  (∀ t c w s, s.refreshes c = true → s.ranks = 2 → (s.at t).refreshFalls c 1 = true → s.burstOn c 1 (some w) = true →
    (s.drcRun c).owed1 = 8 → (s.rd Reg.DRC_CNT_PREEMPT).toNat + 1 < 4294967296 → ∃ u, exec (.refreshDue t c 1 (some w) 0) s = .next u ∧
    (u.drcRun c).owed1 = 8 ∧ u.rd Reg.DRC_CNT_PREEMPT = BitVec.ofNat 32 ((s.rd Reg.DRC_CNT_PREEMPT).toNat + 1) ∧
    u.rdBit Reg.DRC_EVENT 6 = true ∧
    (∀ a, a ∉ [Reg.DRCC_STATUS c, Reg.DRC_CNT_PREEMPT, Reg.DRCC_CNT_PREEMPT c, Reg.DRC_EVENT, Reg.MSIX_PENDING 0, Reg.MSIX_PENDING 1] →
    u.rd a = s.rd a) ∧ u.ctl = s.ctl ∧ u.pins = s.pins ∧ u.cfg = s.cfg ∧ u.dram = s.dram) ∧
  (∀ t c p s, s.refreshes c = true → 0 < s.ranks → (s.at t).refreshFalls c 0 = true → ∃ u, exec (.refreshDue t c 0 none p) s = .next u ∧
    (u.drcRun c).owed0 = (s.drcRun c).owed0 - p ∧ ((u.drcRun c).rank 0).until_ = max s.now t + s.refreshBusy ∧ (∀ a, a ≠ Reg.DRCC_STATUS c →
    u.rd a = s.rd a) ∧ u.ctl = s.ctl ∧ u.pins = s.pins ∧ u.cfg = s.cfg ∧ u.dram = s.dram) ∧
  (∀ t c rank b p s, (s.at t).refreshFalls c rank = false → exec (.refreshDue t c rank b p) s = .next (s.at t)) ∧
  (∀ t c r0 r1 s, s.refreshes c = true → s.ranks = 2 → r0 < 8 → r1 < 8 → 4 ≤ max r0 r1 → max r0 r1 < 6 →
    s.rdBit (Reg.DRCC_STATUS c) 29 = false → ∃ u, exec (.mr4Poll t c r0 r1) s = .next u ∧ u.rdBit (Reg.DRCC_STATUS c) 29 = true ∧
    u.rdFld (Reg.DRCC_STATUS c) 22 20 = r0 ∧ u.rdFld (Reg.DRCC_STATUS c) 26 24 = r1 ∧ u.rdBit Reg.DRC_EVENT 3 = true ∧
    u.rdBit Reg.DRC_STATUS (c / 4) = true ∧ u.flt = s.flt ∧ u.ctl = s.ctl ∧ u.pins = s.pins ∧ u.cfg = s.cfg ∧ u.dram = s.dram) ∧
  (∀ t c r0 r1 s, s.refreshes c = true → s.ranks = 2 → r0 < 4 → r1 < 4 → s.rdBit (Reg.DRCC_STATUS c) 29 = true → 1 ≤ (s.drcRun c).normal →
    ∃ u, exec (.mr4Poll t c r0 r1) s = .next u ∧ u.rdFld (Reg.DRCC_STATUS c) 29 28 = 0 ∧ u.rdFld (Reg.DRCC_STATUS c) 22 20 = r0 ∧
    (u.drcRun c).normal = 0 ∧ u.flt = s.flt ∧ (∀ a, a ∉ [Reg.DRCC_STATUS c, Reg.DRC_STATUS] → u.rd a = s.rd a) ∧ u.ctl = s.ctl ∧
    u.pins = s.pins ∧ u.cfg = s.cfg ∧ u.dram = s.dram) ∧
  (∀ t c r0 r1 s, s.refreshes c = true → s.ranks = 2 → r0 < 4 → r1 < 4 → s.rdBit (Reg.DRCC_STATUS c) 29 = true →
    ∃ u, exec (.mr4PollCmd t Config.confirm [(c, r0, r1)]) s = .next u ∧
    (u.drcRun c).normal = (if 2 ≤ (s.drcRun c).normal then 0 else (s.drcRun c).normal) ∧ u.rdFld (Reg.DRCC_STATUS c) 22 20 = r0 ∧
    u.rdFld (Reg.DRCC_STATUS c) 26 24 = r1 ∧ u.flt = s.flt ∧ (∀ a, a ∉ [Reg.DRCC_STATUS c, Reg.DRC_STATUS] → u.rd a = s.rd a) ∧
    u.ctl = s.ctl ∧ u.pins = s.pins ∧ u.cfg = s.cfg ∧ u.dram = s.dram) ∧
  (∀ t s, s.ctl.mode = .test → s.rdBit Reg.DRC_STATUS 30 = false → ∃ u, exec (.dramTrainCmd t Config.confirm) s = .next u ∧
    u.rdFld Reg.DRC_STATUS 31 30 = 1 ∧ u.rd Reg.DRC_TRAIN_STATUS = 0x10000000 ∧ u.dram = [] ∧ u.drc.rate = s.rdFld Reg.DRC_CFG 31 30 ∧
    u.drc.trainAt = max s.now t ∧ u.ctl = s.ctl ∧ u.cfg = s.cfg) ∧
  (∀ t v s, s.ctl.mode ≠ .test ∨ v ≠ Config.confirm → exec (.dramTrainCmd t v) s = .next (s.at t)) ∧
  (∀ t r s, r < 3 → s.ctl.mode = .test → s.rdBit Reg.DRC_STATUS 30 = false → ∃ u, exec (.drcRateWrite t r) s = .next u ∧
    u.rdFld Reg.DRC_CFG 31 30 = r ∧ u.drc = s.drc ∧ (∀ a, a ≠ Reg.DRC_CFG → u.rd a = s.rd a) ∧ u.ctl = s.ctl ∧ u.pins = s.pins ∧
    u.cfg = s.cfg ∧ u.dram = s.dram) ∧
  (∀ t r s, r < 3 → (s.ctl.mode = .test ∧ s.rdBit Reg.DRC_STATUS 30 = true) ∨ (s.ctl.mode = .boot ∧ 2 ≤ s.power.stage) →
    ∃ u, exec (.drcRateWrite t r) s = .next u ∧ u.rdBit Reg.DRC_EVENT 2 = true ∧ u.drc = s.drc ∧
    (∀ a, a ∉ [Reg.DRC_EVENT, Reg.MSIX_PENDING 0, Reg.MSIX_PENDING 1] → u.rd a = s.rd a) ∧ u.ctl = s.ctl ∧ u.pins = s.pins ∧ u.cfg = s.cfg ∧
    u.dram = s.dram) ∧
  (∀ t g s, s.groupUsed g = true → s.refreshes (4 * g) = true → (s.res (66 + g)).running = none →
    ∃ u, exec (.zqCalibration t g) s = .next u ∧ (u.res (66 + g)).running = some ⟨4, g⟩ ∧ Tab.get 0 u.drc.zqAt g = max s.now t ∧
    (∀ a, a ≠ 66 + g → u.res a = s.res a) ∧ (∀ a, u.rd a = s.rd a) ∧ u.ctl = s.ctl ∧ u.pins = s.pins ∧ u.cfg = s.cfg ∧ u.dram = s.dram) ∧
  (∀ t g s, (s.res (66 + g)).running = some ⟨4, g⟩ → (s.res (66 + g)).queue = [] → Tab.get 0 s.drc.zqAt g + 1000 ≤ max s.now t →
    ∃ u, exec (.zqLatch t g) s = .next u ∧ (u.res (66 + g)).running = none ∧ (∀ a, a ≠ 66 + g → u.res a = s.res a) ∧
    (∀ a, u.rd a = s.rd a) ∧ u.ctl = s.ctl ∧ u.pins = s.pins ∧ u.cfg = s.cfg ∧ u.dram = s.dram) ∧
  (∀ t c dl i n s, s.chanUsed c = true → dl < max s.now t → (s.rd Reg.DRC_CNT_RT_LATE).toNat + 1 < 4294967296 →
    ∃ u, exec (.rtRequestComplete t c false dl i n) s = .next u ∧
    u.rd Reg.DRC_CNT_RT_LATE = BitVec.ofNat 32 ((s.rd Reg.DRC_CNT_RT_LATE).toNat + 1) ∧ u.rdBit Reg.DRC_EVENT 5 = true ∧
    (⟨max s.now t, 0x0A0 + c, 0x24, c, 2⟩ : FaultMsg) ∈ u.flt.inbox ∧ u.fst.late = (i, n) :: s.fst.late ∧
    (∀ a, a ∉ [Reg.DRC_CNT_RT_LATE, Reg.DRC_EVENT, Reg.MSIX_PENDING 0, Reg.MSIX_PENDING 1] → u.rd a = s.rd a) ∧ u.ctl = s.ctl ∧
    u.pins = s.pins ∧ u.cfg = s.cfg ∧ u.dram = s.dram)

/-- FAULT_ACCEPTED, FAULT_RECORD_REMOVE, FLT_ACK, FLT_OPEN_CLEAR, HOLD_EXPIRY, FLT_KICK, WATCHDOG_EXPIRY, ALIVE_EDGE, THERMAL_READ, MAINTENANCE_REQUEST, MAINTENANCE_DONE, SERVICE_PERIOD (R404–R416). CHECKPOINT, CHECKPOINT_DUE, LIFE_WRITE_DONE (R417, R419, R426). -/
def Obligations.faults_maintenance_and_life_log : Prop :=
  (∀ t s m rest, s.flt.inbox = m :: rest → m.time ≤ max s.now t → m.cls ≤ 2 → s.isOpen (healthUnit m.source) m.cls = false →
    s.flt.closed = [] → s.flt.fifo = [] → (s.rd (Reg.FLT_CNT_C m.cls)).toNat + 1 < 4294967296 → ∃ u, exec (.faultAccepted t) s = .next u ∧
    u.flt.inbox = rest ∧ u.flt.fifo = [⟨(s.at t).deviceTime % 281474976710656, m.source, m.cls, false, m.addr, 1, m.kind⟩] ∧
    u.isOpen (healthUnit m.source) m.cls = true ∧ u.rd (Reg.FLT_CNT_C m.cls) = BitVec.ofNat 32 ((s.rd (Reg.FLT_CNT_C m.cls)).toNat + 1) ∧
    u.rdBit Reg.FLT_EVENT 0 = true ∧
    (∀ a, a ∉ [Reg.FLT_OPEN_C m.cls, Reg.FLT_CNT_C m.cls, Reg.FLT_EVENT, Reg.MSIX_PENDING 0, Reg.MSIX_PENDING 1] → u.rd a = s.rd a) ∧
    u.ctl = s.ctl ∧ u.pins = s.pins ∧ u.cfg = s.cfg ∧ u.dram = s.dram) ∧
  (∀ t s m rest, s.flt.inbox = m :: rest → m.time ≤ max s.now t → s.ctl.mode = .service → m.cls = 4 ∨ (m.cls = 3 ∧
    s.isOpen (healthUnit m.source) 3 = true) → m.kind < 256 → m.source < 4096 → ∃ u, exec (.faultAccepted t) s = .next u ∧
    u.ctl.mode = .safe ∧ u.pins.keyOut = false ∧ u.rd Reg.TOP_SAFE_CAUSE = BitVec.ofNat 32 (m.kind * 16777216 + m.source * 4096 + 2) ∧
    u.flt.aliveRuns = false ∧ (m.cls = 3 → u.rdBit Reg.FLT_EVENT 2 = true) ∧ u.cfg = s.cfg) ∧
  (∀ t s r rest, s.flt.fifo = r :: rest → ∃ u, exec (.faultRecordRemove t) s = .next u ∧ u.flt.fifo = rest ∧
    u.out = s.out ++ [.read (Reg.FLT_REC 3) (r.word 3).toNat] ∧ (∀ a, u.rd a = s.rd a) ∧ u.ctl = s.ctl ∧ u.pins = s.pins ∧ u.cfg = s.cfg ∧
    u.dram = s.dram) ∧
  (∀ t x cl s, ∃ u, exec (.fltAck t x cl) s = .next u ∧
    u.flt.opened = (s.flt.opened.filter fun o => !(o.unit == x && cl.testBit o.cls && decide (o.since < max s.now t))) ∧
    u.flt.fifo = s.flt.fifo ∧ (∀ a, a ∉ [Reg.FLT_OPEN_C 0, Reg.FLT_OPEN_C 1, Reg.FLT_OPEN_C 2, Reg.FLT_OPEN_C 3] ∧
    (∀ o ∈ s.flt.opened, o.cls ≤ 3) → u.rd a = s.rd a) ∧ u.ctl = s.ctl ∧ u.pins = s.pins ∧ u.cfg = s.cfg ∧ u.dram = s.dram) ∧
  (∀ t x mask s, ∀ o ∈ s.flt.opened, o.cls ≤ 3 → x ≤ 3 → ∃ u, exec (.fltOpenClear t x mask) s = .next u ∧
    u.flt.opened = (s.flt.opened.filter fun o => !(o.cls == x && mask.testBit o.unit && decide (o.since < max s.now t))) ∧
    u.flt.fifo = s.flt.fifo ∧ (∀ a, a ≠ Reg.FLT_OPEN_C x → u.rd a = s.rd a) ∧ ((∀ o ∈ s.flt.opened, o.since < max s.now t) →
    ∀ o ∈ s.flt.opened, o.cls = x → o.unit < 32 → mask.testBit o.unit = true → u.isOpen o.unit x = false) ∧ u.ctl = s.ctl ∧
    u.pins = s.pins ∧ u.cfg = s.cfg ∧ u.dram = s.dram) ∧
  (∀ t s, ∀ o ∈ s.flt.opened, o.cls ≤ 3 → ∃ u, exec (.holdExpiry t) s = .next u ∧
    u.flt.opened = (s.flt.opened.filter fun o => !(kindHolds o.kind && ((o.cls == 2 && decide (o.since + (1000000000 + 100000000 * s.rdFld Reg.FLT_CFG 7 1) ≤ max s.now t)) || (o.cls == 3 && decide (o.since + 1000000000 * max 1 (s.rdFld Reg.FLT_CFG 15 8) ≤ max s.now t))))) ∧
    u.flt.fifo = s.flt.fifo ∧ (∀ a, a ∉ [Reg.FLT_OPEN_C 2, Reg.FLT_OPEN_C 3] → u.rd a = s.rd a) ∧ u.ctl = s.ctl ∧ u.pins = s.pins ∧
    u.cfg = s.cfg ∧ u.dram = s.dram) ∧
  (∀ t s, ∃ u, exec (.fltKick t) s = .next u ∧ u.flt = { s.flt with lastKick := max s.now t } ∧ (∀ a, u.rd a = s.rd a) ∧ u.ctl = s.ctl ∧
    u.pins = s.pins ∧ u.cfg = s.cfg ∧ u.dram = s.dram) ∧
  (∀ t pc s, s.flt.armed = true → s.kicking = true → (s.at t).kickFalls = false → s.flt.lastKick + 2000000 ≤ max s.now t →
    ∃ u, exec (.watchdogExpiry t pc) s = .next u ∧ u.flt.aliveRuns = false ∧ u.flt.armed = false ∧ u.pins.keyOut = false ∧
    (⟨max s.now t, 0x004, 0x01, pc % 4294967296, 4⟩ : FaultMsg) ∈ u.flt.inbox ∧ u.pins.alive = s.pins.alive ∧ u.ctl = s.ctl ∧
    u.dram = s.dram) ∧
  (∀ t pc s, max s.now t < s.flt.lastKick + 2000000 → exec (.watchdogExpiry t pc) s = .next (s.at t)) ∧
  (∀ t s, s.flt.aliveRuns = true → s.flt.aliveEdge + 500000 ≤ max s.now t → ∃ u, exec (.aliveEdge t) s = .next u ∧
    u.pins = { s.pins with alive := !s.pins.alive } ∧ u.flt = { s.flt with aliveEdge := max s.now t } ∧ u.ctl = s.ctl ∧
    (∀ a, u.rd a = s.rd a) ∧ u.dram = s.dram) ∧
  (∀ t (x : Int) s, s.flt.trips = false → 840 < x → x ≤ 960 → (Tab.get coldDiode s.flt.diodes 0).high = 9 →
    (Tab.get coldDiode s.flt.diodes 0).raised = false → ∃ u, exec (.thermalRead t [x]) s = .next u ∧
    (⟨max s.now t, 0x004, 0x07, 0, 3⟩ : FaultMsg) ∈ u.flt.inbox ∧ u.rd (Reg.TOP_TEMP 0) = BitVec.ofNat 32 (2147483648 + ofSigned 12 x) ∧
    (Tab.get coldDiode u.flt.diodes 0).raised = true ∧ u.flt.trips = false ∧ u.ctl = s.ctl ∧ u.pins = s.pins ∧ u.cfg = s.cfg ∧
    u.dram = s.dram) ∧
  (∀ t (xs : List Int) s, xs.length = 17 → (∀ x ∈ xs, x ≤ 840) → ∃ u, exec (.thermalRead t xs) s = .next u ∧ u.flt.inbox = s.flt.inbox ∧
    u.flt.trips = s.flt.trips ∧ (∀ d ∈ List.range 17, u.rd (Reg.TOP_TEMP d) = BitVec.ofNat 32 (2147483648 + ofSigned 12 (xs.getD d 0))) ∧
    (∀ d ∈ List.range 17, (Tab.get coldDiode u.flt.diodes d).high = 0) ∧ u.ctl = s.ctl ∧ u.pins = s.pins ∧ u.cfg = s.cfg ∧
    u.dram = s.dram) ∧
  (∀ t r code x s, s.resPresent r = true → periodicOn r code = true → (s.res r).running = none →
    ∃ u, exec (.maintenanceRequest t r code x) s = .next u ∧ (u.res r).running = some ⟨code, x⟩ ∧ (u.res r).queue = (s.res r).queue ∧
    (∀ a, a ≠ r → u.res a = s.res a) ∧ (∀ a, u.rd a = s.rd a) ∧ u.ctl = s.ctl ∧ u.pins = s.pins ∧ u.cfg = s.cfg ∧ u.dram = s.dram) ∧
  (∀ t r code x s v, s.resPresent r = true → periodicOn r code = true → (s.res r).running = some v → (s.res r).began ≠ some (max s.now t) →
    16 ≤ (s.res r).queue.length → ∃ u, exec (.maintenanceRequest t r code x) s = .next u ∧
    u.res r = { s.res r with refused := min ((s.res r).refused + 1) 65535 } ∧ (∀ a, u.rd a = s.rd a) ∧ u.ctl = s.ctl ∧ u.pins = s.pins ∧
    u.cfg = s.cfg ∧ u.dram = s.dram) ∧
  (∀ t r s v b rest, (s.res r).running = some v → v.code ∈ [4, 5, 6, 8] → (s.res r).queue = b :: rest → b.code ∈ [4, 5, 6, 8] →
    ∃ u, exec (.maintenanceDone t r) s = .next u ∧ (u.res r).running = some b ∧ (u.res r).queue = rest ∧ (∀ a, a ≠ r → u.res a = s.res a) ∧
    (∀ a, u.rd a = s.rd a) ∧ u.ctl = s.ctl ∧ u.pins = s.pins ∧ u.cfg = s.cfg ∧ u.dram = s.dram) ∧
  (∀ t s, s.ctl.mode ≠ .boot → s.boot.romFallback = false → s.xpt.pending = [] → s.flt.toAppend = [] → s.rdBit Reg.FLT_CFG 0 = false →
    (∀ o ∈ s.flt.opened, o.cls ≤ 3) → ∃ u, exec (.servicePeriod t) s = .next u ∧
    u.flt.opened = (s.flt.opened.filter fun o => decide (max s.now t ≤ o.since) || (decide (1 < o.cls) && !s.condHolds o)) ∧
    u.flt.fifo = s.flt.fifo ∧ u.ctl = s.ctl ∧ u.pins = s.pins ∧ u.dram = s.dram) ∧
  (∀ t s, s.ctl.mode = .boot → exec (.servicePeriod t) s = .next (s.at t)) ∧
  (∀ t s, s.lifeReady = true → s.life.queued = [] → (s.res flashRes).running = none → ∃ u, exec (.checkpoint t Config.confirm) s = .next u ∧
    u.life.queued = [none] ∧ u.life.writing = 1 ∧ (u.res flashRes).running = some ⟨1, 0⟩ ∧ (∀ a, u.rd a = s.rd a) ∧ u.ctl = s.ctl ∧
    u.pins = s.pins ∧ u.cfg = s.cfg ∧ u.dram = s.dram) ∧
  (∀ t v s, v ≠ Config.confirm → exec (.checkpoint t v) s = .next (s.at t)) ∧
  (∀ t s, s.lifeReady = true → s.boot.romFallback = false → s.life.lastCheckpoint + 600000000000 ≤ max s.now t → s.life.eventDue = false →
    s.flt.toAppend = [] → (s.at t).severeComes = false → s.life.queued = [] → ∃ u, exec (.checkpointDue t) s = .next u ∧
    u.life.queued = [none] ∧ u.life.lastCheckpoint = max s.now t ∧ u.life.lastEvent = s.life.lastEvent ∧ (∀ a, u.rd a = s.rd a) ∧
    u.ctl = s.ctl ∧ u.pins = s.pins ∧ u.cfg = s.cfg ∧ u.dram = s.dram) ∧
  (∀ t s, s.lifeReady = true → s.boot.romFallback = false → max s.now t < s.life.lastCheckpoint + 600000000000 → s.life.eventDue = true →
    s.life.lastEvent = none → s.life.writing = 0 → s.life.queued = [none] → s.flt.toAppend = [] → (s.at t).severeComes = false →
    ∃ u, exec (.checkpointDue t) s = .next u ∧ u.life.queued = [none] ∧ u.life.eventDue = false ∧ u.life.lastEvent = some (max s.now t) ∧
    u.life.lastCheckpoint = s.life.lastCheckpoint ∧ (∀ a, u.rd a = s.rd a) ∧ u.ctl = s.ctl ∧ u.pins = s.pins ∧ u.cfg = s.cfg ∧
    u.dram = s.dram) ∧
  (∀ t s r, (s.res flashRes).running = some ⟨1, 0⟩ → s.life.queued = [some r] → s.life.writing = 1 → s.life.writeAt + 64 ≤ 65536 →
    (s.res flashRes).queue = [] → ∃ u, exec (.lifeWriteDone t true) s = .next u ∧ u.life.severe.head? = some ⟨(s.at t).calendar.1, r⟩ ∧
    u.life.writeAt = s.life.writeAt + 64 ∧ u.life.entrySeq = s.life.entrySeq + 1 ∧ u.life.queued = [] ∧ (u.res flashRes).running = none ∧
    (∀ a, u.rd a = s.rd a) ∧ u.ctl = s.ctl ∧ u.pins = s.pins ∧ u.cfg = s.cfg ∧ u.dram = s.dram) ∧
  (∀ t s, (s.res flashRes).running = some ⟨1, 0⟩ → ∃ u, exec (.lifeWriteDone t false) s = .next u ∧
    u.life.writeAt = (s.life.writeAt / 256 + 1) * 256 ∧ u.life.queued = s.life.queued ∧ (u.res flashRes).running = some ⟨1, 0⟩ ∧
    u.rdBit Reg.LIFE_EVENT 2 = true ∧
    (⟨max s.now t, 0x098, 0x11, (sectorAt s.life.sector + s.life.writeAt) % 4294967296, 2⟩ : FaultMsg) ∈ u.flt.inbox ∧ u.flash = s.flash ∧
    (∀ a, a ∉ [Reg.LIFE_EVENT, Reg.MSIX_PENDING 0, Reg.MSIX_PENDING 1] → u.rd a = s.rd a) ∧ u.ctl = s.ctl ∧ u.pins = s.pins ∧
    u.cfg = s.cfg ∧ u.dram = s.dram)

/-- CARD_PORT_LINK_DOWN, CARD_PORT_RESET, CARD_PORT_LINK_UP, PCIE_CONFIGURATION_REQUEST, BAR2_ACCESS, SPI_READ, SPI_WRITE, SPI_STATUS, MSIX_UNMASK, MBX_GO (R427–R436). -/
def Obligations.card_port_resets_links_and_transfers : Prop :=
  (∀ t s, s.pcie.linkUp = true → s.card.outstanding = [] → (s.rd Reg.CPT_CNT_LINK_DOWN).toNat + 1 < 4294967296 →
    ∃ u, exec (.cardPortLinkDown t) s = .next u ∧
    u.pcie = { s.pcie with linkUp := false, speed := 0, width := 0, bar0 := 0, bar2 := 0, busMaster := false, msixEn := false, msixMask := false, d3hot := false } ∧
    u.rd Reg.CPT_CNT_LINK_DOWN = BitVec.ofNat 32 ((s.rd Reg.CPT_CNT_LINK_DOWN).toNat + 1) ∧ u.rdBit Reg.CPT_EVENT 2 = true ∧
    (⟨max s.now t, 0x008, 0x53, 0, 3⟩ : FaultMsg) ∈ u.flt.inbox ∧ (∀ a, a ∉ [Reg.CPT_CNT_LINK_DOWN, Reg.CPT_EVENT] ∧ isMsix a = false →
    u.rd a = s.rd a) ∧ u.dma = s.dma ∧ u.ctl = s.ctl ∧ u.pins = s.pins ∧ u.cfg = s.cfg ∧ u.dram = s.dram) ∧
  (∀ t s, s.card.outstanding = [] → ∃ u, exec (.cardPortReset t true) s = .next u ∧
    u.pcie = { s.pcie with bar0 := 0, bar2 := 0, busMaster := false, msixEn := false, msixMask := false, d3hot := false } ∧
    (∀ a, isMsix a = false → u.rd a = s.rd a) ∧ u.flt = s.flt ∧ u.dma = s.dma ∧ u.ctl = s.ctl ∧ u.pins = s.pins ∧ u.cfg = s.cfg ∧
    u.dram = s.dram) ∧
  (∀ t s, s.card.outstanding = [] → ∃ u, exec (.cardPortReset t false) s = .next u ∧ u.pcie.linkUp = false ∧ u.pcie.bar0 = 0 ∧
    u.pcie.msixEn = false ∧ (∀ a, a ∉ [Reg.CPT_CNT_LINK_DOWN, Reg.CPT_EVENT] ∧ isMsix a = false → u.rd a = s.rd a) ∧ u.dma = s.dma ∧
    u.ctl = s.ctl ∧ u.pins = s.pins ∧ u.cfg = s.cfg ∧ u.dram = s.dram) ∧
  (∀ t sp w s, s.spiMode = false → s.pcie.linkUp = false → s.rdBit Reg.SYN_STATUS 31 = true → 1 ≤ sp ∧ sp ≤ 3 → w ∈ [1, 2, 4] →
    ∃ u, exec (.cardPortLinkUp t sp w) s = .next u ∧ u.pcie = { s.pcie with linkUp := true, speed := sp, width := w } ∧
    u.rdBit Reg.CPT_EVENT 3 = true ∧ (∀ a, a ∉ [Reg.CPT_EVENT, Reg.MSIX_PENDING 0, Reg.MSIX_PENDING 1] → u.rd a = s.rd a) ∧ u.ctl = s.ctl ∧
    u.pins = s.pins ∧ u.cfg = s.cfg ∧ u.dram = s.dram) ∧
  (∀ t x s, s.pcie.linkUp = true → ∃ u, exec (.pcieConfigurationRequest t (.bar0 x)) s = .next u ∧
    u.pcie = { s.pcie with bar0 := x / 16777216 * 16777216 % 18446744073709551616 } ∧ (∀ a, u.rd a = s.rd a) ∧ u.ctl = s.ctl ∧
    u.pins = s.pins ∧ u.cfg = s.cfg ∧ u.dram = s.dram) ∧
  (∀ t x s, s.pcie.linkUp = true → ∃ u, exec (.pcieConfigurationRequest t (.bar2 x)) s = .next u ∧
    u.pcie = { s.pcie with bar2 := x / 1073741824 * 1073741824 % 18446744073709551616 } ∧ (∀ a, u.rd a = s.rd a) ∧ u.ctl = s.ctl ∧
    u.pins = s.pins ∧ u.cfg = s.cfg ∧ u.dram = s.dram) ∧
  (∀ t b s, s.pcie.linkUp = true → ∃ u, exec (.pcieConfigurationRequest t (.d3hot b)) s = .next u ∧ u.pcie = { s.pcie with d3hot := b } ∧
    (∀ a, u.rd a = s.rd a) ∧ u.ctl = s.ctl ∧ u.pins = s.pins ∧ u.cfg = s.cfg ∧ u.dram = s.dram) ∧
  (∀ t b s, s.pcie.linkUp = true → ∃ u, exec (.pcieConfigurationRequest t (.busMaster b)) s = .next u ∧
    u.pcie = { s.pcie with busMaster := b } ∧ (∀ a, u.rd a = s.rd a) ∧ u.ctl = s.ctl ∧ u.pins = s.pins ∧ u.cfg = s.cfg ∧ u.dram = s.dram) ∧
  (∀ t en mask s, s.pcie.linkUp = true → ∃ u, exec (.pcieConfigurationRequest t (.msix en mask)) s = .next u ∧
    u.pcie = { s.pcie with msixEn := en, msixMask := mask } ∧ (∀ a, a ∉ [Reg.MSIX_PENDING 0, Reg.MSIX_PENDING 1] → u.rd a = s.rd a) ∧
    u.ctl = s.ctl ∧ u.pins = s.pins ∧ u.cfg = s.cfg ∧ u.dram = s.dram) ∧
  (∀ t x bs s, s.pcie.linkUp = true → s.pcie.d3hot = false → x < 1073741824 → x + bs.length ≤ s.mgmtSize →
    s.touchesProt (s.mgmtBase + x) bs.length = false → s.dramSpan (s.mgmtBase + x) bs.length = true →
    ∃ u, exec (.bar2Access t x 0 true bs) s = .next u ∧ u.dramBytes (s.mgmtBase + x) bs.length = bs ∧ (∀ a, a < s.mgmtBase + x ∨
    s.mgmtBase + x + bs.length ≤ a → Tab.get Config.blankByte u.dram a = Tab.get Config.blankByte s.dram a) ∧ (∀ a, u.rd a = s.rd a) ∧
    u.ctl = s.ctl ∧ u.pins = s.pins ∧ u.cfg = s.cfg) ∧
  (∀ t x n s, s.pcie.linkUp = true → s.pcie.d3hot = false → x < 1073741824 → x + n ≤ s.mgmtSize → s.dramSpan (s.mgmtBase + x) n = true →
    ∃ u, exec (.bar2Access t x n false []) s = .next u ∧ u.out = s.out ++ [.readBytes x (s.dramBytes (s.mgmtBase + x) n)] ∧
    (∀ a, u.rd a = s.rd a) ∧ u.ctl = s.ctl ∧ u.pins = s.pins ∧ u.cfg = s.cfg ∧ u.dram = s.dram) ∧
  (∀ t x n s, s.pcie.linkUp = true → s.pcie.d3hot = false → x < 1073741824 → s.mgmtSize < x + n →
    (s.rd Reg.CPT_CNT_BAR2_OUTSIDE).toNat + 1 < 4294967296 → ∃ u, exec (.bar2Access t x n false []) s = .next u ∧
    u.out.getLast? = some (.readBytes x (List.replicate n 0)) ∧
    u.rd Reg.CPT_CNT_BAR2_OUTSIDE = BitVec.ofNat 32 ((s.rd Reg.CPT_CNT_BAR2_OUTSIDE).toNat + 1) ∧ u.rdBit Reg.CPT_EVENT 6 = true ∧
    (∀ a, a ∉ [Reg.CPT_CNT_BAR2_OUTSIDE, Reg.CPT_EVENT, Reg.MSIX_PENDING 0, Reg.MSIX_PENDING 1] → u.rd a = s.rd a) ∧ u.ctl = s.ctl ∧
    u.pins = s.pins ∧ u.cfg = s.cfg ∧ u.dram = s.dram) ∧
  (∀ t x s, s.spiMode = true → ∃ u, exec (.spiRead t x 1 false) s = .next u ∧ u = (s.at t).readOut (x % 16777216 / 4 * 4)) ∧
  (∀ t x w aux s, s.spiMode = true → ∃ u, exec (.spiWrite t x [w] false aux) s = .next u ∧
    u = (s.at t).busWrite aux true (x % 16777216 / 4 * 4) (BitVec.ofNat 32 w)) ∧
  (∀ t s, s.spiMode = true → ∃ u, exec (.spiStatus t) s = .next u ∧
    u.out = s.out ++ [.spiStatus (b2n s.card.spiLate + 2 * b2n s.card.spiPartial)] ∧
    u.card = { s.card with spiLate := false, spiPartial := false } ∧ (∀ a, u.rd a = s.rd a) ∧ u.ctl = s.ctl ∧ u.pins = s.pins ∧
    u.cfg = s.cfg ∧ u.dram = s.dram) ∧
  (∀ t v s, v < 49 → s.pcie.msixEn = true → s.pcie.msixMask = false → s.rdBit (Reg.MSIX_PENDING (v / 32)) (v % 32) = true →
    s.vecCond v = true → ∃ u, exec (.msixUnmask t v) s = .next u ∧
    u.out = s.out ++ [.msix v (s.rd64 (Reg.MSIX_ADDR_LO v) (Reg.MSIX_ADDR_HI v)) (s.rd (Reg.MSIX_DATA v)).toNat] ∧
    u.rdBit (Reg.MSIX_PENDING (v / 32)) (v % 32) = false ∧ u.rdBit (Reg.MSIX_CTRL v) 0 = false ∧
    (∀ a, a ∉ [Reg.MSIX_PENDING (v / 32), Reg.MSIX_CTRL v] → u.rd a = s.rd a) ∧ u.ctl = s.ctl ∧ u.pins = s.pins ∧ u.cfg = s.cfg ∧
    u.dram = s.dram) ∧
  (∀ t n s, s.mbxBusy = false → 40 ≤ n → n ≤ 9000 → s.waiters 25 32 = [] → ∃ u, exec (.mbxGo t n) s = .next u ∧ u.mbxBusy = true ∧
    u.rdFld Reg.CPT_MBX_IN_CTRL 13 0 = n ∧ Tab.get 0 u.dma.requests 25 = Tab.get 0 s.dma.requests 25 + 1 ∧ (∀ a, a ≠ Reg.CPT_MBX_IN_CTRL →
    u.rd a = s.rd a) ∧ u.card = { s.card with mbxLen := n } ∧ u.ctl = s.ctl ∧ u.pins = s.pins ∧ u.cfg = s.cfg ∧ u.dram = s.dram) ∧
  (∀ t n s, s.mbxBusy = true ∨ n < 40 ∨ 9000 < n → (s.rd Reg.CPT_CNT_MBX_OVERRUN).toNat + 1 < 4294967296 →
    ∃ u, exec (.mbxGo t n) s = .next u ∧ u.rd Reg.CPT_CNT_MBX_OVERRUN = BitVec.ofNat 32 ((s.rd Reg.CPT_CNT_MBX_OVERRUN).toNat + 1) ∧
    u.rdBit Reg.CPT_EVENT 5 = true ∧ (∀ a, a ∉ [Reg.CPT_CNT_MBX_OVERRUN, Reg.CPT_EVENT, Reg.MSIX_PENDING 0, Reg.MSIX_PENDING 1] →
    u.rd a = s.rd a) ∧ u.card = s.card ∧ u.dma = s.dma ∧ u.ctl = s.ctl ∧ u.pins = s.pins ∧ u.cfg = s.cfg ∧ u.dram = s.dram)

/-- R433, whole: the buffer, its status and event, the release (MBX_OUT_RELEASE), the queue of 16, the drop, and no gate: every clause holds in every state of the key pins. A buffer that is free holds no reply. -/
def Obligations.mailbox_replies_are_presented_queued_and_never_gated : Prop :=
  (∀ (s : State) (r : ReplyTo) (bs : List Byte), r.path = .mailbox → s.card.mbxOut = [] → bs ≠ [] → bs.length ≤ 9000 →
    s.card.mbxQueue.length ≤ 16 → (s.sendReply r bs).card.mbxOut = bs ∧ bit ((s.sendReply r bs).view Reg.CPT_MBX_OUT_STATUS) 31 = true ∧
    fld ((s.sendReply r bs).view Reg.CPT_MBX_OUT_STATUS) 13 0 = bs.length ∧ (∀ k, k < bs.length →
    BitVec.ofNat 8 ((s.sendReply r bs).view (0x118000 + k / 4 * 4) >>> (8 * (k % 4))).toNat = bs.getD k 0) ∧
    (s.sendReply r bs).rdBit Reg.CPT_EVENT 0 = true) ∧
  (∀ (s : State) (r : ReplyTo) (bs : List Byte), r.path = .mailbox → s.card.mbxOut ≠ [] → s.card.mbxQueue.length < 16 →
    (s.sendReply r bs).card = { s.card with mbxQueue := s.card.mbxQueue ++ [bs] } ∧ ∀ a, (s.sendReply r bs).rd a = s.rd a) ∧
  (∀ (s : State) (r : ReplyTo) (bs : List Byte), r.path = .mailbox → s.card.mbxOut ≠ [] → 16 ≤ s.card.mbxQueue.length →
    (s.rd Reg.CPT_CNT_MBX_REPLY_DROP).toNat + 1 < 4294967296 → (s.sendReply r bs).card = s.card ∧
    (s.sendReply r bs).rd Reg.CPT_CNT_MBX_REPLY_DROP = BitVec.ofNat 32 ((s.rd Reg.CPT_CNT_MBX_REPLY_DROP).toNat + 1)) ∧
  (∀ t s r q rest, s.card.mbxOut = r → r ≠ [] → s.card.mbxQueue = q :: rest → ∃ u, exec (.mbxOutRelease t) s = .next u ∧
    u.card = { s.card with mbxOut := q, mbxQueue := rest } ∧ u.rdBit Reg.CPT_EVENT 0 = true ∧
    (∀ a, a ∉ [Reg.CPT_EVENT, Reg.MSIX_PENDING 0, Reg.MSIX_PENDING 1] → u.rd a = s.rd a) ∧ u.ctl = s.ctl ∧ u.pins = s.pins ∧ u.cfg = s.cfg ∧
    u.dram = s.dram) ∧
  (∀ t s, s.card.mbxQueue = [] → ∃ u, exec (.mbxOutRelease t) s = .next u ∧ u.card = { s.card with mbxOut := [] } ∧ (∀ a, u.rd a = s.rd a) ∧
    u.ctl = s.ctl ∧ u.pins = s.pins ∧ u.cfg = s.cfg ∧ u.dram = s.dram)

/-- KICK, DESCRIPTOR_FETCHED, DESCRIPTOR_COMPLETE, DMA_REQUEST, DMA_BURST_COMPLETE, BUS_ERROR, COMPLETION_TIMEOUT, CLEAR_ERR, DMA_DISABLE, CAPTURE_READ (R428, R445–R452). -/
def Obligations.dma_channels_run_stop_and_resume : Prop :=
  (∀ t c card s, c < 32 → 8 ≤ c ∨ card = false → s.dmaOn = true → (s.chan c).st = .idle → ∃ u, exec (.kick t c card) s = .next u ∧
    (u.chan c).st = .run ∧ (u.chan c).phase = .fetch false ∧ (u.chan c).kickPending = false ∧ (∀ a, a ≠ c → u.chan a = s.chan a) ∧
    (∀ a, u.rd a = s.rd a) ∧ u.ctl = s.ctl ∧ u.pins = s.pins ∧ u.cfg = s.cfg ∧ u.dram = s.dram) ∧
  (∀ t c card s, c < 32 → 8 ≤ c ∨ card = false → s.dmaOn = true → (s.chan c).st = .run → ∃ u, exec (.kick t c card) s = .next u ∧
    u.chan c = { s.chan c with kickPending := true } ∧ (∀ a, a ≠ c → u.chan a = s.chan a) ∧ (∀ a, u.rd a = s.rd a) ∧ u.ctl = s.ctl ∧
    u.pins = s.pins ∧ u.cfg = s.cfg ∧ u.dram = s.dram) ∧
  (∀ t c card s, c < 32 → 8 ≤ c ∨ card = false → s.dmaOn = true → (s.chan c).st = .idleAtEnd → (s.chan c).phase ≠ .fetch true →
    ∃ u, exec (.kick t c card) s = .next u ∧ (u.chan c).st = .idleAtEnd ∧ (u.chan c).phase = .fetch true ∧ (∀ a, a ≠ c →
    u.chan a = s.chan a) ∧ (∀ a, u.rd a = s.rd a) ∧ u.ctl = s.ctl ∧ u.pins = s.pins ∧ u.cfg = s.cfg ∧ u.dram = s.dram) ∧
  (∀ t c card s, c < 32 → 8 ≤ c ∨ card = false → s.dmaOn = false ∨ (s.chan c).st = .stopped → exec (.kick t c card) s = .next (s.at t)) ∧
  (∀ t c card s, c < 32 → 8 ≤ c ∨ card = false → s.dmaOn = true → (s.chan c).st = .halted → (s.chan c).phase = .burst →
    (s.chan c).remain ≠ 0 → ctlBit (s.chan c).control 21 = false → ∃ u, exec (.kick t c card) s = .next u ∧
    u.chan c = { s.chan c with st := .run } ∧ (∀ a, a ≠ c → u.chan a = s.chan a) ∧ (∀ a, u.rd a = s.rd a) ∧ u.ctl = s.ctl ∧
    u.pins = s.pins ∧ u.cfg = s.cfg ∧ u.dram = s.dram) ∧
  (∀ t c s, c < 8 → (s.rd Reg.CPT_CNT_BAD_ACCESS).toNat + 1 < 4294967296 → ∃ u, exec (.kick t c true) s = .next u ∧ u.dma = s.dma ∧
    u.rd Reg.CPT_CNT_BAD_ACCESS = BitVec.ofNat 32 ((s.rd Reg.CPT_CNT_BAD_ACCESS).toNat + 1) ∧ u.rdBit Reg.CPT_EVENT 4 = true ∧
    u.ctl = s.ctl ∧ u.pins = s.pins ∧ u.cfg = s.cfg ∧ u.dram = s.dram) ∧
  (∀ t c s bs w, c < 32 → (s.chan c).st = .run → (s.chan c).phase = .fetch false → s.target (s.descAt c) 32 = some (.dram w) →
    s.dramSpan w 32 = true → bs = s.dramBytes w 32 → descValid bs = true → le (slice bs 16 4) ≠ 0 → ctlBit (le (slice bs 20 4)) 21 = false →
    ∃ u, exec (.descriptorFetched t c 0 []) s = .next u ∧ (u.chan c).st = .run ∧ (u.chan c).phase = .burst ∧
    (u.chan c).srcAt = le (slice bs 0 8) ∧ (u.chan c).dstAt = le (slice bs 8 8) ∧ (u.chan c).remain = le (slice bs 16 4) % 16777216 ∧
    (u.chan c).control = le (slice bs 20 4) ∧ (u.chan c).link = le (slice bs 24 8) ∧ (∀ a, a ≠ c → u.chan a = s.chan a) ∧
    (∀ a, u.rd a = s.rd a) ∧ u.ctl = s.ctl ∧ u.pins = s.pins ∧ u.cfg = s.cfg ∧ u.dram = s.dram) ∧
  (∀ t c s bs w, c < 32 → s.dmaOn = true → (s.chan c).st = .run → (s.chan c).phase = .fetch false →
    s.target (s.descAt c) 32 = some (.dram w) → s.dramSpan w 32 = true → bs = s.dramBytes w 32 → descValid bs = false →
    ctlBit (le (slice bs 20 4)) 29 = false → ∃ u, exec (.descriptorFetched t c 0 []) s = .next u ∧ (u.chan c).st = .stopped ∧
    (u.chan c).err = 4 ∧ (∀ a, a < 32 → (u.chan a).st = .stopped) ∧ u.rdBit Reg.DMA_STATUS 31 = true ∧
    u.rdFld Reg.DMA_STATUS 28 20 = c * 16 + 4 ∧ (⟨max s.now t, 0x006, 0x26, s.descAt c % 4294967296, 2⟩ : FaultMsg) ∈ u.flt.inbox ∧
    u.ctl = s.ctl ∧ u.pins = s.pins ∧ u.cfg = s.cfg ∧ u.dram = s.dram) ∧
  (∀ t c s, c < 32 → (s.chan c).st = .run → (s.chan c).phase = .complete → (s.chan c).control / 536870912 % 8 = 4 →
    (s.chan c).kickPending = false → (s.rd (Reg.DMACH_CNT_DESC c)).toNat + 1 < 4294967296 →
    ∃ u, exec (.descriptorComplete t c) s = .next u ∧ u.chan c = { s.chan c with st := .idleAtEnd } ∧
    u.rd (Reg.DMACH_CNT_DESC c) = BitVec.ofNat 32 ((s.rd (Reg.DMACH_CNT_DESC c)).toNat + 1) ∧ (∀ a, a ≠ Reg.DMACH_CNT_DESC c →
    u.rd a = s.rd a) ∧ (∀ a, a ≠ c → u.chan a = s.chan a) ∧ u.ctl = s.ctl ∧ u.pins = s.pins ∧ u.cfg = s.cfg ∧ u.dram = s.dram) ∧
  (∀ t c s, c < 32 → (s.chan c).st = .run → (s.chan c).phase = .complete → (s.chan c).control / 536870912 % 8 = 2 →
    (s.chan c).link < 1099511627776 → ∃ u, exec (.descriptorComplete t c) s = .next u ∧ (u.chan c).st = .run ∧
    (u.chan c).phase = .fetch false ∧ (u.chan c).kickPending = (s.chan c).kickPending ∧ u.descAt c = (s.chan c).link ∧
    u.rdBit Reg.DMA_CH_EVENT c = true ∧ (∀ a, a ≠ c → u.chan a = s.chan a) ∧ u.ctl = s.ctl ∧ u.pins = s.pins ∧ u.cfg = s.cfg ∧
    u.dram = s.dram) ∧
  (∀ t r s, r < 27 → r ∉ [16, 19, 20, 21, 22] → s.waiters r 32 = [] → ∃ u, exec (.dmaRequest t r) s = .next u ∧
    Tab.get 0 u.dma.requests r = Tab.get 0 s.dma.requests r + 1 ∧ (∀ a, a ≠ r → Tab.get 0 u.dma.requests a = Tab.get 0 s.dma.requests a) ∧
    u.dma.chans = s.dma.chans ∧ (∀ a, u.rd a = s.rd a) ∧ u.ctl = s.ctl ∧ u.pins = s.pins ∧ u.cfg = s.cfg ∧ u.dram = s.dram) ∧
  (∀ t r s c, r < 27 → r ∉ [16, 19, 20, 21, 22] → s.waiters r 32 = [c] → (s.chan c).remain ≠ 0 → ctlBit (s.chan c).control 21 = true →
    ∃ u, exec (.dmaRequest t r) s = .next u ∧ u.chan c = { s.chan c with phase := .burst } ∧
    Tab.get 0 u.dma.requests r = Tab.get 0 s.dma.requests r ∧ (∀ a, a ≠ c → u.chan a = s.chan a) ∧ (∀ a, u.rd a = s.rd a) ∧ u.ctl = s.ctl ∧
    u.pins = s.pins ∧ u.cfg = s.cfg ∧ u.dram = s.dram) ∧
  (∀ t c s n v w, c < 32 → (s.chan c).st = .run → (s.chan c).phase = .burst → (s.chan c).failed = false →
    ctlBit (s.chan c).control 21 = false → n = min (burstBytes (s.chan c).control) (s.chan c).remain →
    s.target (s.chan c).srcAt n = some (.dram v) → s.target (s.chan c).dstAt n = some (.dram w) → s.dramSpan v n = true →
    s.dramSpan w n = true → s.touchesProt w n = false → ∃ u, exec (.dmaBurstComplete t c 0 []) s = .next u ∧
    u.dramBytes w n = s.dramBytes v n ∧ (∀ a, a < w ∨ w + n ≤ a → Tab.get Config.blankByte u.dram a = Tab.get Config.blankByte s.dram a) ∧
    (u.chan c).remain = (s.chan c).remain - n ∧ (u.chan c).phase = (if (s.chan c).remain = n then .complete else .burst) ∧
    (u.chan c).st = .run ∧ (∀ a, a ≠ c → u.chan a = s.chan a) ∧ (∀ a, u.rd a = s.rd a) ∧ u.ctl = s.ctl ∧ u.pins = s.pins ∧ u.cfg = s.cfg) ∧
  (∀ t c code x s, c < 32 → s.dmaOn = true → 1 ≤ code → code ≤ 5 → (s.chan c).st = .run → ctlBit (s.chan c).control 29 = false →
    ∃ u, exec (.busError t c code x) s = .next u ∧ (∀ a, a < 32 → (u.chan a).st = .stopped ∧ ((s.chan a).st ≠ .stopped →
    (u.chan a).prev = (s.chan a).st ∧ (u.chan a).failed = decide (a = c)) ∧ (u.chan a).remain = (s.chan a).remain ∧
    (u.chan a).srcAt = (s.chan a).srcAt) ∧ u.rd Reg.DMA_STATUS = BitVec.ofNat 32 (2147483648 + c * 16777216 + code * 1048576) ∧
    u.rd64 Reg.DMA_ERR_ADDR_LO Reg.DMA_ERR_ADDR_HI = x % 1099511627776 ∧ u.rd Reg.DMA_CH_EVENT = 0xFFFFFFFF ∧
    u.rdBit Reg.DMA_EVENT 0 = true ∧ (⟨max s.now t, 0x006, 0x26, x % 4294967296, 2⟩ : FaultMsg) ∈ u.flt.inbox ∧ u.ctl = s.ctl ∧
    u.pins = s.pins ∧ u.cfg = s.cfg ∧ u.dram = s.dram) ∧
  (∀ t c s v, c < 32 → s.dmaOn = true → Tab.find? s.card.outstanding c = some v → v + 10000000 ≤ max s.now t → (s.chan c).phase = .burst →
    ctlBit (s.chan c).control 29 = false → ∃ u, exec (.completionTimeout t c) s = .next u ∧ u.rdFld Reg.DMA_STATUS 28 20 = c * 16 + 3 ∧
    (u.chan c).st = .stopped ∧ u.rdBit Reg.CPT_EVENT 7 = true ∧ u.card.outstanding = [] ∧
    (⟨max s.now t, 0x006, 0x26, (s.chan c).srcAt % 4294967296, 2⟩ : FaultMsg) ∈ u.flt.inbox ∧ u.ctl = s.ctl ∧ u.pins = s.pins ∧
    u.cfg = s.cfg ∧ u.dram = s.dram) ∧
  (∀ t s, ∃ u, exec (.clearErr t) s = .next u ∧ u.rdBit Reg.DMA_STATUS 31 = false ∧ (∀ a, a < 32 → u.chan a = releaseChan (s.chan a)) ∧
    (∀ a, a ≠ Reg.DMA_STATUS → u.rd a = s.rd a) ∧ u.card = s.card ∧ u.ctl = s.ctl ∧ u.pins = s.pins ∧ u.cfg = s.cfg ∧ u.dram = s.dram) ∧
  (∀ t s, ∃ u, exec (.dmaDisable t) s = .next u ∧ u.dmaOn = false ∧ (∀ a, a < 32 → (u.chan a).st = .idle ∧ (u.chan a).kickPending = false) ∧
    u.card.outstanding = [] ∧ u.rdBit Reg.DMA_EVENT 1 = true ∧
    (∀ a, a ∉ [Reg.DMA_CTRL, Reg.DMA_EVENT, Reg.MSIX_PENDING 0, Reg.MSIX_PENDING 1] → u.rd a = s.rd a) ∧ u.ctl = s.ctl ∧ u.pins = s.pins ∧
    u.cfg = s.cfg ∧ u.dram = s.dram) ∧
  (∀ t n s v rest, n < 4 → s.capture n = v :: rest → ∃ u, exec (.captureRead t n) s = .next u ∧ u.capture n = rest ∧
    u.out = s.out ++ [.read (Reg.DMA_CAP_DATA n) (v % 16777216 * 256)] ∧ (∀ a, a ≠ n → u.capture a = s.capture a) ∧ (∀ a, u.rd a = s.rd a) ∧
    u.ctl = s.ctl ∧ u.pins = s.pins ∧ u.cfg = s.cfg ∧ u.dram = s.dram)

/-- REGISTER_WRITE, RC_COUNTER_READ, LO_SNAPSHOT_READ (R5, R7, R430, R437, R506). The masks of a row are the access codes of its fields. -/
def Obligations.register_accesses_follow_their_codes : Prop :=
  (∀ t off v aux s r (w : Word), off < 16777216 → off % 4 = 0 → w = BitVec.ofNat 32 v → s.pagePresent off = true →
    (s.at t).writeActs aux false off w = none → RegMap.rowOf off = some r → vectorsOf off = [] → s.fieldRules off = [] →
    ∃ u, exec (.registerWrite t off v false true aux) s = .next u ∧
    u.rd off = ((s.rd off &&& ~~~ BitVec.ofNat 32 (if s.rwlLocked then r.rw else Nat.lor r.rw r.rwl) &&& ~~~ (w &&& BitVec.ofNat 32 r.w1c)) ||| (w &&& BitVec.ofNat 32 (if s.rwlLocked then r.rw else Nat.lor r.rw r.rwl))) ∧
    (∀ a, a ≠ off → u.rd a = s.rd a) ∧ u.ctl = s.ctl ∧ u.pins = s.pins ∧ u.cfg = s.cfg ∧ u.dram = s.dram) ∧
  (∀ t off v aux s (r : RegRow), off < 16777216 → s.pagePresent off = true → (s.at t).writeActs aux false off (BitVec.ofNat 32 v) = none →
    RegMap.rowOf off = some r → r.rw = 0 → r.w1c = 0 → s.rwlLocked = true → ∃ u, exec (.registerWrite t off v false true aux) s = .next u ∧
    ∀ a, u.rd a = s.rd a ∨ a = Reg.MSIX_PENDING 0 ∨ a = Reg.MSIX_PENDING 1) ∧
  (∀ t off v card full aux s, 16777216 ≤ off → exec (.registerWrite t off v card full aux) s = .fault (.decodeError off)) ∧
  (∀ t off v aux s, off < 16777216 → RegMap.rowOf off = none → (s.at t).writeActs aux false off (BitVec.ofNat 32 v) = none →
    exec (.registerWrite t off v false true aux) s = .next (s.at t)) ∧
  (∀ t off v full aux s, off < 16777216 → s.pcie.linkUp = true → s.pcie.d3hot = false → full = false ∨ off % 4 ≠ 0 →
    (s.rd Reg.CPT_CNT_BAD_ACCESS).toNat + 1 < 4294967296 → ∃ u, exec (.registerWrite t off v true full aux) s = .next u ∧
    u.rd Reg.CPT_CNT_BAD_ACCESS = BitVec.ofNat 32 ((s.rd Reg.CPT_CNT_BAD_ACCESS).toNat + 1) ∧ u.rdBit Reg.CPT_EVENT 4 = true ∧
    (∀ a, a ∉ [Reg.CPT_CNT_BAD_ACCESS, Reg.CPT_EVENT, Reg.MSIX_PENDING 0, Reg.MSIX_PENDING 1] → u.rd a = s.rd a) ∧ u.ctl = s.ctl ∧
    u.pins = s.pins ∧ u.cfg = s.cfg ∧ u.dram = s.dram) ∧
  (∀ t off s r, RegMap.rowOf off = some r → r.rc ≠ 0 → r.lo = false → isHi off = false → s.pagePresent off = true → s.openWord off = false →
    s.adaptLane off = none →
    off ∉ [Reg.FLT_REC 3, Reg.FST_QMAX, Reg.FST_CNT_REPEAT, Reg.FST_CNT_DROP, Reg.PTP_TIME_FRAC, Reg.FLT_CNT_LOST] → off < 0x100050 ∨
    0x100060 ≤ off → ∃ u, exec (.rcCounterRead t off) s = .next u ∧ u.out = s.out ++ [.read off ((s.at t).view off).toNat] ∧ u.rd off = 0 ∧
    (∀ a, a ≠ off → u.rd a = s.rd a) ∧ u.ctl = s.ctl ∧ u.pins = s.pins ∧ u.cfg = s.cfg ∧ u.dram = s.dram) ∧
  (∀ t s, ∃ u, exec (.rcCounterRead t Reg.FLT_CNT_LOST) s = .next u ∧ u.rd Reg.FLT_CNT_LOST = 0 ∧ u.flt = { s.flt with overflow := false } ∧
    (∀ a, a ≠ Reg.FLT_CNT_LOST → u.rd a = s.rd a) ∧ u.ctl = s.ctl ∧ u.pins = s.pins ∧ u.cfg = s.cfg ∧ u.dram = s.dram) ∧
  (∀ t off s r, RegMap.rowOf off = some r → r.lo = true → s.pagePresent off = true → s.openWord off = false → s.adaptLane off = none →
    off ∉ [Reg.FLT_REC 3, Reg.FST_QMAX, Reg.FST_CNT_REPEAT, Reg.FST_CNT_DROP, Reg.PTP_TIME_FRAC, Reg.FLT_CNT_LOST] → off < 0x100050 ∨
    0x100060 ≤ off → ∃ u, exec (.loSnapshotRead t off) s = .next u ∧ u.out = s.out ++ [.read off ((s.at t).view off).toNat] ∧
    Tab.find? u.snap (off + 4) = some ((s.at t).view (off + 4)) ∧ (r.rc ≠ 0 → u.rd off = 0 ∧ u.rd (off + 4) = 0) ∧ (r.rc = 0 →
    ∀ a, u.rd a = s.rd a) ∧ u.ctl = s.ctl ∧ u.pins = s.pins ∧ u.cfg = s.cfg ∧ u.dram = s.dram) ∧
  (∀ (s : State) off (r : RegRow) (w : Word), RegMap.rowOf off = some r → r.lo = false → isHi off = true → s.pagePresent off = true →
    s.openWord off = false → s.adaptLane off = none →
    off ∉ [Reg.FLT_REC 3, Reg.FST_QMAX, Reg.FST_CNT_REPEAT, Reg.FST_CNT_DROP, Reg.PTP_TIME_FRAC, Reg.FLT_CNT_LOST] → off < 0x100050 ∨
    0x100060 ≤ off → Tab.find? s.snap off = some w → s.busRead off = (s, w))
end

