-- ==== Sys2Proof/Laws/Tab.lean ====
section
/-! SUPPORT. What the operations on sparse tables do: reading after writing, and the canonical form. -/
namespace Sys2Proof

variable {β : Type}

theorem Tab.find?_erase_same (t : Tab β) (i : Nat) : Tab.find? (Tab.erase t i) i = none := by
  induction t with
  | nil => rfl
  | cons e t ih =>
    obtain ⟨k, v⟩ := e
    by_cases h : k = i
    · simp [Tab.erase, h, ih]
    · simp [Tab.erase, Tab.find?, h, ih]

theorem Tab.find?_erase_ne (t : Tab β) {i j : Nat} (h : j ≠ i) : Tab.find? (Tab.erase t i) j = Tab.find? t j := by
  induction t with
  | nil => rfl
  | cons e t ih =>
    obtain ⟨k, v⟩ := e
    by_cases hk : k = i
    · have : k ≠ j := fun e => h (e ▸ hk)
      simp [Tab.erase, Tab.find?, hk, ih, Ne.symm h]
    · by_cases hj : k = j
      · simp [Tab.erase, Tab.find?, hj, h]
      · simp [Tab.erase, Tab.find?, hk, hj, ih]

theorem Tab.find?_insert_same (t : Tab β) (i : Nat) (v : β) : Tab.find? (Tab.insert t i v) i = some v := by
  induction t with
  | nil => simp [Tab.insert, Tab.find?]
  | cons e t ih =>
    obtain ⟨k, w⟩ := e
    simp only [Tab.insert]
    split
    · simp [Tab.find?]
    · split
      · next h => simp [Tab.find?, h]
      · next h => simp [Tab.find?, Ne.symm h, ih]

theorem Tab.find?_insert_ne (t : Tab β) {i j : Nat} (v : β) (h : j ≠ i) : Tab.find? (Tab.insert t i v) j = Tab.find? t j := by
  induction t with
  | nil => simp [Tab.insert, Tab.find?, Ne.symm h]
  | cons e t ih =>
    obtain ⟨k, w⟩ := e
    simp only [Tab.insert]
    split
    · simp [Tab.find?, Ne.symm h]
    · split
      · next hk => simp [Tab.find?, ← hk, Ne.symm h]
      · simp [Tab.find?, ih]

/-- A read after a write to the same key gives the value written. -/
@[simp] theorem Tab.get_put_same [DecidableEq β] (d : β) (t : Tab β) (i : Nat) (v : β) : Tab.get d (Tab.put d t i v) i = v := by
  unfold Tab.put Tab.get
  split
  · next h => simp [Tab.find?_erase_same, h]
  · simp [Tab.find?_insert_same]

/-- A write leaves every other key alone. -/
theorem Tab.find?_put_ne [DecidableEq β] (d : β) (t : Tab β) {i j : Nat} (v : β) (h : j ≠ i) :
    Tab.find? (Tab.put d t i v) j = Tab.find? t j := by
  unfold Tab.put
  split
  · exact Tab.find?_erase_ne t h
  · exact Tab.find?_insert_ne t v h

@[simp] theorem Tab.get_put_ne [DecidableEq β] (d : β) (t : Tab β) {i j : Nat} (v : β) (h : j ≠ i) :
    Tab.get d (Tab.put d t i v) j = Tab.get d t j := by
  simp [Tab.get, Tab.find?_put_ne d t v h]

/-- What a key lists after a write of it. -/
theorem Tab.find?_put_same [DecidableEq β] (d : β) (t : Tab β) (i : Nat) (v : β) :
    (Tab.find? (Tab.put d t i v) i).getD d = v := Tab.get_put_same d t i v

/-! The canonical form. -/

theorem Tab.wfFrom_le [DecidableEq β] (d : Nat → β) {lo hi : Nat} (t : Tab β) (h : Tab.wfFrom d hi t = true) (hle : lo ≤ hi) :
    Tab.wfFrom d lo t = true := by
  cases t with
  | nil => rfl
  | cons e t =>
    obtain ⟨k, v⟩ := e
    simp only [Tab.wfFrom, Bool.and_eq_true, decide_eq_true_eq] at h ⊢
    exact ⟨⟨by omega, h.1.2⟩, h.2⟩

theorem Tab.wfFrom_erase [DecidableEq β] (d : Nat → β) (t : Tab β) (i lo : Nat) (h : Tab.wfFrom d lo t = true) :
    Tab.wfFrom d lo (Tab.erase t i) = true := by
  induction t generalizing lo with
  | nil => rfl
  | cons e t ih =>
    obtain ⟨k, v⟩ := e
    simp only [Tab.wfFrom, Bool.and_eq_true, decide_eq_true_eq] at h
    simp only [Tab.erase]
    split
    · exact Tab.wfFrom_le d _ (ih _ h.2) (by omega)
    · simp only [Tab.wfFrom, Bool.and_eq_true, decide_eq_true_eq]
      exact ⟨h.1, ih _ h.2⟩

theorem Tab.wfFrom_insert [DecidableEq β] (d : Nat → β) (t : Tab β) (i lo : Nat) (v : β) (h : Tab.wfFrom d lo t = true)
    (hi : lo ≤ i) (hv : v ≠ d i) : Tab.wfFrom d lo (Tab.insert t i v) = true := by
  induction t generalizing lo with
  | nil => simp [Tab.insert, Tab.wfFrom, hi, hv]
  | cons e t ih =>
    obtain ⟨k, w⟩ := e
    simp only [Tab.wfFrom, Bool.and_eq_true, decide_eq_true_eq] at h
    simp only [Tab.insert]
    split
    · simp only [Tab.wfFrom, Bool.and_eq_true, decide_eq_true_eq]
      exact ⟨⟨hi, hv⟩, ⟨by omega, h.1.2⟩, h.2⟩
    · split
      · next hk => subst hk; simp only [Tab.wfFrom, Bool.and_eq_true, decide_eq_true_eq]; exact ⟨⟨hi, hv⟩, h.2⟩
      · simp only [Tab.wfFrom, Bool.and_eq_true, decide_eq_true_eq]
        exact ⟨h.1, ih _ h.2 (by omega)⟩

/-- A write keeps the canonical form. -/
theorem Tab.wf_put [DecidableEq β] (d : Nat → β) (t : Tab β) (i : Nat) (v : β) (h : Tab.wf d t = true) :
    Tab.wf d (Tab.put (d i) t i v) = true := by
  unfold Tab.put Tab.wf
  split
  · exact Tab.wfFrom_erase d t i 0 h
  · next hv => exact Tab.wfFrom_insert d t i 0 v h (Nat.zero_le i) hv

/-- Keeping some of the entries keeps the canonical form. -/
theorem Tab.wfFrom_filter [DecidableEq β] (d : Nat → β) (p : Nat × β → Bool) (t : Tab β) (lo : Nat) (h : Tab.wfFrom d lo t = true) :
    Tab.wfFrom d lo (t.filter p) = true := by
  induction t generalizing lo with
  | nil => rfl
  | cons e t ih =>
    obtain ⟨k, v⟩ := e
    simp only [Tab.wfFrom, Bool.and_eq_true, decide_eq_true_eq] at h
    simp only [List.filter_cons]
    split
    · simp only [Tab.wfFrom, Bool.and_eq_true, decide_eq_true_eq]
      exact ⟨h.1, ih _ h.2⟩
    · exact Tab.wfFrom_le d _ (ih _ h.2) (by omega)

/-- Writing a list of bytes keeps the canonical form. -/
theorem Tab.wf_putBytes (d : Byte) (t : Tab Byte) (a : Nat) (bs : List Byte) (h : Tab.wf (fun _ => d) t = true) :
    Tab.wf (fun _ => d) (Tab.putBytes d t a bs) = true := by
  induction bs generalizing t a with
  | nil => exact h
  | cons b bs ih => exact ih _ _ (Tab.wf_put (fun _ => d) t a b h)

/-- Bytes outside those written read as before. -/
theorem Tab.get_putBytes_ne (d : Byte) (t : Tab Byte) (a j : Nat) (bs : List Byte) (h : j < a ∨ a + bs.length ≤ j) :
    Tab.get d (Tab.putBytes d t a bs) j = Tab.get d t j := by
  induction bs generalizing t a with
  | nil => rfl
  | cons b bs ih =>
    simp only [List.length_cons] at h
    simp only [Tab.putBytes]
    rw [ih _ _ (by omega), Tab.get_put_ne d t b (by omega)]

/-- A byte written reads as written. -/
theorem Tab.get_putBytes (d : Byte) (t : Tab Byte) (a k : Nat) (bs : List Byte) (h : k < bs.length) :
    Tab.get d (Tab.putBytes d t a bs) (a + k) = bs[k] := by
  induction bs generalizing t a k with
  | nil => simp at h
  | cons b bs ih =>
    cases k with
    | zero =>
      simp only [Tab.putBytes, Nat.add_zero, List.getElem_cons_zero]
      rw [Tab.get_putBytes_ne _ _ _ _ _ (by omega), Tab.get_put_same]
    | succ k =>
      simp only [Tab.putBytes, List.getElem_cons_succ]
      rw [show a + (k + 1) = a + 1 + k by omega]
      exact ih _ _ _ (by simpa using h)

/-- A table cut down to one key. -/
theorem Tab.find?_filter_key {β : Type} (t : Tab β) (k a : Nat) :
    Tab.find? (t.filter fun e => e.1 == k) a = if a = k then Tab.find? t a else none := by
  induction t with
  | nil => simp [Tab.find?]
  | cons e l ih =>
    obtain ⟨j, v⟩ := e
    rw [List.filter_cons]
    by_cases h : j = k
    · subst h
      simp only [beq_self_eq_true, if_true, Tab.find?]
      by_cases ha : j = a
      · simp [ha]
      · have : ¬ a = j := fun x => ha x.symm
        rw [if_neg ha, ih, if_neg this, if_neg this]
    · have hb : (j == k) = false := by simpa using h
      simp only [hb, Tab.find?]
      rw [if_neg (by simp), ih]
      by_cases ha : a = k
      · subst ha; simp [h]
      · simp [ha]

end Sys2Proof
end

