-- ==== Sys2Proof/Laws/State.lean ====
section
/-! SUPPORT. One lemma per field of the state and per update of it: what each of the operations of Ops and Flags leaves alone. -/
namespace Sys2Proof.Machine

/-! at changes only now, ptp. -/

@[simp] theorem State.at_dev (s : State) (t : Nat) : (s.at t).dev = s.dev := by unfold State.at; simp only; split <;> rfl
@[simp] theorem State.at_regs (s : State) (t : Nat) : (s.at t).regs = s.regs := by unfold State.at; simp only; split <;> rfl
@[simp] theorem State.at_snap (s : State) (t : Nat) : (s.at t).snap = s.snap := by unfold State.at; simp only; split <;> rfl
@[simp] theorem State.at_pins (s : State) (t : Nat) : (s.at t).pins = s.pins := by unfold State.at; simp only; split <;> rfl
@[simp] theorem State.at_ctl (s : State) (t : Nat) : (s.at t).ctl = s.ctl := by unfold State.at; simp only; split <;> rfl
@[simp] theorem State.at_boot (s : State) (t : Nat) : (s.at t).boot = s.boot := by unfold State.at; simp only; split <;> rfl
@[simp] theorem State.at_power (s : State) (t : Nat) : (s.at t).power = s.power := by unfold State.at; simp only; split <;> rfl
@[simp] theorem State.at_flt (s : State) (t : Nat) : (s.at t).flt = s.flt := by unfold State.at; simp only; split <;> rfl
@[simp] theorem State.at_mnt (s : State) (t : Nat) : (s.at t).mnt = s.mnt := by unfold State.at; simp only; split <;> rfl
@[simp] theorem State.at_life (s : State) (t : Nat) : (s.at t).life = s.life := by unfold State.at; simp only; split <;> rfl
@[simp] theorem State.at_pcie (s : State) (t : Nat) : (s.at t).pcie = s.pcie := by unfold State.at; simp only; split <;> rfl
@[simp] theorem State.at_card (s : State) (t : Nat) : (s.at t).card = s.card := by unfold State.at; simp only; split <;> rfl
@[simp] theorem State.at_dma (s : State) (t : Nat) : (s.at t).dma = s.dma := by unfold State.at; simp only; split <;> rfl
@[simp] theorem State.at_pwmbx (s : State) (t : Nat) : (s.at t).pwmbx = s.pwmbx := by unfold State.at; simp only; split <;> rfl
@[simp] theorem State.at_flash (s : State) (t : Nat) : (s.at t).flash = s.flash := by unfold State.at; simp only; split <;> rfl
@[simp] theorem State.at_twn (s : State) (t : Nat) : (s.at t).twn = s.twn := by unfold State.at; simp only; split <;> rfl
@[simp] theorem State.at_tmg (s : State) (t : Nat) : (s.at t).tmg = s.tmg := by unfold State.at; simp only; split <;> rfl
@[simp] theorem State.at_syn (s : State) (t : Nat) : (s.at t).syn = s.syn := by unfold State.at; simp only; split <;> rfl
@[simp] theorem State.at_cfg (s : State) (t : Nat) : (s.at t).cfg = s.cfg := by unfold State.at; simp only; split <;> rfl
@[simp] theorem State.at_xpt (s : State) (t : Nat) : (s.at t).xpt = s.xpt := by unfold State.at; simp only; split <;> rfl
@[simp] theorem State.at_lan (s : State) (t : Nat) : (s.at t).lan = s.lan := by unfold State.at; simp only; split <;> rfl
@[simp] theorem State.at_eyeSec (s : State) (t : Nat) : (s.at t).eyeSec = s.eyeSec := by unfold State.at; simp only; split <;> rfl
@[simp] theorem State.at_sdi (s : State) (t : Nat) : (s.at t).sdi = s.sdi := by unfold State.at; simp only; split <;> rfl
@[simp] theorem State.at_streams (s : State) (t : Nat) : (s.at t).streams = s.streams := by unfold State.at; simp only; split <;> rfl
@[simp] theorem State.at_fst (s : State) (t : Nat) : (s.at t).fst = s.fst := by unfold State.at; simp only; split <;> rfl
@[simp] theorem State.at_cmp (s : State) (t : Nat) : (s.at t).cmp = s.cmp := by unfold State.at; simp only; split <;> rfl
@[simp] theorem State.at_lin (s : State) (t : Nat) : (s.at t).lin = s.lin := by unfold State.at; simp only; split <;> rfl
@[simp] theorem State.at_tables (s : State) (t : Nat) : (s.at t).tables = s.tables := by unfold State.at; simp only; split <;> rfl
@[simp] theorem State.at_aud (s : State) (t : Nat) : (s.at t).aud = s.aud := by unfold State.at; simp only; split <;> rfl
@[simp] theorem State.at_mac (s : State) (t : Nat) : (s.at t).mac = s.mac := by unfold State.at; simp only; split <;> rfl
@[simp] theorem State.at_med (s : State) (t : Nat) : (s.at t).med = s.med := by unfold State.at; simp only; split <;> rfl
@[simp] theorem State.at_win (s : State) (t : Nat) : (s.at t).win = s.win := by unfold State.at; simp only; split <;> rfl
@[simp] theorem State.at_rows (s : State) (t : Nat) : (s.at t).rows = s.rows := by unfold State.at; simp only; split <;> rfl
@[simp] theorem State.at_drc (s : State) (t : Nat) : (s.at t).drc = s.drc := by unfold State.at; simp only; split <;> rfl
@[simp] theorem State.at_prot (s : State) (t : Nat) : (s.at t).prot = s.prot := by unfold State.at; simp only; split <;> rfl
@[simp] theorem State.at_fresh (s : State) (t : Nat) : (s.at t).fresh = s.fresh := by unfold State.at; simp only; split <;> rfl
@[simp] theorem State.at_dram (s : State) (t : Nat) : (s.at t).dram = s.dram := by unfold State.at; simp only; split <;> rfl
@[simp] theorem State.at_tcm (s : State) (t : Nat) : (s.at t).tcm = s.tcm := by unfold State.at; simp only; split <;> rfl
@[simp] theorem State.at_freeCtr (s : State) (t : Nat) : (s.at t).freeCtr = s.freeCtr := by unfold State.at; simp only; split <;> rfl
@[simp] theorem State.at_out (s : State) (t : Nat) : (s.at t).out = s.out := by unfold State.at; simp only; split <;> rfl
@[simp] theorem State.at_pending (s : State) (t : Nat) : (s.at t).pending = s.pending := by unfold State.at; simp only; split <;> rfl

/-! wr changes only regs. -/

@[simp] theorem State.wr_dev (s : State) (off : Nat) (w : Word) : (s.wr off w).dev = s.dev := (rfl)
@[simp] theorem State.wr_now (s : State) (off : Nat) (w : Word) : (s.wr off w).now = s.now := (rfl)
@[simp] theorem State.wr_snap (s : State) (off : Nat) (w : Word) : (s.wr off w).snap = s.snap := (rfl)
@[simp] theorem State.wr_pins (s : State) (off : Nat) (w : Word) : (s.wr off w).pins = s.pins := (rfl)
@[simp] theorem State.wr_ctl (s : State) (off : Nat) (w : Word) : (s.wr off w).ctl = s.ctl := (rfl)
@[simp] theorem State.wr_boot (s : State) (off : Nat) (w : Word) : (s.wr off w).boot = s.boot := (rfl)
@[simp] theorem State.wr_power (s : State) (off : Nat) (w : Word) : (s.wr off w).power = s.power := (rfl)
@[simp] theorem State.wr_flt (s : State) (off : Nat) (w : Word) : (s.wr off w).flt = s.flt := (rfl)
@[simp] theorem State.wr_mnt (s : State) (off : Nat) (w : Word) : (s.wr off w).mnt = s.mnt := (rfl)
@[simp] theorem State.wr_life (s : State) (off : Nat) (w : Word) : (s.wr off w).life = s.life := (rfl)
@[simp] theorem State.wr_pcie (s : State) (off : Nat) (w : Word) : (s.wr off w).pcie = s.pcie := (rfl)
@[simp] theorem State.wr_card (s : State) (off : Nat) (w : Word) : (s.wr off w).card = s.card := (rfl)
@[simp] theorem State.wr_dma (s : State) (off : Nat) (w : Word) : (s.wr off w).dma = s.dma := (rfl)
@[simp] theorem State.wr_pwmbx (s : State) (off : Nat) (w : Word) : (s.wr off w).pwmbx = s.pwmbx := (rfl)
@[simp] theorem State.wr_flash (s : State) (off : Nat) (w : Word) : (s.wr off w).flash = s.flash := (rfl)
@[simp] theorem State.wr_twn (s : State) (off : Nat) (w : Word) : (s.wr off w).twn = s.twn := (rfl)
@[simp] theorem State.wr_ptp (s : State) (off : Nat) (w : Word) : (s.wr off w).ptp = s.ptp := (rfl)
@[simp] theorem State.wr_tmg (s : State) (off : Nat) (w : Word) : (s.wr off w).tmg = s.tmg := (rfl)
@[simp] theorem State.wr_syn (s : State) (off : Nat) (w : Word) : (s.wr off w).syn = s.syn := (rfl)
@[simp] theorem State.wr_cfg (s : State) (off : Nat) (w : Word) : (s.wr off w).cfg = s.cfg := (rfl)
@[simp] theorem State.wr_xpt (s : State) (off : Nat) (w : Word) : (s.wr off w).xpt = s.xpt := (rfl)
@[simp] theorem State.wr_lan (s : State) (off : Nat) (w : Word) : (s.wr off w).lan = s.lan := (rfl)
@[simp] theorem State.wr_eyeSec (s : State) (off : Nat) (w : Word) : (s.wr off w).eyeSec = s.eyeSec := (rfl)
@[simp] theorem State.wr_sdi (s : State) (off : Nat) (w : Word) : (s.wr off w).sdi = s.sdi := (rfl)
@[simp] theorem State.wr_streams (s : State) (off : Nat) (w : Word) : (s.wr off w).streams = s.streams := (rfl)
@[simp] theorem State.wr_fst (s : State) (off : Nat) (w : Word) : (s.wr off w).fst = s.fst := (rfl)
@[simp] theorem State.wr_cmp (s : State) (off : Nat) (w : Word) : (s.wr off w).cmp = s.cmp := (rfl)
@[simp] theorem State.wr_lin (s : State) (off : Nat) (w : Word) : (s.wr off w).lin = s.lin := (rfl)
@[simp] theorem State.wr_tables (s : State) (off : Nat) (w : Word) : (s.wr off w).tables = s.tables := (rfl)
@[simp] theorem State.wr_aud (s : State) (off : Nat) (w : Word) : (s.wr off w).aud = s.aud := (rfl)
@[simp] theorem State.wr_mac (s : State) (off : Nat) (w : Word) : (s.wr off w).mac = s.mac := (rfl)
@[simp] theorem State.wr_med (s : State) (off : Nat) (w : Word) : (s.wr off w).med = s.med := (rfl)
@[simp] theorem State.wr_win (s : State) (off : Nat) (w : Word) : (s.wr off w).win = s.win := (rfl)
@[simp] theorem State.wr_rows (s : State) (off : Nat) (w : Word) : (s.wr off w).rows = s.rows := (rfl)
@[simp] theorem State.wr_drc (s : State) (off : Nat) (w : Word) : (s.wr off w).drc = s.drc := (rfl)
@[simp] theorem State.wr_prot (s : State) (off : Nat) (w : Word) : (s.wr off w).prot = s.prot := (rfl)
@[simp] theorem State.wr_fresh (s : State) (off : Nat) (w : Word) : (s.wr off w).fresh = s.fresh := (rfl)
@[simp] theorem State.wr_dram (s : State) (off : Nat) (w : Word) : (s.wr off w).dram = s.dram := (rfl)
@[simp] theorem State.wr_tcm (s : State) (off : Nat) (w : Word) : (s.wr off w).tcm = s.tcm := (rfl)
@[simp] theorem State.wr_freeCtr (s : State) (off : Nat) (w : Word) : (s.wr off w).freeCtr = s.freeCtr := (rfl)
@[simp] theorem State.wr_out (s : State) (off : Nat) (w : Word) : (s.wr off w).out = s.out := (rfl)
@[simp] theorem State.wr_pending (s : State) (off : Nat) (w : Word) : (s.wr off w).pending = s.pending := (rfl)

/-! wrFld changes only regs. -/

@[simp] theorem State.wrFld_dev (s : State) (off hi lo v : Nat) : (s.wrFld off hi lo v).dev = s.dev := (rfl)
@[simp] theorem State.wrFld_now (s : State) (off hi lo v : Nat) : (s.wrFld off hi lo v).now = s.now := (rfl)
@[simp] theorem State.wrFld_snap (s : State) (off hi lo v : Nat) : (s.wrFld off hi lo v).snap = s.snap := (rfl)
@[simp] theorem State.wrFld_pins (s : State) (off hi lo v : Nat) : (s.wrFld off hi lo v).pins = s.pins := (rfl)
@[simp] theorem State.wrFld_ctl (s : State) (off hi lo v : Nat) : (s.wrFld off hi lo v).ctl = s.ctl := (rfl)
@[simp] theorem State.wrFld_boot (s : State) (off hi lo v : Nat) : (s.wrFld off hi lo v).boot = s.boot := (rfl)
@[simp] theorem State.wrFld_power (s : State) (off hi lo v : Nat) : (s.wrFld off hi lo v).power = s.power := (rfl)
@[simp] theorem State.wrFld_flt (s : State) (off hi lo v : Nat) : (s.wrFld off hi lo v).flt = s.flt := (rfl)
@[simp] theorem State.wrFld_mnt (s : State) (off hi lo v : Nat) : (s.wrFld off hi lo v).mnt = s.mnt := (rfl)
@[simp] theorem State.wrFld_life (s : State) (off hi lo v : Nat) : (s.wrFld off hi lo v).life = s.life := (rfl)
@[simp] theorem State.wrFld_pcie (s : State) (off hi lo v : Nat) : (s.wrFld off hi lo v).pcie = s.pcie := (rfl)
@[simp] theorem State.wrFld_card (s : State) (off hi lo v : Nat) : (s.wrFld off hi lo v).card = s.card := (rfl)
@[simp] theorem State.wrFld_dma (s : State) (off hi lo v : Nat) : (s.wrFld off hi lo v).dma = s.dma := (rfl)
@[simp] theorem State.wrFld_pwmbx (s : State) (off hi lo v : Nat) : (s.wrFld off hi lo v).pwmbx = s.pwmbx := (rfl)
@[simp] theorem State.wrFld_flash (s : State) (off hi lo v : Nat) : (s.wrFld off hi lo v).flash = s.flash := (rfl)
@[simp] theorem State.wrFld_twn (s : State) (off hi lo v : Nat) : (s.wrFld off hi lo v).twn = s.twn := (rfl)
@[simp] theorem State.wrFld_ptp (s : State) (off hi lo v : Nat) : (s.wrFld off hi lo v).ptp = s.ptp := (rfl)
@[simp] theorem State.wrFld_tmg (s : State) (off hi lo v : Nat) : (s.wrFld off hi lo v).tmg = s.tmg := (rfl)
@[simp] theorem State.wrFld_syn (s : State) (off hi lo v : Nat) : (s.wrFld off hi lo v).syn = s.syn := (rfl)
@[simp] theorem State.wrFld_cfg (s : State) (off hi lo v : Nat) : (s.wrFld off hi lo v).cfg = s.cfg := (rfl)
@[simp] theorem State.wrFld_xpt (s : State) (off hi lo v : Nat) : (s.wrFld off hi lo v).xpt = s.xpt := (rfl)
@[simp] theorem State.wrFld_lan (s : State) (off hi lo v : Nat) : (s.wrFld off hi lo v).lan = s.lan := (rfl)
@[simp] theorem State.wrFld_eyeSec (s : State) (off hi lo v : Nat) : (s.wrFld off hi lo v).eyeSec = s.eyeSec := (rfl)
@[simp] theorem State.wrFld_sdi (s : State) (off hi lo v : Nat) : (s.wrFld off hi lo v).sdi = s.sdi := (rfl)
@[simp] theorem State.wrFld_streams (s : State) (off hi lo v : Nat) : (s.wrFld off hi lo v).streams = s.streams := (rfl)
@[simp] theorem State.wrFld_fst (s : State) (off hi lo v : Nat) : (s.wrFld off hi lo v).fst = s.fst := (rfl)
@[simp] theorem State.wrFld_cmp (s : State) (off hi lo v : Nat) : (s.wrFld off hi lo v).cmp = s.cmp := (rfl)
@[simp] theorem State.wrFld_lin (s : State) (off hi lo v : Nat) : (s.wrFld off hi lo v).lin = s.lin := (rfl)
@[simp] theorem State.wrFld_tables (s : State) (off hi lo v : Nat) : (s.wrFld off hi lo v).tables = s.tables := (rfl)
@[simp] theorem State.wrFld_aud (s : State) (off hi lo v : Nat) : (s.wrFld off hi lo v).aud = s.aud := (rfl)
@[simp] theorem State.wrFld_mac (s : State) (off hi lo v : Nat) : (s.wrFld off hi lo v).mac = s.mac := (rfl)
@[simp] theorem State.wrFld_med (s : State) (off hi lo v : Nat) : (s.wrFld off hi lo v).med = s.med := (rfl)
@[simp] theorem State.wrFld_win (s : State) (off hi lo v : Nat) : (s.wrFld off hi lo v).win = s.win := (rfl)
@[simp] theorem State.wrFld_rows (s : State) (off hi lo v : Nat) : (s.wrFld off hi lo v).rows = s.rows := (rfl)
@[simp] theorem State.wrFld_drc (s : State) (off hi lo v : Nat) : (s.wrFld off hi lo v).drc = s.drc := (rfl)
@[simp] theorem State.wrFld_prot (s : State) (off hi lo v : Nat) : (s.wrFld off hi lo v).prot = s.prot := (rfl)
@[simp] theorem State.wrFld_fresh (s : State) (off hi lo v : Nat) : (s.wrFld off hi lo v).fresh = s.fresh := (rfl)
@[simp] theorem State.wrFld_dram (s : State) (off hi lo v : Nat) : (s.wrFld off hi lo v).dram = s.dram := (rfl)
@[simp] theorem State.wrFld_tcm (s : State) (off hi lo v : Nat) : (s.wrFld off hi lo v).tcm = s.tcm := (rfl)
@[simp] theorem State.wrFld_freeCtr (s : State) (off hi lo v : Nat) : (s.wrFld off hi lo v).freeCtr = s.freeCtr := (rfl)
@[simp] theorem State.wrFld_out (s : State) (off hi lo v : Nat) : (s.wrFld off hi lo v).out = s.out := (rfl)
@[simp] theorem State.wrFld_pending (s : State) (off hi lo v : Nat) : (s.wrFld off hi lo v).pending = s.pending := (rfl)

/-! wrBit changes only regs. -/

@[simp] theorem State.wrBit_dev (s : State) (off i : Nat) (b : Bool) : (s.wrBit off i b).dev = s.dev := (rfl)
@[simp] theorem State.wrBit_now (s : State) (off i : Nat) (b : Bool) : (s.wrBit off i b).now = s.now := (rfl)
@[simp] theorem State.wrBit_snap (s : State) (off i : Nat) (b : Bool) : (s.wrBit off i b).snap = s.snap := (rfl)
@[simp] theorem State.wrBit_pins (s : State) (off i : Nat) (b : Bool) : (s.wrBit off i b).pins = s.pins := (rfl)
@[simp] theorem State.wrBit_ctl (s : State) (off i : Nat) (b : Bool) : (s.wrBit off i b).ctl = s.ctl := (rfl)
@[simp] theorem State.wrBit_boot (s : State) (off i : Nat) (b : Bool) : (s.wrBit off i b).boot = s.boot := (rfl)
@[simp] theorem State.wrBit_power (s : State) (off i : Nat) (b : Bool) : (s.wrBit off i b).power = s.power := (rfl)
@[simp] theorem State.wrBit_flt (s : State) (off i : Nat) (b : Bool) : (s.wrBit off i b).flt = s.flt := (rfl)
@[simp] theorem State.wrBit_mnt (s : State) (off i : Nat) (b : Bool) : (s.wrBit off i b).mnt = s.mnt := (rfl)
@[simp] theorem State.wrBit_life (s : State) (off i : Nat) (b : Bool) : (s.wrBit off i b).life = s.life := (rfl)
@[simp] theorem State.wrBit_pcie (s : State) (off i : Nat) (b : Bool) : (s.wrBit off i b).pcie = s.pcie := (rfl)
@[simp] theorem State.wrBit_card (s : State) (off i : Nat) (b : Bool) : (s.wrBit off i b).card = s.card := (rfl)
@[simp] theorem State.wrBit_dma (s : State) (off i : Nat) (b : Bool) : (s.wrBit off i b).dma = s.dma := (rfl)
@[simp] theorem State.wrBit_pwmbx (s : State) (off i : Nat) (b : Bool) : (s.wrBit off i b).pwmbx = s.pwmbx := (rfl)
@[simp] theorem State.wrBit_flash (s : State) (off i : Nat) (b : Bool) : (s.wrBit off i b).flash = s.flash := (rfl)
@[simp] theorem State.wrBit_twn (s : State) (off i : Nat) (b : Bool) : (s.wrBit off i b).twn = s.twn := (rfl)
@[simp] theorem State.wrBit_ptp (s : State) (off i : Nat) (b : Bool) : (s.wrBit off i b).ptp = s.ptp := (rfl)
@[simp] theorem State.wrBit_tmg (s : State) (off i : Nat) (b : Bool) : (s.wrBit off i b).tmg = s.tmg := (rfl)
@[simp] theorem State.wrBit_syn (s : State) (off i : Nat) (b : Bool) : (s.wrBit off i b).syn = s.syn := (rfl)
@[simp] theorem State.wrBit_cfg (s : State) (off i : Nat) (b : Bool) : (s.wrBit off i b).cfg = s.cfg := (rfl)
@[simp] theorem State.wrBit_xpt (s : State) (off i : Nat) (b : Bool) : (s.wrBit off i b).xpt = s.xpt := (rfl)
@[simp] theorem State.wrBit_lan (s : State) (off i : Nat) (b : Bool) : (s.wrBit off i b).lan = s.lan := (rfl)
@[simp] theorem State.wrBit_eyeSec (s : State) (off i : Nat) (b : Bool) : (s.wrBit off i b).eyeSec = s.eyeSec := (rfl)
@[simp] theorem State.wrBit_sdi (s : State) (off i : Nat) (b : Bool) : (s.wrBit off i b).sdi = s.sdi := (rfl)
@[simp] theorem State.wrBit_streams (s : State) (off i : Nat) (b : Bool) : (s.wrBit off i b).streams = s.streams := (rfl)
@[simp] theorem State.wrBit_fst (s : State) (off i : Nat) (b : Bool) : (s.wrBit off i b).fst = s.fst := (rfl)
@[simp] theorem State.wrBit_cmp (s : State) (off i : Nat) (b : Bool) : (s.wrBit off i b).cmp = s.cmp := (rfl)
@[simp] theorem State.wrBit_lin (s : State) (off i : Nat) (b : Bool) : (s.wrBit off i b).lin = s.lin := (rfl)
@[simp] theorem State.wrBit_tables (s : State) (off i : Nat) (b : Bool) : (s.wrBit off i b).tables = s.tables := (rfl)
@[simp] theorem State.wrBit_aud (s : State) (off i : Nat) (b : Bool) : (s.wrBit off i b).aud = s.aud := (rfl)
@[simp] theorem State.wrBit_mac (s : State) (off i : Nat) (b : Bool) : (s.wrBit off i b).mac = s.mac := (rfl)
@[simp] theorem State.wrBit_med (s : State) (off i : Nat) (b : Bool) : (s.wrBit off i b).med = s.med := (rfl)
@[simp] theorem State.wrBit_win (s : State) (off i : Nat) (b : Bool) : (s.wrBit off i b).win = s.win := (rfl)
@[simp] theorem State.wrBit_rows (s : State) (off i : Nat) (b : Bool) : (s.wrBit off i b).rows = s.rows := (rfl)
@[simp] theorem State.wrBit_drc (s : State) (off i : Nat) (b : Bool) : (s.wrBit off i b).drc = s.drc := (rfl)
@[simp] theorem State.wrBit_prot (s : State) (off i : Nat) (b : Bool) : (s.wrBit off i b).prot = s.prot := (rfl)
@[simp] theorem State.wrBit_fresh (s : State) (off i : Nat) (b : Bool) : (s.wrBit off i b).fresh = s.fresh := (rfl)
@[simp] theorem State.wrBit_dram (s : State) (off i : Nat) (b : Bool) : (s.wrBit off i b).dram = s.dram := (rfl)
@[simp] theorem State.wrBit_tcm (s : State) (off i : Nat) (b : Bool) : (s.wrBit off i b).tcm = s.tcm := (rfl)
@[simp] theorem State.wrBit_freeCtr (s : State) (off i : Nat) (b : Bool) : (s.wrBit off i b).freeCtr = s.freeCtr := (rfl)
@[simp] theorem State.wrBit_out (s : State) (off i : Nat) (b : Bool) : (s.wrBit off i b).out = s.out := (rfl)
@[simp] theorem State.wrBit_pending (s : State) (off i : Nat) (b : Bool) : (s.wrBit off i b).pending = s.pending := (rfl)

/-! noteFlags changes only fresh. -/

@[simp] theorem State.noteFlags_dev (s : State) (off : Nat) (m : Word) : (s.noteFlags off m).dev = s.dev := (rfl)
@[simp] theorem State.noteFlags_now (s : State) (off : Nat) (m : Word) : (s.noteFlags off m).now = s.now := (rfl)
@[simp] theorem State.noteFlags_regs (s : State) (off : Nat) (m : Word) : (s.noteFlags off m).regs = s.regs := (rfl)
@[simp] theorem State.noteFlags_snap (s : State) (off : Nat) (m : Word) : (s.noteFlags off m).snap = s.snap := (rfl)
@[simp] theorem State.noteFlags_pins (s : State) (off : Nat) (m : Word) : (s.noteFlags off m).pins = s.pins := (rfl)
@[simp] theorem State.noteFlags_ctl (s : State) (off : Nat) (m : Word) : (s.noteFlags off m).ctl = s.ctl := (rfl)
@[simp] theorem State.noteFlags_boot (s : State) (off : Nat) (m : Word) : (s.noteFlags off m).boot = s.boot := (rfl)
@[simp] theorem State.noteFlags_power (s : State) (off : Nat) (m : Word) : (s.noteFlags off m).power = s.power := (rfl)
@[simp] theorem State.noteFlags_flt (s : State) (off : Nat) (m : Word) : (s.noteFlags off m).flt = s.flt := (rfl)
@[simp] theorem State.noteFlags_mnt (s : State) (off : Nat) (m : Word) : (s.noteFlags off m).mnt = s.mnt := (rfl)
@[simp] theorem State.noteFlags_life (s : State) (off : Nat) (m : Word) : (s.noteFlags off m).life = s.life := (rfl)
@[simp] theorem State.noteFlags_pcie (s : State) (off : Nat) (m : Word) : (s.noteFlags off m).pcie = s.pcie := (rfl)
@[simp] theorem State.noteFlags_card (s : State) (off : Nat) (m : Word) : (s.noteFlags off m).card = s.card := (rfl)
@[simp] theorem State.noteFlags_dma (s : State) (off : Nat) (m : Word) : (s.noteFlags off m).dma = s.dma := (rfl)
@[simp] theorem State.noteFlags_pwmbx (s : State) (off : Nat) (m : Word) : (s.noteFlags off m).pwmbx = s.pwmbx := (rfl)
@[simp] theorem State.noteFlags_flash (s : State) (off : Nat) (m : Word) : (s.noteFlags off m).flash = s.flash := (rfl)
@[simp] theorem State.noteFlags_twn (s : State) (off : Nat) (m : Word) : (s.noteFlags off m).twn = s.twn := (rfl)
@[simp] theorem State.noteFlags_ptp (s : State) (off : Nat) (m : Word) : (s.noteFlags off m).ptp = s.ptp := (rfl)
@[simp] theorem State.noteFlags_tmg (s : State) (off : Nat) (m : Word) : (s.noteFlags off m).tmg = s.tmg := (rfl)
@[simp] theorem State.noteFlags_syn (s : State) (off : Nat) (m : Word) : (s.noteFlags off m).syn = s.syn := (rfl)
@[simp] theorem State.noteFlags_cfg (s : State) (off : Nat) (m : Word) : (s.noteFlags off m).cfg = s.cfg := (rfl)
@[simp] theorem State.noteFlags_xpt (s : State) (off : Nat) (m : Word) : (s.noteFlags off m).xpt = s.xpt := (rfl)
@[simp] theorem State.noteFlags_lan (s : State) (off : Nat) (m : Word) : (s.noteFlags off m).lan = s.lan := (rfl)
@[simp] theorem State.noteFlags_eyeSec (s : State) (off : Nat) (m : Word) : (s.noteFlags off m).eyeSec = s.eyeSec := (rfl)
@[simp] theorem State.noteFlags_sdi (s : State) (off : Nat) (m : Word) : (s.noteFlags off m).sdi = s.sdi := (rfl)
@[simp] theorem State.noteFlags_streams (s : State) (off : Nat) (m : Word) : (s.noteFlags off m).streams = s.streams := (rfl)
@[simp] theorem State.noteFlags_fst (s : State) (off : Nat) (m : Word) : (s.noteFlags off m).fst = s.fst := (rfl)
@[simp] theorem State.noteFlags_cmp (s : State) (off : Nat) (m : Word) : (s.noteFlags off m).cmp = s.cmp := (rfl)
@[simp] theorem State.noteFlags_lin (s : State) (off : Nat) (m : Word) : (s.noteFlags off m).lin = s.lin := (rfl)
@[simp] theorem State.noteFlags_tables (s : State) (off : Nat) (m : Word) : (s.noteFlags off m).tables = s.tables := (rfl)
@[simp] theorem State.noteFlags_aud (s : State) (off : Nat) (m : Word) : (s.noteFlags off m).aud = s.aud := (rfl)
@[simp] theorem State.noteFlags_mac (s : State) (off : Nat) (m : Word) : (s.noteFlags off m).mac = s.mac := (rfl)
@[simp] theorem State.noteFlags_med (s : State) (off : Nat) (m : Word) : (s.noteFlags off m).med = s.med := (rfl)
@[simp] theorem State.noteFlags_win (s : State) (off : Nat) (m : Word) : (s.noteFlags off m).win = s.win := (rfl)
@[simp] theorem State.noteFlags_rows (s : State) (off : Nat) (m : Word) : (s.noteFlags off m).rows = s.rows := (rfl)
@[simp] theorem State.noteFlags_drc (s : State) (off : Nat) (m : Word) : (s.noteFlags off m).drc = s.drc := (rfl)
@[simp] theorem State.noteFlags_prot (s : State) (off : Nat) (m : Word) : (s.noteFlags off m).prot = s.prot := (rfl)
@[simp] theorem State.noteFlags_dram (s : State) (off : Nat) (m : Word) : (s.noteFlags off m).dram = s.dram := (rfl)
@[simp] theorem State.noteFlags_tcm (s : State) (off : Nat) (m : Word) : (s.noteFlags off m).tcm = s.tcm := (rfl)
@[simp] theorem State.noteFlags_freeCtr (s : State) (off : Nat) (m : Word) : (s.noteFlags off m).freeCtr = s.freeCtr := (rfl)
@[simp] theorem State.noteFlags_out (s : State) (off : Nat) (m : Word) : (s.noteFlags off m).out = s.out := (rfl)
@[simp] theorem State.noteFlags_pending (s : State) (off : Nat) (m : Word) : (s.noteFlags off m).pending = s.pending := (rfl)

/-! noteCount changes only fresh. -/

@[simp] theorem State.noteCount_dev (s : State) (off v n : Nat) : (s.noteCount off v n).dev = s.dev := (rfl)
@[simp] theorem State.noteCount_now (s : State) (off v n : Nat) : (s.noteCount off v n).now = s.now := (rfl)
@[simp] theorem State.noteCount_regs (s : State) (off v n : Nat) : (s.noteCount off v n).regs = s.regs := (rfl)
@[simp] theorem State.noteCount_snap (s : State) (off v n : Nat) : (s.noteCount off v n).snap = s.snap := (rfl)
@[simp] theorem State.noteCount_pins (s : State) (off v n : Nat) : (s.noteCount off v n).pins = s.pins := (rfl)
@[simp] theorem State.noteCount_ctl (s : State) (off v n : Nat) : (s.noteCount off v n).ctl = s.ctl := (rfl)
@[simp] theorem State.noteCount_boot (s : State) (off v n : Nat) : (s.noteCount off v n).boot = s.boot := (rfl)
@[simp] theorem State.noteCount_power (s : State) (off v n : Nat) : (s.noteCount off v n).power = s.power := (rfl)
@[simp] theorem State.noteCount_flt (s : State) (off v n : Nat) : (s.noteCount off v n).flt = s.flt := (rfl)
@[simp] theorem State.noteCount_mnt (s : State) (off v n : Nat) : (s.noteCount off v n).mnt = s.mnt := (rfl)
@[simp] theorem State.noteCount_life (s : State) (off v n : Nat) : (s.noteCount off v n).life = s.life := (rfl)
@[simp] theorem State.noteCount_pcie (s : State) (off v n : Nat) : (s.noteCount off v n).pcie = s.pcie := (rfl)
@[simp] theorem State.noteCount_card (s : State) (off v n : Nat) : (s.noteCount off v n).card = s.card := (rfl)
@[simp] theorem State.noteCount_dma (s : State) (off v n : Nat) : (s.noteCount off v n).dma = s.dma := (rfl)
@[simp] theorem State.noteCount_pwmbx (s : State) (off v n : Nat) : (s.noteCount off v n).pwmbx = s.pwmbx := (rfl)
@[simp] theorem State.noteCount_flash (s : State) (off v n : Nat) : (s.noteCount off v n).flash = s.flash := (rfl)
@[simp] theorem State.noteCount_twn (s : State) (off v n : Nat) : (s.noteCount off v n).twn = s.twn := (rfl)
@[simp] theorem State.noteCount_ptp (s : State) (off v n : Nat) : (s.noteCount off v n).ptp = s.ptp := (rfl)
@[simp] theorem State.noteCount_tmg (s : State) (off v n : Nat) : (s.noteCount off v n).tmg = s.tmg := (rfl)
@[simp] theorem State.noteCount_syn (s : State) (off v n : Nat) : (s.noteCount off v n).syn = s.syn := (rfl)
@[simp] theorem State.noteCount_cfg (s : State) (off v n : Nat) : (s.noteCount off v n).cfg = s.cfg := (rfl)
@[simp] theorem State.noteCount_xpt (s : State) (off v n : Nat) : (s.noteCount off v n).xpt = s.xpt := (rfl)
@[simp] theorem State.noteCount_lan (s : State) (off v n : Nat) : (s.noteCount off v n).lan = s.lan := (rfl)
@[simp] theorem State.noteCount_eyeSec (s : State) (off v n : Nat) : (s.noteCount off v n).eyeSec = s.eyeSec := (rfl)
@[simp] theorem State.noteCount_sdi (s : State) (off v n : Nat) : (s.noteCount off v n).sdi = s.sdi := (rfl)
@[simp] theorem State.noteCount_streams (s : State) (off v n : Nat) : (s.noteCount off v n).streams = s.streams := (rfl)
@[simp] theorem State.noteCount_fst (s : State) (off v n : Nat) : (s.noteCount off v n).fst = s.fst := (rfl)
@[simp] theorem State.noteCount_cmp (s : State) (off v n : Nat) : (s.noteCount off v n).cmp = s.cmp := (rfl)
@[simp] theorem State.noteCount_lin (s : State) (off v n : Nat) : (s.noteCount off v n).lin = s.lin := (rfl)
@[simp] theorem State.noteCount_tables (s : State) (off v n : Nat) : (s.noteCount off v n).tables = s.tables := (rfl)
@[simp] theorem State.noteCount_aud (s : State) (off v n : Nat) : (s.noteCount off v n).aud = s.aud := (rfl)
@[simp] theorem State.noteCount_mac (s : State) (off v n : Nat) : (s.noteCount off v n).mac = s.mac := (rfl)
@[simp] theorem State.noteCount_med (s : State) (off v n : Nat) : (s.noteCount off v n).med = s.med := (rfl)
@[simp] theorem State.noteCount_win (s : State) (off v n : Nat) : (s.noteCount off v n).win = s.win := (rfl)
@[simp] theorem State.noteCount_rows (s : State) (off v n : Nat) : (s.noteCount off v n).rows = s.rows := (rfl)
@[simp] theorem State.noteCount_drc (s : State) (off v n : Nat) : (s.noteCount off v n).drc = s.drc := (rfl)
@[simp] theorem State.noteCount_prot (s : State) (off v n : Nat) : (s.noteCount off v n).prot = s.prot := (rfl)
@[simp] theorem State.noteCount_dram (s : State) (off v n : Nat) : (s.noteCount off v n).dram = s.dram := (rfl)
@[simp] theorem State.noteCount_tcm (s : State) (off v n : Nat) : (s.noteCount off v n).tcm = s.tcm := (rfl)
@[simp] theorem State.noteCount_freeCtr (s : State) (off v n : Nat) : (s.noteCount off v n).freeCtr = s.freeCtr := (rfl)
@[simp] theorem State.noteCount_out (s : State) (off v n : Nat) : (s.noteCount off v n).out = s.out := (rfl)
@[simp] theorem State.noteCount_pending (s : State) (off v n : Nat) : (s.noteCount off v n).pending = s.pending := (rfl)

/-! orReg changes only fresh, regs. -/

@[simp] theorem State.orReg_dev (s : State) (off : Nat) (m : Word) : (s.orReg off m).dev = s.dev := (rfl)
@[simp] theorem State.orReg_now (s : State) (off : Nat) (m : Word) : (s.orReg off m).now = s.now := (rfl)
@[simp] theorem State.orReg_snap (s : State) (off : Nat) (m : Word) : (s.orReg off m).snap = s.snap := (rfl)
@[simp] theorem State.orReg_pins (s : State) (off : Nat) (m : Word) : (s.orReg off m).pins = s.pins := (rfl)
@[simp] theorem State.orReg_ctl (s : State) (off : Nat) (m : Word) : (s.orReg off m).ctl = s.ctl := (rfl)
@[simp] theorem State.orReg_boot (s : State) (off : Nat) (m : Word) : (s.orReg off m).boot = s.boot := (rfl)
@[simp] theorem State.orReg_power (s : State) (off : Nat) (m : Word) : (s.orReg off m).power = s.power := (rfl)
@[simp] theorem State.orReg_flt (s : State) (off : Nat) (m : Word) : (s.orReg off m).flt = s.flt := (rfl)
@[simp] theorem State.orReg_mnt (s : State) (off : Nat) (m : Word) : (s.orReg off m).mnt = s.mnt := (rfl)
@[simp] theorem State.orReg_life (s : State) (off : Nat) (m : Word) : (s.orReg off m).life = s.life := (rfl)
@[simp] theorem State.orReg_pcie (s : State) (off : Nat) (m : Word) : (s.orReg off m).pcie = s.pcie := (rfl)
@[simp] theorem State.orReg_card (s : State) (off : Nat) (m : Word) : (s.orReg off m).card = s.card := (rfl)
@[simp] theorem State.orReg_dma (s : State) (off : Nat) (m : Word) : (s.orReg off m).dma = s.dma := (rfl)
@[simp] theorem State.orReg_pwmbx (s : State) (off : Nat) (m : Word) : (s.orReg off m).pwmbx = s.pwmbx := (rfl)
@[simp] theorem State.orReg_flash (s : State) (off : Nat) (m : Word) : (s.orReg off m).flash = s.flash := (rfl)
@[simp] theorem State.orReg_twn (s : State) (off : Nat) (m : Word) : (s.orReg off m).twn = s.twn := (rfl)
@[simp] theorem State.orReg_ptp (s : State) (off : Nat) (m : Word) : (s.orReg off m).ptp = s.ptp := (rfl)
@[simp] theorem State.orReg_tmg (s : State) (off : Nat) (m : Word) : (s.orReg off m).tmg = s.tmg := (rfl)
@[simp] theorem State.orReg_syn (s : State) (off : Nat) (m : Word) : (s.orReg off m).syn = s.syn := (rfl)
@[simp] theorem State.orReg_cfg (s : State) (off : Nat) (m : Word) : (s.orReg off m).cfg = s.cfg := (rfl)
@[simp] theorem State.orReg_xpt (s : State) (off : Nat) (m : Word) : (s.orReg off m).xpt = s.xpt := (rfl)
@[simp] theorem State.orReg_lan (s : State) (off : Nat) (m : Word) : (s.orReg off m).lan = s.lan := (rfl)
@[simp] theorem State.orReg_eyeSec (s : State) (off : Nat) (m : Word) : (s.orReg off m).eyeSec = s.eyeSec := (rfl)
@[simp] theorem State.orReg_sdi (s : State) (off : Nat) (m : Word) : (s.orReg off m).sdi = s.sdi := (rfl)
@[simp] theorem State.orReg_streams (s : State) (off : Nat) (m : Word) : (s.orReg off m).streams = s.streams := (rfl)
@[simp] theorem State.orReg_fst (s : State) (off : Nat) (m : Word) : (s.orReg off m).fst = s.fst := (rfl)
@[simp] theorem State.orReg_cmp (s : State) (off : Nat) (m : Word) : (s.orReg off m).cmp = s.cmp := (rfl)
@[simp] theorem State.orReg_lin (s : State) (off : Nat) (m : Word) : (s.orReg off m).lin = s.lin := (rfl)
@[simp] theorem State.orReg_tables (s : State) (off : Nat) (m : Word) : (s.orReg off m).tables = s.tables := (rfl)
@[simp] theorem State.orReg_aud (s : State) (off : Nat) (m : Word) : (s.orReg off m).aud = s.aud := (rfl)
@[simp] theorem State.orReg_mac (s : State) (off : Nat) (m : Word) : (s.orReg off m).mac = s.mac := (rfl)
@[simp] theorem State.orReg_med (s : State) (off : Nat) (m : Word) : (s.orReg off m).med = s.med := (rfl)
@[simp] theorem State.orReg_win (s : State) (off : Nat) (m : Word) : (s.orReg off m).win = s.win := (rfl)
@[simp] theorem State.orReg_rows (s : State) (off : Nat) (m : Word) : (s.orReg off m).rows = s.rows := (rfl)
@[simp] theorem State.orReg_drc (s : State) (off : Nat) (m : Word) : (s.orReg off m).drc = s.drc := (rfl)
@[simp] theorem State.orReg_prot (s : State) (off : Nat) (m : Word) : (s.orReg off m).prot = s.prot := (rfl)
@[simp] theorem State.orReg_dram (s : State) (off : Nat) (m : Word) : (s.orReg off m).dram = s.dram := (rfl)
@[simp] theorem State.orReg_tcm (s : State) (off : Nat) (m : Word) : (s.orReg off m).tcm = s.tcm := (rfl)
@[simp] theorem State.orReg_freeCtr (s : State) (off : Nat) (m : Word) : (s.orReg off m).freeCtr = s.freeCtr := (rfl)
@[simp] theorem State.orReg_out (s : State) (off : Nat) (m : Word) : (s.orReg off m).out = s.out := (rfl)
@[simp] theorem State.orReg_pending (s : State) (off : Nat) (m : Word) : (s.orReg off m).pending = s.pending := (rfl)

/-! wr64 changes only regs. -/

@[simp] theorem State.wr64_dev (s : State) (lo hi v : Nat) : (s.wr64 lo hi v).dev = s.dev := (rfl)
@[simp] theorem State.wr64_now (s : State) (lo hi v : Nat) : (s.wr64 lo hi v).now = s.now := (rfl)
@[simp] theorem State.wr64_snap (s : State) (lo hi v : Nat) : (s.wr64 lo hi v).snap = s.snap := (rfl)
@[simp] theorem State.wr64_pins (s : State) (lo hi v : Nat) : (s.wr64 lo hi v).pins = s.pins := (rfl)
@[simp] theorem State.wr64_ctl (s : State) (lo hi v : Nat) : (s.wr64 lo hi v).ctl = s.ctl := (rfl)
@[simp] theorem State.wr64_boot (s : State) (lo hi v : Nat) : (s.wr64 lo hi v).boot = s.boot := (rfl)
@[simp] theorem State.wr64_power (s : State) (lo hi v : Nat) : (s.wr64 lo hi v).power = s.power := (rfl)
@[simp] theorem State.wr64_flt (s : State) (lo hi v : Nat) : (s.wr64 lo hi v).flt = s.flt := (rfl)
@[simp] theorem State.wr64_mnt (s : State) (lo hi v : Nat) : (s.wr64 lo hi v).mnt = s.mnt := (rfl)
@[simp] theorem State.wr64_life (s : State) (lo hi v : Nat) : (s.wr64 lo hi v).life = s.life := (rfl)
@[simp] theorem State.wr64_pcie (s : State) (lo hi v : Nat) : (s.wr64 lo hi v).pcie = s.pcie := (rfl)
@[simp] theorem State.wr64_card (s : State) (lo hi v : Nat) : (s.wr64 lo hi v).card = s.card := (rfl)
@[simp] theorem State.wr64_dma (s : State) (lo hi v : Nat) : (s.wr64 lo hi v).dma = s.dma := (rfl)
@[simp] theorem State.wr64_pwmbx (s : State) (lo hi v : Nat) : (s.wr64 lo hi v).pwmbx = s.pwmbx := (rfl)
@[simp] theorem State.wr64_flash (s : State) (lo hi v : Nat) : (s.wr64 lo hi v).flash = s.flash := (rfl)
@[simp] theorem State.wr64_twn (s : State) (lo hi v : Nat) : (s.wr64 lo hi v).twn = s.twn := (rfl)
@[simp] theorem State.wr64_ptp (s : State) (lo hi v : Nat) : (s.wr64 lo hi v).ptp = s.ptp := (rfl)
@[simp] theorem State.wr64_tmg (s : State) (lo hi v : Nat) : (s.wr64 lo hi v).tmg = s.tmg := (rfl)
@[simp] theorem State.wr64_syn (s : State) (lo hi v : Nat) : (s.wr64 lo hi v).syn = s.syn := (rfl)
@[simp] theorem State.wr64_cfg (s : State) (lo hi v : Nat) : (s.wr64 lo hi v).cfg = s.cfg := (rfl)
@[simp] theorem State.wr64_xpt (s : State) (lo hi v : Nat) : (s.wr64 lo hi v).xpt = s.xpt := (rfl)
@[simp] theorem State.wr64_lan (s : State) (lo hi v : Nat) : (s.wr64 lo hi v).lan = s.lan := (rfl)
@[simp] theorem State.wr64_eyeSec (s : State) (lo hi v : Nat) : (s.wr64 lo hi v).eyeSec = s.eyeSec := (rfl)
@[simp] theorem State.wr64_sdi (s : State) (lo hi v : Nat) : (s.wr64 lo hi v).sdi = s.sdi := (rfl)
@[simp] theorem State.wr64_streams (s : State) (lo hi v : Nat) : (s.wr64 lo hi v).streams = s.streams := (rfl)
@[simp] theorem State.wr64_fst (s : State) (lo hi v : Nat) : (s.wr64 lo hi v).fst = s.fst := (rfl)
@[simp] theorem State.wr64_cmp (s : State) (lo hi v : Nat) : (s.wr64 lo hi v).cmp = s.cmp := (rfl)
@[simp] theorem State.wr64_lin (s : State) (lo hi v : Nat) : (s.wr64 lo hi v).lin = s.lin := (rfl)
@[simp] theorem State.wr64_tables (s : State) (lo hi v : Nat) : (s.wr64 lo hi v).tables = s.tables := (rfl)
@[simp] theorem State.wr64_aud (s : State) (lo hi v : Nat) : (s.wr64 lo hi v).aud = s.aud := (rfl)
@[simp] theorem State.wr64_mac (s : State) (lo hi v : Nat) : (s.wr64 lo hi v).mac = s.mac := (rfl)
@[simp] theorem State.wr64_med (s : State) (lo hi v : Nat) : (s.wr64 lo hi v).med = s.med := (rfl)
@[simp] theorem State.wr64_win (s : State) (lo hi v : Nat) : (s.wr64 lo hi v).win = s.win := (rfl)
@[simp] theorem State.wr64_rows (s : State) (lo hi v : Nat) : (s.wr64 lo hi v).rows = s.rows := (rfl)
@[simp] theorem State.wr64_drc (s : State) (lo hi v : Nat) : (s.wr64 lo hi v).drc = s.drc := (rfl)
@[simp] theorem State.wr64_prot (s : State) (lo hi v : Nat) : (s.wr64 lo hi v).prot = s.prot := (rfl)
@[simp] theorem State.wr64_fresh (s : State) (lo hi v : Nat) : (s.wr64 lo hi v).fresh = s.fresh := (rfl)
@[simp] theorem State.wr64_dram (s : State) (lo hi v : Nat) : (s.wr64 lo hi v).dram = s.dram := (rfl)
@[simp] theorem State.wr64_tcm (s : State) (lo hi v : Nat) : (s.wr64 lo hi v).tcm = s.tcm := (rfl)
@[simp] theorem State.wr64_freeCtr (s : State) (lo hi v : Nat) : (s.wr64 lo hi v).freeCtr = s.freeCtr := (rfl)
@[simp] theorem State.wr64_out (s : State) (lo hi v : Nat) : (s.wr64 lo hi v).out = s.out := (rfl)
@[simp] theorem State.wr64_pending (s : State) (lo hi v : Nat) : (s.wr64 lo hi v).pending = s.pending := (rfl)

/-! bump64 changes only fresh, regs. -/

@[simp] theorem State.bump64_dev (s : State) (lo hi n : Nat) : (s.bump64 lo hi n).dev = s.dev := (rfl)
@[simp] theorem State.bump64_now (s : State) (lo hi n : Nat) : (s.bump64 lo hi n).now = s.now := (rfl)
@[simp] theorem State.bump64_snap (s : State) (lo hi n : Nat) : (s.bump64 lo hi n).snap = s.snap := (rfl)
@[simp] theorem State.bump64_pins (s : State) (lo hi n : Nat) : (s.bump64 lo hi n).pins = s.pins := (rfl)
@[simp] theorem State.bump64_ctl (s : State) (lo hi n : Nat) : (s.bump64 lo hi n).ctl = s.ctl := (rfl)
@[simp] theorem State.bump64_boot (s : State) (lo hi n : Nat) : (s.bump64 lo hi n).boot = s.boot := (rfl)
@[simp] theorem State.bump64_power (s : State) (lo hi n : Nat) : (s.bump64 lo hi n).power = s.power := (rfl)
@[simp] theorem State.bump64_flt (s : State) (lo hi n : Nat) : (s.bump64 lo hi n).flt = s.flt := (rfl)
@[simp] theorem State.bump64_mnt (s : State) (lo hi n : Nat) : (s.bump64 lo hi n).mnt = s.mnt := (rfl)
@[simp] theorem State.bump64_life (s : State) (lo hi n : Nat) : (s.bump64 lo hi n).life = s.life := (rfl)
@[simp] theorem State.bump64_pcie (s : State) (lo hi n : Nat) : (s.bump64 lo hi n).pcie = s.pcie := (rfl)
@[simp] theorem State.bump64_card (s : State) (lo hi n : Nat) : (s.bump64 lo hi n).card = s.card := (rfl)
@[simp] theorem State.bump64_dma (s : State) (lo hi n : Nat) : (s.bump64 lo hi n).dma = s.dma := (rfl)
@[simp] theorem State.bump64_pwmbx (s : State) (lo hi n : Nat) : (s.bump64 lo hi n).pwmbx = s.pwmbx := (rfl)
@[simp] theorem State.bump64_flash (s : State) (lo hi n : Nat) : (s.bump64 lo hi n).flash = s.flash := (rfl)
@[simp] theorem State.bump64_twn (s : State) (lo hi n : Nat) : (s.bump64 lo hi n).twn = s.twn := (rfl)
@[simp] theorem State.bump64_ptp (s : State) (lo hi n : Nat) : (s.bump64 lo hi n).ptp = s.ptp := (rfl)
@[simp] theorem State.bump64_tmg (s : State) (lo hi n : Nat) : (s.bump64 lo hi n).tmg = s.tmg := (rfl)
@[simp] theorem State.bump64_syn (s : State) (lo hi n : Nat) : (s.bump64 lo hi n).syn = s.syn := (rfl)
@[simp] theorem State.bump64_cfg (s : State) (lo hi n : Nat) : (s.bump64 lo hi n).cfg = s.cfg := (rfl)
@[simp] theorem State.bump64_xpt (s : State) (lo hi n : Nat) : (s.bump64 lo hi n).xpt = s.xpt := (rfl)
@[simp] theorem State.bump64_lan (s : State) (lo hi n : Nat) : (s.bump64 lo hi n).lan = s.lan := (rfl)
@[simp] theorem State.bump64_eyeSec (s : State) (lo hi n : Nat) : (s.bump64 lo hi n).eyeSec = s.eyeSec := (rfl)
@[simp] theorem State.bump64_sdi (s : State) (lo hi n : Nat) : (s.bump64 lo hi n).sdi = s.sdi := (rfl)
@[simp] theorem State.bump64_streams (s : State) (lo hi n : Nat) : (s.bump64 lo hi n).streams = s.streams := (rfl)
@[simp] theorem State.bump64_fst (s : State) (lo hi n : Nat) : (s.bump64 lo hi n).fst = s.fst := (rfl)
@[simp] theorem State.bump64_cmp (s : State) (lo hi n : Nat) : (s.bump64 lo hi n).cmp = s.cmp := (rfl)
@[simp] theorem State.bump64_lin (s : State) (lo hi n : Nat) : (s.bump64 lo hi n).lin = s.lin := (rfl)
@[simp] theorem State.bump64_tables (s : State) (lo hi n : Nat) : (s.bump64 lo hi n).tables = s.tables := (rfl)
@[simp] theorem State.bump64_aud (s : State) (lo hi n : Nat) : (s.bump64 lo hi n).aud = s.aud := (rfl)
@[simp] theorem State.bump64_mac (s : State) (lo hi n : Nat) : (s.bump64 lo hi n).mac = s.mac := (rfl)
@[simp] theorem State.bump64_med (s : State) (lo hi n : Nat) : (s.bump64 lo hi n).med = s.med := (rfl)
@[simp] theorem State.bump64_win (s : State) (lo hi n : Nat) : (s.bump64 lo hi n).win = s.win := (rfl)
@[simp] theorem State.bump64_rows (s : State) (lo hi n : Nat) : (s.bump64 lo hi n).rows = s.rows := (rfl)
@[simp] theorem State.bump64_drc (s : State) (lo hi n : Nat) : (s.bump64 lo hi n).drc = s.drc := (rfl)
@[simp] theorem State.bump64_prot (s : State) (lo hi n : Nat) : (s.bump64 lo hi n).prot = s.prot := (rfl)
@[simp] theorem State.bump64_dram (s : State) (lo hi n : Nat) : (s.bump64 lo hi n).dram = s.dram := (rfl)
@[simp] theorem State.bump64_tcm (s : State) (lo hi n : Nat) : (s.bump64 lo hi n).tcm = s.tcm := (rfl)
@[simp] theorem State.bump64_freeCtr (s : State) (lo hi n : Nat) : (s.bump64 lo hi n).freeCtr = s.freeCtr := (rfl)
@[simp] theorem State.bump64_out (s : State) (lo hi n : Nat) : (s.bump64 lo hi n).out = s.out := (rfl)
@[simp] theorem State.bump64_pending (s : State) (lo hi n : Nat) : (s.bump64 lo hi n).pending = s.pending := (rfl)

/-! satFld changes only regs. -/

@[simp] theorem State.satFld_dev (s : State) (off hi lo : Nat) : (s.satFld off hi lo).dev = s.dev := by unfold State.satFld; split <;> rfl
@[simp] theorem State.satFld_now (s : State) (off hi lo : Nat) : (s.satFld off hi lo).now = s.now := by unfold State.satFld; split <;> rfl
@[simp] theorem State.satFld_snap (s : State) (off hi lo : Nat) : (s.satFld off hi lo).snap = s.snap := by unfold State.satFld; split <;> rfl
@[simp] theorem State.satFld_pins (s : State) (off hi lo : Nat) : (s.satFld off hi lo).pins = s.pins := by unfold State.satFld; split <;> rfl
@[simp] theorem State.satFld_ctl (s : State) (off hi lo : Nat) : (s.satFld off hi lo).ctl = s.ctl := by unfold State.satFld; split <;> rfl
@[simp] theorem State.satFld_boot (s : State) (off hi lo : Nat) : (s.satFld off hi lo).boot = s.boot := by unfold State.satFld; split <;> rfl
@[simp] theorem State.satFld_power (s : State) (off hi lo : Nat) : (s.satFld off hi lo).power = s.power := by unfold State.satFld; split <;> rfl
@[simp] theorem State.satFld_flt (s : State) (off hi lo : Nat) : (s.satFld off hi lo).flt = s.flt := by unfold State.satFld; split <;> rfl
@[simp] theorem State.satFld_mnt (s : State) (off hi lo : Nat) : (s.satFld off hi lo).mnt = s.mnt := by unfold State.satFld; split <;> rfl
@[simp] theorem State.satFld_life (s : State) (off hi lo : Nat) : (s.satFld off hi lo).life = s.life := by unfold State.satFld; split <;> rfl
@[simp] theorem State.satFld_pcie (s : State) (off hi lo : Nat) : (s.satFld off hi lo).pcie = s.pcie := by unfold State.satFld; split <;> rfl
@[simp] theorem State.satFld_card (s : State) (off hi lo : Nat) : (s.satFld off hi lo).card = s.card := by unfold State.satFld; split <;> rfl
@[simp] theorem State.satFld_dma (s : State) (off hi lo : Nat) : (s.satFld off hi lo).dma = s.dma := by unfold State.satFld; split <;> rfl
@[simp] theorem State.satFld_pwmbx (s : State) (off hi lo : Nat) : (s.satFld off hi lo).pwmbx = s.pwmbx := by unfold State.satFld; split <;> rfl
@[simp] theorem State.satFld_flash (s : State) (off hi lo : Nat) : (s.satFld off hi lo).flash = s.flash := by unfold State.satFld; split <;> rfl
@[simp] theorem State.satFld_twn (s : State) (off hi lo : Nat) : (s.satFld off hi lo).twn = s.twn := by unfold State.satFld; split <;> rfl
@[simp] theorem State.satFld_ptp (s : State) (off hi lo : Nat) : (s.satFld off hi lo).ptp = s.ptp := by unfold State.satFld; split <;> rfl
@[simp] theorem State.satFld_tmg (s : State) (off hi lo : Nat) : (s.satFld off hi lo).tmg = s.tmg := by unfold State.satFld; split <;> rfl
@[simp] theorem State.satFld_syn (s : State) (off hi lo : Nat) : (s.satFld off hi lo).syn = s.syn := by unfold State.satFld; split <;> rfl
@[simp] theorem State.satFld_cfg (s : State) (off hi lo : Nat) : (s.satFld off hi lo).cfg = s.cfg := by unfold State.satFld; split <;> rfl
@[simp] theorem State.satFld_xpt (s : State) (off hi lo : Nat) : (s.satFld off hi lo).xpt = s.xpt := by unfold State.satFld; split <;> rfl
@[simp] theorem State.satFld_lan (s : State) (off hi lo : Nat) : (s.satFld off hi lo).lan = s.lan := by unfold State.satFld; split <;> rfl
@[simp] theorem State.satFld_eyeSec (s : State) (off hi lo : Nat) : (s.satFld off hi lo).eyeSec = s.eyeSec := by unfold State.satFld; split <;> rfl
@[simp] theorem State.satFld_sdi (s : State) (off hi lo : Nat) : (s.satFld off hi lo).sdi = s.sdi := by unfold State.satFld; split <;> rfl
@[simp] theorem State.satFld_streams (s : State) (off hi lo : Nat) : (s.satFld off hi lo).streams = s.streams := by unfold State.satFld; split <;> rfl
@[simp] theorem State.satFld_fst (s : State) (off hi lo : Nat) : (s.satFld off hi lo).fst = s.fst := by unfold State.satFld; split <;> rfl
@[simp] theorem State.satFld_cmp (s : State) (off hi lo : Nat) : (s.satFld off hi lo).cmp = s.cmp := by unfold State.satFld; split <;> rfl
@[simp] theorem State.satFld_lin (s : State) (off hi lo : Nat) : (s.satFld off hi lo).lin = s.lin := by unfold State.satFld; split <;> rfl
@[simp] theorem State.satFld_tables (s : State) (off hi lo : Nat) : (s.satFld off hi lo).tables = s.tables := by unfold State.satFld; split <;> rfl
@[simp] theorem State.satFld_aud (s : State) (off hi lo : Nat) : (s.satFld off hi lo).aud = s.aud := by unfold State.satFld; split <;> rfl
@[simp] theorem State.satFld_mac (s : State) (off hi lo : Nat) : (s.satFld off hi lo).mac = s.mac := by unfold State.satFld; split <;> rfl
@[simp] theorem State.satFld_med (s : State) (off hi lo : Nat) : (s.satFld off hi lo).med = s.med := by unfold State.satFld; split <;> rfl
@[simp] theorem State.satFld_win (s : State) (off hi lo : Nat) : (s.satFld off hi lo).win = s.win := by unfold State.satFld; split <;> rfl
@[simp] theorem State.satFld_rows (s : State) (off hi lo : Nat) : (s.satFld off hi lo).rows = s.rows := by unfold State.satFld; split <;> rfl
@[simp] theorem State.satFld_drc (s : State) (off hi lo : Nat) : (s.satFld off hi lo).drc = s.drc := by unfold State.satFld; split <;> rfl
@[simp] theorem State.satFld_prot (s : State) (off hi lo : Nat) : (s.satFld off hi lo).prot = s.prot := by unfold State.satFld; split <;> rfl
@[simp] theorem State.satFld_fresh (s : State) (off hi lo : Nat) : (s.satFld off hi lo).fresh = s.fresh := by unfold State.satFld; split <;> rfl
@[simp] theorem State.satFld_dram (s : State) (off hi lo : Nat) : (s.satFld off hi lo).dram = s.dram := by unfold State.satFld; split <;> rfl
@[simp] theorem State.satFld_tcm (s : State) (off hi lo : Nat) : (s.satFld off hi lo).tcm = s.tcm := by unfold State.satFld; split <;> rfl
@[simp] theorem State.satFld_freeCtr (s : State) (off hi lo : Nat) : (s.satFld off hi lo).freeCtr = s.freeCtr := by unfold State.satFld; split <;> rfl
@[simp] theorem State.satFld_out (s : State) (off hi lo : Nat) : (s.satFld off hi lo).out = s.out := by unfold State.satFld; split <;> rfl
@[simp] theorem State.satFld_pending (s : State) (off hi lo : Nat) : (s.satFld off hi lo).pending = s.pending := by unfold State.satFld; split <;> rfl

/-! freeNext changes only freeCtr. -/

@[simp] theorem State.freeNext_dev (s : State)  : (s.freeNext).dev = s.dev := (rfl)
@[simp] theorem State.freeNext_now (s : State)  : (s.freeNext).now = s.now := (rfl)
@[simp] theorem State.freeNext_regs (s : State)  : (s.freeNext).regs = s.regs := (rfl)
@[simp] theorem State.freeNext_snap (s : State)  : (s.freeNext).snap = s.snap := (rfl)
@[simp] theorem State.freeNext_pins (s : State)  : (s.freeNext).pins = s.pins := (rfl)
@[simp] theorem State.freeNext_ctl (s : State)  : (s.freeNext).ctl = s.ctl := (rfl)
@[simp] theorem State.freeNext_boot (s : State)  : (s.freeNext).boot = s.boot := (rfl)
@[simp] theorem State.freeNext_power (s : State)  : (s.freeNext).power = s.power := (rfl)
@[simp] theorem State.freeNext_flt (s : State)  : (s.freeNext).flt = s.flt := (rfl)
@[simp] theorem State.freeNext_mnt (s : State)  : (s.freeNext).mnt = s.mnt := (rfl)
@[simp] theorem State.freeNext_life (s : State)  : (s.freeNext).life = s.life := (rfl)
@[simp] theorem State.freeNext_pcie (s : State)  : (s.freeNext).pcie = s.pcie := (rfl)
@[simp] theorem State.freeNext_card (s : State)  : (s.freeNext).card = s.card := (rfl)
@[simp] theorem State.freeNext_dma (s : State)  : (s.freeNext).dma = s.dma := (rfl)
@[simp] theorem State.freeNext_pwmbx (s : State)  : (s.freeNext).pwmbx = s.pwmbx := (rfl)
@[simp] theorem State.freeNext_flash (s : State)  : (s.freeNext).flash = s.flash := (rfl)
@[simp] theorem State.freeNext_twn (s : State)  : (s.freeNext).twn = s.twn := (rfl)
@[simp] theorem State.freeNext_ptp (s : State)  : (s.freeNext).ptp = s.ptp := (rfl)
@[simp] theorem State.freeNext_tmg (s : State)  : (s.freeNext).tmg = s.tmg := (rfl)
@[simp] theorem State.freeNext_syn (s : State)  : (s.freeNext).syn = s.syn := (rfl)
@[simp] theorem State.freeNext_cfg (s : State)  : (s.freeNext).cfg = s.cfg := (rfl)
@[simp] theorem State.freeNext_xpt (s : State)  : (s.freeNext).xpt = s.xpt := (rfl)
@[simp] theorem State.freeNext_lan (s : State)  : (s.freeNext).lan = s.lan := (rfl)
@[simp] theorem State.freeNext_eyeSec (s : State)  : (s.freeNext).eyeSec = s.eyeSec := (rfl)
@[simp] theorem State.freeNext_sdi (s : State)  : (s.freeNext).sdi = s.sdi := (rfl)
@[simp] theorem State.freeNext_streams (s : State)  : (s.freeNext).streams = s.streams := (rfl)
@[simp] theorem State.freeNext_fst (s : State)  : (s.freeNext).fst = s.fst := (rfl)
@[simp] theorem State.freeNext_cmp (s : State)  : (s.freeNext).cmp = s.cmp := (rfl)
@[simp] theorem State.freeNext_lin (s : State)  : (s.freeNext).lin = s.lin := (rfl)
@[simp] theorem State.freeNext_tables (s : State)  : (s.freeNext).tables = s.tables := (rfl)
@[simp] theorem State.freeNext_aud (s : State)  : (s.freeNext).aud = s.aud := (rfl)
@[simp] theorem State.freeNext_mac (s : State)  : (s.freeNext).mac = s.mac := (rfl)
@[simp] theorem State.freeNext_med (s : State)  : (s.freeNext).med = s.med := (rfl)
@[simp] theorem State.freeNext_win (s : State)  : (s.freeNext).win = s.win := (rfl)
@[simp] theorem State.freeNext_rows (s : State)  : (s.freeNext).rows = s.rows := (rfl)
@[simp] theorem State.freeNext_drc (s : State)  : (s.freeNext).drc = s.drc := (rfl)
@[simp] theorem State.freeNext_prot (s : State)  : (s.freeNext).prot = s.prot := (rfl)
@[simp] theorem State.freeNext_fresh (s : State)  : (s.freeNext).fresh = s.fresh := (rfl)
@[simp] theorem State.freeNext_dram (s : State)  : (s.freeNext).dram = s.dram := (rfl)
@[simp] theorem State.freeNext_tcm (s : State)  : (s.freeNext).tcm = s.tcm := (rfl)
@[simp] theorem State.freeNext_out (s : State)  : (s.freeNext).out = s.out := (rfl)
@[simp] theorem State.freeNext_pending (s : State)  : (s.freeNext).pending = s.pending := (rfl)

/-! emit changes only out. -/

@[simp] theorem State.emit_dev (s : State) (o : Output) : (s.emit o).dev = s.dev := (rfl)
@[simp] theorem State.emit_now (s : State) (o : Output) : (s.emit o).now = s.now := (rfl)
@[simp] theorem State.emit_regs (s : State) (o : Output) : (s.emit o).regs = s.regs := (rfl)
@[simp] theorem State.emit_snap (s : State) (o : Output) : (s.emit o).snap = s.snap := (rfl)
@[simp] theorem State.emit_pins (s : State) (o : Output) : (s.emit o).pins = s.pins := (rfl)
@[simp] theorem State.emit_ctl (s : State) (o : Output) : (s.emit o).ctl = s.ctl := (rfl)
@[simp] theorem State.emit_boot (s : State) (o : Output) : (s.emit o).boot = s.boot := (rfl)
@[simp] theorem State.emit_power (s : State) (o : Output) : (s.emit o).power = s.power := (rfl)
@[simp] theorem State.emit_flt (s : State) (o : Output) : (s.emit o).flt = s.flt := (rfl)
@[simp] theorem State.emit_mnt (s : State) (o : Output) : (s.emit o).mnt = s.mnt := (rfl)
@[simp] theorem State.emit_life (s : State) (o : Output) : (s.emit o).life = s.life := (rfl)
@[simp] theorem State.emit_pcie (s : State) (o : Output) : (s.emit o).pcie = s.pcie := (rfl)
@[simp] theorem State.emit_card (s : State) (o : Output) : (s.emit o).card = s.card := (rfl)
@[simp] theorem State.emit_dma (s : State) (o : Output) : (s.emit o).dma = s.dma := (rfl)
@[simp] theorem State.emit_pwmbx (s : State) (o : Output) : (s.emit o).pwmbx = s.pwmbx := (rfl)
@[simp] theorem State.emit_flash (s : State) (o : Output) : (s.emit o).flash = s.flash := (rfl)
@[simp] theorem State.emit_twn (s : State) (o : Output) : (s.emit o).twn = s.twn := (rfl)
@[simp] theorem State.emit_ptp (s : State) (o : Output) : (s.emit o).ptp = s.ptp := (rfl)
@[simp] theorem State.emit_tmg (s : State) (o : Output) : (s.emit o).tmg = s.tmg := (rfl)
@[simp] theorem State.emit_syn (s : State) (o : Output) : (s.emit o).syn = s.syn := (rfl)
@[simp] theorem State.emit_cfg (s : State) (o : Output) : (s.emit o).cfg = s.cfg := (rfl)
@[simp] theorem State.emit_xpt (s : State) (o : Output) : (s.emit o).xpt = s.xpt := (rfl)
@[simp] theorem State.emit_lan (s : State) (o : Output) : (s.emit o).lan = s.lan := (rfl)
@[simp] theorem State.emit_eyeSec (s : State) (o : Output) : (s.emit o).eyeSec = s.eyeSec := (rfl)
@[simp] theorem State.emit_sdi (s : State) (o : Output) : (s.emit o).sdi = s.sdi := (rfl)
@[simp] theorem State.emit_streams (s : State) (o : Output) : (s.emit o).streams = s.streams := (rfl)
@[simp] theorem State.emit_fst (s : State) (o : Output) : (s.emit o).fst = s.fst := (rfl)
@[simp] theorem State.emit_cmp (s : State) (o : Output) : (s.emit o).cmp = s.cmp := (rfl)
@[simp] theorem State.emit_lin (s : State) (o : Output) : (s.emit o).lin = s.lin := (rfl)
@[simp] theorem State.emit_tables (s : State) (o : Output) : (s.emit o).tables = s.tables := (rfl)
@[simp] theorem State.emit_aud (s : State) (o : Output) : (s.emit o).aud = s.aud := (rfl)
@[simp] theorem State.emit_mac (s : State) (o : Output) : (s.emit o).mac = s.mac := (rfl)
@[simp] theorem State.emit_med (s : State) (o : Output) : (s.emit o).med = s.med := (rfl)
@[simp] theorem State.emit_win (s : State) (o : Output) : (s.emit o).win = s.win := (rfl)
@[simp] theorem State.emit_rows (s : State) (o : Output) : (s.emit o).rows = s.rows := (rfl)
@[simp] theorem State.emit_drc (s : State) (o : Output) : (s.emit o).drc = s.drc := (rfl)
@[simp] theorem State.emit_prot (s : State) (o : Output) : (s.emit o).prot = s.prot := (rfl)
@[simp] theorem State.emit_fresh (s : State) (o : Output) : (s.emit o).fresh = s.fresh := (rfl)
@[simp] theorem State.emit_dram (s : State) (o : Output) : (s.emit o).dram = s.dram := (rfl)
@[simp] theorem State.emit_tcm (s : State) (o : Output) : (s.emit o).tcm = s.tcm := (rfl)
@[simp] theorem State.emit_freeCtr (s : State) (o : Output) : (s.emit o).freeCtr = s.freeCtr := (rfl)
@[simp] theorem State.emit_pending (s : State) (o : Output) : (s.emit o).pending = s.pending := (rfl)

/-! bumpBy changes only freeCtr, fresh, regs. -/

@[simp] theorem State.bumpBy_dev (s : State) (off n : Nat) : (s.bumpBy off n).dev = s.dev := by unfold State.bumpBy; simp only; split <;> (try split) <;> rfl
@[simp] theorem State.bumpBy_now (s : State) (off n : Nat) : (s.bumpBy off n).now = s.now := by unfold State.bumpBy; simp only; split <;> (try split) <;> rfl
@[simp] theorem State.bumpBy_snap (s : State) (off n : Nat) : (s.bumpBy off n).snap = s.snap := by unfold State.bumpBy; simp only; split <;> (try split) <;> rfl
@[simp] theorem State.bumpBy_pins (s : State) (off n : Nat) : (s.bumpBy off n).pins = s.pins := by unfold State.bumpBy; simp only; split <;> (try split) <;> rfl
@[simp] theorem State.bumpBy_ctl (s : State) (off n : Nat) : (s.bumpBy off n).ctl = s.ctl := by unfold State.bumpBy; simp only; split <;> (try split) <;> rfl
@[simp] theorem State.bumpBy_boot (s : State) (off n : Nat) : (s.bumpBy off n).boot = s.boot := by unfold State.bumpBy; simp only; split <;> (try split) <;> rfl
@[simp] theorem State.bumpBy_power (s : State) (off n : Nat) : (s.bumpBy off n).power = s.power := by unfold State.bumpBy; simp only; split <;> (try split) <;> rfl
@[simp] theorem State.bumpBy_flt (s : State) (off n : Nat) : (s.bumpBy off n).flt = s.flt := by unfold State.bumpBy; simp only; split <;> (try split) <;> rfl
@[simp] theorem State.bumpBy_mnt (s : State) (off n : Nat) : (s.bumpBy off n).mnt = s.mnt := by unfold State.bumpBy; simp only; split <;> (try split) <;> rfl
@[simp] theorem State.bumpBy_life (s : State) (off n : Nat) : (s.bumpBy off n).life = s.life := by unfold State.bumpBy; simp only; split <;> (try split) <;> rfl
@[simp] theorem State.bumpBy_pcie (s : State) (off n : Nat) : (s.bumpBy off n).pcie = s.pcie := by unfold State.bumpBy; simp only; split <;> (try split) <;> rfl
@[simp] theorem State.bumpBy_card (s : State) (off n : Nat) : (s.bumpBy off n).card = s.card := by unfold State.bumpBy; simp only; split <;> (try split) <;> rfl
@[simp] theorem State.bumpBy_dma (s : State) (off n : Nat) : (s.bumpBy off n).dma = s.dma := by unfold State.bumpBy; simp only; split <;> (try split) <;> rfl
@[simp] theorem State.bumpBy_pwmbx (s : State) (off n : Nat) : (s.bumpBy off n).pwmbx = s.pwmbx := by unfold State.bumpBy; simp only; split <;> (try split) <;> rfl
@[simp] theorem State.bumpBy_flash (s : State) (off n : Nat) : (s.bumpBy off n).flash = s.flash := by unfold State.bumpBy; simp only; split <;> (try split) <;> rfl
@[simp] theorem State.bumpBy_twn (s : State) (off n : Nat) : (s.bumpBy off n).twn = s.twn := by unfold State.bumpBy; simp only; split <;> (try split) <;> rfl
@[simp] theorem State.bumpBy_ptp (s : State) (off n : Nat) : (s.bumpBy off n).ptp = s.ptp := by unfold State.bumpBy; simp only; split <;> (try split) <;> rfl
@[simp] theorem State.bumpBy_tmg (s : State) (off n : Nat) : (s.bumpBy off n).tmg = s.tmg := by unfold State.bumpBy; simp only; split <;> (try split) <;> rfl
@[simp] theorem State.bumpBy_syn (s : State) (off n : Nat) : (s.bumpBy off n).syn = s.syn := by unfold State.bumpBy; simp only; split <;> (try split) <;> rfl
@[simp] theorem State.bumpBy_cfg (s : State) (off n : Nat) : (s.bumpBy off n).cfg = s.cfg := by unfold State.bumpBy; simp only; split <;> (try split) <;> rfl
@[simp] theorem State.bumpBy_xpt (s : State) (off n : Nat) : (s.bumpBy off n).xpt = s.xpt := by unfold State.bumpBy; simp only; split <;> (try split) <;> rfl
@[simp] theorem State.bumpBy_lan (s : State) (off n : Nat) : (s.bumpBy off n).lan = s.lan := by unfold State.bumpBy; simp only; split <;> (try split) <;> rfl
@[simp] theorem State.bumpBy_eyeSec (s : State) (off n : Nat) : (s.bumpBy off n).eyeSec = s.eyeSec := by unfold State.bumpBy; simp only; split <;> (try split) <;> rfl
@[simp] theorem State.bumpBy_sdi (s : State) (off n : Nat) : (s.bumpBy off n).sdi = s.sdi := by unfold State.bumpBy; simp only; split <;> (try split) <;> rfl
@[simp] theorem State.bumpBy_streams (s : State) (off n : Nat) : (s.bumpBy off n).streams = s.streams := by unfold State.bumpBy; simp only; split <;> (try split) <;> rfl
@[simp] theorem State.bumpBy_fst (s : State) (off n : Nat) : (s.bumpBy off n).fst = s.fst := by unfold State.bumpBy; simp only; split <;> (try split) <;> rfl
@[simp] theorem State.bumpBy_cmp (s : State) (off n : Nat) : (s.bumpBy off n).cmp = s.cmp := by unfold State.bumpBy; simp only; split <;> (try split) <;> rfl
@[simp] theorem State.bumpBy_lin (s : State) (off n : Nat) : (s.bumpBy off n).lin = s.lin := by unfold State.bumpBy; simp only; split <;> (try split) <;> rfl
@[simp] theorem State.bumpBy_tables (s : State) (off n : Nat) : (s.bumpBy off n).tables = s.tables := by unfold State.bumpBy; simp only; split <;> (try split) <;> rfl
@[simp] theorem State.bumpBy_aud (s : State) (off n : Nat) : (s.bumpBy off n).aud = s.aud := by unfold State.bumpBy; simp only; split <;> (try split) <;> rfl
@[simp] theorem State.bumpBy_mac (s : State) (off n : Nat) : (s.bumpBy off n).mac = s.mac := by unfold State.bumpBy; simp only; split <;> (try split) <;> rfl
@[simp] theorem State.bumpBy_med (s : State) (off n : Nat) : (s.bumpBy off n).med = s.med := by unfold State.bumpBy; simp only; split <;> (try split) <;> rfl
@[simp] theorem State.bumpBy_win (s : State) (off n : Nat) : (s.bumpBy off n).win = s.win := by unfold State.bumpBy; simp only; split <;> (try split) <;> rfl
@[simp] theorem State.bumpBy_rows (s : State) (off n : Nat) : (s.bumpBy off n).rows = s.rows := by unfold State.bumpBy; simp only; split <;> (try split) <;> rfl
@[simp] theorem State.bumpBy_drc (s : State) (off n : Nat) : (s.bumpBy off n).drc = s.drc := by unfold State.bumpBy; simp only; split <;> (try split) <;> rfl
@[simp] theorem State.bumpBy_prot (s : State) (off n : Nat) : (s.bumpBy off n).prot = s.prot := by unfold State.bumpBy; simp only; split <;> (try split) <;> rfl
@[simp] theorem State.bumpBy_dram (s : State) (off n : Nat) : (s.bumpBy off n).dram = s.dram := by unfold State.bumpBy; simp only; split <;> (try split) <;> rfl
@[simp] theorem State.bumpBy_tcm (s : State) (off n : Nat) : (s.bumpBy off n).tcm = s.tcm := by unfold State.bumpBy; simp only; split <;> (try split) <;> rfl
@[simp] theorem State.bumpBy_out (s : State) (off n : Nat) : (s.bumpBy off n).out = s.out := by unfold State.bumpBy; simp only; split <;> (try split) <;> rfl
@[simp] theorem State.bumpBy_pending (s : State) (off n : Nat) : (s.bumpBy off n).pending = s.pending := by unfold State.bumpBy; simp only; split <;> (try split) <;> rfl

/-! bump changes only freeCtr, fresh, regs. -/

@[simp] theorem State.bump_dev (s : State) (off : Nat) : (s.bump off).dev = s.dev := State.bumpBy_dev s off 1
@[simp] theorem State.bump_now (s : State) (off : Nat) : (s.bump off).now = s.now := State.bumpBy_now s off 1
@[simp] theorem State.bump_snap (s : State) (off : Nat) : (s.bump off).snap = s.snap := State.bumpBy_snap s off 1
@[simp] theorem State.bump_pins (s : State) (off : Nat) : (s.bump off).pins = s.pins := State.bumpBy_pins s off 1
@[simp] theorem State.bump_ctl (s : State) (off : Nat) : (s.bump off).ctl = s.ctl := State.bumpBy_ctl s off 1
@[simp] theorem State.bump_boot (s : State) (off : Nat) : (s.bump off).boot = s.boot := State.bumpBy_boot s off 1
@[simp] theorem State.bump_power (s : State) (off : Nat) : (s.bump off).power = s.power := State.bumpBy_power s off 1
@[simp] theorem State.bump_flt (s : State) (off : Nat) : (s.bump off).flt = s.flt := State.bumpBy_flt s off 1
@[simp] theorem State.bump_mnt (s : State) (off : Nat) : (s.bump off).mnt = s.mnt := State.bumpBy_mnt s off 1
@[simp] theorem State.bump_life (s : State) (off : Nat) : (s.bump off).life = s.life := State.bumpBy_life s off 1
@[simp] theorem State.bump_pcie (s : State) (off : Nat) : (s.bump off).pcie = s.pcie := State.bumpBy_pcie s off 1
@[simp] theorem State.bump_card (s : State) (off : Nat) : (s.bump off).card = s.card := State.bumpBy_card s off 1
@[simp] theorem State.bump_dma (s : State) (off : Nat) : (s.bump off).dma = s.dma := State.bumpBy_dma s off 1
@[simp] theorem State.bump_pwmbx (s : State) (off : Nat) : (s.bump off).pwmbx = s.pwmbx := State.bumpBy_pwmbx s off 1
@[simp] theorem State.bump_flash (s : State) (off : Nat) : (s.bump off).flash = s.flash := State.bumpBy_flash s off 1
@[simp] theorem State.bump_twn (s : State) (off : Nat) : (s.bump off).twn = s.twn := State.bumpBy_twn s off 1
@[simp] theorem State.bump_ptp (s : State) (off : Nat) : (s.bump off).ptp = s.ptp := State.bumpBy_ptp s off 1
@[simp] theorem State.bump_tmg (s : State) (off : Nat) : (s.bump off).tmg = s.tmg := State.bumpBy_tmg s off 1
@[simp] theorem State.bump_syn (s : State) (off : Nat) : (s.bump off).syn = s.syn := State.bumpBy_syn s off 1
@[simp] theorem State.bump_cfg (s : State) (off : Nat) : (s.bump off).cfg = s.cfg := State.bumpBy_cfg s off 1
@[simp] theorem State.bump_xpt (s : State) (off : Nat) : (s.bump off).xpt = s.xpt := State.bumpBy_xpt s off 1
@[simp] theorem State.bump_lan (s : State) (off : Nat) : (s.bump off).lan = s.lan := State.bumpBy_lan s off 1
@[simp] theorem State.bump_eyeSec (s : State) (off : Nat) : (s.bump off).eyeSec = s.eyeSec := State.bumpBy_eyeSec s off 1
@[simp] theorem State.bump_sdi (s : State) (off : Nat) : (s.bump off).sdi = s.sdi := State.bumpBy_sdi s off 1
@[simp] theorem State.bump_streams (s : State) (off : Nat) : (s.bump off).streams = s.streams := State.bumpBy_streams s off 1
@[simp] theorem State.bump_fst (s : State) (off : Nat) : (s.bump off).fst = s.fst := State.bumpBy_fst s off 1
@[simp] theorem State.bump_cmp (s : State) (off : Nat) : (s.bump off).cmp = s.cmp := State.bumpBy_cmp s off 1
@[simp] theorem State.bump_lin (s : State) (off : Nat) : (s.bump off).lin = s.lin := State.bumpBy_lin s off 1
@[simp] theorem State.bump_tables (s : State) (off : Nat) : (s.bump off).tables = s.tables := State.bumpBy_tables s off 1
@[simp] theorem State.bump_aud (s : State) (off : Nat) : (s.bump off).aud = s.aud := State.bumpBy_aud s off 1
@[simp] theorem State.bump_mac (s : State) (off : Nat) : (s.bump off).mac = s.mac := State.bumpBy_mac s off 1
@[simp] theorem State.bump_med (s : State) (off : Nat) : (s.bump off).med = s.med := State.bumpBy_med s off 1
@[simp] theorem State.bump_win (s : State) (off : Nat) : (s.bump off).win = s.win := State.bumpBy_win s off 1
@[simp] theorem State.bump_rows (s : State) (off : Nat) : (s.bump off).rows = s.rows := State.bumpBy_rows s off 1
@[simp] theorem State.bump_drc (s : State) (off : Nat) : (s.bump off).drc = s.drc := State.bumpBy_drc s off 1
@[simp] theorem State.bump_prot (s : State) (off : Nat) : (s.bump off).prot = s.prot := State.bumpBy_prot s off 1
@[simp] theorem State.bump_dram (s : State) (off : Nat) : (s.bump off).dram = s.dram := State.bumpBy_dram s off 1
@[simp] theorem State.bump_tcm (s : State) (off : Nat) : (s.bump off).tcm = s.tcm := State.bumpBy_tcm s off 1
@[simp] theorem State.bump_out (s : State) (off : Nat) : (s.bump off).out = s.out := State.bumpBy_out s off 1
@[simp] theorem State.bump_pending (s : State) (off : Nat) : (s.bump off).pending = s.pending := State.bumpBy_pending s off 1

/-! raise changes only flt. -/

@[simp] theorem State.raise_dev (s : State) (source kind addr cls : Nat) : (s.raise source kind addr cls).dev = s.dev := (rfl)
@[simp] theorem State.raise_now (s : State) (source kind addr cls : Nat) : (s.raise source kind addr cls).now = s.now := (rfl)
@[simp] theorem State.raise_regs (s : State) (source kind addr cls : Nat) : (s.raise source kind addr cls).regs = s.regs := (rfl)
@[simp] theorem State.raise_snap (s : State) (source kind addr cls : Nat) : (s.raise source kind addr cls).snap = s.snap := (rfl)
@[simp] theorem State.raise_pins (s : State) (source kind addr cls : Nat) : (s.raise source kind addr cls).pins = s.pins := (rfl)
@[simp] theorem State.raise_ctl (s : State) (source kind addr cls : Nat) : (s.raise source kind addr cls).ctl = s.ctl := (rfl)
@[simp] theorem State.raise_boot (s : State) (source kind addr cls : Nat) : (s.raise source kind addr cls).boot = s.boot := (rfl)
@[simp] theorem State.raise_power (s : State) (source kind addr cls : Nat) : (s.raise source kind addr cls).power = s.power := (rfl)
@[simp] theorem State.raise_mnt (s : State) (source kind addr cls : Nat) : (s.raise source kind addr cls).mnt = s.mnt := (rfl)
@[simp] theorem State.raise_life (s : State) (source kind addr cls : Nat) : (s.raise source kind addr cls).life = s.life := (rfl)
@[simp] theorem State.raise_pcie (s : State) (source kind addr cls : Nat) : (s.raise source kind addr cls).pcie = s.pcie := (rfl)
@[simp] theorem State.raise_card (s : State) (source kind addr cls : Nat) : (s.raise source kind addr cls).card = s.card := (rfl)
@[simp] theorem State.raise_dma (s : State) (source kind addr cls : Nat) : (s.raise source kind addr cls).dma = s.dma := (rfl)
@[simp] theorem State.raise_pwmbx (s : State) (source kind addr cls : Nat) : (s.raise source kind addr cls).pwmbx = s.pwmbx := (rfl)
@[simp] theorem State.raise_flash (s : State) (source kind addr cls : Nat) : (s.raise source kind addr cls).flash = s.flash := (rfl)
@[simp] theorem State.raise_twn (s : State) (source kind addr cls : Nat) : (s.raise source kind addr cls).twn = s.twn := (rfl)
@[simp] theorem State.raise_ptp (s : State) (source kind addr cls : Nat) : (s.raise source kind addr cls).ptp = s.ptp := (rfl)
@[simp] theorem State.raise_tmg (s : State) (source kind addr cls : Nat) : (s.raise source kind addr cls).tmg = s.tmg := (rfl)
@[simp] theorem State.raise_syn (s : State) (source kind addr cls : Nat) : (s.raise source kind addr cls).syn = s.syn := (rfl)
@[simp] theorem State.raise_cfg (s : State) (source kind addr cls : Nat) : (s.raise source kind addr cls).cfg = s.cfg := (rfl)
@[simp] theorem State.raise_xpt (s : State) (source kind addr cls : Nat) : (s.raise source kind addr cls).xpt = s.xpt := (rfl)
@[simp] theorem State.raise_lan (s : State) (source kind addr cls : Nat) : (s.raise source kind addr cls).lan = s.lan := (rfl)
@[simp] theorem State.raise_eyeSec (s : State) (source kind addr cls : Nat) : (s.raise source kind addr cls).eyeSec = s.eyeSec := (rfl)
@[simp] theorem State.raise_sdi (s : State) (source kind addr cls : Nat) : (s.raise source kind addr cls).sdi = s.sdi := (rfl)
@[simp] theorem State.raise_streams (s : State) (source kind addr cls : Nat) : (s.raise source kind addr cls).streams = s.streams := (rfl)
@[simp] theorem State.raise_fst (s : State) (source kind addr cls : Nat) : (s.raise source kind addr cls).fst = s.fst := (rfl)
@[simp] theorem State.raise_cmp (s : State) (source kind addr cls : Nat) : (s.raise source kind addr cls).cmp = s.cmp := (rfl)
@[simp] theorem State.raise_lin (s : State) (source kind addr cls : Nat) : (s.raise source kind addr cls).lin = s.lin := (rfl)
@[simp] theorem State.raise_tables (s : State) (source kind addr cls : Nat) : (s.raise source kind addr cls).tables = s.tables := (rfl)
@[simp] theorem State.raise_aud (s : State) (source kind addr cls : Nat) : (s.raise source kind addr cls).aud = s.aud := (rfl)
@[simp] theorem State.raise_mac (s : State) (source kind addr cls : Nat) : (s.raise source kind addr cls).mac = s.mac := (rfl)
@[simp] theorem State.raise_med (s : State) (source kind addr cls : Nat) : (s.raise source kind addr cls).med = s.med := (rfl)
@[simp] theorem State.raise_win (s : State) (source kind addr cls : Nat) : (s.raise source kind addr cls).win = s.win := (rfl)
@[simp] theorem State.raise_rows (s : State) (source kind addr cls : Nat) : (s.raise source kind addr cls).rows = s.rows := (rfl)
@[simp] theorem State.raise_drc (s : State) (source kind addr cls : Nat) : (s.raise source kind addr cls).drc = s.drc := (rfl)
@[simp] theorem State.raise_prot (s : State) (source kind addr cls : Nat) : (s.raise source kind addr cls).prot = s.prot := (rfl)
@[simp] theorem State.raise_fresh (s : State) (source kind addr cls : Nat) : (s.raise source kind addr cls).fresh = s.fresh := (rfl)
@[simp] theorem State.raise_dram (s : State) (source kind addr cls : Nat) : (s.raise source kind addr cls).dram = s.dram := (rfl)
@[simp] theorem State.raise_tcm (s : State) (source kind addr cls : Nat) : (s.raise source kind addr cls).tcm = s.tcm := (rfl)
@[simp] theorem State.raise_freeCtr (s : State) (source kind addr cls : Nat) : (s.raise source kind addr cls).freeCtr = s.freeCtr := (rfl)
@[simp] theorem State.raise_out (s : State) (source kind addr cls : Nat) : (s.raise source kind addr cls).out = s.out := (rfl)
@[simp] theorem State.raise_pending (s : State) (source kind addr cls : Nat) : (s.raise source kind addr cls).pending = s.pending := (rfl)

/-! signal changes only out, regs. -/

@[simp] theorem State.signal_dev (s : State) (v : Nat) : (s.signal v).dev = s.dev := by unfold State.signal; split <;> (try split) <;> rfl
@[simp] theorem State.signal_now (s : State) (v : Nat) : (s.signal v).now = s.now := by unfold State.signal; split <;> (try split) <;> rfl
@[simp] theorem State.signal_snap (s : State) (v : Nat) : (s.signal v).snap = s.snap := by unfold State.signal; split <;> (try split) <;> rfl
@[simp] theorem State.signal_pins (s : State) (v : Nat) : (s.signal v).pins = s.pins := by unfold State.signal; split <;> (try split) <;> rfl
@[simp] theorem State.signal_ctl (s : State) (v : Nat) : (s.signal v).ctl = s.ctl := by unfold State.signal; split <;> (try split) <;> rfl
@[simp] theorem State.signal_boot (s : State) (v : Nat) : (s.signal v).boot = s.boot := by unfold State.signal; split <;> (try split) <;> rfl
@[simp] theorem State.signal_power (s : State) (v : Nat) : (s.signal v).power = s.power := by unfold State.signal; split <;> (try split) <;> rfl
@[simp] theorem State.signal_flt (s : State) (v : Nat) : (s.signal v).flt = s.flt := by unfold State.signal; split <;> (try split) <;> rfl
@[simp] theorem State.signal_mnt (s : State) (v : Nat) : (s.signal v).mnt = s.mnt := by unfold State.signal; split <;> (try split) <;> rfl
@[simp] theorem State.signal_life (s : State) (v : Nat) : (s.signal v).life = s.life := by unfold State.signal; split <;> (try split) <;> rfl
@[simp] theorem State.signal_pcie (s : State) (v : Nat) : (s.signal v).pcie = s.pcie := by unfold State.signal; split <;> (try split) <;> rfl
@[simp] theorem State.signal_card (s : State) (v : Nat) : (s.signal v).card = s.card := by unfold State.signal; split <;> (try split) <;> rfl
@[simp] theorem State.signal_dma (s : State) (v : Nat) : (s.signal v).dma = s.dma := by unfold State.signal; split <;> (try split) <;> rfl
@[simp] theorem State.signal_pwmbx (s : State) (v : Nat) : (s.signal v).pwmbx = s.pwmbx := by unfold State.signal; split <;> (try split) <;> rfl
@[simp] theorem State.signal_flash (s : State) (v : Nat) : (s.signal v).flash = s.flash := by unfold State.signal; split <;> (try split) <;> rfl
@[simp] theorem State.signal_twn (s : State) (v : Nat) : (s.signal v).twn = s.twn := by unfold State.signal; split <;> (try split) <;> rfl
@[simp] theorem State.signal_ptp (s : State) (v : Nat) : (s.signal v).ptp = s.ptp := by unfold State.signal; split <;> (try split) <;> rfl
@[simp] theorem State.signal_tmg (s : State) (v : Nat) : (s.signal v).tmg = s.tmg := by unfold State.signal; split <;> (try split) <;> rfl
@[simp] theorem State.signal_syn (s : State) (v : Nat) : (s.signal v).syn = s.syn := by unfold State.signal; split <;> (try split) <;> rfl
@[simp] theorem State.signal_cfg (s : State) (v : Nat) : (s.signal v).cfg = s.cfg := by unfold State.signal; split <;> (try split) <;> rfl
@[simp] theorem State.signal_xpt (s : State) (v : Nat) : (s.signal v).xpt = s.xpt := by unfold State.signal; split <;> (try split) <;> rfl
@[simp] theorem State.signal_lan (s : State) (v : Nat) : (s.signal v).lan = s.lan := by unfold State.signal; split <;> (try split) <;> rfl
@[simp] theorem State.signal_eyeSec (s : State) (v : Nat) : (s.signal v).eyeSec = s.eyeSec := by unfold State.signal; split <;> (try split) <;> rfl
@[simp] theorem State.signal_sdi (s : State) (v : Nat) : (s.signal v).sdi = s.sdi := by unfold State.signal; split <;> (try split) <;> rfl
@[simp] theorem State.signal_streams (s : State) (v : Nat) : (s.signal v).streams = s.streams := by unfold State.signal; split <;> (try split) <;> rfl
@[simp] theorem State.signal_fst (s : State) (v : Nat) : (s.signal v).fst = s.fst := by unfold State.signal; split <;> (try split) <;> rfl
@[simp] theorem State.signal_cmp (s : State) (v : Nat) : (s.signal v).cmp = s.cmp := by unfold State.signal; split <;> (try split) <;> rfl
@[simp] theorem State.signal_lin (s : State) (v : Nat) : (s.signal v).lin = s.lin := by unfold State.signal; split <;> (try split) <;> rfl
@[simp] theorem State.signal_tables (s : State) (v : Nat) : (s.signal v).tables = s.tables := by unfold State.signal; split <;> (try split) <;> rfl
@[simp] theorem State.signal_aud (s : State) (v : Nat) : (s.signal v).aud = s.aud := by unfold State.signal; split <;> (try split) <;> rfl
@[simp] theorem State.signal_mac (s : State) (v : Nat) : (s.signal v).mac = s.mac := by unfold State.signal; split <;> (try split) <;> rfl
@[simp] theorem State.signal_med (s : State) (v : Nat) : (s.signal v).med = s.med := by unfold State.signal; split <;> (try split) <;> rfl
@[simp] theorem State.signal_win (s : State) (v : Nat) : (s.signal v).win = s.win := by unfold State.signal; split <;> (try split) <;> rfl
@[simp] theorem State.signal_rows (s : State) (v : Nat) : (s.signal v).rows = s.rows := by unfold State.signal; split <;> (try split) <;> rfl
@[simp] theorem State.signal_drc (s : State) (v : Nat) : (s.signal v).drc = s.drc := by unfold State.signal; split <;> (try split) <;> rfl
@[simp] theorem State.signal_prot (s : State) (v : Nat) : (s.signal v).prot = s.prot := by unfold State.signal; split <;> (try split) <;> rfl
@[simp] theorem State.signal_fresh (s : State) (v : Nat) : (s.signal v).fresh = s.fresh := by unfold State.signal; split <;> (try split) <;> rfl
@[simp] theorem State.signal_dram (s : State) (v : Nat) : (s.signal v).dram = s.dram := by unfold State.signal; split <;> (try split) <;> rfl
@[simp] theorem State.signal_tcm (s : State) (v : Nat) : (s.signal v).tcm = s.tcm := by unfold State.signal; split <;> (try split) <;> rfl
@[simp] theorem State.signal_freeCtr (s : State) (v : Nat) : (s.signal v).freeCtr = s.freeCtr := by unfold State.signal; split <;> (try split) <;> rfl
@[simp] theorem State.signal_pending (s : State) (v : Nat) : (s.signal v).pending = s.pending := by unfold State.signal; split <;> (try split) <;> rfl

/-! event changes only fresh, out, regs. -/

@[simp] theorem State.event_dev (s : State) (ev v : Nat) (m : Word) : (s.event ev v m).dev = s.dev := by unfold State.event State.irqRise; split <;> simp
@[simp] theorem State.event_now (s : State) (ev v : Nat) (m : Word) : (s.event ev v m).now = s.now := by unfold State.event State.irqRise; split <;> simp
@[simp] theorem State.event_snap (s : State) (ev v : Nat) (m : Word) : (s.event ev v m).snap = s.snap := by unfold State.event State.irqRise; split <;> simp
@[simp] theorem State.event_pins (s : State) (ev v : Nat) (m : Word) : (s.event ev v m).pins = s.pins := by unfold State.event State.irqRise; split <;> simp
@[simp] theorem State.event_ctl (s : State) (ev v : Nat) (m : Word) : (s.event ev v m).ctl = s.ctl := by unfold State.event State.irqRise; split <;> simp
@[simp] theorem State.event_boot (s : State) (ev v : Nat) (m : Word) : (s.event ev v m).boot = s.boot := by unfold State.event State.irqRise; split <;> simp
@[simp] theorem State.event_power (s : State) (ev v : Nat) (m : Word) : (s.event ev v m).power = s.power := by unfold State.event State.irqRise; split <;> simp
@[simp] theorem State.event_flt (s : State) (ev v : Nat) (m : Word) : (s.event ev v m).flt = s.flt := by unfold State.event State.irqRise; split <;> simp
@[simp] theorem State.event_mnt (s : State) (ev v : Nat) (m : Word) : (s.event ev v m).mnt = s.mnt := by unfold State.event State.irqRise; split <;> simp
@[simp] theorem State.event_life (s : State) (ev v : Nat) (m : Word) : (s.event ev v m).life = s.life := by unfold State.event State.irqRise; split <;> simp
@[simp] theorem State.event_pcie (s : State) (ev v : Nat) (m : Word) : (s.event ev v m).pcie = s.pcie := by unfold State.event State.irqRise; split <;> simp
@[simp] theorem State.event_card (s : State) (ev v : Nat) (m : Word) : (s.event ev v m).card = s.card := by unfold State.event State.irqRise; split <;> simp
@[simp] theorem State.event_dma (s : State) (ev v : Nat) (m : Word) : (s.event ev v m).dma = s.dma := by unfold State.event State.irqRise; split <;> simp
@[simp] theorem State.event_pwmbx (s : State) (ev v : Nat) (m : Word) : (s.event ev v m).pwmbx = s.pwmbx := by unfold State.event State.irqRise; split <;> simp
@[simp] theorem State.event_flash (s : State) (ev v : Nat) (m : Word) : (s.event ev v m).flash = s.flash := by unfold State.event State.irqRise; split <;> simp
@[simp] theorem State.event_twn (s : State) (ev v : Nat) (m : Word) : (s.event ev v m).twn = s.twn := by unfold State.event State.irqRise; split <;> simp
@[simp] theorem State.event_ptp (s : State) (ev v : Nat) (m : Word) : (s.event ev v m).ptp = s.ptp := by unfold State.event State.irqRise; split <;> simp
@[simp] theorem State.event_tmg (s : State) (ev v : Nat) (m : Word) : (s.event ev v m).tmg = s.tmg := by unfold State.event State.irqRise; split <;> simp
@[simp] theorem State.event_syn (s : State) (ev v : Nat) (m : Word) : (s.event ev v m).syn = s.syn := by unfold State.event State.irqRise; split <;> simp
@[simp] theorem State.event_cfg (s : State) (ev v : Nat) (m : Word) : (s.event ev v m).cfg = s.cfg := by unfold State.event State.irqRise; split <;> simp
@[simp] theorem State.event_xpt (s : State) (ev v : Nat) (m : Word) : (s.event ev v m).xpt = s.xpt := by unfold State.event State.irqRise; split <;> simp
@[simp] theorem State.event_lan (s : State) (ev v : Nat) (m : Word) : (s.event ev v m).lan = s.lan := by unfold State.event State.irqRise; split <;> simp
@[simp] theorem State.event_eyeSec (s : State) (ev v : Nat) (m : Word) : (s.event ev v m).eyeSec = s.eyeSec := by unfold State.event State.irqRise; split <;> simp
@[simp] theorem State.event_sdi (s : State) (ev v : Nat) (m : Word) : (s.event ev v m).sdi = s.sdi := by unfold State.event State.irqRise; split <;> simp
@[simp] theorem State.event_streams (s : State) (ev v : Nat) (m : Word) : (s.event ev v m).streams = s.streams := by unfold State.event State.irqRise; split <;> simp
@[simp] theorem State.event_fst (s : State) (ev v : Nat) (m : Word) : (s.event ev v m).fst = s.fst := by unfold State.event State.irqRise; split <;> simp
@[simp] theorem State.event_cmp (s : State) (ev v : Nat) (m : Word) : (s.event ev v m).cmp = s.cmp := by unfold State.event State.irqRise; split <;> simp
@[simp] theorem State.event_lin (s : State) (ev v : Nat) (m : Word) : (s.event ev v m).lin = s.lin := by unfold State.event State.irqRise; split <;> simp
@[simp] theorem State.event_tables (s : State) (ev v : Nat) (m : Word) : (s.event ev v m).tables = s.tables := by unfold State.event State.irqRise; split <;> simp
@[simp] theorem State.event_aud (s : State) (ev v : Nat) (m : Word) : (s.event ev v m).aud = s.aud := by unfold State.event State.irqRise; split <;> simp
@[simp] theorem State.event_mac (s : State) (ev v : Nat) (m : Word) : (s.event ev v m).mac = s.mac := by unfold State.event State.irqRise; split <;> simp
@[simp] theorem State.event_med (s : State) (ev v : Nat) (m : Word) : (s.event ev v m).med = s.med := by unfold State.event State.irqRise; split <;> simp
@[simp] theorem State.event_win (s : State) (ev v : Nat) (m : Word) : (s.event ev v m).win = s.win := by unfold State.event State.irqRise; split <;> simp
@[simp] theorem State.event_rows (s : State) (ev v : Nat) (m : Word) : (s.event ev v m).rows = s.rows := by unfold State.event State.irqRise; split <;> simp
@[simp] theorem State.event_drc (s : State) (ev v : Nat) (m : Word) : (s.event ev v m).drc = s.drc := by unfold State.event State.irqRise; split <;> simp
@[simp] theorem State.event_prot (s : State) (ev v : Nat) (m : Word) : (s.event ev v m).prot = s.prot := by unfold State.event State.irqRise; split <;> simp
@[simp] theorem State.event_dram (s : State) (ev v : Nat) (m : Word) : (s.event ev v m).dram = s.dram := by unfold State.event State.irqRise; split <;> simp
@[simp] theorem State.event_tcm (s : State) (ev v : Nat) (m : Word) : (s.event ev v m).tcm = s.tcm := by unfold State.event State.irqRise; split <;> simp
@[simp] theorem State.event_freeCtr (s : State) (ev v : Nat) (m : Word) : (s.event ev v m).freeCtr = s.freeCtr := by unfold State.event State.irqRise; split <;> simp
@[simp] theorem State.event_pending (s : State) (ev v : Nat) (m : Word) : (s.event ev v m).pending = s.pending := by unfold State.event State.irqRise; split <;> simp

/-! Each replacement changes its own part only. -/

@[simp] theorem State.setDev_dev (s : State) (x : Ident) : (s.setDev x).dev = x := (rfl)
@[simp] theorem State.setDev_now (s : State) (x : Ident) : (s.setDev x).now = s.now := (rfl)
@[simp] theorem State.setDev_regs (s : State) (x : Ident) : (s.setDev x).regs = s.regs := (rfl)
@[simp] theorem State.setDev_snap (s : State) (x : Ident) : (s.setDev x).snap = s.snap := (rfl)
@[simp] theorem State.setDev_pins (s : State) (x : Ident) : (s.setDev x).pins = s.pins := (rfl)
@[simp] theorem State.setDev_ctl (s : State) (x : Ident) : (s.setDev x).ctl = s.ctl := (rfl)
@[simp] theorem State.setDev_boot (s : State) (x : Ident) : (s.setDev x).boot = s.boot := (rfl)
@[simp] theorem State.setDev_power (s : State) (x : Ident) : (s.setDev x).power = s.power := (rfl)
@[simp] theorem State.setDev_flt (s : State) (x : Ident) : (s.setDev x).flt = s.flt := (rfl)
@[simp] theorem State.setDev_mnt (s : State) (x : Ident) : (s.setDev x).mnt = s.mnt := (rfl)
@[simp] theorem State.setDev_life (s : State) (x : Ident) : (s.setDev x).life = s.life := (rfl)
@[simp] theorem State.setDev_pcie (s : State) (x : Ident) : (s.setDev x).pcie = s.pcie := (rfl)
@[simp] theorem State.setDev_card (s : State) (x : Ident) : (s.setDev x).card = s.card := (rfl)
@[simp] theorem State.setDev_dma (s : State) (x : Ident) : (s.setDev x).dma = s.dma := (rfl)
@[simp] theorem State.setDev_pwmbx (s : State) (x : Ident) : (s.setDev x).pwmbx = s.pwmbx := (rfl)
@[simp] theorem State.setDev_flash (s : State) (x : Ident) : (s.setDev x).flash = s.flash := (rfl)
@[simp] theorem State.setDev_twn (s : State) (x : Ident) : (s.setDev x).twn = s.twn := (rfl)
@[simp] theorem State.setDev_ptp (s : State) (x : Ident) : (s.setDev x).ptp = s.ptp := (rfl)
@[simp] theorem State.setDev_tmg (s : State) (x : Ident) : (s.setDev x).tmg = s.tmg := (rfl)
@[simp] theorem State.setDev_syn (s : State) (x : Ident) : (s.setDev x).syn = s.syn := (rfl)
@[simp] theorem State.setDev_cfg (s : State) (x : Ident) : (s.setDev x).cfg = s.cfg := (rfl)
@[simp] theorem State.setDev_xpt (s : State) (x : Ident) : (s.setDev x).xpt = s.xpt := (rfl)
@[simp] theorem State.setDev_lan (s : State) (x : Ident) : (s.setDev x).lan = s.lan := (rfl)
@[simp] theorem State.setDev_eyeSec (s : State) (x : Ident) : (s.setDev x).eyeSec = s.eyeSec := (rfl)
@[simp] theorem State.setDev_sdi (s : State) (x : Ident) : (s.setDev x).sdi = s.sdi := (rfl)
@[simp] theorem State.setDev_streams (s : State) (x : Ident) : (s.setDev x).streams = s.streams := (rfl)
@[simp] theorem State.setDev_fst (s : State) (x : Ident) : (s.setDev x).fst = s.fst := (rfl)
@[simp] theorem State.setDev_cmp (s : State) (x : Ident) : (s.setDev x).cmp = s.cmp := (rfl)
@[simp] theorem State.setDev_lin (s : State) (x : Ident) : (s.setDev x).lin = s.lin := (rfl)
@[simp] theorem State.setDev_tables (s : State) (x : Ident) : (s.setDev x).tables = s.tables := (rfl)
@[simp] theorem State.setDev_aud (s : State) (x : Ident) : (s.setDev x).aud = s.aud := (rfl)
@[simp] theorem State.setDev_mac (s : State) (x : Ident) : (s.setDev x).mac = s.mac := (rfl)
@[simp] theorem State.setDev_med (s : State) (x : Ident) : (s.setDev x).med = s.med := (rfl)
@[simp] theorem State.setDev_win (s : State) (x : Ident) : (s.setDev x).win = s.win := (rfl)
@[simp] theorem State.setDev_rows (s : State) (x : Ident) : (s.setDev x).rows = s.rows := (rfl)
@[simp] theorem State.setDev_drc (s : State) (x : Ident) : (s.setDev x).drc = s.drc := (rfl)
@[simp] theorem State.setDev_prot (s : State) (x : Ident) : (s.setDev x).prot = s.prot := (rfl)
@[simp] theorem State.setDev_fresh (s : State) (x : Ident) : (s.setDev x).fresh = s.fresh := (rfl)
@[simp] theorem State.setDev_dram (s : State) (x : Ident) : (s.setDev x).dram = s.dram := (rfl)
@[simp] theorem State.setDev_tcm (s : State) (x : Ident) : (s.setDev x).tcm = s.tcm := (rfl)
@[simp] theorem State.setDev_freeCtr (s : State) (x : Ident) : (s.setDev x).freeCtr = s.freeCtr := (rfl)
@[simp] theorem State.setDev_out (s : State) (x : Ident) : (s.setDev x).out = s.out := (rfl)
@[simp] theorem State.setDev_pending (s : State) (x : Ident) : (s.setDev x).pending = s.pending := (rfl)

@[simp] theorem State.setNow_now (s : State) (x : Nat) : (s.setNow x).now = x := (rfl)
@[simp] theorem State.setNow_dev (s : State) (x : Nat) : (s.setNow x).dev = s.dev := (rfl)
@[simp] theorem State.setNow_regs (s : State) (x : Nat) : (s.setNow x).regs = s.regs := (rfl)
@[simp] theorem State.setNow_snap (s : State) (x : Nat) : (s.setNow x).snap = s.snap := (rfl)
@[simp] theorem State.setNow_pins (s : State) (x : Nat) : (s.setNow x).pins = s.pins := (rfl)
@[simp] theorem State.setNow_ctl (s : State) (x : Nat) : (s.setNow x).ctl = s.ctl := (rfl)
@[simp] theorem State.setNow_boot (s : State) (x : Nat) : (s.setNow x).boot = s.boot := (rfl)
@[simp] theorem State.setNow_power (s : State) (x : Nat) : (s.setNow x).power = s.power := (rfl)
@[simp] theorem State.setNow_flt (s : State) (x : Nat) : (s.setNow x).flt = s.flt := (rfl)
@[simp] theorem State.setNow_mnt (s : State) (x : Nat) : (s.setNow x).mnt = s.mnt := (rfl)
@[simp] theorem State.setNow_life (s : State) (x : Nat) : (s.setNow x).life = s.life := (rfl)
@[simp] theorem State.setNow_pcie (s : State) (x : Nat) : (s.setNow x).pcie = s.pcie := (rfl)
@[simp] theorem State.setNow_card (s : State) (x : Nat) : (s.setNow x).card = s.card := (rfl)
@[simp] theorem State.setNow_dma (s : State) (x : Nat) : (s.setNow x).dma = s.dma := (rfl)
@[simp] theorem State.setNow_pwmbx (s : State) (x : Nat) : (s.setNow x).pwmbx = s.pwmbx := (rfl)
@[simp] theorem State.setNow_flash (s : State) (x : Nat) : (s.setNow x).flash = s.flash := (rfl)
@[simp] theorem State.setNow_twn (s : State) (x : Nat) : (s.setNow x).twn = s.twn := (rfl)
@[simp] theorem State.setNow_ptp (s : State) (x : Nat) : (s.setNow x).ptp = s.ptp := (rfl)
@[simp] theorem State.setNow_tmg (s : State) (x : Nat) : (s.setNow x).tmg = s.tmg := (rfl)
@[simp] theorem State.setNow_syn (s : State) (x : Nat) : (s.setNow x).syn = s.syn := (rfl)
@[simp] theorem State.setNow_cfg (s : State) (x : Nat) : (s.setNow x).cfg = s.cfg := (rfl)
@[simp] theorem State.setNow_xpt (s : State) (x : Nat) : (s.setNow x).xpt = s.xpt := (rfl)
@[simp] theorem State.setNow_lan (s : State) (x : Nat) : (s.setNow x).lan = s.lan := (rfl)
@[simp] theorem State.setNow_eyeSec (s : State) (x : Nat) : (s.setNow x).eyeSec = s.eyeSec := (rfl)
@[simp] theorem State.setNow_sdi (s : State) (x : Nat) : (s.setNow x).sdi = s.sdi := (rfl)
@[simp] theorem State.setNow_streams (s : State) (x : Nat) : (s.setNow x).streams = s.streams := (rfl)
@[simp] theorem State.setNow_fst (s : State) (x : Nat) : (s.setNow x).fst = s.fst := (rfl)
@[simp] theorem State.setNow_cmp (s : State) (x : Nat) : (s.setNow x).cmp = s.cmp := (rfl)
@[simp] theorem State.setNow_lin (s : State) (x : Nat) : (s.setNow x).lin = s.lin := (rfl)
@[simp] theorem State.setNow_tables (s : State) (x : Nat) : (s.setNow x).tables = s.tables := (rfl)
@[simp] theorem State.setNow_aud (s : State) (x : Nat) : (s.setNow x).aud = s.aud := (rfl)
@[simp] theorem State.setNow_mac (s : State) (x : Nat) : (s.setNow x).mac = s.mac := (rfl)
@[simp] theorem State.setNow_med (s : State) (x : Nat) : (s.setNow x).med = s.med := (rfl)
@[simp] theorem State.setNow_win (s : State) (x : Nat) : (s.setNow x).win = s.win := (rfl)
@[simp] theorem State.setNow_rows (s : State) (x : Nat) : (s.setNow x).rows = s.rows := (rfl)
@[simp] theorem State.setNow_drc (s : State) (x : Nat) : (s.setNow x).drc = s.drc := (rfl)
@[simp] theorem State.setNow_prot (s : State) (x : Nat) : (s.setNow x).prot = s.prot := (rfl)
@[simp] theorem State.setNow_fresh (s : State) (x : Nat) : (s.setNow x).fresh = s.fresh := (rfl)
@[simp] theorem State.setNow_dram (s : State) (x : Nat) : (s.setNow x).dram = s.dram := (rfl)
@[simp] theorem State.setNow_tcm (s : State) (x : Nat) : (s.setNow x).tcm = s.tcm := (rfl)
@[simp] theorem State.setNow_freeCtr (s : State) (x : Nat) : (s.setNow x).freeCtr = s.freeCtr := (rfl)
@[simp] theorem State.setNow_out (s : State) (x : Nat) : (s.setNow x).out = s.out := (rfl)
@[simp] theorem State.setNow_pending (s : State) (x : Nat) : (s.setNow x).pending = s.pending := (rfl)

@[simp] theorem State.setRegs_regs (s : State) (x : Tab Word) : (s.setRegs x).regs = x := (rfl)
@[simp] theorem State.setRegs_dev (s : State) (x : Tab Word) : (s.setRegs x).dev = s.dev := (rfl)
@[simp] theorem State.setRegs_now (s : State) (x : Tab Word) : (s.setRegs x).now = s.now := (rfl)
@[simp] theorem State.setRegs_snap (s : State) (x : Tab Word) : (s.setRegs x).snap = s.snap := (rfl)
@[simp] theorem State.setRegs_pins (s : State) (x : Tab Word) : (s.setRegs x).pins = s.pins := (rfl)
@[simp] theorem State.setRegs_ctl (s : State) (x : Tab Word) : (s.setRegs x).ctl = s.ctl := (rfl)
@[simp] theorem State.setRegs_boot (s : State) (x : Tab Word) : (s.setRegs x).boot = s.boot := (rfl)
@[simp] theorem State.setRegs_power (s : State) (x : Tab Word) : (s.setRegs x).power = s.power := (rfl)
@[simp] theorem State.setRegs_flt (s : State) (x : Tab Word) : (s.setRegs x).flt = s.flt := (rfl)
@[simp] theorem State.setRegs_mnt (s : State) (x : Tab Word) : (s.setRegs x).mnt = s.mnt := (rfl)
@[simp] theorem State.setRegs_life (s : State) (x : Tab Word) : (s.setRegs x).life = s.life := (rfl)
@[simp] theorem State.setRegs_pcie (s : State) (x : Tab Word) : (s.setRegs x).pcie = s.pcie := (rfl)
@[simp] theorem State.setRegs_card (s : State) (x : Tab Word) : (s.setRegs x).card = s.card := (rfl)
@[simp] theorem State.setRegs_dma (s : State) (x : Tab Word) : (s.setRegs x).dma = s.dma := (rfl)
@[simp] theorem State.setRegs_pwmbx (s : State) (x : Tab Word) : (s.setRegs x).pwmbx = s.pwmbx := (rfl)
@[simp] theorem State.setRegs_flash (s : State) (x : Tab Word) : (s.setRegs x).flash = s.flash := (rfl)
@[simp] theorem State.setRegs_twn (s : State) (x : Tab Word) : (s.setRegs x).twn = s.twn := (rfl)
@[simp] theorem State.setRegs_ptp (s : State) (x : Tab Word) : (s.setRegs x).ptp = s.ptp := (rfl)
@[simp] theorem State.setRegs_tmg (s : State) (x : Tab Word) : (s.setRegs x).tmg = s.tmg := (rfl)
@[simp] theorem State.setRegs_syn (s : State) (x : Tab Word) : (s.setRegs x).syn = s.syn := (rfl)
@[simp] theorem State.setRegs_cfg (s : State) (x : Tab Word) : (s.setRegs x).cfg = s.cfg := (rfl)
@[simp] theorem State.setRegs_xpt (s : State) (x : Tab Word) : (s.setRegs x).xpt = s.xpt := (rfl)
@[simp] theorem State.setRegs_lan (s : State) (x : Tab Word) : (s.setRegs x).lan = s.lan := (rfl)
@[simp] theorem State.setRegs_eyeSec (s : State) (x : Tab Word) : (s.setRegs x).eyeSec = s.eyeSec := (rfl)
@[simp] theorem State.setRegs_sdi (s : State) (x : Tab Word) : (s.setRegs x).sdi = s.sdi := (rfl)
@[simp] theorem State.setRegs_streams (s : State) (x : Tab Word) : (s.setRegs x).streams = s.streams := (rfl)
@[simp] theorem State.setRegs_fst (s : State) (x : Tab Word) : (s.setRegs x).fst = s.fst := (rfl)
@[simp] theorem State.setRegs_cmp (s : State) (x : Tab Word) : (s.setRegs x).cmp = s.cmp := (rfl)
@[simp] theorem State.setRegs_lin (s : State) (x : Tab Word) : (s.setRegs x).lin = s.lin := (rfl)
@[simp] theorem State.setRegs_tables (s : State) (x : Tab Word) : (s.setRegs x).tables = s.tables := (rfl)
@[simp] theorem State.setRegs_aud (s : State) (x : Tab Word) : (s.setRegs x).aud = s.aud := (rfl)
@[simp] theorem State.setRegs_mac (s : State) (x : Tab Word) : (s.setRegs x).mac = s.mac := (rfl)
@[simp] theorem State.setRegs_med (s : State) (x : Tab Word) : (s.setRegs x).med = s.med := (rfl)
@[simp] theorem State.setRegs_win (s : State) (x : Tab Word) : (s.setRegs x).win = s.win := (rfl)
@[simp] theorem State.setRegs_rows (s : State) (x : Tab Word) : (s.setRegs x).rows = s.rows := (rfl)
@[simp] theorem State.setRegs_drc (s : State) (x : Tab Word) : (s.setRegs x).drc = s.drc := (rfl)
@[simp] theorem State.setRegs_prot (s : State) (x : Tab Word) : (s.setRegs x).prot = s.prot := (rfl)
@[simp] theorem State.setRegs_fresh (s : State) (x : Tab Word) : (s.setRegs x).fresh = s.fresh := (rfl)
@[simp] theorem State.setRegs_dram (s : State) (x : Tab Word) : (s.setRegs x).dram = s.dram := (rfl)
@[simp] theorem State.setRegs_tcm (s : State) (x : Tab Word) : (s.setRegs x).tcm = s.tcm := (rfl)
@[simp] theorem State.setRegs_freeCtr (s : State) (x : Tab Word) : (s.setRegs x).freeCtr = s.freeCtr := (rfl)
@[simp] theorem State.setRegs_out (s : State) (x : Tab Word) : (s.setRegs x).out = s.out := (rfl)
@[simp] theorem State.setRegs_pending (s : State) (x : Tab Word) : (s.setRegs x).pending = s.pending := (rfl)

@[simp] theorem State.setSnap_snap (s : State) (x : Tab Word) : (s.setSnap x).snap = x := (rfl)
@[simp] theorem State.setSnap_dev (s : State) (x : Tab Word) : (s.setSnap x).dev = s.dev := (rfl)
@[simp] theorem State.setSnap_now (s : State) (x : Tab Word) : (s.setSnap x).now = s.now := (rfl)
@[simp] theorem State.setSnap_regs (s : State) (x : Tab Word) : (s.setSnap x).regs = s.regs := (rfl)
@[simp] theorem State.setSnap_pins (s : State) (x : Tab Word) : (s.setSnap x).pins = s.pins := (rfl)
@[simp] theorem State.setSnap_ctl (s : State) (x : Tab Word) : (s.setSnap x).ctl = s.ctl := (rfl)
@[simp] theorem State.setSnap_boot (s : State) (x : Tab Word) : (s.setSnap x).boot = s.boot := (rfl)
@[simp] theorem State.setSnap_power (s : State) (x : Tab Word) : (s.setSnap x).power = s.power := (rfl)
@[simp] theorem State.setSnap_flt (s : State) (x : Tab Word) : (s.setSnap x).flt = s.flt := (rfl)
@[simp] theorem State.setSnap_mnt (s : State) (x : Tab Word) : (s.setSnap x).mnt = s.mnt := (rfl)
@[simp] theorem State.setSnap_life (s : State) (x : Tab Word) : (s.setSnap x).life = s.life := (rfl)
@[simp] theorem State.setSnap_pcie (s : State) (x : Tab Word) : (s.setSnap x).pcie = s.pcie := (rfl)
@[simp] theorem State.setSnap_card (s : State) (x : Tab Word) : (s.setSnap x).card = s.card := (rfl)
@[simp] theorem State.setSnap_dma (s : State) (x : Tab Word) : (s.setSnap x).dma = s.dma := (rfl)
@[simp] theorem State.setSnap_pwmbx (s : State) (x : Tab Word) : (s.setSnap x).pwmbx = s.pwmbx := (rfl)
@[simp] theorem State.setSnap_flash (s : State) (x : Tab Word) : (s.setSnap x).flash = s.flash := (rfl)
@[simp] theorem State.setSnap_twn (s : State) (x : Tab Word) : (s.setSnap x).twn = s.twn := (rfl)
@[simp] theorem State.setSnap_ptp (s : State) (x : Tab Word) : (s.setSnap x).ptp = s.ptp := (rfl)
@[simp] theorem State.setSnap_tmg (s : State) (x : Tab Word) : (s.setSnap x).tmg = s.tmg := (rfl)
@[simp] theorem State.setSnap_syn (s : State) (x : Tab Word) : (s.setSnap x).syn = s.syn := (rfl)
@[simp] theorem State.setSnap_cfg (s : State) (x : Tab Word) : (s.setSnap x).cfg = s.cfg := (rfl)
@[simp] theorem State.setSnap_xpt (s : State) (x : Tab Word) : (s.setSnap x).xpt = s.xpt := (rfl)
@[simp] theorem State.setSnap_lan (s : State) (x : Tab Word) : (s.setSnap x).lan = s.lan := (rfl)
@[simp] theorem State.setSnap_eyeSec (s : State) (x : Tab Word) : (s.setSnap x).eyeSec = s.eyeSec := (rfl)
@[simp] theorem State.setSnap_sdi (s : State) (x : Tab Word) : (s.setSnap x).sdi = s.sdi := (rfl)
@[simp] theorem State.setSnap_streams (s : State) (x : Tab Word) : (s.setSnap x).streams = s.streams := (rfl)
@[simp] theorem State.setSnap_fst (s : State) (x : Tab Word) : (s.setSnap x).fst = s.fst := (rfl)
@[simp] theorem State.setSnap_cmp (s : State) (x : Tab Word) : (s.setSnap x).cmp = s.cmp := (rfl)
@[simp] theorem State.setSnap_lin (s : State) (x : Tab Word) : (s.setSnap x).lin = s.lin := (rfl)
@[simp] theorem State.setSnap_tables (s : State) (x : Tab Word) : (s.setSnap x).tables = s.tables := (rfl)
@[simp] theorem State.setSnap_aud (s : State) (x : Tab Word) : (s.setSnap x).aud = s.aud := (rfl)
@[simp] theorem State.setSnap_mac (s : State) (x : Tab Word) : (s.setSnap x).mac = s.mac := (rfl)
@[simp] theorem State.setSnap_med (s : State) (x : Tab Word) : (s.setSnap x).med = s.med := (rfl)
@[simp] theorem State.setSnap_win (s : State) (x : Tab Word) : (s.setSnap x).win = s.win := (rfl)
@[simp] theorem State.setSnap_rows (s : State) (x : Tab Word) : (s.setSnap x).rows = s.rows := (rfl)
@[simp] theorem State.setSnap_drc (s : State) (x : Tab Word) : (s.setSnap x).drc = s.drc := (rfl)
@[simp] theorem State.setSnap_prot (s : State) (x : Tab Word) : (s.setSnap x).prot = s.prot := (rfl)
@[simp] theorem State.setSnap_fresh (s : State) (x : Tab Word) : (s.setSnap x).fresh = s.fresh := (rfl)
@[simp] theorem State.setSnap_dram (s : State) (x : Tab Word) : (s.setSnap x).dram = s.dram := (rfl)
@[simp] theorem State.setSnap_tcm (s : State) (x : Tab Word) : (s.setSnap x).tcm = s.tcm := (rfl)
@[simp] theorem State.setSnap_freeCtr (s : State) (x : Tab Word) : (s.setSnap x).freeCtr = s.freeCtr := (rfl)
@[simp] theorem State.setSnap_out (s : State) (x : Tab Word) : (s.setSnap x).out = s.out := (rfl)
@[simp] theorem State.setSnap_pending (s : State) (x : Tab Word) : (s.setSnap x).pending = s.pending := (rfl)

@[simp] theorem State.setPins_pins (s : State) (x : Pins) : (s.setPins x).pins = x := (rfl)
@[simp] theorem State.setPins_dev (s : State) (x : Pins) : (s.setPins x).dev = s.dev := (rfl)
@[simp] theorem State.setPins_now (s : State) (x : Pins) : (s.setPins x).now = s.now := (rfl)
@[simp] theorem State.setPins_regs (s : State) (x : Pins) : (s.setPins x).regs = s.regs := (rfl)
@[simp] theorem State.setPins_snap (s : State) (x : Pins) : (s.setPins x).snap = s.snap := (rfl)
@[simp] theorem State.setPins_ctl (s : State) (x : Pins) : (s.setPins x).ctl = s.ctl := (rfl)
@[simp] theorem State.setPins_boot (s : State) (x : Pins) : (s.setPins x).boot = s.boot := (rfl)
@[simp] theorem State.setPins_power (s : State) (x : Pins) : (s.setPins x).power = s.power := (rfl)
@[simp] theorem State.setPins_flt (s : State) (x : Pins) : (s.setPins x).flt = s.flt := (rfl)
@[simp] theorem State.setPins_mnt (s : State) (x : Pins) : (s.setPins x).mnt = s.mnt := (rfl)
@[simp] theorem State.setPins_life (s : State) (x : Pins) : (s.setPins x).life = s.life := (rfl)
@[simp] theorem State.setPins_pcie (s : State) (x : Pins) : (s.setPins x).pcie = s.pcie := (rfl)
@[simp] theorem State.setPins_card (s : State) (x : Pins) : (s.setPins x).card = s.card := (rfl)
@[simp] theorem State.setPins_dma (s : State) (x : Pins) : (s.setPins x).dma = s.dma := (rfl)
@[simp] theorem State.setPins_pwmbx (s : State) (x : Pins) : (s.setPins x).pwmbx = s.pwmbx := (rfl)
@[simp] theorem State.setPins_flash (s : State) (x : Pins) : (s.setPins x).flash = s.flash := (rfl)
@[simp] theorem State.setPins_twn (s : State) (x : Pins) : (s.setPins x).twn = s.twn := (rfl)
@[simp] theorem State.setPins_ptp (s : State) (x : Pins) : (s.setPins x).ptp = s.ptp := (rfl)
@[simp] theorem State.setPins_tmg (s : State) (x : Pins) : (s.setPins x).tmg = s.tmg := (rfl)
@[simp] theorem State.setPins_syn (s : State) (x : Pins) : (s.setPins x).syn = s.syn := (rfl)
@[simp] theorem State.setPins_cfg (s : State) (x : Pins) : (s.setPins x).cfg = s.cfg := (rfl)
@[simp] theorem State.setPins_xpt (s : State) (x : Pins) : (s.setPins x).xpt = s.xpt := (rfl)
@[simp] theorem State.setPins_lan (s : State) (x : Pins) : (s.setPins x).lan = s.lan := (rfl)
@[simp] theorem State.setPins_eyeSec (s : State) (x : Pins) : (s.setPins x).eyeSec = s.eyeSec := (rfl)
@[simp] theorem State.setPins_sdi (s : State) (x : Pins) : (s.setPins x).sdi = s.sdi := (rfl)
@[simp] theorem State.setPins_streams (s : State) (x : Pins) : (s.setPins x).streams = s.streams := (rfl)
@[simp] theorem State.setPins_fst (s : State) (x : Pins) : (s.setPins x).fst = s.fst := (rfl)
@[simp] theorem State.setPins_cmp (s : State) (x : Pins) : (s.setPins x).cmp = s.cmp := (rfl)
@[simp] theorem State.setPins_lin (s : State) (x : Pins) : (s.setPins x).lin = s.lin := (rfl)
@[simp] theorem State.setPins_tables (s : State) (x : Pins) : (s.setPins x).tables = s.tables := (rfl)
@[simp] theorem State.setPins_aud (s : State) (x : Pins) : (s.setPins x).aud = s.aud := (rfl)
@[simp] theorem State.setPins_mac (s : State) (x : Pins) : (s.setPins x).mac = s.mac := (rfl)
@[simp] theorem State.setPins_med (s : State) (x : Pins) : (s.setPins x).med = s.med := (rfl)
@[simp] theorem State.setPins_win (s : State) (x : Pins) : (s.setPins x).win = s.win := (rfl)
@[simp] theorem State.setPins_rows (s : State) (x : Pins) : (s.setPins x).rows = s.rows := (rfl)
@[simp] theorem State.setPins_drc (s : State) (x : Pins) : (s.setPins x).drc = s.drc := (rfl)
@[simp] theorem State.setPins_prot (s : State) (x : Pins) : (s.setPins x).prot = s.prot := (rfl)
@[simp] theorem State.setPins_fresh (s : State) (x : Pins) : (s.setPins x).fresh = s.fresh := (rfl)
@[simp] theorem State.setPins_dram (s : State) (x : Pins) : (s.setPins x).dram = s.dram := (rfl)
@[simp] theorem State.setPins_tcm (s : State) (x : Pins) : (s.setPins x).tcm = s.tcm := (rfl)
@[simp] theorem State.setPins_freeCtr (s : State) (x : Pins) : (s.setPins x).freeCtr = s.freeCtr := (rfl)
@[simp] theorem State.setPins_out (s : State) (x : Pins) : (s.setPins x).out = s.out := (rfl)
@[simp] theorem State.setPins_pending (s : State) (x : Pins) : (s.setPins x).pending = s.pending := (rfl)

@[simp] theorem State.setCtl_ctl (s : State) (x : Ctl) : (s.setCtl x).ctl = x := (rfl)
@[simp] theorem State.setCtl_dev (s : State) (x : Ctl) : (s.setCtl x).dev = s.dev := (rfl)
@[simp] theorem State.setCtl_now (s : State) (x : Ctl) : (s.setCtl x).now = s.now := (rfl)
@[simp] theorem State.setCtl_regs (s : State) (x : Ctl) : (s.setCtl x).regs = s.regs := (rfl)
@[simp] theorem State.setCtl_snap (s : State) (x : Ctl) : (s.setCtl x).snap = s.snap := (rfl)
@[simp] theorem State.setCtl_pins (s : State) (x : Ctl) : (s.setCtl x).pins = s.pins := (rfl)
@[simp] theorem State.setCtl_boot (s : State) (x : Ctl) : (s.setCtl x).boot = s.boot := (rfl)
@[simp] theorem State.setCtl_power (s : State) (x : Ctl) : (s.setCtl x).power = s.power := (rfl)
@[simp] theorem State.setCtl_flt (s : State) (x : Ctl) : (s.setCtl x).flt = s.flt := (rfl)
@[simp] theorem State.setCtl_mnt (s : State) (x : Ctl) : (s.setCtl x).mnt = s.mnt := (rfl)
@[simp] theorem State.setCtl_life (s : State) (x : Ctl) : (s.setCtl x).life = s.life := (rfl)
@[simp] theorem State.setCtl_pcie (s : State) (x : Ctl) : (s.setCtl x).pcie = s.pcie := (rfl)
@[simp] theorem State.setCtl_card (s : State) (x : Ctl) : (s.setCtl x).card = s.card := (rfl)
@[simp] theorem State.setCtl_dma (s : State) (x : Ctl) : (s.setCtl x).dma = s.dma := (rfl)
@[simp] theorem State.setCtl_pwmbx (s : State) (x : Ctl) : (s.setCtl x).pwmbx = s.pwmbx := (rfl)
@[simp] theorem State.setCtl_flash (s : State) (x : Ctl) : (s.setCtl x).flash = s.flash := (rfl)
@[simp] theorem State.setCtl_twn (s : State) (x : Ctl) : (s.setCtl x).twn = s.twn := (rfl)
@[simp] theorem State.setCtl_ptp (s : State) (x : Ctl) : (s.setCtl x).ptp = s.ptp := (rfl)
@[simp] theorem State.setCtl_tmg (s : State) (x : Ctl) : (s.setCtl x).tmg = s.tmg := (rfl)
@[simp] theorem State.setCtl_syn (s : State) (x : Ctl) : (s.setCtl x).syn = s.syn := (rfl)
@[simp] theorem State.setCtl_cfg (s : State) (x : Ctl) : (s.setCtl x).cfg = s.cfg := (rfl)
@[simp] theorem State.setCtl_xpt (s : State) (x : Ctl) : (s.setCtl x).xpt = s.xpt := (rfl)
@[simp] theorem State.setCtl_lan (s : State) (x : Ctl) : (s.setCtl x).lan = s.lan := (rfl)
@[simp] theorem State.setCtl_eyeSec (s : State) (x : Ctl) : (s.setCtl x).eyeSec = s.eyeSec := (rfl)
@[simp] theorem State.setCtl_sdi (s : State) (x : Ctl) : (s.setCtl x).sdi = s.sdi := (rfl)
@[simp] theorem State.setCtl_streams (s : State) (x : Ctl) : (s.setCtl x).streams = s.streams := (rfl)
@[simp] theorem State.setCtl_fst (s : State) (x : Ctl) : (s.setCtl x).fst = s.fst := (rfl)
@[simp] theorem State.setCtl_cmp (s : State) (x : Ctl) : (s.setCtl x).cmp = s.cmp := (rfl)
@[simp] theorem State.setCtl_lin (s : State) (x : Ctl) : (s.setCtl x).lin = s.lin := (rfl)
@[simp] theorem State.setCtl_tables (s : State) (x : Ctl) : (s.setCtl x).tables = s.tables := (rfl)
@[simp] theorem State.setCtl_aud (s : State) (x : Ctl) : (s.setCtl x).aud = s.aud := (rfl)
@[simp] theorem State.setCtl_mac (s : State) (x : Ctl) : (s.setCtl x).mac = s.mac := (rfl)
@[simp] theorem State.setCtl_med (s : State) (x : Ctl) : (s.setCtl x).med = s.med := (rfl)
@[simp] theorem State.setCtl_win (s : State) (x : Ctl) : (s.setCtl x).win = s.win := (rfl)
@[simp] theorem State.setCtl_rows (s : State) (x : Ctl) : (s.setCtl x).rows = s.rows := (rfl)
@[simp] theorem State.setCtl_drc (s : State) (x : Ctl) : (s.setCtl x).drc = s.drc := (rfl)
@[simp] theorem State.setCtl_prot (s : State) (x : Ctl) : (s.setCtl x).prot = s.prot := (rfl)
@[simp] theorem State.setCtl_fresh (s : State) (x : Ctl) : (s.setCtl x).fresh = s.fresh := (rfl)
@[simp] theorem State.setCtl_dram (s : State) (x : Ctl) : (s.setCtl x).dram = s.dram := (rfl)
@[simp] theorem State.setCtl_tcm (s : State) (x : Ctl) : (s.setCtl x).tcm = s.tcm := (rfl)
@[simp] theorem State.setCtl_freeCtr (s : State) (x : Ctl) : (s.setCtl x).freeCtr = s.freeCtr := (rfl)
@[simp] theorem State.setCtl_out (s : State) (x : Ctl) : (s.setCtl x).out = s.out := (rfl)
@[simp] theorem State.setCtl_pending (s : State) (x : Ctl) : (s.setCtl x).pending = s.pending := (rfl)

@[simp] theorem State.setBoot_boot (s : State) (x : BootState) : (s.setBoot x).boot = x := (rfl)
@[simp] theorem State.setBoot_dev (s : State) (x : BootState) : (s.setBoot x).dev = s.dev := (rfl)
@[simp] theorem State.setBoot_now (s : State) (x : BootState) : (s.setBoot x).now = s.now := (rfl)
@[simp] theorem State.setBoot_regs (s : State) (x : BootState) : (s.setBoot x).regs = s.regs := (rfl)
@[simp] theorem State.setBoot_snap (s : State) (x : BootState) : (s.setBoot x).snap = s.snap := (rfl)
@[simp] theorem State.setBoot_pins (s : State) (x : BootState) : (s.setBoot x).pins = s.pins := (rfl)
@[simp] theorem State.setBoot_ctl (s : State) (x : BootState) : (s.setBoot x).ctl = s.ctl := (rfl)
@[simp] theorem State.setBoot_power (s : State) (x : BootState) : (s.setBoot x).power = s.power := (rfl)
@[simp] theorem State.setBoot_flt (s : State) (x : BootState) : (s.setBoot x).flt = s.flt := (rfl)
@[simp] theorem State.setBoot_mnt (s : State) (x : BootState) : (s.setBoot x).mnt = s.mnt := (rfl)
@[simp] theorem State.setBoot_life (s : State) (x : BootState) : (s.setBoot x).life = s.life := (rfl)
@[simp] theorem State.setBoot_pcie (s : State) (x : BootState) : (s.setBoot x).pcie = s.pcie := (rfl)
@[simp] theorem State.setBoot_card (s : State) (x : BootState) : (s.setBoot x).card = s.card := (rfl)
@[simp] theorem State.setBoot_dma (s : State) (x : BootState) : (s.setBoot x).dma = s.dma := (rfl)
@[simp] theorem State.setBoot_pwmbx (s : State) (x : BootState) : (s.setBoot x).pwmbx = s.pwmbx := (rfl)
@[simp] theorem State.setBoot_flash (s : State) (x : BootState) : (s.setBoot x).flash = s.flash := (rfl)
@[simp] theorem State.setBoot_twn (s : State) (x : BootState) : (s.setBoot x).twn = s.twn := (rfl)
@[simp] theorem State.setBoot_ptp (s : State) (x : BootState) : (s.setBoot x).ptp = s.ptp := (rfl)
@[simp] theorem State.setBoot_tmg (s : State) (x : BootState) : (s.setBoot x).tmg = s.tmg := (rfl)
@[simp] theorem State.setBoot_syn (s : State) (x : BootState) : (s.setBoot x).syn = s.syn := (rfl)
@[simp] theorem State.setBoot_cfg (s : State) (x : BootState) : (s.setBoot x).cfg = s.cfg := (rfl)
@[simp] theorem State.setBoot_xpt (s : State) (x : BootState) : (s.setBoot x).xpt = s.xpt := (rfl)
@[simp] theorem State.setBoot_lan (s : State) (x : BootState) : (s.setBoot x).lan = s.lan := (rfl)
@[simp] theorem State.setBoot_eyeSec (s : State) (x : BootState) : (s.setBoot x).eyeSec = s.eyeSec := (rfl)
@[simp] theorem State.setBoot_sdi (s : State) (x : BootState) : (s.setBoot x).sdi = s.sdi := (rfl)
@[simp] theorem State.setBoot_streams (s : State) (x : BootState) : (s.setBoot x).streams = s.streams := (rfl)
@[simp] theorem State.setBoot_fst (s : State) (x : BootState) : (s.setBoot x).fst = s.fst := (rfl)
@[simp] theorem State.setBoot_cmp (s : State) (x : BootState) : (s.setBoot x).cmp = s.cmp := (rfl)
@[simp] theorem State.setBoot_lin (s : State) (x : BootState) : (s.setBoot x).lin = s.lin := (rfl)
@[simp] theorem State.setBoot_tables (s : State) (x : BootState) : (s.setBoot x).tables = s.tables := (rfl)
@[simp] theorem State.setBoot_aud (s : State) (x : BootState) : (s.setBoot x).aud = s.aud := (rfl)
@[simp] theorem State.setBoot_mac (s : State) (x : BootState) : (s.setBoot x).mac = s.mac := (rfl)
@[simp] theorem State.setBoot_med (s : State) (x : BootState) : (s.setBoot x).med = s.med := (rfl)
@[simp] theorem State.setBoot_win (s : State) (x : BootState) : (s.setBoot x).win = s.win := (rfl)
@[simp] theorem State.setBoot_rows (s : State) (x : BootState) : (s.setBoot x).rows = s.rows := (rfl)
@[simp] theorem State.setBoot_drc (s : State) (x : BootState) : (s.setBoot x).drc = s.drc := (rfl)
@[simp] theorem State.setBoot_prot (s : State) (x : BootState) : (s.setBoot x).prot = s.prot := (rfl)
@[simp] theorem State.setBoot_fresh (s : State) (x : BootState) : (s.setBoot x).fresh = s.fresh := (rfl)
@[simp] theorem State.setBoot_dram (s : State) (x : BootState) : (s.setBoot x).dram = s.dram := (rfl)
@[simp] theorem State.setBoot_tcm (s : State) (x : BootState) : (s.setBoot x).tcm = s.tcm := (rfl)
@[simp] theorem State.setBoot_freeCtr (s : State) (x : BootState) : (s.setBoot x).freeCtr = s.freeCtr := (rfl)
@[simp] theorem State.setBoot_out (s : State) (x : BootState) : (s.setBoot x).out = s.out := (rfl)
@[simp] theorem State.setBoot_pending (s : State) (x : BootState) : (s.setBoot x).pending = s.pending := (rfl)

@[simp] theorem State.setPower_power (s : State) (x : PowerState) : (s.setPower x).power = x := (rfl)
@[simp] theorem State.setPower_dev (s : State) (x : PowerState) : (s.setPower x).dev = s.dev := (rfl)
@[simp] theorem State.setPower_now (s : State) (x : PowerState) : (s.setPower x).now = s.now := (rfl)
@[simp] theorem State.setPower_regs (s : State) (x : PowerState) : (s.setPower x).regs = s.regs := (rfl)
@[simp] theorem State.setPower_snap (s : State) (x : PowerState) : (s.setPower x).snap = s.snap := (rfl)
@[simp] theorem State.setPower_pins (s : State) (x : PowerState) : (s.setPower x).pins = s.pins := (rfl)
@[simp] theorem State.setPower_ctl (s : State) (x : PowerState) : (s.setPower x).ctl = s.ctl := (rfl)
@[simp] theorem State.setPower_boot (s : State) (x : PowerState) : (s.setPower x).boot = s.boot := (rfl)
@[simp] theorem State.setPower_flt (s : State) (x : PowerState) : (s.setPower x).flt = s.flt := (rfl)
@[simp] theorem State.setPower_mnt (s : State) (x : PowerState) : (s.setPower x).mnt = s.mnt := (rfl)
@[simp] theorem State.setPower_life (s : State) (x : PowerState) : (s.setPower x).life = s.life := (rfl)
@[simp] theorem State.setPower_pcie (s : State) (x : PowerState) : (s.setPower x).pcie = s.pcie := (rfl)
@[simp] theorem State.setPower_card (s : State) (x : PowerState) : (s.setPower x).card = s.card := (rfl)
@[simp] theorem State.setPower_dma (s : State) (x : PowerState) : (s.setPower x).dma = s.dma := (rfl)
@[simp] theorem State.setPower_pwmbx (s : State) (x : PowerState) : (s.setPower x).pwmbx = s.pwmbx := (rfl)
@[simp] theorem State.setPower_flash (s : State) (x : PowerState) : (s.setPower x).flash = s.flash := (rfl)
@[simp] theorem State.setPower_twn (s : State) (x : PowerState) : (s.setPower x).twn = s.twn := (rfl)
@[simp] theorem State.setPower_ptp (s : State) (x : PowerState) : (s.setPower x).ptp = s.ptp := (rfl)
@[simp] theorem State.setPower_tmg (s : State) (x : PowerState) : (s.setPower x).tmg = s.tmg := (rfl)
@[simp] theorem State.setPower_syn (s : State) (x : PowerState) : (s.setPower x).syn = s.syn := (rfl)
@[simp] theorem State.setPower_cfg (s : State) (x : PowerState) : (s.setPower x).cfg = s.cfg := (rfl)
@[simp] theorem State.setPower_xpt (s : State) (x : PowerState) : (s.setPower x).xpt = s.xpt := (rfl)
@[simp] theorem State.setPower_lan (s : State) (x : PowerState) : (s.setPower x).lan = s.lan := (rfl)
@[simp] theorem State.setPower_eyeSec (s : State) (x : PowerState) : (s.setPower x).eyeSec = s.eyeSec := (rfl)
@[simp] theorem State.setPower_sdi (s : State) (x : PowerState) : (s.setPower x).sdi = s.sdi := (rfl)
@[simp] theorem State.setPower_streams (s : State) (x : PowerState) : (s.setPower x).streams = s.streams := (rfl)
@[simp] theorem State.setPower_fst (s : State) (x : PowerState) : (s.setPower x).fst = s.fst := (rfl)
@[simp] theorem State.setPower_cmp (s : State) (x : PowerState) : (s.setPower x).cmp = s.cmp := (rfl)
@[simp] theorem State.setPower_lin (s : State) (x : PowerState) : (s.setPower x).lin = s.lin := (rfl)
@[simp] theorem State.setPower_tables (s : State) (x : PowerState) : (s.setPower x).tables = s.tables := (rfl)
@[simp] theorem State.setPower_aud (s : State) (x : PowerState) : (s.setPower x).aud = s.aud := (rfl)
@[simp] theorem State.setPower_mac (s : State) (x : PowerState) : (s.setPower x).mac = s.mac := (rfl)
@[simp] theorem State.setPower_med (s : State) (x : PowerState) : (s.setPower x).med = s.med := (rfl)
@[simp] theorem State.setPower_win (s : State) (x : PowerState) : (s.setPower x).win = s.win := (rfl)
@[simp] theorem State.setPower_rows (s : State) (x : PowerState) : (s.setPower x).rows = s.rows := (rfl)
@[simp] theorem State.setPower_drc (s : State) (x : PowerState) : (s.setPower x).drc = s.drc := (rfl)
@[simp] theorem State.setPower_prot (s : State) (x : PowerState) : (s.setPower x).prot = s.prot := (rfl)
@[simp] theorem State.setPower_fresh (s : State) (x : PowerState) : (s.setPower x).fresh = s.fresh := (rfl)
@[simp] theorem State.setPower_dram (s : State) (x : PowerState) : (s.setPower x).dram = s.dram := (rfl)
@[simp] theorem State.setPower_tcm (s : State) (x : PowerState) : (s.setPower x).tcm = s.tcm := (rfl)
@[simp] theorem State.setPower_freeCtr (s : State) (x : PowerState) : (s.setPower x).freeCtr = s.freeCtr := (rfl)
@[simp] theorem State.setPower_out (s : State) (x : PowerState) : (s.setPower x).out = s.out := (rfl)
@[simp] theorem State.setPower_pending (s : State) (x : PowerState) : (s.setPower x).pending = s.pending := (rfl)

@[simp] theorem State.setFlt_flt (s : State) (x : FaultState) : (s.setFlt x).flt = x := (rfl)
@[simp] theorem State.setFlt_dev (s : State) (x : FaultState) : (s.setFlt x).dev = s.dev := (rfl)
@[simp] theorem State.setFlt_now (s : State) (x : FaultState) : (s.setFlt x).now = s.now := (rfl)
@[simp] theorem State.setFlt_regs (s : State) (x : FaultState) : (s.setFlt x).regs = s.regs := (rfl)
@[simp] theorem State.setFlt_snap (s : State) (x : FaultState) : (s.setFlt x).snap = s.snap := (rfl)
@[simp] theorem State.setFlt_pins (s : State) (x : FaultState) : (s.setFlt x).pins = s.pins := (rfl)
@[simp] theorem State.setFlt_ctl (s : State) (x : FaultState) : (s.setFlt x).ctl = s.ctl := (rfl)
@[simp] theorem State.setFlt_boot (s : State) (x : FaultState) : (s.setFlt x).boot = s.boot := (rfl)
@[simp] theorem State.setFlt_power (s : State) (x : FaultState) : (s.setFlt x).power = s.power := (rfl)
@[simp] theorem State.setFlt_mnt (s : State) (x : FaultState) : (s.setFlt x).mnt = s.mnt := (rfl)
@[simp] theorem State.setFlt_life (s : State) (x : FaultState) : (s.setFlt x).life = s.life := (rfl)
@[simp] theorem State.setFlt_pcie (s : State) (x : FaultState) : (s.setFlt x).pcie = s.pcie := (rfl)
@[simp] theorem State.setFlt_card (s : State) (x : FaultState) : (s.setFlt x).card = s.card := (rfl)
@[simp] theorem State.setFlt_dma (s : State) (x : FaultState) : (s.setFlt x).dma = s.dma := (rfl)
@[simp] theorem State.setFlt_pwmbx (s : State) (x : FaultState) : (s.setFlt x).pwmbx = s.pwmbx := (rfl)
@[simp] theorem State.setFlt_flash (s : State) (x : FaultState) : (s.setFlt x).flash = s.flash := (rfl)
@[simp] theorem State.setFlt_twn (s : State) (x : FaultState) : (s.setFlt x).twn = s.twn := (rfl)
@[simp] theorem State.setFlt_ptp (s : State) (x : FaultState) : (s.setFlt x).ptp = s.ptp := (rfl)
@[simp] theorem State.setFlt_tmg (s : State) (x : FaultState) : (s.setFlt x).tmg = s.tmg := (rfl)
@[simp] theorem State.setFlt_syn (s : State) (x : FaultState) : (s.setFlt x).syn = s.syn := (rfl)
@[simp] theorem State.setFlt_cfg (s : State) (x : FaultState) : (s.setFlt x).cfg = s.cfg := (rfl)
@[simp] theorem State.setFlt_xpt (s : State) (x : FaultState) : (s.setFlt x).xpt = s.xpt := (rfl)
@[simp] theorem State.setFlt_lan (s : State) (x : FaultState) : (s.setFlt x).lan = s.lan := (rfl)
@[simp] theorem State.setFlt_eyeSec (s : State) (x : FaultState) : (s.setFlt x).eyeSec = s.eyeSec := (rfl)
@[simp] theorem State.setFlt_sdi (s : State) (x : FaultState) : (s.setFlt x).sdi = s.sdi := (rfl)
@[simp] theorem State.setFlt_streams (s : State) (x : FaultState) : (s.setFlt x).streams = s.streams := (rfl)
@[simp] theorem State.setFlt_fst (s : State) (x : FaultState) : (s.setFlt x).fst = s.fst := (rfl)
@[simp] theorem State.setFlt_cmp (s : State) (x : FaultState) : (s.setFlt x).cmp = s.cmp := (rfl)
@[simp] theorem State.setFlt_lin (s : State) (x : FaultState) : (s.setFlt x).lin = s.lin := (rfl)
@[simp] theorem State.setFlt_tables (s : State) (x : FaultState) : (s.setFlt x).tables = s.tables := (rfl)
@[simp] theorem State.setFlt_aud (s : State) (x : FaultState) : (s.setFlt x).aud = s.aud := (rfl)
@[simp] theorem State.setFlt_mac (s : State) (x : FaultState) : (s.setFlt x).mac = s.mac := (rfl)
@[simp] theorem State.setFlt_med (s : State) (x : FaultState) : (s.setFlt x).med = s.med := (rfl)
@[simp] theorem State.setFlt_win (s : State) (x : FaultState) : (s.setFlt x).win = s.win := (rfl)
@[simp] theorem State.setFlt_rows (s : State) (x : FaultState) : (s.setFlt x).rows = s.rows := (rfl)
@[simp] theorem State.setFlt_drc (s : State) (x : FaultState) : (s.setFlt x).drc = s.drc := (rfl)
@[simp] theorem State.setFlt_prot (s : State) (x : FaultState) : (s.setFlt x).prot = s.prot := (rfl)
@[simp] theorem State.setFlt_fresh (s : State) (x : FaultState) : (s.setFlt x).fresh = s.fresh := (rfl)
@[simp] theorem State.setFlt_dram (s : State) (x : FaultState) : (s.setFlt x).dram = s.dram := (rfl)
@[simp] theorem State.setFlt_tcm (s : State) (x : FaultState) : (s.setFlt x).tcm = s.tcm := (rfl)
@[simp] theorem State.setFlt_freeCtr (s : State) (x : FaultState) : (s.setFlt x).freeCtr = s.freeCtr := (rfl)
@[simp] theorem State.setFlt_out (s : State) (x : FaultState) : (s.setFlt x).out = s.out := (rfl)
@[simp] theorem State.setFlt_pending (s : State) (x : FaultState) : (s.setFlt x).pending = s.pending := (rfl)

@[simp] theorem State.setMnt_mnt (s : State) (x : Tab MntRes) : (s.setMnt x).mnt = x := (rfl)
@[simp] theorem State.setMnt_dev (s : State) (x : Tab MntRes) : (s.setMnt x).dev = s.dev := (rfl)
@[simp] theorem State.setMnt_now (s : State) (x : Tab MntRes) : (s.setMnt x).now = s.now := (rfl)
@[simp] theorem State.setMnt_regs (s : State) (x : Tab MntRes) : (s.setMnt x).regs = s.regs := (rfl)
@[simp] theorem State.setMnt_snap (s : State) (x : Tab MntRes) : (s.setMnt x).snap = s.snap := (rfl)
@[simp] theorem State.setMnt_pins (s : State) (x : Tab MntRes) : (s.setMnt x).pins = s.pins := (rfl)
@[simp] theorem State.setMnt_ctl (s : State) (x : Tab MntRes) : (s.setMnt x).ctl = s.ctl := (rfl)
@[simp] theorem State.setMnt_boot (s : State) (x : Tab MntRes) : (s.setMnt x).boot = s.boot := (rfl)
@[simp] theorem State.setMnt_power (s : State) (x : Tab MntRes) : (s.setMnt x).power = s.power := (rfl)
@[simp] theorem State.setMnt_flt (s : State) (x : Tab MntRes) : (s.setMnt x).flt = s.flt := (rfl)
@[simp] theorem State.setMnt_life (s : State) (x : Tab MntRes) : (s.setMnt x).life = s.life := (rfl)
@[simp] theorem State.setMnt_pcie (s : State) (x : Tab MntRes) : (s.setMnt x).pcie = s.pcie := (rfl)
@[simp] theorem State.setMnt_card (s : State) (x : Tab MntRes) : (s.setMnt x).card = s.card := (rfl)
@[simp] theorem State.setMnt_dma (s : State) (x : Tab MntRes) : (s.setMnt x).dma = s.dma := (rfl)
@[simp] theorem State.setMnt_pwmbx (s : State) (x : Tab MntRes) : (s.setMnt x).pwmbx = s.pwmbx := (rfl)
@[simp] theorem State.setMnt_flash (s : State) (x : Tab MntRes) : (s.setMnt x).flash = s.flash := (rfl)
@[simp] theorem State.setMnt_twn (s : State) (x : Tab MntRes) : (s.setMnt x).twn = s.twn := (rfl)
@[simp] theorem State.setMnt_ptp (s : State) (x : Tab MntRes) : (s.setMnt x).ptp = s.ptp := (rfl)
@[simp] theorem State.setMnt_tmg (s : State) (x : Tab MntRes) : (s.setMnt x).tmg = s.tmg := (rfl)
@[simp] theorem State.setMnt_syn (s : State) (x : Tab MntRes) : (s.setMnt x).syn = s.syn := (rfl)
@[simp] theorem State.setMnt_cfg (s : State) (x : Tab MntRes) : (s.setMnt x).cfg = s.cfg := (rfl)
@[simp] theorem State.setMnt_xpt (s : State) (x : Tab MntRes) : (s.setMnt x).xpt = s.xpt := (rfl)
@[simp] theorem State.setMnt_lan (s : State) (x : Tab MntRes) : (s.setMnt x).lan = s.lan := (rfl)
@[simp] theorem State.setMnt_eyeSec (s : State) (x : Tab MntRes) : (s.setMnt x).eyeSec = s.eyeSec := (rfl)
@[simp] theorem State.setMnt_sdi (s : State) (x : Tab MntRes) : (s.setMnt x).sdi = s.sdi := (rfl)
@[simp] theorem State.setMnt_streams (s : State) (x : Tab MntRes) : (s.setMnt x).streams = s.streams := (rfl)
@[simp] theorem State.setMnt_fst (s : State) (x : Tab MntRes) : (s.setMnt x).fst = s.fst := (rfl)
@[simp] theorem State.setMnt_cmp (s : State) (x : Tab MntRes) : (s.setMnt x).cmp = s.cmp := (rfl)
@[simp] theorem State.setMnt_lin (s : State) (x : Tab MntRes) : (s.setMnt x).lin = s.lin := (rfl)
@[simp] theorem State.setMnt_tables (s : State) (x : Tab MntRes) : (s.setMnt x).tables = s.tables := (rfl)
@[simp] theorem State.setMnt_aud (s : State) (x : Tab MntRes) : (s.setMnt x).aud = s.aud := (rfl)
@[simp] theorem State.setMnt_mac (s : State) (x : Tab MntRes) : (s.setMnt x).mac = s.mac := (rfl)
@[simp] theorem State.setMnt_med (s : State) (x : Tab MntRes) : (s.setMnt x).med = s.med := (rfl)
@[simp] theorem State.setMnt_win (s : State) (x : Tab MntRes) : (s.setMnt x).win = s.win := (rfl)
@[simp] theorem State.setMnt_rows (s : State) (x : Tab MntRes) : (s.setMnt x).rows = s.rows := (rfl)
@[simp] theorem State.setMnt_drc (s : State) (x : Tab MntRes) : (s.setMnt x).drc = s.drc := (rfl)
@[simp] theorem State.setMnt_prot (s : State) (x : Tab MntRes) : (s.setMnt x).prot = s.prot := (rfl)
@[simp] theorem State.setMnt_fresh (s : State) (x : Tab MntRes) : (s.setMnt x).fresh = s.fresh := (rfl)
@[simp] theorem State.setMnt_dram (s : State) (x : Tab MntRes) : (s.setMnt x).dram = s.dram := (rfl)
@[simp] theorem State.setMnt_tcm (s : State) (x : Tab MntRes) : (s.setMnt x).tcm = s.tcm := (rfl)
@[simp] theorem State.setMnt_freeCtr (s : State) (x : Tab MntRes) : (s.setMnt x).freeCtr = s.freeCtr := (rfl)
@[simp] theorem State.setMnt_out (s : State) (x : Tab MntRes) : (s.setMnt x).out = s.out := (rfl)
@[simp] theorem State.setMnt_pending (s : State) (x : Tab MntRes) : (s.setMnt x).pending = s.pending := (rfl)

@[simp] theorem State.setLife_life (s : State) (x : LifeState) : (s.setLife x).life = x := (rfl)
@[simp] theorem State.setLife_dev (s : State) (x : LifeState) : (s.setLife x).dev = s.dev := (rfl)
@[simp] theorem State.setLife_now (s : State) (x : LifeState) : (s.setLife x).now = s.now := (rfl)
@[simp] theorem State.setLife_regs (s : State) (x : LifeState) : (s.setLife x).regs = s.regs := (rfl)
@[simp] theorem State.setLife_snap (s : State) (x : LifeState) : (s.setLife x).snap = s.snap := (rfl)
@[simp] theorem State.setLife_pins (s : State) (x : LifeState) : (s.setLife x).pins = s.pins := (rfl)
@[simp] theorem State.setLife_ctl (s : State) (x : LifeState) : (s.setLife x).ctl = s.ctl := (rfl)
@[simp] theorem State.setLife_boot (s : State) (x : LifeState) : (s.setLife x).boot = s.boot := (rfl)
@[simp] theorem State.setLife_power (s : State) (x : LifeState) : (s.setLife x).power = s.power := (rfl)
@[simp] theorem State.setLife_flt (s : State) (x : LifeState) : (s.setLife x).flt = s.flt := (rfl)
@[simp] theorem State.setLife_mnt (s : State) (x : LifeState) : (s.setLife x).mnt = s.mnt := (rfl)
@[simp] theorem State.setLife_pcie (s : State) (x : LifeState) : (s.setLife x).pcie = s.pcie := (rfl)
@[simp] theorem State.setLife_card (s : State) (x : LifeState) : (s.setLife x).card = s.card := (rfl)
@[simp] theorem State.setLife_dma (s : State) (x : LifeState) : (s.setLife x).dma = s.dma := (rfl)
@[simp] theorem State.setLife_pwmbx (s : State) (x : LifeState) : (s.setLife x).pwmbx = s.pwmbx := (rfl)
@[simp] theorem State.setLife_flash (s : State) (x : LifeState) : (s.setLife x).flash = s.flash := (rfl)
@[simp] theorem State.setLife_twn (s : State) (x : LifeState) : (s.setLife x).twn = s.twn := (rfl)
@[simp] theorem State.setLife_ptp (s : State) (x : LifeState) : (s.setLife x).ptp = s.ptp := (rfl)
@[simp] theorem State.setLife_tmg (s : State) (x : LifeState) : (s.setLife x).tmg = s.tmg := (rfl)
@[simp] theorem State.setLife_syn (s : State) (x : LifeState) : (s.setLife x).syn = s.syn := (rfl)
@[simp] theorem State.setLife_cfg (s : State) (x : LifeState) : (s.setLife x).cfg = s.cfg := (rfl)
@[simp] theorem State.setLife_xpt (s : State) (x : LifeState) : (s.setLife x).xpt = s.xpt := (rfl)
@[simp] theorem State.setLife_lan (s : State) (x : LifeState) : (s.setLife x).lan = s.lan := (rfl)
@[simp] theorem State.setLife_eyeSec (s : State) (x : LifeState) : (s.setLife x).eyeSec = s.eyeSec := (rfl)
@[simp] theorem State.setLife_sdi (s : State) (x : LifeState) : (s.setLife x).sdi = s.sdi := (rfl)
@[simp] theorem State.setLife_streams (s : State) (x : LifeState) : (s.setLife x).streams = s.streams := (rfl)
@[simp] theorem State.setLife_fst (s : State) (x : LifeState) : (s.setLife x).fst = s.fst := (rfl)
@[simp] theorem State.setLife_cmp (s : State) (x : LifeState) : (s.setLife x).cmp = s.cmp := (rfl)
@[simp] theorem State.setLife_lin (s : State) (x : LifeState) : (s.setLife x).lin = s.lin := (rfl)
@[simp] theorem State.setLife_tables (s : State) (x : LifeState) : (s.setLife x).tables = s.tables := (rfl)
@[simp] theorem State.setLife_aud (s : State) (x : LifeState) : (s.setLife x).aud = s.aud := (rfl)
@[simp] theorem State.setLife_mac (s : State) (x : LifeState) : (s.setLife x).mac = s.mac := (rfl)
@[simp] theorem State.setLife_med (s : State) (x : LifeState) : (s.setLife x).med = s.med := (rfl)
@[simp] theorem State.setLife_win (s : State) (x : LifeState) : (s.setLife x).win = s.win := (rfl)
@[simp] theorem State.setLife_rows (s : State) (x : LifeState) : (s.setLife x).rows = s.rows := (rfl)
@[simp] theorem State.setLife_drc (s : State) (x : LifeState) : (s.setLife x).drc = s.drc := (rfl)
@[simp] theorem State.setLife_prot (s : State) (x : LifeState) : (s.setLife x).prot = s.prot := (rfl)
@[simp] theorem State.setLife_fresh (s : State) (x : LifeState) : (s.setLife x).fresh = s.fresh := (rfl)
@[simp] theorem State.setLife_dram (s : State) (x : LifeState) : (s.setLife x).dram = s.dram := (rfl)
@[simp] theorem State.setLife_tcm (s : State) (x : LifeState) : (s.setLife x).tcm = s.tcm := (rfl)
@[simp] theorem State.setLife_freeCtr (s : State) (x : LifeState) : (s.setLife x).freeCtr = s.freeCtr := (rfl)
@[simp] theorem State.setLife_out (s : State) (x : LifeState) : (s.setLife x).out = s.out := (rfl)
@[simp] theorem State.setLife_pending (s : State) (x : LifeState) : (s.setLife x).pending = s.pending := (rfl)

@[simp] theorem State.setPcie_pcie (s : State) (x : PcieState) : (s.setPcie x).pcie = x := (rfl)
@[simp] theorem State.setPcie_dev (s : State) (x : PcieState) : (s.setPcie x).dev = s.dev := (rfl)
@[simp] theorem State.setPcie_now (s : State) (x : PcieState) : (s.setPcie x).now = s.now := (rfl)
@[simp] theorem State.setPcie_regs (s : State) (x : PcieState) : (s.setPcie x).regs = s.regs := (rfl)
@[simp] theorem State.setPcie_snap (s : State) (x : PcieState) : (s.setPcie x).snap = s.snap := (rfl)
@[simp] theorem State.setPcie_pins (s : State) (x : PcieState) : (s.setPcie x).pins = s.pins := (rfl)
@[simp] theorem State.setPcie_ctl (s : State) (x : PcieState) : (s.setPcie x).ctl = s.ctl := (rfl)
@[simp] theorem State.setPcie_boot (s : State) (x : PcieState) : (s.setPcie x).boot = s.boot := (rfl)
@[simp] theorem State.setPcie_power (s : State) (x : PcieState) : (s.setPcie x).power = s.power := (rfl)
@[simp] theorem State.setPcie_flt (s : State) (x : PcieState) : (s.setPcie x).flt = s.flt := (rfl)
@[simp] theorem State.setPcie_mnt (s : State) (x : PcieState) : (s.setPcie x).mnt = s.mnt := (rfl)
@[simp] theorem State.setPcie_life (s : State) (x : PcieState) : (s.setPcie x).life = s.life := (rfl)
@[simp] theorem State.setPcie_card (s : State) (x : PcieState) : (s.setPcie x).card = s.card := (rfl)
@[simp] theorem State.setPcie_dma (s : State) (x : PcieState) : (s.setPcie x).dma = s.dma := (rfl)
@[simp] theorem State.setPcie_pwmbx (s : State) (x : PcieState) : (s.setPcie x).pwmbx = s.pwmbx := (rfl)
@[simp] theorem State.setPcie_flash (s : State) (x : PcieState) : (s.setPcie x).flash = s.flash := (rfl)
@[simp] theorem State.setPcie_twn (s : State) (x : PcieState) : (s.setPcie x).twn = s.twn := (rfl)
@[simp] theorem State.setPcie_ptp (s : State) (x : PcieState) : (s.setPcie x).ptp = s.ptp := (rfl)
@[simp] theorem State.setPcie_tmg (s : State) (x : PcieState) : (s.setPcie x).tmg = s.tmg := (rfl)
@[simp] theorem State.setPcie_syn (s : State) (x : PcieState) : (s.setPcie x).syn = s.syn := (rfl)
@[simp] theorem State.setPcie_cfg (s : State) (x : PcieState) : (s.setPcie x).cfg = s.cfg := (rfl)
@[simp] theorem State.setPcie_xpt (s : State) (x : PcieState) : (s.setPcie x).xpt = s.xpt := (rfl)
@[simp] theorem State.setPcie_lan (s : State) (x : PcieState) : (s.setPcie x).lan = s.lan := (rfl)
@[simp] theorem State.setPcie_eyeSec (s : State) (x : PcieState) : (s.setPcie x).eyeSec = s.eyeSec := (rfl)
@[simp] theorem State.setPcie_sdi (s : State) (x : PcieState) : (s.setPcie x).sdi = s.sdi := (rfl)
@[simp] theorem State.setPcie_streams (s : State) (x : PcieState) : (s.setPcie x).streams = s.streams := (rfl)
@[simp] theorem State.setPcie_fst (s : State) (x : PcieState) : (s.setPcie x).fst = s.fst := (rfl)
@[simp] theorem State.setPcie_cmp (s : State) (x : PcieState) : (s.setPcie x).cmp = s.cmp := (rfl)
@[simp] theorem State.setPcie_lin (s : State) (x : PcieState) : (s.setPcie x).lin = s.lin := (rfl)
@[simp] theorem State.setPcie_tables (s : State) (x : PcieState) : (s.setPcie x).tables = s.tables := (rfl)
@[simp] theorem State.setPcie_aud (s : State) (x : PcieState) : (s.setPcie x).aud = s.aud := (rfl)
@[simp] theorem State.setPcie_mac (s : State) (x : PcieState) : (s.setPcie x).mac = s.mac := (rfl)
@[simp] theorem State.setPcie_med (s : State) (x : PcieState) : (s.setPcie x).med = s.med := (rfl)
@[simp] theorem State.setPcie_win (s : State) (x : PcieState) : (s.setPcie x).win = s.win := (rfl)
@[simp] theorem State.setPcie_rows (s : State) (x : PcieState) : (s.setPcie x).rows = s.rows := (rfl)
@[simp] theorem State.setPcie_drc (s : State) (x : PcieState) : (s.setPcie x).drc = s.drc := (rfl)
@[simp] theorem State.setPcie_prot (s : State) (x : PcieState) : (s.setPcie x).prot = s.prot := (rfl)
@[simp] theorem State.setPcie_fresh (s : State) (x : PcieState) : (s.setPcie x).fresh = s.fresh := (rfl)
@[simp] theorem State.setPcie_dram (s : State) (x : PcieState) : (s.setPcie x).dram = s.dram := (rfl)
@[simp] theorem State.setPcie_tcm (s : State) (x : PcieState) : (s.setPcie x).tcm = s.tcm := (rfl)
@[simp] theorem State.setPcie_freeCtr (s : State) (x : PcieState) : (s.setPcie x).freeCtr = s.freeCtr := (rfl)
@[simp] theorem State.setPcie_out (s : State) (x : PcieState) : (s.setPcie x).out = s.out := (rfl)
@[simp] theorem State.setPcie_pending (s : State) (x : PcieState) : (s.setPcie x).pending = s.pending := (rfl)

@[simp] theorem State.setCard_card (s : State) (x : CardState) : (s.setCard x).card = x := (rfl)
@[simp] theorem State.setCard_dev (s : State) (x : CardState) : (s.setCard x).dev = s.dev := (rfl)
@[simp] theorem State.setCard_now (s : State) (x : CardState) : (s.setCard x).now = s.now := (rfl)
@[simp] theorem State.setCard_regs (s : State) (x : CardState) : (s.setCard x).regs = s.regs := (rfl)
@[simp] theorem State.setCard_snap (s : State) (x : CardState) : (s.setCard x).snap = s.snap := (rfl)
@[simp] theorem State.setCard_pins (s : State) (x : CardState) : (s.setCard x).pins = s.pins := (rfl)
@[simp] theorem State.setCard_ctl (s : State) (x : CardState) : (s.setCard x).ctl = s.ctl := (rfl)
@[simp] theorem State.setCard_boot (s : State) (x : CardState) : (s.setCard x).boot = s.boot := (rfl)
@[simp] theorem State.setCard_power (s : State) (x : CardState) : (s.setCard x).power = s.power := (rfl)
@[simp] theorem State.setCard_flt (s : State) (x : CardState) : (s.setCard x).flt = s.flt := (rfl)
@[simp] theorem State.setCard_mnt (s : State) (x : CardState) : (s.setCard x).mnt = s.mnt := (rfl)
@[simp] theorem State.setCard_life (s : State) (x : CardState) : (s.setCard x).life = s.life := (rfl)
@[simp] theorem State.setCard_pcie (s : State) (x : CardState) : (s.setCard x).pcie = s.pcie := (rfl)
@[simp] theorem State.setCard_dma (s : State) (x : CardState) : (s.setCard x).dma = s.dma := (rfl)
@[simp] theorem State.setCard_pwmbx (s : State) (x : CardState) : (s.setCard x).pwmbx = s.pwmbx := (rfl)
@[simp] theorem State.setCard_flash (s : State) (x : CardState) : (s.setCard x).flash = s.flash := (rfl)
@[simp] theorem State.setCard_twn (s : State) (x : CardState) : (s.setCard x).twn = s.twn := (rfl)
@[simp] theorem State.setCard_ptp (s : State) (x : CardState) : (s.setCard x).ptp = s.ptp := (rfl)
@[simp] theorem State.setCard_tmg (s : State) (x : CardState) : (s.setCard x).tmg = s.tmg := (rfl)
@[simp] theorem State.setCard_syn (s : State) (x : CardState) : (s.setCard x).syn = s.syn := (rfl)
@[simp] theorem State.setCard_cfg (s : State) (x : CardState) : (s.setCard x).cfg = s.cfg := (rfl)
@[simp] theorem State.setCard_xpt (s : State) (x : CardState) : (s.setCard x).xpt = s.xpt := (rfl)
@[simp] theorem State.setCard_lan (s : State) (x : CardState) : (s.setCard x).lan = s.lan := (rfl)
@[simp] theorem State.setCard_eyeSec (s : State) (x : CardState) : (s.setCard x).eyeSec = s.eyeSec := (rfl)
@[simp] theorem State.setCard_sdi (s : State) (x : CardState) : (s.setCard x).sdi = s.sdi := (rfl)
@[simp] theorem State.setCard_streams (s : State) (x : CardState) : (s.setCard x).streams = s.streams := (rfl)
@[simp] theorem State.setCard_fst (s : State) (x : CardState) : (s.setCard x).fst = s.fst := (rfl)
@[simp] theorem State.setCard_cmp (s : State) (x : CardState) : (s.setCard x).cmp = s.cmp := (rfl)
@[simp] theorem State.setCard_lin (s : State) (x : CardState) : (s.setCard x).lin = s.lin := (rfl)
@[simp] theorem State.setCard_tables (s : State) (x : CardState) : (s.setCard x).tables = s.tables := (rfl)
@[simp] theorem State.setCard_aud (s : State) (x : CardState) : (s.setCard x).aud = s.aud := (rfl)
@[simp] theorem State.setCard_mac (s : State) (x : CardState) : (s.setCard x).mac = s.mac := (rfl)
@[simp] theorem State.setCard_med (s : State) (x : CardState) : (s.setCard x).med = s.med := (rfl)
@[simp] theorem State.setCard_win (s : State) (x : CardState) : (s.setCard x).win = s.win := (rfl)
@[simp] theorem State.setCard_rows (s : State) (x : CardState) : (s.setCard x).rows = s.rows := (rfl)
@[simp] theorem State.setCard_drc (s : State) (x : CardState) : (s.setCard x).drc = s.drc := (rfl)
@[simp] theorem State.setCard_prot (s : State) (x : CardState) : (s.setCard x).prot = s.prot := (rfl)
@[simp] theorem State.setCard_fresh (s : State) (x : CardState) : (s.setCard x).fresh = s.fresh := (rfl)
@[simp] theorem State.setCard_dram (s : State) (x : CardState) : (s.setCard x).dram = s.dram := (rfl)
@[simp] theorem State.setCard_tcm (s : State) (x : CardState) : (s.setCard x).tcm = s.tcm := (rfl)
@[simp] theorem State.setCard_freeCtr (s : State) (x : CardState) : (s.setCard x).freeCtr = s.freeCtr := (rfl)
@[simp] theorem State.setCard_out (s : State) (x : CardState) : (s.setCard x).out = s.out := (rfl)
@[simp] theorem State.setCard_pending (s : State) (x : CardState) : (s.setCard x).pending = s.pending := (rfl)

@[simp] theorem State.setDma_dma (s : State) (x : DmaState) : (s.setDma x).dma = x := (rfl)
@[simp] theorem State.setDma_dev (s : State) (x : DmaState) : (s.setDma x).dev = s.dev := (rfl)
@[simp] theorem State.setDma_now (s : State) (x : DmaState) : (s.setDma x).now = s.now := (rfl)
@[simp] theorem State.setDma_regs (s : State) (x : DmaState) : (s.setDma x).regs = s.regs := (rfl)
@[simp] theorem State.setDma_snap (s : State) (x : DmaState) : (s.setDma x).snap = s.snap := (rfl)
@[simp] theorem State.setDma_pins (s : State) (x : DmaState) : (s.setDma x).pins = s.pins := (rfl)
@[simp] theorem State.setDma_ctl (s : State) (x : DmaState) : (s.setDma x).ctl = s.ctl := (rfl)
@[simp] theorem State.setDma_boot (s : State) (x : DmaState) : (s.setDma x).boot = s.boot := (rfl)
@[simp] theorem State.setDma_power (s : State) (x : DmaState) : (s.setDma x).power = s.power := (rfl)
@[simp] theorem State.setDma_flt (s : State) (x : DmaState) : (s.setDma x).flt = s.flt := (rfl)
@[simp] theorem State.setDma_mnt (s : State) (x : DmaState) : (s.setDma x).mnt = s.mnt := (rfl)
@[simp] theorem State.setDma_life (s : State) (x : DmaState) : (s.setDma x).life = s.life := (rfl)
@[simp] theorem State.setDma_pcie (s : State) (x : DmaState) : (s.setDma x).pcie = s.pcie := (rfl)
@[simp] theorem State.setDma_card (s : State) (x : DmaState) : (s.setDma x).card = s.card := (rfl)
@[simp] theorem State.setDma_pwmbx (s : State) (x : DmaState) : (s.setDma x).pwmbx = s.pwmbx := (rfl)
@[simp] theorem State.setDma_flash (s : State) (x : DmaState) : (s.setDma x).flash = s.flash := (rfl)
@[simp] theorem State.setDma_twn (s : State) (x : DmaState) : (s.setDma x).twn = s.twn := (rfl)
@[simp] theorem State.setDma_ptp (s : State) (x : DmaState) : (s.setDma x).ptp = s.ptp := (rfl)
@[simp] theorem State.setDma_tmg (s : State) (x : DmaState) : (s.setDma x).tmg = s.tmg := (rfl)
@[simp] theorem State.setDma_syn (s : State) (x : DmaState) : (s.setDma x).syn = s.syn := (rfl)
@[simp] theorem State.setDma_cfg (s : State) (x : DmaState) : (s.setDma x).cfg = s.cfg := (rfl)
@[simp] theorem State.setDma_xpt (s : State) (x : DmaState) : (s.setDma x).xpt = s.xpt := (rfl)
@[simp] theorem State.setDma_lan (s : State) (x : DmaState) : (s.setDma x).lan = s.lan := (rfl)
@[simp] theorem State.setDma_eyeSec (s : State) (x : DmaState) : (s.setDma x).eyeSec = s.eyeSec := (rfl)
@[simp] theorem State.setDma_sdi (s : State) (x : DmaState) : (s.setDma x).sdi = s.sdi := (rfl)
@[simp] theorem State.setDma_streams (s : State) (x : DmaState) : (s.setDma x).streams = s.streams := (rfl)
@[simp] theorem State.setDma_fst (s : State) (x : DmaState) : (s.setDma x).fst = s.fst := (rfl)
@[simp] theorem State.setDma_cmp (s : State) (x : DmaState) : (s.setDma x).cmp = s.cmp := (rfl)
@[simp] theorem State.setDma_lin (s : State) (x : DmaState) : (s.setDma x).lin = s.lin := (rfl)
@[simp] theorem State.setDma_tables (s : State) (x : DmaState) : (s.setDma x).tables = s.tables := (rfl)
@[simp] theorem State.setDma_aud (s : State) (x : DmaState) : (s.setDma x).aud = s.aud := (rfl)
@[simp] theorem State.setDma_mac (s : State) (x : DmaState) : (s.setDma x).mac = s.mac := (rfl)
@[simp] theorem State.setDma_med (s : State) (x : DmaState) : (s.setDma x).med = s.med := (rfl)
@[simp] theorem State.setDma_win (s : State) (x : DmaState) : (s.setDma x).win = s.win := (rfl)
@[simp] theorem State.setDma_rows (s : State) (x : DmaState) : (s.setDma x).rows = s.rows := (rfl)
@[simp] theorem State.setDma_drc (s : State) (x : DmaState) : (s.setDma x).drc = s.drc := (rfl)
@[simp] theorem State.setDma_prot (s : State) (x : DmaState) : (s.setDma x).prot = s.prot := (rfl)
@[simp] theorem State.setDma_fresh (s : State) (x : DmaState) : (s.setDma x).fresh = s.fresh := (rfl)
@[simp] theorem State.setDma_dram (s : State) (x : DmaState) : (s.setDma x).dram = s.dram := (rfl)
@[simp] theorem State.setDma_tcm (s : State) (x : DmaState) : (s.setDma x).tcm = s.tcm := (rfl)
@[simp] theorem State.setDma_freeCtr (s : State) (x : DmaState) : (s.setDma x).freeCtr = s.freeCtr := (rfl)
@[simp] theorem State.setDma_out (s : State) (x : DmaState) : (s.setDma x).out = s.out := (rfl)
@[simp] theorem State.setDma_pending (s : State) (x : DmaState) : (s.setDma x).pending = s.pending := (rfl)

@[simp] theorem State.setPw_pwmbx (s : State) (x : PwMbx) : (s.setPw x).pwmbx = x := (rfl)
@[simp] theorem State.setPw_dev (s : State) (x : PwMbx) : (s.setPw x).dev = s.dev := (rfl)
@[simp] theorem State.setPw_now (s : State) (x : PwMbx) : (s.setPw x).now = s.now := (rfl)
@[simp] theorem State.setPw_regs (s : State) (x : PwMbx) : (s.setPw x).regs = s.regs := (rfl)
@[simp] theorem State.setPw_snap (s : State) (x : PwMbx) : (s.setPw x).snap = s.snap := (rfl)
@[simp] theorem State.setPw_pins (s : State) (x : PwMbx) : (s.setPw x).pins = s.pins := (rfl)
@[simp] theorem State.setPw_ctl (s : State) (x : PwMbx) : (s.setPw x).ctl = s.ctl := (rfl)
@[simp] theorem State.setPw_boot (s : State) (x : PwMbx) : (s.setPw x).boot = s.boot := (rfl)
@[simp] theorem State.setPw_power (s : State) (x : PwMbx) : (s.setPw x).power = s.power := (rfl)
@[simp] theorem State.setPw_flt (s : State) (x : PwMbx) : (s.setPw x).flt = s.flt := (rfl)
@[simp] theorem State.setPw_mnt (s : State) (x : PwMbx) : (s.setPw x).mnt = s.mnt := (rfl)
@[simp] theorem State.setPw_life (s : State) (x : PwMbx) : (s.setPw x).life = s.life := (rfl)
@[simp] theorem State.setPw_pcie (s : State) (x : PwMbx) : (s.setPw x).pcie = s.pcie := (rfl)
@[simp] theorem State.setPw_card (s : State) (x : PwMbx) : (s.setPw x).card = s.card := (rfl)
@[simp] theorem State.setPw_dma (s : State) (x : PwMbx) : (s.setPw x).dma = s.dma := (rfl)
@[simp] theorem State.setPw_flash (s : State) (x : PwMbx) : (s.setPw x).flash = s.flash := (rfl)
@[simp] theorem State.setPw_twn (s : State) (x : PwMbx) : (s.setPw x).twn = s.twn := (rfl)
@[simp] theorem State.setPw_ptp (s : State) (x : PwMbx) : (s.setPw x).ptp = s.ptp := (rfl)
@[simp] theorem State.setPw_tmg (s : State) (x : PwMbx) : (s.setPw x).tmg = s.tmg := (rfl)
@[simp] theorem State.setPw_syn (s : State) (x : PwMbx) : (s.setPw x).syn = s.syn := (rfl)
@[simp] theorem State.setPw_cfg (s : State) (x : PwMbx) : (s.setPw x).cfg = s.cfg := (rfl)
@[simp] theorem State.setPw_xpt (s : State) (x : PwMbx) : (s.setPw x).xpt = s.xpt := (rfl)
@[simp] theorem State.setPw_lan (s : State) (x : PwMbx) : (s.setPw x).lan = s.lan := (rfl)
@[simp] theorem State.setPw_eyeSec (s : State) (x : PwMbx) : (s.setPw x).eyeSec = s.eyeSec := (rfl)
@[simp] theorem State.setPw_sdi (s : State) (x : PwMbx) : (s.setPw x).sdi = s.sdi := (rfl)
@[simp] theorem State.setPw_streams (s : State) (x : PwMbx) : (s.setPw x).streams = s.streams := (rfl)
@[simp] theorem State.setPw_fst (s : State) (x : PwMbx) : (s.setPw x).fst = s.fst := (rfl)
@[simp] theorem State.setPw_cmp (s : State) (x : PwMbx) : (s.setPw x).cmp = s.cmp := (rfl)
@[simp] theorem State.setPw_lin (s : State) (x : PwMbx) : (s.setPw x).lin = s.lin := (rfl)
@[simp] theorem State.setPw_tables (s : State) (x : PwMbx) : (s.setPw x).tables = s.tables := (rfl)
@[simp] theorem State.setPw_aud (s : State) (x : PwMbx) : (s.setPw x).aud = s.aud := (rfl)
@[simp] theorem State.setPw_mac (s : State) (x : PwMbx) : (s.setPw x).mac = s.mac := (rfl)
@[simp] theorem State.setPw_med (s : State) (x : PwMbx) : (s.setPw x).med = s.med := (rfl)
@[simp] theorem State.setPw_win (s : State) (x : PwMbx) : (s.setPw x).win = s.win := (rfl)
@[simp] theorem State.setPw_rows (s : State) (x : PwMbx) : (s.setPw x).rows = s.rows := (rfl)
@[simp] theorem State.setPw_drc (s : State) (x : PwMbx) : (s.setPw x).drc = s.drc := (rfl)
@[simp] theorem State.setPw_prot (s : State) (x : PwMbx) : (s.setPw x).prot = s.prot := (rfl)
@[simp] theorem State.setPw_fresh (s : State) (x : PwMbx) : (s.setPw x).fresh = s.fresh := (rfl)
@[simp] theorem State.setPw_dram (s : State) (x : PwMbx) : (s.setPw x).dram = s.dram := (rfl)
@[simp] theorem State.setPw_tcm (s : State) (x : PwMbx) : (s.setPw x).tcm = s.tcm := (rfl)
@[simp] theorem State.setPw_freeCtr (s : State) (x : PwMbx) : (s.setPw x).freeCtr = s.freeCtr := (rfl)
@[simp] theorem State.setPw_out (s : State) (x : PwMbx) : (s.setPw x).out = s.out := (rfl)
@[simp] theorem State.setPw_pending (s : State) (x : PwMbx) : (s.setPw x).pending = s.pending := (rfl)

@[simp] theorem State.setFlash_flash (s : State) (x : Tab Byte) : (s.setFlash x).flash = x := (rfl)
@[simp] theorem State.setFlash_dev (s : State) (x : Tab Byte) : (s.setFlash x).dev = s.dev := (rfl)
@[simp] theorem State.setFlash_now (s : State) (x : Tab Byte) : (s.setFlash x).now = s.now := (rfl)
@[simp] theorem State.setFlash_regs (s : State) (x : Tab Byte) : (s.setFlash x).regs = s.regs := (rfl)
@[simp] theorem State.setFlash_snap (s : State) (x : Tab Byte) : (s.setFlash x).snap = s.snap := (rfl)
@[simp] theorem State.setFlash_pins (s : State) (x : Tab Byte) : (s.setFlash x).pins = s.pins := (rfl)
@[simp] theorem State.setFlash_ctl (s : State) (x : Tab Byte) : (s.setFlash x).ctl = s.ctl := (rfl)
@[simp] theorem State.setFlash_boot (s : State) (x : Tab Byte) : (s.setFlash x).boot = s.boot := (rfl)
@[simp] theorem State.setFlash_power (s : State) (x : Tab Byte) : (s.setFlash x).power = s.power := (rfl)
@[simp] theorem State.setFlash_flt (s : State) (x : Tab Byte) : (s.setFlash x).flt = s.flt := (rfl)
@[simp] theorem State.setFlash_mnt (s : State) (x : Tab Byte) : (s.setFlash x).mnt = s.mnt := (rfl)
@[simp] theorem State.setFlash_life (s : State) (x : Tab Byte) : (s.setFlash x).life = s.life := (rfl)
@[simp] theorem State.setFlash_pcie (s : State) (x : Tab Byte) : (s.setFlash x).pcie = s.pcie := (rfl)
@[simp] theorem State.setFlash_card (s : State) (x : Tab Byte) : (s.setFlash x).card = s.card := (rfl)
@[simp] theorem State.setFlash_dma (s : State) (x : Tab Byte) : (s.setFlash x).dma = s.dma := (rfl)
@[simp] theorem State.setFlash_pwmbx (s : State) (x : Tab Byte) : (s.setFlash x).pwmbx = s.pwmbx := (rfl)
@[simp] theorem State.setFlash_twn (s : State) (x : Tab Byte) : (s.setFlash x).twn = s.twn := (rfl)
@[simp] theorem State.setFlash_ptp (s : State) (x : Tab Byte) : (s.setFlash x).ptp = s.ptp := (rfl)
@[simp] theorem State.setFlash_tmg (s : State) (x : Tab Byte) : (s.setFlash x).tmg = s.tmg := (rfl)
@[simp] theorem State.setFlash_syn (s : State) (x : Tab Byte) : (s.setFlash x).syn = s.syn := (rfl)
@[simp] theorem State.setFlash_cfg (s : State) (x : Tab Byte) : (s.setFlash x).cfg = s.cfg := (rfl)
@[simp] theorem State.setFlash_xpt (s : State) (x : Tab Byte) : (s.setFlash x).xpt = s.xpt := (rfl)
@[simp] theorem State.setFlash_lan (s : State) (x : Tab Byte) : (s.setFlash x).lan = s.lan := (rfl)
@[simp] theorem State.setFlash_eyeSec (s : State) (x : Tab Byte) : (s.setFlash x).eyeSec = s.eyeSec := (rfl)
@[simp] theorem State.setFlash_sdi (s : State) (x : Tab Byte) : (s.setFlash x).sdi = s.sdi := (rfl)
@[simp] theorem State.setFlash_streams (s : State) (x : Tab Byte) : (s.setFlash x).streams = s.streams := (rfl)
@[simp] theorem State.setFlash_fst (s : State) (x : Tab Byte) : (s.setFlash x).fst = s.fst := (rfl)
@[simp] theorem State.setFlash_cmp (s : State) (x : Tab Byte) : (s.setFlash x).cmp = s.cmp := (rfl)
@[simp] theorem State.setFlash_lin (s : State) (x : Tab Byte) : (s.setFlash x).lin = s.lin := (rfl)
@[simp] theorem State.setFlash_tables (s : State) (x : Tab Byte) : (s.setFlash x).tables = s.tables := (rfl)
@[simp] theorem State.setFlash_aud (s : State) (x : Tab Byte) : (s.setFlash x).aud = s.aud := (rfl)
@[simp] theorem State.setFlash_mac (s : State) (x : Tab Byte) : (s.setFlash x).mac = s.mac := (rfl)
@[simp] theorem State.setFlash_med (s : State) (x : Tab Byte) : (s.setFlash x).med = s.med := (rfl)
@[simp] theorem State.setFlash_win (s : State) (x : Tab Byte) : (s.setFlash x).win = s.win := (rfl)
@[simp] theorem State.setFlash_rows (s : State) (x : Tab Byte) : (s.setFlash x).rows = s.rows := (rfl)
@[simp] theorem State.setFlash_drc (s : State) (x : Tab Byte) : (s.setFlash x).drc = s.drc := (rfl)
@[simp] theorem State.setFlash_prot (s : State) (x : Tab Byte) : (s.setFlash x).prot = s.prot := (rfl)
@[simp] theorem State.setFlash_fresh (s : State) (x : Tab Byte) : (s.setFlash x).fresh = s.fresh := (rfl)
@[simp] theorem State.setFlash_dram (s : State) (x : Tab Byte) : (s.setFlash x).dram = s.dram := (rfl)
@[simp] theorem State.setFlash_tcm (s : State) (x : Tab Byte) : (s.setFlash x).tcm = s.tcm := (rfl)
@[simp] theorem State.setFlash_freeCtr (s : State) (x : Tab Byte) : (s.setFlash x).freeCtr = s.freeCtr := (rfl)
@[simp] theorem State.setFlash_out (s : State) (x : Tab Byte) : (s.setFlash x).out = s.out := (rfl)
@[simp] theorem State.setFlash_pending (s : State) (x : Tab Byte) : (s.setFlash x).pending = s.pending := (rfl)

@[simp] theorem State.setTwn_twn (s : State) (x : TwinState) : (s.setTwn x).twn = x := (rfl)
@[simp] theorem State.setTwn_dev (s : State) (x : TwinState) : (s.setTwn x).dev = s.dev := (rfl)
@[simp] theorem State.setTwn_now (s : State) (x : TwinState) : (s.setTwn x).now = s.now := (rfl)
@[simp] theorem State.setTwn_regs (s : State) (x : TwinState) : (s.setTwn x).regs = s.regs := (rfl)
@[simp] theorem State.setTwn_snap (s : State) (x : TwinState) : (s.setTwn x).snap = s.snap := (rfl)
@[simp] theorem State.setTwn_pins (s : State) (x : TwinState) : (s.setTwn x).pins = s.pins := (rfl)
@[simp] theorem State.setTwn_ctl (s : State) (x : TwinState) : (s.setTwn x).ctl = s.ctl := (rfl)
@[simp] theorem State.setTwn_boot (s : State) (x : TwinState) : (s.setTwn x).boot = s.boot := (rfl)
@[simp] theorem State.setTwn_power (s : State) (x : TwinState) : (s.setTwn x).power = s.power := (rfl)
@[simp] theorem State.setTwn_flt (s : State) (x : TwinState) : (s.setTwn x).flt = s.flt := (rfl)
@[simp] theorem State.setTwn_mnt (s : State) (x : TwinState) : (s.setTwn x).mnt = s.mnt := (rfl)
@[simp] theorem State.setTwn_life (s : State) (x : TwinState) : (s.setTwn x).life = s.life := (rfl)
@[simp] theorem State.setTwn_pcie (s : State) (x : TwinState) : (s.setTwn x).pcie = s.pcie := (rfl)
@[simp] theorem State.setTwn_card (s : State) (x : TwinState) : (s.setTwn x).card = s.card := (rfl)
@[simp] theorem State.setTwn_dma (s : State) (x : TwinState) : (s.setTwn x).dma = s.dma := (rfl)
@[simp] theorem State.setTwn_pwmbx (s : State) (x : TwinState) : (s.setTwn x).pwmbx = s.pwmbx := (rfl)
@[simp] theorem State.setTwn_flash (s : State) (x : TwinState) : (s.setTwn x).flash = s.flash := (rfl)
@[simp] theorem State.setTwn_ptp (s : State) (x : TwinState) : (s.setTwn x).ptp = s.ptp := (rfl)
@[simp] theorem State.setTwn_tmg (s : State) (x : TwinState) : (s.setTwn x).tmg = s.tmg := (rfl)
@[simp] theorem State.setTwn_syn (s : State) (x : TwinState) : (s.setTwn x).syn = s.syn := (rfl)
@[simp] theorem State.setTwn_cfg (s : State) (x : TwinState) : (s.setTwn x).cfg = s.cfg := (rfl)
@[simp] theorem State.setTwn_xpt (s : State) (x : TwinState) : (s.setTwn x).xpt = s.xpt := (rfl)
@[simp] theorem State.setTwn_lan (s : State) (x : TwinState) : (s.setTwn x).lan = s.lan := (rfl)
@[simp] theorem State.setTwn_eyeSec (s : State) (x : TwinState) : (s.setTwn x).eyeSec = s.eyeSec := (rfl)
@[simp] theorem State.setTwn_sdi (s : State) (x : TwinState) : (s.setTwn x).sdi = s.sdi := (rfl)
@[simp] theorem State.setTwn_streams (s : State) (x : TwinState) : (s.setTwn x).streams = s.streams := (rfl)
@[simp] theorem State.setTwn_fst (s : State) (x : TwinState) : (s.setTwn x).fst = s.fst := (rfl)
@[simp] theorem State.setTwn_cmp (s : State) (x : TwinState) : (s.setTwn x).cmp = s.cmp := (rfl)
@[simp] theorem State.setTwn_lin (s : State) (x : TwinState) : (s.setTwn x).lin = s.lin := (rfl)
@[simp] theorem State.setTwn_tables (s : State) (x : TwinState) : (s.setTwn x).tables = s.tables := (rfl)
@[simp] theorem State.setTwn_aud (s : State) (x : TwinState) : (s.setTwn x).aud = s.aud := (rfl)
@[simp] theorem State.setTwn_mac (s : State) (x : TwinState) : (s.setTwn x).mac = s.mac := (rfl)
@[simp] theorem State.setTwn_med (s : State) (x : TwinState) : (s.setTwn x).med = s.med := (rfl)
@[simp] theorem State.setTwn_win (s : State) (x : TwinState) : (s.setTwn x).win = s.win := (rfl)
@[simp] theorem State.setTwn_rows (s : State) (x : TwinState) : (s.setTwn x).rows = s.rows := (rfl)
@[simp] theorem State.setTwn_drc (s : State) (x : TwinState) : (s.setTwn x).drc = s.drc := (rfl)
@[simp] theorem State.setTwn_prot (s : State) (x : TwinState) : (s.setTwn x).prot = s.prot := (rfl)
@[simp] theorem State.setTwn_fresh (s : State) (x : TwinState) : (s.setTwn x).fresh = s.fresh := (rfl)
@[simp] theorem State.setTwn_dram (s : State) (x : TwinState) : (s.setTwn x).dram = s.dram := (rfl)
@[simp] theorem State.setTwn_tcm (s : State) (x : TwinState) : (s.setTwn x).tcm = s.tcm := (rfl)
@[simp] theorem State.setTwn_freeCtr (s : State) (x : TwinState) : (s.setTwn x).freeCtr = s.freeCtr := (rfl)
@[simp] theorem State.setTwn_out (s : State) (x : TwinState) : (s.setTwn x).out = s.out := (rfl)
@[simp] theorem State.setTwn_pending (s : State) (x : TwinState) : (s.setTwn x).pending = s.pending := (rfl)

@[simp] theorem State.setPtp_ptp (s : State) (x : PtpState) : (s.setPtp x).ptp = x := (rfl)
@[simp] theorem State.setPtp_dev (s : State) (x : PtpState) : (s.setPtp x).dev = s.dev := (rfl)
@[simp] theorem State.setPtp_now (s : State) (x : PtpState) : (s.setPtp x).now = s.now := (rfl)
@[simp] theorem State.setPtp_regs (s : State) (x : PtpState) : (s.setPtp x).regs = s.regs := (rfl)
@[simp] theorem State.setPtp_snap (s : State) (x : PtpState) : (s.setPtp x).snap = s.snap := (rfl)
@[simp] theorem State.setPtp_pins (s : State) (x : PtpState) : (s.setPtp x).pins = s.pins := (rfl)
@[simp] theorem State.setPtp_ctl (s : State) (x : PtpState) : (s.setPtp x).ctl = s.ctl := (rfl)
@[simp] theorem State.setPtp_boot (s : State) (x : PtpState) : (s.setPtp x).boot = s.boot := (rfl)
@[simp] theorem State.setPtp_power (s : State) (x : PtpState) : (s.setPtp x).power = s.power := (rfl)
@[simp] theorem State.setPtp_flt (s : State) (x : PtpState) : (s.setPtp x).flt = s.flt := (rfl)
@[simp] theorem State.setPtp_mnt (s : State) (x : PtpState) : (s.setPtp x).mnt = s.mnt := (rfl)
@[simp] theorem State.setPtp_life (s : State) (x : PtpState) : (s.setPtp x).life = s.life := (rfl)
@[simp] theorem State.setPtp_pcie (s : State) (x : PtpState) : (s.setPtp x).pcie = s.pcie := (rfl)
@[simp] theorem State.setPtp_card (s : State) (x : PtpState) : (s.setPtp x).card = s.card := (rfl)
@[simp] theorem State.setPtp_dma (s : State) (x : PtpState) : (s.setPtp x).dma = s.dma := (rfl)
@[simp] theorem State.setPtp_pwmbx (s : State) (x : PtpState) : (s.setPtp x).pwmbx = s.pwmbx := (rfl)
@[simp] theorem State.setPtp_flash (s : State) (x : PtpState) : (s.setPtp x).flash = s.flash := (rfl)
@[simp] theorem State.setPtp_twn (s : State) (x : PtpState) : (s.setPtp x).twn = s.twn := (rfl)
@[simp] theorem State.setPtp_tmg (s : State) (x : PtpState) : (s.setPtp x).tmg = s.tmg := (rfl)
@[simp] theorem State.setPtp_syn (s : State) (x : PtpState) : (s.setPtp x).syn = s.syn := (rfl)
@[simp] theorem State.setPtp_cfg (s : State) (x : PtpState) : (s.setPtp x).cfg = s.cfg := (rfl)
@[simp] theorem State.setPtp_xpt (s : State) (x : PtpState) : (s.setPtp x).xpt = s.xpt := (rfl)
@[simp] theorem State.setPtp_lan (s : State) (x : PtpState) : (s.setPtp x).lan = s.lan := (rfl)
@[simp] theorem State.setPtp_eyeSec (s : State) (x : PtpState) : (s.setPtp x).eyeSec = s.eyeSec := (rfl)
@[simp] theorem State.setPtp_sdi (s : State) (x : PtpState) : (s.setPtp x).sdi = s.sdi := (rfl)
@[simp] theorem State.setPtp_streams (s : State) (x : PtpState) : (s.setPtp x).streams = s.streams := (rfl)
@[simp] theorem State.setPtp_fst (s : State) (x : PtpState) : (s.setPtp x).fst = s.fst := (rfl)
@[simp] theorem State.setPtp_cmp (s : State) (x : PtpState) : (s.setPtp x).cmp = s.cmp := (rfl)
@[simp] theorem State.setPtp_lin (s : State) (x : PtpState) : (s.setPtp x).lin = s.lin := (rfl)
@[simp] theorem State.setPtp_tables (s : State) (x : PtpState) : (s.setPtp x).tables = s.tables := (rfl)
@[simp] theorem State.setPtp_aud (s : State) (x : PtpState) : (s.setPtp x).aud = s.aud := (rfl)
@[simp] theorem State.setPtp_mac (s : State) (x : PtpState) : (s.setPtp x).mac = s.mac := (rfl)
@[simp] theorem State.setPtp_med (s : State) (x : PtpState) : (s.setPtp x).med = s.med := (rfl)
@[simp] theorem State.setPtp_win (s : State) (x : PtpState) : (s.setPtp x).win = s.win := (rfl)
@[simp] theorem State.setPtp_rows (s : State) (x : PtpState) : (s.setPtp x).rows = s.rows := (rfl)
@[simp] theorem State.setPtp_drc (s : State) (x : PtpState) : (s.setPtp x).drc = s.drc := (rfl)
@[simp] theorem State.setPtp_prot (s : State) (x : PtpState) : (s.setPtp x).prot = s.prot := (rfl)
@[simp] theorem State.setPtp_fresh (s : State) (x : PtpState) : (s.setPtp x).fresh = s.fresh := (rfl)
@[simp] theorem State.setPtp_dram (s : State) (x : PtpState) : (s.setPtp x).dram = s.dram := (rfl)
@[simp] theorem State.setPtp_tcm (s : State) (x : PtpState) : (s.setPtp x).tcm = s.tcm := (rfl)
@[simp] theorem State.setPtp_freeCtr (s : State) (x : PtpState) : (s.setPtp x).freeCtr = s.freeCtr := (rfl)
@[simp] theorem State.setPtp_out (s : State) (x : PtpState) : (s.setPtp x).out = s.out := (rfl)
@[simp] theorem State.setPtp_pending (s : State) (x : PtpState) : (s.setPtp x).pending = s.pending := (rfl)

@[simp] theorem State.setTmg_tmg (s : State) (x : Tab Group) : (s.setTmg x).tmg = x := (rfl)
@[simp] theorem State.setTmg_dev (s : State) (x : Tab Group) : (s.setTmg x).dev = s.dev := (rfl)
@[simp] theorem State.setTmg_now (s : State) (x : Tab Group) : (s.setTmg x).now = s.now := (rfl)
@[simp] theorem State.setTmg_regs (s : State) (x : Tab Group) : (s.setTmg x).regs = s.regs := (rfl)
@[simp] theorem State.setTmg_snap (s : State) (x : Tab Group) : (s.setTmg x).snap = s.snap := (rfl)
@[simp] theorem State.setTmg_pins (s : State) (x : Tab Group) : (s.setTmg x).pins = s.pins := (rfl)
@[simp] theorem State.setTmg_ctl (s : State) (x : Tab Group) : (s.setTmg x).ctl = s.ctl := (rfl)
@[simp] theorem State.setTmg_boot (s : State) (x : Tab Group) : (s.setTmg x).boot = s.boot := (rfl)
@[simp] theorem State.setTmg_power (s : State) (x : Tab Group) : (s.setTmg x).power = s.power := (rfl)
@[simp] theorem State.setTmg_flt (s : State) (x : Tab Group) : (s.setTmg x).flt = s.flt := (rfl)
@[simp] theorem State.setTmg_mnt (s : State) (x : Tab Group) : (s.setTmg x).mnt = s.mnt := (rfl)
@[simp] theorem State.setTmg_life (s : State) (x : Tab Group) : (s.setTmg x).life = s.life := (rfl)
@[simp] theorem State.setTmg_pcie (s : State) (x : Tab Group) : (s.setTmg x).pcie = s.pcie := (rfl)
@[simp] theorem State.setTmg_card (s : State) (x : Tab Group) : (s.setTmg x).card = s.card := (rfl)
@[simp] theorem State.setTmg_dma (s : State) (x : Tab Group) : (s.setTmg x).dma = s.dma := (rfl)
@[simp] theorem State.setTmg_pwmbx (s : State) (x : Tab Group) : (s.setTmg x).pwmbx = s.pwmbx := (rfl)
@[simp] theorem State.setTmg_flash (s : State) (x : Tab Group) : (s.setTmg x).flash = s.flash := (rfl)
@[simp] theorem State.setTmg_twn (s : State) (x : Tab Group) : (s.setTmg x).twn = s.twn := (rfl)
@[simp] theorem State.setTmg_ptp (s : State) (x : Tab Group) : (s.setTmg x).ptp = s.ptp := (rfl)
@[simp] theorem State.setTmg_syn (s : State) (x : Tab Group) : (s.setTmg x).syn = s.syn := (rfl)
@[simp] theorem State.setTmg_cfg (s : State) (x : Tab Group) : (s.setTmg x).cfg = s.cfg := (rfl)
@[simp] theorem State.setTmg_xpt (s : State) (x : Tab Group) : (s.setTmg x).xpt = s.xpt := (rfl)
@[simp] theorem State.setTmg_lan (s : State) (x : Tab Group) : (s.setTmg x).lan = s.lan := (rfl)
@[simp] theorem State.setTmg_eyeSec (s : State) (x : Tab Group) : (s.setTmg x).eyeSec = s.eyeSec := (rfl)
@[simp] theorem State.setTmg_sdi (s : State) (x : Tab Group) : (s.setTmg x).sdi = s.sdi := (rfl)
@[simp] theorem State.setTmg_streams (s : State) (x : Tab Group) : (s.setTmg x).streams = s.streams := (rfl)
@[simp] theorem State.setTmg_fst (s : State) (x : Tab Group) : (s.setTmg x).fst = s.fst := (rfl)
@[simp] theorem State.setTmg_cmp (s : State) (x : Tab Group) : (s.setTmg x).cmp = s.cmp := (rfl)
@[simp] theorem State.setTmg_lin (s : State) (x : Tab Group) : (s.setTmg x).lin = s.lin := (rfl)
@[simp] theorem State.setTmg_tables (s : State) (x : Tab Group) : (s.setTmg x).tables = s.tables := (rfl)
@[simp] theorem State.setTmg_aud (s : State) (x : Tab Group) : (s.setTmg x).aud = s.aud := (rfl)
@[simp] theorem State.setTmg_mac (s : State) (x : Tab Group) : (s.setTmg x).mac = s.mac := (rfl)
@[simp] theorem State.setTmg_med (s : State) (x : Tab Group) : (s.setTmg x).med = s.med := (rfl)
@[simp] theorem State.setTmg_win (s : State) (x : Tab Group) : (s.setTmg x).win = s.win := (rfl)
@[simp] theorem State.setTmg_rows (s : State) (x : Tab Group) : (s.setTmg x).rows = s.rows := (rfl)
@[simp] theorem State.setTmg_drc (s : State) (x : Tab Group) : (s.setTmg x).drc = s.drc := (rfl)
@[simp] theorem State.setTmg_prot (s : State) (x : Tab Group) : (s.setTmg x).prot = s.prot := (rfl)
@[simp] theorem State.setTmg_fresh (s : State) (x : Tab Group) : (s.setTmg x).fresh = s.fresh := (rfl)
@[simp] theorem State.setTmg_dram (s : State) (x : Tab Group) : (s.setTmg x).dram = s.dram := (rfl)
@[simp] theorem State.setTmg_tcm (s : State) (x : Tab Group) : (s.setTmg x).tcm = s.tcm := (rfl)
@[simp] theorem State.setTmg_freeCtr (s : State) (x : Tab Group) : (s.setTmg x).freeCtr = s.freeCtr := (rfl)
@[simp] theorem State.setTmg_out (s : State) (x : Tab Group) : (s.setTmg x).out = s.out := (rfl)
@[simp] theorem State.setTmg_pending (s : State) (x : Tab Group) : (s.setTmg x).pending = s.pending := (rfl)

@[simp] theorem State.setSyn_syn (s : State) (x : SynthState) : (s.setSyn x).syn = x := (rfl)
@[simp] theorem State.setSyn_dev (s : State) (x : SynthState) : (s.setSyn x).dev = s.dev := (rfl)
@[simp] theorem State.setSyn_now (s : State) (x : SynthState) : (s.setSyn x).now = s.now := (rfl)
@[simp] theorem State.setSyn_regs (s : State) (x : SynthState) : (s.setSyn x).regs = s.regs := (rfl)
@[simp] theorem State.setSyn_snap (s : State) (x : SynthState) : (s.setSyn x).snap = s.snap := (rfl)
@[simp] theorem State.setSyn_pins (s : State) (x : SynthState) : (s.setSyn x).pins = s.pins := (rfl)
@[simp] theorem State.setSyn_ctl (s : State) (x : SynthState) : (s.setSyn x).ctl = s.ctl := (rfl)
@[simp] theorem State.setSyn_boot (s : State) (x : SynthState) : (s.setSyn x).boot = s.boot := (rfl)
@[simp] theorem State.setSyn_power (s : State) (x : SynthState) : (s.setSyn x).power = s.power := (rfl)
@[simp] theorem State.setSyn_flt (s : State) (x : SynthState) : (s.setSyn x).flt = s.flt := (rfl)
@[simp] theorem State.setSyn_mnt (s : State) (x : SynthState) : (s.setSyn x).mnt = s.mnt := (rfl)
@[simp] theorem State.setSyn_life (s : State) (x : SynthState) : (s.setSyn x).life = s.life := (rfl)
@[simp] theorem State.setSyn_pcie (s : State) (x : SynthState) : (s.setSyn x).pcie = s.pcie := (rfl)
@[simp] theorem State.setSyn_card (s : State) (x : SynthState) : (s.setSyn x).card = s.card := (rfl)
@[simp] theorem State.setSyn_dma (s : State) (x : SynthState) : (s.setSyn x).dma = s.dma := (rfl)
@[simp] theorem State.setSyn_pwmbx (s : State) (x : SynthState) : (s.setSyn x).pwmbx = s.pwmbx := (rfl)
@[simp] theorem State.setSyn_flash (s : State) (x : SynthState) : (s.setSyn x).flash = s.flash := (rfl)
@[simp] theorem State.setSyn_twn (s : State) (x : SynthState) : (s.setSyn x).twn = s.twn := (rfl)
@[simp] theorem State.setSyn_ptp (s : State) (x : SynthState) : (s.setSyn x).ptp = s.ptp := (rfl)
@[simp] theorem State.setSyn_tmg (s : State) (x : SynthState) : (s.setSyn x).tmg = s.tmg := (rfl)
@[simp] theorem State.setSyn_cfg (s : State) (x : SynthState) : (s.setSyn x).cfg = s.cfg := (rfl)
@[simp] theorem State.setSyn_xpt (s : State) (x : SynthState) : (s.setSyn x).xpt = s.xpt := (rfl)
@[simp] theorem State.setSyn_lan (s : State) (x : SynthState) : (s.setSyn x).lan = s.lan := (rfl)
@[simp] theorem State.setSyn_eyeSec (s : State) (x : SynthState) : (s.setSyn x).eyeSec = s.eyeSec := (rfl)
@[simp] theorem State.setSyn_sdi (s : State) (x : SynthState) : (s.setSyn x).sdi = s.sdi := (rfl)
@[simp] theorem State.setSyn_streams (s : State) (x : SynthState) : (s.setSyn x).streams = s.streams := (rfl)
@[simp] theorem State.setSyn_fst (s : State) (x : SynthState) : (s.setSyn x).fst = s.fst := (rfl)
@[simp] theorem State.setSyn_cmp (s : State) (x : SynthState) : (s.setSyn x).cmp = s.cmp := (rfl)
@[simp] theorem State.setSyn_lin (s : State) (x : SynthState) : (s.setSyn x).lin = s.lin := (rfl)
@[simp] theorem State.setSyn_tables (s : State) (x : SynthState) : (s.setSyn x).tables = s.tables := (rfl)
@[simp] theorem State.setSyn_aud (s : State) (x : SynthState) : (s.setSyn x).aud = s.aud := (rfl)
@[simp] theorem State.setSyn_mac (s : State) (x : SynthState) : (s.setSyn x).mac = s.mac := (rfl)
@[simp] theorem State.setSyn_med (s : State) (x : SynthState) : (s.setSyn x).med = s.med := (rfl)
@[simp] theorem State.setSyn_win (s : State) (x : SynthState) : (s.setSyn x).win = s.win := (rfl)
@[simp] theorem State.setSyn_rows (s : State) (x : SynthState) : (s.setSyn x).rows = s.rows := (rfl)
@[simp] theorem State.setSyn_drc (s : State) (x : SynthState) : (s.setSyn x).drc = s.drc := (rfl)
@[simp] theorem State.setSyn_prot (s : State) (x : SynthState) : (s.setSyn x).prot = s.prot := (rfl)
@[simp] theorem State.setSyn_fresh (s : State) (x : SynthState) : (s.setSyn x).fresh = s.fresh := (rfl)
@[simp] theorem State.setSyn_dram (s : State) (x : SynthState) : (s.setSyn x).dram = s.dram := (rfl)
@[simp] theorem State.setSyn_tcm (s : State) (x : SynthState) : (s.setSyn x).tcm = s.tcm := (rfl)
@[simp] theorem State.setSyn_freeCtr (s : State) (x : SynthState) : (s.setSyn x).freeCtr = s.freeCtr := (rfl)
@[simp] theorem State.setSyn_out (s : State) (x : SynthState) : (s.setSyn x).out = s.out := (rfl)
@[simp] theorem State.setSyn_pending (s : State) (x : SynthState) : (s.setSyn x).pending = s.pending := (rfl)

@[simp] theorem State.setCfg_cfg (s : State) (x : ImageCfg) : (s.setCfg x).cfg = x := (rfl)
@[simp] theorem State.setCfg_dev (s : State) (x : ImageCfg) : (s.setCfg x).dev = s.dev := (rfl)
@[simp] theorem State.setCfg_now (s : State) (x : ImageCfg) : (s.setCfg x).now = s.now := (rfl)
@[simp] theorem State.setCfg_regs (s : State) (x : ImageCfg) : (s.setCfg x).regs = s.regs := (rfl)
@[simp] theorem State.setCfg_snap (s : State) (x : ImageCfg) : (s.setCfg x).snap = s.snap := (rfl)
@[simp] theorem State.setCfg_pins (s : State) (x : ImageCfg) : (s.setCfg x).pins = s.pins := (rfl)
@[simp] theorem State.setCfg_ctl (s : State) (x : ImageCfg) : (s.setCfg x).ctl = s.ctl := (rfl)
@[simp] theorem State.setCfg_boot (s : State) (x : ImageCfg) : (s.setCfg x).boot = s.boot := (rfl)
@[simp] theorem State.setCfg_power (s : State) (x : ImageCfg) : (s.setCfg x).power = s.power := (rfl)
@[simp] theorem State.setCfg_flt (s : State) (x : ImageCfg) : (s.setCfg x).flt = s.flt := (rfl)
@[simp] theorem State.setCfg_mnt (s : State) (x : ImageCfg) : (s.setCfg x).mnt = s.mnt := (rfl)
@[simp] theorem State.setCfg_life (s : State) (x : ImageCfg) : (s.setCfg x).life = s.life := (rfl)
@[simp] theorem State.setCfg_pcie (s : State) (x : ImageCfg) : (s.setCfg x).pcie = s.pcie := (rfl)
@[simp] theorem State.setCfg_card (s : State) (x : ImageCfg) : (s.setCfg x).card = s.card := (rfl)
@[simp] theorem State.setCfg_dma (s : State) (x : ImageCfg) : (s.setCfg x).dma = s.dma := (rfl)
@[simp] theorem State.setCfg_pwmbx (s : State) (x : ImageCfg) : (s.setCfg x).pwmbx = s.pwmbx := (rfl)
@[simp] theorem State.setCfg_flash (s : State) (x : ImageCfg) : (s.setCfg x).flash = s.flash := (rfl)
@[simp] theorem State.setCfg_twn (s : State) (x : ImageCfg) : (s.setCfg x).twn = s.twn := (rfl)
@[simp] theorem State.setCfg_ptp (s : State) (x : ImageCfg) : (s.setCfg x).ptp = s.ptp := (rfl)
@[simp] theorem State.setCfg_tmg (s : State) (x : ImageCfg) : (s.setCfg x).tmg = s.tmg := (rfl)
@[simp] theorem State.setCfg_syn (s : State) (x : ImageCfg) : (s.setCfg x).syn = s.syn := (rfl)
@[simp] theorem State.setCfg_xpt (s : State) (x : ImageCfg) : (s.setCfg x).xpt = s.xpt := (rfl)
@[simp] theorem State.setCfg_lan (s : State) (x : ImageCfg) : (s.setCfg x).lan = s.lan := (rfl)
@[simp] theorem State.setCfg_eyeSec (s : State) (x : ImageCfg) : (s.setCfg x).eyeSec = s.eyeSec := (rfl)
@[simp] theorem State.setCfg_sdi (s : State) (x : ImageCfg) : (s.setCfg x).sdi = s.sdi := (rfl)
@[simp] theorem State.setCfg_streams (s : State) (x : ImageCfg) : (s.setCfg x).streams = s.streams := (rfl)
@[simp] theorem State.setCfg_fst (s : State) (x : ImageCfg) : (s.setCfg x).fst = s.fst := (rfl)
@[simp] theorem State.setCfg_cmp (s : State) (x : ImageCfg) : (s.setCfg x).cmp = s.cmp := (rfl)
@[simp] theorem State.setCfg_lin (s : State) (x : ImageCfg) : (s.setCfg x).lin = s.lin := (rfl)
@[simp] theorem State.setCfg_tables (s : State) (x : ImageCfg) : (s.setCfg x).tables = s.tables := (rfl)
@[simp] theorem State.setCfg_aud (s : State) (x : ImageCfg) : (s.setCfg x).aud = s.aud := (rfl)
@[simp] theorem State.setCfg_mac (s : State) (x : ImageCfg) : (s.setCfg x).mac = s.mac := (rfl)
@[simp] theorem State.setCfg_med (s : State) (x : ImageCfg) : (s.setCfg x).med = s.med := (rfl)
@[simp] theorem State.setCfg_win (s : State) (x : ImageCfg) : (s.setCfg x).win = s.win := (rfl)
@[simp] theorem State.setCfg_rows (s : State) (x : ImageCfg) : (s.setCfg x).rows = s.rows := (rfl)
@[simp] theorem State.setCfg_drc (s : State) (x : ImageCfg) : (s.setCfg x).drc = s.drc := (rfl)
@[simp] theorem State.setCfg_prot (s : State) (x : ImageCfg) : (s.setCfg x).prot = s.prot := (rfl)
@[simp] theorem State.setCfg_fresh (s : State) (x : ImageCfg) : (s.setCfg x).fresh = s.fresh := (rfl)
@[simp] theorem State.setCfg_dram (s : State) (x : ImageCfg) : (s.setCfg x).dram = s.dram := (rfl)
@[simp] theorem State.setCfg_tcm (s : State) (x : ImageCfg) : (s.setCfg x).tcm = s.tcm := (rfl)
@[simp] theorem State.setCfg_freeCtr (s : State) (x : ImageCfg) : (s.setCfg x).freeCtr = s.freeCtr := (rfl)
@[simp] theorem State.setCfg_out (s : State) (x : ImageCfg) : (s.setCfg x).out = s.out := (rfl)
@[simp] theorem State.setCfg_pending (s : State) (x : ImageCfg) : (s.setCfg x).pending = s.pending := (rfl)

@[simp] theorem State.setXpt_xpt (s : State) (x : XptState) : (s.setXpt x).xpt = x := (rfl)
@[simp] theorem State.setXpt_dev (s : State) (x : XptState) : (s.setXpt x).dev = s.dev := (rfl)
@[simp] theorem State.setXpt_now (s : State) (x : XptState) : (s.setXpt x).now = s.now := (rfl)
@[simp] theorem State.setXpt_regs (s : State) (x : XptState) : (s.setXpt x).regs = s.regs := (rfl)
@[simp] theorem State.setXpt_snap (s : State) (x : XptState) : (s.setXpt x).snap = s.snap := (rfl)
@[simp] theorem State.setXpt_pins (s : State) (x : XptState) : (s.setXpt x).pins = s.pins := (rfl)
@[simp] theorem State.setXpt_ctl (s : State) (x : XptState) : (s.setXpt x).ctl = s.ctl := (rfl)
@[simp] theorem State.setXpt_boot (s : State) (x : XptState) : (s.setXpt x).boot = s.boot := (rfl)
@[simp] theorem State.setXpt_power (s : State) (x : XptState) : (s.setXpt x).power = s.power := (rfl)
@[simp] theorem State.setXpt_flt (s : State) (x : XptState) : (s.setXpt x).flt = s.flt := (rfl)
@[simp] theorem State.setXpt_mnt (s : State) (x : XptState) : (s.setXpt x).mnt = s.mnt := (rfl)
@[simp] theorem State.setXpt_life (s : State) (x : XptState) : (s.setXpt x).life = s.life := (rfl)
@[simp] theorem State.setXpt_pcie (s : State) (x : XptState) : (s.setXpt x).pcie = s.pcie := (rfl)
@[simp] theorem State.setXpt_card (s : State) (x : XptState) : (s.setXpt x).card = s.card := (rfl)
@[simp] theorem State.setXpt_dma (s : State) (x : XptState) : (s.setXpt x).dma = s.dma := (rfl)
@[simp] theorem State.setXpt_pwmbx (s : State) (x : XptState) : (s.setXpt x).pwmbx = s.pwmbx := (rfl)
@[simp] theorem State.setXpt_flash (s : State) (x : XptState) : (s.setXpt x).flash = s.flash := (rfl)
@[simp] theorem State.setXpt_twn (s : State) (x : XptState) : (s.setXpt x).twn = s.twn := (rfl)
@[simp] theorem State.setXpt_ptp (s : State) (x : XptState) : (s.setXpt x).ptp = s.ptp := (rfl)
@[simp] theorem State.setXpt_tmg (s : State) (x : XptState) : (s.setXpt x).tmg = s.tmg := (rfl)
@[simp] theorem State.setXpt_syn (s : State) (x : XptState) : (s.setXpt x).syn = s.syn := (rfl)
@[simp] theorem State.setXpt_cfg (s : State) (x : XptState) : (s.setXpt x).cfg = s.cfg := (rfl)
@[simp] theorem State.setXpt_lan (s : State) (x : XptState) : (s.setXpt x).lan = s.lan := (rfl)
@[simp] theorem State.setXpt_eyeSec (s : State) (x : XptState) : (s.setXpt x).eyeSec = s.eyeSec := (rfl)
@[simp] theorem State.setXpt_sdi (s : State) (x : XptState) : (s.setXpt x).sdi = s.sdi := (rfl)
@[simp] theorem State.setXpt_streams (s : State) (x : XptState) : (s.setXpt x).streams = s.streams := (rfl)
@[simp] theorem State.setXpt_fst (s : State) (x : XptState) : (s.setXpt x).fst = s.fst := (rfl)
@[simp] theorem State.setXpt_cmp (s : State) (x : XptState) : (s.setXpt x).cmp = s.cmp := (rfl)
@[simp] theorem State.setXpt_lin (s : State) (x : XptState) : (s.setXpt x).lin = s.lin := (rfl)
@[simp] theorem State.setXpt_tables (s : State) (x : XptState) : (s.setXpt x).tables = s.tables := (rfl)
@[simp] theorem State.setXpt_aud (s : State) (x : XptState) : (s.setXpt x).aud = s.aud := (rfl)
@[simp] theorem State.setXpt_mac (s : State) (x : XptState) : (s.setXpt x).mac = s.mac := (rfl)
@[simp] theorem State.setXpt_med (s : State) (x : XptState) : (s.setXpt x).med = s.med := (rfl)
@[simp] theorem State.setXpt_win (s : State) (x : XptState) : (s.setXpt x).win = s.win := (rfl)
@[simp] theorem State.setXpt_rows (s : State) (x : XptState) : (s.setXpt x).rows = s.rows := (rfl)
@[simp] theorem State.setXpt_drc (s : State) (x : XptState) : (s.setXpt x).drc = s.drc := (rfl)
@[simp] theorem State.setXpt_prot (s : State) (x : XptState) : (s.setXpt x).prot = s.prot := (rfl)
@[simp] theorem State.setXpt_fresh (s : State) (x : XptState) : (s.setXpt x).fresh = s.fresh := (rfl)
@[simp] theorem State.setXpt_dram (s : State) (x : XptState) : (s.setXpt x).dram = s.dram := (rfl)
@[simp] theorem State.setXpt_tcm (s : State) (x : XptState) : (s.setXpt x).tcm = s.tcm := (rfl)
@[simp] theorem State.setXpt_freeCtr (s : State) (x : XptState) : (s.setXpt x).freeCtr = s.freeCtr := (rfl)
@[simp] theorem State.setXpt_out (s : State) (x : XptState) : (s.setXpt x).out = s.out := (rfl)
@[simp] theorem State.setXpt_pending (s : State) (x : XptState) : (s.setXpt x).pending = s.pending := (rfl)

@[simp] theorem State.setLan_lan (s : State) (x : Tab LaneRun) : (s.setLan x).lan = x := (rfl)
@[simp] theorem State.setLan_dev (s : State) (x : Tab LaneRun) : (s.setLan x).dev = s.dev := (rfl)
@[simp] theorem State.setLan_now (s : State) (x : Tab LaneRun) : (s.setLan x).now = s.now := (rfl)
@[simp] theorem State.setLan_regs (s : State) (x : Tab LaneRun) : (s.setLan x).regs = s.regs := (rfl)
@[simp] theorem State.setLan_snap (s : State) (x : Tab LaneRun) : (s.setLan x).snap = s.snap := (rfl)
@[simp] theorem State.setLan_pins (s : State) (x : Tab LaneRun) : (s.setLan x).pins = s.pins := (rfl)
@[simp] theorem State.setLan_ctl (s : State) (x : Tab LaneRun) : (s.setLan x).ctl = s.ctl := (rfl)
@[simp] theorem State.setLan_boot (s : State) (x : Tab LaneRun) : (s.setLan x).boot = s.boot := (rfl)
@[simp] theorem State.setLan_power (s : State) (x : Tab LaneRun) : (s.setLan x).power = s.power := (rfl)
@[simp] theorem State.setLan_flt (s : State) (x : Tab LaneRun) : (s.setLan x).flt = s.flt := (rfl)
@[simp] theorem State.setLan_mnt (s : State) (x : Tab LaneRun) : (s.setLan x).mnt = s.mnt := (rfl)
@[simp] theorem State.setLan_life (s : State) (x : Tab LaneRun) : (s.setLan x).life = s.life := (rfl)
@[simp] theorem State.setLan_pcie (s : State) (x : Tab LaneRun) : (s.setLan x).pcie = s.pcie := (rfl)
@[simp] theorem State.setLan_card (s : State) (x : Tab LaneRun) : (s.setLan x).card = s.card := (rfl)
@[simp] theorem State.setLan_dma (s : State) (x : Tab LaneRun) : (s.setLan x).dma = s.dma := (rfl)
@[simp] theorem State.setLan_pwmbx (s : State) (x : Tab LaneRun) : (s.setLan x).pwmbx = s.pwmbx := (rfl)
@[simp] theorem State.setLan_flash (s : State) (x : Tab LaneRun) : (s.setLan x).flash = s.flash := (rfl)
@[simp] theorem State.setLan_twn (s : State) (x : Tab LaneRun) : (s.setLan x).twn = s.twn := (rfl)
@[simp] theorem State.setLan_ptp (s : State) (x : Tab LaneRun) : (s.setLan x).ptp = s.ptp := (rfl)
@[simp] theorem State.setLan_tmg (s : State) (x : Tab LaneRun) : (s.setLan x).tmg = s.tmg := (rfl)
@[simp] theorem State.setLan_syn (s : State) (x : Tab LaneRun) : (s.setLan x).syn = s.syn := (rfl)
@[simp] theorem State.setLan_cfg (s : State) (x : Tab LaneRun) : (s.setLan x).cfg = s.cfg := (rfl)
@[simp] theorem State.setLan_xpt (s : State) (x : Tab LaneRun) : (s.setLan x).xpt = s.xpt := (rfl)
@[simp] theorem State.setLan_eyeSec (s : State) (x : Tab LaneRun) : (s.setLan x).eyeSec = s.eyeSec := (rfl)
@[simp] theorem State.setLan_sdi (s : State) (x : Tab LaneRun) : (s.setLan x).sdi = s.sdi := (rfl)
@[simp] theorem State.setLan_streams (s : State) (x : Tab LaneRun) : (s.setLan x).streams = s.streams := (rfl)
@[simp] theorem State.setLan_fst (s : State) (x : Tab LaneRun) : (s.setLan x).fst = s.fst := (rfl)
@[simp] theorem State.setLan_cmp (s : State) (x : Tab LaneRun) : (s.setLan x).cmp = s.cmp := (rfl)
@[simp] theorem State.setLan_lin (s : State) (x : Tab LaneRun) : (s.setLan x).lin = s.lin := (rfl)
@[simp] theorem State.setLan_tables (s : State) (x : Tab LaneRun) : (s.setLan x).tables = s.tables := (rfl)
@[simp] theorem State.setLan_aud (s : State) (x : Tab LaneRun) : (s.setLan x).aud = s.aud := (rfl)
@[simp] theorem State.setLan_mac (s : State) (x : Tab LaneRun) : (s.setLan x).mac = s.mac := (rfl)
@[simp] theorem State.setLan_med (s : State) (x : Tab LaneRun) : (s.setLan x).med = s.med := (rfl)
@[simp] theorem State.setLan_win (s : State) (x : Tab LaneRun) : (s.setLan x).win = s.win := (rfl)
@[simp] theorem State.setLan_rows (s : State) (x : Tab LaneRun) : (s.setLan x).rows = s.rows := (rfl)
@[simp] theorem State.setLan_drc (s : State) (x : Tab LaneRun) : (s.setLan x).drc = s.drc := (rfl)
@[simp] theorem State.setLan_prot (s : State) (x : Tab LaneRun) : (s.setLan x).prot = s.prot := (rfl)
@[simp] theorem State.setLan_fresh (s : State) (x : Tab LaneRun) : (s.setLan x).fresh = s.fresh := (rfl)
@[simp] theorem State.setLan_dram (s : State) (x : Tab LaneRun) : (s.setLan x).dram = s.dram := (rfl)
@[simp] theorem State.setLan_tcm (s : State) (x : Tab LaneRun) : (s.setLan x).tcm = s.tcm := (rfl)
@[simp] theorem State.setLan_freeCtr (s : State) (x : Tab LaneRun) : (s.setLan x).freeCtr = s.freeCtr := (rfl)
@[simp] theorem State.setLan_out (s : State) (x : Tab LaneRun) : (s.setLan x).out = s.out := (rfl)
@[simp] theorem State.setLan_pending (s : State) (x : Tab LaneRun) : (s.setLan x).pending = s.pending := (rfl)

@[simp] theorem State.setEyeSec_eyeSec (s : State) (x : Nat) : (s.setEyeSec x).eyeSec = x := (rfl)
@[simp] theorem State.setEyeSec_dev (s : State) (x : Nat) : (s.setEyeSec x).dev = s.dev := (rfl)
@[simp] theorem State.setEyeSec_now (s : State) (x : Nat) : (s.setEyeSec x).now = s.now := (rfl)
@[simp] theorem State.setEyeSec_regs (s : State) (x : Nat) : (s.setEyeSec x).regs = s.regs := (rfl)
@[simp] theorem State.setEyeSec_snap (s : State) (x : Nat) : (s.setEyeSec x).snap = s.snap := (rfl)
@[simp] theorem State.setEyeSec_pins (s : State) (x : Nat) : (s.setEyeSec x).pins = s.pins := (rfl)
@[simp] theorem State.setEyeSec_ctl (s : State) (x : Nat) : (s.setEyeSec x).ctl = s.ctl := (rfl)
@[simp] theorem State.setEyeSec_boot (s : State) (x : Nat) : (s.setEyeSec x).boot = s.boot := (rfl)
@[simp] theorem State.setEyeSec_power (s : State) (x : Nat) : (s.setEyeSec x).power = s.power := (rfl)
@[simp] theorem State.setEyeSec_flt (s : State) (x : Nat) : (s.setEyeSec x).flt = s.flt := (rfl)
@[simp] theorem State.setEyeSec_mnt (s : State) (x : Nat) : (s.setEyeSec x).mnt = s.mnt := (rfl)
@[simp] theorem State.setEyeSec_life (s : State) (x : Nat) : (s.setEyeSec x).life = s.life := (rfl)
@[simp] theorem State.setEyeSec_pcie (s : State) (x : Nat) : (s.setEyeSec x).pcie = s.pcie := (rfl)
@[simp] theorem State.setEyeSec_card (s : State) (x : Nat) : (s.setEyeSec x).card = s.card := (rfl)
@[simp] theorem State.setEyeSec_dma (s : State) (x : Nat) : (s.setEyeSec x).dma = s.dma := (rfl)
@[simp] theorem State.setEyeSec_pwmbx (s : State) (x : Nat) : (s.setEyeSec x).pwmbx = s.pwmbx := (rfl)
@[simp] theorem State.setEyeSec_flash (s : State) (x : Nat) : (s.setEyeSec x).flash = s.flash := (rfl)
@[simp] theorem State.setEyeSec_twn (s : State) (x : Nat) : (s.setEyeSec x).twn = s.twn := (rfl)
@[simp] theorem State.setEyeSec_ptp (s : State) (x : Nat) : (s.setEyeSec x).ptp = s.ptp := (rfl)
@[simp] theorem State.setEyeSec_tmg (s : State) (x : Nat) : (s.setEyeSec x).tmg = s.tmg := (rfl)
@[simp] theorem State.setEyeSec_syn (s : State) (x : Nat) : (s.setEyeSec x).syn = s.syn := (rfl)
@[simp] theorem State.setEyeSec_cfg (s : State) (x : Nat) : (s.setEyeSec x).cfg = s.cfg := (rfl)
@[simp] theorem State.setEyeSec_xpt (s : State) (x : Nat) : (s.setEyeSec x).xpt = s.xpt := (rfl)
@[simp] theorem State.setEyeSec_lan (s : State) (x : Nat) : (s.setEyeSec x).lan = s.lan := (rfl)
@[simp] theorem State.setEyeSec_sdi (s : State) (x : Nat) : (s.setEyeSec x).sdi = s.sdi := (rfl)
@[simp] theorem State.setEyeSec_streams (s : State) (x : Nat) : (s.setEyeSec x).streams = s.streams := (rfl)
@[simp] theorem State.setEyeSec_fst (s : State) (x : Nat) : (s.setEyeSec x).fst = s.fst := (rfl)
@[simp] theorem State.setEyeSec_cmp (s : State) (x : Nat) : (s.setEyeSec x).cmp = s.cmp := (rfl)
@[simp] theorem State.setEyeSec_lin (s : State) (x : Nat) : (s.setEyeSec x).lin = s.lin := (rfl)
@[simp] theorem State.setEyeSec_tables (s : State) (x : Nat) : (s.setEyeSec x).tables = s.tables := (rfl)
@[simp] theorem State.setEyeSec_aud (s : State) (x : Nat) : (s.setEyeSec x).aud = s.aud := (rfl)
@[simp] theorem State.setEyeSec_mac (s : State) (x : Nat) : (s.setEyeSec x).mac = s.mac := (rfl)
@[simp] theorem State.setEyeSec_med (s : State) (x : Nat) : (s.setEyeSec x).med = s.med := (rfl)
@[simp] theorem State.setEyeSec_win (s : State) (x : Nat) : (s.setEyeSec x).win = s.win := (rfl)
@[simp] theorem State.setEyeSec_rows (s : State) (x : Nat) : (s.setEyeSec x).rows = s.rows := (rfl)
@[simp] theorem State.setEyeSec_drc (s : State) (x : Nat) : (s.setEyeSec x).drc = s.drc := (rfl)
@[simp] theorem State.setEyeSec_prot (s : State) (x : Nat) : (s.setEyeSec x).prot = s.prot := (rfl)
@[simp] theorem State.setEyeSec_fresh (s : State) (x : Nat) : (s.setEyeSec x).fresh = s.fresh := (rfl)
@[simp] theorem State.setEyeSec_dram (s : State) (x : Nat) : (s.setEyeSec x).dram = s.dram := (rfl)
@[simp] theorem State.setEyeSec_tcm (s : State) (x : Nat) : (s.setEyeSec x).tcm = s.tcm := (rfl)
@[simp] theorem State.setEyeSec_freeCtr (s : State) (x : Nat) : (s.setEyeSec x).freeCtr = s.freeCtr := (rfl)
@[simp] theorem State.setEyeSec_out (s : State) (x : Nat) : (s.setEyeSec x).out = s.out := (rfl)
@[simp] theorem State.setEyeSec_pending (s : State) (x : Nat) : (s.setEyeSec x).pending = s.pending := (rfl)

@[simp] theorem State.setSdis_sdi (s : State) (x : Tab SdiRun) : (s.setSdis x).sdi = x := (rfl)
@[simp] theorem State.setSdis_dev (s : State) (x : Tab SdiRun) : (s.setSdis x).dev = s.dev := (rfl)
@[simp] theorem State.setSdis_now (s : State) (x : Tab SdiRun) : (s.setSdis x).now = s.now := (rfl)
@[simp] theorem State.setSdis_regs (s : State) (x : Tab SdiRun) : (s.setSdis x).regs = s.regs := (rfl)
@[simp] theorem State.setSdis_snap (s : State) (x : Tab SdiRun) : (s.setSdis x).snap = s.snap := (rfl)
@[simp] theorem State.setSdis_pins (s : State) (x : Tab SdiRun) : (s.setSdis x).pins = s.pins := (rfl)
@[simp] theorem State.setSdis_ctl (s : State) (x : Tab SdiRun) : (s.setSdis x).ctl = s.ctl := (rfl)
@[simp] theorem State.setSdis_boot (s : State) (x : Tab SdiRun) : (s.setSdis x).boot = s.boot := (rfl)
@[simp] theorem State.setSdis_power (s : State) (x : Tab SdiRun) : (s.setSdis x).power = s.power := (rfl)
@[simp] theorem State.setSdis_flt (s : State) (x : Tab SdiRun) : (s.setSdis x).flt = s.flt := (rfl)
@[simp] theorem State.setSdis_mnt (s : State) (x : Tab SdiRun) : (s.setSdis x).mnt = s.mnt := (rfl)
@[simp] theorem State.setSdis_life (s : State) (x : Tab SdiRun) : (s.setSdis x).life = s.life := (rfl)
@[simp] theorem State.setSdis_pcie (s : State) (x : Tab SdiRun) : (s.setSdis x).pcie = s.pcie := (rfl)
@[simp] theorem State.setSdis_card (s : State) (x : Tab SdiRun) : (s.setSdis x).card = s.card := (rfl)
@[simp] theorem State.setSdis_dma (s : State) (x : Tab SdiRun) : (s.setSdis x).dma = s.dma := (rfl)
@[simp] theorem State.setSdis_pwmbx (s : State) (x : Tab SdiRun) : (s.setSdis x).pwmbx = s.pwmbx := (rfl)
@[simp] theorem State.setSdis_flash (s : State) (x : Tab SdiRun) : (s.setSdis x).flash = s.flash := (rfl)
@[simp] theorem State.setSdis_twn (s : State) (x : Tab SdiRun) : (s.setSdis x).twn = s.twn := (rfl)
@[simp] theorem State.setSdis_ptp (s : State) (x : Tab SdiRun) : (s.setSdis x).ptp = s.ptp := (rfl)
@[simp] theorem State.setSdis_tmg (s : State) (x : Tab SdiRun) : (s.setSdis x).tmg = s.tmg := (rfl)
@[simp] theorem State.setSdis_syn (s : State) (x : Tab SdiRun) : (s.setSdis x).syn = s.syn := (rfl)
@[simp] theorem State.setSdis_cfg (s : State) (x : Tab SdiRun) : (s.setSdis x).cfg = s.cfg := (rfl)
@[simp] theorem State.setSdis_xpt (s : State) (x : Tab SdiRun) : (s.setSdis x).xpt = s.xpt := (rfl)
@[simp] theorem State.setSdis_lan (s : State) (x : Tab SdiRun) : (s.setSdis x).lan = s.lan := (rfl)
@[simp] theorem State.setSdis_eyeSec (s : State) (x : Tab SdiRun) : (s.setSdis x).eyeSec = s.eyeSec := (rfl)
@[simp] theorem State.setSdis_streams (s : State) (x : Tab SdiRun) : (s.setSdis x).streams = s.streams := (rfl)
@[simp] theorem State.setSdis_fst (s : State) (x : Tab SdiRun) : (s.setSdis x).fst = s.fst := (rfl)
@[simp] theorem State.setSdis_cmp (s : State) (x : Tab SdiRun) : (s.setSdis x).cmp = s.cmp := (rfl)
@[simp] theorem State.setSdis_lin (s : State) (x : Tab SdiRun) : (s.setSdis x).lin = s.lin := (rfl)
@[simp] theorem State.setSdis_tables (s : State) (x : Tab SdiRun) : (s.setSdis x).tables = s.tables := (rfl)
@[simp] theorem State.setSdis_aud (s : State) (x : Tab SdiRun) : (s.setSdis x).aud = s.aud := (rfl)
@[simp] theorem State.setSdis_mac (s : State) (x : Tab SdiRun) : (s.setSdis x).mac = s.mac := (rfl)
@[simp] theorem State.setSdis_med (s : State) (x : Tab SdiRun) : (s.setSdis x).med = s.med := (rfl)
@[simp] theorem State.setSdis_win (s : State) (x : Tab SdiRun) : (s.setSdis x).win = s.win := (rfl)
@[simp] theorem State.setSdis_rows (s : State) (x : Tab SdiRun) : (s.setSdis x).rows = s.rows := (rfl)
@[simp] theorem State.setSdis_drc (s : State) (x : Tab SdiRun) : (s.setSdis x).drc = s.drc := (rfl)
@[simp] theorem State.setSdis_prot (s : State) (x : Tab SdiRun) : (s.setSdis x).prot = s.prot := (rfl)
@[simp] theorem State.setSdis_fresh (s : State) (x : Tab SdiRun) : (s.setSdis x).fresh = s.fresh := (rfl)
@[simp] theorem State.setSdis_dram (s : State) (x : Tab SdiRun) : (s.setSdis x).dram = s.dram := (rfl)
@[simp] theorem State.setSdis_tcm (s : State) (x : Tab SdiRun) : (s.setSdis x).tcm = s.tcm := (rfl)
@[simp] theorem State.setSdis_freeCtr (s : State) (x : Tab SdiRun) : (s.setSdis x).freeCtr = s.freeCtr := (rfl)
@[simp] theorem State.setSdis_out (s : State) (x : Tab SdiRun) : (s.setSdis x).out = s.out := (rfl)
@[simp] theorem State.setSdis_pending (s : State) (x : Tab SdiRun) : (s.setSdis x).pending = s.pending := (rfl)

@[simp] theorem State.setStreams_streams (s : State) (x : Tab StreamRun) : (s.setStreams x).streams = x := (rfl)
@[simp] theorem State.setStreams_dev (s : State) (x : Tab StreamRun) : (s.setStreams x).dev = s.dev := (rfl)
@[simp] theorem State.setStreams_now (s : State) (x : Tab StreamRun) : (s.setStreams x).now = s.now := (rfl)
@[simp] theorem State.setStreams_regs (s : State) (x : Tab StreamRun) : (s.setStreams x).regs = s.regs := (rfl)
@[simp] theorem State.setStreams_snap (s : State) (x : Tab StreamRun) : (s.setStreams x).snap = s.snap := (rfl)
@[simp] theorem State.setStreams_pins (s : State) (x : Tab StreamRun) : (s.setStreams x).pins = s.pins := (rfl)
@[simp] theorem State.setStreams_ctl (s : State) (x : Tab StreamRun) : (s.setStreams x).ctl = s.ctl := (rfl)
@[simp] theorem State.setStreams_boot (s : State) (x : Tab StreamRun) : (s.setStreams x).boot = s.boot := (rfl)
@[simp] theorem State.setStreams_power (s : State) (x : Tab StreamRun) : (s.setStreams x).power = s.power := (rfl)
@[simp] theorem State.setStreams_flt (s : State) (x : Tab StreamRun) : (s.setStreams x).flt = s.flt := (rfl)
@[simp] theorem State.setStreams_mnt (s : State) (x : Tab StreamRun) : (s.setStreams x).mnt = s.mnt := (rfl)
@[simp] theorem State.setStreams_life (s : State) (x : Tab StreamRun) : (s.setStreams x).life = s.life := (rfl)
@[simp] theorem State.setStreams_pcie (s : State) (x : Tab StreamRun) : (s.setStreams x).pcie = s.pcie := (rfl)
@[simp] theorem State.setStreams_card (s : State) (x : Tab StreamRun) : (s.setStreams x).card = s.card := (rfl)
@[simp] theorem State.setStreams_dma (s : State) (x : Tab StreamRun) : (s.setStreams x).dma = s.dma := (rfl)
@[simp] theorem State.setStreams_pwmbx (s : State) (x : Tab StreamRun) : (s.setStreams x).pwmbx = s.pwmbx := (rfl)
@[simp] theorem State.setStreams_flash (s : State) (x : Tab StreamRun) : (s.setStreams x).flash = s.flash := (rfl)
@[simp] theorem State.setStreams_twn (s : State) (x : Tab StreamRun) : (s.setStreams x).twn = s.twn := (rfl)
@[simp] theorem State.setStreams_ptp (s : State) (x : Tab StreamRun) : (s.setStreams x).ptp = s.ptp := (rfl)
@[simp] theorem State.setStreams_tmg (s : State) (x : Tab StreamRun) : (s.setStreams x).tmg = s.tmg := (rfl)
@[simp] theorem State.setStreams_syn (s : State) (x : Tab StreamRun) : (s.setStreams x).syn = s.syn := (rfl)
@[simp] theorem State.setStreams_cfg (s : State) (x : Tab StreamRun) : (s.setStreams x).cfg = s.cfg := (rfl)
@[simp] theorem State.setStreams_xpt (s : State) (x : Tab StreamRun) : (s.setStreams x).xpt = s.xpt := (rfl)
@[simp] theorem State.setStreams_lan (s : State) (x : Tab StreamRun) : (s.setStreams x).lan = s.lan := (rfl)
@[simp] theorem State.setStreams_eyeSec (s : State) (x : Tab StreamRun) : (s.setStreams x).eyeSec = s.eyeSec := (rfl)
@[simp] theorem State.setStreams_sdi (s : State) (x : Tab StreamRun) : (s.setStreams x).sdi = s.sdi := (rfl)
@[simp] theorem State.setStreams_fst (s : State) (x : Tab StreamRun) : (s.setStreams x).fst = s.fst := (rfl)
@[simp] theorem State.setStreams_cmp (s : State) (x : Tab StreamRun) : (s.setStreams x).cmp = s.cmp := (rfl)
@[simp] theorem State.setStreams_lin (s : State) (x : Tab StreamRun) : (s.setStreams x).lin = s.lin := (rfl)
@[simp] theorem State.setStreams_tables (s : State) (x : Tab StreamRun) : (s.setStreams x).tables = s.tables := (rfl)
@[simp] theorem State.setStreams_aud (s : State) (x : Tab StreamRun) : (s.setStreams x).aud = s.aud := (rfl)
@[simp] theorem State.setStreams_mac (s : State) (x : Tab StreamRun) : (s.setStreams x).mac = s.mac := (rfl)
@[simp] theorem State.setStreams_med (s : State) (x : Tab StreamRun) : (s.setStreams x).med = s.med := (rfl)
@[simp] theorem State.setStreams_win (s : State) (x : Tab StreamRun) : (s.setStreams x).win = s.win := (rfl)
@[simp] theorem State.setStreams_rows (s : State) (x : Tab StreamRun) : (s.setStreams x).rows = s.rows := (rfl)
@[simp] theorem State.setStreams_drc (s : State) (x : Tab StreamRun) : (s.setStreams x).drc = s.drc := (rfl)
@[simp] theorem State.setStreams_prot (s : State) (x : Tab StreamRun) : (s.setStreams x).prot = s.prot := (rfl)
@[simp] theorem State.setStreams_fresh (s : State) (x : Tab StreamRun) : (s.setStreams x).fresh = s.fresh := (rfl)
@[simp] theorem State.setStreams_dram (s : State) (x : Tab StreamRun) : (s.setStreams x).dram = s.dram := (rfl)
@[simp] theorem State.setStreams_tcm (s : State) (x : Tab StreamRun) : (s.setStreams x).tcm = s.tcm := (rfl)
@[simp] theorem State.setStreams_freeCtr (s : State) (x : Tab StreamRun) : (s.setStreams x).freeCtr = s.freeCtr := (rfl)
@[simp] theorem State.setStreams_out (s : State) (x : Tab StreamRun) : (s.setStreams x).out = s.out := (rfl)
@[simp] theorem State.setStreams_pending (s : State) (x : Tab StreamRun) : (s.setStreams x).pending = s.pending := (rfl)

@[simp] theorem State.setFst_fst (s : State) (x : FstState) : (s.setFst x).fst = x := (rfl)
@[simp] theorem State.setFst_dev (s : State) (x : FstState) : (s.setFst x).dev = s.dev := (rfl)
@[simp] theorem State.setFst_now (s : State) (x : FstState) : (s.setFst x).now = s.now := (rfl)
@[simp] theorem State.setFst_regs (s : State) (x : FstState) : (s.setFst x).regs = s.regs := (rfl)
@[simp] theorem State.setFst_snap (s : State) (x : FstState) : (s.setFst x).snap = s.snap := (rfl)
@[simp] theorem State.setFst_pins (s : State) (x : FstState) : (s.setFst x).pins = s.pins := (rfl)
@[simp] theorem State.setFst_ctl (s : State) (x : FstState) : (s.setFst x).ctl = s.ctl := (rfl)
@[simp] theorem State.setFst_boot (s : State) (x : FstState) : (s.setFst x).boot = s.boot := (rfl)
@[simp] theorem State.setFst_power (s : State) (x : FstState) : (s.setFst x).power = s.power := (rfl)
@[simp] theorem State.setFst_flt (s : State) (x : FstState) : (s.setFst x).flt = s.flt := (rfl)
@[simp] theorem State.setFst_mnt (s : State) (x : FstState) : (s.setFst x).mnt = s.mnt := (rfl)
@[simp] theorem State.setFst_life (s : State) (x : FstState) : (s.setFst x).life = s.life := (rfl)
@[simp] theorem State.setFst_pcie (s : State) (x : FstState) : (s.setFst x).pcie = s.pcie := (rfl)
@[simp] theorem State.setFst_card (s : State) (x : FstState) : (s.setFst x).card = s.card := (rfl)
@[simp] theorem State.setFst_dma (s : State) (x : FstState) : (s.setFst x).dma = s.dma := (rfl)
@[simp] theorem State.setFst_pwmbx (s : State) (x : FstState) : (s.setFst x).pwmbx = s.pwmbx := (rfl)
@[simp] theorem State.setFst_flash (s : State) (x : FstState) : (s.setFst x).flash = s.flash := (rfl)
@[simp] theorem State.setFst_twn (s : State) (x : FstState) : (s.setFst x).twn = s.twn := (rfl)
@[simp] theorem State.setFst_ptp (s : State) (x : FstState) : (s.setFst x).ptp = s.ptp := (rfl)
@[simp] theorem State.setFst_tmg (s : State) (x : FstState) : (s.setFst x).tmg = s.tmg := (rfl)
@[simp] theorem State.setFst_syn (s : State) (x : FstState) : (s.setFst x).syn = s.syn := (rfl)
@[simp] theorem State.setFst_cfg (s : State) (x : FstState) : (s.setFst x).cfg = s.cfg := (rfl)
@[simp] theorem State.setFst_xpt (s : State) (x : FstState) : (s.setFst x).xpt = s.xpt := (rfl)
@[simp] theorem State.setFst_lan (s : State) (x : FstState) : (s.setFst x).lan = s.lan := (rfl)
@[simp] theorem State.setFst_eyeSec (s : State) (x : FstState) : (s.setFst x).eyeSec = s.eyeSec := (rfl)
@[simp] theorem State.setFst_sdi (s : State) (x : FstState) : (s.setFst x).sdi = s.sdi := (rfl)
@[simp] theorem State.setFst_streams (s : State) (x : FstState) : (s.setFst x).streams = s.streams := (rfl)
@[simp] theorem State.setFst_cmp (s : State) (x : FstState) : (s.setFst x).cmp = s.cmp := (rfl)
@[simp] theorem State.setFst_lin (s : State) (x : FstState) : (s.setFst x).lin = s.lin := (rfl)
@[simp] theorem State.setFst_tables (s : State) (x : FstState) : (s.setFst x).tables = s.tables := (rfl)
@[simp] theorem State.setFst_aud (s : State) (x : FstState) : (s.setFst x).aud = s.aud := (rfl)
@[simp] theorem State.setFst_mac (s : State) (x : FstState) : (s.setFst x).mac = s.mac := (rfl)
@[simp] theorem State.setFst_med (s : State) (x : FstState) : (s.setFst x).med = s.med := (rfl)
@[simp] theorem State.setFst_win (s : State) (x : FstState) : (s.setFst x).win = s.win := (rfl)
@[simp] theorem State.setFst_rows (s : State) (x : FstState) : (s.setFst x).rows = s.rows := (rfl)
@[simp] theorem State.setFst_drc (s : State) (x : FstState) : (s.setFst x).drc = s.drc := (rfl)
@[simp] theorem State.setFst_prot (s : State) (x : FstState) : (s.setFst x).prot = s.prot := (rfl)
@[simp] theorem State.setFst_fresh (s : State) (x : FstState) : (s.setFst x).fresh = s.fresh := (rfl)
@[simp] theorem State.setFst_dram (s : State) (x : FstState) : (s.setFst x).dram = s.dram := (rfl)
@[simp] theorem State.setFst_tcm (s : State) (x : FstState) : (s.setFst x).tcm = s.tcm := (rfl)
@[simp] theorem State.setFst_freeCtr (s : State) (x : FstState) : (s.setFst x).freeCtr = s.freeCtr := (rfl)
@[simp] theorem State.setFst_out (s : State) (x : FstState) : (s.setFst x).out = s.out := (rfl)
@[simp] theorem State.setFst_pending (s : State) (x : FstState) : (s.setFst x).pending = s.pending := (rfl)

@[simp] theorem State.setCmps_cmp (s : State) (x : Tab CmpRun) : (s.setCmps x).cmp = x := (rfl)
@[simp] theorem State.setCmps_dev (s : State) (x : Tab CmpRun) : (s.setCmps x).dev = s.dev := (rfl)
@[simp] theorem State.setCmps_now (s : State) (x : Tab CmpRun) : (s.setCmps x).now = s.now := (rfl)
@[simp] theorem State.setCmps_regs (s : State) (x : Tab CmpRun) : (s.setCmps x).regs = s.regs := (rfl)
@[simp] theorem State.setCmps_snap (s : State) (x : Tab CmpRun) : (s.setCmps x).snap = s.snap := (rfl)
@[simp] theorem State.setCmps_pins (s : State) (x : Tab CmpRun) : (s.setCmps x).pins = s.pins := (rfl)
@[simp] theorem State.setCmps_ctl (s : State) (x : Tab CmpRun) : (s.setCmps x).ctl = s.ctl := (rfl)
@[simp] theorem State.setCmps_boot (s : State) (x : Tab CmpRun) : (s.setCmps x).boot = s.boot := (rfl)
@[simp] theorem State.setCmps_power (s : State) (x : Tab CmpRun) : (s.setCmps x).power = s.power := (rfl)
@[simp] theorem State.setCmps_flt (s : State) (x : Tab CmpRun) : (s.setCmps x).flt = s.flt := (rfl)
@[simp] theorem State.setCmps_mnt (s : State) (x : Tab CmpRun) : (s.setCmps x).mnt = s.mnt := (rfl)
@[simp] theorem State.setCmps_life (s : State) (x : Tab CmpRun) : (s.setCmps x).life = s.life := (rfl)
@[simp] theorem State.setCmps_pcie (s : State) (x : Tab CmpRun) : (s.setCmps x).pcie = s.pcie := (rfl)
@[simp] theorem State.setCmps_card (s : State) (x : Tab CmpRun) : (s.setCmps x).card = s.card := (rfl)
@[simp] theorem State.setCmps_dma (s : State) (x : Tab CmpRun) : (s.setCmps x).dma = s.dma := (rfl)
@[simp] theorem State.setCmps_pwmbx (s : State) (x : Tab CmpRun) : (s.setCmps x).pwmbx = s.pwmbx := (rfl)
@[simp] theorem State.setCmps_flash (s : State) (x : Tab CmpRun) : (s.setCmps x).flash = s.flash := (rfl)
@[simp] theorem State.setCmps_twn (s : State) (x : Tab CmpRun) : (s.setCmps x).twn = s.twn := (rfl)
@[simp] theorem State.setCmps_ptp (s : State) (x : Tab CmpRun) : (s.setCmps x).ptp = s.ptp := (rfl)
@[simp] theorem State.setCmps_tmg (s : State) (x : Tab CmpRun) : (s.setCmps x).tmg = s.tmg := (rfl)
@[simp] theorem State.setCmps_syn (s : State) (x : Tab CmpRun) : (s.setCmps x).syn = s.syn := (rfl)
@[simp] theorem State.setCmps_cfg (s : State) (x : Tab CmpRun) : (s.setCmps x).cfg = s.cfg := (rfl)
@[simp] theorem State.setCmps_xpt (s : State) (x : Tab CmpRun) : (s.setCmps x).xpt = s.xpt := (rfl)
@[simp] theorem State.setCmps_lan (s : State) (x : Tab CmpRun) : (s.setCmps x).lan = s.lan := (rfl)
@[simp] theorem State.setCmps_eyeSec (s : State) (x : Tab CmpRun) : (s.setCmps x).eyeSec = s.eyeSec := (rfl)
@[simp] theorem State.setCmps_sdi (s : State) (x : Tab CmpRun) : (s.setCmps x).sdi = s.sdi := (rfl)
@[simp] theorem State.setCmps_streams (s : State) (x : Tab CmpRun) : (s.setCmps x).streams = s.streams := (rfl)
@[simp] theorem State.setCmps_fst (s : State) (x : Tab CmpRun) : (s.setCmps x).fst = s.fst := (rfl)
@[simp] theorem State.setCmps_lin (s : State) (x : Tab CmpRun) : (s.setCmps x).lin = s.lin := (rfl)
@[simp] theorem State.setCmps_tables (s : State) (x : Tab CmpRun) : (s.setCmps x).tables = s.tables := (rfl)
@[simp] theorem State.setCmps_aud (s : State) (x : Tab CmpRun) : (s.setCmps x).aud = s.aud := (rfl)
@[simp] theorem State.setCmps_mac (s : State) (x : Tab CmpRun) : (s.setCmps x).mac = s.mac := (rfl)
@[simp] theorem State.setCmps_med (s : State) (x : Tab CmpRun) : (s.setCmps x).med = s.med := (rfl)
@[simp] theorem State.setCmps_win (s : State) (x : Tab CmpRun) : (s.setCmps x).win = s.win := (rfl)
@[simp] theorem State.setCmps_rows (s : State) (x : Tab CmpRun) : (s.setCmps x).rows = s.rows := (rfl)
@[simp] theorem State.setCmps_drc (s : State) (x : Tab CmpRun) : (s.setCmps x).drc = s.drc := (rfl)
@[simp] theorem State.setCmps_prot (s : State) (x : Tab CmpRun) : (s.setCmps x).prot = s.prot := (rfl)
@[simp] theorem State.setCmps_fresh (s : State) (x : Tab CmpRun) : (s.setCmps x).fresh = s.fresh := (rfl)
@[simp] theorem State.setCmps_dram (s : State) (x : Tab CmpRun) : (s.setCmps x).dram = s.dram := (rfl)
@[simp] theorem State.setCmps_tcm (s : State) (x : Tab CmpRun) : (s.setCmps x).tcm = s.tcm := (rfl)
@[simp] theorem State.setCmps_freeCtr (s : State) (x : Tab CmpRun) : (s.setCmps x).freeCtr = s.freeCtr := (rfl)
@[simp] theorem State.setCmps_out (s : State) (x : Tab CmpRun) : (s.setCmps x).out = s.out := (rfl)
@[simp] theorem State.setCmps_pending (s : State) (x : Tab CmpRun) : (s.setCmps x).pending = s.pending := (rfl)

@[simp] theorem State.setLin_lin (s : State) (x : LintelState) : (s.setLin x).lin = x := (rfl)
@[simp] theorem State.setLin_dev (s : State) (x : LintelState) : (s.setLin x).dev = s.dev := (rfl)
@[simp] theorem State.setLin_now (s : State) (x : LintelState) : (s.setLin x).now = s.now := (rfl)
@[simp] theorem State.setLin_regs (s : State) (x : LintelState) : (s.setLin x).regs = s.regs := (rfl)
@[simp] theorem State.setLin_snap (s : State) (x : LintelState) : (s.setLin x).snap = s.snap := (rfl)
@[simp] theorem State.setLin_pins (s : State) (x : LintelState) : (s.setLin x).pins = s.pins := (rfl)
@[simp] theorem State.setLin_ctl (s : State) (x : LintelState) : (s.setLin x).ctl = s.ctl := (rfl)
@[simp] theorem State.setLin_boot (s : State) (x : LintelState) : (s.setLin x).boot = s.boot := (rfl)
@[simp] theorem State.setLin_power (s : State) (x : LintelState) : (s.setLin x).power = s.power := (rfl)
@[simp] theorem State.setLin_flt (s : State) (x : LintelState) : (s.setLin x).flt = s.flt := (rfl)
@[simp] theorem State.setLin_mnt (s : State) (x : LintelState) : (s.setLin x).mnt = s.mnt := (rfl)
@[simp] theorem State.setLin_life (s : State) (x : LintelState) : (s.setLin x).life = s.life := (rfl)
@[simp] theorem State.setLin_pcie (s : State) (x : LintelState) : (s.setLin x).pcie = s.pcie := (rfl)
@[simp] theorem State.setLin_card (s : State) (x : LintelState) : (s.setLin x).card = s.card := (rfl)
@[simp] theorem State.setLin_dma (s : State) (x : LintelState) : (s.setLin x).dma = s.dma := (rfl)
@[simp] theorem State.setLin_pwmbx (s : State) (x : LintelState) : (s.setLin x).pwmbx = s.pwmbx := (rfl)
@[simp] theorem State.setLin_flash (s : State) (x : LintelState) : (s.setLin x).flash = s.flash := (rfl)
@[simp] theorem State.setLin_twn (s : State) (x : LintelState) : (s.setLin x).twn = s.twn := (rfl)
@[simp] theorem State.setLin_ptp (s : State) (x : LintelState) : (s.setLin x).ptp = s.ptp := (rfl)
@[simp] theorem State.setLin_tmg (s : State) (x : LintelState) : (s.setLin x).tmg = s.tmg := (rfl)
@[simp] theorem State.setLin_syn (s : State) (x : LintelState) : (s.setLin x).syn = s.syn := (rfl)
@[simp] theorem State.setLin_cfg (s : State) (x : LintelState) : (s.setLin x).cfg = s.cfg := (rfl)
@[simp] theorem State.setLin_xpt (s : State) (x : LintelState) : (s.setLin x).xpt = s.xpt := (rfl)
@[simp] theorem State.setLin_lan (s : State) (x : LintelState) : (s.setLin x).lan = s.lan := (rfl)
@[simp] theorem State.setLin_eyeSec (s : State) (x : LintelState) : (s.setLin x).eyeSec = s.eyeSec := (rfl)
@[simp] theorem State.setLin_sdi (s : State) (x : LintelState) : (s.setLin x).sdi = s.sdi := (rfl)
@[simp] theorem State.setLin_streams (s : State) (x : LintelState) : (s.setLin x).streams = s.streams := (rfl)
@[simp] theorem State.setLin_fst (s : State) (x : LintelState) : (s.setLin x).fst = s.fst := (rfl)
@[simp] theorem State.setLin_cmp (s : State) (x : LintelState) : (s.setLin x).cmp = s.cmp := (rfl)
@[simp] theorem State.setLin_tables (s : State) (x : LintelState) : (s.setLin x).tables = s.tables := (rfl)
@[simp] theorem State.setLin_aud (s : State) (x : LintelState) : (s.setLin x).aud = s.aud := (rfl)
@[simp] theorem State.setLin_mac (s : State) (x : LintelState) : (s.setLin x).mac = s.mac := (rfl)
@[simp] theorem State.setLin_med (s : State) (x : LintelState) : (s.setLin x).med = s.med := (rfl)
@[simp] theorem State.setLin_win (s : State) (x : LintelState) : (s.setLin x).win = s.win := (rfl)
@[simp] theorem State.setLin_rows (s : State) (x : LintelState) : (s.setLin x).rows = s.rows := (rfl)
@[simp] theorem State.setLin_drc (s : State) (x : LintelState) : (s.setLin x).drc = s.drc := (rfl)
@[simp] theorem State.setLin_prot (s : State) (x : LintelState) : (s.setLin x).prot = s.prot := (rfl)
@[simp] theorem State.setLin_fresh (s : State) (x : LintelState) : (s.setLin x).fresh = s.fresh := (rfl)
@[simp] theorem State.setLin_dram (s : State) (x : LintelState) : (s.setLin x).dram = s.dram := (rfl)
@[simp] theorem State.setLin_tcm (s : State) (x : LintelState) : (s.setLin x).tcm = s.tcm := (rfl)
@[simp] theorem State.setLin_freeCtr (s : State) (x : LintelState) : (s.setLin x).freeCtr = s.freeCtr := (rfl)
@[simp] theorem State.setLin_out (s : State) (x : LintelState) : (s.setLin x).out = s.out := (rfl)
@[simp] theorem State.setLin_pending (s : State) (x : LintelState) : (s.setLin x).pending = s.pending := (rfl)

@[simp] theorem State.setTables_tables (s : State) (x : Tab Byte) : (s.setTables x).tables = x := (rfl)
@[simp] theorem State.setTables_dev (s : State) (x : Tab Byte) : (s.setTables x).dev = s.dev := (rfl)
@[simp] theorem State.setTables_now (s : State) (x : Tab Byte) : (s.setTables x).now = s.now := (rfl)
@[simp] theorem State.setTables_regs (s : State) (x : Tab Byte) : (s.setTables x).regs = s.regs := (rfl)
@[simp] theorem State.setTables_snap (s : State) (x : Tab Byte) : (s.setTables x).snap = s.snap := (rfl)
@[simp] theorem State.setTables_pins (s : State) (x : Tab Byte) : (s.setTables x).pins = s.pins := (rfl)
@[simp] theorem State.setTables_ctl (s : State) (x : Tab Byte) : (s.setTables x).ctl = s.ctl := (rfl)
@[simp] theorem State.setTables_boot (s : State) (x : Tab Byte) : (s.setTables x).boot = s.boot := (rfl)
@[simp] theorem State.setTables_power (s : State) (x : Tab Byte) : (s.setTables x).power = s.power := (rfl)
@[simp] theorem State.setTables_flt (s : State) (x : Tab Byte) : (s.setTables x).flt = s.flt := (rfl)
@[simp] theorem State.setTables_mnt (s : State) (x : Tab Byte) : (s.setTables x).mnt = s.mnt := (rfl)
@[simp] theorem State.setTables_life (s : State) (x : Tab Byte) : (s.setTables x).life = s.life := (rfl)
@[simp] theorem State.setTables_pcie (s : State) (x : Tab Byte) : (s.setTables x).pcie = s.pcie := (rfl)
@[simp] theorem State.setTables_card (s : State) (x : Tab Byte) : (s.setTables x).card = s.card := (rfl)
@[simp] theorem State.setTables_dma (s : State) (x : Tab Byte) : (s.setTables x).dma = s.dma := (rfl)
@[simp] theorem State.setTables_pwmbx (s : State) (x : Tab Byte) : (s.setTables x).pwmbx = s.pwmbx := (rfl)
@[simp] theorem State.setTables_flash (s : State) (x : Tab Byte) : (s.setTables x).flash = s.flash := (rfl)
@[simp] theorem State.setTables_twn (s : State) (x : Tab Byte) : (s.setTables x).twn = s.twn := (rfl)
@[simp] theorem State.setTables_ptp (s : State) (x : Tab Byte) : (s.setTables x).ptp = s.ptp := (rfl)
@[simp] theorem State.setTables_tmg (s : State) (x : Tab Byte) : (s.setTables x).tmg = s.tmg := (rfl)
@[simp] theorem State.setTables_syn (s : State) (x : Tab Byte) : (s.setTables x).syn = s.syn := (rfl)
@[simp] theorem State.setTables_cfg (s : State) (x : Tab Byte) : (s.setTables x).cfg = s.cfg := (rfl)
@[simp] theorem State.setTables_xpt (s : State) (x : Tab Byte) : (s.setTables x).xpt = s.xpt := (rfl)
@[simp] theorem State.setTables_lan (s : State) (x : Tab Byte) : (s.setTables x).lan = s.lan := (rfl)
@[simp] theorem State.setTables_eyeSec (s : State) (x : Tab Byte) : (s.setTables x).eyeSec = s.eyeSec := (rfl)
@[simp] theorem State.setTables_sdi (s : State) (x : Tab Byte) : (s.setTables x).sdi = s.sdi := (rfl)
@[simp] theorem State.setTables_streams (s : State) (x : Tab Byte) : (s.setTables x).streams = s.streams := (rfl)
@[simp] theorem State.setTables_fst (s : State) (x : Tab Byte) : (s.setTables x).fst = s.fst := (rfl)
@[simp] theorem State.setTables_cmp (s : State) (x : Tab Byte) : (s.setTables x).cmp = s.cmp := (rfl)
@[simp] theorem State.setTables_lin (s : State) (x : Tab Byte) : (s.setTables x).lin = s.lin := (rfl)
@[simp] theorem State.setTables_aud (s : State) (x : Tab Byte) : (s.setTables x).aud = s.aud := (rfl)
@[simp] theorem State.setTables_mac (s : State) (x : Tab Byte) : (s.setTables x).mac = s.mac := (rfl)
@[simp] theorem State.setTables_med (s : State) (x : Tab Byte) : (s.setTables x).med = s.med := (rfl)
@[simp] theorem State.setTables_win (s : State) (x : Tab Byte) : (s.setTables x).win = s.win := (rfl)
@[simp] theorem State.setTables_rows (s : State) (x : Tab Byte) : (s.setTables x).rows = s.rows := (rfl)
@[simp] theorem State.setTables_drc (s : State) (x : Tab Byte) : (s.setTables x).drc = s.drc := (rfl)
@[simp] theorem State.setTables_prot (s : State) (x : Tab Byte) : (s.setTables x).prot = s.prot := (rfl)
@[simp] theorem State.setTables_fresh (s : State) (x : Tab Byte) : (s.setTables x).fresh = s.fresh := (rfl)
@[simp] theorem State.setTables_dram (s : State) (x : Tab Byte) : (s.setTables x).dram = s.dram := (rfl)
@[simp] theorem State.setTables_tcm (s : State) (x : Tab Byte) : (s.setTables x).tcm = s.tcm := (rfl)
@[simp] theorem State.setTables_freeCtr (s : State) (x : Tab Byte) : (s.setTables x).freeCtr = s.freeCtr := (rfl)
@[simp] theorem State.setTables_out (s : State) (x : Tab Byte) : (s.setTables x).out = s.out := (rfl)
@[simp] theorem State.setTables_pending (s : State) (x : Tab Byte) : (s.setTables x).pending = s.pending := (rfl)

@[simp] theorem State.setAud_aud (s : State) (x : AudState) : (s.setAud x).aud = x := (rfl)
@[simp] theorem State.setAud_dev (s : State) (x : AudState) : (s.setAud x).dev = s.dev := (rfl)
@[simp] theorem State.setAud_now (s : State) (x : AudState) : (s.setAud x).now = s.now := (rfl)
@[simp] theorem State.setAud_regs (s : State) (x : AudState) : (s.setAud x).regs = s.regs := (rfl)
@[simp] theorem State.setAud_snap (s : State) (x : AudState) : (s.setAud x).snap = s.snap := (rfl)
@[simp] theorem State.setAud_pins (s : State) (x : AudState) : (s.setAud x).pins = s.pins := (rfl)
@[simp] theorem State.setAud_ctl (s : State) (x : AudState) : (s.setAud x).ctl = s.ctl := (rfl)
@[simp] theorem State.setAud_boot (s : State) (x : AudState) : (s.setAud x).boot = s.boot := (rfl)
@[simp] theorem State.setAud_power (s : State) (x : AudState) : (s.setAud x).power = s.power := (rfl)
@[simp] theorem State.setAud_flt (s : State) (x : AudState) : (s.setAud x).flt = s.flt := (rfl)
@[simp] theorem State.setAud_mnt (s : State) (x : AudState) : (s.setAud x).mnt = s.mnt := (rfl)
@[simp] theorem State.setAud_life (s : State) (x : AudState) : (s.setAud x).life = s.life := (rfl)
@[simp] theorem State.setAud_pcie (s : State) (x : AudState) : (s.setAud x).pcie = s.pcie := (rfl)
@[simp] theorem State.setAud_card (s : State) (x : AudState) : (s.setAud x).card = s.card := (rfl)
@[simp] theorem State.setAud_dma (s : State) (x : AudState) : (s.setAud x).dma = s.dma := (rfl)
@[simp] theorem State.setAud_pwmbx (s : State) (x : AudState) : (s.setAud x).pwmbx = s.pwmbx := (rfl)
@[simp] theorem State.setAud_flash (s : State) (x : AudState) : (s.setAud x).flash = s.flash := (rfl)
@[simp] theorem State.setAud_twn (s : State) (x : AudState) : (s.setAud x).twn = s.twn := (rfl)
@[simp] theorem State.setAud_ptp (s : State) (x : AudState) : (s.setAud x).ptp = s.ptp := (rfl)
@[simp] theorem State.setAud_tmg (s : State) (x : AudState) : (s.setAud x).tmg = s.tmg := (rfl)
@[simp] theorem State.setAud_syn (s : State) (x : AudState) : (s.setAud x).syn = s.syn := (rfl)
@[simp] theorem State.setAud_cfg (s : State) (x : AudState) : (s.setAud x).cfg = s.cfg := (rfl)
@[simp] theorem State.setAud_xpt (s : State) (x : AudState) : (s.setAud x).xpt = s.xpt := (rfl)
@[simp] theorem State.setAud_lan (s : State) (x : AudState) : (s.setAud x).lan = s.lan := (rfl)
@[simp] theorem State.setAud_eyeSec (s : State) (x : AudState) : (s.setAud x).eyeSec = s.eyeSec := (rfl)
@[simp] theorem State.setAud_sdi (s : State) (x : AudState) : (s.setAud x).sdi = s.sdi := (rfl)
@[simp] theorem State.setAud_streams (s : State) (x : AudState) : (s.setAud x).streams = s.streams := (rfl)
@[simp] theorem State.setAud_fst (s : State) (x : AudState) : (s.setAud x).fst = s.fst := (rfl)
@[simp] theorem State.setAud_cmp (s : State) (x : AudState) : (s.setAud x).cmp = s.cmp := (rfl)
@[simp] theorem State.setAud_lin (s : State) (x : AudState) : (s.setAud x).lin = s.lin := (rfl)
@[simp] theorem State.setAud_tables (s : State) (x : AudState) : (s.setAud x).tables = s.tables := (rfl)
@[simp] theorem State.setAud_mac (s : State) (x : AudState) : (s.setAud x).mac = s.mac := (rfl)
@[simp] theorem State.setAud_med (s : State) (x : AudState) : (s.setAud x).med = s.med := (rfl)
@[simp] theorem State.setAud_win (s : State) (x : AudState) : (s.setAud x).win = s.win := (rfl)
@[simp] theorem State.setAud_rows (s : State) (x : AudState) : (s.setAud x).rows = s.rows := (rfl)
@[simp] theorem State.setAud_drc (s : State) (x : AudState) : (s.setAud x).drc = s.drc := (rfl)
@[simp] theorem State.setAud_prot (s : State) (x : AudState) : (s.setAud x).prot = s.prot := (rfl)
@[simp] theorem State.setAud_fresh (s : State) (x : AudState) : (s.setAud x).fresh = s.fresh := (rfl)
@[simp] theorem State.setAud_dram (s : State) (x : AudState) : (s.setAud x).dram = s.dram := (rfl)
@[simp] theorem State.setAud_tcm (s : State) (x : AudState) : (s.setAud x).tcm = s.tcm := (rfl)
@[simp] theorem State.setAud_freeCtr (s : State) (x : AudState) : (s.setAud x).freeCtr = s.freeCtr := (rfl)
@[simp] theorem State.setAud_out (s : State) (x : AudState) : (s.setAud x).out = s.out := (rfl)
@[simp] theorem State.setAud_pending (s : State) (x : AudState) : (s.setAud x).pending = s.pending := (rfl)

@[simp] theorem State.setMacs_mac (s : State) (x : Tab MacRun) : (s.setMacs x).mac = x := (rfl)
@[simp] theorem State.setMacs_dev (s : State) (x : Tab MacRun) : (s.setMacs x).dev = s.dev := (rfl)
@[simp] theorem State.setMacs_now (s : State) (x : Tab MacRun) : (s.setMacs x).now = s.now := (rfl)
@[simp] theorem State.setMacs_regs (s : State) (x : Tab MacRun) : (s.setMacs x).regs = s.regs := (rfl)
@[simp] theorem State.setMacs_snap (s : State) (x : Tab MacRun) : (s.setMacs x).snap = s.snap := (rfl)
@[simp] theorem State.setMacs_pins (s : State) (x : Tab MacRun) : (s.setMacs x).pins = s.pins := (rfl)
@[simp] theorem State.setMacs_ctl (s : State) (x : Tab MacRun) : (s.setMacs x).ctl = s.ctl := (rfl)
@[simp] theorem State.setMacs_boot (s : State) (x : Tab MacRun) : (s.setMacs x).boot = s.boot := (rfl)
@[simp] theorem State.setMacs_power (s : State) (x : Tab MacRun) : (s.setMacs x).power = s.power := (rfl)
@[simp] theorem State.setMacs_flt (s : State) (x : Tab MacRun) : (s.setMacs x).flt = s.flt := (rfl)
@[simp] theorem State.setMacs_mnt (s : State) (x : Tab MacRun) : (s.setMacs x).mnt = s.mnt := (rfl)
@[simp] theorem State.setMacs_life (s : State) (x : Tab MacRun) : (s.setMacs x).life = s.life := (rfl)
@[simp] theorem State.setMacs_pcie (s : State) (x : Tab MacRun) : (s.setMacs x).pcie = s.pcie := (rfl)
@[simp] theorem State.setMacs_card (s : State) (x : Tab MacRun) : (s.setMacs x).card = s.card := (rfl)
@[simp] theorem State.setMacs_dma (s : State) (x : Tab MacRun) : (s.setMacs x).dma = s.dma := (rfl)
@[simp] theorem State.setMacs_pwmbx (s : State) (x : Tab MacRun) : (s.setMacs x).pwmbx = s.pwmbx := (rfl)
@[simp] theorem State.setMacs_flash (s : State) (x : Tab MacRun) : (s.setMacs x).flash = s.flash := (rfl)
@[simp] theorem State.setMacs_twn (s : State) (x : Tab MacRun) : (s.setMacs x).twn = s.twn := (rfl)
@[simp] theorem State.setMacs_ptp (s : State) (x : Tab MacRun) : (s.setMacs x).ptp = s.ptp := (rfl)
@[simp] theorem State.setMacs_tmg (s : State) (x : Tab MacRun) : (s.setMacs x).tmg = s.tmg := (rfl)
@[simp] theorem State.setMacs_syn (s : State) (x : Tab MacRun) : (s.setMacs x).syn = s.syn := (rfl)
@[simp] theorem State.setMacs_cfg (s : State) (x : Tab MacRun) : (s.setMacs x).cfg = s.cfg := (rfl)
@[simp] theorem State.setMacs_xpt (s : State) (x : Tab MacRun) : (s.setMacs x).xpt = s.xpt := (rfl)
@[simp] theorem State.setMacs_lan (s : State) (x : Tab MacRun) : (s.setMacs x).lan = s.lan := (rfl)
@[simp] theorem State.setMacs_eyeSec (s : State) (x : Tab MacRun) : (s.setMacs x).eyeSec = s.eyeSec := (rfl)
@[simp] theorem State.setMacs_sdi (s : State) (x : Tab MacRun) : (s.setMacs x).sdi = s.sdi := (rfl)
@[simp] theorem State.setMacs_streams (s : State) (x : Tab MacRun) : (s.setMacs x).streams = s.streams := (rfl)
@[simp] theorem State.setMacs_fst (s : State) (x : Tab MacRun) : (s.setMacs x).fst = s.fst := (rfl)
@[simp] theorem State.setMacs_cmp (s : State) (x : Tab MacRun) : (s.setMacs x).cmp = s.cmp := (rfl)
@[simp] theorem State.setMacs_lin (s : State) (x : Tab MacRun) : (s.setMacs x).lin = s.lin := (rfl)
@[simp] theorem State.setMacs_tables (s : State) (x : Tab MacRun) : (s.setMacs x).tables = s.tables := (rfl)
@[simp] theorem State.setMacs_aud (s : State) (x : Tab MacRun) : (s.setMacs x).aud = s.aud := (rfl)
@[simp] theorem State.setMacs_med (s : State) (x : Tab MacRun) : (s.setMacs x).med = s.med := (rfl)
@[simp] theorem State.setMacs_win (s : State) (x : Tab MacRun) : (s.setMacs x).win = s.win := (rfl)
@[simp] theorem State.setMacs_rows (s : State) (x : Tab MacRun) : (s.setMacs x).rows = s.rows := (rfl)
@[simp] theorem State.setMacs_drc (s : State) (x : Tab MacRun) : (s.setMacs x).drc = s.drc := (rfl)
@[simp] theorem State.setMacs_prot (s : State) (x : Tab MacRun) : (s.setMacs x).prot = s.prot := (rfl)
@[simp] theorem State.setMacs_fresh (s : State) (x : Tab MacRun) : (s.setMacs x).fresh = s.fresh := (rfl)
@[simp] theorem State.setMacs_dram (s : State) (x : Tab MacRun) : (s.setMacs x).dram = s.dram := (rfl)
@[simp] theorem State.setMacs_tcm (s : State) (x : Tab MacRun) : (s.setMacs x).tcm = s.tcm := (rfl)
@[simp] theorem State.setMacs_freeCtr (s : State) (x : Tab MacRun) : (s.setMacs x).freeCtr = s.freeCtr := (rfl)
@[simp] theorem State.setMacs_out (s : State) (x : Tab MacRun) : (s.setMacs x).out = s.out := (rfl)
@[simp] theorem State.setMacs_pending (s : State) (x : Tab MacRun) : (s.setMacs x).pending = s.pending := (rfl)

@[simp] theorem State.setMed_med (s : State) (x : MedState) : (s.setMed x).med = x := (rfl)
@[simp] theorem State.setMed_dev (s : State) (x : MedState) : (s.setMed x).dev = s.dev := (rfl)
@[simp] theorem State.setMed_now (s : State) (x : MedState) : (s.setMed x).now = s.now := (rfl)
@[simp] theorem State.setMed_regs (s : State) (x : MedState) : (s.setMed x).regs = s.regs := (rfl)
@[simp] theorem State.setMed_snap (s : State) (x : MedState) : (s.setMed x).snap = s.snap := (rfl)
@[simp] theorem State.setMed_pins (s : State) (x : MedState) : (s.setMed x).pins = s.pins := (rfl)
@[simp] theorem State.setMed_ctl (s : State) (x : MedState) : (s.setMed x).ctl = s.ctl := (rfl)
@[simp] theorem State.setMed_boot (s : State) (x : MedState) : (s.setMed x).boot = s.boot := (rfl)
@[simp] theorem State.setMed_power (s : State) (x : MedState) : (s.setMed x).power = s.power := (rfl)
@[simp] theorem State.setMed_flt (s : State) (x : MedState) : (s.setMed x).flt = s.flt := (rfl)
@[simp] theorem State.setMed_mnt (s : State) (x : MedState) : (s.setMed x).mnt = s.mnt := (rfl)
@[simp] theorem State.setMed_life (s : State) (x : MedState) : (s.setMed x).life = s.life := (rfl)
@[simp] theorem State.setMed_pcie (s : State) (x : MedState) : (s.setMed x).pcie = s.pcie := (rfl)
@[simp] theorem State.setMed_card (s : State) (x : MedState) : (s.setMed x).card = s.card := (rfl)
@[simp] theorem State.setMed_dma (s : State) (x : MedState) : (s.setMed x).dma = s.dma := (rfl)
@[simp] theorem State.setMed_pwmbx (s : State) (x : MedState) : (s.setMed x).pwmbx = s.pwmbx := (rfl)
@[simp] theorem State.setMed_flash (s : State) (x : MedState) : (s.setMed x).flash = s.flash := (rfl)
@[simp] theorem State.setMed_twn (s : State) (x : MedState) : (s.setMed x).twn = s.twn := (rfl)
@[simp] theorem State.setMed_ptp (s : State) (x : MedState) : (s.setMed x).ptp = s.ptp := (rfl)
@[simp] theorem State.setMed_tmg (s : State) (x : MedState) : (s.setMed x).tmg = s.tmg := (rfl)
@[simp] theorem State.setMed_syn (s : State) (x : MedState) : (s.setMed x).syn = s.syn := (rfl)
@[simp] theorem State.setMed_cfg (s : State) (x : MedState) : (s.setMed x).cfg = s.cfg := (rfl)
@[simp] theorem State.setMed_xpt (s : State) (x : MedState) : (s.setMed x).xpt = s.xpt := (rfl)
@[simp] theorem State.setMed_lan (s : State) (x : MedState) : (s.setMed x).lan = s.lan := (rfl)
@[simp] theorem State.setMed_eyeSec (s : State) (x : MedState) : (s.setMed x).eyeSec = s.eyeSec := (rfl)
@[simp] theorem State.setMed_sdi (s : State) (x : MedState) : (s.setMed x).sdi = s.sdi := (rfl)
@[simp] theorem State.setMed_streams (s : State) (x : MedState) : (s.setMed x).streams = s.streams := (rfl)
@[simp] theorem State.setMed_fst (s : State) (x : MedState) : (s.setMed x).fst = s.fst := (rfl)
@[simp] theorem State.setMed_cmp (s : State) (x : MedState) : (s.setMed x).cmp = s.cmp := (rfl)
@[simp] theorem State.setMed_lin (s : State) (x : MedState) : (s.setMed x).lin = s.lin := (rfl)
@[simp] theorem State.setMed_tables (s : State) (x : MedState) : (s.setMed x).tables = s.tables := (rfl)
@[simp] theorem State.setMed_aud (s : State) (x : MedState) : (s.setMed x).aud = s.aud := (rfl)
@[simp] theorem State.setMed_mac (s : State) (x : MedState) : (s.setMed x).mac = s.mac := (rfl)
@[simp] theorem State.setMed_win (s : State) (x : MedState) : (s.setMed x).win = s.win := (rfl)
@[simp] theorem State.setMed_rows (s : State) (x : MedState) : (s.setMed x).rows = s.rows := (rfl)
@[simp] theorem State.setMed_drc (s : State) (x : MedState) : (s.setMed x).drc = s.drc := (rfl)
@[simp] theorem State.setMed_prot (s : State) (x : MedState) : (s.setMed x).prot = s.prot := (rfl)
@[simp] theorem State.setMed_fresh (s : State) (x : MedState) : (s.setMed x).fresh = s.fresh := (rfl)
@[simp] theorem State.setMed_dram (s : State) (x : MedState) : (s.setMed x).dram = s.dram := (rfl)
@[simp] theorem State.setMed_tcm (s : State) (x : MedState) : (s.setMed x).tcm = s.tcm := (rfl)
@[simp] theorem State.setMed_freeCtr (s : State) (x : MedState) : (s.setMed x).freeCtr = s.freeCtr := (rfl)
@[simp] theorem State.setMed_out (s : State) (x : MedState) : (s.setMed x).out = s.out := (rfl)
@[simp] theorem State.setMed_pending (s : State) (x : MedState) : (s.setMed x).pending = s.pending := (rfl)

@[simp] theorem State.setWin_win (s : State) (x : Tab SdiLine) : (s.setWin x).win = x := (rfl)
@[simp] theorem State.setWin_dev (s : State) (x : Tab SdiLine) : (s.setWin x).dev = s.dev := (rfl)
@[simp] theorem State.setWin_now (s : State) (x : Tab SdiLine) : (s.setWin x).now = s.now := (rfl)
@[simp] theorem State.setWin_regs (s : State) (x : Tab SdiLine) : (s.setWin x).regs = s.regs := (rfl)
@[simp] theorem State.setWin_snap (s : State) (x : Tab SdiLine) : (s.setWin x).snap = s.snap := (rfl)
@[simp] theorem State.setWin_pins (s : State) (x : Tab SdiLine) : (s.setWin x).pins = s.pins := (rfl)
@[simp] theorem State.setWin_ctl (s : State) (x : Tab SdiLine) : (s.setWin x).ctl = s.ctl := (rfl)
@[simp] theorem State.setWin_boot (s : State) (x : Tab SdiLine) : (s.setWin x).boot = s.boot := (rfl)
@[simp] theorem State.setWin_power (s : State) (x : Tab SdiLine) : (s.setWin x).power = s.power := (rfl)
@[simp] theorem State.setWin_flt (s : State) (x : Tab SdiLine) : (s.setWin x).flt = s.flt := (rfl)
@[simp] theorem State.setWin_mnt (s : State) (x : Tab SdiLine) : (s.setWin x).mnt = s.mnt := (rfl)
@[simp] theorem State.setWin_life (s : State) (x : Tab SdiLine) : (s.setWin x).life = s.life := (rfl)
@[simp] theorem State.setWin_pcie (s : State) (x : Tab SdiLine) : (s.setWin x).pcie = s.pcie := (rfl)
@[simp] theorem State.setWin_card (s : State) (x : Tab SdiLine) : (s.setWin x).card = s.card := (rfl)
@[simp] theorem State.setWin_dma (s : State) (x : Tab SdiLine) : (s.setWin x).dma = s.dma := (rfl)
@[simp] theorem State.setWin_pwmbx (s : State) (x : Tab SdiLine) : (s.setWin x).pwmbx = s.pwmbx := (rfl)
@[simp] theorem State.setWin_flash (s : State) (x : Tab SdiLine) : (s.setWin x).flash = s.flash := (rfl)
@[simp] theorem State.setWin_twn (s : State) (x : Tab SdiLine) : (s.setWin x).twn = s.twn := (rfl)
@[simp] theorem State.setWin_ptp (s : State) (x : Tab SdiLine) : (s.setWin x).ptp = s.ptp := (rfl)
@[simp] theorem State.setWin_tmg (s : State) (x : Tab SdiLine) : (s.setWin x).tmg = s.tmg := (rfl)
@[simp] theorem State.setWin_syn (s : State) (x : Tab SdiLine) : (s.setWin x).syn = s.syn := (rfl)
@[simp] theorem State.setWin_cfg (s : State) (x : Tab SdiLine) : (s.setWin x).cfg = s.cfg := (rfl)
@[simp] theorem State.setWin_xpt (s : State) (x : Tab SdiLine) : (s.setWin x).xpt = s.xpt := (rfl)
@[simp] theorem State.setWin_lan (s : State) (x : Tab SdiLine) : (s.setWin x).lan = s.lan := (rfl)
@[simp] theorem State.setWin_eyeSec (s : State) (x : Tab SdiLine) : (s.setWin x).eyeSec = s.eyeSec := (rfl)
@[simp] theorem State.setWin_sdi (s : State) (x : Tab SdiLine) : (s.setWin x).sdi = s.sdi := (rfl)
@[simp] theorem State.setWin_streams (s : State) (x : Tab SdiLine) : (s.setWin x).streams = s.streams := (rfl)
@[simp] theorem State.setWin_fst (s : State) (x : Tab SdiLine) : (s.setWin x).fst = s.fst := (rfl)
@[simp] theorem State.setWin_cmp (s : State) (x : Tab SdiLine) : (s.setWin x).cmp = s.cmp := (rfl)
@[simp] theorem State.setWin_lin (s : State) (x : Tab SdiLine) : (s.setWin x).lin = s.lin := (rfl)
@[simp] theorem State.setWin_tables (s : State) (x : Tab SdiLine) : (s.setWin x).tables = s.tables := (rfl)
@[simp] theorem State.setWin_aud (s : State) (x : Tab SdiLine) : (s.setWin x).aud = s.aud := (rfl)
@[simp] theorem State.setWin_mac (s : State) (x : Tab SdiLine) : (s.setWin x).mac = s.mac := (rfl)
@[simp] theorem State.setWin_med (s : State) (x : Tab SdiLine) : (s.setWin x).med = s.med := (rfl)
@[simp] theorem State.setWin_rows (s : State) (x : Tab SdiLine) : (s.setWin x).rows = s.rows := (rfl)
@[simp] theorem State.setWin_drc (s : State) (x : Tab SdiLine) : (s.setWin x).drc = s.drc := (rfl)
@[simp] theorem State.setWin_prot (s : State) (x : Tab SdiLine) : (s.setWin x).prot = s.prot := (rfl)
@[simp] theorem State.setWin_fresh (s : State) (x : Tab SdiLine) : (s.setWin x).fresh = s.fresh := (rfl)
@[simp] theorem State.setWin_dram (s : State) (x : Tab SdiLine) : (s.setWin x).dram = s.dram := (rfl)
@[simp] theorem State.setWin_tcm (s : State) (x : Tab SdiLine) : (s.setWin x).tcm = s.tcm := (rfl)
@[simp] theorem State.setWin_freeCtr (s : State) (x : Tab SdiLine) : (s.setWin x).freeCtr = s.freeCtr := (rfl)
@[simp] theorem State.setWin_out (s : State) (x : Tab SdiLine) : (s.setWin x).out = s.out := (rfl)
@[simp] theorem State.setWin_pending (s : State) (x : Tab SdiLine) : (s.setWin x).pending = s.pending := (rfl)

@[simp] theorem State.setRows_rows (s : State) (x : Tab (List Nat)) : (s.setRows x).rows = x := (rfl)
@[simp] theorem State.setRows_dev (s : State) (x : Tab (List Nat)) : (s.setRows x).dev = s.dev := (rfl)
@[simp] theorem State.setRows_now (s : State) (x : Tab (List Nat)) : (s.setRows x).now = s.now := (rfl)
@[simp] theorem State.setRows_regs (s : State) (x : Tab (List Nat)) : (s.setRows x).regs = s.regs := (rfl)
@[simp] theorem State.setRows_snap (s : State) (x : Tab (List Nat)) : (s.setRows x).snap = s.snap := (rfl)
@[simp] theorem State.setRows_pins (s : State) (x : Tab (List Nat)) : (s.setRows x).pins = s.pins := (rfl)
@[simp] theorem State.setRows_ctl (s : State) (x : Tab (List Nat)) : (s.setRows x).ctl = s.ctl := (rfl)
@[simp] theorem State.setRows_boot (s : State) (x : Tab (List Nat)) : (s.setRows x).boot = s.boot := (rfl)
@[simp] theorem State.setRows_power (s : State) (x : Tab (List Nat)) : (s.setRows x).power = s.power := (rfl)
@[simp] theorem State.setRows_flt (s : State) (x : Tab (List Nat)) : (s.setRows x).flt = s.flt := (rfl)
@[simp] theorem State.setRows_mnt (s : State) (x : Tab (List Nat)) : (s.setRows x).mnt = s.mnt := (rfl)
@[simp] theorem State.setRows_life (s : State) (x : Tab (List Nat)) : (s.setRows x).life = s.life := (rfl)
@[simp] theorem State.setRows_pcie (s : State) (x : Tab (List Nat)) : (s.setRows x).pcie = s.pcie := (rfl)
@[simp] theorem State.setRows_card (s : State) (x : Tab (List Nat)) : (s.setRows x).card = s.card := (rfl)
@[simp] theorem State.setRows_dma (s : State) (x : Tab (List Nat)) : (s.setRows x).dma = s.dma := (rfl)
@[simp] theorem State.setRows_pwmbx (s : State) (x : Tab (List Nat)) : (s.setRows x).pwmbx = s.pwmbx := (rfl)
@[simp] theorem State.setRows_flash (s : State) (x : Tab (List Nat)) : (s.setRows x).flash = s.flash := (rfl)
@[simp] theorem State.setRows_twn (s : State) (x : Tab (List Nat)) : (s.setRows x).twn = s.twn := (rfl)
@[simp] theorem State.setRows_ptp (s : State) (x : Tab (List Nat)) : (s.setRows x).ptp = s.ptp := (rfl)
@[simp] theorem State.setRows_tmg (s : State) (x : Tab (List Nat)) : (s.setRows x).tmg = s.tmg := (rfl)
@[simp] theorem State.setRows_syn (s : State) (x : Tab (List Nat)) : (s.setRows x).syn = s.syn := (rfl)
@[simp] theorem State.setRows_cfg (s : State) (x : Tab (List Nat)) : (s.setRows x).cfg = s.cfg := (rfl)
@[simp] theorem State.setRows_xpt (s : State) (x : Tab (List Nat)) : (s.setRows x).xpt = s.xpt := (rfl)
@[simp] theorem State.setRows_lan (s : State) (x : Tab (List Nat)) : (s.setRows x).lan = s.lan := (rfl)
@[simp] theorem State.setRows_eyeSec (s : State) (x : Tab (List Nat)) : (s.setRows x).eyeSec = s.eyeSec := (rfl)
@[simp] theorem State.setRows_sdi (s : State) (x : Tab (List Nat)) : (s.setRows x).sdi = s.sdi := (rfl)
@[simp] theorem State.setRows_streams (s : State) (x : Tab (List Nat)) : (s.setRows x).streams = s.streams := (rfl)
@[simp] theorem State.setRows_fst (s : State) (x : Tab (List Nat)) : (s.setRows x).fst = s.fst := (rfl)
@[simp] theorem State.setRows_cmp (s : State) (x : Tab (List Nat)) : (s.setRows x).cmp = s.cmp := (rfl)
@[simp] theorem State.setRows_lin (s : State) (x : Tab (List Nat)) : (s.setRows x).lin = s.lin := (rfl)
@[simp] theorem State.setRows_tables (s : State) (x : Tab (List Nat)) : (s.setRows x).tables = s.tables := (rfl)
@[simp] theorem State.setRows_aud (s : State) (x : Tab (List Nat)) : (s.setRows x).aud = s.aud := (rfl)
@[simp] theorem State.setRows_mac (s : State) (x : Tab (List Nat)) : (s.setRows x).mac = s.mac := (rfl)
@[simp] theorem State.setRows_med (s : State) (x : Tab (List Nat)) : (s.setRows x).med = s.med := (rfl)
@[simp] theorem State.setRows_win (s : State) (x : Tab (List Nat)) : (s.setRows x).win = s.win := (rfl)
@[simp] theorem State.setRows_drc (s : State) (x : Tab (List Nat)) : (s.setRows x).drc = s.drc := (rfl)
@[simp] theorem State.setRows_prot (s : State) (x : Tab (List Nat)) : (s.setRows x).prot = s.prot := (rfl)
@[simp] theorem State.setRows_fresh (s : State) (x : Tab (List Nat)) : (s.setRows x).fresh = s.fresh := (rfl)
@[simp] theorem State.setRows_dram (s : State) (x : Tab (List Nat)) : (s.setRows x).dram = s.dram := (rfl)
@[simp] theorem State.setRows_tcm (s : State) (x : Tab (List Nat)) : (s.setRows x).tcm = s.tcm := (rfl)
@[simp] theorem State.setRows_freeCtr (s : State) (x : Tab (List Nat)) : (s.setRows x).freeCtr = s.freeCtr := (rfl)
@[simp] theorem State.setRows_out (s : State) (x : Tab (List Nat)) : (s.setRows x).out = s.out := (rfl)
@[simp] theorem State.setRows_pending (s : State) (x : Tab (List Nat)) : (s.setRows x).pending = s.pending := (rfl)

@[simp] theorem State.setDrcs_drc (s : State) (x : DrcState) : (s.setDrcs x).drc = x := (rfl)
@[simp] theorem State.setDrcs_dev (s : State) (x : DrcState) : (s.setDrcs x).dev = s.dev := (rfl)
@[simp] theorem State.setDrcs_now (s : State) (x : DrcState) : (s.setDrcs x).now = s.now := (rfl)
@[simp] theorem State.setDrcs_regs (s : State) (x : DrcState) : (s.setDrcs x).regs = s.regs := (rfl)
@[simp] theorem State.setDrcs_snap (s : State) (x : DrcState) : (s.setDrcs x).snap = s.snap := (rfl)
@[simp] theorem State.setDrcs_pins (s : State) (x : DrcState) : (s.setDrcs x).pins = s.pins := (rfl)
@[simp] theorem State.setDrcs_ctl (s : State) (x : DrcState) : (s.setDrcs x).ctl = s.ctl := (rfl)
@[simp] theorem State.setDrcs_boot (s : State) (x : DrcState) : (s.setDrcs x).boot = s.boot := (rfl)
@[simp] theorem State.setDrcs_power (s : State) (x : DrcState) : (s.setDrcs x).power = s.power := (rfl)
@[simp] theorem State.setDrcs_flt (s : State) (x : DrcState) : (s.setDrcs x).flt = s.flt := (rfl)
@[simp] theorem State.setDrcs_mnt (s : State) (x : DrcState) : (s.setDrcs x).mnt = s.mnt := (rfl)
@[simp] theorem State.setDrcs_life (s : State) (x : DrcState) : (s.setDrcs x).life = s.life := (rfl)
@[simp] theorem State.setDrcs_pcie (s : State) (x : DrcState) : (s.setDrcs x).pcie = s.pcie := (rfl)
@[simp] theorem State.setDrcs_card (s : State) (x : DrcState) : (s.setDrcs x).card = s.card := (rfl)
@[simp] theorem State.setDrcs_dma (s : State) (x : DrcState) : (s.setDrcs x).dma = s.dma := (rfl)
@[simp] theorem State.setDrcs_pwmbx (s : State) (x : DrcState) : (s.setDrcs x).pwmbx = s.pwmbx := (rfl)
@[simp] theorem State.setDrcs_flash (s : State) (x : DrcState) : (s.setDrcs x).flash = s.flash := (rfl)
@[simp] theorem State.setDrcs_twn (s : State) (x : DrcState) : (s.setDrcs x).twn = s.twn := (rfl)
@[simp] theorem State.setDrcs_ptp (s : State) (x : DrcState) : (s.setDrcs x).ptp = s.ptp := (rfl)
@[simp] theorem State.setDrcs_tmg (s : State) (x : DrcState) : (s.setDrcs x).tmg = s.tmg := (rfl)
@[simp] theorem State.setDrcs_syn (s : State) (x : DrcState) : (s.setDrcs x).syn = s.syn := (rfl)
@[simp] theorem State.setDrcs_cfg (s : State) (x : DrcState) : (s.setDrcs x).cfg = s.cfg := (rfl)
@[simp] theorem State.setDrcs_xpt (s : State) (x : DrcState) : (s.setDrcs x).xpt = s.xpt := (rfl)
@[simp] theorem State.setDrcs_lan (s : State) (x : DrcState) : (s.setDrcs x).lan = s.lan := (rfl)
@[simp] theorem State.setDrcs_eyeSec (s : State) (x : DrcState) : (s.setDrcs x).eyeSec = s.eyeSec := (rfl)
@[simp] theorem State.setDrcs_sdi (s : State) (x : DrcState) : (s.setDrcs x).sdi = s.sdi := (rfl)
@[simp] theorem State.setDrcs_streams (s : State) (x : DrcState) : (s.setDrcs x).streams = s.streams := (rfl)
@[simp] theorem State.setDrcs_fst (s : State) (x : DrcState) : (s.setDrcs x).fst = s.fst := (rfl)
@[simp] theorem State.setDrcs_cmp (s : State) (x : DrcState) : (s.setDrcs x).cmp = s.cmp := (rfl)
@[simp] theorem State.setDrcs_lin (s : State) (x : DrcState) : (s.setDrcs x).lin = s.lin := (rfl)
@[simp] theorem State.setDrcs_tables (s : State) (x : DrcState) : (s.setDrcs x).tables = s.tables := (rfl)
@[simp] theorem State.setDrcs_aud (s : State) (x : DrcState) : (s.setDrcs x).aud = s.aud := (rfl)
@[simp] theorem State.setDrcs_mac (s : State) (x : DrcState) : (s.setDrcs x).mac = s.mac := (rfl)
@[simp] theorem State.setDrcs_med (s : State) (x : DrcState) : (s.setDrcs x).med = s.med := (rfl)
@[simp] theorem State.setDrcs_win (s : State) (x : DrcState) : (s.setDrcs x).win = s.win := (rfl)
@[simp] theorem State.setDrcs_rows (s : State) (x : DrcState) : (s.setDrcs x).rows = s.rows := (rfl)
@[simp] theorem State.setDrcs_prot (s : State) (x : DrcState) : (s.setDrcs x).prot = s.prot := (rfl)
@[simp] theorem State.setDrcs_fresh (s : State) (x : DrcState) : (s.setDrcs x).fresh = s.fresh := (rfl)
@[simp] theorem State.setDrcs_dram (s : State) (x : DrcState) : (s.setDrcs x).dram = s.dram := (rfl)
@[simp] theorem State.setDrcs_tcm (s : State) (x : DrcState) : (s.setDrcs x).tcm = s.tcm := (rfl)
@[simp] theorem State.setDrcs_freeCtr (s : State) (x : DrcState) : (s.setDrcs x).freeCtr = s.freeCtr := (rfl)
@[simp] theorem State.setDrcs_out (s : State) (x : DrcState) : (s.setDrcs x).out = s.out := (rfl)
@[simp] theorem State.setDrcs_pending (s : State) (x : DrcState) : (s.setDrcs x).pending = s.pending := (rfl)

@[simp] theorem State.setProt_prot (s : State) (x : Nat × Nat) : (s.setProt x).prot = x := (rfl)
@[simp] theorem State.setProt_dev (s : State) (x : Nat × Nat) : (s.setProt x).dev = s.dev := (rfl)
@[simp] theorem State.setProt_now (s : State) (x : Nat × Nat) : (s.setProt x).now = s.now := (rfl)
@[simp] theorem State.setProt_regs (s : State) (x : Nat × Nat) : (s.setProt x).regs = s.regs := (rfl)
@[simp] theorem State.setProt_snap (s : State) (x : Nat × Nat) : (s.setProt x).snap = s.snap := (rfl)
@[simp] theorem State.setProt_pins (s : State) (x : Nat × Nat) : (s.setProt x).pins = s.pins := (rfl)
@[simp] theorem State.setProt_ctl (s : State) (x : Nat × Nat) : (s.setProt x).ctl = s.ctl := (rfl)
@[simp] theorem State.setProt_boot (s : State) (x : Nat × Nat) : (s.setProt x).boot = s.boot := (rfl)
@[simp] theorem State.setProt_power (s : State) (x : Nat × Nat) : (s.setProt x).power = s.power := (rfl)
@[simp] theorem State.setProt_flt (s : State) (x : Nat × Nat) : (s.setProt x).flt = s.flt := (rfl)
@[simp] theorem State.setProt_mnt (s : State) (x : Nat × Nat) : (s.setProt x).mnt = s.mnt := (rfl)
@[simp] theorem State.setProt_life (s : State) (x : Nat × Nat) : (s.setProt x).life = s.life := (rfl)
@[simp] theorem State.setProt_pcie (s : State) (x : Nat × Nat) : (s.setProt x).pcie = s.pcie := (rfl)
@[simp] theorem State.setProt_card (s : State) (x : Nat × Nat) : (s.setProt x).card = s.card := (rfl)
@[simp] theorem State.setProt_dma (s : State) (x : Nat × Nat) : (s.setProt x).dma = s.dma := (rfl)
@[simp] theorem State.setProt_pwmbx (s : State) (x : Nat × Nat) : (s.setProt x).pwmbx = s.pwmbx := (rfl)
@[simp] theorem State.setProt_flash (s : State) (x : Nat × Nat) : (s.setProt x).flash = s.flash := (rfl)
@[simp] theorem State.setProt_twn (s : State) (x : Nat × Nat) : (s.setProt x).twn = s.twn := (rfl)
@[simp] theorem State.setProt_ptp (s : State) (x : Nat × Nat) : (s.setProt x).ptp = s.ptp := (rfl)
@[simp] theorem State.setProt_tmg (s : State) (x : Nat × Nat) : (s.setProt x).tmg = s.tmg := (rfl)
@[simp] theorem State.setProt_syn (s : State) (x : Nat × Nat) : (s.setProt x).syn = s.syn := (rfl)
@[simp] theorem State.setProt_cfg (s : State) (x : Nat × Nat) : (s.setProt x).cfg = s.cfg := (rfl)
@[simp] theorem State.setProt_xpt (s : State) (x : Nat × Nat) : (s.setProt x).xpt = s.xpt := (rfl)
@[simp] theorem State.setProt_lan (s : State) (x : Nat × Nat) : (s.setProt x).lan = s.lan := (rfl)
@[simp] theorem State.setProt_eyeSec (s : State) (x : Nat × Nat) : (s.setProt x).eyeSec = s.eyeSec := (rfl)
@[simp] theorem State.setProt_sdi (s : State) (x : Nat × Nat) : (s.setProt x).sdi = s.sdi := (rfl)
@[simp] theorem State.setProt_streams (s : State) (x : Nat × Nat) : (s.setProt x).streams = s.streams := (rfl)
@[simp] theorem State.setProt_fst (s : State) (x : Nat × Nat) : (s.setProt x).fst = s.fst := (rfl)
@[simp] theorem State.setProt_cmp (s : State) (x : Nat × Nat) : (s.setProt x).cmp = s.cmp := (rfl)
@[simp] theorem State.setProt_lin (s : State) (x : Nat × Nat) : (s.setProt x).lin = s.lin := (rfl)
@[simp] theorem State.setProt_tables (s : State) (x : Nat × Nat) : (s.setProt x).tables = s.tables := (rfl)
@[simp] theorem State.setProt_aud (s : State) (x : Nat × Nat) : (s.setProt x).aud = s.aud := (rfl)
@[simp] theorem State.setProt_mac (s : State) (x : Nat × Nat) : (s.setProt x).mac = s.mac := (rfl)
@[simp] theorem State.setProt_med (s : State) (x : Nat × Nat) : (s.setProt x).med = s.med := (rfl)
@[simp] theorem State.setProt_win (s : State) (x : Nat × Nat) : (s.setProt x).win = s.win := (rfl)
@[simp] theorem State.setProt_rows (s : State) (x : Nat × Nat) : (s.setProt x).rows = s.rows := (rfl)
@[simp] theorem State.setProt_drc (s : State) (x : Nat × Nat) : (s.setProt x).drc = s.drc := (rfl)
@[simp] theorem State.setProt_fresh (s : State) (x : Nat × Nat) : (s.setProt x).fresh = s.fresh := (rfl)
@[simp] theorem State.setProt_dram (s : State) (x : Nat × Nat) : (s.setProt x).dram = s.dram := (rfl)
@[simp] theorem State.setProt_tcm (s : State) (x : Nat × Nat) : (s.setProt x).tcm = s.tcm := (rfl)
@[simp] theorem State.setProt_freeCtr (s : State) (x : Nat × Nat) : (s.setProt x).freeCtr = s.freeCtr := (rfl)
@[simp] theorem State.setProt_out (s : State) (x : Nat × Nat) : (s.setProt x).out = s.out := (rfl)
@[simp] theorem State.setProt_pending (s : State) (x : Nat × Nat) : (s.setProt x).pending = s.pending := (rfl)

@[simp] theorem State.setFresh_fresh (s : State) (x : Fresh) : (s.setFresh x).fresh = x := (rfl)
@[simp] theorem State.setFresh_dev (s : State) (x : Fresh) : (s.setFresh x).dev = s.dev := (rfl)
@[simp] theorem State.setFresh_now (s : State) (x : Fresh) : (s.setFresh x).now = s.now := (rfl)
@[simp] theorem State.setFresh_regs (s : State) (x : Fresh) : (s.setFresh x).regs = s.regs := (rfl)
@[simp] theorem State.setFresh_snap (s : State) (x : Fresh) : (s.setFresh x).snap = s.snap := (rfl)
@[simp] theorem State.setFresh_pins (s : State) (x : Fresh) : (s.setFresh x).pins = s.pins := (rfl)
@[simp] theorem State.setFresh_ctl (s : State) (x : Fresh) : (s.setFresh x).ctl = s.ctl := (rfl)
@[simp] theorem State.setFresh_boot (s : State) (x : Fresh) : (s.setFresh x).boot = s.boot := (rfl)
@[simp] theorem State.setFresh_power (s : State) (x : Fresh) : (s.setFresh x).power = s.power := (rfl)
@[simp] theorem State.setFresh_flt (s : State) (x : Fresh) : (s.setFresh x).flt = s.flt := (rfl)
@[simp] theorem State.setFresh_mnt (s : State) (x : Fresh) : (s.setFresh x).mnt = s.mnt := (rfl)
@[simp] theorem State.setFresh_life (s : State) (x : Fresh) : (s.setFresh x).life = s.life := (rfl)
@[simp] theorem State.setFresh_pcie (s : State) (x : Fresh) : (s.setFresh x).pcie = s.pcie := (rfl)
@[simp] theorem State.setFresh_card (s : State) (x : Fresh) : (s.setFresh x).card = s.card := (rfl)
@[simp] theorem State.setFresh_dma (s : State) (x : Fresh) : (s.setFresh x).dma = s.dma := (rfl)
@[simp] theorem State.setFresh_pwmbx (s : State) (x : Fresh) : (s.setFresh x).pwmbx = s.pwmbx := (rfl)
@[simp] theorem State.setFresh_flash (s : State) (x : Fresh) : (s.setFresh x).flash = s.flash := (rfl)
@[simp] theorem State.setFresh_twn (s : State) (x : Fresh) : (s.setFresh x).twn = s.twn := (rfl)
@[simp] theorem State.setFresh_ptp (s : State) (x : Fresh) : (s.setFresh x).ptp = s.ptp := (rfl)
@[simp] theorem State.setFresh_tmg (s : State) (x : Fresh) : (s.setFresh x).tmg = s.tmg := (rfl)
@[simp] theorem State.setFresh_syn (s : State) (x : Fresh) : (s.setFresh x).syn = s.syn := (rfl)
@[simp] theorem State.setFresh_cfg (s : State) (x : Fresh) : (s.setFresh x).cfg = s.cfg := (rfl)
@[simp] theorem State.setFresh_xpt (s : State) (x : Fresh) : (s.setFresh x).xpt = s.xpt := (rfl)
@[simp] theorem State.setFresh_lan (s : State) (x : Fresh) : (s.setFresh x).lan = s.lan := (rfl)
@[simp] theorem State.setFresh_eyeSec (s : State) (x : Fresh) : (s.setFresh x).eyeSec = s.eyeSec := (rfl)
@[simp] theorem State.setFresh_sdi (s : State) (x : Fresh) : (s.setFresh x).sdi = s.sdi := (rfl)
@[simp] theorem State.setFresh_streams (s : State) (x : Fresh) : (s.setFresh x).streams = s.streams := (rfl)
@[simp] theorem State.setFresh_fst (s : State) (x : Fresh) : (s.setFresh x).fst = s.fst := (rfl)
@[simp] theorem State.setFresh_cmp (s : State) (x : Fresh) : (s.setFresh x).cmp = s.cmp := (rfl)
@[simp] theorem State.setFresh_lin (s : State) (x : Fresh) : (s.setFresh x).lin = s.lin := (rfl)
@[simp] theorem State.setFresh_tables (s : State) (x : Fresh) : (s.setFresh x).tables = s.tables := (rfl)
@[simp] theorem State.setFresh_aud (s : State) (x : Fresh) : (s.setFresh x).aud = s.aud := (rfl)
@[simp] theorem State.setFresh_mac (s : State) (x : Fresh) : (s.setFresh x).mac = s.mac := (rfl)
@[simp] theorem State.setFresh_med (s : State) (x : Fresh) : (s.setFresh x).med = s.med := (rfl)
@[simp] theorem State.setFresh_win (s : State) (x : Fresh) : (s.setFresh x).win = s.win := (rfl)
@[simp] theorem State.setFresh_rows (s : State) (x : Fresh) : (s.setFresh x).rows = s.rows := (rfl)
@[simp] theorem State.setFresh_drc (s : State) (x : Fresh) : (s.setFresh x).drc = s.drc := (rfl)
@[simp] theorem State.setFresh_prot (s : State) (x : Fresh) : (s.setFresh x).prot = s.prot := (rfl)
@[simp] theorem State.setFresh_dram (s : State) (x : Fresh) : (s.setFresh x).dram = s.dram := (rfl)
@[simp] theorem State.setFresh_tcm (s : State) (x : Fresh) : (s.setFresh x).tcm = s.tcm := (rfl)
@[simp] theorem State.setFresh_freeCtr (s : State) (x : Fresh) : (s.setFresh x).freeCtr = s.freeCtr := (rfl)
@[simp] theorem State.setFresh_out (s : State) (x : Fresh) : (s.setFresh x).out = s.out := (rfl)
@[simp] theorem State.setFresh_pending (s : State) (x : Fresh) : (s.setFresh x).pending = s.pending := (rfl)

@[simp] theorem State.setDram_dram (s : State) (x : Tab Byte) : (s.setDram x).dram = x := (rfl)
@[simp] theorem State.setDram_dev (s : State) (x : Tab Byte) : (s.setDram x).dev = s.dev := (rfl)
@[simp] theorem State.setDram_now (s : State) (x : Tab Byte) : (s.setDram x).now = s.now := (rfl)
@[simp] theorem State.setDram_regs (s : State) (x : Tab Byte) : (s.setDram x).regs = s.regs := (rfl)
@[simp] theorem State.setDram_snap (s : State) (x : Tab Byte) : (s.setDram x).snap = s.snap := (rfl)
@[simp] theorem State.setDram_pins (s : State) (x : Tab Byte) : (s.setDram x).pins = s.pins := (rfl)
@[simp] theorem State.setDram_ctl (s : State) (x : Tab Byte) : (s.setDram x).ctl = s.ctl := (rfl)
@[simp] theorem State.setDram_boot (s : State) (x : Tab Byte) : (s.setDram x).boot = s.boot := (rfl)
@[simp] theorem State.setDram_power (s : State) (x : Tab Byte) : (s.setDram x).power = s.power := (rfl)
@[simp] theorem State.setDram_flt (s : State) (x : Tab Byte) : (s.setDram x).flt = s.flt := (rfl)
@[simp] theorem State.setDram_mnt (s : State) (x : Tab Byte) : (s.setDram x).mnt = s.mnt := (rfl)
@[simp] theorem State.setDram_life (s : State) (x : Tab Byte) : (s.setDram x).life = s.life := (rfl)
@[simp] theorem State.setDram_pcie (s : State) (x : Tab Byte) : (s.setDram x).pcie = s.pcie := (rfl)
@[simp] theorem State.setDram_card (s : State) (x : Tab Byte) : (s.setDram x).card = s.card := (rfl)
@[simp] theorem State.setDram_dma (s : State) (x : Tab Byte) : (s.setDram x).dma = s.dma := (rfl)
@[simp] theorem State.setDram_pwmbx (s : State) (x : Tab Byte) : (s.setDram x).pwmbx = s.pwmbx := (rfl)
@[simp] theorem State.setDram_flash (s : State) (x : Tab Byte) : (s.setDram x).flash = s.flash := (rfl)
@[simp] theorem State.setDram_twn (s : State) (x : Tab Byte) : (s.setDram x).twn = s.twn := (rfl)
@[simp] theorem State.setDram_ptp (s : State) (x : Tab Byte) : (s.setDram x).ptp = s.ptp := (rfl)
@[simp] theorem State.setDram_tmg (s : State) (x : Tab Byte) : (s.setDram x).tmg = s.tmg := (rfl)
@[simp] theorem State.setDram_syn (s : State) (x : Tab Byte) : (s.setDram x).syn = s.syn := (rfl)
@[simp] theorem State.setDram_cfg (s : State) (x : Tab Byte) : (s.setDram x).cfg = s.cfg := (rfl)
@[simp] theorem State.setDram_xpt (s : State) (x : Tab Byte) : (s.setDram x).xpt = s.xpt := (rfl)
@[simp] theorem State.setDram_lan (s : State) (x : Tab Byte) : (s.setDram x).lan = s.lan := (rfl)
@[simp] theorem State.setDram_eyeSec (s : State) (x : Tab Byte) : (s.setDram x).eyeSec = s.eyeSec := (rfl)
@[simp] theorem State.setDram_sdi (s : State) (x : Tab Byte) : (s.setDram x).sdi = s.sdi := (rfl)
@[simp] theorem State.setDram_streams (s : State) (x : Tab Byte) : (s.setDram x).streams = s.streams := (rfl)
@[simp] theorem State.setDram_fst (s : State) (x : Tab Byte) : (s.setDram x).fst = s.fst := (rfl)
@[simp] theorem State.setDram_cmp (s : State) (x : Tab Byte) : (s.setDram x).cmp = s.cmp := (rfl)
@[simp] theorem State.setDram_lin (s : State) (x : Tab Byte) : (s.setDram x).lin = s.lin := (rfl)
@[simp] theorem State.setDram_tables (s : State) (x : Tab Byte) : (s.setDram x).tables = s.tables := (rfl)
@[simp] theorem State.setDram_aud (s : State) (x : Tab Byte) : (s.setDram x).aud = s.aud := (rfl)
@[simp] theorem State.setDram_mac (s : State) (x : Tab Byte) : (s.setDram x).mac = s.mac := (rfl)
@[simp] theorem State.setDram_med (s : State) (x : Tab Byte) : (s.setDram x).med = s.med := (rfl)
@[simp] theorem State.setDram_win (s : State) (x : Tab Byte) : (s.setDram x).win = s.win := (rfl)
@[simp] theorem State.setDram_rows (s : State) (x : Tab Byte) : (s.setDram x).rows = s.rows := (rfl)
@[simp] theorem State.setDram_drc (s : State) (x : Tab Byte) : (s.setDram x).drc = s.drc := (rfl)
@[simp] theorem State.setDram_prot (s : State) (x : Tab Byte) : (s.setDram x).prot = s.prot := (rfl)
@[simp] theorem State.setDram_fresh (s : State) (x : Tab Byte) : (s.setDram x).fresh = s.fresh := (rfl)
@[simp] theorem State.setDram_tcm (s : State) (x : Tab Byte) : (s.setDram x).tcm = s.tcm := (rfl)
@[simp] theorem State.setDram_freeCtr (s : State) (x : Tab Byte) : (s.setDram x).freeCtr = s.freeCtr := (rfl)
@[simp] theorem State.setDram_out (s : State) (x : Tab Byte) : (s.setDram x).out = s.out := (rfl)
@[simp] theorem State.setDram_pending (s : State) (x : Tab Byte) : (s.setDram x).pending = s.pending := (rfl)

@[simp] theorem State.setTcm_tcm (s : State) (x : Tab Byte) : (s.setTcm x).tcm = x := (rfl)
@[simp] theorem State.setTcm_dev (s : State) (x : Tab Byte) : (s.setTcm x).dev = s.dev := (rfl)
@[simp] theorem State.setTcm_now (s : State) (x : Tab Byte) : (s.setTcm x).now = s.now := (rfl)
@[simp] theorem State.setTcm_regs (s : State) (x : Tab Byte) : (s.setTcm x).regs = s.regs := (rfl)
@[simp] theorem State.setTcm_snap (s : State) (x : Tab Byte) : (s.setTcm x).snap = s.snap := (rfl)
@[simp] theorem State.setTcm_pins (s : State) (x : Tab Byte) : (s.setTcm x).pins = s.pins := (rfl)
@[simp] theorem State.setTcm_ctl (s : State) (x : Tab Byte) : (s.setTcm x).ctl = s.ctl := (rfl)
@[simp] theorem State.setTcm_boot (s : State) (x : Tab Byte) : (s.setTcm x).boot = s.boot := (rfl)
@[simp] theorem State.setTcm_power (s : State) (x : Tab Byte) : (s.setTcm x).power = s.power := (rfl)
@[simp] theorem State.setTcm_flt (s : State) (x : Tab Byte) : (s.setTcm x).flt = s.flt := (rfl)
@[simp] theorem State.setTcm_mnt (s : State) (x : Tab Byte) : (s.setTcm x).mnt = s.mnt := (rfl)
@[simp] theorem State.setTcm_life (s : State) (x : Tab Byte) : (s.setTcm x).life = s.life := (rfl)
@[simp] theorem State.setTcm_pcie (s : State) (x : Tab Byte) : (s.setTcm x).pcie = s.pcie := (rfl)
@[simp] theorem State.setTcm_card (s : State) (x : Tab Byte) : (s.setTcm x).card = s.card := (rfl)
@[simp] theorem State.setTcm_dma (s : State) (x : Tab Byte) : (s.setTcm x).dma = s.dma := (rfl)
@[simp] theorem State.setTcm_pwmbx (s : State) (x : Tab Byte) : (s.setTcm x).pwmbx = s.pwmbx := (rfl)
@[simp] theorem State.setTcm_flash (s : State) (x : Tab Byte) : (s.setTcm x).flash = s.flash := (rfl)
@[simp] theorem State.setTcm_twn (s : State) (x : Tab Byte) : (s.setTcm x).twn = s.twn := (rfl)
@[simp] theorem State.setTcm_ptp (s : State) (x : Tab Byte) : (s.setTcm x).ptp = s.ptp := (rfl)
@[simp] theorem State.setTcm_tmg (s : State) (x : Tab Byte) : (s.setTcm x).tmg = s.tmg := (rfl)
@[simp] theorem State.setTcm_syn (s : State) (x : Tab Byte) : (s.setTcm x).syn = s.syn := (rfl)
@[simp] theorem State.setTcm_cfg (s : State) (x : Tab Byte) : (s.setTcm x).cfg = s.cfg := (rfl)
@[simp] theorem State.setTcm_xpt (s : State) (x : Tab Byte) : (s.setTcm x).xpt = s.xpt := (rfl)
@[simp] theorem State.setTcm_lan (s : State) (x : Tab Byte) : (s.setTcm x).lan = s.lan := (rfl)
@[simp] theorem State.setTcm_eyeSec (s : State) (x : Tab Byte) : (s.setTcm x).eyeSec = s.eyeSec := (rfl)
@[simp] theorem State.setTcm_sdi (s : State) (x : Tab Byte) : (s.setTcm x).sdi = s.sdi := (rfl)
@[simp] theorem State.setTcm_streams (s : State) (x : Tab Byte) : (s.setTcm x).streams = s.streams := (rfl)
@[simp] theorem State.setTcm_fst (s : State) (x : Tab Byte) : (s.setTcm x).fst = s.fst := (rfl)
@[simp] theorem State.setTcm_cmp (s : State) (x : Tab Byte) : (s.setTcm x).cmp = s.cmp := (rfl)
@[simp] theorem State.setTcm_lin (s : State) (x : Tab Byte) : (s.setTcm x).lin = s.lin := (rfl)
@[simp] theorem State.setTcm_tables (s : State) (x : Tab Byte) : (s.setTcm x).tables = s.tables := (rfl)
@[simp] theorem State.setTcm_aud (s : State) (x : Tab Byte) : (s.setTcm x).aud = s.aud := (rfl)
@[simp] theorem State.setTcm_mac (s : State) (x : Tab Byte) : (s.setTcm x).mac = s.mac := (rfl)
@[simp] theorem State.setTcm_med (s : State) (x : Tab Byte) : (s.setTcm x).med = s.med := (rfl)
@[simp] theorem State.setTcm_win (s : State) (x : Tab Byte) : (s.setTcm x).win = s.win := (rfl)
@[simp] theorem State.setTcm_rows (s : State) (x : Tab Byte) : (s.setTcm x).rows = s.rows := (rfl)
@[simp] theorem State.setTcm_drc (s : State) (x : Tab Byte) : (s.setTcm x).drc = s.drc := (rfl)
@[simp] theorem State.setTcm_prot (s : State) (x : Tab Byte) : (s.setTcm x).prot = s.prot := (rfl)
@[simp] theorem State.setTcm_fresh (s : State) (x : Tab Byte) : (s.setTcm x).fresh = s.fresh := (rfl)
@[simp] theorem State.setTcm_dram (s : State) (x : Tab Byte) : (s.setTcm x).dram = s.dram := (rfl)
@[simp] theorem State.setTcm_freeCtr (s : State) (x : Tab Byte) : (s.setTcm x).freeCtr = s.freeCtr := (rfl)
@[simp] theorem State.setTcm_out (s : State) (x : Tab Byte) : (s.setTcm x).out = s.out := (rfl)
@[simp] theorem State.setTcm_pending (s : State) (x : Tab Byte) : (s.setTcm x).pending = s.pending := (rfl)

@[simp] theorem State.setFreeCtr_freeCtr (s : State) (x : Nat) : (s.setFreeCtr x).freeCtr = x := (rfl)
@[simp] theorem State.setFreeCtr_dev (s : State) (x : Nat) : (s.setFreeCtr x).dev = s.dev := (rfl)
@[simp] theorem State.setFreeCtr_now (s : State) (x : Nat) : (s.setFreeCtr x).now = s.now := (rfl)
@[simp] theorem State.setFreeCtr_regs (s : State) (x : Nat) : (s.setFreeCtr x).regs = s.regs := (rfl)
@[simp] theorem State.setFreeCtr_snap (s : State) (x : Nat) : (s.setFreeCtr x).snap = s.snap := (rfl)
@[simp] theorem State.setFreeCtr_pins (s : State) (x : Nat) : (s.setFreeCtr x).pins = s.pins := (rfl)
@[simp] theorem State.setFreeCtr_ctl (s : State) (x : Nat) : (s.setFreeCtr x).ctl = s.ctl := (rfl)
@[simp] theorem State.setFreeCtr_boot (s : State) (x : Nat) : (s.setFreeCtr x).boot = s.boot := (rfl)
@[simp] theorem State.setFreeCtr_power (s : State) (x : Nat) : (s.setFreeCtr x).power = s.power := (rfl)
@[simp] theorem State.setFreeCtr_flt (s : State) (x : Nat) : (s.setFreeCtr x).flt = s.flt := (rfl)
@[simp] theorem State.setFreeCtr_mnt (s : State) (x : Nat) : (s.setFreeCtr x).mnt = s.mnt := (rfl)
@[simp] theorem State.setFreeCtr_life (s : State) (x : Nat) : (s.setFreeCtr x).life = s.life := (rfl)
@[simp] theorem State.setFreeCtr_pcie (s : State) (x : Nat) : (s.setFreeCtr x).pcie = s.pcie := (rfl)
@[simp] theorem State.setFreeCtr_card (s : State) (x : Nat) : (s.setFreeCtr x).card = s.card := (rfl)
@[simp] theorem State.setFreeCtr_dma (s : State) (x : Nat) : (s.setFreeCtr x).dma = s.dma := (rfl)
@[simp] theorem State.setFreeCtr_pwmbx (s : State) (x : Nat) : (s.setFreeCtr x).pwmbx = s.pwmbx := (rfl)
@[simp] theorem State.setFreeCtr_flash (s : State) (x : Nat) : (s.setFreeCtr x).flash = s.flash := (rfl)
@[simp] theorem State.setFreeCtr_twn (s : State) (x : Nat) : (s.setFreeCtr x).twn = s.twn := (rfl)
@[simp] theorem State.setFreeCtr_ptp (s : State) (x : Nat) : (s.setFreeCtr x).ptp = s.ptp := (rfl)
@[simp] theorem State.setFreeCtr_tmg (s : State) (x : Nat) : (s.setFreeCtr x).tmg = s.tmg := (rfl)
@[simp] theorem State.setFreeCtr_syn (s : State) (x : Nat) : (s.setFreeCtr x).syn = s.syn := (rfl)
@[simp] theorem State.setFreeCtr_cfg (s : State) (x : Nat) : (s.setFreeCtr x).cfg = s.cfg := (rfl)
@[simp] theorem State.setFreeCtr_xpt (s : State) (x : Nat) : (s.setFreeCtr x).xpt = s.xpt := (rfl)
@[simp] theorem State.setFreeCtr_lan (s : State) (x : Nat) : (s.setFreeCtr x).lan = s.lan := (rfl)
@[simp] theorem State.setFreeCtr_eyeSec (s : State) (x : Nat) : (s.setFreeCtr x).eyeSec = s.eyeSec := (rfl)
@[simp] theorem State.setFreeCtr_sdi (s : State) (x : Nat) : (s.setFreeCtr x).sdi = s.sdi := (rfl)
@[simp] theorem State.setFreeCtr_streams (s : State) (x : Nat) : (s.setFreeCtr x).streams = s.streams := (rfl)
@[simp] theorem State.setFreeCtr_fst (s : State) (x : Nat) : (s.setFreeCtr x).fst = s.fst := (rfl)
@[simp] theorem State.setFreeCtr_cmp (s : State) (x : Nat) : (s.setFreeCtr x).cmp = s.cmp := (rfl)
@[simp] theorem State.setFreeCtr_lin (s : State) (x : Nat) : (s.setFreeCtr x).lin = s.lin := (rfl)
@[simp] theorem State.setFreeCtr_tables (s : State) (x : Nat) : (s.setFreeCtr x).tables = s.tables := (rfl)
@[simp] theorem State.setFreeCtr_aud (s : State) (x : Nat) : (s.setFreeCtr x).aud = s.aud := (rfl)
@[simp] theorem State.setFreeCtr_mac (s : State) (x : Nat) : (s.setFreeCtr x).mac = s.mac := (rfl)
@[simp] theorem State.setFreeCtr_med (s : State) (x : Nat) : (s.setFreeCtr x).med = s.med := (rfl)
@[simp] theorem State.setFreeCtr_win (s : State) (x : Nat) : (s.setFreeCtr x).win = s.win := (rfl)
@[simp] theorem State.setFreeCtr_rows (s : State) (x : Nat) : (s.setFreeCtr x).rows = s.rows := (rfl)
@[simp] theorem State.setFreeCtr_drc (s : State) (x : Nat) : (s.setFreeCtr x).drc = s.drc := (rfl)
@[simp] theorem State.setFreeCtr_prot (s : State) (x : Nat) : (s.setFreeCtr x).prot = s.prot := (rfl)
@[simp] theorem State.setFreeCtr_fresh (s : State) (x : Nat) : (s.setFreeCtr x).fresh = s.fresh := (rfl)
@[simp] theorem State.setFreeCtr_dram (s : State) (x : Nat) : (s.setFreeCtr x).dram = s.dram := (rfl)
@[simp] theorem State.setFreeCtr_tcm (s : State) (x : Nat) : (s.setFreeCtr x).tcm = s.tcm := (rfl)
@[simp] theorem State.setFreeCtr_out (s : State) (x : Nat) : (s.setFreeCtr x).out = s.out := (rfl)
@[simp] theorem State.setFreeCtr_pending (s : State) (x : Nat) : (s.setFreeCtr x).pending = s.pending := (rfl)

@[simp] theorem State.setOut_out (s : State) (x : List Output) : (s.setOut x).out = x := (rfl)
@[simp] theorem State.setOut_dev (s : State) (x : List Output) : (s.setOut x).dev = s.dev := (rfl)
@[simp] theorem State.setOut_now (s : State) (x : List Output) : (s.setOut x).now = s.now := (rfl)
@[simp] theorem State.setOut_regs (s : State) (x : List Output) : (s.setOut x).regs = s.regs := (rfl)
@[simp] theorem State.setOut_snap (s : State) (x : List Output) : (s.setOut x).snap = s.snap := (rfl)
@[simp] theorem State.setOut_pins (s : State) (x : List Output) : (s.setOut x).pins = s.pins := (rfl)
@[simp] theorem State.setOut_ctl (s : State) (x : List Output) : (s.setOut x).ctl = s.ctl := (rfl)
@[simp] theorem State.setOut_boot (s : State) (x : List Output) : (s.setOut x).boot = s.boot := (rfl)
@[simp] theorem State.setOut_power (s : State) (x : List Output) : (s.setOut x).power = s.power := (rfl)
@[simp] theorem State.setOut_flt (s : State) (x : List Output) : (s.setOut x).flt = s.flt := (rfl)
@[simp] theorem State.setOut_mnt (s : State) (x : List Output) : (s.setOut x).mnt = s.mnt := (rfl)
@[simp] theorem State.setOut_life (s : State) (x : List Output) : (s.setOut x).life = s.life := (rfl)
@[simp] theorem State.setOut_pcie (s : State) (x : List Output) : (s.setOut x).pcie = s.pcie := (rfl)
@[simp] theorem State.setOut_card (s : State) (x : List Output) : (s.setOut x).card = s.card := (rfl)
@[simp] theorem State.setOut_dma (s : State) (x : List Output) : (s.setOut x).dma = s.dma := (rfl)
@[simp] theorem State.setOut_pwmbx (s : State) (x : List Output) : (s.setOut x).pwmbx = s.pwmbx := (rfl)
@[simp] theorem State.setOut_flash (s : State) (x : List Output) : (s.setOut x).flash = s.flash := (rfl)
@[simp] theorem State.setOut_twn (s : State) (x : List Output) : (s.setOut x).twn = s.twn := (rfl)
@[simp] theorem State.setOut_ptp (s : State) (x : List Output) : (s.setOut x).ptp = s.ptp := (rfl)
@[simp] theorem State.setOut_tmg (s : State) (x : List Output) : (s.setOut x).tmg = s.tmg := (rfl)
@[simp] theorem State.setOut_syn (s : State) (x : List Output) : (s.setOut x).syn = s.syn := (rfl)
@[simp] theorem State.setOut_cfg (s : State) (x : List Output) : (s.setOut x).cfg = s.cfg := (rfl)
@[simp] theorem State.setOut_xpt (s : State) (x : List Output) : (s.setOut x).xpt = s.xpt := (rfl)
@[simp] theorem State.setOut_lan (s : State) (x : List Output) : (s.setOut x).lan = s.lan := (rfl)
@[simp] theorem State.setOut_eyeSec (s : State) (x : List Output) : (s.setOut x).eyeSec = s.eyeSec := (rfl)
@[simp] theorem State.setOut_sdi (s : State) (x : List Output) : (s.setOut x).sdi = s.sdi := (rfl)
@[simp] theorem State.setOut_streams (s : State) (x : List Output) : (s.setOut x).streams = s.streams := (rfl)
@[simp] theorem State.setOut_fst (s : State) (x : List Output) : (s.setOut x).fst = s.fst := (rfl)
@[simp] theorem State.setOut_cmp (s : State) (x : List Output) : (s.setOut x).cmp = s.cmp := (rfl)
@[simp] theorem State.setOut_lin (s : State) (x : List Output) : (s.setOut x).lin = s.lin := (rfl)
@[simp] theorem State.setOut_tables (s : State) (x : List Output) : (s.setOut x).tables = s.tables := (rfl)
@[simp] theorem State.setOut_aud (s : State) (x : List Output) : (s.setOut x).aud = s.aud := (rfl)
@[simp] theorem State.setOut_mac (s : State) (x : List Output) : (s.setOut x).mac = s.mac := (rfl)
@[simp] theorem State.setOut_med (s : State) (x : List Output) : (s.setOut x).med = s.med := (rfl)
@[simp] theorem State.setOut_win (s : State) (x : List Output) : (s.setOut x).win = s.win := (rfl)
@[simp] theorem State.setOut_rows (s : State) (x : List Output) : (s.setOut x).rows = s.rows := (rfl)
@[simp] theorem State.setOut_drc (s : State) (x : List Output) : (s.setOut x).drc = s.drc := (rfl)
@[simp] theorem State.setOut_prot (s : State) (x : List Output) : (s.setOut x).prot = s.prot := (rfl)
@[simp] theorem State.setOut_fresh (s : State) (x : List Output) : (s.setOut x).fresh = s.fresh := (rfl)
@[simp] theorem State.setOut_dram (s : State) (x : List Output) : (s.setOut x).dram = s.dram := (rfl)
@[simp] theorem State.setOut_tcm (s : State) (x : List Output) : (s.setOut x).tcm = s.tcm := (rfl)
@[simp] theorem State.setOut_freeCtr (s : State) (x : List Output) : (s.setOut x).freeCtr = s.freeCtr := (rfl)
@[simp] theorem State.setOut_pending (s : State) (x : List Output) : (s.setOut x).pending = s.pending := (rfl)

@[simp] theorem State.setPending_pending (s : State) (x : List Instr) : (s.setPending x).pending = x := (rfl)
@[simp] theorem State.setPending_dev (s : State) (x : List Instr) : (s.setPending x).dev = s.dev := (rfl)
@[simp] theorem State.setPending_now (s : State) (x : List Instr) : (s.setPending x).now = s.now := (rfl)
@[simp] theorem State.setPending_regs (s : State) (x : List Instr) : (s.setPending x).regs = s.regs := (rfl)
@[simp] theorem State.setPending_snap (s : State) (x : List Instr) : (s.setPending x).snap = s.snap := (rfl)
@[simp] theorem State.setPending_pins (s : State) (x : List Instr) : (s.setPending x).pins = s.pins := (rfl)
@[simp] theorem State.setPending_ctl (s : State) (x : List Instr) : (s.setPending x).ctl = s.ctl := (rfl)
@[simp] theorem State.setPending_boot (s : State) (x : List Instr) : (s.setPending x).boot = s.boot := (rfl)
@[simp] theorem State.setPending_power (s : State) (x : List Instr) : (s.setPending x).power = s.power := (rfl)
@[simp] theorem State.setPending_flt (s : State) (x : List Instr) : (s.setPending x).flt = s.flt := (rfl)
@[simp] theorem State.setPending_mnt (s : State) (x : List Instr) : (s.setPending x).mnt = s.mnt := (rfl)
@[simp] theorem State.setPending_life (s : State) (x : List Instr) : (s.setPending x).life = s.life := (rfl)
@[simp] theorem State.setPending_pcie (s : State) (x : List Instr) : (s.setPending x).pcie = s.pcie := (rfl)
@[simp] theorem State.setPending_card (s : State) (x : List Instr) : (s.setPending x).card = s.card := (rfl)
@[simp] theorem State.setPending_dma (s : State) (x : List Instr) : (s.setPending x).dma = s.dma := (rfl)
@[simp] theorem State.setPending_pwmbx (s : State) (x : List Instr) : (s.setPending x).pwmbx = s.pwmbx := (rfl)
@[simp] theorem State.setPending_flash (s : State) (x : List Instr) : (s.setPending x).flash = s.flash := (rfl)
@[simp] theorem State.setPending_twn (s : State) (x : List Instr) : (s.setPending x).twn = s.twn := (rfl)
@[simp] theorem State.setPending_ptp (s : State) (x : List Instr) : (s.setPending x).ptp = s.ptp := (rfl)
@[simp] theorem State.setPending_tmg (s : State) (x : List Instr) : (s.setPending x).tmg = s.tmg := (rfl)
@[simp] theorem State.setPending_syn (s : State) (x : List Instr) : (s.setPending x).syn = s.syn := (rfl)
@[simp] theorem State.setPending_cfg (s : State) (x : List Instr) : (s.setPending x).cfg = s.cfg := (rfl)
@[simp] theorem State.setPending_xpt (s : State) (x : List Instr) : (s.setPending x).xpt = s.xpt := (rfl)
@[simp] theorem State.setPending_lan (s : State) (x : List Instr) : (s.setPending x).lan = s.lan := (rfl)
@[simp] theorem State.setPending_eyeSec (s : State) (x : List Instr) : (s.setPending x).eyeSec = s.eyeSec := (rfl)
@[simp] theorem State.setPending_sdi (s : State) (x : List Instr) : (s.setPending x).sdi = s.sdi := (rfl)
@[simp] theorem State.setPending_streams (s : State) (x : List Instr) : (s.setPending x).streams = s.streams := (rfl)
@[simp] theorem State.setPending_fst (s : State) (x : List Instr) : (s.setPending x).fst = s.fst := (rfl)
@[simp] theorem State.setPending_cmp (s : State) (x : List Instr) : (s.setPending x).cmp = s.cmp := (rfl)
@[simp] theorem State.setPending_lin (s : State) (x : List Instr) : (s.setPending x).lin = s.lin := (rfl)
@[simp] theorem State.setPending_tables (s : State) (x : List Instr) : (s.setPending x).tables = s.tables := (rfl)
@[simp] theorem State.setPending_aud (s : State) (x : List Instr) : (s.setPending x).aud = s.aud := (rfl)
@[simp] theorem State.setPending_mac (s : State) (x : List Instr) : (s.setPending x).mac = s.mac := (rfl)
@[simp] theorem State.setPending_med (s : State) (x : List Instr) : (s.setPending x).med = s.med := (rfl)
@[simp] theorem State.setPending_win (s : State) (x : List Instr) : (s.setPending x).win = s.win := (rfl)
@[simp] theorem State.setPending_rows (s : State) (x : List Instr) : (s.setPending x).rows = s.rows := (rfl)
@[simp] theorem State.setPending_drc (s : State) (x : List Instr) : (s.setPending x).drc = s.drc := (rfl)
@[simp] theorem State.setPending_prot (s : State) (x : List Instr) : (s.setPending x).prot = s.prot := (rfl)
@[simp] theorem State.setPending_fresh (s : State) (x : List Instr) : (s.setPending x).fresh = s.fresh := (rfl)
@[simp] theorem State.setPending_dram (s : State) (x : List Instr) : (s.setPending x).dram = s.dram := (rfl)
@[simp] theorem State.setPending_tcm (s : State) (x : List Instr) : (s.setPending x).tcm = s.tcm := (rfl)
@[simp] theorem State.setPending_freeCtr (s : State) (x : List Instr) : (s.setPending x).freeCtr = s.freeCtr := (rfl)
@[simp] theorem State.setPending_out (s : State) (x : List Instr) : (s.setPending x).out = s.out := (rfl)

@[simp] theorem State.setKey_eq (s : State) (f : KeyState) : s.setKey f = s.setTwn { s.twn with key := f } := (rfl)
@[simp] theorem State.setWall_eq (s : State) (f : WallState) : s.setWall f = s.setTwn { s.twn with wall := f } := (rfl)
@[simp] theorem State.setArb_eq (s : State) (f : ArbState) : s.setArb f = s.setTwn { s.twn with arb := f } := (rfl)
@[simp] theorem State.setHo_eq (s : State) (f : HandoverState) : s.setHo f = s.setTwn { s.twn with ho := f } := (rfl)

/-! The events of a block, as the one operation. -/

@[simp] theorem State.topEvent_eq (s : State) (i : Nat) : s.topEvent i = s.event Reg.TOP_EVENT 1 (maskBit i) := (rfl)
@[simp] theorem State.fltEvent_eq (s : State) (i : Nat) : s.fltEvent i = s.event Reg.FLT_EVENT 2 (maskBit i) := (rfl)
@[simp] theorem State.twnEvent_eq (s : State) (i : Nat) : s.twnEvent i = s.event Reg.TWN_EVENT 3 (maskBit i) := (rfl)
@[simp] theorem State.synEvent_eq (s : State) (i : Nat) : s.synEvent i = s.event Reg.SYN_EVENT 5 (maskBit i) := (rfl)
@[simp] theorem State.ptpEvent_eq (s : State) (i : Nat) : s.ptpEvent i = s.event Reg.PTP_EVENT 6 (maskBit i) := (rfl)
@[simp] theorem State.xptEvent_eq (s : State) (i : Nat) : s.xptEvent i = s.event Reg.XPT_EVENT 7 (maskBit i) := (rfl)
@[simp] theorem State.fstEvent_eq (s : State) (i : Nat) : s.fstEvent i = s.event Reg.FST_EVENT 8 (maskBit i) := (rfl)
@[simp] theorem State.audEvent_eq (s : State) (i : Nat) : s.audEvent i = s.event Reg.AUD_EVENT 9 (maskBit i) := (rfl)
@[simp] theorem State.drcEvent_eq (s : State) (i : Nat) : s.drcEvent i = s.event Reg.DRC_EVENT 10 (maskBit i) := (rfl)
@[simp] theorem State.lifeEvent_eq (s : State) (i : Nat) : s.lifeEvent i = s.event Reg.LIFE_EVENT 11 (maskBit i) := (rfl)
@[simp] theorem State.cptEvent_eq (s : State) (i : Nat) : s.cptEvent i = s.event Reg.CPT_EVENT 0 (maskBit i) := (rfl)
@[simp] theorem State.dmaEvent_eq (s : State) (i : Nat) : s.dmaEvent i = s.event Reg.DMA_EVENT 48 (maskBit i) := (rfl)
@[simp] theorem State.cmpEvent_eq (s : State) (p i : Nat) : s.cmpEvent p i = s.event (Reg.CMP_EVENT p) 12 (maskBit i) := (rfl)
@[simp] theorem State.lanEvent_eq (s : State) (p i : Nat) : s.lanEvent p i = s.event (Reg.LAN_EVENT p) 13 (maskBit i) := (rfl)
@[simp] theorem State.sdiEvent_eq (s : State) (p i : Nat) : s.sdiEvent p i = s.event (Reg.SDI_EVENT p) 14 (maskBit i) := (rfl)
@[simp] theorem State.macEvent_eq (s : State) (p i : Nat) : s.macEvent p i = s.event (Reg.MAC_EVENT p) 14 (maskBit i) := (rfl)
@[simp] theorem State.rxcEvent_eq (s : State) (p i : Nat) : s.rxcEvent p i = s.event (Reg.RXC_EVENT p) 15 (maskBit i) := (rfl)
@[simp] theorem State.txcEvent_eq (s : State) (p i : Nat) : s.txcEvent p i = s.event (Reg.TXC_EVENT p) 15 (maskBit i) := (rfl)
@[simp] theorem State.setGrp_eq (s : State) (g : Nat) (x : Group) : s.setGrp g x = s.setTmg (Tab.put Group.init s.tmg g x) := (rfl)
@[simp] theorem State.setLane_eq (s : State) (i : Nat) (x : LaneRun) : s.setLane i x = s.setLan (Tab.put coldLane s.lan i x) := (rfl)
@[simp] theorem State.setRes_eq (s : State) (r : Nat) (x : MntRes) : s.setRes r x = s.setMnt (Tab.put idleRes s.mnt r x) := (rfl)
@[simp] theorem State.setStream_eq (s : State) (i : Nat) (x : StreamRun) : s.setStream i x = s.setStreams (Tab.put coldStream s.streams i x) := (rfl)
@[simp] theorem State.setCmp_eq (s : State) (c : Nat) (x : CmpRun) : s.setCmp c x = s.setCmps (Tab.put coldCmp s.cmp c x) := (rfl)
@[simp] theorem State.setMac_eq (s : State) (p : Nat) (x : MacRun) : s.setMac p x = s.setMacs (Tab.put coldMac s.mac p x) := (rfl)
@[simp] theorem State.setSdi_eq (s : State) (l : Nat) (x : SdiRun) : s.setSdi l x = s.setSdis (Tab.put coldSdi s.sdi l x) := (rfl)
@[simp] theorem State.setDrc_eq (s : State) (c : Nat) (x : DrcRun) : s.setDrc c x = s.setDrcs { s.drc with chans := Tab.put coldDrc s.drc.chans c x } := (rfl)
@[simp] theorem State.setChan_eq (s : State) (c : Nat) (x : Chan) : s.setChan c x = s.setDma { s.dma with chans := Tab.put idleChan s.dma.chans c x } := (rfl)
@[simp] theorem State.setRxc_eq (s : State) (n : Nat) (x : RxRun) : s.setRxc n x = s.setMed { s.med with rx := Tab.put coldRx s.med.rx n x } := (rfl)
@[simp] theorem State.setTxc_eq (s : State) (n : Nat) (x : TxRun) : s.setTxc n x = s.setMed { s.med with tx := Tab.put coldTx s.med.tx n x } := (rfl)
@[simp] theorem State.setPort_eq (s : State) (p : Nat) (x : PortRun) : s.setPort p x = s.setAud { s.aud with ports := Tab.put coldPort s.aud.ports p x } := (rfl)
@[simp] theorem State.setAudIn_eq (s : State) (i : Nat) (x : AudIn) : s.setAudIn i x = s.setAud { s.aud with ins := Tab.put coldIn s.aud.ins i x } := (rfl)

end Sys2Proof.Machine
end

