-- ==== Sys2Proof/Laws/Regs.lean ====
section
/-! SUPPORT. What a register holds after each operation, the fields of a word, the clock, and the canonical form of the memories. -/
namespace Sys2Proof.Machine

/-! The fields of a word. -/

theorem fld_lt (w : Word) (hi lo : Nat) : fld w hi lo < 2 ^ (hi + 1 - lo) := Nat.mod_lt _ (Nat.two_pow_pos _)

/-- Bit j of a field is bit lo + j of the word. -/
theorem fld_testBit (w : Word) (hi lo j : Nat) : (fld w hi lo).testBit j = (decide (j < hi + 1 - lo) && w.getLsbD (lo + j)) := by
  simp [fld, Nat.testBit_mod_two_pow, Nat.testBit_div_two_pow, BitVec.getLsbD, Nat.add_comm]

/-- Bit j of a word whose field hi…lo was replaced. -/
theorem setFld_getLsbD (w : Word) (hi lo v j : Nat) (h : hi < 32) : (setFld w hi lo v).getLsbD j =
    if lo ≤ j ∧ j ≤ hi then v.testBit (j - lo) else w.getLsbD j := by
  by_cases hj : j < 32
  · simp only [setFld, BitVec.getLsbD_or, BitVec.getLsbD_and, BitVec.getLsbD_not, BitVec.getLsbD_ofNat, Nat.testBit_mul_two_pow,
      Nat.testBit_two_pow_sub_one, Nat.testBit_mod_two_pow, hj, decide_true, Bool.true_and]
    by_cases hl : lo ≤ j
    · by_cases hh : j ≤ hi
      · have : j - lo < hi + 1 - lo := by omega
        simp [hl, hh, this]
      · have : ¬ j - lo < hi + 1 - lo := by omega
        simp [hl, hh, this]
    · simp [hl]
  · have h1 : ¬ j ≤ hi := by omega
    simp [BitVec.getLsbD_of_ge _ _ (Nat.le_of_not_lt hj), h1]

/-- A field written reads as written. -/
theorem fld_setFld_same (w : Word) (hi lo v : Nat) (h : hi < 32) : fld (setFld w hi lo v) hi lo = v % 2 ^ (hi + 1 - lo) := by
  apply Nat.eq_of_testBit_eq
  intro j
  rw [fld_testBit, setFld_getLsbD _ _ _ _ _ h, Nat.testBit_mod_two_pow]
  by_cases hj : j < hi + 1 - lo
  · have : lo + j ≤ hi := by omega
    simp [hj, this]
  · simp [hj]

/-- A field beside the one written reads as before. -/
theorem fld_setFld_other (w : Word) (hi lo v h2 l2 : Nat) (h : hi < 32) (hd : h2 < lo ∨ hi < l2) :
    fld (setFld w hi lo v) h2 l2 = fld w h2 l2 := by
  apply Nat.eq_of_testBit_eq
  intro j
  rw [fld_testBit, fld_testBit, setFld_getLsbD _ _ _ _ _ h]
  by_cases hj : j < h2 + 1 - l2
  · have : ¬ (lo ≤ l2 + j ∧ l2 + j ≤ hi) := by omega
    simp [this]
  · simp [hj]

/-! The register file. -/

@[simp] theorem State.rd_wr_same (s : State) (off : Nat) (w : Word) : (s.wr off w).rd off = w := by
  simpa [State.rd, State.wr, Tab.get] using Tab.get_put_same (RegMap.resetOf off) s.regs off w

@[simp] theorem State.rd_wr_ne (s : State) {off a : Nat} (w : Word) (h : a ≠ off) : (s.wr off w).rd a = s.rd a := by
  simp [State.rd, State.wr, Tab.find?_put_ne _ _ _ h]

/-- A register after a write of one. -/
theorem State.rd_wr (s : State) (off a : Nat) (w : Word) : (s.wr off w).rd a = if a = off then w else s.rd a := by
  split
  · next h => rw [h, State.rd_wr_same]
  · next h => exact State.rd_wr_ne s w h

@[simp] theorem State.rd_wrFld_same (s : State) (off hi lo v : Nat) : (s.wrFld off hi lo v).rd off = setFld (s.rd off) hi lo v := by
  simp [State.wrFld]

@[simp] theorem State.rd_wrFld_ne (s : State) {off a : Nat} (hi lo v : Nat) (h : a ≠ off) : (s.wrFld off hi lo v).rd a = s.rd a := by
  simp [State.wrFld, h]

@[simp] theorem State.rd_wrBit_same (s : State) (off i : Nat) (b : Bool) : (s.wrBit off i b).rd off = setFld (s.rd off) i i (b2n b) := by
  simp [State.wrBit]

@[simp] theorem State.rd_wrBit_ne (s : State) {off a : Nat} (i : Nat) (b : Bool) (h : a ≠ off) : (s.wrBit off i b).rd a = s.rd a := by
  simp [State.wrBit, h]

@[simp] theorem State.rd_noteFlags (s : State) (off : Nat) (m : Word) (a : Nat) : (s.noteFlags off m).rd a = s.rd a := (rfl)
@[simp] theorem State.rd_noteCount (s : State) (off v n a : Nat) : (s.noteCount off v n).rd a = s.rd a := (rfl)

@[simp] theorem State.rd_orReg_same (s : State) (off : Nat) (m : Word) : (s.orReg off m).rd off = s.rd off ||| m := by
  simp [State.orReg]

@[simp] theorem State.rd_orReg_ne (s : State) {off a : Nat} (m : Word) (h : a ≠ off) : (s.orReg off m).rd a = s.rd a := by
  simp [State.orReg, h]

/-- Registers are read from the register file alone. -/
theorem State.rd_congr {s u : State} (h : u.regs = s.regs) (a : Nat) : u.rd a = s.rd a := by simp [State.rd, h]

@[simp] theorem State.rd_emit (s : State) (o : Output) (a : Nat) : (s.emit o).rd a = s.rd a := (rfl)
@[simp] theorem State.rd_freeNext (s : State) (a : Nat) : s.freeNext.rd a = s.rd a := (rfl)
@[simp] theorem State.rd_raise (s : State) (src kind addr cls a : Nat) : (s.raise src kind addr cls).rd a = s.rd a := (rfl)
@[simp] theorem State.rd_at (s : State) (t a : Nat) : (s.at t).rd a = s.rd a := State.rd_congr (State.at_regs s t) a

/-- Uptime never goes back. -/
@[simp] theorem State.at_now (s : State) (t : Nat) : (s.at t).now = max s.now t := by
  unfold State.at
  simp only
  split
  · have : t ≤ s.now := by omega
    exact (Nat.max_eq_left this).symm
  · have : s.now ≤ t := by omega
    exact (Nat.max_eq_right this).symm

/-- A command that carries no later instant leaves the clock alone. -/
theorem State.at_self (s : State) {t : Nat} (h : t ≤ s.now) : s.at t = s := by
  unfold State.at
  simp only
  rw [if_pos (by omega)]

/-- A counter below its top counts n. -/
theorem State.rd_bumpBy_same (s : State) (off n : Nat) (h : (s.rd off).toNat + n < 4294967296) :
    (s.bumpBy off n).rd off = BitVec.ofNat 32 ((s.rd off).toNat + n) := by
  simp [State.bumpBy, h]

@[simp] theorem State.rd_bumpBy_ne (s : State) {off a : Nat} (n : Nat) (h : a ≠ off) : (s.bumpBy off n).rd a = s.rd a := by
  unfold State.bumpBy
  simp only
  split <;> (try split) <;> simp [h]

@[simp] theorem State.rd_bump_ne (s : State) {off a : Nat} (h : a ≠ off) : (s.bump off).rd a = s.rd a := State.rd_bumpBy_ne s 1 h

/-- A counter below its top counts one. -/
theorem State.rd_bump_same (s : State) (off : Nat) (h : (s.rd off).toNat + 1 < 4294967296) :
    (s.bump off).rd off = BitVec.ofNat 32 ((s.rd off).toNat + 1) := State.rd_bumpBy_same s off 1 h

/-! Events and interrupts. -/

/-- A vector's signal writes no register but the pending bits. -/
theorem State.rd_signal (s : State) (v a : Nat) (h : a ≠ Reg.MSIX_PENDING (v / 32)) : (s.signal v).rd a = s.rd a := by
  unfold State.signal
  split
  · rfl
  · split
    · exact State.rd_wrBit_ne s _ _ h
    · rfl

theorem State.rd_irqRise (old s : State) (v a : Nat) (h : a ≠ Reg.MSIX_PENDING (v / 32)) : (State.irqRise old s v).rd a = s.rd a := by
  unfold State.irqRise
  split
  · exact State.rd_signal s v a h
  · rfl

/-- An event sets its flags. -/
theorem State.rd_event_same (s : State) (ev v : Nat) (m : Word) (h : ev ≠ Reg.MSIX_PENDING (v / 32)) :
    (s.event ev v m).rd ev = s.rd ev ||| m := by
  rw [State.event, State.rd_irqRise _ _ _ _ h, State.rd_orReg_same]

/-- An event writes no register but its own and the pending bits. -/
theorem State.rd_event_ne (s : State) (ev v a : Nat) (m : Word) (h : a ≠ ev) (hp : a ≠ Reg.MSIX_PENDING (v / 32)) :
    (s.event ev v m).rd a = s.rd a := by
  rw [State.event, State.rd_irqRise _ _ _ _ hp, State.rd_orReg_ne _ _ h]

/-- A raised fault waits in the inbox; an inbox that was empty holds it alone. -/
theorem State.raise_inbox (s : State) (src kind addr cls : Nat) :
    (s.raise src kind addr cls).flt = { s.flt with inbox := FaultMsg.insert ⟨s.now, src, kind, addr % 4294967296, cls⟩ s.flt.inbox } := (rfl)

theorem FaultMsg.mem_insert (m : FaultMsg) (l : List FaultMsg) : m ∈ FaultMsg.insert m l := by
  induction l with
  | nil => simp [FaultMsg.insert]
  | cons x xs ih =>
    simp only [FaultMsg.insert]
    split
    · simp
    · simp [ih]

/-! The memories keep their canonical form. -/

theorem State.wr_regs_wf (s : State) (off : Nat) (w : Word) (h : Tab.wf RegMap.resetOf s.regs = true) :
    Tab.wf RegMap.resetOf (s.wr off w).regs = true := Tab.wf_put RegMap.resetOf s.regs off w h

theorem State.dramPut_wf (s : State) (a : Nat) (bs : List Byte) (h : Tab.wf (fun _ => Config.blankByte) s.dram = true) :
    Tab.wf (fun _ => Config.blankByte) (s.dramPut a bs).dram = true := Tab.wf_putBytes _ _ _ _ h

theorem State.tcmPut_wf (s : State) (a : Nat) (bs : List Byte) (h : Tab.wf (fun _ => Config.blankByte) s.tcm = true) :
    Tab.wf (fun _ => Config.blankByte) (s.tcmPut a bs).tcm = true := Tab.wf_putBytes _ _ _ _ h

theorem State.flashPut_wf (s : State) (a : Nat) (bs : List Byte) (h : Tab.wf (fun _ => Config.erasedByte) s.flash = true) :
    Tab.wf (fun _ => Config.erasedByte) (s.flashPut a bs).flash = true := Tab.wf_putBytes _ _ _ _ h

theorem State.flashErase_wf (s : State) (lo n : Nat) (h : Tab.wf (fun _ => Config.erasedByte) s.flash = true) :
    Tab.wf (fun _ => Config.erasedByte) (s.flashErase lo n).flash = true := Tab.wfFrom_filter _ _ _ _ h

/-- A DRAM byte outside those written reads as before. -/
theorem State.dramByte_dramPut_ne (s : State) (a j : Nat) (bs : List Byte) (h : j < a ∨ a + bs.length ≤ j) :
    (s.dramPut a bs).dramByte j = s.dramByte j := Tab.get_putBytes_ne _ _ _ _ _ h

/-- A DRAM byte written reads as written. -/
theorem State.dramByte_dramPut (s : State) (a k : Nat) (bs : List Byte) (h : k < bs.length) :
    (s.dramPut a bs).dramByte (a + k) = bs[k] := Tab.get_putBytes _ _ _ _ _ h

end Sys2Proof.Machine
end

