-- ==== Sys2Proof/WellFormed.lean ====
section
/-! DEFINITION. Which commands are well formed: every operand that names a unit, an offset or a register value lies in the range that the
spec gives it. A meaning is total: it says what happens for every operand. -/
namespace Sys2Proof

/-- A lane page: 0–1,023 numbered, 1,024–1,033 PW0–PW7, MGT0, MGT1 (R9). -/
def laneOk (i : Nat) : Bool := decide (i < 1034)

/-- A timing group, or a field (R248, R18). -/
def groupOk (i : Nat) : Bool := decide (i < 16)

/-- A channel group (R384). -/
def channelGroupOk (i : Nat) : Bool := decide (i < 8)

/-- A DRAM channel (R384). -/
def channelOk (i : Nat) : Bool := decide (i < 32)

/-- A rank of a channel (R384). -/
def rankOk (i : Nat) : Bool := decide (i < 2)

/-- A compositor (R147). -/
def compositorOk (i : Nat) : Bool := decide (i < 64)

/-- A serial audio port (R193). -/
def audioPortOk (i : Nat) : Bool := decide (i < 16)

/-- A synthesis loop (R273). -/
def loopOk (i : Nat) : Bool := decide (i < 33)

/-- A furrow (R273). -/
def furrowOk (i : Nat) : Bool := decide (i < 64)

/-- A unit of a furrow move: a furrow, or 64 and up a dedicated lane (R459). -/
def moveOk (i : Nat) : Bool := decide (i < 74)

/-- A video reference (R271). -/
def vfsOk (i : Nat) : Bool := decide (i < 2)

/-- An Ethernet port: a lead lane, or the lane pages 1,032 and 1,033 of MGT0 and MGT1 (R326, R338). -/
def macPortOk (i : Nat) : Bool := decide (i < 1024) || (decide (1032 ≤ i) && decide (i < 1034))

/-- A receive or transmit context (R339). -/
def contextOk (i : Nat) : Bool := decide (i < 8192)

/-- A PTP port (R382). -/
def ptpPortOk (i : Nat) : Bool := decide (i < 64)

/-- A DMA channel (R445). -/
def dmaOk (i : Nat) : Bool := decide (i < 32)

/-- A request line (R447). -/
def lineOk (i : Nat) : Bool := decide (i < 48)

/-- One of four: a capture FIFO, a candidate, a two-bit code. -/
def captureOk (i : Nat) : Bool := decide (i < 4)

/-- An MSI-X vector (R434). -/
def vectorOk (i : Nat) : Bool := decide (i < 64)

/-- A video source or destination index (R71). -/
def videoOk (i : Nat) : Bool := decide (i < 4096)

/-- A stored stream or an audio channel (R116, R174). -/
def streamOk (i : Nat) : Bool := decide (i < 16384)

/-- A writer of a stored stream: 16,384 and up write side B's copies of a paired input (R116, R232). -/
def writerOk (i : Nat) : Bool := decide (i < 32768)

/-- A party-wall buffer (R439). -/
def bufferOk (i : Nat) : Bool := decide (i < 8)

/-- A health unit (R244). -/
def healthUnitOk (i : Nat) : Bool := decide (i < 32)

/-- A class with open bits (R408). -/
def classOk (i : Nat) : Bool := decide (i < 4)

/-- A four-bit code. -/
def nibbleOk (i : Nat) : Bool := decide (i < 16)

/-- A strap word (R483). -/
def strapOk (i : Nat) : Bool := decide (i < 16)

/-- A block sequence number (R217). -/
def seqOk (i : Nat) : Bool := decide (i < 16777216)

/-- A register value (R5). -/
def wordOk (i : Nat) : Bool := decide (i < 4294967296)

/-- A register offset: in the 16 MiB, of a whole word (R5, R430). -/
def offsetOk (i : Nat) : Bool := decide (i < 16777216) && i % 4 == 0

/-- An offset of BAR2 (R427). -/
def bar2Ok (i : Nat) : Bool := decide (i < 1073741824)

/-- Is a command well formed? -/
def Instr.wellFormed : Instr → Bool
  | .powerOn _ straps _ => strapOk straps
  | .resetNFall _ => true
  | .resetNRelease _ straps => strapOk straps
  | .powerFail _ => true
  | .powerFailEnd _ straps => strapOk straps
  | .cardPortReset _ _ => true
  | .testReset _ => true
  | .internalResetEnd _ straps => strapOk straps
  | .sowStageStart _ _ => true
  | .sowBlock _ _ => true
  | .sowStageComplete _ => true
  | .reapBlock _ _ => true
  | .reapingComplete _ => true
  | .furrowMove _ => true
  | .furrowMoveDone _ unit => moveOk unit
  | .stopTailEnd _ p => audioPortOk p
  | .avsTargetCompute _ _ => true
  | .avsStep _ _ _ => true
  | .pmbusIoutRead _ _ => true
  | .directoryReadDone _ => true
  | .flashReadError _ => true
  | .headerReadDone _ => true
  | .fwHeaderReadDone _ => true
  | .fwSectionLoaded _ => true
  | .cfgRecordStreamed _ => true
  | .cfgSignatureChecked _ => true
  | .recordsApplied _ _ => true
  | .synthLoopLocked _ n _ => loopOk n
  | .synthLockTimeout _ n => loopOk n
  | .fallbackSlotTry _ => true
  | .dramTrainStepDone _ _ => true
  | .trainClosingClaim _ => true
  | .directoryWrite _ => true
  | .setNextA _ _ => true
  | .setNextB _ _ => true
  | .abortWrite _ _ => true
  | .restart _ _ => true
  | .badCommand _ _ cmd => nibbleOk cmd
  | .fuseBurn _ value _ => wordOk value
  | .imageStart _ => true
  | .imageData _ => true
  | .chunkProgrammed _ _ => true
  | .imageEnd _ => true
  | .imageSetNext _ => true
  | .imageRestart _ => true
  | .imageAbortWrite _ => true
  | .writeSessionTimeout _ => true
  | .enterSafe _ _ => true
  | .servicePeriod _ => true
  | .fratinReceive _ _ _ => true
  | .take _ => true
  | .salvoPart _ => true
  | .salvoCommit _ => true
  | .salvoOpenTimeout _ => true
  | .salvoValidation _ => true
  | .liveSet _ => true
  | .query _ => true
  | .statusDeviceSummary _ => true
  | .statusTimingGroup _ => true
  | .statusStoredStream _ => true
  | .statusFaultSummary _ => true
  | .statusFlowContext _ => true
  | .statusHealth _ => true
  | .statusBootRegisters _ => true
  | .statusLintel _ => true
  | .statusAudioPort _ => true
  | .lintelArmMsg _ => true
  | .lintelDisarmMsg _ => true
  | .loadText _ => true
  | .clearText _ => true
  | .lintelArmEdge _ _ => true
  | .lintelPinQualified _ => true
  | .latchInstant _ g => groupOk g
  | .switchPoint _ g => groupOk g
  | .onAirNotify _ => true
  | .windowLeft _ d _ => videoOk d
  | .lagMeasure _ src g _ _ => videoOk src && groupOk g
  | .snapshotStart _ table => nibbleOk table
  | .snapshotDone _ => true
  | .mbxGo _ _ => true
  | .mbxInTaken _ => true
  | .mbxOutRelease _ => true
  | .inputFrameComplete _ stream => writerOk stream
  | .decisionInstant _ g _ => groupOk g
  | .readStart _ stream _ => streamOk stream
  | .slotRead _ stream _ => streamOk stream
  | .scrubChunk _ g => channelGroupOk g
  | .thumbnailInterval _ f _ => groupOk f
  | .cacheRebuild _ c => compositorOk c
  | .goldenTileTest _ c _ => compositorOk c
  | .sramBistChunk _ _ _ _ => true
  | .audioBlock _ _ _ => true
  | .slipApply _ input => streamOk input
  | .deembPacketError _ lane => laneOk lane
  | .maskHiWrite _ p _ value => audioPortOk p && wordOk value
  | .maskApply _ p => audioPortOk p
  | .portStart _ p => audioPortOk p
  | .startLeadEnd _ p => audioPortOk p
  | .portStop _ p => audioPortOk p
  | .portClockLoss _ p _ => audioPortOk p
  | .portRecovery _ p => audioPortOk p
  | .followRange _ p _ => audioPortOk p
  | .keyInEdge _ _ => true
  | .keyClaim _ => true
  | .keyResample _ _ => true
  | .keyConflict _ => true
  | .alivePeerEdge _ _ => true
  | .alivePeerTimeout _ => true
  | .wallDownKeyTimeout _ => true
  | .giveUp _ _ => true
  | .handoverArm _ _ => true
  | .handoverCancel _ _ => true
  | .resync _ _ => true
  | .arbitrate _ _ => true
  | .heartbeatSend _ => true
  | .heartbeat _ _ => true
  | .wallDown _ => true
  | .wallBlockReceive _ rx => rx.lanes.all fun l => l.all fun b => decide (b.sync < 4) && b.bytes.length == 8
  | .resend _ bseq => seqOk bseq
  | .wallResendTimeout _ => true
  | .wallRebond _ lane _ => laneOk lane
  | .giveUpMsg _ _ => true
  | .decision _ _ => true
  | .takeOrder _ _ => true
  | .digestSend _ tg _ => groupOk tg
  | .digest _ tg _ _ => groupOk tg
  | .digestMissing _ tg _ => groupOk tg
  | .arbitrateMsg _ _ _ _ _ _ => true
  | .selftestDone _ _ _ => true
  | .handover _ _ tg _ => groupOk tg
  | .handoverReplyTimeout _ => true
  | .handoverInstant _ => true
  | .healthSend _ => true
  | .health _ _ _ _ => true
  | .yield _ => true
  | .stateRequest _ => true
  | .state _ _ => true
  | .joinComplete _ => true
  | .joinRetryTimeout _ => true
  | .replyRelay _ _ _ _ _ => true
  | .pwMailboxFragment _ _ => true
  | .pwmbxGo _ value => wordOk value
  | .pwmbxFree _ value => wordOk value
  | .pwFragmentAcked _ buffer => bufferOk buffer
  | .candidateMeasure _ g k _ _ => groupOk g && captureOk k
  | .candidateQualified _ g k => groupOk g && captureOk k
  | .candidateLoss _ g k => groupOk g && captureOk k
  | .candidateGlitch _ g k => groupOk g && captureOk k
  | .candidateRateChange _ g k => groupOk g && captureOk k
  | .candidateReturn _ g k => groupOk g && captureOk k
  | .groupAcquire _ g _ => groupOk g
  | .dpllLocked _ g _ => groupOk g
  | .frameStart _ g => groupOk g
  | .frameOutPulse _ g => groupOk g
  | .tgRealign _ _ _ => true
  | .realignApply _ g => groupOk g
  | .vfsRefLost _ v => vfsOk v
  | .vfsRefRequalified _ v _ => vfsOk v
  | .sysRefLost _ => true
  | .loopUnlock _ n _ => loopOk n
  | .loopRelocked _ n => loopOk n
  | .loopShelterTimeout _ n => loopOk n
  | .guardTrip _ n => loopOk n
  | .relock _ _ n => loopOk n
  | .mdllLocked _ f => furrowOk f
  | .mdllNoLock _ f => furrowOk f
  | .los _ lane _ => laneOk lane
  | .rxLocked _ lane _ => laneOk lane
  | .pwrReq _ lane value => laneOk lane && wordOk value
  | .txEqWrite _ lane value => laneOk lane && wordOk value
  | .rxCtrlWrite _ lane _ value => laneOk lane && wordOk value
  | .testStart _ lane value => laneOk lane && wordOk value
  | .testStop _ lane _ _ => laneOk lane
  | .testDurationEnd _ lane _ _ => laneOk lane
  | .inject _ lane => laneOk lane
  | .prbsResync _ lane _ _ => laneOk lane
  | .eyePointStart _ lane value => laneOk lane && wordOk value
  | .eyeScanStart _ lane value => laneOk lane && wordOk value
  | .eyeDone _ lane _ _ _ => laneOk lane
  | .eyePeriodicScan _ lane => laneOk lane
  | .sdiLine _ lane _ => laneOk lane
  | .sdiReady _ lane _ => laneOk lane
  | .sdiLost _ lane _ => laneOk lane
  | .pairedFrameComplete _ _ _ _ => true
  | .linkUp _ port => macPortOk port
  | .linkDown _ port _ _ => macPortOk port
  | .frameReceive _ port _ => macPortOk port
  | .pauseHoldExpiry _ port => macPortOk port
  | .pauseOn _ port => macPortOk port
  | .pauseRefresh _ port => macPortOk port
  | .pauseOff _ port _ => macPortOk port
  | .throughForward _ port _ => macPortOk port
  | .lineDeadline _ n _ _ => contextOk n
  | .bandPass _ n _ _ => contextOk n
  | .contextNotReady _ n _ => contextOk n
  | .contextReady _ n => contextOk n
  | .pathInactive _ n _ => contextOk n
  | .skewMeasure _ n => contextOk n
  | .launch _ txc _ _ _ _ => contextOk txc
  | .igmpReport _ port _ => macPortOk port
  | .ptpEventReceive _ port _ _ _ _ _ _ => ptpPortOk port
  | .announceReceive _ port _ => ptpPortOk port
  | .announceTimeout _ port => ptpPortOk port
  | .autoStepAccept _ => true
  | .acceptStep _ _ => true
  | .slewComplete _ => true
  | .ptpSend _ port _ => ptpPortOk port
  | .delayReqReceive _ port _ _ => ptpPortOk port
  | .ppsInEdge _ _ => true
  | .ppsInLost _ => true
  | .ppsOutPulse _ => true
  | .refreshDue _ c rank _ _ => channelOk c && rankOk rank
  | .mr4Poll _ c _ _ => channelOk c
  | .mr4PollCmd _ _ _ => true
  | .dramTrainCmd _ _ => true
  | .drcRateWrite _ rate => captureOk rate
  | .zqCalibration _ g => channelGroupOk g
  | .zqLatch _ g => channelGroupOk g
  | .rtRequestComplete _ c _ _ _ _ => channelOk c
  | .faultAccepted _ => true
  | .faultRecordRemove _ => true
  | .fltAck _ unit _ => healthUnitOk unit
  | .fltOpenClear _ x mask => classOk x && wordOk mask
  | .holdExpiry _ => true
  | .fltKick _ => true
  | .watchdogExpiry _ _ => true
  | .aliveEdge _ => true
  | .thermalRead _ _ => true
  | .maintenanceRequest _ _ _ _ => true
  | .maintenanceDone _ _ => true
  | .checkpointDue _ => true
  | .checkpoint _ _ => true
  | .lifeWriteDone _ _ => true
  | .bar2Access _ x _ _ _ => bar2Ok x
  | .registerWrite _ off value _ _ _ => offsetOk off && wordOk value
  | .rcCounterRead _ off => offsetOk off
  | .cardPortLinkDown _ => true
  | .cardPortLinkUp _ _ _ => true
  | .spiRead _ addr _ _ => offsetOk addr
  | .spiWrite _ addr _ _ _ => offsetOk addr
  | .spiStatus _ => true
  | .msixUnmask _ v => vectorOk v
  | .kick _ c _ => dmaOk c
  | .descriptorFetched _ c _ _ => dmaOk c
  | .descriptorComplete _ c => dmaOk c
  | .dmaRequest _ r => lineOk r
  | .dmaBurstComplete _ c _ _ => dmaOk c
  | .busError _ c _ _ => dmaOk c
  | .completionTimeout _ c => dmaOk c
  | .clearErr _ => true
  | .dmaDisable _ => true
  | .captureRead _ n => captureOk n
  | .fstSelWrite _ value => wordOk value
  | .fstQmaxRead _ => true
  | .ptpTimeFracRead _ => true
  | .loSnapshotRead _ off => offsetOk off
  | .signalDetect _ lane => laneOk lane
  | .blockLockGained _ port => macPortOk port
  | .prbsCheckerInSync _ lane => laneOk lane
  | .dpllLeavesLocked _ g _ => groupOk g
  | .txSteerLimit _ lane _ => laneOk lane
  | .vfsTrackingAgain _ v => vfsOk v
  | .pcieConfigurationRequest _ _ => true

end Sys2Proof
end

