-- ==== Sys2Proof/Tests/Slice0.lean ====
section
/-! SUPPORT. Ill-formed operands that WellFormed refuses, and for every obligation with hypotheses small states and operands that meet them. -/
open Sys2Proof Sys2Proof.Machine
section
set_option maxRecDepth 100000
set_option Elab.async false

/-! Well-formedness: for each check of WellFormed, a command that it refuses. -/

/-- laneOk refuses 1034. -/
theorem test_wf_lane : Instr.wellFormed (.deembPacketError 0 1034) = false := by decide

/-- groupOk refuses 16. -/
theorem test_wf_group : Instr.wellFormed (.latchInstant 0 16) = false := by decide

/-- channelGroupOk refuses 8. -/
theorem test_wf_channelGroup : Instr.wellFormed (.scrubChunk 0 8) = false := by decide

/-- channelOk refuses 32. -/
theorem test_wf_channel : Instr.wellFormed (.refreshDue 0 32 0 none 0) = false := by decide

/-- rankOk refuses 2. -/
theorem test_wf_rank : Instr.wellFormed (.refreshDue 0 0 2 none 0) = false := by decide

/-- compositorOk refuses 64. -/
theorem test_wf_compositor : Instr.wellFormed (.cacheRebuild 0 64) = false := by decide

/-- audioPortOk refuses 16. -/
theorem test_wf_audioPort : Instr.wellFormed (.stopTailEnd 0 16) = false := by decide

/-- loopOk refuses 33. -/
theorem test_wf_loop : Instr.wellFormed (.synthLoopLocked 0 33 0) = false := by decide

/-- furrowOk refuses 64. -/
theorem test_wf_furrow : Instr.wellFormed (.mdllLocked 0 64) = false := by decide

/-- moveOk refuses 74. -/
theorem test_wf_move : Instr.wellFormed (.furrowMoveDone 0 74) = false := by decide

/-- vfsOk refuses 2. -/
theorem test_wf_vfs : Instr.wellFormed (.vfsRefLost 0 2) = false := by decide

/-- macPortOk refuses 1024. -/
theorem test_wf_macPort : Instr.wellFormed (.linkUp 0 1024) = false := by decide

/-- contextOk refuses 8192. -/
theorem test_wf_context : Instr.wellFormed (.lineDeadline 0 8192 0 0) = false := by decide

/-- ptpPortOk refuses 64. -/
theorem test_wf_ptpPort : Instr.wellFormed (.ptpEventReceive 0 64 0 0 0 0 0 0) = false := by decide

/-- dmaOk refuses 32. -/
theorem test_wf_dma : Instr.wellFormed (.kick 0 32 false) = false := by decide

/-- lineOk refuses 48. -/
theorem test_wf_line : Instr.wellFormed (.dmaRequest 0 48) = false := by decide

/-- captureOk refuses 4. -/
theorem test_wf_capture : Instr.wellFormed (.candidateMeasure 0 0 4 0 0) = false := by decide

/-- vectorOk refuses 64. -/
theorem test_wf_vector : Instr.wellFormed (.msixUnmask 0 64) = false := by decide

/-- videoOk refuses 4096. -/
theorem test_wf_video : Instr.wellFormed (.windowLeft 0 4096 0) = false := by decide

/-- streamOk refuses 16384. -/
theorem test_wf_stream : Instr.wellFormed (.readStart 0 16384 0) = false := by decide

/-- writerOk refuses 32768. -/
theorem test_wf_writer : Instr.wellFormed (.inputFrameComplete 0 32768) = false := by decide

/-- bufferOk refuses 8. -/
theorem test_wf_buffer : Instr.wellFormed (.pwFragmentAcked 0 8) = false := by decide

/-- healthUnitOk refuses 32. -/
theorem test_wf_healthUnit : Instr.wellFormed (.fltAck 0 32 0) = false := by decide

/-- classOk refuses 4. -/
theorem test_wf_class : Instr.wellFormed (.fltOpenClear 0 4 0) = false := by decide

/-- nibbleOk refuses 16. -/
theorem test_wf_nibble : Instr.wellFormed (.badCommand 0 0 16) = false := by decide

/-- strapOk refuses 16. -/
theorem test_wf_strap : Instr.wellFormed (.powerOn 0 16 false) = false := by decide

/-- seqOk refuses 16777216. -/
theorem test_wf_seq : Instr.wellFormed (.wallBlockReceive 0 ⟨[[⟨4, List.replicate 8 0⟩]], [], []⟩) = false := by decide

/-- wordOk refuses 4294967296. -/
theorem test_wf_word : Instr.wellFormed (.fuseBurn 0 4294967296 []) = false := by decide

/-- offsetOk refuses 2. -/
theorem test_wf_offset : Instr.wellFormed (.rcCounterRead 0 2) = false := by decide

/-- bar2Ok refuses 1073741824. -/
theorem test_wf_bar2 : Instr.wellFormed (.bar2Access 0 1073741824 0 false []) = false := by decide


/-! Small states. -/

/-- A state in a mode. -/
def inMode (m : Mode) : State := State.reset.setCtl { State.reset.ctl with mode := m }
/-- The internal reset is held, both pins high. -/
def heldReset : State := State.reset.setPower { PowerState.reset with inReset := true }
/-- SERVICE with the key. -/
def keyService : State := (inMode .service).setPins { State.reset.pins with keyOut := true }
/-- Adaptive voltage runs with a last setpoint. -/
def avsState (mv : Nat) : State :=
  (((inMode .service).wrBit Reg.TOP_PWR_STATUS 25 true).wrBit Reg.TOP_AVS_CFG 31 true).wrFld Reg.TOP_AVS_STATUS 9 0 mv
/-- Bytes at an address, as entries of a memory. -/
def cellsAt (a : Nat) (bs : List Byte) : Tab Byte := bs.zipIdx.map fun e => (a + e.2, e.1)
/-- An image header of R35 for this part, its firmware section at 4,096 and its configuration section at 8,192. -/
def imgHeader : List Byte :=
  let b := toLe 4 0x5A48494D ++ toLe 2 1 ++ toLe 2 256 ++ toLe 2 0x5A48 ++ [0, 1, 0, 0, 1] ++ List.replicate 17 0 ++ toLe 4 4096 ++ toLe 4 132 ++
    toLe 4 8192 ++ toLe 4 144 ++ List.replicate 204 0
  b ++ toLe 4 (crc32 b)
/-- Slot A with that header, a firmware header and one empty record, at a stage of the boot sequence; S1 is being sown. -/
def stageState (x : BootStage) : State :=
  ((State.reset.setBoot { State.reset.boot with stage := x }).setPower { PowerState.reset with sowing := true }).setFlash
    (cellsAt 0x40000 imgHeader ++
      cellsAt 0x41000 (toLe 4 0x5A484657 ++ List.replicate 12 0 ++ toLe 4 4 ++ List.replicate 44 0) ++
      cellsAt 0x42000 (toLe 2 1 ++ List.replicate 10 0 ++ toLe 4 (crc32 [])))
/-- The records stream. -/
def recordState : State := stageState .records
/-- A description that names nothing. -/
def emptyDesc : ImageDesc :=
  ⟨[], [], [], [], [], false, false, false, 0, 0, 0, 0, 0, 0, [], [], [], 0, [], [], [], [], []⟩
/-- The same header over a configuration section of 192 bytes. -/
def keyedHeader : List Byte :=
  let b := imgHeader.take 44 ++ toLe 4 192 ++ List.replicate 204 0
  b ++ toLe 4 (crc32 b)
/-- A key entry of R48: key 0 with every permission. -/
def keyBytes : List Byte := [0, 0, 0, 0] ++ toLe 4 0xF ++ List.replicate 32 1 ++ List.replicate 8 0
/-- The image whose one record is that key; it is to be applied. -/
def keyedImage : State :=
  (stageState .apply).setFlash
    (cellsAt 0x40000 keyedHeader ++
      cellsAt 0x41000 (toLe 4 0x5A484657 ++ List.replicate 12 0 ++ toLe 4 4 ++ List.replicate 44 0) ++
      cellsAt 0x42000 (toLe 2 0x10 ++ [0, 0] ++ toLe 4 0 ++ toLe 4 48 ++ toLe 4 (crc32 keyBytes) ++ keyBytes))
/-- DRAM training runs at a step, channel group 0 declared. -/
def trainingState (step : Nat) : State :=
  (((inMode .train).wrFld Reg.TOP_USAGE 31 24 1).wrFld Reg.DRC_STATUS 31 30 1).wrFld Reg.DRC_TRAIN_STATUS 31 28 step
/-- A channel whose answers fail step 2. -/
def badChan : TrainChan := ⟨0, false, 0, []⟩
/-- A HEARTBEAT of a peer in SERVICE with a role. -/
def peerHb (role : Nat) : Heartbeat :=
  ⟨0, 1, 0, 3, role, role == 1, false, false, true, 0, 0, 0, 0, 0, 1000, 0, List.replicate 32 0⟩
/-- The end of TRAIN of a PAIRED device whose peer has a role. -/
def peerState (role : Nat) : State :=
  let s := (inMode .train).setPower { PowerState.reset with stage := 5 }
  (s.setCtl { s.ctl with paired := true }).setWall { s.twn.wall with up := true, peer := some (peerHb role) }
/-- Where a mailbox message of sender 1 is answered. -/
def fromMbx (type : Nat) : ReplyTo := ⟨.mailbox, 0, 0, 0, 1, 5, type, true⟩
/-- A mailbox message. -/
def mbxMsg (type : Nat) (body : List Byte) : Msg := ⟨fromMbx type, 0, false, body⟩
/-- A message at the front of the receive queue. -/
def Sys2Proof.Machine.State.withMsg (s : State) (m : Msg) : State := s.setXpt { s.xpt with rx := [m] }
/-- Slot B is written: session 7 of 4 bytes, of which `n` are there. -/
def sess (n : Nat) (cs : List QueuedChunk) : WriteSession := ⟨.mailbox, .b, 7, 4, 0xB63CFBCD, n, 0, 0, cs⟩
/-- That session is open in SERVICE. -/
def sessState (n : Nat) (cs : List QueuedChunk) : State :=
  (inMode .service).setBoot { State.reset.boot with booted := some .a, session := some (sess n cs) }
/-- A DATA chunk of that image. -/
def chunk4 (off : Nat) : QueuedChunk := ⟨fromMbx 0x30, off, [1, 2, 3, 4], true⟩
/-- The flash resource runs an activity. -/
def Sys2Proof.Machine.State.runs (s : State) (a : Activity) : State := s.setRes flashRes { s.res flashRes with running := some a }
/-- SERVICE, timing group 0 runs, destination 5 is an output of it. -/
def takeState : State :=
  let s := ((inMode .service).wr (Reg.TG_CFG 0) 0x30000).setGrp 0 { Group.init with acquired := true }
  s.setCfg { ImageCfg.none with dsts := [(5, ⟨0, none, 0, ⟨9, 3, 0, 1⟩, false, 0⟩)] }
/-- Black to destination 5, all levels. -/
def entry5 : Entry := ⟨7, 5, 4032, 0⟩
/-- The salvo of that entry for the next headland. -/
def salvo5 (e : Entry) : Salvo := ⟨fromMbx 1, 5, [e], .next, false, true⟩
/-- A body of TAKE for the next headland. -/
def takeBody : List Byte := List.replicate 16 0 ++ [7, 0, 0, 5, 0x0F, 0xC0, 0, 0]
/-- An open salvo of sender 1. -/
def open1 (parts : Tab (List Entry)) : OpenSalvo := ⟨1, 1, 1, parts, 0⟩
/-- A key of R99 that permits QUERY and STATUS is loaded. -/
def keyedState : State := (inMode .service).setCfg { ImageCfg.none with keys := [(0, ⟨4, [1]⟩)] }
/-- A QUERY to ID 0 from sender 1, SEQ 9, under that key. -/
def queryData : List Byte :=
  let b : List Byte := toBe 2 0x4652 ++ [1, 0x10] ++ toBe 2 48 ++ toBe 2 0 ++ toBe 2 0 ++ toBe 2 1 ++ [0, 0, 0, 0] ++ toBe 4 0 ++ toBe 4 9 ++
    [0, 0, 0, 0, 0, 1, 0, 0]
  b ++ (hmacSha256 [1] b).take 16
/-- Black waits to go on air at destination 5 in frame 0. -/
def wait5 : Pending := ⟨0, 1, [(0, 0)], [0], [⟨7, 5, 4033, 0⟩], [], none, 0⟩
/-- That salvo is committed. -/
def waitState : State :=
  (takeState.setXpt { takeState.xpt with pending := [wait5], started := [0] }).wr Reg.XPT_GEN_COMMITTED 1
/-- A stream of one tile and two ring frames, read in group 0. -/
def strm : StreamCfg := ⟨0, 0, false, 1, 0, 2, 0, 2, 0, 1, 0⟩
/-- Stream 1 of that kind, with a run of its own. -/
def streamState (x : StreamRun) : State :=
  (takeState.setCfg { takeState.cfg with streams := [(1, strm)] }).setStream 1 x
/-- A stream whose ring frame 0, with write index 0, is COMPLETE. -/
def oneFrame (w : Nat) : StreamRun := { coldStream with mode := 1, ready := true, ring := [(0, ⟨w, true, true, 0⟩)] }
/-- An active compositor 0. -/
def cmpState (x : CmpRun) : State := (takeState.wr (Reg.CMP_CFG 0) 0x40000000).setCmp 0 x
/-- The same device as a follower with the party wall up. -/
def followState (s : State) : State :=
  (s.setCtl { s.ctl with paired := true, role := .follower }).setTwn { s.twn with wall := { s.twn.wall with up := true } }
/-- A running input FIFO of n blocks of one channel. -/
def filledIn (n : Nat) : AudIn :=
  { coldIn with notReady := false, going := true, fifo := [(0, List.replicate (6 * n) ⟨1, none⟩)] }
/-- TDM port p at a phase, enabled, with a clock mode. -/
def portState (p clock phase : Nat) : State :=
  ((inMode .service).wr (Reg.AP_CFG p) (BitVec.ofNat 32 (2147483648 + 134217728 * clock))).setPort p { coldPort with phase := phase }
/-- Lane i in SERVICE with a personality, receiver and transmitter used, in L0. -/
def laneState (i pers : Nat) : State :=
  (((inMode .service).wr (Reg.LAN_CFG i) (BitVec.ofNat 32 (268435456 * pers + 786432))).wrFld (Reg.LAN_STATUS i) 29 28 0)
/-- A PAIRED device in SERVICE with a role, the wall up over lane 0, ALIVE running. -/
def twinState (r : Role) : State :=
  let s := inMode .service
  let s := s.setCtl { s.ctl with paired := true, role := r }
  let s := s.setFlt { s.flt with aliveRuns := true }
  (s.setTwn { s.twn with wall := { s.twn.wall with up := true, locked := 1 } }).setPins { s.pins with keyOut := r == .keyholder }
/-- That device with other key logic. -/
def Sys2Proof.Machine.State.withKey (s : State) (f : KeyState → KeyState) : State := s.setTwn { s.twn with key := f s.twn.key }
/-- That device with another wall state. -/
def Sys2Proof.Machine.State.withWall (s : State) (f : WallState → WallState) : State := s.setTwn { s.twn with wall := f s.twn.wall }
/-- A device in JOIN with the wall up, at a point of the state transfer. -/
def joinState (j : JoinState) : State :=
  let s := twinState .follower
  (s.setCtl { s.ctl with mode := .join }).setTwn { s.twn with join := j }
/-- Group 0 runs in TRAIN, not acquired, with a PTP candidate of priority k. -/
def candState (k : Nat) (c : Cand) : State :=
  (((inMode .train).wr (Reg.TG_CFG 0) 0x30000).wr (Reg.TG_CAND 0) (BitVec.ofNat 32 (3 * 256 ^ k))).setGrp 0 (Group.init.setCand k c)
/-- Lane i in SERVICE, with PERS 3, runs a PRBS test since 0 ms of DURATION 5 ms with generator and checker over NES, in sync. -/
def testingState (i : Nat) : State :=
  (((laneState i 3).wr (Reg.LAN_TEST i) 0x210C0005).wrBit (Reg.LAN_STATUS i) 25 true).setRes (laneRes i) ⟨some ⟨7, i⟩, [], 0, none, 0, 0⟩
/-- Lane i in SERVICE runs an eye operation. -/
def eyeState (i op : Nat) : State :=
  (((laneState i 3).wrBit (Reg.LAN_EYE_CTRL i) 30 true).setLane i { coldLane with eye := op }).setRes (laneRes i) ⟨some ⟨6, i⟩, [], 0, none, 0, 0⟩
/-- Lane l in SERVICE carries an SDI port configured for mapping 0, raster code 5, rate code 1, 4:2:2; STATUS of the port as given. Source 1
reads the port through a window of 4 lines. -/
def sdiState (l : Nat) (status : Word) : State :=
  let s := ((laneState l 1).wr (Reg.SDI_RX_CFG l) (BitVec.ofNat 32 (84934656 + l))).wr (Reg.SDI_STATUS l) status
  (s.wrFld (Reg.LAN_STATUS l) 31 30 3).setCfg { ImageCfg.none with srcs := [(1, ⟨.sdi l, none, ⟨5, 1, 0, 0⟩, 4, false, 0⟩)] }
/-- A good line 6 of 3 words. -/
def line6 : SdiLine := ⟨6, false, false, false, false, false, [1, 2, 3]⟩
/-- A frame as that port expects it. -/
def goodFrame : SdiFrame := ⟨[⟨5, 1, 0, 0⟩], true, none, none, true, 1000⟩
/-- Source 1 is a paired input of lanes 1 and 2, read through stream 1, whose copies stand in ring frames 0 and 1 with write index 2^32. -/
def pairState : State :=
  let s := streamState { coldStream with mode := 1, ready := true, opened := some 0, ring := [(0, ⟨4294967296, true, false, 0⟩)] }
  let s := s.setStream 16385 { coldStream with opened := some 1 }
  let s := s.setGrp 0 { s.grp 0 with frame := 4294967297 }
  s.setCfg { s.cfg with srcs := [(1, ⟨.sdi 1, some 2, ⟨5, 1, 0, 0⟩, 4, true, 0⟩)] }
/-- A good copy of frame 0 mod 2^32. -/
def goodCopy : PairCopy := ⟨false, some (0, true, 0), true⟩
/-- Lane p in SERVICE carries a 10 Gb/s Ethernet port of a class code with MAX_LEN 1,518, its link up. -/
def macState (p cls : Nat) : State :=
  (((laneState p 3).wr (Reg.MAC_CFG p) (BitVec.ofNat 32 (cls * 1073741824 + 1518 * 65536))).wr (Reg.MAC_STATUS p) 0xC0000000).wrFld
    (Reg.LAN_STATUS p) 31 30 3
/-- Nothing counted by the coding. -/
def noCodes : CodeCounts := ⟨0, 0, 0, 0, 0, 0, 0⟩
/-- A frame with its FCS. -/
def ethFrame (b : List Byte) : EthFrame := ⟨b ++ toLe 4 (crc32 b), false, 0, false, noCodes⟩
/-- A pause frame of n quanta. -/
def pauseFrame (n : Nat) : EthFrame := ethFrame (padTo 60 ([0x01, 0x80, 0xC2, 0, 0, 1, 2, 0, 0, 0, 0, 0, 0x88, 0x08, 0, 1] ++ toBe 2 n))
/-- A frame of an unknown EtherType to another station. -/
def strayFrame : EthFrame := ethFrame (padTo 60 [0x02, 0, 0, 0, 0, 9, 2, 0, 0, 0, 0, 1, 0x12, 0x34])
/-- A PTP Sync over Ethernet with a correction field of 0, received at 0 on a 10 Gb/s port. -/
def ptpFrame : EthFrame := ethFrame (padTo 60 [0x01, 0x1B, 0x19, 0, 0, 0, 2, 0, 0, 0, 0, 1, 0x88, 0xF7, 0, 2, 0, 44])
/-- That port with other run data. -/
def Sys2Proof.Machine.State.withMac (s : State) (p : Nat) (x : MacRun) : State := s.setMac p x
/-- Receive context 0 in SERVICE is enabled with an essence code, raster code 5, on the port of lane 0. -/
def rxcState (word : Word) (x : RxRun) : State := ((macState 0 0).wr (Reg.RXC_CFG 0) word).setRxc 0 x
/-- A destination whose transmit context 0 sends on the port of lane 0; the outputs of group 0 are lit. -/
def txcState : State :=
  let s := (macState 0 0).wr (Reg.TXC_CFG 0) 0x80000000
  let s := s.setCfg { ImageCfg.none with dsts := [(0, ⟨0, some 0, 0, ⟨5, 1, 0, 0⟩, false, 0⟩)] }
  (s.setTwn { s.twn with lit := 1 }).wr (Reg.TXC_PKT 0) 4320
/-- SERVICE with PTP port 0 enabled on lane 0 in a port state (9 SLAVE, 6 MASTER), STEP_LIMIT 1,000 ns, device time set. -/
def ptpPortState (x : Nat) (f : PtpState → PtpState) : State :=
  let s := ((macState 0 0).wr (Reg.PTPP_CFG 0) 0x80000000).wrFld (Reg.PTPP_STATE 0) 27 24 x
  let s := (s.wr Reg.PTP_STEP 1000).wr Reg.PTP_CFG 0
  (s.setPtp (f { PtpState.reset with set := true })).setCtl { s.ctl with entered := true }
/-- That device holds the key. -/
def Sys2Proof.Machine.State.keyed (s : State) : State := s.setPins { s.pins with keyOut := true, keyIn := false }
/-- A refused step of 5 µs since 0. -/
def refused5 : RefusedEpisode := ⟨0, 5000, 5000, 5000⟩
/-- An Announce of a better clock. -/
def announce1 : AnnounceBody := ⟨0, 2, 1, 6, 0x21, 0x4E5D, 1, 77, 0, 77⟩
/-- SERVICE with channel group 0 used and trained, two ranks. -/
def dramState : State :=
  (((inMode .service).wr Reg.TOP_USAGE 0x01000000).wrBit Reg.DRC_CFG 28 true).setRegs
    (((((inMode .service).wr Reg.TOP_USAGE 0x01000000).wrBit Reg.DRC_CFG 28 true).wrFld (Reg.DRCC_STATUS 0) 31 30 3).regs)
/-- SERVICE with one fault message on its way. -/
def faultState (m : FaultMsg) : State := keyService.setFlt { keyService.flt with inbox := [m] }
/-- A C2 record of kind 0x20 at address 5 in the FIFO. -/
def rec2 : FaultRec := ⟨0, 0x011, 2, false, 5, 1, 0x20⟩
/-- An open record of a class and kind. -/
def open2 (cls kind since : Nat) : OpenRec := ⟨3, cls, kind, 0x011, 5, since⟩
/-- SERVICE with open records. -/
def openState (os : List OpenRec) : State := (inMode .service).setFlt { (inMode .service).flt with opened := os }
/-- SERVICE with the journal read. -/
def lifeState (f : LifeState → LifeState) : State :=
  (inMode .service).setLife (f { LifeState.reset 0 with valid := true, writeAt := 32 })
/-- SERVICE with the PCIe link up; or an SPI target. -/
def linkState : State := (inMode .service).setPcie { State.reset.pcie with linkUp := true, speed := 3, width := 4, busMaster := true }
/-- SERVICE as an SPI target. -/
def spiState : State := (inMode .service).setPins { State.reset.pins with straps := 2 }
/-- A reply is presented in the mailbox and others wait. -/
def outState (r : List Byte) (q : List (List Byte)) : State := linkState.setCard { linkState.card with mbxOut := r, mbxQueue := q }
/-- SERVICE with DMA on and channel c as given. -/
def dmaState (c : Nat) (x : Chan) : State := linkState.setChan c x
/-- A valid descriptor of 64 bytes from DRAM to DRAM with END, in bursts of 32. -/
def descBytes : List Byte := toLe 8 0x100000000 ++ toLe 8 0x100001000 ++ toLe 4 64 ++ toLe 4 2147483648 ++ toLe 8 0
/-- A channel in a state that works on it. -/
def workChan (st : ChanState) (phase : ChanPhase) (remain : Nat) : Chan :=
  ⟨st, .idle, false, phase, false, 0x100000000, 0x100001000, 0x100000000, 0x100001000, remain, 2147483648, 0, 0⟩

/-! The hypotheses of the statements can be met. -/

/-- States and operands that meet the hypotheses of each clause of step_runs_front_command. -/
theorem test_step_runs_front_command_met :
    (∃ (s : State), s.pending = []) :=
  ⟨State.reset, by decide +kernel⟩

/-- States and operands that meet the hypotheses of each clause of key_out_is_high_only_in_service_or_the_closing_claim. -/
theorem test_key_out_is_high_only_in_service_or_the_closing_claim_met :
    (∃ (s : State) (t : State), (s.keySafe) ∧ (step s = .next t)) :=
  ⟨(keyService.setPending [.fltKick 5]), (keyService.setNow 5 |>.fltKick), by decide +kernel, rfl⟩

/-- States and operands that meet the hypotheses of each clause of modes_change_only_along_the_transitions. -/
theorem test_modes_change_only_along_the_transitions_met :
    (∃ (s : State) (t : State), (s.keySafe) ∧ (step s = .next t)) :=
  ⟨(keyService.setPending [.fltKick 5]), (keyService.setNow 5 |>.fltKick), by decide +kernel, rfl⟩

/-- States and operands that meet the hypotheses of each clause of clock_queue_and_identity. -/
theorem test_clock_queue_and_identity_met :
    (∃ (s : State) (t : State), step s = .next t) :=
  ⟨(keyService.setPending [.fltKick 5]), (keyService.setNow 5 |>.fltKick), rfl⟩

/-- States and operands that meet the hypotheses of each clause of power_on_resets_everything. -/
theorem test_power_on_resets_everything_met :
    (∃ (straps : Nat) (s : State), straps / 4 % 2 = 0 ∨ s.boot.fuse ≠ none) ∧
    (∃ (straps : Nat) (s : State), straps / 4 % 2 = 0 ∨ s.boot.fuse ≠ none) ∧
    (∃ (straps : Nat) (s : State), (straps / 4 % 2 = 1) ∧ (s.boot.fuse = none)) :=
  ⟨⟨3, State.reset, by decide +kernel⟩,
    ⟨15, ((inMode .service).setBoot { State.reset.boot with fuse := some [1] }), by decide +kernel⟩,
    ⟨4, State.reset, by decide +kernel⟩⟩

/-- States and operands that meet the hypotheses of each clause of internal_reset_ends_in_boot. -/
theorem test_internal_reset_ends_in_boot_met :
    (∃ (straps : Nat) (s : State), (s.power.inReset = true) ∧ (s.pins.pwrgood = true) ∧ (straps / 4 % 2 = 0 ∨ s.boot.fuse ≠ none)) ∧
    (∃ (straps : Nat) (s : State), (s.power.inReset = true) ∧ (s.pins.resetN = true) ∧ (straps / 4 % 2 = 0 ∨ s.boot.fuse ≠ none)) ∧
    (∃ (straps : Nat) (s : State), (s.power.inReset = true) ∧ (s.pins.resetN = true) ∧ (s.pins.pwrgood = true) ∧ (straps / 4 % 2 = 0 ∨ s.boot.fuse ≠ none)) :=
  ⟨⟨1, heldReset, by decide +kernel⟩,
    ⟨11, heldReset, by decide +kernel⟩,
    ⟨0, heldReset, by decide +kernel⟩⟩

/-- States and operands that meet the hypotheses of each clause of reset_sources_start_reaping. -/
theorem test_reset_sources_start_reaping_met :
    (∃ (s : State), (s.pins.pwrgood = true) ∧ (s.power.inReset = false) ∧ (s.power.reaping = none)) ∧
    (∃ (s : State), s.power.inReset = false) ∧
    (∃ (s : State), s.power.inReset = true) :=
  ⟨⟨keyService, by decide +kernel⟩,
    ⟨keyService, by decide +kernel⟩,
    ⟨heldReset, by decide +kernel⟩⟩

/-- States and operands that meet the hypotheses of each clause of internal_reset_keeps_flash_and_fuses. -/
theorem test_internal_reset_keeps_flash_and_fuses_met :
    (∃ (s : State) (c : ReapCause), (s.power.reaping = some c) ∧ (c = .pin ∨ c = .restart ∨ c = .powerFail) ∧ (s.power.sown = []) ∧ (s.power.tails = []) ∧ (s.power.finalCheckpoint = false ∨ s.life.queued = [])) ∧
    (∃ (s : State) (c : ReapCause), (s.power.reaping = some c) ∧ (c = .pin ∨ c = .restart ∨ c = .powerFail) ∧ (s.power.sown = []) ∧ (s.power.tails = []) ∧ (s.power.finalCheckpoint = false ∨ s.life.queued = [])) :=
  ⟨⟨((inMode .service).setPower { PowerState.reset with reaping := some .pin }), ReapCause.pin, by decide +kernel⟩,
    ⟨(((inMode .service).setPower { PowerState.reset with reaping := some .powerFail }).wr Reg.TOP_RESET_CAUSE 0xFF02), ReapCause.powerFail, by decide +kernel⟩⟩

/-- States and operands that meet the hypotheses of each clause of sowing_moves_one_block. -/
theorem test_sowing_moves_one_block_met :
    (∃ (s : State), (s.power.inReset = false) ∧ (s.power.sowing = false) ∧ (s.power.reaping = none) ∧ (s.ctl.mode = .train) ∧ (s.power.stage = 3)) ∧
    (∃ (s : State), (s.power.inReset = false) ∧ (s.power.sowing = false) ∧ (s.power.reaping = none) ∧ (s.ctl.mode = .boot) ∧ (s.power.stage = 0) ∧ (s.boot.stage ≠ .fallback)) ∧
    (∃ (t : Nat) (rated : List (Nat × Nat)) (s : State) (b : BlockId) (rest : List BlockId), (s.power.toSow = b :: rest) ∧ (s.power.sowing = true) ∧ ((s.at t).reapFalls = false) ∧ ((s.at t).blockDue b rated = true) ∧ (ratedOk rated = true)) ∧
    (∃ (t : Nat) (r : Nat) (c : Nat) (s : State) (b : BlockId) (rest : List BlockId), (s.power.toSow = b :: rest) ∧ (s.power.sowing = true) ∧ ((s.at t).reapFalls = false) ∧ ((s.at t).blockDue b [(r, c)] = true) ∧ (c ≤ 8000)) ∧
    (∃ (s : State), (s.power.sowing = true) ∧ (s.power.toSow = []) ∧ (s.boot.locks = []) ∧ (s.power.stage = 3)) ∧
    (∃ (s : State), (s.power.sowing = true) ∧ (s.power.toSow = []) ∧ (s.boot.locks = []) ∧ (s.power.stage = 4) ∧ (s.ctl.mode = .train) ∧ (s.ctl.paired = false)) ∧
    (∃ (t : Nat) (rated : List (Nat × Nat)) (s : State) (c : ReapCause) (b : BlockId) (rest : List BlockId), (s.power.reaping = some c) ∧ (s.power.sown = b :: rest) ∧ ((s.at t).reapable c b = true) ∧ ((s.at t).blockDue b rated = true) ∧ ((s.at t).reapAllowed b = true) ∧ (ratedOk rated = true)) :=
  ⟨⟨((inMode .train).setPower { PowerState.reset with stage := 3 }), by decide +kernel⟩,
    ⟨State.reset, by decide +kernel⟩,
    ⟨1, ([(0, 8000)]), ((inMode .boot).setPower { PowerState.reset with sowing := true, toSow := [BlockId.loop 2, BlockId.core] }), (BlockId.loop 2), ([BlockId.core]), by decide +kernel⟩,
    ⟨7, 4, 8000, ((inMode .train).setPower { PowerState.reset with sowing := true, toSow := [BlockId.furrow 3] }), (BlockId.furrow 3), (([] : List BlockId)), by decide +kernel⟩,
    ⟨((inMode .train).setPower { PowerState.reset with sowing := true, stage := 3 }), by decide +kernel⟩,
    ⟨((inMode .train).setPower { PowerState.reset with sowing := true, stage := 4 }), by decide +kernel⟩,
    ⟨0, ([(1, 8000), (2, 1)]), ((inMode .service).setPower { PowerState.reset with reaping := some .pin, sown := [BlockId.chgrp 1, BlockId.loop 2] }), ReapCause.pin, (BlockId.chgrp 1), ([BlockId.loop 2]), by decide +kernel⟩⟩

/-- States and operands that meet the hypotheses of each clause of furrow_moves_and_tails. -/
theorem test_furrow_moves_and_tails_met :
    (∃ (t : Nat) (s : State) (x : Nat) (rest : List Nat) (i : Nat) (w : Nat), (s.power.moves = x :: rest) ∧ (s.power.lastMove + 100000 ≤ max s.now t) ∧ ((s.at t).railsFree moveRated = true) ∧ (i ∈ unitLanes x) ∧ ((s.lane i).want = some w)) ∧
    (∃ (t : Nat) (x : Nat) (s : State) (i : Nat) (g : Nat) (n : Nat), (i ∈ unitLanes x) ∧ ((s.lane i).goal = some (g, n)) ∧ (n ≤ max s.now t) ∧ (g < 4) ∧ (g = 2 ∨ 64 ≤ x ∨ s.rdBit (Reg.SYN_FURROW_STATUS x) 31 = true)) ∧
    (∃ (t : Nat) (x : Nat) (s : State) (i : Nat) (g : Nat) (n : Nat), (i ∈ unitLanes x) ∧ ((s.lane i).goal = some (g, n)) ∧ (n ≤ max s.now t) ∧ (g < 4) ∧ (g = 2 ∨ 64 ≤ x ∨ s.rdBit (Reg.SYN_FURROW_STATUS x) 31 = true)) ∧
    (∃ (t : Nat) (p : Nat) (s : State), ((s.port p).phase = 3) ∧ ((s.port p).since + (s.at t).portTailNs p ≤ max s.now t)) :=
  ⟨⟨100000, (((inMode .service).setPower { PowerState.reset with moves := [3] }).setLane 50 { coldLane with want := some 0 }), 3, (([] : List Nat)), 50, 0, by decide +kernel⟩,
    ⟨10, 63, ((inMode .service).setLane 1023 { coldLane with goal := some (2, 10) }), 1023, 2, 10, by decide +kernel⟩,
    ⟨10, 73, ((inMode .service).setLane 1033 { coldLane with goal := some (0, 10) }), 1033, 0, 10, by decide +kernel⟩,
    ⟨1000000000, 15, (((inMode .service).setPort 15 { coldPort with phase := 3 }).setPower { PowerState.reset with tails := [15] }), by decide +kernel⟩⟩

/-- States and operands that meet the hypotheses of each clause of adaptive_voltage_steps. -/
theorem test_adaptive_voltage_steps_met :
    (∃ (s : State), s.avsRuns = true) ∧
    (∃ (s : State), s.avsRuns = true) ∧
    (∃ (t : Nat) (s : State), (s.avsRuns = true) ∧ (s.power.avsTarget ≠ 0) ∧ (s.power.avsTarget ≤ 800) ∧ (s.rdFld Reg.TOP_AVS_STATUS 9 0 ≠ 0) ∧ (s.rdFld Reg.TOP_AVS_STATUS 9 0 ≠ s.power.avsTarget) ∧ (s.power.lastAvs + 100000000 ≤ max s.now t)) ∧
    (∃ (t : Nat) (s : State), (s.avsRuns = true) ∧ (s.power.avsTarget ≠ 0) ∧ (s.power.avsTarget ≤ 800) ∧ (s.rdFld Reg.TOP_AVS_STATUS 9 0 ≠ 0) ∧ (s.rdFld Reg.TOP_AVS_STATUS 9 0 ≠ s.power.avsTarget) ∧ (s.power.lastAvs + 100000000 ≤ max s.now t)) ∧
    (∃ (t : Nat) (s : State), (s.avsRuns = true) ∧ (s.power.avsTarget ≠ 0) ∧ (s.rdFld Reg.TOP_AVS_STATUS 9 0 ≠ 0) ∧ (s.rdFld Reg.TOP_AVS_STATUS 9 0 ≠ s.power.avsTarget) ∧ (s.power.lastAvs + 100000000 ≤ max s.now t)) ∧
    (∃ (s : State), s.s1Runs = true) ∧
    (∃ (s : State), s.s1Runs = true) :=
  ⟨⟨(avsState 0), by decide +kernel⟩,
    ⟨(avsState 0), by decide +kernel⟩,
    ⟨100000000, ((avsState 703).setPower { PowerState.reset with avsTarget := 700 }), by decide +kernel⟩,
    ⟨100000000, ((avsState 700).setPower { PowerState.reset with avsTarget := 800 }), by decide +kernel⟩,
    ⟨100000000, ((avsState 703).setPower { PowerState.reset with avsTarget := 700 }), by decide +kernel⟩,
    ⟨((inMode .service).setPower { PowerState.reset with stage := 1 }), by decide +kernel⟩,
    ⟨((inMode .service).setPower { PowerState.reset with sowing := true }), by decide +kernel⟩⟩

/-- States and operands that meet the hypotheses of each clause of directory_is_chosen. -/
theorem test_directory_is_chosen_met :
    (∃ (s : State), (s.boot.stage = .directory) ∧ (s.power.inReset = false) ∧ (readDirectory (s.flashBytes 0 64) = none) ∧ (readDirectory (s.flashBytes 0x20000 64) = none)) ∧
    (∃ (s : State) (d : Directory) (k : Nat), (s.boot.stage = .directory) ∧ (s.power.inReset = false) ∧ (chooseDirectory (readDirectory (s.flashBytes 0 64)) (readDirectory (s.flashBytes 0x20000 64)) = some (d, k)) ∧ (slotState d d.next = .written ∨ slotState d d.next = .good)) ∧
    (∃ (s : State) (d : Directory) (k : Nat), (s.boot.stage = .directory) ∧ (s.power.inReset = false) ∧ (s.boot.otherTried = false) ∧ (chooseDirectory (readDirectory (s.flashBytes 0 64)) (readDirectory (s.flashBytes 0x20000 64)) = some (d, k)) ∧ (slotState d d.next ≠ .written) ∧ (slotState d d.next ≠ .good)) ∧
    (∃ (s : State), (s.boot.stage = .fallback) ∧ (s.ctl.mode = .boot) ∧ (s.power.reaping = none) ∧ (s.boot.otherTried = false) ∧ (slotState s.boot.dirDue (otherSlot s.boot.slot) = .written ∨ slotState s.boot.dirDue (otherSlot s.boot.slot) = .good)) :=
  ⟨⟨State.reset, by decide +kernel⟩,
    ⟨(State.reset.flashPut 0x20000 (Directory.bytes ⟨5, .b, .written, .good, 0, 0⟩)), ((⟨5, .b, .written, .good, 0, 0⟩ : Directory)), 1, by decide +kernel⟩,
    ⟨(State.reset.flashPut 0 (Directory.bytes ⟨5, .b, .written, .failed, 0, 0⟩)), ((⟨5, .b, .written, .failed, 0, 0⟩ : Directory)), 0, by decide +kernel⟩,
    ⟨(State.reset.setBoot { State.reset.boot with stage := .fallback, dirDue := Directory.default }), by decide +kernel⟩⟩

/-- States and operands that meet the hypotheses of each clause of image_checks_advance_or_refuse. -/
theorem test_image_checks_advance_or_refuse_met :
    (∃ (s : State), (s.reading = true) ∧ (s.boot.otherTried = false)) ∧
    (∃ (s : State), (s.reading = true) ∧ (s.boot.otherTried = true) ∧ (s.ctl.mode = .boot)) ∧
    (∃ (s : State), (s.boot.stage = .header) ∧ (s.headerFault = none)) ∧
    (∃ (s : State), (s.boot.stage = .header) ∧ (s.boot.otherTried = false) ∧ (s.img 0 4 ≠ 0x5A48494D)) ∧
    (∃ (s : State), (s.boot.stage = .fwHeader) ∧ (s.fwHeaderFault = none)) ∧
    (∃ (s : State), (s.boot.stage = .fwHeader) ∧ (s.boot.otherTried = false) ∧ (s.img s.fwOff 4 ≠ 0x5A484657)) ∧
    (∃ (s : State), (s.boot.stage = .fwSection) ∧ (s.boot.otherTried = false)) ∧
    (∃ (s : State), (s.boot.stage = .records) ∧ (s.s1Runs = true) ∧ (s.recordBad s.boot.recOff = false)) ∧
    (∃ (s : State), (s.boot.stage = .records) ∧ (s.s1Runs = true) ∧ (s.boot.otherTried = false) ∧ (s.recordBad s.boot.recOff = true)) ∧
    (∃ (s : State), (s.boot.stage = .signature) ∧ (s.s1Runs = true) ∧ (s.boot.otherTried = false)) ∧
    (∃ (s : State), (s.boot.stage = .signature) ∧ (s.s1Runs = true) ∧ (s.boot.otherTried = false) ∧ (s.boot.fuse = none)) :=
  ⟨⟨(State.reset.setBoot { State.reset.boot with stage := .header }), by decide +kernel⟩,
    ⟨(State.reset.setBoot { State.reset.boot with stage := .signature, otherTried := true }), by decide +kernel⟩,
    ⟨(stageState .header), by decide +kernel⟩,
    ⟨(State.reset.setBoot { State.reset.boot with stage := .header }), by decide +kernel⟩,
    ⟨(stageState .fwHeader), by decide +kernel⟩,
    ⟨(State.reset.setBoot { State.reset.boot with stage := .fwHeader }), by decide +kernel⟩,
    ⟨(stageState .fwSection), by decide +kernel⟩,
    ⟨recordState, by decide +kernel⟩,
    ⟨(recordState.setBoot { recordState.boot with recOff := 16 }), by decide +kernel⟩,
    ⟨(stageState .signature), by decide +kernel⟩,
    ⟨(stageState .signature), by decide +kernel⟩⟩

/-- States and operands that meet the hypotheses of each clause of image_is_applied_and_accepted. -/
theorem test_image_is_applied_and_accepted_met :
    (∃ (s : State), (s.boot.stage = .apply) ∧ (s.s1Runs = true) ∧ (s.boot.otherTried = false)) ∧
    (∃ (t : Nat) (d : ImageDesc) (s : State), (s.boot.stage = .apply) ∧ (s.s1Runs = true) ∧ (((s.at t).applyImage d).2 = none)) ∧
    (∃ (t : Nat) (d : ImageDesc) (c : Nat) (s : State), (s.boot.stage = .apply) ∧ (s.s1Runs = true) ∧ (s.boot.otherTried = false) ∧ (((s.at t).applyImage d).2 = some c) ∧ (c < 256)) ∧
    (∃ (n : Nat) (band : Nat) (w : Nat) (s : State), (n < 33) ∧ (band < 32) ∧ (Tab.find? s.boot.locks n = some w) ∧ (s.boot.stage ≠ .locking)) ∧
    (∃ (n : Nat) (band : Nat) (w : Nat) (s : State), (n < 33) ∧ (band < 32) ∧ (Tab.find? s.boot.locks n = some w)) ∧
    (∃ (n : Nat) (w : Nat) (s : State), (n < 33) ∧ (s.boot.locks = [(n, w)]) ∧ (s.boot.stage = .locking) ∧ (s.power.toSow = []) ∧ (s.ctl.mode = .boot) ∧ (s.testImage = false)) ∧
    (∃ (t : Nat) (n : Nat) (w : Nat) (s : State), (Tab.find? s.boot.locks n = some w) ∧ (w + 20000000 ≤ max s.now t) ∧ (s.ctl.mode = .boot ∨ s.ctl.mode = .train) ∧ (s.boot.otherTried = false)) ∧
    (∃ (t : Nat) (n : Nat) (w : Nat) (s : State), (Tab.find? s.boot.locks n = some w) ∧ (w + 20000000 ≤ max s.now t) ∧ (s.ctl.mode = .boot ∨ s.ctl.mode = .train) ∧ (s.boot.otherTried = true)) :=
  ⟨⟨(stageState .apply), by decide +kernel⟩,
    ⟨0, emptyDesc, keyedImage, by decide +kernel⟩,
    ⟨0, ({ emptyDesc with initial := [none] }), 0x50, (stageState .apply), by decide +kernel⟩,
    ⟨32, 31, 5, ((inMode .train).setBoot { State.reset.boot with stage := .accepted, locks := [(32, 5)] }), by decide +kernel⟩,
    ⟨32, 31, 5, ((inMode .train).setBoot { State.reset.boot with stage := .locking, locks := [(31, 4), (32, 5)] }), by decide +kernel⟩,
    ⟨2, 0, (((stageState .locking).setBoot { (stageState .locking).boot with locks := [(2, 0)] })), by decide +kernel⟩,
    ⟨20000000, 2, 0, (State.reset.setBoot { State.reset.boot with stage := .locking, locks := [(2, 0)] }), by decide +kernel⟩,
    ⟨20000000, 2, 0, (State.reset.setBoot { State.reset.boot with stage := .locking, otherTried := true, locks := [(2, 0)] }), by decide +kernel⟩⟩

/-- States and operands that meet the hypotheses of each clause of train_ends_in_its_mode. -/
theorem test_train_ends_in_its_mode_met :
    (∃ (t : Nat) (chans : List TrainChan) (s : State), (s.rdBit Reg.DRC_STATUS 30 = true) ∧ (s.rdFld Reg.DRC_TRAIN_STATUS 31 28 < 6) ∧ (((s.at t).trainStep chans).2 = none)) ∧
    (∃ (t : Nat) (chans : List TrainChan) (s : State), (s.rdBit Reg.DRC_STATUS 30 = true) ∧ (s.rdFld Reg.DRC_TRAIN_STATUS 31 28 = 6) ∧ (((s.at t).trainStep chans).2 = none)) ∧
    (∃ (t : Nat) (chans : List TrainChan) (s : State) (code : Nat), (s.rdBit Reg.DRC_STATUS 30 = true) ∧ (s.ctl.mode = .train) ∧ (s.boot.otherTried = false) ∧ (((s.at t).trainStep chans).2 = some code)) ∧
    (∃ (s : State), (s.ctl.mode = .train) ∧ (s.power.stage = 5) ∧ (s.ctl.paired = false)) ∧
    (∃ (t : Nat) (s : State), (s.ctl.mode = .train) ∧ (s.power.stage = 5) ∧ ((s.at t).joinCond = true)) ∧
    (∃ (t : Nat) (s : State), (s.ctl.mode = .train) ∧ (s.power.stage = 5) ∧ (s.ctl.paired = true) ∧ ((s.at t).joinCond = false) ∧ (s.twn.wall.up = true) ∧ (s.peerHolds = true)) ∧
    (∃ (s : State), (s.ctl.mode = .train) ∧ (s.power.stage = 5) ∧ (s.ctl.paired = true) ∧ (s.twn.wall.up = true) ∧ (s.peerHolds = false)) :=
  ⟨⟨0, (([] : List TrainChan)), (trainingState 5), by decide +kernel⟩,
    ⟨0, (([] : List TrainChan)), (trainingState 6), by decide +kernel⟩,
    ⟨0, ([badChan]), (trainingState 2), 0x32, by decide +kernel⟩,
    ⟨((inMode .train).setPower { PowerState.reset with stage := 5 }), by decide +kernel⟩,
    ⟨0, (peerState 1), by decide +kernel⟩,
    ⟨0, ((peerState 1).wr Reg.BOOT_COMPAT_ID 7), by decide +kernel⟩,
    ⟨(peerState 0), by decide +kernel⟩⟩

/-- States and operands that meet the hypotheses of each clause of boot_commands_do_what_they_name. -/
theorem test_boot_commands_do_what_they_name_met :
    (∃ (s : State), (s.rwlLocked = true) ∧ (s.boot.session = none) ∧ (s.boot.dirDue.stateA = .written ∨ s.boot.dirDue.stateA = .good)) ∧
    (∃ (s : State), (s.rwlLocked = true) ∧ (s.boot.session = none) ∧ (s.boot.dirDue.stateB = .written ∨ s.boot.dirDue.stateB = .good)) ∧
    (∃ (s : State) (w : WriteSession), (s.rwlLocked = true) ∧ (s.boot.session = some w)) ∧
    (∃ (s : State), (s.rwlLocked = true) ∧ (s.boot.session = none)) ∧
    (∃ (s : State), (s.boot.session = none) ∧ (s.power.inReset = false) ∧ (s.power.reaping = none)) ∧
    (∃ (cmd : Nat), (5 ≤ cmd) ∧ (cmd ≤ 15)) ∧
    (∃ (k : Nat), k ≠ Config.confirm) ∧
    (∃ (s : State), s.ctl.mode ≠ .safe) ∧
    (∃ (v : Nat) (s : State), (fld (BitVec.ofNat 32 v) 31 16 = Config.confirm) ∧ (bit (BitVec.ofNat 32 v) 0 = true) ∧ (s.ctl.mode = .test) ∧ (s.boot.fuse = none)) ∧
    (∃ (s : State), s.mntRuns flashRes 2 = true) :=
  ⟨⟨((inMode .service).setBoot { State.reset.boot with dirDue := ⟨5, .b, .good, .written, 0, 0⟩ }), by decide +kernel⟩,
    ⟨((inMode .safe).setBoot { State.reset.boot with dirDue := ⟨5, .a, .good, .written, 0, 0⟩ }), by decide +kernel⟩,
    ⟨(sessState 0 []), (sess 0 []), by decide +kernel⟩,
    ⟨(inMode .join), by decide +kernel⟩,
    ⟨keyService, by decide +kernel⟩,
    ⟨15, by decide +kernel⟩,
    ⟨0, by decide +kernel⟩,
    ⟨keyService, by decide +kernel⟩,
    ⟨(Config.confirm * 65536 + 1), (inMode .test), by decide +kernel⟩,
    ⟨((State.runs (inMode .service) ⟨2, 0⟩).setBoot { State.reset.boot with dirDue := ⟨5, .b, .good, .written, 0, 0⟩ }), by decide +kernel⟩⟩

/-- States and operands that meet the hypotheses of each clause of write_session_runs. -/
theorem test_write_session_runs_met :
    (∃ (m : Msg) (s : State), (s.hasOrder m 1) ∧ (s.boot.session = none) ∧ (s.boot.booted = some (otherSlot (bodySlot m.body))) ∧ (beAt m.body 4 4 ≤ slotLength)) ∧
    (∃ (m : Msg) (s : State), (s.hasOrder m 1) ∧ (s.boot.session = none) ∧ (s.boot.booted = some (bodySlot m.body))) ∧
    (∃ (m : Msg) (s : State) (w : WriteSession), (s.hasOrder m 2) ∧ (s.boot.session = some w) ∧ (namesSession w m) ∧ (beAt m.body 4 4 + beAt m.body 8 2 ≤ w.total) ∧ (w.chunks = []) ∧ (beAt m.body 4 4 = w.expected) ∧ (crc32 (slice m.body 16 (beAt m.body 8 2)) = beAt m.body 12 4) ∧ ((s.res flashRes).queue.length < 16)) ∧
    (∃ (m : Msg) (s : State) (w : WriteSession), (s.hasOrder m 2) ∧ (s.boot.session = some w) ∧ (namesSession w m) ∧ (beAt m.body 4 4 + beAt m.body 8 2 ≤ w.total) ∧ (w.chunks = []) ∧ (beAt m.body 4 4 < w.expected)) ∧
    (∃ (s : State) (w : WriteSession) (c : QueuedChunk) (rest : List QueuedChunk), (s.mntRuns flashRes 3 = true) ∧ ((s.res flashRes).running = some ⟨3, w.opened⟩) ∧ (s.boot.session = some w) ∧ (w.chunks = c :: rest) ∧ (c.offset = w.expected) ∧ (c.crcOk = true) ∧ (c.reply.own = true)) ∧
    (∃ (s : State) (w : WriteSession) (c : QueuedChunk) (rest : List QueuedChunk), (s.mntRuns flashRes 3 = true) ∧ ((s.res flashRes).running = some ⟨3, w.opened⟩) ∧ (s.boot.session = some w) ∧ (w.chunks = c :: rest) ∧ (c.offset = w.expected) ∧ (c.crcOk = true) ∧ (c.reply.own = true)) ∧
    (∃ (m : Msg) (s : State) (w : WriteSession), (s.hasOrder m 3) ∧ (s.boot.session = some w) ∧ (namesSession w m) ∧ (w.total ≤ w.expected) ∧ (crc32 (s.flashBytes (slotBase w.slot) w.total) = w.crc)) ∧
    (∃ (m : Msg) (s : State) (w : WriteSession), (s.hasOrder m 3) ∧ (s.boot.session = some w) ∧ (namesSession w m) ∧ (w.expected < w.total)) ∧
    (∃ (m : Msg) (s : State) (w : WriteSession), (s.hasOrder m 6) ∧ (s.boot.session = some w) ∧ (namesSession w m)) ∧
    (∃ (t : Nat) (s : State) (w : WriteSession), (s.boot.session = some w) ∧ (w.lastChunk + 60000000000 ≤ max s.now t) ∧ ((s.at t).chunkArrives w = false)) ∧
    (∃ (m : Msg) (s : State), (s.hasOrder m 4) ∧ (s.boot.session = none) ∧ (slotState s.boot.dirDue (bodySlot m.body) = .written ∨ slotState s.boot.dirDue (bodySlot m.body) = .good)) ∧
    (∃ (m : Msg) (s : State), (s.hasOrder m 5) ∧ (s.boot.session = none) ∧ (s.power.reaping = none) ∧ (s.power.inReset = false)) :=
  ⟨⟨(mbxMsg 0x30 [1, 1, 7, 0, 0, 0, 0, 4, 1, 2, 3, 4]), (((inMode .service).setBoot { State.reset.boot with booted := some .a, dirDue := Directory.default }).withMsg (mbxMsg 0x30 [1, 1, 7, 0, 0, 0, 0, 4, 1, 2, 3, 4])), by decide +kernel⟩,
    ⟨(mbxMsg 0x30 [1, 0, 7, 0, 0, 0, 0, 4, 1, 2, 3, 4]), (((inMode .service).setBoot { State.reset.boot with booted := some .a }).withMsg (mbxMsg 0x30 [1, 0, 7, 0, 0, 0, 0, 4, 1, 2, 3, 4])), by decide +kernel⟩,
    ⟨(mbxMsg 0x30 [2, 1, 7, 0, 0, 0, 0, 0, 0, 4, 0, 0, 0xB6, 0x3C, 0xFB, 0xCD, 1, 2, 3, 4]), ((sessState 0 []).withMsg (mbxMsg 0x30 [2, 1, 7, 0, 0, 0, 0, 0, 0, 4, 0, 0, 0xB6, 0x3C, 0xFB, 0xCD, 1, 2, 3, 4])), (sess 0 []), by decide +kernel⟩,
    ⟨(mbxMsg 0x30 [2, 1, 7, 0, 0, 0, 0, 0, 0, 4, 0, 0, 0, 0, 0, 0, 1, 2, 3, 4]), ((sessState 4 []).withMsg (mbxMsg 0x30 [2, 1, 7, 0, 0, 0, 0, 0, 0, 4, 0, 0, 0, 0, 0, 0, 1, 2, 3, 4])), (sess 4 []), by decide +kernel⟩,
    ⟨(State.runs (sessState 0 [chunk4 0]) ⟨3, 0⟩), (sess 0 [chunk4 0]), (chunk4 0), (([] : List QueuedChunk)), by decide +kernel⟩,
    ⟨(State.runs (sessState 0 [chunk4 0]) ⟨3, 0⟩), (sess 0 [chunk4 0]), (chunk4 0), (([] : List QueuedChunk)), by decide +kernel⟩,
    ⟨(mbxMsg 0x30 [3, 1, 7, 1]), (((sessState 4 []).withMsg (mbxMsg 0x30 [3, 1, 7, 1])).flashPut (slotBase .b) [1, 2, 3, 4]), (sess 4 []), by decide +kernel⟩,
    ⟨(mbxMsg 0x30 [3, 1, 7, 1]), ((sessState 0 []).withMsg (mbxMsg 0x30 [3, 1, 7, 1])), (sess 0 []), by decide +kernel⟩,
    ⟨(mbxMsg 0x30 [6, 1, 7, 0]), ((sessState 4 []).withMsg (mbxMsg 0x30 [6, 1, 7, 0])), (sess 4 []), by decide +kernel⟩,
    ⟨60000000000, (sessState 2 []), (sess 2 []), by decide +kernel⟩,
    ⟨(mbxMsg 0x30 [4, 1, 0, 0]), (((inMode .safe).setBoot { State.reset.boot with dirDue := ⟨5, .a, .good, .written, 0, 0⟩ }).withMsg (mbxMsg 0x30 [4, 1, 0, 0])), by decide +kernel⟩,
    ⟨(mbxMsg 0x30 [5, 1, 0, 0]), (keyService.withMsg (mbxMsg 0x30 [5, 1, 0, 0])), by decide +kernel⟩⟩

/-- States and operands that meet the hypotheses of each clause of fratin_messages_pass_their_checks. -/
theorem test_fratin_messages_pass_their_checks_met :
    (∃ (t : Nat) (path : MsgPath) (d : Datagram) (data : List Byte) (s : State) (k : FKey) (r : ReplyTo) (x : Sender), (data = d.data) ∧ (s.servedOn path d = true) ∧ (s.boot.romFallback = false) ∧ (40 ≤ data.length) ∧ (data.length ≤ 9000) ∧ (beAt data 0 2 = 0x4652) ∧ (byteAt data 2 = 1) ∧ (beAt data 4 2 = data.length) ∧ (Tab.find? s.cfg.keys (byteAt data 12) = some k) ∧ ((hmacSha256 k.key (data.take (data.length - 16))).take 16 = data.drop (data.length - 16)) ∧ (beAt data 8 2 < 16384) ∧ (beAt data 8 2 = s.systemId) ∧ (beAt data 6 2 = 0) ∧ (beAt data 13 3 = 0) ∧ (beAt data 10 2 ≠ 0) ∧ (r = ⟨path, (if path = .mailbox then 0 else d.ip), (if path = .mailbox then 0 else d.udp), byteAt data 12, beAt data 10 2, beAt data 20 4, byteAt data 3, true⟩) ∧ ((s.at t).dedup (beAt data 10 2) (beAt data 16 4) (beAt data 20 4) = .fresh x) ∧ (s.firstFault r false (slice data 24 (data.length - 40)) = none) ∧ (s.xpt.rx.length < 256)) ∧
    (∃ (path : MsgPath) (d : Datagram) (s : State), (s.servedOn path d = true) ∧ (s.boot.romFallback = false) ∧ (s.tagWrong d.data) ∧ ((s.rd Reg.XPT_CNT_AUTH_FAIL).toNat + 1 < 4294967296)) ∧
    (∃ (i : Nat) (d : Datagram) (s : State), s.mgtTakes i d = false) ∧
    (∃ (s : State), s.mbxBusy = true) :=
  ⟨⟨0, (MsgPath.mgt 0), ((⟨5, 6, 7, 5970, false, queryData⟩ : Datagram)), queryData, ((keyedState.wr (Reg.MAC_IPV4_ADDR 1032) 7).setCfg { keyedState.cfg with udpPort := 5970 }), ((⟨4, [1]⟩ : FKey)), ((⟨.mgt 0, 5, 6, 0, 1, 9, 0x10, true⟩ : ReplyTo)), ((⟨0, 9, [(9, 0)], []⟩ : Sender)), by decide +kernel⟩,
    ⟨MsgPath.mailbox, ((⟨5, 6, 7, 8, false, List.replicate 64 0⟩ : Datagram)), (inMode .service), by decide +kernel⟩,
    ⟨0, ((⟨5, 6, 7, 8, false, List.replicate 64 0⟩ : Datagram)), (inMode .service), by decide +kernel⟩,
    ⟨((inMode .service).wr Reg.CPT_MBX_IN_CTRL 0x40000028), by decide +kernel⟩⟩

/-- States and operands that meet the hypotheses of each clause of takes_and_salvos_queue. -/
theorem test_takes_and_salvos_queue_met :
    (∃ (m : Msg) (s : State) (eff : EffTime) (late : Bool), (s.hasMsg m 1) ∧ (s.ctl.mode = .service) ∧ (readEff m.body = some (eff, late))) ∧
    (∃ (m : Msg) (s : State), (s.hasMsg m 2) ∧ (s.ctl.mode = .service) ∧ (s.openSalvo m.reply.sender (beAt m.body 0 4) = none) ∧ (s.xpt.opened.length < 16)) ∧
    (∃ (m : Msg) (s : State) (o : OpenSalvo), (s.hasMsg m 2) ∧ (s.ctl.mode = .service) ∧ (s.openSalvo m.reply.sender (beAt m.body 0 4) = some o) ∧ ((Tab.find? o.parts (beAt m.body 4 2)).isSome = true)) ∧
    (∃ (m : Msg) (s : State), (s.hasMsg m 2) ∧ (s.ctl.mode = .service) ∧ (s.openSalvo m.reply.sender (beAt m.body 0 4) = none) ∧ (16 ≤ s.xpt.opened.length)) ∧
    (∃ (m : Msg) (s : State) (o : OpenSalvo) (eff : EffTime) (late : Bool), (s.hasMsg m 3) ∧ (s.ctl.mode = .service) ∧ (readEff (m.body.drop 12) = some (eff, late)) ∧ (s.openSalvo m.reply.sender (beAt m.body 0 4) = some o) ∧ ((∀ i ∈ List.range (beAt m.body 4 2), (Tab.find? o.parts i).isSome = true)) ∧ ((o.parts.flatMap fun p => p.2).length = beAt m.body 8 4)) ∧
    (∃ (m : Msg) (s : State) (eff : EffTime × Bool), (s.hasMsg m 3) ∧ (s.ctl.mode = .service) ∧ (readEff (m.body.drop 12) = some eff) ∧ (s.openSalvo m.reply.sender (beAt m.body 0 4) = none)) :=
  ⟨⟨(mbxMsg 1 takeBody), (takeState.withMsg (mbxMsg 1 takeBody)), EffTime.next, false, by decide +kernel⟩,
    ⟨(mbxMsg 2 ([0, 0, 0, 1, 0, 0, 0, 1, 0, 1, 0, 0] ++ takeBody.drop 16)), (takeState.withMsg (mbxMsg 2 ([0, 0, 0, 1, 0, 0, 0, 1, 0, 1, 0, 0] ++ takeBody.drop 16))), by decide +kernel⟩,
    ⟨(mbxMsg 2 ([0, 0, 0, 1, 0, 0, 0, 1, 0, 1, 0, 0] ++ takeBody.drop 16)), ((takeState.putOpen (open1 [(0, [entry5])])).setXpt { (takeState.putOpen (open1 [(0, [entry5])])).xpt with rx := [mbxMsg 2 ([0, 0, 0, 1, 0, 0, 0, 1, 0, 1, 0, 0] ++ takeBody.drop 16)] }), (open1 [(0, [entry5])]), by decide +kernel⟩,
    ⟨(mbxMsg 2 ([0, 0, 0, 1, 0, 0, 0, 1, 0, 1, 0, 0] ++ takeBody.drop 16)), (takeState.setXpt { takeState.xpt with opened := List.replicate 16 ⟨2, 2, 1, [], 0⟩, rx := [mbxMsg 2 ([0, 0, 0, 1, 0, 0, 0, 1, 0, 1, 0, 0] ++ takeBody.drop 16)] }), by decide +kernel⟩,
    ⟨(mbxMsg 3 ([0, 0, 0, 1, 0, 1, 0, 0, 0, 0, 0, 1] ++ List.replicate 16 0)), ((takeState.putOpen (open1 [(0, [entry5])])).setXpt { (takeState.putOpen (open1 [(0, [entry5])])).xpt with rx := [mbxMsg 3 ([0, 0, 0, 1, 0, 1, 0, 0, 0, 0, 0, 1] ++ List.replicate 16 0)] }), (open1 [(0, [entry5])]), EffTime.next, false, by decide +kernel⟩,
    ⟨(mbxMsg 3 ([0, 0, 0, 1, 0, 1, 0, 0, 0, 0, 0, 1] ++ List.replicate 16 0)), (takeState.withMsg (mbxMsg 3 ([0, 0, 0, 1, 0, 1, 0, 0, 0, 0, 0, 1] ++ List.replicate 16 0))), ((EffTime.next, false)), by decide +kernel⟩⟩

/-- States and operands that meet the hypotheses of each clause of validation_commits_or_refuses_whole. -/
theorem test_validation_commits_or_refuses_whole_met :
    (∃ (t : Nat) (s : State) (v : Salvo) (rest : List Salvo) (fs : List (Nat × Nat)), (s.xpt.queue = v :: rest) ∧ (s.ctl.mode = .service) ∧ (s.validates = true) ∧ ((((s.at t).setXpt { s.xpt with queue := rest }).validate v ((s.at t).deviceTime : Int)).toOption = some fs) ∧ (v.reply.own = true)) ∧
    (∃ (t : Nat) (s : State) (v : Salvo) (rest : List Salvo), (s.xpt.queue = v :: rest) ∧ (s.ctl.mode = .service) ∧ (s.validates = true) ∧ ((((s.at t).setXpt { s.xpt with queue := rest }).validate v ((s.at t).deviceTime : Int)).toOption = none)) ∧
    (∃ (s : State) (r : ReplyTo) (p : Pending) (rest : List (ReplyTo × Pending)), (s.xpt.notify = (r, p) :: rest) ∧ (r.own = true)) :=
  ⟨⟨7, (takeState.queueSalvo (salvo5 entry5)), (salvo5 entry5), (([] : List Salvo)), ([(0, 0)]), by decide +kernel⟩,
    ⟨7, (takeState.queueSalvo (salvo5 ⟨7, 6, 4032, 0⟩)), (salvo5 ⟨7, 6, 4032, 0⟩), (([] : List Salvo)), by decide +kernel⟩,
    ⟨(takeState.setXpt { takeState.xpt with notify := [(fromMbx 1, ⟨0, 1, [(0, 1)], [], [entry5], [], none, 7⟩)] }), (fromMbx 1), ((⟨0, 1, [(0, 1)], [], [entry5], [], none, 7⟩ : Pending)), (([] : List (ReplyTo × Pending))), by decide +kernel⟩⟩

/-- States and operands that meet the hypotheses of each clause of live_sets_validate_whole. -/
theorem test_live_sets_validate_whole_met :
    (∃ (t : Nat) (m : Msg) (s : State), (s.hasMsg m 0x20) ∧ (s.ctl.mode = .service) ∧ (s.validates = true) ∧ (((s.at t).setXpt { s.xpt with rx := s.xpt.rx.drop 1 }).liveFault (readLives (beAt m.body 0 2) (m.body.drop 4)) = none)) ∧
    (∃ (t : Nat) (m : Msg) (s : State) (i : Nat), (s.hasMsg m 0x20) ∧ (s.ctl.mode = .service) ∧ (s.validates = true) ∧ (((s.at t).setXpt { s.xpt with rx := s.xpt.rx.drop 1 }).liveFault (readLives (beAt m.body 0 2) (m.body.drop 4)) = some (0x25, i))) :=
  ⟨⟨7, (mbxMsg 0x20 ([0, 1, 0, 0, 0x13] ++ List.replicate 15 0)), (takeState.withMsg (mbxMsg 0x20 ([0, 1, 0, 0, 0x13] ++ List.replicate 15 0))), by decide +kernel⟩,
    ⟨7, (mbxMsg 0x20 ([0, 1, 0, 0, 0x12, 0, 0, 0, 0, 0, 0, 0, 0, 1, 0, 0, 0, 0, 0, 0])), (takeState.withMsg (mbxMsg 0x20 ([0, 1, 0, 0, 0x12, 0, 0, 0, 0, 0, 0, 0, 0, 1, 0, 0, 0, 0, 0, 0]))), 0, by decide +kernel⟩⟩

/-- States and operands that meet the hypotheses of each clause of query_reads_the_tables. -/
theorem test_query_reads_the_tables_met :
    (∃ (m : Msg) (s : State), (s.hasMsg m 0x10) ∧ (byteAt m.body 0 = 0) ∧ (byteAt m.body 1 = 0) ∧ (beAt m.body 2 2 + beAt m.body 4 2 ≤ 4096)) :=
  ⟨(mbxMsg 0x10 [0, 0, 0x0F, 0xFF, 0, 1, 0, 0]), (takeState.withMsg (mbxMsg 0x10 [0, 0, 0x0F, 0xFF, 0, 1, 0, 0])), by decide +kernel⟩

/-- States and operands that meet the hypotheses of each clause of status_items_answer. -/
theorem test_status_items_answer_met :
    (∃ (t : Nat) (m : Msg) (s : State) (d : List Byte), (s.hasMsg m 0x11) ∧ (beAt m.body 0 2 = 1) ∧ (d = ((s.at t).setXpt { s.xpt with rx := s.xpt.rx.drop 1 }).summaryData)) ∧
    (∃ (t : Nat) (m : Msg) (s : State) (d : List Byte), (s.hasMsg m 0x11) ∧ (beAt m.body 0 2 = 2) ∧ (d = ((s.at t).setXpt { s.xpt with rx := s.xpt.rx.drop 1 }).groupData (beAt m.body 4 4))) ∧
    (∃ (t : Nat) (m : Msg) (s : State) (d : List Byte), (s.hasMsg m 0x11) ∧ (beAt m.body 0 2 = 3) ∧ (d = ((s.at t).setXpt { s.xpt with rx := s.xpt.rx.drop 1 }).streamData (beAt m.body 4 4))) ∧
    (∃ (t : Nat) (m : Msg) (s : State) (d : List Byte), (s.hasMsg m 0x11) ∧ (beAt m.body 0 2 = 4) ∧ (d = ((s.at t).setXpt { s.xpt with rx := s.xpt.rx.drop 1 }).faultData)) ∧
    (∃ (t : Nat) (m : Msg) (s : State) (d : List Byte), (s.hasMsg m 0x11) ∧ (beAt m.body 0 2 = 5) ∧ (d = ((s.at t).setXpt { s.xpt with rx := s.xpt.rx.drop 1 }).flowData (beAt m.body 4 4))) ∧
    (∃ (t : Nat) (m : Msg) (s : State) (d : List Byte), (s.hasMsg m 0x11) ∧ (beAt m.body 0 2 = 6) ∧ (d = ((s.at t).setXpt { s.xpt with rx := s.xpt.rx.drop 1 }).healthData)) ∧
    (∃ (t : Nat) (m : Msg) (s : State) (d : List Byte), (s.hasMsg m 0x11) ∧ (beAt m.body 0 2 = 7) ∧ (d = ((s.at t).setXpt { s.xpt with rx := s.xpt.rx.drop 1 }).regBytes ((List.range 32).map fun k => 0x010000 + 4 * k))) ∧
    (∃ (t : Nat) (m : Msg) (s : State) (d : List Byte), (s.hasMsg m 0x11) ∧ (beAt m.body 0 2 = 8) ∧ (d = ((s.at t).setXpt { s.xpt with rx := s.xpt.rx.drop 1 }).lintelData)) ∧
    (∃ (t : Nat) (m : Msg) (s : State) (d : List Byte), (s.hasMsg m 0x11) ∧ (beAt m.body 0 2 = 9) ∧ (d = ((s.at t).setXpt { s.xpt with rx := s.xpt.rx.drop 1 }).portData (beAt m.body 4 4))) :=
  ⟨⟨0, (mbxMsg 0x11 [0, 1, 0, 0, 0, 0, 0, 0]), (takeState.withMsg (mbxMsg 0x11 [0, 1, 0, 0, 0, 0, 0, 0])), ((((takeState.withMsg (mbxMsg 0x11 [0, 1, 0, 0, 0, 0, 0, 0])).at (0)).setXpt { (takeState.withMsg (mbxMsg 0x11 [0, 1, 0, 0, 0, 0, 0, 0])).xpt with rx := (takeState.withMsg (mbxMsg 0x11 [0, 1, 0, 0, 0, 0, 0, 0])).xpt.rx.drop 1 }).summaryData), by decide +kernel⟩,
    ⟨0, (mbxMsg 0x11 [0, 2, 0, 0, 0, 0, 0, 0]), (takeState.withMsg (mbxMsg 0x11 [0, 2, 0, 0, 0, 0, 0, 0])), ((((takeState.withMsg (mbxMsg 0x11 [0, 2, 0, 0, 0, 0, 0, 0])).at (0)).setXpt { (takeState.withMsg (mbxMsg 0x11 [0, 2, 0, 0, 0, 0, 0, 0])).xpt with rx := (takeState.withMsg (mbxMsg 0x11 [0, 2, 0, 0, 0, 0, 0, 0])).xpt.rx.drop 1 }).groupData (beAt (mbxMsg 0x11 [0, 2, 0, 0, 0, 0, 0, 0]).body 4 4)), by decide +kernel⟩,
    ⟨0, (mbxMsg 0x11 [0, 3, 0, 0, 0, 0, 0, 0]), (takeState.withMsg (mbxMsg 0x11 [0, 3, 0, 0, 0, 0, 0, 0])), ((((takeState.withMsg (mbxMsg 0x11 [0, 3, 0, 0, 0, 0, 0, 0])).at (0)).setXpt { (takeState.withMsg (mbxMsg 0x11 [0, 3, 0, 0, 0, 0, 0, 0])).xpt with rx := (takeState.withMsg (mbxMsg 0x11 [0, 3, 0, 0, 0, 0, 0, 0])).xpt.rx.drop 1 }).streamData (beAt (mbxMsg 0x11 [0, 3, 0, 0, 0, 0, 0, 0]).body 4 4)), by decide +kernel⟩,
    ⟨0, (mbxMsg 0x11 [0, 4, 0, 0, 0, 0, 0, 0]), (takeState.withMsg (mbxMsg 0x11 [0, 4, 0, 0, 0, 0, 0, 0])), ((((takeState.withMsg (mbxMsg 0x11 [0, 4, 0, 0, 0, 0, 0, 0])).at (0)).setXpt { (takeState.withMsg (mbxMsg 0x11 [0, 4, 0, 0, 0, 0, 0, 0])).xpt with rx := (takeState.withMsg (mbxMsg 0x11 [0, 4, 0, 0, 0, 0, 0, 0])).xpt.rx.drop 1 }).faultData), by decide +kernel⟩,
    ⟨0, (mbxMsg 0x11 [0, 5, 0, 0, 0, 0, 0, 0]), (takeState.withMsg (mbxMsg 0x11 [0, 5, 0, 0, 0, 0, 0, 0])), ((((takeState.withMsg (mbxMsg 0x11 [0, 5, 0, 0, 0, 0, 0, 0])).at (0)).setXpt { (takeState.withMsg (mbxMsg 0x11 [0, 5, 0, 0, 0, 0, 0, 0])).xpt with rx := (takeState.withMsg (mbxMsg 0x11 [0, 5, 0, 0, 0, 0, 0, 0])).xpt.rx.drop 1 }).flowData (beAt (mbxMsg 0x11 [0, 5, 0, 0, 0, 0, 0, 0]).body 4 4)), by decide +kernel⟩,
    ⟨0, (mbxMsg 0x11 [0, 6, 0, 0, 0, 0, 0, 0]), (takeState.withMsg (mbxMsg 0x11 [0, 6, 0, 0, 0, 0, 0, 0])), ((((takeState.withMsg (mbxMsg 0x11 [0, 6, 0, 0, 0, 0, 0, 0])).at (0)).setXpt { (takeState.withMsg (mbxMsg 0x11 [0, 6, 0, 0, 0, 0, 0, 0])).xpt with rx := (takeState.withMsg (mbxMsg 0x11 [0, 6, 0, 0, 0, 0, 0, 0])).xpt.rx.drop 1 }).healthData), by decide +kernel⟩,
    ⟨0, (mbxMsg 0x11 [0, 7, 0, 0, 0, 0, 0, 0]), (takeState.withMsg (mbxMsg 0x11 [0, 7, 0, 0, 0, 0, 0, 0])), ((((takeState.withMsg (mbxMsg 0x11 [0, 7, 0, 0, 0, 0, 0, 0])).at (0)).setXpt { (takeState.withMsg (mbxMsg 0x11 [0, 7, 0, 0, 0, 0, 0, 0])).xpt with rx := (takeState.withMsg (mbxMsg 0x11 [0, 7, 0, 0, 0, 0, 0, 0])).xpt.rx.drop 1 }).regBytes ((List.range 32).map fun k => 0x010000 + 4 * k)), by decide +kernel⟩,
    ⟨0, (mbxMsg 0x11 [0, 8, 0, 0, 0, 0, 0, 0]), (takeState.withMsg (mbxMsg 0x11 [0, 8, 0, 0, 0, 0, 0, 0])), ((((takeState.withMsg (mbxMsg 0x11 [0, 8, 0, 0, 0, 0, 0, 0])).at (0)).setXpt { (takeState.withMsg (mbxMsg 0x11 [0, 8, 0, 0, 0, 0, 0, 0])).xpt with rx := (takeState.withMsg (mbxMsg 0x11 [0, 8, 0, 0, 0, 0, 0, 0])).xpt.rx.drop 1 }).lintelData), by decide +kernel⟩,
    ⟨0, (mbxMsg 0x11 [0, 9, 0, 0, 0, 0, 0, 0]), (takeState.withMsg (mbxMsg 0x11 [0, 9, 0, 0, 0, 0, 0, 0])), ((((takeState.withMsg (mbxMsg 0x11 [0, 9, 0, 0, 0, 0, 0, 0])).at (0)).setXpt { (takeState.withMsg (mbxMsg 0x11 [0, 9, 0, 0, 0, 0, 0, 0])).xpt with rx := (takeState.withMsg (mbxMsg 0x11 [0, 9, 0, 0, 0, 0, 0, 0])).xpt.rx.drop 1 }).portData (beAt (mbxMsg 0x11 [0, 9, 0, 0, 0, 0, 0, 0]).body 4 4)), by decide +kernel⟩⟩

/-- States and operands that meet the hypotheses of each clause of snapshot_copies_a_table. -/
theorem test_snapshot_copies_a_table_met :
    (∃ (table : Nat) (s : State), (table ≤ 7) ∧ (s.rdBit Reg.XPT_SNAP 30 = false)) ∧
    (∃ (table : Nat) (s : State), (7 < table) ∧ (s.rdBit Reg.XPT_SNAP 30 = false)) ∧
    (∃ (s : State), s.rdBit Reg.XPT_SNAP 30 = true) ∧
    (∃ (s : State), s.rdBit Reg.XPT_SNAP 30 = true) ∧
    (∃ (s : State) (d : Nat) (r : VRow), (s.rdBit Reg.XPT_SNAP 30 = true) ∧ (s.xpt.snapTable = 0) ∧ (d < 4096) ∧ (Tab.get idleRow s.xpt.vcom d = r)) :=
  ⟨⟨7, takeState, by decide +kernel⟩,
    ⟨8, takeState, by decide +kernel⟩,
    ⟨(takeState.wr Reg.XPT_SNAP 0x40000000), by decide +kernel⟩,
    ⟨((takeState.wr Reg.XPT_SNAP 0x40000006).setXpt { takeState.xpt with snapTable := 6 }), by decide +kernel⟩,
    ⟨((takeState.wr Reg.XPT_SNAP 0x40000000).setXpt { takeState.xpt with vcom := [(4095, ⟨3, 4, 5, true, 6⟩)] }), 4095, ((⟨3, 4, 5, true, 6⟩ : VRow)), by decide +kernel⟩⟩

/-- States and operands that meet the hypotheses of each clause of lintel_messages_and_pin. -/
theorem test_lintel_messages_and_pin_met :
    (∃ (m : Msg) (s : State), (s.hasMsg m 0x40) ∧ (byteAt m.body 0 = 1) ∧ (s.ctl.mode = .service) ∧ (s.validates = true) ∧ (0 < s.dev.variant.compositors) ∧ (∀ k ∈ List.range 16, (beAt m.body 2 2).testBit k = true → (Tab.find? s.lintelSlots k).isSome = true)) ∧
    (∃ (m : Msg) (s : State), (s.hasMsg m 0x40) ∧ (byteAt m.body 0 = 1) ∧ (s.ctl.mode = .service) ∧ (s.validates = true) ∧ (0 < s.dev.variant.compositors) ∧ (∃ k ∈ List.range 16, (beAt m.body 2 2).testBit k = true ∧ Tab.find? s.lintelSlots k = none)) ∧
    (∃ (m : Msg) (s : State), (s.hasMsg m 0x40) ∧ (byteAt m.body 0 = 2) ∧ (s.ctl.mode = .service) ∧ (s.validates = true) ∧ (0 < s.dev.variant.compositors)) ∧
    (∃ (t : Nat) (m : Msg) (s : State), (s.hasMsg m 0x40) ∧ (byteAt m.body 0 = 3) ∧ (s.ctl.mode = .service) ∧ (s.validates = true) ∧ (((s.at t).setXpt { s.xpt with rx := s.xpt.rx.drop 1 }).lintelFault m.body = none)) ∧
    (∃ (m : Msg) (s : State), (s.hasMsg m 0x40) ∧ (byteAt m.body 0 = 4) ∧ (byteAt m.body 1 ≤ 15) ∧ (Tab.find? s.cfg.lintelSlots (byteAt m.body 1) = none) ∧ (s.ctl.mode = .service) ∧ (s.validates = true) ∧ (0 < s.dev.variant.compositors)) ∧
    (∃ (level : Bool) (s : State), s.pins.lintelArm ≠ level) ∧
    (∃ (t : Nat) (s : State), (s.lin.pinEdge + 100000 ≤ max s.now t) ∧ (s.pins.lintelArm ≠ s.lin.pinLevel) ∧ (0 < s.dev.variant.compositors) ∧ (s.ctl.mode = .service ∨ s.ctl.mode = .join)) ∧
    (∃ (s : State), (s.ctl.mode ≠ .service) ∧ (s.ctl.mode ≠ .join)) :=
  ⟨⟨(mbxMsg 0x40 [1, 0, 0, 4]), ((takeState.setLin { takeState.lin with loaded := [(2, .text ⟨0, 0, 0, 1, 1, [65]⟩)] }).withMsg (mbxMsg 0x40 [1, 0, 0, 4])), by decide +kernel⟩,
    ⟨(mbxMsg 0x40 [1, 0, 0x80, 0]), (takeState.withMsg (mbxMsg 0x40 [1, 0, 0x80, 0])), by decide +kernel⟩,
    ⟨(mbxMsg 0x40 [2, 0, 0, 0]), ((takeState.setLin { takeState.lin with msgMask := 4 }).withMsg (mbxMsg 0x40 [2, 0, 0, 0])), by decide +kernel⟩,
    ⟨5, (mbxMsg 0x40 [3, 15, 0, 0, 3, 0xE8, 0, 0, 7, 0, 8, 0, 0, 1, 0, 0, 65]), (takeState.withMsg (mbxMsg 0x40 [3, 15, 0, 0, 3, 0xE8, 0, 0, 7, 0, 8, 0, 0, 1, 0, 0, 65])), by decide +kernel⟩,
    ⟨(mbxMsg 0x40 [4, 2, 0, 0]), ((takeState.setLin { takeState.lin with loaded := [(2, .text ⟨0, 0, 0, 1, 1, [65]⟩)] }).withMsg (mbxMsg 0x40 [4, 2, 0, 0])), by decide +kernel⟩,
    ⟨true, takeState, by decide +kernel⟩,
    ⟨100000, (takeState.setPins { takeState.pins with lintelArm := true }), by decide +kernel⟩,
    ⟨(inMode .safe), by decide +kernel⟩⟩

/-- States and operands that meet the hypotheses of each clause of committed_goes_on_air_at_the_headland. -/
theorem test_committed_goes_on_air_at_the_headland_met :
    (∃ (t : Nat) (g : Nat) (s : State) (f : Nat), (s.tgUsed g = true) ∧ ((s.grp g).acquired = true) ∧ (f = (s.at t).headlandAt g ((s.at t).deviceTime : Int))) ∧
    (∃ (t : Nat) (g : Nat) (s : State) (p : Pending) (e : Entry) (f : Nat) (F : Nat), (s.tgUsed g = true) ∧ ((s.grp g).acquired = true) ∧ ((s.at t).switchFrame g = some F) ∧ (g ∈ s.xpt.started) ∧ (s.xpt.pending = [p]) ∧ (p.kind = 0) ∧ (p.entries = [e]) ∧ (p.live = []) ∧ (p.left = [g]) ∧ (p.frames = [(g, f)]) ∧ (f ≤ F) ∧ (isMono e = false) ∧ (takesV e = true) ∧ (s.dstGroup e.dest = g)) ∧
    (∃ (t : Nat) (g : Nat) (s : State) (p : Pending) (f : Nat) (F : Nat), (s.tgUsed g = true) ∧ ((s.grp g).acquired = true) ∧ ((s.at t).switchFrame g = some F) ∧ (g ∈ s.xpt.started) ∧ (s.xpt.pending = [p]) ∧ (p.left = [g]) ∧ (p.frames = [(g, f)]) ∧ (F < f)) :=
  ⟨⟨3, 0, waitState, ((waitState.at 3).headlandAt 0 ((waitState.at 3).deviceTime : Int)), by decide +kernel⟩,
    ⟨1000000, 0, waitState, wait5, ((⟨7, 5, 4033, 0⟩ : Entry)), 0, 0, by decide +kernel⟩,
    ⟨1000000, 0, (waitState.setXpt { waitState.xpt with pending := [{ wait5 with frames := [(0, 1)] }] }), ({ wait5 with frames := [(0, 1)] }), 1, 0, by decide +kernel⟩⟩

/-- States and operands that meet the hypotheses of each clause of frames_advance_and_windows_hold. -/
theorem test_frames_advance_and_windows_hold_met :
    (∃ (t : Nat) (g : Nat) (s : State), (s.tgUsed g = true) ∧ ((s.grp g).acquired = true) ∧ ((s.at t).frameDue g = true)) ∧
    (∃ (src : Nat) (g : Nat) (least : Int) (most : Int), (g < 16) ∧ (src < 4032) ∧ (least ≤ most)) ∧
    (∃ (d : Nat) (s : State), (isLayer d = false) ∧ ((Tab.find? s.cfg.dsts d).isSome = true) ∧ (s.inWindow ((Tab.get idleRow s.xpt.vout d).srcV) (s.dstGroup d) = false) ∧ (Tab.find? s.xpt.lost d = none) ∧ (s.validates = true)) :=
  ⟨⟨40000000, 0, waitState, by decide +kernel⟩,
    ⟨4031, 15, ((-1 : Int)), ((5 : Int)), by decide +kernel⟩,
    ⟨5, (takeState.setXpt { takeState.xpt with vout := [(5, ⟨7, 7, 0, false, 1⟩)] }), by decide +kernel⟩⟩

/-- States and operands that meet the hypotheses of each clause of input_frames_become_complete. -/
theorem test_input_frames_become_complete_met :
    (∃ (t : Nat) (i : Nat) (s : State) (c : StreamCfg) (p : Nat), (Tab.find? s.cfg.streams i = some c) ∧ (i < 4096) ∧ (s.isPaired i = false) ∧ ((s.stream i).opened = some p) ∧ ((s.stream i).broken = false) ∧ ((s.at t).lossFalls i = false)) ∧
    (∃ (i : Nat) (s : State) (c : StreamCfg) (p : Nat), (Tab.find? s.cfg.streams i = some c) ∧ (i < 4096) ∧ (s.isPaired i = false) ∧ ((s.stream i).opened = some p) ∧ ((s.stream i).broken = true)) ∧
    (∃ (t : Nat) (i : Nat) (s : State) (c : StreamCfg) (p : Nat), (Tab.find? s.cfg.streams i = some c) ∧ (4096 ≤ i) ∧ (i < 8192) ∧ (s.isPaired i = false) ∧ ((s.stream i).opened = some p) ∧ ((s.stream i).broken = false) ∧ ((s.at t).lossFalls i = false)) :=
  ⟨⟨0, 1, (streamState { oneFrame 4 with opened := some 1 }), strm, 1, by decide +kernel⟩,
    ⟨1, (streamState { oneFrame 4 with opened := some 1, broken := true }), strm, 1, by decide +kernel⟩,
    ⟨0, 4097, ((streamState (oneFrame 4)).setStreams [(4097, { oneFrame 4 with opened := some 1 })] |> fun x => x.setCfg { x.cfg with streams := [(4097, strm)] }), strm, 1, by decide +kernel⟩⟩

/-- States and operands that meet the hypotheses of each clause of streams_read_what_was_decided. -/
theorem test_streams_read_what_was_decided_met :
    (∃ (t : Nat) (g : Nat) (s : State) (i : Nat), (s.tgUsed g = true) ∧ (s.decides = true) ∧ (s.ringsOf g = [i]) ∧ ((s.at t).completesNow i = false)) ∧
    (∃ (i : Nat) (frame : Nat) (s : State) (c : StreamCfg) (w : Nat), (Tab.find? s.cfg.streams i = some c) ∧ (i < 4096) ∧ ((s.stream i).ancLen = []) ∧ (s.decides = true) ∧ ((s.stream i).chosen = some (frame, some w))) ∧
    (∃ (i : Nat) (frame : Nat) (s : State) (c : StreamCfg) (d : DecisionRec) (p : Nat), (Tab.find? s.cfg.streams i = some c) ∧ (i < 4096) ∧ ((s.stream i).ancLen = []) ∧ ((s.stream i).ready = true) ∧ (s.decides = false) ∧ (s.twn.decisions.find? (fun d => d.kind == 1 && d.index == i && d.at_ == frame) = some d) ∧ (d.value ≠ decisionBlack) ∧ ((s.stream i).placeOf d.value = some p)) ∧
    (∃ (i : Nat) (frame : Nat) (s : State) (c : StreamCfg) (w : Nat) (p : Nat) (n : Nat), (Tab.find? s.cfg.streams i = some c) ∧ (i < 4096) ∧ (s.decides = true) ∧ ((s.stream i).chosen = some (frame, some w)) ∧ ((s.stream i).placeOf w = some p) ∧ (n = s.badBlocks c p (Tab.get 0 (s.stream i).ancLen p)) ∧ (n ≠ 0) ∧ ((s.rd Reg.FST_CNT_CRC_FAIL).toNat + n < 4294967296)) ∧
    (∃ (i : Nat) (frame : Nat) (s : State) (c : StreamCfg), (Tab.find? s.cfg.streams i = some c) ∧ (i < 4096) ∧ (s.decides = false) ∧ (s.twn.decisions.find? (fun d => d.kind == 1 && d.index == i && d.at_ == frame) = none) ∧ ((s.rd Reg.FST_CNT_DECISION_MISSED).toNat + 1 < 4294967296)) :=
  ⟨⟨0, 0, (streamState (oneFrame 4)), 1, by decide +kernel⟩,
    ⟨1, 9, (streamState { oneFrame 4 with chosen := some (9, some 4) }), strm, 4, by decide +kernel⟩,
    ⟨1, 9, ((followState (streamState (oneFrame 4))).setTwn { (followState (streamState (oneFrame 4))).twn with decisions := [⟨1, 0, 1, 9, 4⟩] }), strm, ((⟨1, 0, 1, 9, 4⟩ : DecisionRec)), 0, by decide +kernel⟩,
    ⟨1, 9, (streamState { oneFrame 4 with chosen := some (9, some 4), ancLen := [(0, 2049)] }), strm, 4, 0, 2, by decide +kernel⟩,
    ⟨1, 9, (followState (streamState (oneFrame 4))), strm, by decide +kernel⟩⟩

/-- States and operands that meet the hypotheses of each clause of slots_are_checked_at_use. -/
theorem test_slots_are_checked_at_use_met :
    (∃ (i : Nat) (tile : Nat) (s : State) (c : StreamCfg) (p : Nat) (a : Nat) (ps : List (List Nat)), (Tab.find? s.cfg.streams i = some c) ∧ (i < 8192) ∧ (tile < c.tiles) ∧ ((s.stream i).reading = some p) ∧ ((Tab.get coldFrame (s.stream i).ring p).written = true) ∧ (s.fst.late.contains (i, tile) = false) ∧ (s.slotAt (slotAddrOf c p tile) = some a) ∧ ((decodeSlot c.stored c.code c.rgb (some ((Tab.get coldFrame (s.stream i).ring p).widx % 65536)) (s.slotBytesAt c a)).toOption = some ps)) ∧
    (∃ (i : Nat) (tile : Nat) (s : State) (c : StreamCfg) (p : Nat) (a : Nat), (Tab.find? s.cfg.streams i = some c) ∧ (i < 8192) ∧ (tile < c.tiles) ∧ ((s.stream i).reading = some p) ∧ ((s.stream i).prev = none) ∧ ((Tab.get coldFrame (s.stream i).ring p).written = true) ∧ (s.fst.late.contains (i, tile) = false) ∧ (s.slotAt (slotAddrOf c p tile) = some a) ∧ ((decodeSlot c.stored c.code c.rgb (some ((Tab.get coldFrame (s.stream i).ring p).widx % 65536)) (s.slotBytesAt c a)).toOption = none)) ∧
    (∃ (t : Nat) (g : Nat) (s : State) (k : Nat), (s.rdFld Reg.DRC_MAINT 15 0 ≠ 0) ∧ (s.groupUsed g = true) ∧ ((s.res (66 + g)).running = none) ∧ (k = Tab.get 0 s.fst.scrubAt g + ((s.at t).scrubFrom (Tab.get 0 s.fst.scrubAt g) 1048576 (s.groupStreams g)).2)) :=
  ⟨⟨1, 0, ((streamState { oneFrame 0 with reading := some 0 }).dramPut 0 fillSlot), strm, 0, 0, (fillTile 0 false), by decide +kernel⟩,
    ⟨1, 0, (streamState { oneFrame 1 with reading := some 0 }), strm, 0, 0, by decide +kernel⟩,
    ⟨0, 0, (((streamState coldStream).wr Reg.DRC_MAINT 1).wr Reg.TOP_USAGE 0x01000000), (Tab.get 0 (((streamState coldStream).wr Reg.DRC_MAINT 1).wr Reg.TOP_USAGE 0x01000000).fst.scrubAt 0 + (((((streamState coldStream).wr Reg.DRC_MAINT 1).wr Reg.TOP_USAGE 0x01000000).at 0).scrubFrom (Tab.get 0 (((streamState coldStream).wr Reg.DRC_MAINT 1).wr Reg.TOP_USAGE 0x01000000).fst.scrubAt 0) 1048576 ((((streamState coldStream).wr Reg.DRC_MAINT 1).wr Reg.TOP_USAGE 0x01000000).groupStreams 0)).2), by decide +kernel⟩⟩

/-- States and operands that meet the hypotheses of each clause of frame_store_registers. -/
theorem test_frame_store_registers_met :
    (∃ (s : State) (i : Nat), i = s.rdFld Reg.FST_SEL 13 0) ∧
    (∃ (t : Nat) (f : Nat) (s : State), (s.boot.fieldsUsed.testBit f = true) ∧ (f < s.dev.variant.fields) ∧ (4 ≤ s.power.stage) ∧ (Tab.get 1000 s.fst.thumbMs f ≠ 0) ∧ (Tab.get 0 s.fst.thumbAt f + 1000000 * Tab.get 1000 s.fst.thumbMs f ≤ max s.now t) ∧ (s.waiters f 32 = [])) :=
  ⟨⟨((streamState { coldStream with qmaxHeld := 3, qmaxLast := 2 }).wr Reg.FST_SEL 1), 1, by decide +kernel⟩,
    ⟨1000000000, 0, (((inMode .service).setBoot { State.reset.boot with fieldsUsed := 1 }).setPower { PowerState.reset with stage := 5 }), by decide +kernel⟩⟩

/-- States and operands that meet the hypotheses of each clause of compositor_caches_and_self_tests. -/
theorem test_compositor_caches_and_self_tests_met :
    (∃ (c : Nat) (s : State), (s.cmpActive c = true) ∧ ((s.cmpRun c).change = true) ∧ (4 ≤ (s.cmpRun c).since)) ∧
    (∃ (c : Nat) (s : State), s.cmpActive c = true) ∧
    (∃ (c : Nat) (s : State), s.cmpActive c = true) ∧
    (∃ (c : Nat) (s : State), s.cmpActive c = true) ∧
    (∃ (r : Nat) (c : Nat) (s : State), (r = 75 ∨ (r = 76 ∧ c < s.dev.variant.compositors)) ∧ ((s.res r).running = none)) ∧
    (∃ (s : State), (s.res 75).running = none) :=
  ⟨⟨0, (cmpState { coldCmp with since := 4, change := true }), by decide +kernel⟩,
    ⟨0, (cmpState { coldCmp with misses := 4 }), by decide +kernel⟩,
    ⟨0, (cmpState coldCmp), by decide +kernel⟩,
    ⟨0, (cmpState { coldCmp with misses := 1 }), by decide +kernel⟩,
    ⟨76, 31, takeState, by decide +kernel⟩,
    ⟨takeState, by decide +kernel⟩⟩

/-- States and operands that meet the hypotheses of each clause of audio_blocks_and_slips. -/
theorem test_audio_blocks_and_slips_met :
    (∃ (s : State), s.audioRuns = true) ∧
    (∃ (i : Nat) (s : State), (s.audioRuns = true) ∧ (s.decides = true) ∧ ((s.audIn i).going = true) ∧ (s.inPlaced i = false) ∧ (s.inExact i = false) ∧ ((s.audIn i).slip = none) ∧ ((s.audIn i).notReady = false) ∧ (6 < (s.audIn i).fill ∨ (s.audIn i).fill < 2)) ∧
    (∃ (i : Nat) (s : State), (s.audioRuns = true) ∧ (s.decides = true) ∧ ((s.audIn i).going = true) ∧ (s.inPlaced i = false) ∧ (s.inExact i = false) ∧ ((s.audIn i).slip = none) ∧ ((s.audIn i).notReady = false) ∧ (6 < (s.audIn i).fill ∨ (s.audIn i).fill < 2)) ∧
    (∃ (i : Nat) (s : State) (b : Nat) (drop : Bool), ((s.audIn i).slip = some (b, drop, false)) ∧ (b + 8 ≤ s.aud.block) ∧ (s.ctl.role ≠ .follower)) ∧
    (∃ (lane : Nat) (s : State), (s.sdiPort lane = true) ∧ ((s.rd Reg.AUD_CNT_DEEMB_ERR).toNat + 1 < 4294967296)) :=
  ⟨⟨takeState, by decide +kernel⟩,
    ⟨3, (takeState.setAudIn 3 (filledIn 7)), by decide +kernel⟩,
    ⟨3, (takeState.setAudIn 3 (filledIn 1)), by decide +kernel⟩,
    ⟨3, ((takeState.setAudIn 3 { filledIn 7 with slip := some (2, true, false) }).setAud { (takeState.setAudIn 3 { filledIn 7 with slip := some (2, true, false) }).aud with block := 10 }), 2, true, by decide +kernel⟩,
    ⟨0, (laneState 0 1), by decide +kernel⟩⟩

/-- States and operands that meet the hypotheses of each clause of audio_masks_wait_for_their_frame. -/
theorem test_audio_masks_wait_for_their_frame_met :
    (∃ (p : Nat) (s : State), p < s.dev.variant.ports) ∧
    (∃ (p : Nat) (s : State), p < s.dev.variant.ports) ∧
    (∃ (t : Nat) (p : Nat) (s : State) (m : Nat) (n : Nat) (j : Nat) (k : Nat), (p < s.dev.variant.ports) ∧ ((s.port p).phase = 1 ∨ (s.port p).phase = 2) ∧ ((s.port p).pendIn = some (m, j)) ∧ ((s.port p).pendOut = some (n, k)) ∧ (j < max s.now t) ∧ (k < max s.now t) ∧ (m < 2 ^ s.portSlots p) ∧ (n < 2 ^ s.portSlots p) ∧ (m < 18446744073709551616) ∧ (n < 18446744073709551616)) ∧
    (∃ (t : Nat) (p : Nat) (s : State) (m : Nat) (k : Nat), (p < s.dev.variant.ports) ∧ ((s.port p).phase = 1 ∨ (s.port p).phase = 2) ∧ ((s.port p).pendIn = none) ∧ ((s.port p).pendOut = some (m, k)) ∧ (k = max s.now t)) :=
  ⟨⟨15, (portState 15 0 2), by decide +kernel⟩,
    ⟨15, (portState 15 0 2), by decide +kernel⟩,
    ⟨5, 15, (((portState 15 0 2).setPort 15 { coldPort with phase := 2, pendIn := some (18446744073709551615, 4), pendOut := some (1, 0) }).wrFld (Reg.AP_CFG 15) 21 20 3), 18446744073709551615, 1, 4, 0, by decide +kernel⟩,
    ⟨5, 15, ((portState 15 0 2).setPort 15 { coldPort with phase := 2, pendOut := some (1, 5) }), 1, 5, by decide +kernel⟩⟩

/-- States and operands that meet the hypotheses of each clause of audio_ports_start_and_stop. -/
theorem test_audio_ports_start_and_stop_met :
    (∃ (p : Nat) (s : State), (p < s.dev.variant.ports) ∧ (s.rdBit (Reg.AP_CFG p) 31 = true) ∧ (s.audioRuns = true) ∧ ((s.port p).phase = 0) ∧ (s.ctl.mode ≠ .safe) ∧ (5 ≤ s.power.stage) ∧ (s.power.reaping = none) ∧ (s.portBadCfg p = false)) ∧
    (∃ (t : Nat) (p : Nat) (s : State), (p < s.dev.variant.ports) ∧ ((s.port p).phase = 1) ∧ ((s.port p).since + framesToNs (s.port p).lead ≤ max s.now t)) ∧
    (∃ (p : Nat) (s : State), (p < s.dev.variant.ports) ∧ (s.power.reaping.isSome = true ∨ s.rdBit (Reg.AP_CFG p) 31 = false ∨ s.ctl.mode = .safe) ∧ ((s.port p).phase = 1 ∨ (s.port p).phase = 2 ∨ (s.port p).phase = 4)) ∧
    (∃ (p : Nat) (cause : Nat) (s : State), (p < s.dev.variant.ports) ∧ (s.portClock p = 1) ∧ (1 ≤ cause) ∧ (cause ≤ 3) ∧ ((s.port p).phase = 2)) ∧
    (∃ (t : Nat) (p : Nat) (s : State), (p < s.dev.variant.ports) ∧ ((s.port p).phase = 4) ∧ ((s.port p).since + 100000000 ≤ max s.now t)) ∧
    (∃ (t : Nat) (p : Nat) (low : Bool) (at_ : Nat) (s : State), (p < s.dev.variant.ports) ∧ (s.portClock p = 2) ∧ ((s.port p).phase = 2) ∧ ((s.port p).atLimit = some (low, at_)) ∧ (at_ + 1000000000 ≤ max s.now t)) :=
  ⟨⟨15, ((portState 15 0 0).setPower { PowerState.reset with stage := 5 }), by decide +kernel⟩,
    ⟨9000000000, 15, (portState 15 0 1), by decide +kernel⟩,
    ⟨15, ((portState 15 0 2).setPower { PowerState.reset with reaping := some .pin }), by decide +kernel⟩,
    ⟨15, 3, (portState 15 1 2), by decide +kernel⟩,
    ⟨100000000, 15, (portState 15 1 4), by decide +kernel⟩,
    ⟨1000000000, 15, true, 0, ((portState 15 2 2).setPort 15 { coldPort with phase := 2, atLimit := some (true, 0) }), by decide +kernel⟩⟩

/-- States and operands that meet the hypotheses of each clause of key_is_claimed_and_held. -/
theorem test_key_is_claimed_and_held_met :
    (∃ (level : Bool) (s : State), (s.pins.keyIn ≠ level) ∧ (s.twn.key.closing = false)) ∧
    (∃ (t : Nat) (s : State), (s.ctl.mode = .service) ∧ (s.ctl.role ≠ .solo) ∧ (s.flt.aliveRuns = true) ∧ (s.power.reaping = none) ∧ (s.pins.keyOut = false) ∧ (s.pins.keyIn = false) ∧ (s.twn.key.claimAt = none) ∧ (s.twn.key.keyInEdge + 10000 ≤ max s.now t) ∧ (s.twn.key.peerDead = true) ∧ ((s.at t).keyInRises = false)) ∧
    (∃ (t : Nat) (s : State), s.pins.keyIn = true ∨ s.flt.aliveRuns = false ∨ s.power.reaping.isSome = true ∨ max s.now t < s.twn.key.keyInEdge + 10000) ∧
    (∃ (t : Nat) (level : Bool) (s : State) (v : Nat), (s.twn.key.claimAt = some v) ∧ (v + 2000 ≤ max s.now t) ∧ (level = false ∨ s.sideB = false) ∧ (s.twn.key.closing = false)) ∧
    (∃ (t : Nat) (s : State) (v : Nat), (s.twn.key.claimAt = some v) ∧ (v + 2000 ≤ max s.now t) ∧ (s.sideB = true) ∧ (s.twn.key.closing = false) ∧ (s.pins.keyOut = true)) ∧
    (∃ (t : Nat) (s : State) (v : Nat), (s.twn.key.claimAt = some v) ∧ (v + 2000 ≤ max s.now t) ∧ (s.twn.key.closing = true) ∧ (s.ctl.mode = .train)) ∧
    (∃ (t : Nat) (s : State) (v : Nat), (s.twn.key.conflictAt = some v) ∧ (s.sideB = false) ∧ (s.pins.keyOut = true) ∧ (s.pins.keyIn = true) ∧ (v + 10000 < max s.now t)) :=
  ⟨⟨true, (twinState .follower), by decide +kernel⟩,
    ⟨10000, ((twinState .follower).withKey fun k => { k with peerDead := true }), by decide +kernel⟩,
    ⟨0, (twinState .follower), by decide +kernel⟩,
    ⟨2000, true, (((twinState .follower).withKey fun k => { k with claimAt := some 0 }).setPins { State.reset.pins with keyOut := true }), 0, by decide +kernel⟩,
    ⟨2000, (((twinState .follower).withKey fun k => { k with claimAt := some 0 }).setPins { State.reset.pins with keyOut := true, straps := 1 }), 0, by decide +kernel⟩,
    ⟨2000, (((inMode .train).setPins { State.reset.pins with keyOut := true }).withKey fun k => { k with claimAt := some 0, closing := true }), 0, by decide +kernel⟩,
    ⟨10001, (((twinState .keyholder).withKey fun k => { k with conflictAt := some 0 }).setPins { State.reset.pins with keyOut := true, keyIn := true }), 0, by decide +kernel⟩⟩

/-- States and operands that meet the hypotheses of each clause of the_peer_is_watched. -/
theorem test_the_peer_is_watched_met :
    (∃ (level : Bool) (s : State), s.pins.alivePeer ≠ level) ∧
    (∃ (t : Nat) (s : State), (max s.twn.key.aliveEdge s.boot.released + 3000000 ≤ max s.now t) ∧ ((s.at t).heartbeatNow = false) ∧ ((s.at t).alivePeerMoves = false)) ∧
    (∃ (t : Nat) (s : State), max s.now t < max s.twn.key.aliveEdge s.boot.released + 3000000) ∧
    (∃ (t : Nat) (s : State), (s.twn.wall.up = false) ∧ (s.pins.keyIn = false) ∧ (s.twn.key.keyInEdge + 3000000 ≤ max s.now t)) ∧
    (∃ (reason : Nat) (s : State), (s.twn.wall.up = true) ∧ (1 ≤ reason) ∧ (reason ≤ 5) ∧ (s.ctl.mode ≠ .join)) ∧
    (∃ (reason : Nat) (s : State), (s.twn.wall.up = true) ∧ (1 ≤ reason) ∧ (reason ≤ 5) ∧ (s.ctl.mode = .join)) :=
  ⟨⟨true, (twinState .follower), by decide +kernel⟩,
    ⟨3000000, (twinState .follower), by decide +kernel⟩,
    ⟨2999999, (twinState .follower), by decide +kernel⟩,
    ⟨3000000, (inMode .service), by decide +kernel⟩,
    ⟨5, (twinState .follower), by decide +kernel⟩,
    ⟨1, ((twinState .follower).setCtl { (twinState .follower).ctl with mode := .join }), by decide +kernel⟩⟩

/-- States and operands that meet the hypotheses of each clause of the_key_is_given_up. -/
theorem test_the_key_is_given_up_met :
    (∃ (s : State), (s.ctl.role = .keyholder) ∧ (s.ctl.mode = .service)) ∧
    (∃ (s : State), (s.ctl.role = .keyholder) ∧ (s.ctl.mode = .service) ∧ (s.hoFrame ≠ 0) ∧ (s.twn.wall.up = true) ∧ (s.tgUsed s.hoGroup = true)) ∧
    (∃ (s : State), (s.ctl.role = .keyholder) ∧ (s.ctl.mode = .service) ∧ (s.hoFrame = 0)) ∧
    (∃ (s : State), s.twn.ho.phase = 1 ∨ s.twn.ho.phase = 2) ∧
    (∃ (s : State), (s.twn.wall.up = true) ∧ (s.twn.ho.phase = 1) ∧ (s.twn.ho.incoming = false)) ∧
    (∃ (t : Nat) (tg : Nat) (frame : Nat) (s : State), (s.twn.wall.up = true) ∧ (s.ctl.role = .alongside) ∧ (s.ctl.mode = .service) ∧ (500 ≤ s.score) ∧ ((s.at t).score = s.score) ∧ (s.tgUsed tg = true) ∧ (((s.at t).deviceTime : Int) + 10000000 ≤ s.frameStart tg frame)) ∧
    (∃ (t : Nat) (s : State), (s.twn.ho.phase = 1) ∧ (s.twn.ho.proposedAt + 5000000 ≤ max s.now t)) ∧
    (∃ (t : Nat) (s : State), (s.twn.ho.phase = 2) ∧ (s.twn.ho.incoming = false) ∧ (s.ctl.mode = .service) ∧ (s.hoInstant ≤ ((s.at t).deviceTime : Int))) ∧
    (∃ (t : Nat) (s : State), (s.twn.ho.phase = 2) ∧ (s.twn.ho.incoming = true) ∧ (s.ctl.mode = .service) ∧ (s.hoInstant ≤ ((s.at t).deviceTime : Int))) ∧
    (∃ (t : Nat) (s : State) (v : Nat), (s.twn.lowSince = some v) ∧ (s.rdBit Reg.TWN_CFG 1 = true) ∧ (s.ctl.role = .keyholder) ∧ (s.ctl.mode = .service) ∧ ((s.at t).score < 500) ∧ (v + 10000000000 ≤ max s.now t)) :=
  ⟨⟨(twinState .keyholder), by decide +kernel⟩,
    ⟨(((twinState .keyholder).wr (Reg.TG_CFG 0) 0x30000).wr Reg.TWN_HO_FRAME_LO 9), by decide +kernel⟩,
    ⟨(twinState .keyholder), by decide +kernel⟩,
    ⟨((twinState .keyholder).setTwn { (twinState .keyholder).twn with ho := ⟨0, 2, false, 0, 9, 0⟩ }), by decide +kernel⟩,
    ⟨((twinState .keyholder).setTwn { (twinState .keyholder).twn with ho := ⟨0, 1, false, 0, 9, 0⟩ }), by decide +kernel⟩,
    ⟨4, 0, 9, (((twinState .alongside).wr (Reg.TG_CFG 0) 0x30000).setGrp 0 { Group.init with acquired := true }), by decide +kernel⟩,
    ⟨5000000, ((twinState .keyholder).setTwn { (twinState .keyholder).twn with ho := ⟨0, 1, false, 0, 9, 0⟩ }), by decide +kernel⟩,
    ⟨5000000, ((twinState .keyholder).setTwn { (twinState .keyholder).twn with ho := ⟨1, 2, false, 0, 0, 0⟩ }), by decide +kernel⟩,
    ⟨5000000, ((twinState .alongside).setTwn { (twinState .alongside).twn with ho := ⟨1, 2, true, 0, 0, 0⟩ }), by decide +kernel⟩,
    ⟨10000000000, (((twinState .keyholder).wr Reg.TWN_CFG 2).setTwn { (twinState .keyholder).twn with lowSince := some 0, arb := { (twinState .keyholder).twn.arb with capped := true } }), 0, by decide +kernel⟩⟩

/-- States and operands that meet the hypotheses of each clause of heartbeats_keep_the_wall. -/
theorem test_heartbeats_keep_the_wall_met :
    (∃ (s : State), (s.wallRuns = true) ∧ (s.twn.wall.locked ≠ 0) ∧ (s.twn.wall.unacked.length < 256) ∧ (s.twn.wall.queue = [])) ∧
    (∃ (hb : Heartbeat) (s : State), (s.wallRuns = true) ∧ (hb.pairId = s.pairId) ∧ (s.ctl.mode = .service) ∧ (s.ctl.role = .keyholder) ∧ (s.twn.key.closing = false)) ∧
    (∃ (hb : Heartbeat) (s : State), (s.wallRuns = true) ∧ (hb.pairId ≠ s.pairId) ∧ ((s.rd Reg.TWN_CNT_BLOCK_CRC).toNat + 1 < 4294967296)) ∧
    (∃ (t : Nat) (s : State), (s.twn.wall.up = true) ∧ (s.twn.wall.lastHb + 300000 ≤ max s.now t) ∧ (s.ctl.mode = .service) ∧ (s.twn.key.closing = false) ∧ ((s.at t).heartbeatArrives = false)) ∧
    (∃ (t : Nat) (s : State), max s.now t < s.twn.wall.lastHb + 300000) :=
  ⟨⟨(twinState .keyholder), by decide +kernel⟩,
    ⟨(peerHb 2), ((twinState .keyholder).withWall fun w => { w with up := false }), by decide +kernel⟩,
    ⟨({ peerHb 2 with pairId := 5 }), (twinState .keyholder), by decide +kernel⟩,
    ⟨300000, (twinState .keyholder), by decide +kernel⟩,
    ⟨299999, (twinState .keyholder), by decide +kernel⟩⟩

/-- States and operands that meet the hypotheses of each clause of wall_blocks_go_back_n. -/
theorem test_wall_blocks_go_back_n_met :
    (∃ (f : List Byte) (s : State), (s.oneLane = true) ∧ (s.twn.wall.rxOpen = none) ∧ (8 ≤ f.length) ∧ (f.length ≤ 4096) ∧ (beAt f 2 2 = f.length) ∧ ((byteAt f 1).testBit 0 = false) ∧ (firmwareType (byteAt f 0) = false) ∧ (s.twn.wall.rxNext < 16777216)) ∧
    (∃ (bseq : Nat) (f : List Byte) (s : State), (s.oneLane = true) ∧ (s.twn.wall.rxOpen = none) ∧ (8 ≤ f.length) ∧ (f.length ≤ 4096) ∧ (bseq < 16777216) ∧ (bseq ≠ s.twn.wall.rxNext) ∧ (s.twn.wall.discarding = false) ∧ ((s.rd Reg.TWN_CNT_BLOCK_CRC).toNat + 1 < 4294967296)) ∧
    (∃ (q : Nat) (ack : Nat) (d : List Byte) (crc : Nat) (s : State), (s.oneLane = true) ∧ (s.twn.wall.rxOpen = some (q, ack, d)) ∧ (d ≠ []) ∧ (crc < 4294967296) ∧ (crc32 d ≠ crc) ∧ (s.twn.wall.discarding = false) ∧ ((s.rd Reg.TWN_CNT_BLOCK_CRC).toNat + 1 < 4294967296)) ∧
    (∃ (s : State), (s.oneLane = true) ∧ (s.twn.wall.rxOpen = none) ∧ (s.twn.wall.rxStray = false) ∧ (s.twn.wall.discarding = false) ∧ ((s.rd Reg.TWN_CNT_BLOCK_CRC).toNat + 1 < 4294967296)) ∧
    (∃ (ty : Nat) (n : Nat) (s : State), (s.oneLane = true) ∧ (ty ∉ [0xA5, 0xB4, 0xC3, 0x1E, 0x66]) ∧ (ty < 256) ∧ ((s.rd (Reg.LAN_CNT_RM_DEL 1024)).toNat + n < 4294967296) ∧ ((s.rd Reg.TWN_CNT_BLOCK_CRC).toNat + 1 < 4294967296)) ∧
    (∃ (t : Nat) (s : State) (b : SentBlock) (rest : List SentBlock), (s.twn.wall.unacked = b :: rest) ∧ (b.at_ + 20000 ≤ max s.now t)) ∧
    (∃ (lane : Nat) (s : State), (lane < 8) ∧ (s.twn.wall.locked.testBit lane = false)) ∧
    (∃ (lane : Nat) (s : State), (lane < 8) ∧ (s.twn.wall.locked.testBit lane = true)) :=
  ⟨⟨(([3, 0, 0, 9, 0, 0, 0, 7, 0x55] : List Byte)), (twinState .keyholder), by decide +kernel⟩,
    ⟨3, (([3, 0, 0, 9, 0, 0, 0, 7, 0x55] : List Byte)), (twinState .keyholder), by decide +kernel⟩,
    ⟨0, 5, (List.replicate 8 (1 : Byte)), 0, ((twinState .keyholder).withWall fun w => { w with rxOpen := some (0, 5, List.replicate 8 1) }), by decide +kernel⟩,
    ⟨(twinState .keyholder), by decide +kernel⟩,
    ⟨0x99, 7, (twinState .keyholder), by decide +kernel⟩,
    ⟨20000, ((twinState .keyholder).withWall fun w => { w with unacked := [⟨5, 0, [], none⟩, ⟨6, 9, [], none⟩] }), ((⟨5, 0, [], none⟩ : SentBlock)), ([(⟨6, 9, [], none⟩ : SentBlock)]), by decide +kernel⟩,
    ⟨7, (twinState .keyholder), by decide +kernel⟩,
    ⟨0, (twinState .keyholder), by decide +kernel⟩⟩

/-- States and operands that meet the hypotheses of each clause of follower_takes_orders_and_decisions. -/
theorem test_follower_takes_orders_and_decisions_met :
    (∃ (t : Nat) (s : State) (d : DecisionRec), (s.twn.wall.up = true) ∧ (s.ctl.mode = .service ∨ s.ctl.mode = .join) ∧ (s.ctl.role = .follower) ∧ (s.joining = false) ∧ (d.kind = 1 ∨ (d.kind = 2 ∧ ((s.at t).deviceTime : Int) ≤ (s.at t).cmpReadStart (d.index / 16) d.at_))) ∧
    (∃ (s : State), (s.twn.wall.up = true) ∧ (s.joining = true)) ∧
    (∃ (s : State) (o : Order), (s.twn.wall.up = true) ∧ (s.ctl.mode = .service ∨ s.ctl.mode = .join) ∧ (s.ctl.role = .follower) ∧ (s.joining = false) ∧ (o.order = 0)) ∧
    (∃ (s : State), (s.twn.wall.up = true) ∧ (s.joining = true)) ∧
    (∃ (s : State), s.twn.wall.up = false ∨ (s.ctl.role ≠ .follower ∧ s.twn.join.active = false)) :=
  ⟨⟨0, (twinState .follower), ((⟨1, 0, 3, 9, 4⟩ : DecisionRec)), by decide +kernel⟩,
    ⟨((twinState .follower).setTwn { (twinState .follower).twn with join := { (twinState .follower).twn.join with active := true } }), by decide +kernel⟩,
    ⟨(twinState .follower), ((⟨0, 1, 5, 7, 0, List.replicate 16 0, [entry5], [], []⟩ : Order)), by decide +kernel⟩,
    ⟨((twinState .follower).setTwn { (twinState .follower).twn with join := { (twinState .follower).twn.join with active := true } }), by decide +kernel⟩,
    ⟨(twinState .keyholder), by decide +kernel⟩⟩

/-- States and operands that meet the hypotheses of each clause of digests_find_divergence. -/
theorem test_digests_find_divergence_met :
    (∃ (tg : Nat) (s : State), (s.digests = true) ∧ (s.tgUsed tg = true) ∧ (s.twn.peerDigests = [])) ∧
    (∃ (tg : Nat) (frame : Nat) (s : State), (s.digests = true) ∧ (s.twn.ownDigests.find? (isSet tg frame) = none)) ∧
    (∃ (tg : Nat) (frame : Nat) (r : DigestRec) (own : DigestRec) (tm : Nat) (s : State), (s.digests = true) ∧ (s.twn.ownDigests = [⟨tg, frame, [own], tm⟩]) ∧ (r.kind = own.kind) ∧ (r.id = own.id) ∧ (r.crc = own.crc)) ∧
    (∃ (tg : Nat) (frame : Nat) (r : DigestRec) (own : DigestRec) (tm : Nat) (s : State), (s.digests = true) ∧ (s.ctl.role = .keyholder) ∧ (s.twn.ownDigests = [⟨tg, frame, [own], tm⟩]) ∧ (r.kind = own.kind) ∧ (r.id = own.id) ∧ (r.crc ≠ own.crc) ∧ (r.dark = false) ∧ (own.dark = false) ∧ (r.localCause = false) ∧ (own.localCause = false)) ∧
    (∃ (t : Nat) (tg : Nat) (frame : Nat) (d : DigestSet) (s : State), (s.twn.ownDigests.find? (isSet tg frame) = some d) ∧ (d.time + 5000000 ≤ max s.now t) ∧ ((s.rd Reg.TWN_CNT_DIGEST_MISSING).toNat + 1 < 4294967296)) :=
  ⟨⟨0, ((twinState .keyholder).wr (Reg.TG_CFG 0) 0x30000), by decide +kernel⟩,
    ⟨0, 3, (twinState .keyholder), by decide +kernel⟩,
    ⟨0, 3, ((⟨0, false, false, 5, 77⟩ : DigestRec)), ((⟨0, false, false, 5, 77⟩ : DigestRec)), 0, ((twinState .keyholder).setTwn { (twinState .keyholder).twn with ownDigests := [⟨0, 3, [⟨0, false, false, 5, 77⟩], 0⟩] }), by decide +kernel⟩,
    ⟨0, 3, ((⟨0, false, false, 5, 78⟩ : DigestRec)), ((⟨0, false, false, 5, 77⟩ : DigestRec)), 0, ((twinState .keyholder).setTwn { (twinState .keyholder).twn with ownDigests := [⟨0, 3, [⟨0, false, false, 5, 77⟩], 0⟩] }), by decide +kernel⟩,
    ⟨5000000, 0, 3, ((⟨0, 3, [⟨0, false, false, 5, 77⟩], 0⟩ : DigestSet)), ((twinState .keyholder).setTwn { (twinState .keyholder).twn with ownDigests := [⟨0, 3, [⟨0, false, false, 5, 77⟩], 0⟩] }), by decide +kernel⟩⟩

/-- States and operands that meet the hypotheses of each clause of arbitration_moves_the_key_only_from_a_failing_keyholder. -/
theorem test_arbitration_moves_the_key_only_from_a_failing_keyholder_met :
    (∃ (t : Nat) (s : State), (s.digests = true) ∧ (s.twn.arb.running = none) ∧ (s.twn.arb.last = none) ∧ (s.twn.wall.upAt + 1000000000 ≤ max s.now t)) ∧
    (∃ (t : Nat) (s : State), (s.digests = true) ∧ (s.twn.arb.running = none) ∧ (s.twn.arb.last = none) ∧ (s.twn.wall.upAt + 1000000000 ≤ max s.now t)) ∧
    (∃ (s : State) (v : Nat), (s.digests = true) ∧ (s.ctl.role = .keyholder) ∧ (s.twn.arb.running = some v) ∧ (s.twn.arb.own = some 1) ∧ (s.twn.arb.peer = none)) ∧
    (∃ (units : Nat) (s : State) (v : Nat), (s.twn.arb.running = some v) ∧ (s.twn.arb.own = none) ∧ (s.twn.arb.peer = none) ∧ (units % 4294967296 ≠ 0)) ∧
    (∃ (units : Nat) (s : State) (v : Nat), (s.twn.arb.running = some v) ∧ (s.twn.arb.own = none) ∧ (s.twn.arb.peer = none) ∧ (units % 4294967296 = 0)) ∧
    (∃ (s : State), (s.wallRuns = true) ∧ (s.twn.wall.up = true) ∧ (s.twn.wall.unacked.length < 256) ∧ (s.twn.wall.queue = [])) ∧
    (∃ (s : State), s.twn.wall.up = true) :=
  ⟨⟨1000000000, (twinState .keyholder), by decide +kernel⟩,
    ⟨1000000000, (twinState .follower), by decide +kernel⟩,
    ⟨((twinState .keyholder).setTwn { (twinState .keyholder).twn with arb := { (twinState .keyholder).twn.arb with running := some 0, own := some 1 } }), 0, by decide +kernel⟩,
    ⟨16, ((twinState .keyholder).setTwn { (twinState .keyholder).twn with arb := { (twinState .keyholder).twn.arb with running := some 0 } }), 0, by decide +kernel⟩,
    ⟨0, ((twinState .keyholder).setTwn { (twinState .keyholder).twn with arb := { (twinState .keyholder).twn.arb with running := some 0 } }), 0, by decide +kernel⟩,
    ⟨(twinState .keyholder), by decide +kernel⟩,
    ⟨(twinState .keyholder), by decide +kernel⟩⟩

/-- States and operands that meet the hypotheses of each clause of state_transfer_leads_to_following. -/
theorem test_state_transfer_leads_to_following_met :
    (∃ (s : State), (s.ctl.role = .keyholder) ∧ (s.ctl.mode = .service) ∧ (s.twn.wall.up = true) ∧ (s.twn.wall.unacked = []) ∧ (s.twn.wall.queue = [])) ∧
    (∃ (s : State) (sec : Section), (s.joining = true) ∧ (s.twn.wall.up = true) ∧ (sectionNo sec ≠ 0) ∧ (s.twn.join.received = [])) ∧
    (∃ (s : State), (s.joining = true) ∧ (s.twn.wall.up = true) ∧ (s.twn.join.received = [.videoCommitted ((List.replicate 5 [264245184, 0, 0, 0]).flatten ++ [524295, 65545, 1, 0]), .audioCommitted [], .orders [], .placement [], .live [], .compositors [], .lintel 0 0 [], .streams [] [], .senders [] [], .videoOnAir ((List.replicate 5 [264245184, 0, 0, 0]).flatten ++ [524295, 65545, 1, 0]), .audioOnAir []]) ∧ (s.twn.orders = []) ∧ (s.twn.decisions = [])) ∧
    (∃ (s : State), (s.ctl.mode = .join) ∧ (s.twn.join.active = true) ∧ (s.twn.join.applied = true) ∧ (s.twn.join.toFill = []) ∧ (s.twn.join.toRebuild = [])) ∧
    (∃ (s : State), s.twn.join.applied = false ∨ s.twn.join.toFill ≠ [] ∨ s.twn.join.toRebuild ≠ []) ∧
    (∃ (t : Nat) (s : State), (s.joining = true) ∧ (s.twn.join.requestedAt + 500000000 ≤ max s.now t) ∧ ((s.at t).stateArrives = false)) ∧
    (∃ (s : State), (s.ctl.role = .follower) ∧ (s.ctl.mode = .service) ∧ (s.twn.wall.up = true)) :=
  ⟨⟨(twinState .keyholder), by decide +kernel⟩,
    ⟨(joinState { idleJoin with active := true }), (Section.live []), by decide +kernel⟩,
    ⟨(joinState { idleJoin with active := true, received := [.videoCommitted ((List.replicate 5 [264245184, 0, 0, 0]).flatten ++ [524295, 65545, 1, 0]), .audioCommitted [], .orders [], .placement [], .live [], .compositors [], .lintel 0 0 [], .streams [] [], .senders [] [], .videoOnAir ((List.replicate 5 [264245184, 0, 0, 0]).flatten ++ [524295, 65545, 1, 0]), .audioOnAir []] }), by decide +kernel⟩,
    ⟨(joinState { idleJoin with active := true, applied := true }), by decide +kernel⟩,
    ⟨(joinState { idleJoin with active := true }), by decide +kernel⟩,
    ⟨500000000, (joinState { idleJoin with active := true, attempts := 3 }), by decide +kernel⟩,
    ⟨(twinState .follower), by decide +kernel⟩⟩

/-- States and operands that meet the hypotheses of each clause of wall_mailbox_and_relay. -/
theorem test_wall_mailbox_and_relay_met :
    (∃ (data : List Byte) (s : State) (b : Nat), (8 ≤ data.length) ∧ (data.length ≤ 4096) ∧ (s.pwmbx.backlog = []) ∧ (b < 8) ∧ (b ∉ s.pwmbx.full) ∧ (∀ k ∈ List.range b, k ∈ s.pwmbx.full)) ∧
    (∃ (data : List Byte) (s : State), (8 ≤ data.length) ∧ (data.length ≤ 4096) ∧ (s.pwmbx.backlog = []) ∧ (∀ k ∈ List.range 8, k ∈ s.pwmbx.full)) ∧
    (∃ (b : Nat) (s : State), (b < 8) ∧ (b ∉ s.pwmbx.held) ∧ (s.twn.wall.unacked.length < 256) ∧ (s.twn.wall.queue = [])) ∧
    (∃ (s : State), s.pwmbx.backlog = []) ∧
    (∃ (g : Nat) (s : State), (s.ctl.role = .keyholder) ∧ (s.twn.wall.up = true) ∧ (s.pins.keyOut = true) ∧ (s.pins.keyIn = false) ∧ (g < 2)) ∧
    (∃ (s : State), s.gateOpen = false) :=
  ⟨⟨([1, 2, 3, 4, 5, 6, 7, 8]), ((twinState .keyholder).setPw ⟨[], [], [0, 1, 2, 3, 4, 5, 6], []⟩), 7, by decide +kernel⟩,
    ⟨([1, 2, 3, 4, 5, 6, 7, 8]), ((twinState .keyholder).setPw ⟨[], [], [0, 1, 2, 3, 4, 5, 6, 7], []⟩), by decide +kernel⟩,
    ⟨7, (twinState .keyholder), by decide +kernel⟩,
    ⟨((twinState .keyholder).setPw ⟨[], [], [0, 1, 2], []⟩), by decide +kernel⟩,
    ⟨1, (twinState .keyholder), by decide +kernel⟩,
    ⟨(twinState .follower), by decide +kernel⟩⟩

/-- States and operands that meet the hypotheses of each clause of candidates_qualify_and_fall. -/
theorem test_candidates_qualify_and_fall_met :
    (∃ (t : Nat) (g : Nat) (k : Nat) (s : State), (s.tgUsed g = true) ∧ (k ≤ 3) ∧ (s.candKind g k ≠ 0) ∧ (s.candKind g k ≠ 5) ∧ (((s.grp g).cand k).present = true) ∧ (((s.grp g).cand k).measureDue (max s.now t) = true) ∧ ((s.at t).serviceFalls = false)) ∧
    (∃ (t : Nat) (g : Nat) (k : Nat) (s : State), (s.tgUsed g = true) ∧ (k ≤ 3) ∧ (s.candKind g k ≠ 0) ∧ (s.candKind g k ≠ 5) ∧ (((s.grp g).cand k).present = true) ∧ (((s.grp g).cand k).qualified = false) ∧ (s.candFits g k = true) ∧ (max ((s.grp g).cand k).presentSince ((s.grp g).cand k).cleanSince + 60000000000 ≤ max s.now t) ∧ ((s.at t).candFaultFalls g k = false)) ∧
    (∃ (t : Nat) (g : Nat) (k : Nat) (s : State), max s.now t < max ((s.grp g).cand k).presentSince ((s.grp g).cand k).cleanSince + 60000000000) ∧
    (∃ (t : Nat) (g : Nat) (k : Nat) (s : State), (s.tgUsed g = true) ∧ (k ≤ 3) ∧ (s.candKind g k ≠ 0) ∧ (s.candKind g k ≠ 5) ∧ ((s.at t).serviceFalls = false)) ∧
    (∃ (t : Nat) (g : Nat) (k : Nat) (s : State), (s.tgUsed g = true) ∧ (k ≤ 3) ∧ (s.candKind g k ≠ 0) ∧ (s.candKind g k ≠ 5) ∧ ((s.at t).serviceFalls = false)) ∧
    (∃ (t : Nat) (g : Nat) (k : Nat) (s : State), (s.tgUsed g = true) ∧ (k ≤ 3) ∧ (s.candKind g k ≠ 0) ∧ (s.candKind g k ≠ 5) ∧ ((s.at t).serviceFalls = false)) ∧
    (∃ (g : Nat) (k : Nat) (s : State), (s.tgUsed g = true) ∧ (k ≤ 3) ∧ (s.candKind g k ≠ 0) ∧ (s.candKind g k ≠ 5) ∧ (((s.grp g).cand k).present = false)) :=
  ⟨⟨5, 0, 3, (candState 3 { Cand.init with present := true }), by decide +kernel⟩,
    ⟨60000000000, 0, 0, (candState 0 { Cand.init with present := true }), by decide +kernel⟩,
    ⟨59999999999, 0, 0, (candState 0 { Cand.init with present := true }), by decide +kernel⟩,
    ⟨5, 0, 3, (candState 3 { Cand.init with present := true, qualified := true }), by decide +kernel⟩,
    ⟨5, 0, 1, (candState 1 { Cand.init with present := true, qualified := true }), by decide +kernel⟩,
    ⟨5, 0, 2, (candState 2 { Cand.init with present := true, qualified := true }), by decide +kernel⟩,
    ⟨0, 0, (candState 0 { Cand.init with lost := true }), by decide +kernel⟩⟩

/-- States and operands that meet the hypotheses of each clause of groups_acquire_lock_and_pulse. -/
theorem test_groups_acquire_lock_and_pulse_met :
    (∃ (t : Nat) (g : Nat) (s : State) (k : Nat), (s.ctl.entered = false) ∧ (s.tgUsed g = true) ∧ ((s.grp g).acquired = false) ∧ ((s.at t).acquirable g = some k)) ∧
    (∃ (g : Nat) (s : State), s.ctl.entered = true ∨ (s.grp g).acquired = true) ∧
    (∃ (t : Nat) (g : Nat) (mark : Int) (s : State), (s.tgUsed g = true) ∧ ((s.grp g).active.isSome = true) ∧ (((s.at t).activeError g mark).natAbs ≤ 20) ∧ ((s.at t).switchesNow g = false)) ∧
    (∃ (t : Nat) (g : Nat) (mark : Int) (s : State), (s.tgUsed g = true) ∧ ((s.grp g).active.isSome = true) ∧ ((s.grp g).locked = true) ∧ (100 < ((s.at t).activeError g mark).natAbs)) ∧
    (∃ (g : Nat) (s : State), (s.tgUsed g = true) ∧ ((s.grp g).acquired = true) ∧ (s.gateOpen = true) ∧ (((s.grp g).frame : Int) = (s.rdFld (Reg.TG_FO_STATUS g) 28 26 : Int))) ∧
    (∃ (s : State), s.pins.keyOut = false ∨ s.pins.keyIn = true) ∧
    (∃ (t : Nat) (g : Nat) (s : State) (w : Nat), (s.tgUsed g = true) ∧ ((s.grp g).realign = some (w : Nat)) ∧ (w + 1000000 ≤ max s.now t) ∧ ((s.at t).frameStarts g = true ∨ ((w : Nat) : Int) + 1000000 + (((s.at t).deviceTime : Int) - (s.grp g).start) ≤ ((max s.now t : Nat) : Int))) ∧
    (∃ (t : Nat) (g : Nat) (s : State) (w : Nat), ((s.grp g).realign = some w) ∧ (max s.now t < w + 1000000)) :=
  ⟨⟨100000000, 0, (candState 0 { Cand.init with present := true }), 0, by decide +kernel⟩,
    ⟨0, waitState, by decide +kernel⟩,
    ⟨0, 0, ((0 : Int)), ((candState 0 { Cand.init with present := true, qualified := true }).setGrp 0 { (candState 0 { Cand.init with present := true, qualified := true }).grp 0 with active := some 0, pulling := true, start := -20 }), by decide +kernel⟩,
    ⟨0, 0, ((0 : Int)), ((candState 0 { Cand.init with present := true, qualified := true }).setGrp 0 { (candState 0 { Cand.init with present := true, qualified := true }).grp 0 with active := some 0, locked := true, start := 101 }), by decide +kernel⟩,
    ⟨0, (waitState.setPins { State.reset.pins with keyOut := true }), by decide +kernel⟩,
    ⟨State.reset, by decide +kernel⟩,
    ⟨2000000, 0, ((waitState.setGrp 0 { Group.init with realign := some 0, start := 1000000 }).wr (Reg.TG_FO_CFG 0) 0x22FFFFFF), 0, by decide +kernel⟩,
    ⟨999999, 0, (waitState.setGrp 0 { Group.init with realign := some 0 }), 0, by decide +kernel⟩⟩

/-- States and operands that meet the hypotheses of each clause of loops_and_references. -/
theorem test_loops_and_references_met :
    (∃ (v : Nat) (s : State), (v ≤ 1) ∧ (s.vfsState v = 1)) ∧
    (∃ (v : Nat) (ppm : Int) (s : State), (v ≤ 1) ∧ (ppm.natAbs ≤ 10000) ∧ (s.vfsState v = 2) ∧ (s.vfsMode v ≠ 0)) ∧
    (∃ (t : Nat) (v : Nat) (s : State) (b : Nat), (v ≤ 1) ∧ (Tab.find? s.syn.retracking v = some b) ∧ (b ≤ max s.now t)) ∧
    (∃ (n : Nat) (err : Int) (s : State), (s.loopPresent n = true) ∧ (s.rdBit (Reg.SYN_LOOP_STATUS n) 31 = true) ∧ (s.ctl.mode = .service) ∧ (2 ≤ n ∧ n ≤ 5) ∧ (1000 < err.natAbs)) ∧
    (∃ (n : Nat) (err : Int) (s : State), (s.loopPresent n = true) ∧ (s.rdBit (Reg.SYN_LOOP_STATUS n) 31 = true) ∧ (s.ctl.mode = .service) ∧ (7 ≤ n ∧ n ≤ 14) ∧ (1000 < err.natAbs)) ∧
    (∃ (t : Nat) (n : Nat) (s : State), (n < 33) ∧ (s.loopPresent n = true) ∧ (s.rdBit (Reg.SYN_LOOP_STATUS n) 31 = false ∨ s.rdBit (Reg.SYN_LOOP_STATUS n) 30 = true) ∧ ((s.at t).badFalls n = false) ∧ (Tab.get 0 s.syn.badAt n + 100000 ≤ max s.now t)) ∧
    (∃ (t : Nat) (n : Nat) (s : State) (v : Nat), (2 ≤ n) ∧ (n ≤ 5) ∧ (s.ctl.mode = .service) ∧ (s.rdBit (Reg.SYN_LOOP_STATUS n) 30 = true) ∧ (Tab.find? s.syn.shelterAt n = some v) ∧ (v + 20000000 ≤ max s.now t)) ∧
    (∃ (n : Nat) (s : State), (n < 33) ∧ (s.loopPresent n = true) ∧ (hasShelter n = true)) ∧
    (∃ (n : Nat) (s : State), (2 ≤ n) ∧ (s.loopPresent n = true) ∧ (hasShelter n = true) ∧ (s.rwlLocked = false)) ∧
    (∃ (f : Nat) (s : State), (16 * f < s.dev.variant.lanes) ∧ (s.rdFld (Reg.SYN_FURROW_CFG f) 3 2 ≠ 0) ∧ (s.rdBit (Reg.SYN_FURROW_STATUS f) 30 = true)) ∧
    (∃ (t : Nat) (f : Nat) (s : State) (w : Nat), (s.ctl.mode = .service) ∧ (16 * f < s.dev.variant.lanes) ∧ (s.rdBit (Reg.SYN_FURROW_STATUS f) 31 = false) ∧ (s.rdBit (Reg.SYN_FURROW_STATUS f) 30 = true) ∧ (Tab.find? s.syn.mdllAt f = some w) ∧ (w + 20000000 ≤ max s.now t)) ∧
    (∃ (lane : Nat) (demand : Int) (s : State), (s.lanePresent lane = true) ∧ (lane ≤ 1023) ∧ (s.isSdi lane = true) ∧ (250000 < demand.natAbs)) :=
  ⟨⟨1, (((inMode .service).wrFld Reg.SYN_STATUS 27 26 1).wrBit Reg.SYN_STATUS 29 true), by decide +kernel⟩,
    ⟨0, ((-10000 : Int)), (((inMode .service).wrFld Reg.SYN_STATUS 25 24 2).wr Reg.SYN_REFCFG 1), by decide +kernel⟩,
    ⟨8000000, 1, ((inMode .service).setSyn { State.reset.syn with retracking := [(1, 8000000)] }), 8000000, by decide +kernel⟩,
    ⟨5, ((2000 : Int)), ((inMode .service).wr (Reg.SYN_LOOP_STATUS 5) 0x80000000), by decide +kernel⟩,
    ⟨14, ((2000 : Int)), ((inMode .service).wr (Reg.SYN_LOOP_STATUS 14) 0x80000000), by decide +kernel⟩,
    ⟨100000, 5, ((inMode .service).wr (Reg.SYN_LOOP_STATUS 5) 0x60000000), by decide +kernel⟩,
    ⟨20000000, 2, (((inMode .service).wr (Reg.SYN_LOOP_STATUS 2) 0x40000000).setSyn { State.reset.syn with shelterAt := [(2, 0)] }), 0, by decide +kernel⟩,
    ⟨30, ((inMode .service).wr (Reg.SYN_LOOP_STATUS 30) 0x80000000), by decide +kernel⟩,
    ⟨2, ((inMode .test).wr (Reg.SYN_LOOP_STATUS 2) 0x80000000), by decide +kernel⟩,
    ⟨63, (((inMode .service).wr (Reg.SYN_FURROW_CFG 63) 4).wr (Reg.SYN_FURROW_STATUS 63) 0x40000000), by decide +kernel⟩,
    ⟨20000000, 63, (((inMode .service).wr (Reg.SYN_FURROW_STATUS 63) 0x40000000).setSyn { State.reset.syn with mdllAt := [(63, 0)] }), 0, by decide +kernel⟩,
    ⟨1023, ((-250001 : Int)), (laneState 1023 1), by decide +kernel⟩⟩

/-- States and operands that meet the hypotheses of each clause of lanes_lock_take_settings_and_run_tests. -/
theorem test_lanes_lock_take_settings_and_run_tests_met :
    (∃ (i : Nat) (s : State), (s.rxOn i = true) ∧ (s.rdBit (Reg.LAN_STATUS i) 31 = true) ∧ ((s.rd (Reg.LAN_CNT_LOS i)).toNat + 1 < 4294967296)) ∧
    (∃ (i : Nat) (s : State), s.rxOn i = true) ∧
    (∃ (i : Nat) (ppm : Int) (s : State), (s.rxOn i = true) ∧ (s.rdBit (Reg.LAN_STATUS i) 30 = true) ∧ (s.rdBit (Reg.LAN_STATUS i) 31 = false) ∧ (ppm.natAbs ≤ 3000)) ∧
    (∃ (i : Nat) (ppm : Int) (s : State), (s.isSdi i = false) ∧ (3000 < ppm.natAbs)) ∧
    (∃ (i : Nat) (v : Nat) (s : State), (s.lanePresent i = true) ∧ (v = 1 ∨ v = 2) ∧ (s.ctl.mode = .service) ∧ (s.pers i ≠ 0) ∧ (3 ≤ s.power.stage) ∧ (s.carriesTraffic i = true)) ∧
    (∃ (i : Nat) (s : State), (s.lanePresent i = true) ∧ (s.ctl.mode ≠ .service)) ∧
    (∃ (i : Nat) (s : State), (s.lanePresent i = true) ∧ (s.ctl.mode = .service) ∧ (s.pers i ≠ 0) ∧ (s.pers i ≠ 5) ∧ (3 ≤ s.power.stage) ∧ (s.carriesTraffic i = false) ∧ (s.pstate i = 0) ∧ ((s.lane i).goal = none)) ∧
    (∃ (i : Nat) (v : Nat) (s : State) (swing : Nat) (pre : Nat) (post : Nat), (s.lanePresent i = true) ∧ (swing = fld (BitVec.ofNat 32 v) 4 0) ∧ (pre = fld (BitVec.ofNat 32 v) 19 16) ∧ (post = fld (BitVec.ofNat 32 v) 28 24)) ∧
    (∃ (i : Nat) (v : Nat) (s : State) (swing : Nat) (pre : Nat) (post : Nat), (s.lanePresent i = true) ∧ (swing = fld (BitVec.ofNat 32 v) 4 0) ∧ (pre = fld (BitVec.ofNat 32 v) 19 16) ∧ (post = fld (BitVec.ofNat 32 v) 28 24)) ∧
    (∃ (i : Nat) (s : State), (s.lanePresent i = true) ∧ (s.adapting i = true)) ∧
    (∃ (i : Nat) (s : State), (s.lanePresent i = true) ∧ (s.adapting i = false)) ∧
    (∃ (i : Nat) (s : State), s.lanePresent i = true) ∧
    (∃ (i : Nat) (v : Nat) (s : State), (s.lanePresent i = true) ∧ (s.ctl.mode = .test) ∧ (s.testState i = 0 ∨ 3 ≤ s.testState i) ∧ (fld (BitVec.ofNat 32 v) 22 20 ≤ 4) ∧ ((s.res (laneRes i)).running = none)) ∧
    (∃ (t : Nat) (i : Nat) (v : Nat) (s : State) (x : Activity), (s.lanePresent i = true) ∧ (s.ctl.mode = .service) ∧ (s.carriesTraffic i = false) ∧ (s.testState i = 0) ∧ (fld (BitVec.ofNat 32 v) 22 20 ≤ 4) ∧ ((s.res (laneRes i)).running = some x) ∧ ((s.res (laneRes i)).queue.length < 16) ∧ ((s.res (laneRes i)).began ≠ some (max s.now t)) ∧ (((s.res (laneRes i)).askedAt ≠ max s.now t ∨ (s.res (laneRes i)).asked = 0))) ∧
    (∃ (i : Nat) (v : Nat) (s : State), (s.lanePresent i = true) ∧ (s.testState i = 0) ∧ (4 < fld (BitVec.ofNat 32 v) 22 20 ∨ (s.ctl.mode = .service ∧ s.carriesTraffic i = true))) ∧
    (∃ (i : Nat) (v : Nat) (s : State), (s.lanePresent i = true) ∧ (s.testState i = 0) ∧ (4 < fld (BitVec.ofNat 32 v) 22 20 ∨ (s.ctl.mode = .service ∧ s.carriesTraffic i = true))) ∧
    (∃ (i : Nat) (s : State), (s.testState i = 2) ∧ ((s.res (laneRes i)).queue = [])) ∧
    (∃ (i : Nat) (s : State), s.testState i = 1) ∧
    (∃ (t : Nat) (i : Nat) (s : State), (s.testState i = 2) ∧ (s.rdFld (Reg.LAN_TEST i) 15 0 ≠ 0) ∧ ((s.lane i).testAt + s.rdFld (Reg.LAN_TEST i) 15 0 * 1000000 ≤ max s.now t) ∧ ((s.res (laneRes i)).queue = [])) ∧
    (∃ (i : Nat) (s : State), s.rdFld (Reg.LAN_TEST i) 15 0 = 0) ∧
    (∃ (i : Nat) (s : State), (s.testState i = 2) ∧ (s.rdFld (Reg.LAN_TEST i) 19 18 = 3) ∧ (s.rdFld (Reg.LAN_TEST i) 25 24 = 1) ∧ (s.rdBit (Reg.LAN_STATUS i) 25 = true)) ∧
    (∃ (i : Nat) (s : State), (s.testState i = 2) ∧ (s.rdBit (Reg.LAN_TEST i) 18 = true) ∧ (s.rdBit (Reg.LAN_STATUS i) 25 = true) ∧ ((s.rd (Reg.LAN_CNT_PRBS_RESYNC i)).toNat + 1 < 4294967296)) ∧
    (∃ (i : Nat) (s : State), (s.testState i = 2) ∧ (s.rdBit (Reg.LAN_TEST i) 18 = true)) ∧
    (∃ (i : Nat) (v : Nat) (s : State), (s.lanePresent i = true) ∧ (fld (BitVec.ofNat 32 v) 23 16 ≠ 128) ∧ (fld (BitVec.ofNat 32 v) 3 0 ≤ 8) ∧ (s.rdBit (Reg.LAN_EYE_CTRL i) 30 = false) ∧ ((s.res (laneRes i)).running = none)) ∧
    (∃ (i : Nat) (v : Nat) (s : State), (s.lanePresent i = true) ∧ (fld (BitVec.ofNat 32 v) 23 16 ≠ 128) ∧ (fld (BitVec.ofNat 32 v) 3 0 ≤ 8) ∧ (s.rdBit (Reg.LAN_EYE_CTRL i) 30 = false) ∧ ((s.res (laneRes i)).running = none)) ∧
    (∃ (i : Nat) (s : State), ((s.lane i).eye = 1) ∧ ((s.lane i).eyeWaits = false) ∧ ((s.res (laneRes i)).queue = []) ∧ ((s.res (laneRes i)).running = some ⟨6, i⟩)) ∧
    (∃ (i : Nat) (h : Nat) (s : State), ((s.lane i).eye = 2) ∧ ((s.lane i).eyeWaits = false) ∧ ((s.res (laneRes i)).queue = []) ∧ ((s.res (laneRes i)).running = some ⟨6, i⟩) ∧ (s.rdFld (Reg.LAN_STATUS i) 31 31 = 1) ∧ (s.rdBit (Reg.LAN_STATUS i) 24 = false) ∧ (h < s.rdFld Reg.LAN_EYE_LIMITS 22 16)) ∧
    (∃ (t : Nat) (i : Nat) (s : State), (s.rxOn i = true) ∧ (s.pstate i = 0) ∧ (s.rdBit (Reg.LAN_STATUS i) 31 = true) ∧ (s.eyeSec ≠ 0) ∧ (s.rdBit (Reg.LAN_EYE_CTRL i) 30 = false) ∧ ((s.res (laneRes i)).running = none) ∧ ((s.lane i).scanDue ≤ max s.now t) ∧ ((s.at t).losFalls i = false)) :=
  ⟨⟨1033, ((laneState 1033 3).wrFld (Reg.LAN_STATUS 1033) 31 30 3), by decide +kernel⟩,
    ⟨0, (laneState 0 1), by decide +kernel⟩,
    ⟨1023, ((-3000 : Int)), (((laneState 1023 3).setDev { State.reset.dev with variant := .f }).wrBit (Reg.LAN_STATUS 1023) 30 true), by decide +kernel⟩,
    ⟨0, ((3001 : Int)), (laneState 0 3), by decide +kernel⟩,
    ⟨1032, 2, ((laneState 1032 3).setPower { PowerState.reset with stage := 5 }), by decide +kernel⟩,
    ⟨1024, (inMode .train), by decide +kernel⟩,
    ⟨3, ((laneState 3 3).setPower { PowerState.reset with stage := 5 }), by decide +kernel⟩,
    ⟨0, 0x0F090010, (laneState 0 1), 16, 9, 15, by decide +kernel⟩,
    ⟨0, 0x0F0A0010, (laneState 0 1), 16, 10, 15, by decide +kernel⟩,
    ⟨0, ((laneState 0 1).wrBit (Reg.LAN_STATUS 0) 30 true), by decide +kernel⟩,
    ⟨0, (laneState 0 1), by decide +kernel⟩,
    ⟨0, ((laneState 0 1).wrBit (Reg.LAN_RX_CTRL 0) 30 true), by decide +kernel⟩,
    ⟨1031, 0x010C0005, ((inMode .test).wrFld (Reg.LAN_TEST 1031) 31 28 3), by decide +kernel⟩,
    ⟨0, 3, 0, ((laneState 3 3).setRes 0 ⟨some ⟨6, 5⟩, [], 0, none, 0, 0⟩), ((⟨6, 5⟩ : Activity)), by decide +kernel⟩,
    ⟨3, 0x00500000, (laneState 3 3), by decide +kernel⟩,
    ⟨1032, 0, (laneState 1032 3), by decide +kernel⟩,
    ⟨3, (testingState 3), by decide +kernel⟩,
    ⟨3, (((laneState 3 3).setRes 0 ⟨some ⟨6, 5⟩, [⟨7, 3⟩], 0, none, 0, 0⟩).wrFld (Reg.LAN_TEST 3) 31 28 1), by decide +kernel⟩,
    ⟨5000000, 3, (testingState 3), by decide +kernel⟩,
    ⟨3, (laneState 3 3), by decide +kernel⟩,
    ⟨3, (testingState 3), by decide +kernel⟩,
    ⟨3, (testingState 3), by decide +kernel⟩,
    ⟨3, (testingState 3), by decide +kernel⟩,
    ⟨3, 0x00FF3F08, (laneState 3 3), by decide +kernel⟩,
    ⟨3, 8, (laneState 3 3), by decide +kernel⟩,
    ⟨3, (eyeState 3 1), by decide +kernel⟩,
    ⟨3, 9, (((eyeState 3 2).wrFld (Reg.LAN_STATUS 3) 31 30 3).wr Reg.LAN_EYE_LIMITS 0x000A0020), by decide +kernel⟩,
    ⟨0, 3, (((laneState 3 3).wrFld (Reg.LAN_STATUS 3) 31 30 3).setEyeSec 60), by decide +kernel⟩⟩

/-- States and operands that meet the hypotheses of each clause of sdi_ports_check_and_become_ready. -/
theorem test_sdi_ports_check_and_become_ready_met :
    (∃ (l : Nat) (ln : SdiLine) (s : State), (s.sdiPort l = true) ∧ (s.sdiIsReady l = true) ∧ (ln.lnBad = true ∨ ln.trsBad = true ∨ ln.lengthBad = true) ∧ ((s.rd (Reg.SDI_CNT_LOSS l)).toNat + 1 < 4294967296)) ∧
    (∃ (l : Nat) (ln : SdiLine) (s : State), (s.sdiPort l = true) ∧ (ln.crcBad = true) ∧ (ln.lnBad = false) ∧ (ln.trsBad = false) ∧ (ln.trsCorrected = false) ∧ (ln.lengthBad = false) ∧ (s.sourcesOf (.sdi l) = []) ∧ ((s.rd (Reg.SDI_CNT_CRC l)).toNat + 1 < 4294967296)) ∧
    (∃ (l : Nat) (ln : SdiLine) (s : State) (x : Nat) (c : SrcCfg), (s.sdiPort l = true) ∧ (s.sdiIsReady l = true) ∧ (ln.crcBad = false) ∧ ((checkCrc (s.sdiExpected l) (s.sdiRun l).lineCrc ln.line ln.words).1 = false) ∧ (ln.lnBad = false) ∧ (ln.trsBad = false) ∧ (ln.trsCorrected = false) ∧ (ln.lengthBad = false) ∧ (s.sourcesOf (.sdi l) = [x]) ∧ (Tab.find? s.cfg.srcs x = some c) ∧ (c.synced = false)) ∧
    (∃ (l : Nat) (fr : SdiFrame) (s : State), (s.sdiPort l = true) ∧ (((s.rxLanes l).all fun i => s.rdBit (Reg.LAN_STATUS i) 31) = true) ∧ (s.sdiIsReady l = false) ∧ (fr.clean = true) ∧ ((s.sdiRun l).bad = false) ∧ (fr.rateOk = true) ∧ (sdiResolve fr.fits fr.pidFormat (s.sdiExpected l) = some (s.sdiExpected l)) ∧ (fr.skew ≤ 1000) ∧ (mapCarries (s.sdiExpected l) = true) ∧ (s.rdFld (Reg.SDI_RX_CFG l) 15 14 ≠ 2)) ∧
    (∃ (l : Nat) (fr : SdiFrame) (s : State), (s.sdiPort l = true) ∧ (((s.rxLanes l).all fun i => s.rdBit (Reg.LAN_STATUS i) 31) = true) ∧ (fr.clean = false ∨ fr.rateOk = false ∨ 1000 < fr.skew ∨ sdiResolve fr.fits fr.pidFormat (s.sdiExpected l) ≠ some (s.sdiExpected l))) ∧
    (∃ (l : Nat) (cause : Nat) (s : State), (s.sdiPort l = true) ∧ (s.sdiIsReady l = true) ∧ (cause = 1 ∨ cause = 2 ∨ (cause = 3 ∧ s.rdFld (Reg.SDI_RX_CFG l) 15 14 = 2) ∨ (cause = 0 ∧ ((s.rxLanes l).any fun i => !s.rdBit (Reg.LAN_STATUS i) 31) = true)) ∧ ((s.rd (Reg.SDI_CNT_LOSS l)).toNat + 1 < 4294967296)) ∧
    (∃ (l : Nat) (cause : Nat) (s : State), (s.sdiPort l = true) ∧ (s.sdiIsReady l = true) ∧ (cause = 1 ∨ cause = 2 ∨ (cause = 3 ∧ s.rdFld (Reg.SDI_RX_CFG l) 15 14 = 2) ∨ (cause = 0 ∧ ((s.rxLanes l).any fun i => !s.rdBit (Reg.LAN_STATUS i) 31) = true)) ∧ ((s.rd (Reg.SDI_CNT_LOSS l)).toNat + 1 < 4294967296)) ∧
    (∃ (l : Nat) (cause : Nat) (s : State), (s.sdiPort l = true) ∧ (s.sdiIsReady l = true) ∧ (cause = 1 ∨ cause = 2 ∨ (cause = 3 ∧ s.rdFld (Reg.SDI_RX_CFG l) 15 14 = 2) ∨ (cause = 0 ∧ ((s.rxLanes l).any fun i => !s.rdBit (Reg.LAN_STATUS i) 31) = true)) ∧ ((s.rd (Reg.SDI_CNT_LOSS l)).toNat + 1 < 4294967296)) ∧
    (∃ (x : Nat) (a0 : PairCopy) (b0 : PairCopy) (s : State) (c : SrcCfg) (sc : StreamCfg) (la : Nat) (lb : Nat) (n : Nat) (g : Nat) (p : Nat), (Tab.find? s.cfg.srcs x = some c) ∧ (s.streamCfg x = some sc) ∧ (c.input = .sdi la) ∧ (c.pairB = some lb) ∧ (a0.writing = false) ∧ (b0.writing = true) ∧ (a0.packet = some (n, true, g)) ∧ (s.copyExpected la (s.grp sc.readGroup).frame a0.packet = true) ∧ (a0.digestOk = true) ∧ ((s.sdiRun la).crcLines = 0) ∧ ((s.stream x).broken = false) ∧ ((s.stream x).opened = some p) ∧ ((s.rd (Reg.SDI_CNT_PAIR_A la)).toNat + 1 < 4294967296)) ∧
    (∃ (a0 : PairCopy), a0.writing = true) :=
  ⟨⟨1, ({ line6 with lengthBad := true }), (sdiState 1 0x80000000), by decide +kernel⟩,
    ⟨1, ({ line6 with crcBad := true }), ((sdiState 1 0x80000000).setCfg ImageCfg.none), by decide +kernel⟩,
    ⟨1, line6, (sdiState 1 0x80000000), 1, ((⟨.sdi 1, none, ⟨5, 1, 0, 0⟩, 4, false, 0⟩ : SrcCfg)), by decide +kernel⟩,
    ⟨1, goodFrame, (sdiState 1 0), by decide +kernel⟩,
    ⟨1, ({ goodFrame with skew := 1001 }), (sdiState 1 0x80000000), by decide +kernel⟩,
    ⟨1, 0, ((sdiState 1 0x80000000).wrBit (Reg.LAN_STATUS 1) 31 false), by decide +kernel⟩,
    ⟨1, 3, ((sdiState 1 0x80000000).wrFld (Reg.SDI_RX_CFG 1) 15 14 2), by decide +kernel⟩,
    ⟨1, 2, (sdiState 1 0x80000000), by decide +kernel⟩,
    ⟨1, goodCopy, ({ goodCopy with writing := true }), pairState, ((⟨.sdi 1, some 2, ⟨5, 1, 0, 0⟩, 4, true, 0⟩ : SrcCfg)), strm, 1, 2, 0, 0, 0, by decide +kernel⟩,
    ⟨({ goodCopy with writing := true }), by decide +kernel⟩⟩

/-- States and operands that meet the hypotheses of each clause of ethernet_links_frames_and_pause. -/
theorem test_ethernet_links_frames_and_pause_met :
    (∃ (p : Nat) (s : State), (s.ethPort p = true) ∧ (((s.rxLanes p).all fun i => s.rdBit (Reg.LAN_STATUS i) 31) = true)) ∧
    (∃ (t : Nat) (p : Nat) (s : State) (v : Nat), (s.ethPort p = true) ∧ ((s.macRun p).lockedAt = some v) ∧ (s.rdBit (Reg.MAC_STATUS p) 30 = true) ∧ (s.portUp p = false) ∧ (v + 10000000 ≤ max s.now t)) ∧
    (∃ (t : Nat) (p : Nat) (s : State) (v : Nat), ((s.macRun p).lockedAt = some v) ∧ (max s.now t < v + 10000000)) ∧
    (∃ (p : Nat) (cause : Nat) (s : State), (s.ethPort p = true) ∧ (s.portUp p = true) ∧ (cause ≤ 3)) ∧
    (∃ (p : Nat) (cause : Nat) (s : State), (s.ethPort p = true) ∧ (s.portUp p = true) ∧ (cause ≤ 3)) ∧
    (∃ (p : Nat) (fr : EthFrame) (s : State), (s.ethPort p = true) ∧ (s.portUp p = false) ∧ (fr.codes = ⟨0, 0, 0, 0, 0, 0, 0⟩)) ∧
    (∃ (p : Nat) (fr : EthFrame) (s : State), (s.ethPort p = true) ∧ (s.portUp p = true) ∧ (fr.codes = ⟨0, 0, 0, 0, 0, 0, 0⟩) ∧ (s.portClass p ≠ 1) ∧ (64 ≤ fr.bytes.length) ∧ (fr.bytes.length ≤ s.rdFld (Reg.MAC_CFG p) 29 16) ∧ (fr.marked = true ∨ toLe 4 (crc32 (fr.bytes.take (fr.bytes.length - 4))) ≠ fr.bytes.drop (fr.bytes.length - 4))) ∧
    (∃ (p : Nat) (fr : EthFrame) (s : State) (b : List Byte), (s.ethPort p = true) ∧ (s.portUp p = true) ∧ (fr.codes = ⟨0, 0, 0, 0, 0, 0, 0⟩) ∧ (s.portClass p = 0) ∧ (s.rd (Reg.MED_PORT_IPV4 p) = 0) ∧ (p < 1024) ∧ (fr.marked = false) ∧ (fr.bytes = b ++ toLe 4 (crc32 b)) ∧ (60 ≤ b.length) ∧ (b.length + 4 ≤ s.rdFld (Reg.MAC_CFG p) 29 16) ∧ (etherType fr.bytes = 0x1234) ∧ (slice fr.bytes 0 6 ≠ s.macAddr p) ∧ (((fr.bytes.getD 0 0).toNat % 2 = 0))) ∧
    (∃ (p : Nat) (n : Nat) (fr : EthFrame) (s : State) (b : List Byte), (s.ethPort p = true) ∧ (s.portUp p = true) ∧ (s.portClass p = 3) ∧ (1 ≤ n) ∧ (n < 65536) ∧ (s.rdBit (Reg.MAC_STATUS p) 27 = false) ∧ (b = padTo 60 ([0x01, 0x80, 0xC2, 0, 0, 1, 2, 0, 0, 0, 0, 0, 0x88, 0x08, 0, 1] ++ toBe 2 n)) ∧ (fr = ⟨b ++ toLe 4 (crc32 b), false, 0, false, ⟨0, 0, 0, 0, 0, 0, 0⟩⟩) ∧ (64 ≤ s.rdFld (Reg.MAC_CFG p) 29 16)) ∧
    (∃ (t : Nat) (p : Nat) (s : State), (s.rdBit (Reg.MAC_STATUS p) 27 = true) ∧ ((s.macRun p).holdUntil ≤ max s.now t) ∧ ((s.macRun p).waiting = [])) ∧
    (∃ (t : Nat) (p : Nat) (s : State), (s.ethPort p = true) ∧ (s.hasQueue p = true) ∧ (s.portUp p = true) ∧ (s.rdBit (Reg.MAC_STATUS p) 26 = false) ∧ (1024 * (s.at t).highMark p < (s.macRun p).fill)) ∧
    (∃ (t : Nat) (p : Nat) (s : State), (s.ethPort p = true) ∧ (s.portUp p = true) ∧ (s.rdBit (Reg.MAC_STATUS p) 26 = true) ∧ ((s.macRun p).pauseAt + 512 * (s.rdFld (Reg.MAC_PAUSE_CFG p) 15 0 / 2) / s.portGb p ≤ max s.now t) ∧ ((s.at t).drainedNow p = false)) ∧
    (∃ (p : Nat) (s : State), (s.ethPort p = true) ∧ (s.portUp p = true) ∧ (s.portClass p = 3) ∧ (s.rdBit (Reg.MAC_STATUS p) 26 = true) ∧ ((s.macRun p).fill ≤ 1024 * s.rdFld (Reg.MAC_WM p) 15 0)) ∧
    (∃ (p : Nat) (s : State) (q : Nat) (v : Nat) (f : List Byte) (rest : List (Nat × List Byte)), (s.portClass p = 3) ∧ (s.throughPartner p = some q) ∧ ((s.macRun p).queue = (v, f) :: rest) ∧ (ptpEventAt f = none) ∧ (s.portUp q = true) ∧ (f.length ≤ s.rdFld (Reg.MAC_CFG q) 29 16) ∧ (s.rdBit (Reg.MAC_STATUS q) 27 = false)) ∧
    (∃ (t : Nat) (p : Nat) (s : State) (q : Nat) (v : Nat) (f : List Byte) (rest : List (Nat × List Byte)) (b : List Byte), (s.portClass p = 3) ∧ (s.throughPartner p = some q) ∧ ((s.macRun p).queue = (v, f) :: rest) ∧ (s.portUp q = true) ∧ (f.length ≤ s.rdFld (Reg.MAC_CFG q) 29 16) ∧ (s.rdBit (Reg.MAC_STATUS q) 27 = false) ∧ (b = padTo 60 ((s.at t).forwarded p q v f))) ∧
    (∃ (p : Nat) (fr : EthFrame) (s : State), (s.ethPort p = true) ∧ (s.portUp p = false) ∧ (fr.codes.inserted ≠ 0) ∧ (fr.codes.dropped = 0) ∧ ((s.rd (Reg.LAN_CNT_RM_INS p)).toNat + fr.codes.inserted < 4294967296) ∧ ((s.rd (Reg.LAN_CNT_RM_DEL p)).toNat + fr.codes.deleted < 4294967296)) :=
  ⟨⟨1, ((macState 1 0).wr (Reg.MAC_STATUS 1) 0), by decide +kernel⟩,
    ⟨10000000, 1, (((macState 1 0).wr (Reg.MAC_STATUS 1) 0x40000000).withMac 1 { coldMac with lockedAt := some 0 }), 0, by decide +kernel⟩,
    ⟨9999999, 1, ((macState 1 0).withMac 1 { coldMac with lockedAt := some 0 }), 0, by decide +kernel⟩,
    ⟨1033, 1, (macState 1033 2), by decide +kernel⟩,
    ⟨0, 3, ((macState 0 1).wrBit (Reg.MAC_STATUS 0) 27 true), by decide +kernel⟩,
    ⟨0, strayFrame, ((macState 0 0).wr (Reg.MAC_STATUS 0) 0), by decide +kernel⟩,
    ⟨0, ({ strayFrame with marked := true }), (macState 0 0), by decide +kernel⟩,
    ⟨0, strayFrame, (macState 0 0), (padTo 60 [0x02, 0, 0, 0, 0, 9, 2, 0, 0, 0, 0, 1, 0x12, 0x34]), by decide +kernel⟩,
    ⟨0, 65535, (pauseFrame 65535), (macState 0 3), (padTo 60 ([0x01, 0x80, 0xC2, 0, 0, 1, 2, 0, 0, 0, 0, 0, 0x88, 0x08, 0, 1] ++ toBe 2 65535)), by decide +kernel⟩,
    ⟨5, 0, (((macState 0 3).wrBit (Reg.MAC_STATUS 0) 27 true).withMac 0 { coldMac with holdUntil := 5 }), by decide +kernel⟩,
    ⟨5, 0, (((macState 0 3).wr (Reg.MAC_WM 0) 0).withMac 0 { coldMac with queue := [(0, [1])] }), by decide +kernel⟩,
    ⟨200, 0, (((((macState 0 3).wrBit (Reg.MAC_STATUS 0) 26 true).wr (Reg.MAC_PAUSE_CFG 0) 7).wr (Reg.MAC_WM 0) 0).withMac 0 { coldMac with queue := [(0, [1])] }), by decide +kernel⟩,
    ⟨0, ((macState 0 3).wrBit (Reg.MAC_STATUS 0) 26 true), by decide +kernel⟩,
    ⟨0, (((((macState 1 3).wr (Reg.LAN_CFG 0) ((macState 1 3).rd (Reg.LAN_CFG 1))).wr (Reg.MAC_CFG 0) 0xC5EE0000).wr (Reg.MED_THROUGH_PAIR 0) 0x80000001).withMac 0 { coldMac with queue := [(0, strayFrame.bytes)] }), 1, 0, strayFrame.bytes, (([] : List (Nat × List Byte))), by decide +kernel⟩,
    ⟨5, 0, (((((macState 1 3).wr (Reg.LAN_CFG 0) ((macState 1 3).rd (Reg.LAN_CFG 1))).wr (Reg.MAC_CFG 0) 0xC5EE0000).wr (Reg.MED_THROUGH_PAIR 0) 0x80000001).withMac 0 { coldMac with queue := [(0, ptpFrame.bytes)] }), 1, 0, ptpFrame.bytes, (([] : List (Nat × List Byte))), (padTo 60 (padTo 60 ([0x01, 0x1B, 0x19, 0, 0, 0, 2, 0, 0, 0, 0, 1, 0x88, 0xF7, 0, 2, 0, 44, 0, 0, 0, 0, 0, 0, 0, 0, 0, 0x38, 0, 0]))), by decide +kernel⟩,
    ⟨0, ({ strayFrame with codes := { noCodes with inserted := 2, deleted := 3 } }), ((macState 0 0).wr (Reg.MAC_STATUS 0) 0), by decide +kernel⟩⟩

/-- States and operands that meet the hypotheses of each clause of media_contexts_receive_and_send. -/
theorem test_media_contexts_receive_and_send_met :
    (∃ (t : Nat) (n : Nat) (ts : Nat) (row : Nat) (s : State) (x : Nat) (c : SrcCfg) (r : List (List Byte) × Bool), (s.rxUsed n = true) ∧ (s.rxEssence n = 0) ∧ (s.rxLineExchange n = true) ∧ (row < (rasterSize (s.rdFld (Reg.RXC_CFG n) 23 20)).2) ∧ ((s.at t).takePackets n = s.at t) ∧ ((s.at t).lineDue n ts row = true) ∧ ((s.rxc n).copies = []) ∧ (s.sourcesOf (.rxc n) = [x]) ∧ (Tab.find? s.cfg.srcs x = some c) ∧ (c.synced = false) ∧ (r = (s.rxc n).rowGroups (s.rdFld (Reg.RXC_CFG n) 15 14) (rasterSize (s.rdFld (Reg.RXC_CFG n) 23 20)).1 ts row)) ∧
    (∃ (t : Nat) (n : Nat) (ts : Nat) (row : Nat) (s : State) (c : CopyRec) (d : Nat), (s.rxUsed n = true) ∧ (s.rxEssence n = 0) ∧ (s.rxLineExchange n = true) ∧ (row < (rasterSize (s.rdFld (Reg.RXC_CFG n) 23 20)).2) ∧ ((s.at t).takePackets n = s.at t) ∧ ((s.at t).lineDue n ts row = true) ∧ ((s.rxc n).copies = [c]) ∧ (c.ts = ts) ∧ (c.pos ≤ row) ∧ ((s.rxc n).doneSeq = some d) ∧ (d + 1 < c.seq) ∧ (s.sourcesOf (.rxc n) = []) ∧ ((s.rd (Reg.RXC_CNT_LOST n)).toNat + (c.seq - d - 1) < 4294967296)) ∧
    (∃ (t : Nat) (n : Nat) (ts : Nat) (band : Nat) (s : State), (s.rxUsed n = true) ∧ (s.rxEssence n = 0) ∧ (s.rxLineExchange n = false) ∧ (8 * band < (rasterSize (s.rdFld (Reg.RXC_CFG n) 23 20)).2) ∧ ((s.rxc n).passed.contains (ts * 65536 + band) = false) ∧ ((s.at t).takePackets n = s.at t) ∧ ((s.at t).bandDue n ts band = true)) ∧
    (∃ (t : Nat) (n : Nat) (s : State), (s.rxUsed n = true) ∧ (s.rdBit (Reg.RXC_STATUS n) 31 = true) ∧ ((s.at t).takePackets n = s.at t) ∧ ((s.rxc n).pathA.recent (max s.now t) = false) ∧ ((s.rxc n).pathB.recent (max s.now t) = false)) ∧
    (∃ (n : Nat) (s : State), (s.rxUsed n = true) ∧ (s.rxEssence n = 0 ∨ s.rxEssence n = 3) ∧ (s.rdBit (Reg.RXC_STATUS n) 31 = false) ∧ ((s.rxc n).clean = true)) ∧
    (∃ (t : Nat) (n : Nat) (s : State) (v : Nat), (s.rxUsed n = true) ∧ (s.rxEssence n = 1 ∨ s.rxEssence n = 2) ∧ (s.rdBit (Reg.RXC_STATUS n) 31 = false) ∧ ((s.rxc n).since = some v) ∧ (v + 2000000 ≤ max s.now t) ∧ ((s.rxc n).pathA.recent (max s.now t) = true)) ∧
    (∃ (t : Nat) (n : Nat) (s : State), (s.rdBit (Reg.RXC_STATUS n) 29 = true) ∧ ((s.at t).takePackets n = s.at t) ∧ ((s.rxc n).pathB.recent (max s.now t) = false)) ∧
    (∃ (n : Nat) (s : State), (s.rxUsed n = true) ∧ ((s.rxc n).skewN ≠ 0) ∧ (((s.rxc n).skewSum / (s.rxc n).skewN / 1000).natAbs ≤ s.rdFld (Reg.RXC_SKEW n) 15 0)) ∧
    (∃ (n : Nat) (s : State) (us : Int), (s.rxUsed n = true) ∧ ((s.rxc n).skewN ≠ 0) ∧ (us = (s.rxc n).skewSum / (s.rxc n).skewN / 1000) ∧ (s.rdFld (Reg.RXC_SKEW n) 15 0 < us.natAbs)) ∧
    (∃ (t : Nat) (n : Nat) (frame : Nat) (i : Nat) (ready : Nat) (la : Nat) (s : State) (d : Nat) (c : DstCfg) (port : Nat) (rtp : List Byte), (n < 8192) ∧ (s.rdFld (Reg.TXC_CFG n) 31 28 = 8) ∧ (s.rdBit (Reg.TXC_STATUS n) 30 = false) ∧ (port = s.rdFld (Reg.TXC_PATHS n) 9 0) ∧ (s.rdBit (Reg.TXC_PATHS n) 31 = false) ∧ (s.txDst n = some (d, c)) ∧ (s.txLit c.tg port = true) ∧ (s.portUp port = true) ∧ (s.rdBit (Reg.MAC_STATUS port) 27 = false) ∧ (twoFields c.fmt.raster = false) ∧ ((s.at t).launchDue n frame i ready la c ≤ ((s.at t).deviceTime : Int)) ∧ (rtp = s.rtpHead n ((frame * max 1 (s.rdFld (Reg.TXC_PKT n) 15 0) + i) % 4294967296) (frameStamp (s.tgRate c.tg) frame) (i + 1 == max 1 (s.rdFld (Reg.TXC_PKT n) 15 0)) ++ videoPayload c.fmt (max 1 (s.rdFld (Reg.TXC_PKT n) 15 0)) i ((frame * max 1 (s.rdFld (Reg.TXC_PKT n) 15 0) + i) % 4294967296) ((s.at t).videoData d c frame (max 1 (s.rdFld (Reg.TXC_PKT n) 15 0)) i))) ∧
    (∃ (t : Nat) (n : Nat) (frame : Nat) (i : Nat) (ready : Nat) (la : Nat) (s : State) (d : Nat) (c : DstCfg), (n < 8192) ∧ (s.rdFld (Reg.TXC_CFG n) 31 28 = 8) ∧ (s.rdBit (Reg.TXC_STATUS n) 30 = false) ∧ (s.rdBit (Reg.TXC_PATHS n) 31 = false) ∧ (s.txDst n = some (d, c)) ∧ (s.txLit c.tg (s.rdFld (Reg.TXC_PATHS n) 9 0) = true) ∧ (s.portUp (s.rdFld (Reg.TXC_PATHS n) 9 0) = false) ∧ ((s.rdFld (Reg.TXC_CFG n) 30 28 = 0 → (s.at t).launchDue n frame i ready la c ≤ ((s.at t).deviceTime : Int))) ∧ ((s.rd (Reg.TXC_CNT_DROP n)).toNat + 1 < 4294967296)) ∧
    (∃ (p : Nat) (s : State), (4 ≤ s.power.stage) ∧ (s.isEth p = true) ∧ (s.portUp p = true) ∧ (s.rdBit (Reg.MAC_STATUS p) 27 = false) ∧ (s.power.reaping = none) ∧ (s.memberships p ≠ []) ∧ (s.rd (Reg.MED_PORT_IPV4 p) ≠ 0) ∧ (s.rdFld (Reg.MAC_CFG p) 31 30 ≠ 1)) :=
  ⟨⟨30000000, 0, 1, 0, ((rxcState 0x88510000 coldRx).setCfg { ImageCfg.none with srcs := [(1, ⟨.rxc 0, none, ⟨5, 1, 0, 0⟩, 4, false, 0⟩)] }), 1, ((⟨.rxc 0, none, ⟨5, 1, 0, 0⟩, 4, false, 0⟩ : SrcCfg)), (((coldRx).rowGroups 0 (rasterSize 5).1 1 0)), by decide +kernel⟩,
    ⟨30000000, 0, 1, 0, (rxcState 0x88510000 { coldRx with copies := [⟨9, some 0, none, 1, 0⟩], doneSeq := some 5 }), ((⟨9, some 0, none, 1, 0⟩ : CopyRec)), 5, by decide +kernel⟩,
    ⟨500000, 0, 3, 0, (rxcState 0x80510000 { coldRx with ends := [(3, 0)] }), by decide +kernel⟩,
    ⟨2000000, 0, ((rxcState 0x80510000 { coldRx with pathA := ⟨none, none, some 0⟩ }).wr (Reg.RXC_STATUS 0) 0x80000000), by decide +kernel⟩,
    ⟨0, (rxcState 0x80510000 { coldRx with clean := true }), by decide +kernel⟩,
    ⟨2000000, 0, (rxcState 0x90010000 { coldRx with since := some 0, pathA := ⟨none, none, some 1⟩ }), 0, by decide +kernel⟩,
    ⟨0, 0, ((rxcState 0x80510000 coldRx).wr (Reg.RXC_STATUS 0) 0x20000000), by decide +kernel⟩,
    ⟨0, ((rxcState 0x80510000 { coldRx with skewN := 2, skewSum := 20000 }).wr (Reg.RXC_SKEW 0) 10), by decide +kernel⟩,
    ⟨0, ((rxcState 0x80510000 { coldRx with skewN := 2, skewSum := -22000 }).wr (Reg.RXC_SKEW 0) 10), ((-11 : Int)), by decide +kernel⟩,
    ⟨0, 0, 7, 4319, 0, 0, txcState, 0, ((⟨0, some 0, 0, ⟨5, 1, 0, 0⟩, false, 0⟩ : DstCfg)), 0, (txcState.rtpHead 0 ((7 * 4320 + 4319) % 4294967296) (frameStamp (txcState.tgRate 0) 7) true ++ videoPayload ⟨5, 1, 0, 0⟩ 4320 4319 ((7 * 4320 + 4319) % 4294967296) ((txcState.at 0).videoData 0 ⟨0, some 0, 0, ⟨5, 1, 0, 0⟩, false, 0⟩ 7 4320 4319)), by decide +kernel⟩,
    ⟨0, 0, 7, 0, 0, 0, (txcState.wr (Reg.MAC_STATUS 0) 0), 0, ((⟨0, some 0, 0, ⟨5, 1, 0, 0⟩, false, 0⟩ : DstCfg)), by decide +kernel⟩,
    ⟨0, ((((rxcState 0x80510000 coldRx).wr (Reg.RXC_DST_A 0) 0xE0000101).wr (Reg.MED_PORT_IPV4 0) 1).setPower { PowerState.reset with stage := 4 }), by decide +kernel⟩⟩

/-- States and operands that meet the hypotheses of each clause of device_time_ptp_and_pps. -/
theorem test_device_time_ptp_and_pps_met :
    (∃ (k : Nat) (s : State), (s.ptpEnabled k = true) ∧ (s.ptpPort k = 9)) ∧
    (∃ (k : Nat) (origin : Int) (stamp : Int) (corr : Int) (s : State) (ms : Int) (sm : Int) (mean : Int) (off : Int), (s.ptpEnabled k = true) ∧ (s.ptpPort k = 9) ∧ (s.ptp.lastSync = some ms) ∧ (s.ctl.entered = true) ∧ (s.rdBit Reg.PTP_STATUS 27 = false) ∧ (s.ptp.refused = none) ∧ (sm = origin - (stamp + (s.rdFld (Reg.PTPP_EGRESS_LAT k) 23 0 : Int)) - corr) ∧ (mean = (ms + sm) / 2) ∧ (off = (ms - mean - toSigned 24 (s.rdFld (Reg.PTPP_ASYM k) 23 0)) / 1000) ∧ (off.natAbs ≤ s.stepLimit)) ∧
    (∃ (k : Nat) (origin : Int) (stamp : Int) (corr : Int) (s : State) (ms : Int) (sm : Int) (mean : Int) (off : Int), (s.ptpEnabled k = true) ∧ (s.ptpPort k = 9) ∧ (s.ptp.lastSync = some ms) ∧ (s.ctl.entered = true) ∧ (s.rdBit Reg.PTP_STATUS 27 = false) ∧ (s.ptp.refused = none) ∧ (sm = origin - (stamp + (s.rdFld (Reg.PTPP_EGRESS_LAT k) 23 0 : Int)) - corr) ∧ (mean = (ms + sm) / 2) ∧ (off = (ms - mean - toSigned 24 (s.rdFld (Reg.PTPP_ASYM k) 23 0)) / 1000) ∧ (s.stepLimit < off.natAbs)) ∧
    (∃ (k : Nat) (b : AnnounceBody) (s : State), (s.ptpEnabled k = true) ∧ (b.domain = s.rdFld Reg.PTP_CFG 7 0) ∧ (b.version = 2) ∧ (Tab.find? s.ptp.best k = none)) ∧
    (∃ (t : Nat) (k : Nat) (s : State) (d : PtpDs) (v : Nat), (Tab.find? s.ptp.best k = some (d, v)) ∧ (v + s.rdFld Reg.PTP_INTERVALS 3 0 * logNs (toSigned 8 (s.rdFld Reg.PTP_INTERVALS 23 16)) ≤ max s.now t) ∧ (s.ptpPort k = 9)) ∧
    (∃ (t : Nat) (k : Nat) (s : State), (Tab.find? s.ptp.best k = none) ∧ (s.ptpEnabled k = true) ∧ (s.ptpPort k = 4) ∧ (s.mayMaster k = true) ∧ (s.ptp.best = []) ∧ (s.ptp.listen + s.rdFld Reg.PTP_INTERVALS 3 0 * logNs (toSigned 8 (s.rdFld Reg.PTP_INTERVALS 23 16)) ≤ max s.now t)) ∧
    (∃ (t : Nat) (s : State) (e : RefusedEpisode), (s.ptp.refused = some e) ∧ (s.rdBit Reg.PTP_CFG 27 = true) ∧ (e.since + 10000000000 ≤ max s.now t) ∧ (s.ctl.entered = true)) ∧
    (∃ (s : State) (e : RefusedEpisode), (s.ptp.refused = some e) ∧ (s.ctl.entered = false)) ∧
    (∃ (v : Nat), v ≠ Config.confirm) ∧
    (∃ (t : Nat) (s : State), (s.rdBit Reg.PTP_STATUS 27 = true) ∧ ((s.at t).ptp.slewLeft = 0)) ∧
    (∃ (k : Nat) (kind : Nat) (p : Nat) (s : State), (s.ptpEnabled k = true) ∧ ((s.ptpPort k = 6 ∧ s.gateOpen = true ∧ (kind = 0 ∨ kind = 11)) ∨ (s.ptpPort k = 9 ∧ kind = 1) ∨ (s.ptpPort k = 6 ∧ kind = 13)) ∧ (p = s.rdFld (Reg.PTPP_CFG k) 9 0) ∧ (s.portUp p = true) ∧ (s.rdBit (Reg.MAC_STATUS p) 27 = false)) ∧
    (∃ (k : Nat) (kind : Nat) (p : Nat) (s : State), (s.ptpEnabled k = true) ∧ ((s.ptpPort k = 6 ∧ s.gateOpen = true ∧ (kind = 0 ∨ kind = 11)) ∨ (s.ptpPort k = 9 ∧ kind = 1) ∨ (s.ptpPort k = 6 ∧ kind = 13)) ∧ (p = s.rdFld (Reg.PTPP_CFG k) 9 0) ∧ (s.portUp p = true) ∧ (s.rdBit (Reg.MAC_STATUS p) 27 = false)) ∧
    (∃ (k : Nat) (kind : Nat) (p : Nat) (s : State), (s.ptpEnabled k = true) ∧ ((s.ptpPort k = 6 ∧ s.gateOpen = true ∧ (kind = 0 ∨ kind = 11)) ∨ (s.ptpPort k = 9 ∧ kind = 1) ∨ (s.ptpPort k = 6 ∧ kind = 13)) ∧ (p = s.rdFld (Reg.PTPP_CFG k) 9 0) ∧ (s.portUp p = true) ∧ (s.rdBit (Reg.MAC_STATUS p) 27 = false)) ∧
    (∃ (k : Nat) (kind : Nat) (s : State), (s.ptpPort k = 6) ∧ (s.gateOpen = false) ∧ (kind ≠ 13)) ∧
    (∃ (k : Nat) (p : Nat) (s : State), (s.ptpEnabled k = true) ∧ (s.ptpPort k = 6) ∧ (s.gateOpen = true) ∧ (p = s.rdFld (Reg.PTPP_CFG k) 9 0) ∧ (s.portUp p = true) ∧ (s.rdBit (Reg.MAC_STATUS p) 27 = false)) ∧
    (∃ (k : Nat) (s : State), (s.ptpEnabled k = true) ∧ (s.ptpPort k = 6) ∧ (s.gateOpen = false)) ∧
    (∃ (t : Nat) (s : State) (v : Nat) (w : Nat), (s.ptp.ppsEdge = some (v, w)) ∧ (s.ptp.ppsPresent = true) ∧ (w + 2000000000 ≤ max s.now t)) ∧
    (∃ (s : State), s.rdFld Reg.PTP_PPSOUT_CFG 31 30 = 2 ∨ (s.rdBit Reg.PTP_PPSOUT_CFG 31 = true ∧ s.rdFld Reg.PTP_STATUS 31 30 = 3)) ∧
    (∃ (s : State), s.rdFld Reg.PTP_PPSOUT_CFG 31 30 = 2 ∨ (s.rdBit Reg.PTP_PPSOUT_CFG 31 = true ∧ s.rdFld Reg.PTP_STATUS 31 30 = 3)) ∧
    (∃ (s : State), (s.rdFld Reg.PTP_PPSOUT_CFG 31 30 = 3) ∧ (s.rdBit Reg.PTP_STATUS 31 = false)) ∧
    (∃ (t : Nat) (s : State) (ns : Nat), ns = (s.at t).fineTime / 1000000000) :=
  ⟨⟨0, (ptpPortState 9 id), by decide +kernel⟩,
    ⟨0, ((1000000 : Int)), ((0 : Int)), ((0 : Int)), (ptpPortState 9 (fun p => { p with lastSync := some 3000000 })), ((3000000 : Int)), ((1000000 : Int)), ((2000000 : Int)), ((1000 : Int)), by decide +kernel⟩,
    ⟨0, ((1000000 : Int)), ((0 : Int)), ((0 : Int)), (ptpPortState 9 (fun p => { p with lastSync := some 3002000 })), ((3002000 : Int)), ((1000000 : Int)), ((2001000 : Int)), ((1001 : Int)), by decide +kernel⟩,
    ⟨0, announce1, (ptpPortState 4 id), by decide +kernel⟩,
    ⟨6000000000, 0, (ptpPortState 9 (fun p => { p with best := [(0, ⟨1, 6, 0x21, 0x4E5D, 1, 77, 1, 77⟩, 0)] })), ((⟨1, 6, 0x21, 0x4E5D, 1, 77, 1, 77⟩ : PtpDs)), 0, by decide +kernel⟩,
    ⟨6000000000, 0, (ptpPortState 4 id), by decide +kernel⟩,
    ⟨10000000000, ((ptpPortState 9 (fun p => { p with refused := some refused5 })).wrBit Reg.PTP_CFG 27 true), refused5, by decide +kernel⟩,
    ⟨((ptpPortState 9 (fun p => { p with refused := some refused5 })).setCtl State.reset.ctl), refused5, by decide +kernel⟩,
    ⟨0, by decide +kernel⟩,
    ⟨10, ((ptpPortState 9 (fun p => { p with slew := 100000, slewLeft := 900000 })).wrBit Reg.PTP_STATUS 27 true), by decide +kernel⟩,
    ⟨0, 11, 0, ((ptpPortState 6 id).keyed), by decide +kernel⟩,
    ⟨0, 1, 0, (ptpPortState 9 id), by decide +kernel⟩,
    ⟨0, 13, 0, (ptpPortState 6 id), by decide +kernel⟩,
    ⟨0, 0, (ptpPortState 6 id), by decide +kernel⟩,
    ⟨0, 0, ((ptpPortState 6 id).keyed), by decide +kernel⟩,
    ⟨0, (ptpPortState 6 id), by decide +kernel⟩,
    ⟨2000000000, (ptpPortState 9 (fun p => { p with ppsEdge := some (4, 0), ppsPresent := true })), 4, 0, by decide +kernel⟩,
    ⟨((inMode .service).wr Reg.PTP_PPSOUT_CFG 0x80000064), by decide +kernel⟩,
    ⟨(((inMode .service).wr Reg.PTP_PPSOUT_CFG 0xC0000064).wr Reg.PTP_STATUS 0xC0000000), by decide +kernel⟩,
    ⟨((inMode .service).wr Reg.PTP_PPSOUT_CFG 0xC0000064), by decide +kernel⟩,
    ⟨5, (ptpPortState 9 id), 5, by decide +kernel⟩⟩

/-- States and operands that meet the hypotheses of each clause of dram_is_refreshed_trained_and_calibrated. -/
theorem test_dram_is_refreshed_trained_and_calibrated_met :
    (∃ (t : Nat) (c : Nat) (w : Nat) (s : State), (s.refreshes c = true) ∧ (0 < s.ranks) ∧ ((s.at t).refreshFalls c 0 = true) ∧ (s.burstOn c 0 (some w) = true) ∧ ((s.drcRun c).owed0 < 8)) ∧
    (∃ (t : Nat) (c : Nat) (w : Nat) (s : State), (s.refreshes c = true) ∧ (s.ranks = 2) ∧ ((s.at t).refreshFalls c 1 = true) ∧ (s.burstOn c 1 (some w) = true) ∧ ((s.drcRun c).owed1 = 8) ∧ ((s.rd Reg.DRC_CNT_PREEMPT).toNat + 1 < 4294967296)) ∧
    (∃ (t : Nat) (c : Nat) (s : State), (s.refreshes c = true) ∧ (0 < s.ranks) ∧ ((s.at t).refreshFalls c 0 = true)) ∧
    (∃ (t : Nat) (c : Nat) (rank : Nat) (s : State), (s.at t).refreshFalls c rank = false) ∧
    (∃ (c : Nat) (r0 : Nat) (r1 : Nat) (s : State), (s.refreshes c = true) ∧ (s.ranks = 2) ∧ (r0 < 8) ∧ (r1 < 8) ∧ (4 ≤ max r0 r1) ∧ (max r0 r1 < 6) ∧ (s.rdBit (Reg.DRCC_STATUS c) 29 = false)) ∧
    (∃ (c : Nat) (r0 : Nat) (r1 : Nat) (s : State), (s.refreshes c = true) ∧ (s.ranks = 2) ∧ (r0 < 4) ∧ (r1 < 4) ∧ (s.rdBit (Reg.DRCC_STATUS c) 29 = true) ∧ (1 ≤ (s.drcRun c).normal)) ∧
    (∃ (c : Nat) (r0 : Nat) (r1 : Nat) (s : State), (s.refreshes c = true) ∧ (s.ranks = 2) ∧ (r0 < 4) ∧ (r1 < 4) ∧ (s.rdBit (Reg.DRCC_STATUS c) 29 = true)) ∧
    (∃ (s : State), (s.ctl.mode = .test) ∧ (s.rdBit Reg.DRC_STATUS 30 = false)) ∧
    (∃ (v : Nat) (s : State), s.ctl.mode ≠ .test ∨ v ≠ Config.confirm) ∧
    (∃ (r : Nat) (s : State), (r < 3) ∧ (s.ctl.mode = .test) ∧ (s.rdBit Reg.DRC_STATUS 30 = false)) ∧
    (∃ (r : Nat) (s : State), (r < 3) ∧ ((s.ctl.mode = .test ∧ s.rdBit Reg.DRC_STATUS 30 = true) ∨ (s.ctl.mode = .boot ∧ 2 ≤ s.power.stage))) ∧
    (∃ (r : Nat) (s : State), (r < 3) ∧ ((s.ctl.mode = .test ∧ s.rdBit Reg.DRC_STATUS 30 = true) ∨ (s.ctl.mode = .boot ∧ 2 ≤ s.power.stage))) ∧
    (∃ (g : Nat) (s : State), (s.groupUsed g = true) ∧ (s.refreshes (4 * g) = true) ∧ ((s.res (66 + g)).running = none)) ∧
    (∃ (t : Nat) (g : Nat) (s : State), ((s.res (66 + g)).running = some ⟨4, g⟩) ∧ ((s.res (66 + g)).queue = []) ∧ (Tab.get 0 s.drc.zqAt g + 1000 ≤ max s.now t)) ∧
    (∃ (t : Nat) (c : Nat) (dl : Nat) (s : State), (s.chanUsed c = true) ∧ (dl < max s.now t) ∧ ((s.rd Reg.DRC_CNT_RT_LATE).toNat + 1 < 4294967296)) :=
  ⟨⟨3904, 0, 0, (dramState.setDrc 0 ⟨7, 0, 0, false, [], none⟩), by decide +kernel⟩,
    ⟨3904, 0, 8589934592, (dramState.setDrc 0 ⟨0, 8, 0, false, [], none⟩), by decide +kernel⟩,
    ⟨3904, 0, (dramState.setDrc 0 ⟨7, 0, 0, false, [], none⟩), by decide +kernel⟩,
    ⟨3903, 0, 0, dramState, by decide +kernel⟩,
    ⟨0, 0, 5, dramState, by decide +kernel⟩,
    ⟨0, 3, 0, ((dramState.wrBit (Reg.DRCC_STATUS 0) 29 true).setDrc 0 ⟨0, 0, 1, false, [], none⟩), by decide +kernel⟩,
    ⟨0, 3, 0, ((dramState.wrBit (Reg.DRCC_STATUS 0) 29 true).setDrc 0 ⟨0, 0, 1, false, [], none⟩), by decide +kernel⟩,
    ⟨(inMode .test), by decide +kernel⟩,
    ⟨Config.confirm, (inMode .service), by decide +kernel⟩,
    ⟨2, (inMode .test), by decide +kernel⟩,
    ⟨2, ((inMode .test).wrBit Reg.DRC_STATUS 30 true), by decide +kernel⟩,
    ⟨0, (State.reset.setPower { PowerState.reset with stage := 2 }), by decide +kernel⟩,
    ⟨0, dramState, by decide +kernel⟩,
    ⟨1000, 0, (dramState.setRes 66 ⟨some ⟨4, 0⟩, [], 0, none, 0, 0⟩), by decide +kernel⟩,
    ⟨5, 3, 4, dramState, by decide +kernel⟩⟩

/-- States and operands that meet the hypotheses of each clause of faults_maintenance_and_life_log. -/
theorem test_faults_maintenance_and_life_log_met :
    (∃ (t : Nat) (s : State) (m : FaultMsg) (rest : List FaultMsg), (s.flt.inbox = m :: rest) ∧ (m.time ≤ max s.now t) ∧ (m.cls ≤ 2) ∧ (s.isOpen (healthUnit m.source) m.cls = false) ∧ (s.flt.closed = []) ∧ (s.flt.fifo = []) ∧ ((s.rd (Reg.FLT_CNT_C m.cls)).toNat + 1 < 4294967296)) ∧
    (∃ (t : Nat) (s : State) (m : FaultMsg) (rest : List FaultMsg), (s.flt.inbox = m :: rest) ∧ (m.time ≤ max s.now t) ∧ (s.ctl.mode = .service) ∧ (m.cls = 4 ∨ (m.cls = 3 ∧ s.isOpen (healthUnit m.source) 3 = true)) ∧ (m.kind < 256) ∧ (m.source < 4096)) ∧
    (∃ (t : Nat) (s : State) (m : FaultMsg) (rest : List FaultMsg), (s.flt.inbox = m :: rest) ∧ (m.time ≤ max s.now t) ∧ (s.ctl.mode = .service) ∧ (m.cls = 4 ∨ (m.cls = 3 ∧ s.isOpen (healthUnit m.source) 3 = true)) ∧ (m.kind < 256) ∧ (m.source < 4096)) ∧
    (∃ (s : State) (r : FaultRec) (rest : List FaultRec), s.flt.fifo = r :: rest) ∧
    (∃ (x : Nat) (s : State), (∀ o ∈ s.flt.opened, o.cls ≤ 3) ∧ (x ≤ 3)) ∧
    (∃ (s : State), ∀ o ∈ s.flt.opened, o.cls ≤ 3) ∧
    (∃ (t : Nat) (s : State), (s.flt.armed = true) ∧ (s.kicking = true) ∧ ((s.at t).kickFalls = false) ∧ (s.flt.lastKick + 2000000 ≤ max s.now t)) ∧
    (∃ (t : Nat) (s : State), max s.now t < s.flt.lastKick + 2000000) ∧
    (∃ (t : Nat) (s : State), (s.flt.aliveRuns = true) ∧ (s.flt.aliveEdge + 500000 ≤ max s.now t)) ∧
    (∃ (x : Int) (s : State), (s.flt.trips = false) ∧ (840 < x) ∧ (x ≤ 960) ∧ ((Tab.get coldDiode s.flt.diodes 0).high = 9) ∧ ((Tab.get coldDiode s.flt.diodes 0).raised = false)) ∧
    (∃ (xs : List Int), (xs.length = 17) ∧ ((∀ x ∈ xs, x ≤ 840))) ∧
    (∃ (r : Nat) (code : Nat) (s : State), (s.resPresent r = true) ∧ (periodicOn r code = true) ∧ ((s.res r).running = none)) ∧
    (∃ (t : Nat) (r : Nat) (code : Nat) (s : State) (v : Activity), (s.resPresent r = true) ∧ (periodicOn r code = true) ∧ ((s.res r).running = some v) ∧ ((s.res r).began ≠ some (max s.now t)) ∧ (16 ≤ (s.res r).queue.length)) ∧
    (∃ (r : Nat) (s : State) (v : Activity) (b : Activity) (rest : List Activity), ((s.res r).running = some v) ∧ (v.code ∈ [4, 5, 6, 8]) ∧ ((s.res r).queue = b :: rest) ∧ (b.code ∈ [4, 5, 6, 8])) ∧
    (∃ (s : State), (s.ctl.mode ≠ .boot) ∧ (s.boot.romFallback = false) ∧ (s.xpt.pending = []) ∧ (s.flt.toAppend = []) ∧ (s.rdBit Reg.FLT_CFG 0 = false) ∧ ((∀ o ∈ s.flt.opened, o.cls ≤ 3))) ∧
    (∃ (s : State), s.ctl.mode = .boot) ∧
    (∃ (s : State), (s.lifeReady = true) ∧ (s.life.queued = []) ∧ ((s.res flashRes).running = none)) ∧
    (∃ (v : Nat), v ≠ Config.confirm) ∧
    (∃ (t : Nat) (s : State), (s.lifeReady = true) ∧ (s.boot.romFallback = false) ∧ (s.life.lastCheckpoint + 600000000000 ≤ max s.now t) ∧ (s.life.eventDue = false) ∧ (s.flt.toAppend = []) ∧ ((s.at t).severeComes = false) ∧ (s.life.queued = [])) ∧
    (∃ (t : Nat) (s : State), (s.lifeReady = true) ∧ (s.boot.romFallback = false) ∧ (max s.now t < s.life.lastCheckpoint + 600000000000) ∧ (s.life.eventDue = true) ∧ (s.life.lastEvent = none) ∧ (s.life.writing = 0) ∧ (s.life.queued = [none]) ∧ (s.flt.toAppend = []) ∧ ((s.at t).severeComes = false)) ∧
    (∃ (s : State) (r : FaultRec), ((s.res flashRes).running = some ⟨1, 0⟩) ∧ (s.life.queued = [some r]) ∧ (s.life.writing = 1) ∧ (s.life.writeAt + 64 ≤ 65536) ∧ ((s.res flashRes).queue = [])) ∧
    (∃ (s : State), (s.res flashRes).running = some ⟨1, 0⟩) :=
  ⟨⟨9, (faultState ⟨9, 0x500, 0x51, 0, 2⟩), ((⟨9, 0x500, 0x51, 0, 2⟩ : FaultMsg)), (([] : List FaultMsg)), by decide +kernel⟩,
    ⟨9, (faultState ⟨9, 4, 1, 0, 4⟩), ((⟨9, 4, 1, 0, 4⟩ : FaultMsg)), (([] : List FaultMsg)), by decide +kernel⟩,
    ⟨9, ((faultState ⟨9, 0x019, 5, 0, 3⟩).wr (Reg.FLT_OPEN_C 3) 4), ((⟨9, 0x019, 5, 0, 3⟩ : FaultMsg)), (([] : List FaultMsg)), by decide +kernel⟩,
    ⟨((inMode .service).setFlt { (inMode .service).flt with fifo := [rec2] }), rec2, (([] : List FaultRec)), by decide +kernel⟩,
    ⟨2, ((openState [open2 2 0x20 0]).wr (Reg.FLT_OPEN_C 2) 8), by decide +kernel⟩,
    ⟨((openState [open2 2 0x10 0]).wr (Reg.FLT_OPEN_C 2) 8), by decide +kernel⟩,
    ⟨2000000, (keyService.setFlt { keyService.flt with armed := true, aliveRuns := true }), by decide +kernel⟩,
    ⟨1999999, (inMode .service), by decide +kernel⟩,
    ⟨500000, ((inMode .service).setFlt { (inMode .service).flt with aliveRuns := true }), by decide +kernel⟩,
    ⟨((841 : Int)), ((inMode .service).setFlt { (inMode .service).flt with diodes := [(0, ⟨9, 0, false, 841⟩)] }), by decide +kernel⟩,
    ⟨(List.replicate 17 (840 : Int)), by decide +kernel⟩,
    ⟨66, 5, (inMode .service), by decide +kernel⟩,
    ⟨0, 66, 5, ((inMode .service).setRes 66 ⟨some ⟨4, 0⟩, List.replicate 16 ⟨5, 0⟩, 65535, none, 0, 0⟩), ((⟨4, 0⟩ : Activity)), by decide +kernel⟩,
    ⟨66, ((inMode .service).setRes 66 ⟨some ⟨4, 0⟩, [⟨5, 0⟩], 0, none, 0, 0⟩), ((⟨4, 0⟩ : Activity)), ((⟨5, 0⟩ : Activity)), (([] : List Activity)), by decide +kernel⟩,
    ⟨((openState [open2 1 0x21 0, open2 2 0x20 0]).wr Reg.FLT_CFG 0), by decide +kernel⟩,
    ⟨State.reset, by decide +kernel⟩,
    ⟨(lifeState id), by decide +kernel⟩,
    ⟨0, by decide +kernel⟩,
    ⟨600000000000, (lifeState id), by decide +kernel⟩,
    ⟨5, (lifeState (fun l => { l with eventDue := true, queued := [none] })), by decide +kernel⟩,
    ⟨((lifeState (fun l => { l with queued := [some rec2], writing := 1 })).runs ⟨1, 0⟩), rec2, by decide +kernel⟩,
    ⟨((lifeState (fun l => { l with queued := [none], writing := 1 })).runs ⟨1, 0⟩), by decide +kernel⟩⟩

/-- States and operands that meet the hypotheses of each clause of card_port_resets_links_and_transfers. -/
theorem test_card_port_resets_links_and_transfers_met :
    (∃ (s : State), (s.pcie.linkUp = true) ∧ (s.card.outstanding = []) ∧ ((s.rd Reg.CPT_CNT_LINK_DOWN).toNat + 1 < 4294967296)) ∧
    (∃ (s : State), s.card.outstanding = []) ∧
    (∃ (s : State), s.card.outstanding = []) ∧
    (∃ (sp : Nat) (w : Nat) (s : State), (s.spiMode = false) ∧ (s.pcie.linkUp = false) ∧ (s.rdBit Reg.SYN_STATUS 31 = true) ∧ (1 ≤ sp ∧ sp ≤ 3) ∧ (w ∈ [1, 2, 4])) ∧
    (∃ (s : State), s.pcie.linkUp = true) ∧
    (∃ (s : State), s.pcie.linkUp = true) ∧
    (∃ (s : State), s.pcie.linkUp = true) ∧
    (∃ (s : State), s.pcie.linkUp = true) ∧
    (∃ (s : State), s.pcie.linkUp = true) ∧
    (∃ (x : Nat) (bs : List Byte) (s : State), (s.pcie.linkUp = true) ∧ (s.pcie.d3hot = false) ∧ (x < 1073741824) ∧ (x + bs.length ≤ s.mgmtSize) ∧ (s.touchesProt (s.mgmtBase + x) bs.length = false) ∧ (s.dramSpan (s.mgmtBase + x) bs.length = true)) ∧
    (∃ (x : Nat) (n : Nat) (s : State), (s.pcie.linkUp = true) ∧ (s.pcie.d3hot = false) ∧ (x < 1073741824) ∧ (x + n ≤ s.mgmtSize) ∧ (s.dramSpan (s.mgmtBase + x) n = true)) ∧
    (∃ (x : Nat) (n : Nat) (s : State), (s.pcie.linkUp = true) ∧ (s.pcie.d3hot = false) ∧ (x < 1073741824) ∧ (s.mgmtSize < x + n) ∧ ((s.rd Reg.CPT_CNT_BAR2_OUTSIDE).toNat + 1 < 4294967296)) ∧
    (∃ (s : State), s.spiMode = true) ∧
    (∃ (s : State), s.spiMode = true) ∧
    (∃ (s : State), s.spiMode = true) ∧
    (∃ (v : Nat) (s : State), (v < 49) ∧ (s.pcie.msixEn = true) ∧ (s.pcie.msixMask = false) ∧ (s.rdBit (Reg.MSIX_PENDING (v / 32)) (v % 32) = true) ∧ (s.vecCond v = true)) ∧
    (∃ (n : Nat) (s : State), (s.mbxBusy = false) ∧ (40 ≤ n) ∧ (n ≤ 9000) ∧ (s.waiters 25 32 = [])) ∧
    (∃ (n : Nat) (s : State), (s.mbxBusy = true ∨ n < 40 ∨ 9000 < n) ∧ ((s.rd Reg.CPT_CNT_MBX_OVERRUN).toNat + 1 < 4294967296)) :=
  ⟨⟨linkState, by decide +kernel⟩,
    ⟨(linkState.wrBit (Reg.MSIX_CTRL 3) 0 false), by decide +kernel⟩,
    ⟨linkState, by decide +kernel⟩,
    ⟨3, 4, (inMode .service), by decide +kernel⟩,
    ⟨linkState, by decide +kernel⟩,
    ⟨linkState, by decide +kernel⟩,
    ⟨linkState, by decide +kernel⟩,
    ⟨linkState, by decide +kernel⟩,
    ⟨linkState, by decide +kernel⟩,
    ⟨5, ([1, 2, 3]), ((linkState.wr Reg.TOP_USAGE 0x01000000).wr Reg.CPT_MGMT_SIZE 1), by decide +kernel⟩,
    ⟨5, 3, ((linkState.wr Reg.TOP_USAGE 0x01000000).wr Reg.CPT_MGMT_SIZE 1), by decide +kernel⟩,
    ⟨5, 4, (linkState.wr Reg.CPT_MGMT_SIZE 0), by decide +kernel⟩,
    ⟨spiState, by decide +kernel⟩,
    ⟨spiState, by decide +kernel⟩,
    ⟨(spiState.setCard { spiState.card with spiLate := true }), by decide +kernel⟩,
    ⟨0, ((((linkState.setPcie { linkState.pcie with msixEn := true }).wr (Reg.MSIX_PENDING 0) 1).wr Reg.CPT_EVENT 1).wr Reg.CPT_EVENT_EN 1), by decide +kernel⟩,
    ⟨9000, linkState, by decide +kernel⟩,
    ⟨39, linkState, by decide +kernel⟩⟩

/-- States and operands that meet the hypotheses of each clause of mailbox_replies_are_presented_queued_and_never_gated. -/
theorem test_mailbox_replies_are_presented_queued_and_never_gated_met :
    (∃ (s : State) (r : ReplyTo) (bs : List Byte), (r.path = .mailbox) ∧ (s.card.mbxOut = []) ∧ (bs ≠ []) ∧ (bs.length ≤ 9000) ∧ (s.card.mbxQueue.length ≤ 16)) ∧
    (∃ (s : State) (r : ReplyTo), (r.path = .mailbox) ∧ (s.card.mbxOut ≠ []) ∧ (s.card.mbxQueue.length < 16)) ∧
    (∃ (s : State) (r : ReplyTo), (r.path = .mailbox) ∧ (s.card.mbxOut ≠ []) ∧ (16 ≤ s.card.mbxQueue.length) ∧ ((s.rd Reg.CPT_CNT_MBX_REPLY_DROP).toNat + 1 < 4294967296)) ∧
    (∃ (s : State) (r : List Byte) (q : List Byte) (rest : List (List Byte)), (s.card.mbxOut = r) ∧ (r ≠ []) ∧ (s.card.mbxQueue = q :: rest)) ∧
    (∃ (s : State), s.card.mbxQueue = []) :=
  ⟨⟨linkState, (fromMbx 1), ([1]), by decide +kernel⟩,
    ⟨(outState [1] (List.replicate 15 [2])), (fromMbx 1), by decide +kernel⟩,
    ⟨(outState [1] (List.replicate 16 [2])), (fromMbx 1), by decide +kernel⟩,
    ⟨(outState [1] [[2, 3], [4]]), ([1]), ([2, 3]), ([[4]]), by decide +kernel⟩,
    ⟨(outState [1] []), by decide +kernel⟩⟩

/-- States and operands that meet the hypotheses of each clause of dma_channels_run_stop_and_resume. -/
theorem test_dma_channels_run_stop_and_resume_met :
    (∃ (c : Nat) (card : Bool) (s : State), (c < 32) ∧ (8 ≤ c ∨ card = false) ∧ (s.dmaOn = true) ∧ ((s.chan c).st = .idle)) ∧
    (∃ (c : Nat) (card : Bool) (s : State), (c < 32) ∧ (8 ≤ c ∨ card = false) ∧ (s.dmaOn = true) ∧ ((s.chan c).st = .run)) ∧
    (∃ (c : Nat) (card : Bool) (s : State), (c < 32) ∧ (8 ≤ c ∨ card = false) ∧ (s.dmaOn = true) ∧ ((s.chan c).st = .idleAtEnd) ∧ ((s.chan c).phase ≠ .fetch true)) ∧
    (∃ (c : Nat) (card : Bool) (s : State), (8 ≤ c ∨ card = false) ∧ (s.dmaOn = false ∨ (s.chan c).st = .stopped)) ∧
    (∃ (c : Nat) (card : Bool) (s : State), (c < 32) ∧ (8 ≤ c ∨ card = false) ∧ (s.dmaOn = true) ∧ ((s.chan c).st = .halted) ∧ ((s.chan c).phase = .burst) ∧ ((s.chan c).remain ≠ 0) ∧ (ctlBit (s.chan c).control 21 = false)) ∧
    (∃ (c : Nat) (s : State), (c < 8) ∧ ((s.rd Reg.CPT_CNT_BAD_ACCESS).toNat + 1 < 4294967296)) ∧
    (∃ (c : Nat) (s : State) (bs : List Byte) (w : Nat), (c < 32) ∧ ((s.chan c).st = .run) ∧ ((s.chan c).phase = .fetch false) ∧ (s.target (s.descAt c) 32 = some (.dram w)) ∧ (s.dramSpan w 32 = true) ∧ (bs = s.dramBytes w 32) ∧ (descValid bs = true) ∧ (le (slice bs 16 4) ≠ 0) ∧ (ctlBit (le (slice bs 20 4)) 21 = false)) ∧
    (∃ (c : Nat) (s : State) (bs : List Byte) (w : Nat), (c < 32) ∧ (s.dmaOn = true) ∧ ((s.chan c).st = .run) ∧ ((s.chan c).phase = .fetch false) ∧ (s.target (s.descAt c) 32 = some (.dram w)) ∧ (s.dramSpan w 32 = true) ∧ (bs = s.dramBytes w 32) ∧ (descValid bs = false) ∧ (ctlBit (le (slice bs 20 4)) 29 = false)) ∧
    (∃ (c : Nat) (s : State), (c < 32) ∧ ((s.chan c).st = .run) ∧ ((s.chan c).phase = .complete) ∧ ((s.chan c).control / 536870912 % 8 = 4) ∧ ((s.chan c).kickPending = false) ∧ ((s.rd (Reg.DMACH_CNT_DESC c)).toNat + 1 < 4294967296)) ∧
    (∃ (c : Nat) (s : State), (c < 32) ∧ ((s.chan c).st = .run) ∧ ((s.chan c).phase = .complete) ∧ ((s.chan c).control / 536870912 % 8 = 2) ∧ ((s.chan c).link < 1099511627776)) ∧
    (∃ (r : Nat) (s : State), (r < 27) ∧ (r ∉ [16, 19, 20, 21, 22]) ∧ (s.waiters r 32 = [])) ∧
    (∃ (r : Nat) (s : State) (c : Nat), (r < 27) ∧ (r ∉ [16, 19, 20, 21, 22]) ∧ (s.waiters r 32 = [c]) ∧ ((s.chan c).remain ≠ 0) ∧ (ctlBit (s.chan c).control 21 = true)) ∧
    (∃ (c : Nat) (s : State) (n : Nat) (v : Nat) (w : Nat), (c < 32) ∧ ((s.chan c).st = .run) ∧ ((s.chan c).phase = .burst) ∧ ((s.chan c).failed = false) ∧ (ctlBit (s.chan c).control 21 = false) ∧ (n = min (burstBytes (s.chan c).control) (s.chan c).remain) ∧ (s.target (s.chan c).srcAt n = some (.dram v)) ∧ (s.target (s.chan c).dstAt n = some (.dram w)) ∧ (s.dramSpan v n = true) ∧ (s.dramSpan w n = true) ∧ (s.touchesProt w n = false)) ∧
    (∃ (c : Nat) (s : State) (n : Nat) (v : Nat) (w : Nat), (c < 32) ∧ ((s.chan c).st = .run) ∧ ((s.chan c).phase = .burst) ∧ ((s.chan c).failed = false) ∧ (ctlBit (s.chan c).control 21 = false) ∧ (n = min (burstBytes (s.chan c).control) (s.chan c).remain) ∧ (s.target (s.chan c).srcAt n = some (.dram v)) ∧ (s.target (s.chan c).dstAt n = some (.dram w)) ∧ (s.dramSpan v n = true) ∧ (s.dramSpan w n = true) ∧ (s.touchesProt w n = false)) ∧
    (∃ (c : Nat) (code : Nat) (s : State), (c < 32) ∧ (s.dmaOn = true) ∧ (1 ≤ code) ∧ (code ≤ 5) ∧ ((s.chan c).st = .run) ∧ (ctlBit (s.chan c).control 29 = false)) ∧
    (∃ (t : Nat) (c : Nat) (s : State) (v : Nat), (c < 32) ∧ (s.dmaOn = true) ∧ (Tab.find? s.card.outstanding c = some v) ∧ (v + 10000000 ≤ max s.now t) ∧ ((s.chan c).phase = .burst) ∧ (ctlBit (s.chan c).control 29 = false)) ∧
    (∃ (n : Nat) (s : State) (v : Nat) (rest : List Nat), (n < 4) ∧ (s.capture n = v :: rest)) :=
  ⟨⟨31, true, linkState, by decide +kernel⟩,
    ⟨0, false, (dmaState 0 (workChan .run .burst 64)), by decide +kernel⟩,
    ⟨9, true, (dmaState 9 (workChan .idleAtEnd .complete 0)), by decide +kernel⟩,
    ⟨9, true, (dmaState 9 (workChan .stopped .burst 64)), by decide +kernel⟩,
    ⟨9, true, (dmaState 9 (workChan .halted .burst 64)), by decide +kernel⟩,
    ⟨7, linkState, by decide +kernel⟩,
    ⟨9, ((((dmaState 9 (workChan .run (.fetch false) 0)).wr Reg.TOP_USAGE 0x01000000).setDram (cellsAt 32 descBytes)).wr64 (Reg.DMACH_DESC_LO 9) (Reg.DMACH_DESC_HI 9) 0x100000020), descBytes, 32, by decide +kernel⟩,
    ⟨9, ((((dmaState 9 (workChan .run (.fetch false) 0)).wr Reg.TOP_USAGE 0x01000000).setDram (cellsAt 32 (toLe 8 0x100000000 ++ toLe 8 0x100001000 ++ toLe 4 64 ++ toLe 4 1 ++ toLe 8 0))).wr64 (Reg.DMACH_DESC_LO 9) (Reg.DMACH_DESC_HI 9) 0x100000020), (toLe 8 0x100000000 ++ toLe 8 0x100001000 ++ toLe 4 64 ++ toLe 4 1 ++ toLe 8 0), 32, by decide +kernel⟩,
    ⟨9, (dmaState 9 (workChan .run .complete 0)), by decide +kernel⟩,
    ⟨9, (dmaState 9 { workChan .run .complete 0 with control := 1073741824, link := 64 }), by decide +kernel⟩,
    ⟨26, linkState, by decide +kernel⟩,
    ⟨26, (dmaState 9 { workChan .run .request 64 with control := 2097152 + 26 * 32768 }), 9, by decide +kernel⟩,
    ⟨9, (((dmaState 9 (workChan .run .burst 64)).wr Reg.TOP_USAGE 0x01000000).setDram (cellsAt 0 (toLe 8 0x0102030405060708))), 32, 0, 0x1000, by decide +kernel⟩,
    ⟨9, (((dmaState 9 (workChan .run .burst 8)).wr Reg.TOP_USAGE 0x01000000).setDram (cellsAt 0 (toLe 8 0x0102030405060708))), 8, 0, 0x1000, by decide +kernel⟩,
    ⟨9, 5, (dmaState 9 (workChan .run .burst 64)), by decide +kernel⟩,
    ⟨10000000, 9, ((dmaState 9 (workChan .run .burst 64)).setCard { linkState.card with outstanding := [(9, 0)] }), 0, by decide +kernel⟩,
    ⟨3, (linkState.setDma { linkState.dma with captures := [(3, [7, 8])] }), 7, ([8]), by decide +kernel⟩⟩

/-- States and operands that meet the hypotheses of each clause of register_accesses_follow_their_codes. -/
theorem test_register_accesses_follow_their_codes_met :
    (∃ (t : Nat) (off : Nat) (v : Nat) (aux : WriteAux) (s : State) (r : RegRow) (w : Word), (off < 16777216) ∧ (off % 4 = 0) ∧ (w = BitVec.ofNat 32 v) ∧ (s.pagePresent off = true) ∧ ((s.at t).writeActs aux false off w = none) ∧ (RegMap.rowOf off = some r) ∧ (vectorsOf off = []) ∧ (s.fieldRules off = [])) ∧
    (∃ (t : Nat) (off : Nat) (v : Nat) (aux : WriteAux) (s : State) (r : RegRow) (w : Word), (off < 16777216) ∧ (off % 4 = 0) ∧ (w = BitVec.ofNat 32 v) ∧ (s.pagePresent off = true) ∧ ((s.at t).writeActs aux false off w = none) ∧ (RegMap.rowOf off = some r) ∧ (vectorsOf off = []) ∧ (s.fieldRules off = [])) ∧
    (∃ (t : Nat) (off : Nat) (v : Nat) (aux : WriteAux) (s : State) (r : RegRow) (w : Word), (off < 16777216) ∧ (off % 4 = 0) ∧ (w = BitVec.ofNat 32 v) ∧ (s.pagePresent off = true) ∧ ((s.at t).writeActs aux false off w = none) ∧ (RegMap.rowOf off = some r) ∧ (vectorsOf off = []) ∧ (s.fieldRules off = [])) ∧
    (∃ (t : Nat) (off : Nat) (v : Nat) (aux : WriteAux) (s : State) (r : RegRow), (off < 16777216) ∧ (s.pagePresent off = true) ∧ ((s.at t).writeActs aux false off (BitVec.ofNat 32 v) = none) ∧ (RegMap.rowOf off = some r) ∧ (r.rw = 0) ∧ (r.w1c = 0) ∧ (s.rwlLocked = true)) ∧
    (∃ (off : Nat), 16777216 ≤ off) ∧
    (∃ (t : Nat) (off : Nat) (v : Nat) (aux : WriteAux) (s : State), (off < 16777216) ∧ (RegMap.rowOf off = none) ∧ ((s.at t).writeActs aux false off (BitVec.ofNat 32 v) = none)) ∧
    (∃ (off : Nat) (full : Bool) (s : State), (off < 16777216) ∧ (s.pcie.linkUp = true) ∧ (s.pcie.d3hot = false) ∧ (full = false ∨ off % 4 ≠ 0) ∧ ((s.rd Reg.CPT_CNT_BAD_ACCESS).toNat + 1 < 4294967296)) ∧
    (∃ (off : Nat) (s : State) (r : RegRow), (RegMap.rowOf off = some r) ∧ (r.rc ≠ 0) ∧ (r.lo = false) ∧ (isHi off = false) ∧ (s.pagePresent off = true) ∧ (s.openWord off = false) ∧ (s.adaptLane off = none) ∧ (off ∉ [Reg.FLT_REC 3, Reg.FST_QMAX, Reg.FST_CNT_REPEAT, Reg.FST_CNT_DROP, Reg.PTP_TIME_FRAC, Reg.FLT_CNT_LOST]) ∧ (off < 0x100050 ∨ 0x100060 ≤ off)) ∧
    (∃ (off : Nat) (s : State) (r : RegRow), (RegMap.rowOf off = some r) ∧ (r.lo = true) ∧ (s.pagePresent off = true) ∧ (s.openWord off = false) ∧ (s.adaptLane off = none) ∧ (off ∉ [Reg.FLT_REC 3, Reg.FST_QMAX, Reg.FST_CNT_REPEAT, Reg.FST_CNT_DROP, Reg.PTP_TIME_FRAC, Reg.FLT_CNT_LOST]) ∧ (off < 0x100050 ∨ 0x100060 ≤ off)) ∧
    (∃ (s : State) (off : Nat) (w : Word), (isHi off = true) ∧ (s.pagePresent off = true) ∧ (s.openWord off = false) ∧ (s.adaptLane off = none) ∧ (Tab.find? s.snap off = some w)) :=
  ⟨⟨5, Reg.FST_SEL, 0xFFFFFFFF, noAux, (inMode .service), ((RegMap.rowOf Reg.FST_SEL).getD ⟨"", 0, 0, 0, 0, 0, 0, 0, 0, 0, 0, 0, 0, false⟩), ((0xFFFFFFFF : Word)), by decide +kernel⟩,
    ⟨5, Reg.FST_CFG, 0xFFFFFFFF, noAux, (inMode .service), ((RegMap.rowOf Reg.FST_CFG).getD ⟨"", 0, 0, 0, 0, 0, 0, 0, 0, 0, 0, 0, 0, false⟩), ((0xFFFFFFFF : Word)), by decide +kernel⟩,
    ⟨5, Reg.FST_CFG, 0xFFFFFFFF, noAux, (inMode .test), ((RegMap.rowOf Reg.FST_CFG).getD ⟨"", 0, 0, 0, 0, 0, 0, 0, 0, 0, 0, 0, 0, false⟩), ((0xFFFFFFFF : Word)), by decide +kernel⟩,
    ⟨5, Reg.TOP_MODE, 7, noAux, (inMode .service), ((RegMap.rowOf Reg.TOP_MODE).getD ⟨"", 0, 0, 0, 0, 0, 0, 0, 0, 0, 0, 0, 0, false⟩), by decide +kernel⟩,
    ⟨16777216, by decide +kernel⟩,
    ⟨0, 0x00FFFC, 1, noAux, State.reset, by decide +kernel⟩,
    ⟨2, true, linkState, by decide +kernel⟩,
    ⟨0x020050, ((inMode .service).wr 0x020050 7), ((RegMap.rowOf 0x020050).getD ⟨"", 0, 0, 0, 0, 0, 0, 0, 0, 0, 0, 0, 0, false⟩), by decide +kernel⟩,
    ⟨Reg.LIFE_PON_LO, ((inMode .service).wr Reg.LIFE_PON_LO 7), ((RegMap.rowOf Reg.LIFE_PON_LO).getD ⟨"", 0, 0, 0, 0, 0, 0, 0, 0, 0, 0, 0, 0, false⟩), by decide +kernel⟩,
    ⟨((inMode .service).setSnap [(Reg.LIFE_PON_HI, 3)]), Reg.LIFE_PON_HI, ((3 : Word)), by decide +kernel⟩⟩

end
end

section
/-! PROOFS. The statements on the clock, the queue and the identity, and on register accesses. -/
namespace Sys2Proof.Machine

/-! What every operation of the machine leaves alone (log 3, 4): the part's identity, the waiting commands, the past of the clock, and what has left
the device. One relation, `Continues`, says it. For each operation `f` of the model, `Continues.f` says that what `f` makes of a state that continues
`s₀` continues `s₀` as well, so that the proof for a chain of operations is the chain of their lemmas: `h.bump.cptEvent` for
`(s.bump _).cptEvent _`. A command's meaning keeps the relation in the same way, and so does a step. -/

/-- `t` continues `s`: the same part with the same commands waiting, no earlier, and with everything that `s` has sent still on record. -/
structure Continues (s t : State) : Prop where
  dev : t.dev = s.dev
  pending : t.pending = s.pending
  now : s.now ≤ t.now
  out : s.out <+: t.out

/-- If the outcome is a next state, that state continues `s`. -/
def ContinuesNext (s : State) (o : Host.Outcome State Fault Refusal) : Prop := ∀ ⦃t⦄, o = .next t → Continues s t

/-- If there is a state, it continues `s`. -/
def ContinuesSome (s : State) (o : Option State) : Prop := ∀ ⦃t⦄, o = some t → Continues s t

/-- If there is no error, the state continues `s`. -/
def ContinuesOk (s : State) (o : Except Nat State) : Prop := ∀ ⦃t⦄, o = .ok t → Continues s t

/-- If there is no error, the state beside the value continues `s`. -/
def ContinuesOkFst {β : Type} (s : State) (o : Except Nat (State × β)) : Prop := ∀ ⦃t b⦄, o = .ok (t, b) → Continues s t

variable {s₀ s : State}

theorem Continues.refl (s : State) : Continues s s := ⟨rfl, rfl, Nat.le_refl _, List.prefix_refl _⟩

theorem Continues.trans {s t u : State} (h : Continues s t) (k : Continues t u) : Continues s u :=
  ⟨k.dev.trans h.dev, k.pending.trans h.pending, Nat.le_trans h.now k.now, h.out.trans k.out⟩

/-- The state of a pair that is named by its parts. -/
theorem Continues.fst {β : Type} {x : State × β} {t : State} {b : β} (h : Continues s₀ x.1) (e : x = (t, b)) : Continues s₀ t := by
  rw [e] at h
  exact h

/-! Branches and folds. -/

theorem Continues.ite {c : Prop} {inst : Decidable c} {t u : State} (h : Continues s₀ t) (k : Continues s₀ u) :
    Continues s₀ (if c then t else u) := by
  split
  · exact h
  · exact k

theorem Continues.iteFst {β : Type} {c : Prop} {inst : Decidable c} {t u : State × β} (h : Continues s₀ t.1) (k : Continues s₀ u.1) :
    Continues s₀ (if c then t else u).1 := by
  split
  · exact h
  · exact k

theorem Continues.foldl {β : Type} {l : List β} {f : State → β → State} (h : Continues s₀ s)
    (hf : ∀ t b, Continues s₀ t → Continues s₀ (f t b)) : Continues s₀ (l.foldl f s) := by
  induction l generalizing s with
  | nil => exact h
  | cons b l ih => exact ih (hf s b h)

theorem Continues.foldlFst {β γ : Type} {l : List β} {f : State × γ → β → State × γ} {x : State × γ} (h : Continues s₀ x.1)
    (hf : ∀ y b, Continues s₀ y.1 → Continues s₀ (f y b).1) : Continues s₀ (l.foldl f x).1 := by
  induction l generalizing x with
  | nil => exact h
  | cons b l ih => exact ih (hf x b h)

theorem ContinuesNext.next {t : State} (h : Continues s₀ t) : ContinuesNext s₀ (.next t) := by
  rintro _ ⟨⟩
  exact h

theorem ContinuesNext.fault {f : Fault} : ContinuesNext s₀ (.fault f) := by rintro _ ⟨⟩

theorem ContinuesNext.ite {c : Prop} {inst : Decidable c} {a b : Host.Outcome State Fault Refusal} (h : ContinuesNext s₀ a)
    (k : ContinuesNext s₀ b) : ContinuesNext s₀ (if c then a else b) := by
  split
  · exact h
  · exact k

theorem ContinuesSome.some {t : State} (h : Continues s₀ t) : ContinuesSome s₀ (some t) := by
  rintro _ ⟨⟩
  exact h

theorem ContinuesSome.none : ContinuesSome s₀ none := by rintro _ ⟨⟩

theorem ContinuesSome.ite {c : Prop} {inst : Decidable c} {a b : Option State} (h : ContinuesSome s₀ a) (k : ContinuesSome s₀ b) :
    ContinuesSome s₀ (if c then a else b) := by
  split
  · exact h
  · exact k

/-- A state or what stands in its place. -/
theorem ContinuesSome.getD {o : Option State} {t : State} (h : ContinuesSome s₀ o) (k : Continues s₀ t) : Continues s₀ (o.getD t) := by
  cases o with
  | none => exact k
  | some u => exact h rfl

theorem ContinuesOk.ok {t : State} (h : Continues s₀ t) : ContinuesOk s₀ (.ok t) := by
  rintro _ ⟨⟩
  exact h

theorem ContinuesOk.error {n : Nat} : ContinuesOk s₀ (.error n) := by rintro _ ⟨⟩

theorem ContinuesOk.ite {c : Prop} {inst : Decidable c} {a b : Except Nat State} (h : ContinuesOk s₀ a) (k : ContinuesOk s₀ b) :
    ContinuesOk s₀ (if c then a else b) := by
  split
  · exact h
  · exact k

theorem ContinuesOkFst.ok {β : Type} {x : State × β} (h : Continues s₀ x.1) : ContinuesOkFst s₀ (.ok x) := by
  rintro _ _ ⟨⟩
  exact h

theorem ContinuesOkFst.error {β : Type} {n : Nat} : ContinuesOkFst (β := β) s₀ (.error n) := by rintro _ _ ⟨⟩

theorem ContinuesOkFst.ite {β : Type} {c : Prop} {inst : Decidable c} {a b : Except Nat (State × β)} (h : ContinuesOkFst s₀ a)
    (k : ContinuesOkFst s₀ b) : ContinuesOkFst s₀ (if c then a else b) := by
  split
  · exact h
  · exact k

/-! Ops. The named operations over registers, memories and the clock that every meaning is built from. -/

theorem Continues.setRegs {x : Tab Word} (h : Continues s₀ s) : Continues s₀ (s.setRegs x) := ⟨h.dev, h.pending, h.now, h.out⟩
theorem Continues.setSnap {x : Tab Word} (h : Continues s₀ s) : Continues s₀ (s.setSnap x) := ⟨h.dev, h.pending, h.now, h.out⟩
theorem Continues.setPins {x : Pins} (h : Continues s₀ s) : Continues s₀ (s.setPins x) := ⟨h.dev, h.pending, h.now, h.out⟩
theorem Continues.setCtl {x : Ctl} (h : Continues s₀ s) : Continues s₀ (s.setCtl x) := ⟨h.dev, h.pending, h.now, h.out⟩
theorem Continues.setBoot {x : BootState} (h : Continues s₀ s) : Continues s₀ (s.setBoot x) := ⟨h.dev, h.pending, h.now, h.out⟩
theorem Continues.setPower {x : PowerState} (h : Continues s₀ s) : Continues s₀ (s.setPower x) := ⟨h.dev, h.pending, h.now, h.out⟩
theorem Continues.setFlt {x : FaultState} (h : Continues s₀ s) : Continues s₀ (s.setFlt x) := ⟨h.dev, h.pending, h.now, h.out⟩
theorem Continues.setMnt {x : Tab MntRes} (h : Continues s₀ s) : Continues s₀ (s.setMnt x) := ⟨h.dev, h.pending, h.now, h.out⟩
theorem Continues.setLife {x : LifeState} (h : Continues s₀ s) : Continues s₀ (s.setLife x) := ⟨h.dev, h.pending, h.now, h.out⟩
theorem Continues.setPcie {x : PcieState} (h : Continues s₀ s) : Continues s₀ (s.setPcie x) := ⟨h.dev, h.pending, h.now, h.out⟩
theorem Continues.setCard {x : CardState} (h : Continues s₀ s) : Continues s₀ (s.setCard x) := ⟨h.dev, h.pending, h.now, h.out⟩
theorem Continues.setDma {x : DmaState} (h : Continues s₀ s) : Continues s₀ (s.setDma x) := ⟨h.dev, h.pending, h.now, h.out⟩
theorem Continues.setPw {x : PwMbx} (h : Continues s₀ s) : Continues s₀ (s.setPw x) := ⟨h.dev, h.pending, h.now, h.out⟩
theorem Continues.setFlash {x : Tab Byte} (h : Continues s₀ s) : Continues s₀ (s.setFlash x) := ⟨h.dev, h.pending, h.now, h.out⟩
theorem Continues.setTwn {x : TwinState} (h : Continues s₀ s) : Continues s₀ (s.setTwn x) := ⟨h.dev, h.pending, h.now, h.out⟩
theorem Continues.setPtp {x : PtpState} (h : Continues s₀ s) : Continues s₀ (s.setPtp x) := ⟨h.dev, h.pending, h.now, h.out⟩
theorem Continues.setTmg {x : Tab Group} (h : Continues s₀ s) : Continues s₀ (s.setTmg x) := ⟨h.dev, h.pending, h.now, h.out⟩
theorem Continues.setSyn {x : SynthState} (h : Continues s₀ s) : Continues s₀ (s.setSyn x) := ⟨h.dev, h.pending, h.now, h.out⟩
theorem Continues.setCfg {x : ImageCfg} (h : Continues s₀ s) : Continues s₀ (s.setCfg x) := ⟨h.dev, h.pending, h.now, h.out⟩
theorem Continues.setXpt {x : XptState} (h : Continues s₀ s) : Continues s₀ (s.setXpt x) := ⟨h.dev, h.pending, h.now, h.out⟩
theorem Continues.setLan {x : Tab LaneRun} (h : Continues s₀ s) : Continues s₀ (s.setLan x) := ⟨h.dev, h.pending, h.now, h.out⟩
theorem Continues.setEyeSec {x : Nat} (h : Continues s₀ s) : Continues s₀ (s.setEyeSec x) := ⟨h.dev, h.pending, h.now, h.out⟩
theorem Continues.setSdis {x : Tab SdiRun} (h : Continues s₀ s) : Continues s₀ (s.setSdis x) := ⟨h.dev, h.pending, h.now, h.out⟩
theorem Continues.setStreams {x : Tab StreamRun} (h : Continues s₀ s) : Continues s₀ (s.setStreams x) := ⟨h.dev, h.pending, h.now, h.out⟩
theorem Continues.setFst {x : FstState} (h : Continues s₀ s) : Continues s₀ (s.setFst x) := ⟨h.dev, h.pending, h.now, h.out⟩
theorem Continues.setCmps {x : Tab CmpRun} (h : Continues s₀ s) : Continues s₀ (s.setCmps x) := ⟨h.dev, h.pending, h.now, h.out⟩
theorem Continues.setLin {x : LintelState} (h : Continues s₀ s) : Continues s₀ (s.setLin x) := ⟨h.dev, h.pending, h.now, h.out⟩
theorem Continues.setTables {x : Tab Byte} (h : Continues s₀ s) : Continues s₀ (s.setTables x) := ⟨h.dev, h.pending, h.now, h.out⟩
theorem Continues.setAud {x : AudState} (h : Continues s₀ s) : Continues s₀ (s.setAud x) := ⟨h.dev, h.pending, h.now, h.out⟩
theorem Continues.setMacs {x : Tab MacRun} (h : Continues s₀ s) : Continues s₀ (s.setMacs x) := ⟨h.dev, h.pending, h.now, h.out⟩
theorem Continues.setMed {x : MedState} (h : Continues s₀ s) : Continues s₀ (s.setMed x) := ⟨h.dev, h.pending, h.now, h.out⟩
theorem Continues.setWin {x : Tab SdiLine} (h : Continues s₀ s) : Continues s₀ (s.setWin x) := ⟨h.dev, h.pending, h.now, h.out⟩
theorem Continues.setRows {x : Tab (List Nat)} (h : Continues s₀ s) : Continues s₀ (s.setRows x) := ⟨h.dev, h.pending, h.now, h.out⟩
theorem Continues.setDrcs {x : DrcState} (h : Continues s₀ s) : Continues s₀ (s.setDrcs x) := ⟨h.dev, h.pending, h.now, h.out⟩
theorem Continues.setProt {x : Nat × Nat} (h : Continues s₀ s) : Continues s₀ (s.setProt x) := ⟨h.dev, h.pending, h.now, h.out⟩
theorem Continues.setFresh {x : Fresh} (h : Continues s₀ s) : Continues s₀ (s.setFresh x) := ⟨h.dev, h.pending, h.now, h.out⟩
theorem Continues.setDram {x : Tab Byte} (h : Continues s₀ s) : Continues s₀ (s.setDram x) := ⟨h.dev, h.pending, h.now, h.out⟩
theorem Continues.setTcm {x : Tab Byte} (h : Continues s₀ s) : Continues s₀ (s.setTcm x) := ⟨h.dev, h.pending, h.now, h.out⟩
theorem Continues.setFreeCtr {x : Nat} (h : Continues s₀ s) : Continues s₀ (s.setFreeCtr x) := ⟨h.dev, h.pending, h.now, h.out⟩
theorem Continues.wr {off : Nat} {w : Word} (h : Continues s₀ s) : Continues s₀ (s.wr off w) := h.setRegs
theorem Continues.wrFld {off hi lo v : Nat} (h : Continues s₀ s) : Continues s₀ (s.wrFld off hi lo v) := h.wr
theorem Continues.wrBit {off i : Nat} {b : Bool} (h : Continues s₀ s) : Continues s₀ (s.wrBit off i b) := h.wrFld
theorem Continues.noteFlags {off : Nat} {m : Word} (h : Continues s₀ s) : Continues s₀ (s.noteFlags off m) := h.setFresh
theorem Continues.noteCount {off v n : Nat} (h : Continues s₀ s) : Continues s₀ (s.noteCount off v n) := h.setFresh
theorem Continues.orReg {off : Nat} {m : Word} (h : Continues s₀ s) : Continues s₀ (s.orReg off m) := h.wr.noteFlags
theorem Continues.wr64 {lo hi v : Nat} (h : Continues s₀ s) : Continues s₀ (s.wr64 lo hi v) := h.wr.wr
theorem Continues.freeNext (h : Continues s₀ s) : Continues s₀ s.freeNext := h.setFreeCtr

theorem Continues.bumpBy {off n : Nat} (h : Continues s₀ s) : Continues s₀ (s.bumpBy off n) :=
  .ite h.wr.noteCount (.ite h h.freeNext.wr.noteCount)

theorem Continues.bump {off : Nat} (h : Continues s₀ s) : Continues s₀ (s.bump off) := h.bumpBy
theorem Continues.bump64 {lo hi n : Nat} (h : Continues s₀ s) : Continues s₀ (s.bump64 lo hi n) := h.wr64.noteCount
theorem Continues.satFld {off hi lo : Nat} (h : Continues s₀ s) : Continues s₀ (s.satFld off hi lo) := .ite h.wrFld h

/-- The clock never goes back (R364). -/
theorem Continues.at {t : Nat} (h : Continues s₀ s) : Continues s₀ (s.at t) := by
  refine ⟨?_, ?_, ?_, ?_⟩
  · rw [State.at_dev, h.dev]
  · rw [State.at_pending, h.pending]
  · rw [State.at_now]
    exact Nat.le_trans h.now (Nat.le_max_left _ _)
  · rw [State.at_out]
    exact h.out

theorem Continues.emit {o : Output} (h : Continues s₀ s) : Continues s₀ (s.emit o) :=
  ⟨h.dev, h.pending, h.now, h.out.trans (List.prefix_append _ _)⟩

theorem Continues.dramPut {a : Nat} {bs : List Byte} (h : Continues s₀ s) : Continues s₀ (s.dramPut a bs) := h.setDram
theorem Continues.tcmPut {a : Nat} {bs : List Byte} (h : Continues s₀ s) : Continues s₀ (s.tcmPut a bs) := h.setTcm
theorem Continues.flashPut {a : Nat} {bs : List Byte} (h : Continues s₀ s) : Continues s₀ (s.flashPut a bs) := h.setFlash
theorem Continues.flashErase {lo n : Nat} (h : Continues s₀ s) : Continues s₀ (s.flashErase lo n) := h.setFlash

/-! Flags. Event flags, the MSI-X vectors they drive. -/

theorem Continues.signal {v : Nat} (h : Continues s₀ s) : Continues s₀ (s.signal v) := .ite h (.ite h.wrBit h.emit)
theorem Continues.irqRise {old : State} {v : Nat} (h : Continues s₀ s) : Continues s₀ (State.irqRise old s v) := .ite h.signal h
theorem Continues.event {ev v : Nat} {m : Word} (h : Continues s₀ s) : Continues s₀ (s.event ev v m) := h.orReg.irqRise
theorem Continues.topEvent {i : Nat} (h : Continues s₀ s) : Continues s₀ (s.topEvent i) := h.event
theorem Continues.fltEvent {i : Nat} (h : Continues s₀ s) : Continues s₀ (s.fltEvent i) := h.event
theorem Continues.twnEvent {i : Nat} (h : Continues s₀ s) : Continues s₀ (s.twnEvent i) := h.event
theorem Continues.synEvent {i : Nat} (h : Continues s₀ s) : Continues s₀ (s.synEvent i) := h.event
theorem Continues.ptpEvent {i : Nat} (h : Continues s₀ s) : Continues s₀ (s.ptpEvent i) := h.event
theorem Continues.xptEvent {i : Nat} (h : Continues s₀ s) : Continues s₀ (s.xptEvent i) := h.event
theorem Continues.fstEvent {i : Nat} (h : Continues s₀ s) : Continues s₀ (s.fstEvent i) := h.event
theorem Continues.audEvent {i : Nat} (h : Continues s₀ s) : Continues s₀ (s.audEvent i) := h.event
theorem Continues.drcEvent {i : Nat} (h : Continues s₀ s) : Continues s₀ (s.drcEvent i) := h.event
theorem Continues.lifeEvent {i : Nat} (h : Continues s₀ s) : Continues s₀ (s.lifeEvent i) := h.event
theorem Continues.cptEvent {i : Nat} (h : Continues s₀ s) : Continues s₀ (s.cptEvent i) := h.event
theorem Continues.cmpEvent {c i : Nat} (h : Continues s₀ s) : Continues s₀ (s.cmpEvent c i) := h.event
theorem Continues.lanEvent {p i : Nat} (h : Continues s₀ s) : Continues s₀ (s.lanEvent p i) := h.event
theorem Continues.sdiEvent {p i : Nat} (h : Continues s₀ s) : Continues s₀ (s.sdiEvent p i) := h.event
theorem Continues.macEvent {p i : Nat} (h : Continues s₀ s) : Continues s₀ (s.macEvent p i) := h.event
theorem Continues.rxcEvent {n i : Nat} (h : Continues s₀ s) : Continues s₀ (s.rxcEvent n i) := h.event
theorem Continues.txcEvent {n i : Nat} (h : Continues s₀ s) : Continues s₀ (s.txcEvent n i) := h.event
theorem Continues.chanEvent {c : Nat} (h : Continues s₀ s) : Continues s₀ (s.chanEvent c) := h.event
theorem Continues.dmaEvent {i : Nat} (h : Continues s₀ s) : Continues s₀ (s.dmaEvent i) := h.event
theorem Continues.lintelRefused (h : Continues s₀ s) : Continues s₀ s.lintelRefused := h.bump.setLin.foldl fun _ _ h => h.cmpEvent
theorem Continues.raise {source kind addr cls : Nat} (h : Continues s₀ s) : Continues s₀ (s.raise source kind addr cls) := h.setFlt

/-! Link. The party wall's messages, fragments, wall blocks and lanes, as the sender forms them. -/

theorem Continues.deal {bs : List Block66} (h : Continues s₀ s) : Continues s₀ (s.deal bs) := .ite h h.setTwn
theorem Continues.rebond {locked : Nat} (h : Continues s₀ s) : Continues s₀ (s.rebond locked) := h.setTwn

theorem Continues.transmitWall {f : WallFrag} (h : Continues s₀ s) : Continues s₀ (s.transmitWall f) := by
  unfold State.transmitWall
  extract_lets
  split
  · exact h.setTwn.deal.emit
  · exact h.setTwn.deal

theorem Continues.drainWall {n : Nat} (h : Continues s₀ s) : Continues s₀ (s.drainWall n) := by
  induction n generalizing s with
  | zero => exact h
  | succ n ih =>
    unfold State.drainWall
    split
    · exact h
    · exact .ite (ih h.setTwn.transmitWall) h

theorem Continues.handFrag {f : WallFrag} (h : Continues s₀ s) : Continues s₀ (s.handFrag f) := h.setTwn.drainWall
theorem Continues.sendWall {m : WallMsg} (h : Continues s₀ s) : Continues s₀ (s.sendWall m) := h.setTwn.foldl fun _ _ h => h.handFrag

/-! Modes. Mode and role changes, the fall of the key, entry to SAFE. -/

theorem Continues.setMode {m : Mode} (h : Continues s₀ s) : Continues s₀ (s.setMode m) := .ite h h.setCtl.topEvent
theorem Continues.setRole {r : Role} (h : Continues s₀ s) : Continues s₀ (s.setRole r) := .ite h h.setCtl.topEvent

theorem Continues.keyLow (h : Continues s₀ s) : Continues s₀ s.keyLow :=
  have h1 := h.setTwn
  .ite h1.setPins.twnEvent h1

theorem Continues.dropValidation (h : Continues s₀ s) : Continues s₀ s.dropValidation := .ite h.setXpt h

theorem Continues.giveUp {reason : Nat} (h : Continues s₀ s) : Continues s₀ (s.giveUp reason) :=
  have h2 := h.keyLow.dropValidation.setTwn
  .ite h2.sendWall h2

theorem Continues.endClosing (h : Continues s₀ s) : Continues s₀ s.endClosing := h.setTwn
theorem Continues.aliveStop (h : Continues s₀ s) : Continues s₀ s.aliveStop := h.setFlt
theorem Continues.lanesIdle (h : Continues s₀ s) : Continues s₀ s.lanesIdle := h.setRegs
theorem Continues.darken (h : Continues s₀ s) : Continues s₀ s.darken := h.setTwn.lanesIdle
theorem Continues.cancelHandover (h : Continues s₀ s) : Continues s₀ s.cancelHandover := .ite h h.setTwn
theorem Continues.startReaping {c : ReapCause} (h : Continues s₀ s) : Continues s₀ (s.startReaping c) := h.setPower
theorem Continues.setRes {r : Nat} {x : MntRes} (h : Continues s₀ s) : Continues s₀ (s.setRes r x) := h.setMnt
theorem Continues.setLane {i : Nat} {x : LaneRun} (h : Continues s₀ s) : Continues s₀ (s.setLane i x) := h.setLan

theorem Continues.activityStarts {a : Activity} (h : Continues s₀ s) : Continues s₀ (s.activityStarts a) :=
  have h1 := h.wrFld.setLane
  .ite (.ite h1.rebond h1) (.ite h.setLife (.ite h.setDrcs (.ite (.ite h h.wrFld) h)))

theorem Continues.givesWay {b a : Activity} (h : Continues s₀ s) : ContinuesSome s₀ (s.givesWay b a) :=
  .ite .none (.ite (.some h.wrFld) (.ite (.some h.wrFld) (.some h)))

theorem Continues.mntRequest {r : Nat} {a : Activity} (h : Continues s₀ s) : Continues s₀ (s.mntRequest r a).1 := by
  unfold State.mntRequest
  extract_lets
  split
  · exact h.setRes.activityStarts
  · refine .iteFst h ?_
    split
    · next e => exact ((ContinuesSome.ite h.givesWay .none) e).setRes.activityStarts
    · exact .iteFst h.setRes h.setRes

theorem Continues.mntDone {r : Nat} (h : Continues s₀ s) : Continues s₀ (s.mntDone r) := by
  unfold State.mntDone
  extract_lets
  split
  · exact h.setRes.activityStarts
  · exact h.setRes

theorem Continues.mntWithdraw {r : Nat} {a : Activity} (h : Continues s₀ s) : Continues s₀ (s.mntWithdraw r a) := h.setRes
theorem Continues.queueDir (h : Continues s₀ s) : Continues s₀ s.queueDir := .ite h h.setBoot.mntRequest
theorem Continues.repairDir (h : Continues s₀ s) : Continues s₀ s.repairDir := .ite h.setBoot.queueDir h

theorem Continues.takeBackEntry (h : Continues s₀ s) : Continues s₀ s.takeBackEntry := by
  unfold State.takeBackEntry
  split
  · exact .ite h.setCtl.wr.setBoot.setRes h
  · exact h

theorem Continues.enterSafe {cause kind source : Nat} (h : Continues s₀ s) : Continues s₀ (s.enterSafe cause kind source) := by
  unfold State.enterSafe
  extract_lets sEntry _ sFault sKeyLow _ sDisarmed sSafe sDark _ sIdle
  have hEntry : Continues s₀ sEntry := .ite h.takeBackEntry h
  have hFault : Continues s₀ sFault := hEntry.setFlt
  have hKeyLow : Continues s₀ sKeyLow := .ite hFault.giveUp hFault.keyLow
  have hSafe : Continues s₀ sSafe := hKeyLow.setFlt.endClosing.cancelHandover.aliveStop.setMode.wr
  have hDark : Continues s₀ sDark := hSafe.darken.repairDir
  have hIdle : Continues s₀ sIdle := .ite hDark.setBoot hDark
  refine .ite hFault ?_
  split
  · exact hIdle.startReaping
  · exact hIdle.startReaping
  · exact .ite hIdle.startReaping.setPower hIdle
  · exact hIdle

theorem Continues.reapForReset {c : ReapCause} (h : Continues s₀ s) : Continues s₀ (s.reapForReset c) := by
  unfold State.reapForReset
  extract_lets s1
  have h1 : Continues s₀ s1 := h.aliveStop.keyLow.endClosing.cancelHandover.darken
  split
  · exact .ite h1.startReaping.setPower h1
  · exact h1.startReaping.setPower

theorem Continues.noteLocal {key : Nat} (h : Continues s₀ s) : Continues s₀ (s.noteLocal key) := h.setTwn

/-! Bus. The internal address map and the accesses to its memories. -/

theorem Continues.unmapped (h : Continues s₀ s) : Continues s₀ s.unmapped := h.bump.drcEvent
theorem Continues.winRead {w n : Nat} (h : Continues s₀ s) : Continues s₀ (s.winRead w n).1 := .iteFst h h.unmapped

theorem Continues.winWrite {w : Nat} {bs : List Byte} (h : Continues s₀ s) : Continues s₀ (s.winWrite w bs) :=
  .ite h.lintelRefused (.ite h.dramPut h.unmapped)

theorem Continues.pwPut {off : Nat} {b : Byte} (h : Continues s₀ s) : Continues s₀ (s.pwPut off b) := .ite h.setPw h

theorem Continues.pwPuts {off : Nat} {bs : List Byte} (h : Continues s₀ s) : Continues s₀ (s.pwPuts off bs) := by
  induction bs generalizing s off with
  | nil => exact h
  | cons b bs ih => exact ih h.pwPut

theorem Continues.hostWrite {h' : Nat} {bs : List Byte} (h : Continues s₀ s) : Continues s₀ (s.hostWrite h' bs) :=
  h.foldl fun _ _ h => h.emit

theorem Continues.memRead {c a n : Nat} {host : List Byte} (h : Continues s₀ s) : ContinuesOkFst s₀ (s.memRead c a n host) := by
  unfold State.memRead
  split
  · exact .error
  · refine .ite .error ?_
    split
    · exact .ok h
    · exact .ok h
    · exact .ok h
    · exact .ok h.winRead
    · exact .ite (.ok h) .error
    · exact .error

theorem Continues.memWrite {c a : Nat} {bs : List Byte} (h : Continues s₀ s) : ContinuesOk s₀ (s.memWrite c a bs) := by
  unfold State.memWrite
  split
  · exact .error
  · refine .ite .error ?_
    split
    · exact .ok h.tcmPut
    · exact .ok h.pwPuts
    · exact .ok h.winWrite
    · exact .ite (.ok h.hostWrite) .error
    · exact .error

/-! Dma. The DMA channels' states, KICK, request lines, bus errors and their release. -/

theorem Continues.setChan {c : Nat} {x : Chan} (h : Continues s₀ s) : Continues s₀ (s.setChan c x) := h.setDma
theorem Continues.takeRequest {r : Nat} (h : Continues s₀ s) : Continues s₀ (s.takeRequest r) := h.setDma
theorem Continues.issue {c : Nat} {host : Bool} (h : Continues s₀ s) : Continues s₀ (s.issue c host) := h.setCard

theorem Continues.advance {c : Nat} (h : Continues s₀ s) : Continues s₀ (s.advance c) :=
  .ite h.setChan.issue (.ite (.ite h.takeRequest.setChan.issue h.setChan.issue) h.setChan.issue)

theorem Continues.fetchDesc {c : Nat} {reread : Bool} (h : Continues s₀ s) : Continues s₀ (s.fetchDesc c reread) := h.setChan.issue

theorem Continues.stopChans {c n : Nat} (h : Continues s₀ s) : Continues s₀ (s.stopChans c n) := by
  induction n with
  | zero => exact h
  | succ n ih => exact ih.setChan

theorem Continues.writeBack {c err : Nat} {done : Bool} (h : Continues s₀ s) : ContinuesOk s₀ (s.writeBack c err done) := h.memWrite
theorem Continues.chanEventAll (h : Continues s₀ s) : Continues s₀ s.chanEventAll := h.orReg.foldl fun _ _ h => h.irqRise

theorem Continues.busError {c code addr : Nat} (h : Continues s₀ s) : Continues s₀ (s.busError c code addr) := by
  unfold State.busError
  extract_lets x s1 _ s2
  have h2 : Continues s₀ s2 := by
    refine .setChan (.ite ?_ h)
    split
    · next e => exact h.writeBack e
    · exact h
  exact (Continues.ite h2.stopChans.chanEventAll h2).wr.wr64.setCard.dmaEvent.raise

theorem Continues.releaseChans {n : Nat} (h : Continues s₀ s) : Continues s₀ (s.releaseChans n) := by
  induction n with
  | zero => exact h
  | succ n ih => exact ih.setChan

theorem Continues.clearErr (h : Continues s₀ s) : Continues s₀ s.clearErr := h.releaseChans.wrBit

theorem Continues.dropChans {n : Nat} (h : Continues s₀ s) : Continues s₀ (s.dropChans n) := by
  induction n with
  | zero => exact h
  | succ n ih => exact .ite ih.setChan ih.freeNext.setChan

theorem Continues.dmaDisable (h : Continues s₀ s) : Continues s₀ s.dmaDisable := h.dropChans.wrBit.setCard.dmaEvent

theorem Continues.kick {c : Nat} (h : Continues s₀ s) : Continues s₀ (s.kick c) := by
  refine .ite h ?_
  split
  · exact h.fetchDesc
  · exact h.setChan
  · exact .ite h.setChan h.fetchDesc
  · exact h
  · split
    · exact h.fetchDesc
    · exact h.setChan.advance

theorem Continues.execKick {t c : Nat} {fromCard : Bool} (h : Continues s₀ s) : ContinuesNext s₀ (execKick t c fromCard s) :=
  have hs := h.at
  .ite (.next hs) (.ite (.next hs.bump.cptEvent) (.next hs.kick))

theorem Continues.takeDesc {c : Nat} {bs : List Byte} (h : Continues s₀ s) : Continues s₀ (s.takeDesc c bs) := h.setChan.advance
theorem Continues.followLink {c link : Nat} (h : Continues s₀ s) : Continues s₀ (s.followLink c link) := h.wr64.fetchDesc

theorem Continues.execDescriptorFetched {t c err : Nat} {host : List Byte} (h : Continues s₀ s) :
    ContinuesNext s₀ (execDescriptorFetched t c err host s) := by
  have hs : Continues s₀ (s.at t) := h.at
  refine .ite (.next hs) ?_
  split
  · refine .ite (.next hs) (.ite (.next hs.busError) ?_)
    split
    · exact .next hs.busError
    · next e =>
      extract_lets s2
      have h2 : Continues s₀ s2 := (hs.memRead e).issue
      exact .ite (.ite (.ite (.next h2.fetchDesc) (.next h2.setChan)) (.ite (.next h2.followLink) (.next h2.setChan.busError)))
        (.ite (.next h2.takeDesc) (.next h2.setChan.busError))
  · exact .next hs

theorem Continues.execDescriptorComplete {t c : Nat} (h : Continues s₀ s) : ContinuesNext s₀ (execDescriptorComplete t c s) := by
  have hs : Continues s₀ (s.at t) := h.at
  refine .ite (.next hs) ?_
  split
  · exact .next hs.busError
  · next e =>
    extract_lets s2 s3
    have h3 : Continues s₀ s3 := .ite ((ContinuesOk.ite hs.writeBack (.ok hs)) e).bump.chanEvent
      ((ContinuesOk.ite hs.writeBack (.ok hs)) e).bump
    exact .ite (.ite (.next h3.fetchDesc) (.next h3.setChan)) (.next h3.followLink.setChan)

theorem Continues.execDmaRequest {t r : Nat} (h : Continues s₀ s) : ContinuesNext s₀ (execDmaRequest t r s) := by
  have hs : Continues s₀ (s.at t) := h.at
  refine .ite (.next hs) ?_
  split
  · exact .next (Continues.ite hs hs.setDma).advance
  · exact .next (.ite hs hs.setDma)

theorem Continues.execBusError {t c code addr : Nat} (h : Continues s₀ s) : ContinuesNext s₀ (execBusError t c code addr s) :=
  have hs := h.at
  .ite (.next hs.busError) (.next hs)

theorem Continues.execCompletionTimeout {t c : Nat} (h : Continues s₀ s) : ContinuesNext s₀ (execCompletionTimeout t c s) := by
  have hs : Continues s₀ (s.at t) := h.at
  unfold Machine.execCompletionTimeout
  extract_lets
  split
  · exact .ite (.next hs.bump.cptEvent.busError) (.next hs)
  · exact .next hs

theorem Continues.execClearErr {t : Nat} (h : Continues s₀ s) : ContinuesNext s₀ (execClearErr t s) := .next h.at.clearErr
theorem Continues.execDmaDisable {t : Nat} (h : Continues s₀ s) : ContinuesNext s₀ (execDmaDisable t s) := .next h.at.dmaDisable

theorem Continues.captureRead {n : Nat} (h : Continues s₀ s) : Continues s₀ (s.captureRead n).1 := by
  unfold State.captureRead
  split
  · exact h
  · exact h.setDma

theorem Continues.execCaptureRead {t n : Nat} (h : Continues s₀ s) : ContinuesNext s₀ (execCaptureRead t n s) :=
  have hs := h.at
  .ite (.next hs) (.next hs.captureRead.emit)

/-! Card. The card port. -/

theorem Continues.cardReset (h : Continues s₀ s) : Continues s₀ s.cardReset := h.setPcie.setRegs

theorem Continues.failOutbound (h : Continues s₀ s) : Continues s₀ s.failOutbound := by
  unfold State.failOutbound
  split
  · exact h.busError
  · exact h

theorem Continues.cardLinkDown (h : Continues s₀ s) : Continues s₀ s.cardLinkDown :=
  .ite h.cardReset.setPcie.failOutbound.bump.cptEvent.raise h

theorem Continues.execCardPortLinkDown {t : Nat} (h : Continues s₀ s) : ContinuesNext s₀ (execCardPortLinkDown t s) :=
  .next h.at.cardLinkDown

theorem Continues.execCardPortReset {t : Nat} {hot : Bool} (h : Continues s₀ s) : ContinuesNext s₀ (execCardPortReset t hot s) :=
  have hs := h.at
  .ite (.next hs.cardReset.failOutbound) (.next hs.cardLinkDown.cardReset)

theorem Continues.execCardPortLinkUp {t speed width : Nat} (h : Continues s₀ s) : ContinuesNext s₀ (execCardPortLinkUp t speed width s) :=
  have hs := h.at
  .ite (.next hs) (.next hs.setPcie.cptEvent)

theorem Continues.unmasked {v : Nat} (h : Continues s₀ s) : Continues s₀ (s.unmasked v) :=
  have h1 := h.wrBit
  .ite (.ite h1.signal h1) h

theorem Continues.execMsixUnmask {t v : Nat} (h : Continues s₀ s) : ContinuesNext s₀ (execMsixUnmask t v s) :=
  have hs := h.at
  .ite (.next hs) (.next hs.wrBit.unmasked)

theorem Continues.execPcieConfigurationRequest {t : Nat} {q : CfgReq} (h : Continues s₀ s) :
    ContinuesNext s₀ (execPcieConfigurationRequest t q s) := by
  have hs : Continues s₀ (s.at t) := h.at
  refine .ite (.next hs) ?_
  split
  · exact .next hs.setPcie
  · exact .next hs.setPcie
  · exact .next hs.setPcie
  · exact .next (hs.setPcie.foldl fun _ _ h => h.unmasked)
  · exact .next hs.setPcie

theorem Continues.mbxOverrun (h : Continues s₀ s) : Continues s₀ s.mbxOverrun := h.bump.cptEvent

theorem Continues.mbxGo {length : Nat} (h : Continues s₀ s) : Continues s₀ (s.mbxGo length) := by
  refine .ite h.mbxOverrun ?_
  extract_lets _ s1 _ s2
  have h2 : Continues s₀ s2 := h.wr.setCard.setDma
  split
  · exact h2.advance
  · exact h2

theorem Continues.execMbxGo {t length : Nat} (h : Continues s₀ s) : ContinuesNext s₀ (execMbxGo t length s) := .next h.at.mbxGo
theorem Continues.mbxInWrite {k : Nat} {w : Word} (h : Continues s₀ s) : Continues s₀ (s.mbxInWrite k w) := .ite h.mbxOverrun h.setCard

theorem Continues.mbxReply {bytes : List Byte} (h : Continues s₀ s) : Continues s₀ (s.mbxReply bytes) :=
  .ite h.setCard.cptEvent (.ite h.setCard h.bump)

theorem Continues.mbxRelease (h : Continues s₀ s) : Continues s₀ s.mbxRelease := by
  refine .ite h ?_
  split
  · exact h.setCard.cptEvent
  · exact h.setCard

theorem Continues.execMbxOutRelease {t : Nat} (h : Continues s₀ s) : ContinuesNext s₀ (execMbxOutRelease t s) := .next h.at.mbxRelease
theorem Continues.bar2Outside (h : Continues s₀ s) : Continues s₀ s.bar2Outside := h.bump.cptEvent

theorem Continues.execBar2Access {t x n : Nat} {write : Bool} {data : List Byte} (h : Continues s₀ s) :
    ContinuesNext s₀ (execBar2Access t x n write data s) :=
  have hs := h.at
  .ite (.next hs) (.ite (.ite (.next hs.winWrite) (.next (.ite hs.bar2Outside hs.winWrite.bar2Outside)))
    (.ite (.next hs.winRead.emit) (.next (Continues.iteFst hs hs.winRead).bar2Outside.emit)))

/-! Fault. The fault collector. -/

theorem Continues.enqueue {r : FaultRec} (h : Continues s₀ s) : Continues s₀ (s.enqueue r).1 := by
  unfold State.enqueue
  split
  · exact h.setFlt
  · exact .iteFst h.setFlt.fltEvent h.setFlt.bump.fltEvent

theorem Continues.openRec {o : OpenRec} (h : Continues s₀ s) : Continues s₀ (s.openRec o) := h.setFlt.orReg

theorem Continues.countRec {m : FaultMsg} {cls : Nat} (h : Continues s₀ s) : Continues s₀ (s.countRec m cls) :=
  h.bump.setFlt.setTwn.setLife

theorem Continues.reopen {m : FaultMsg} (h : Continues s₀ s) : Continues s₀ (s.reopen m) := h.setFlt.foldl fun _ _ h => .ite h h.openRec

theorem Continues.react {m : FaultMsg} {cls : Nat} (h : Continues s₀ s) : Continues s₀ (s.react m cls) :=
  .ite h.fltEvent (.ite h.enterSafe h)

theorem Continues.setLastSevere {r : FaultRec} (h : Continues s₀ s) : Continues s₀ (s.setLastSevere r) := h.wr.wr.wr.wr

theorem Continues.accept {m : FaultMsg} (h : Continues s₀ s) : Continues s₀ (s.accept m) :=
  have h1 := h.reopen.countRec
  have h3 := (Continues.ite h1.openRec h1).react
  have hQ := (Continues.ite h3.fltEvent h3).enqueue
  have h5 := hQ.setLastSevere
  .ite (.ite h5.setFlt h5) hQ

theorem Continues.execFaultAccepted {t : Nat} (h : Continues s₀ s) : ContinuesNext s₀ (execFaultAccepted t s) := by
  have hs : Continues s₀ (s.at t) := h.at
  unfold Machine.execFaultAccepted
  extract_lets
  split
  · exact .ite (.next hs.setFlt.accept) (.next hs)
  · exact .next hs

theorem Continues.popRecord (h : Continues s₀ s) : Continues s₀ (s.popRecord).1 := by
  unfold State.popRecord
  split
  · exact h.setFlt
  · exact h

theorem Continues.execFaultRecordRemove {t : Nat} (h : Continues s₀ s) : ContinuesNext s₀ (execFaultRecordRemove t s) :=
  .next h.at.popRecord.emit

theorem Continues.ackBy {hold : Bool} {p : OpenRec → Bool} (h : Continues s₀ s) : Continues s₀ (s.ackBy hold p) :=
  h.setFlt.foldl fun _ _ h => .ite h h.wrBit

theorem Continues.ack {p : OpenRec → Bool} (h : Continues s₀ s) : Continues s₀ (s.ack p) := h.ackBy

theorem Continues.execFltAck {t unit classes : Nat} (h : Continues s₀ s) : ContinuesNext s₀ (execFltAck t unit classes s) :=
  .next h.at.ack

theorem Continues.execFltOpenClear {t x mask : Nat} (h : Continues s₀ s) : ContinuesNext s₀ (execFltOpenClear t x mask s) :=
  .next h.at.ack

theorem Continues.execHoldExpiry {t : Nat} (h : Continues s₀ s) : ContinuesNext s₀ (execHoldExpiry t s) := .next h.at.ackBy
theorem Continues.leaveBoot (h : Continues s₀ s) : Continues s₀ s.leaveBoot := h.setFlt.setPins
theorem Continues.enterBoot (h : Continues s₀ s) : Continues s₀ s.enterBoot := h.setFlt.setPins
theorem Continues.fltKick (h : Continues s₀ s) : Continues s₀ s.fltKick := h.setFlt
theorem Continues.execFltKick {t : Nat} (h : Continues s₀ s) : ContinuesNext s₀ (execFltKick t s) := .next h.at.fltKick

theorem Continues.execWatchdogExpiry {t pc : Nat} (h : Continues s₀ s) : ContinuesNext s₀ (execWatchdogExpiry t pc s) :=
  have hs := h.at
  .ite (.next hs.setFlt.aliveStop.keyLow.raise) (.next hs)

theorem Continues.execAliveEdge {t : Nat} (h : Continues s₀ s) : ContinuesNext s₀ (execAliveEdge t s) :=
  have hs := h.at
  .ite (.next hs.setFlt.setPins) (.next hs)

theorem Continues.readDiode {d : Nat} {temp : Int} (h : Continues s₀ s) : Continues s₀ (s.readDiode d temp) :=
  have h1 := h.setFlt.wr
  have h2 := Continues.ite h1.raise h1
  .ite h2.raise h2

theorem Continues.readDiodes {d : Nat} {xs : List Int} (h : Continues s₀ s) : Continues s₀ (s.readDiodes d xs) := by
  induction xs generalizing s d with
  | nil => exact h
  | cons x xs ih => exact .ite (ih h.readDiode) h

theorem Continues.countSeconds {hot : Int} (h : Continues s₀ s) : Continues s₀ (s.countSeconds hot) :=
  have h2 := h.setLife.bump64
  .ite h (Continues.ite h2.bump64 h2).wr64.bump64

theorem Continues.execThermalRead {t : Nat} {temps : List Int} (h : Continues s₀ s) : ContinuesNext s₀ (execThermalRead t temps s) := by
  have hs : Continues s₀ (s.at t) := h.at
  unfold Machine.execThermalRead
  extract_lets
  split
  · exact .next hs
  · exact .next hs.readDiodes.countSeconds

theorem Continues.execMaintenanceRequest {t r code unit : Nat} (h : Continues s₀ s) :
    ContinuesNext s₀ (execMaintenanceRequest t r code unit s) :=
  have hs := h.at
  .ite (.next hs.mntRequest) (.next hs)

theorem Continues.execMaintenanceDone {t r : Nat} (h : Continues s₀ s) : ContinuesNext s₀ (execMaintenanceDone t r s) := by
  have hs : Continues s₀ (s.at t) := h.at
  unfold Machine.execMaintenanceDone
  extract_lets
  split
  · exact .ite (.next hs) (.ite (.next hs.wrFld.lanEvent.mntDone) (.next hs.mntDone))
  · exact .next hs

/-! Timing. Timing groups, reference candidates, their selection, frame counts and headland instants. -/

theorem Continues.setGrp {g : Nat} {x : Group} (h : Continues s₀ s) : Continues s₀ (s.setGrp g x) := h.setTmg

theorem Continues.tgSticky {g m : Nat} (h : Continues s₀ s) : Continues s₀ (s.tgSticky g m) :=
  have h1 := h.orReg
  .ite h (.ite h1 h1.event)

theorem Continues.updGrp {g : Nat} {x : Group} (h : Continues s₀ s) : Continues s₀ (s.updGrp g x) := h.setGrp.tgSticky
theorem Continues.reselect {g : Nat} {x : Group} (h : Continues s₀ s) : Continues s₀ (s.reselect g x) := h.freeNext.updGrp
theorem Continues.moveCands {g : Nat} {word : Word} (h : Continues s₀ s) : Continues s₀ (s.moveCands g word) := h.wr.setGrp
theorem Continues.reorderCands {g : Nat} {word : Word} (h : Continues s₀ s) : Continues s₀ (s.reorderCands g word) := h.moveCands.reselect

theorem Continues.timingNow {g : Nat} (h : Continues s₀ s) : Continues s₀ (s.timingNow g) :=
  .ite (h.foldl fun _ _ h => .ite h.wrFld (.ite h.moveCands h)) h

theorem Continues.glStatus {g k : Nat} (h : Continues s₀ s) : Continues s₀ (s.glStatus g k) := by
  unfold State.glStatus
  extract_lets
  split
  · exact h.wr
  · exact h.wr
  · exact h

theorem Continues.candFault {g k0 cause : Nat} {lost gone : Bool} (h : Continues s₀ s) :
    Continues s₀ (s.candFault g k0 cause lost gone) :=
  have hs := h.setGrp.timingNow
  .ite h (.ite (.tgSticky (hs.reselect.foldl fun _ _ h => h.glStatus)) (hs.reselect.foldl fun _ _ h => h.glStatus))

theorem Continues.ptpGlitch (h : Continues s₀ s) : Continues s₀ s.ptpGlitch :=
  h.foldl fun _ _ h => h.foldl fun _ _ h => .ite h.candFault h

theorem Continues.execCandidateMeasure {t g k0 : Nat} {offset mark : Int} (h : Continues s₀ s) :
    ContinuesNext s₀ (execCandidateMeasure t g k0 offset mark s) :=
  have h1 := h.at
  .ite (.next h1) (.next h1.timingNow.reselect.glStatus)

theorem Continues.execCandidateQualified {t g k : Nat} (h : Continues s₀ s) : ContinuesNext s₀ (execCandidateQualified t g k s) :=
  have hs := h.at
  .ite (.next hs.reselect.glStatus) (.next hs)

theorem Continues.execCandidateLoss {t g k : Nat} (h : Continues s₀ s) : ContinuesNext s₀ (execCandidateLoss t g k s) :=
  .next h.at.candFault

theorem Continues.execCandidateGlitch {t g k : Nat} (h : Continues s₀ s) : ContinuesNext s₀ (execCandidateGlitch t g k s) :=
  .next h.at.candFault

theorem Continues.execCandidateRateChange {t g k : Nat} (h : Continues s₀ s) : ContinuesNext s₀ (execCandidateRateChange t g k s) :=
  .next h.at.candFault

theorem Continues.execCandidateReturn {t g k : Nat} (h : Continues s₀ s) : ContinuesNext s₀ (execCandidateReturn t g k s) :=
  have hs := h.at
  .ite (.next hs.updGrp.glStatus) (.next hs)

theorem Continues.acquire {g : Nat} {k : Option Nat} {target : Nat} (h : Continues s₀ s) : Continues s₀ (s.acquire g k target) := h.updGrp
theorem Continues.startFree (h : Continues s₀ s) : Continues s₀ s.startFree := h.foldl fun _ _ h => .ite h.acquire h

theorem Continues.execGroupAcquire {t g target : Nat} (h : Continues s₀ s) : ContinuesNext s₀ (execGroupAcquire t g target s) := by
  have hs : Continues s₀ (s.at t) := h.at
  refine .ite (.next hs) ?_
  split
  · exact .next hs
  · exact .next hs.acquire

theorem Continues.execDpllLocked {t g : Nat} {mark : Int} (h : Continues s₀ s) : ContinuesNext s₀ (execDpllLocked t g mark s) :=
  have hs := h.at
  .ite (.next hs.freeNext.updGrp) (.next hs)

theorem Continues.execDpllLeavesLocked {t g : Nat} {mark : Int} (h : Continues s₀ s) :
    ContinuesNext s₀ (execDpllLeavesLocked t g mark s) :=
  have hs := h.at
  .ite (.next hs.freeNext.updGrp) (.next hs)

theorem Continues.lightGroup {g : Nat} (h : Continues s₀ s) : Continues s₀ (s.lightGroup g) := h.setTwn

theorem Continues.execFrameOutPulse {t g : Nat} (h : Continues s₀ s) : ContinuesNext s₀ (execFrameOutPulse t g s) :=
  have hs := h.at
  .ite (.next hs.emit) (.next hs)

theorem Continues.realign {mask : Nat} (h : Continues s₀ s) : Continues s₀ (s.realign mask) := h.foldl fun _ _ h => .ite h.setGrp h

theorem Continues.execTgRealign {t confirm mask : Nat} (h : Continues s₀ s) : ContinuesNext s₀ (execTgRealign t confirm mask s) :=
  have hs := h.at
  .ite (.next hs.realign) (.next hs)

theorem Continues.foApply {g : Nat} (h : Continues s₀ s) : Continues s₀ (s.foApply g) := h.wr
theorem Continues.foLoad (h : Continues s₀ s) : Continues s₀ s.foLoad := h.foldl fun _ _ h => .ite h.foApply h

theorem Continues.execRealignApply {t g : Nat} (h : Continues s₀ s) : ContinuesNext s₀ (execRealignApply t g s) := by
  have hs : Continues s₀ (s.at t) := h.at
  unfold Machine.execRealignApply
  extract_lets
  split
  · exact .next hs
  · exact .ite (.next hs.setGrp.foApply) (.next hs)

/-! Source. What feeds what. -/

theorem Continues.setStream {i : Nat} {x : StreamRun} (h : Continues s₀ s) : Continues s₀ (s.setStream i x) := h.setStreams
theorem Continues.setAudIn {i : Nat} {x : AudIn} (h : Continues s₀ s) : Continues s₀ (s.setAudIn i x) := h.setAud

theorem Continues.windowLost {d frame line : Nat} (h : Continues s₀ s) : Continues s₀ (s.windowLost d frame line) :=
  .ite h h.setXpt.xptEvent.bump.raise

theorem Continues.tellWindow {d frame value : Nat} (h : Continues s₀ s) : Continues s₀ (s.tellWindow d frame value) := .ite h.sendWall h

theorem Continues.endBlack {d frame line : Nat} (h : Continues s₀ s) : Continues s₀ (s.endBlack d frame line) := by
  unfold State.endBlack
  split <;> exact h.setXpt

theorem Continues.leaveWindow {d frame line : Nat} (h : Continues s₀ s) : Continues s₀ (s.leaveWindow d frame line) :=
  .ite h h.windowLost.tellWindow

theorem Continues.sourceLost {src : Nat} (h : Continues s₀ s) : Continues s₀ (s.sourceLost src) := by
  unfold State.sourceLost
  split
  · exact h
  · exact .ite h.setStream (h.setXpt.foldl fun _ _ h => h.leaveWindow)

theorem Continues.sourceReady {src : Nat} (h : Continues s₀ s) : Continues s₀ (s.sourceReady src) := by
  unfold State.sourceReady
  split
  · exact h
  · exact .ite h.setStream h

theorem Continues.inputLost {x : Input} (h : Continues s₀ s) : Continues s₀ (s.inputLost x) := h.foldl fun _ _ h => h.sourceLost
theorem Continues.inputReady {x : Input} (h : Continues s₀ s) : Continues s₀ (s.inputReady x) := h.foldl fun _ _ h => h.sourceReady
theorem Continues.setPort {p : Nat} {x : PortRun} (h : Continues s₀ s) : Continues s₀ (s.setPort p x) := h.setAud

theorem Continues.pushAudio {i c : Nat} {v : Samp} (h : Continues s₀ s) : Continues s₀ (s.pushAudio i c v) :=
  (Continues.ite h.setAudIn h).foldl fun _ _ h => h.setPort

theorem Continues.audioLost {i : Nat} (h : Continues s₀ s) : Continues s₀ (s.audioLost i) := .ite h h.noteLocal.setAudIn
theorem Continues.audioBack {i : Nat} (h : Continues s₀ s) : Continues s₀ (s.audioBack i) := .ite h.noteLocal.setAudIn h

/-! Lane. Serial lanes. -/

theorem Continues.setPstate {i p : Nat} (h : Continues s₀ s) : Continues s₀ (s.setPstate i p) := h.wrFld
theorem Continues.holdCodes {i : Nat} (h : Continues s₀ s) : Continues s₀ (s.holdCodes i) := .ite h.freeNext.wrFld.wrFld h

theorem Continues.execLos {t lane : Nat} {signal : Bool} (h : Continues s₀ s) : ContinuesNext s₀ (execLos t lane signal s) :=
  have hs := h.at
  .ite (.next hs.holdCodes.wrBit.wrBit.bump.lanEvent) (.next hs)

theorem Continues.execSignalDetect {t lane : Nat} (h : Continues s₀ s) : ContinuesNext s₀ (execSignalDetect t lane s) :=
  have hs := h.at
  .ite (.next hs.wrBit) (.next hs)

theorem Continues.execRxLocked {t lane : Nat} {ppm : Int} (h : Continues s₀ s) : ContinuesNext s₀ (execRxLocked t lane ppm s) :=
  have hs := h.at
  have h1 := hs.wrFld
  .ite (.ite (.next h1) (.next h1.wrBit.lanEvent)) (.next hs)

theorem Continues.queueMove {i w : Nat} (h : Continues s₀ s) : Continues s₀ (s.queueMove i w) :=
  have h1 := h.setLane
  .ite h1 h1.setPower

theorem Continues.cancelMove {i : Nat} (h : Continues s₀ s) : Continues s₀ (s.cancelMove i) :=
  have h1 := h.setLane
  .ite h1 h1.setPower

theorem Continues.powerTo {i w : Nat} (h : Continues s₀ s) : Continues s₀ (s.powerTo i w) :=
  have h1 := h.cancelMove
  .ite h.queueMove (.ite h1.lanEvent (.ite h1.queueMove (.ite h1.setPstate.lanEvent h1.setPstate.setLane)))

theorem Continues.pwrReq {lane req : Nat} (h : Continues s₀ s) : Continues s₀ (s.pwrReq lane req) :=
  have h1 := h.wrFld
  .ite h (.ite h1 (.ite h1 (.ite h1.wrBit.lanEvent (h1.wrBit.foldl fun _ _ h => h.powerTo))))

theorem Continues.execPwrReq {t lane value : Nat} (h : Continues s₀ s) : ContinuesNext s₀ (execPwrReq t lane value s) := .next h.at.pwrReq

theorem Continues.startMove {mdllOff : Bool} {i : Nat} (h : Continues s₀ s) : Continues s₀ (State.startMove mdllOff s i) := by
  unfold State.startMove
  split
  · exact h
  · exact .ite h.setLane (.ite h.setPstate.setLane h.setLane)

theorem Continues.takeRails {rated : List (Nat × Nat)} (h : Continues s₀ s) : Continues s₀ (s.takeRails rated) :=
  h.foldl fun _ _ h => h.setPower

theorem Continues.mdllOn {f : Nat} (h : Continues s₀ s) : Continues s₀ (s.mdllOn f) := h.wrBit.setSyn

theorem Continues.execFurrowMove {t : Nat} (h : Continues s₀ s) : ContinuesNext s₀ (execFurrowMove t s) := by
  have hs : Continues s₀ (s.at t) := h.at
  unfold Machine.execFurrowMove
  extract_lets
  split
  · exact .next hs
  · exact .ite (.next ((Continues.ite hs.takeRails.setPower.mdllOn hs.takeRails.setPower).foldl fun _ _ h => h.startMove)) (.next hs)

theorem Continues.endMove {locked : Bool} {i : Nat} (h : Continues s₀ s) : Continues s₀ (State.endMove locked s i) := by
  unfold State.endMove
  split
  · exact h
  · exact .ite h (Continues.ite h.holdCodes.setPstate.setLane.wrFld (.ite h.setPstate.setLane.wrBit h.setPstate.setLane)).lanEvent

theorem Continues.execFurrowMoveDone {t unit : Nat} (h : Continues s₀ s) : ContinuesNext s₀ (execFurrowMoveDone t unit s) :=
  have hs := h.at
  .ite (.next (.wrFld (hs.foldl fun _ _ h => h.endMove))) (.next (hs.foldl fun _ _ h => h.endMove))

theorem Continues.setTxEq {i swing pre post : Nat} (h : Continues s₀ s) : Continues s₀ (s.setTxEq i swing pre post) := .ite h.wr h

theorem Continues.execTxEqWrite {t lane value : Nat} (h : Continues s₀ s) : ContinuesNext s₀ (execTxEqWrite t lane value s) :=
  have hs := h.at
  .ite (.next hs.setTxEq) (.next hs)

theorem Continues.rxCtrlWrite {i : Nat} {dfe : Bool} {w : Word} (h : Continues s₀ s) : Continues s₀ (s.rxCtrlWrite i dfe w) :=
  have h1 := h.holdCodes.wrFld
  .ite (.ite h.wrFld h) (.ite h1.wrFld h1)

theorem Continues.execRxCtrlWrite {t lane : Nat} {dfe : Bool} {value : Nat} (h : Continues s₀ s) :
    ContinuesNext s₀ (execRxCtrlWrite t lane dfe value s) :=
  have hs := h.at
  .ite (.next hs.rxCtrlWrite) (.next hs)

theorem Continues.testEnds {i x : Nat} (h : Continues s₀ s) : Continues s₀ (s.testEnds i x) := h.wrFld.wrBit.lanEvent
theorem Continues.testFields {i : Nat} {w : Word} (h : Continues s₀ s) : Continues s₀ (s.testFields i w) := h.wrFld.wrFld

theorem Continues.testStart {i : Nat} (h : Continues s₀ s) : Continues s₀ (s.testStart i) := by
  refine .ite h (.ite h.testEnds ?_)
  extract_lets a
  have hA : Continues s₀ a.1 := h.mntRequest
  split
  · exact hA
  · exact hA.setLane.wrFld
  · exact hA.testEnds

theorem Continues.execTestStart {t lane value : Nat} (h : Continues s₀ s) : ContinuesNext s₀ (execTestStart t lane value s) :=
  have hs := h.at
  .ite (.next hs.testFields.testStart) (.next hs)

theorem Continues.prbsCount {i bits errs : Nat} (h : Continues s₀ s) : Continues s₀ (s.prbsCount i bits errs) := .ite h.bump64.bump64 h

theorem Continues.testDone {i bits errs : Nat} (h : Continues s₀ s) : Continues s₀ (s.testDone i bits errs) :=
  h.prbsCount.testEnds.mntDone

theorem Continues.testStop {i bits errs : Nat} (h : Continues s₀ s) : Continues s₀ (s.testStop i bits errs) :=
  .ite h.testDone (.ite h.mntWithdraw.wrFld h)

theorem Continues.execTestStop {t lane bits errs : Nat} (h : Continues s₀ s) : ContinuesNext s₀ (execTestStop t lane bits errs s) :=
  .next h.at.testStop

theorem Continues.execTestDurationEnd {t lane bits errs : Nat} (h : Continues s₀ s) :
    ContinuesNext s₀ (execTestDurationEnd t lane bits errs s) :=
  have hs := h.at
  .ite (.next hs.testDone) (.next hs)

theorem Continues.abortTests (h : Continues s₀ s) : Continues s₀ s.abortTests :=
  h.foldl fun _ _ h => .ite (.ite h.testEnds.wrBit.mntDone h.mntWithdraw.testEnds) h

theorem Continues.inject {i : Nat} (h : Continues s₀ s) : Continues s₀ (s.inject i) := .ite h.prbsCount h
theorem Continues.execInject {t lane : Nat} (h : Continues s₀ s) : ContinuesNext s₀ (execInject t lane s) := .next h.at.inject

theorem Continues.execPrbsResync {t lane bits errs : Nat} (h : Continues s₀ s) : ContinuesNext s₀ (execPrbsResync t lane bits errs s) :=
  have hs := h.at
  .ite (.next hs.prbsCount.wrBit.bump) (.next hs)

theorem Continues.execPrbsCheckerInSync {t lane : Nat} (h : Continues s₀ s) : ContinuesNext s₀ (execPrbsCheckerInSync t lane s) :=
  have hs := h.at
  .ite (.next hs.wrBit) (.next hs)

theorem Continues.eyeFields {i : Nat} {w : Word} (h : Continues s₀ s) : Continues s₀ (s.eyeFields i w) := h.wrFld.wrFld.wrFld.wrFld

theorem Continues.eyeAsk {i op : Nat} (h : Continues s₀ s) : Continues s₀ (s.eyeAsk i op) := by
  unfold State.eyeAsk
  extract_lets
  split
  · exact h.mntRequest
  · exact h.mntRequest.wrBit.setLane

theorem Continues.eyePoint {i : Nat} (h : Continues s₀ s) : Continues s₀ (s.eyePoint i) := .ite h (.ite (.ite h.setLane h) h.eyeAsk)
theorem Continues.eyeScan {i : Nat} (h : Continues s₀ s) : Continues s₀ (s.eyeScan i) := .ite h h.eyeAsk

theorem Continues.eyeWrite {i : Nat} {w : Word} (h : Continues s₀ s) : Continues s₀ (s.eyeWrite i w) :=
  have h1 := h.eyeFields
  .ite h1.eyeScan h1.eyePoint

theorem Continues.execEyePointStart {t lane value : Nat} (h : Continues s₀ s) : ContinuesNext s₀ (execEyePointStart t lane value s) :=
  have hs := h.at
  .ite (.next hs.eyeWrite) (.next hs)

theorem Continues.execEyeScanStart {t lane value : Nat} (h : Continues s₀ s) : ContinuesNext s₀ (execEyeScanStart t lane value s) :=
  have hs := h.at
  .ite (.next hs.eyeWrite) (.next hs)

theorem Continues.eyeVerdict {i h' v : Nat} (h : Continues s₀ s) : Continues s₀ (s.eyeVerdict i h' v) :=
  have h1 := h.wrBit.lanEvent
  .ite (.ite h1 h1.raise) h.wrBit

theorem Continues.execEyeDone {t lane count horizontal vertical : Nat} (h : Continues s₀ s) :
    ContinuesNext s₀ (execEyeDone t lane count horizontal vertical s) :=
  have hs := h.at
  have h2 := (Continues.ite hs.wr (.ite hs.wr.eyeVerdict hs.wrBit)).wrBit.setLane.mntDone
  .ite (.next hs) (.ite (.next h2.eyeAsk) (.next h2))

theorem Continues.execEyePeriodicScan {t lane : Nat} (h : Continues s₀ s) : ContinuesNext s₀ (execEyePeriodicScan t lane s) :=
  have hs := h.at
  have h1 := hs.setLane
  .ite (.next (.ite h1 h1.eyeAsk)) (.next hs)

/-! Frame. The frame store. -/

theorem Continues.openFrame {k : Nat} (h : Continues s₀ s) : Continues s₀ (s.openFrame k) := by
  unfold State.openFrame
  extract_lets
  split
  · exact h
  · exact h.setStream.setStream

theorem Continues.writeTile {k tile : Nat} {planes : List (List Nat)} (h : Continues s₀ s) : Continues s₀ (s.writeTile k tile planes) := by
  unfold State.writeTile
  extract_lets
  split
  · extract_lets
    split
    · exact h.setStream.dramPut
    · exact h.setStream
  · exact h

theorem Continues.writeRow {k raster row : Nat} {samples : List Nat} (h : Continues s₀ s) :
    Continues s₀ (s.writeRow k raster row samples) := by
  unfold State.writeRow
  split
  · exact h
  · exact .ite h.setStream (h.setStream.foldl fun _ _ h => h.writeTile)

theorem Continues.writeAnc {k : Nat} {packet : AncPacket} (h : Continues s₀ s) : Continues s₀ (s.writeAnc k packet) := by
  unfold State.writeAnc
  extract_lets
  split
  · exact h
  · split
    · exact h
    · exact .ite h.bump.fstEvent h.dramPut.dramPut.setStream

theorem Continues.completeFrame {i : Nat} (h : Continues s₀ s) : Continues s₀ (s.completeFrame i) := by
  unfold State.completeFrame
  extract_lets
  split
  · exact h
  · exact .ite h.setStream h.setStream

theorem Continues.joinStored {i : Nat} (h : Continues s₀ s) : Continues s₀ (s.joinStored i) := h.setTwn

theorem Continues.execInputFrameComplete {t stream : Nat} (h : Continues s₀ s) : ContinuesNext s₀ (execInputFrameComplete t stream s) :=
  have hs := h.at
  have h0 := Continues.ite hs hs.openFrame
  have h2 := (Continues.ite h0.setStream h0).completeFrame
  have h3 := Continues.ite h2.openFrame h2
  .ite (.next hs) (.next (.ite h3 h3.joinStored))

theorem Continues.decideStream {i frame : Nat} (h : Continues s₀ s) : Continues s₀ (s.decideStream i frame) :=
  have h1 := h.setStream
  .ite h1.fstEvent h1

theorem Continues.applyStreamSet {i : Nat} {c : StreamSet} (h : Continues s₀ s) : Continues s₀ (s.applyStreamSet i c) :=
  .ite (.ite (.ite h h.setStream) (.ite (.ite h h.setStream) h.setStream)) (.ite (.ite h.setStream h.setStream) h.setStream)

theorem Continues.applyStreamSets {i : Nat} {cs : List StreamSet} (h : Continues s₀ s) : Continues s₀ (s.applyStreamSets i cs) :=
  .ite h.applyStreamSet.setStream (h.foldl fun _ _ h => h.applyStreamSet)

theorem Continues.readAnc {i : Nat} (h : Continues s₀ s) : Continues s₀ (s.readAnc i) := by
  unfold State.readAnc
  split
  · exact .ite h h.bumpBy.fstEvent
  · exact h

theorem Continues.startRead {i : Nat} {w : Option Nat} (h : Continues s₀ s) : Continues s₀ (s.startRead i w) := h.setStream.emit.readAnc

theorem Continues.holdFrame {i : Nat} (h : Continues s₀ s) : Continues s₀ (s.holdFrame i) :=
  have h1 := h.setStream
  .ite (.ite h1.fstEvent h1) h

theorem Continues.followRead {i frame : Nat} (h : Continues s₀ s) : Continues s₀ (s.followRead i frame) := by
  unfold State.followRead
  split
  · exact h.decideStream.bump.fstEvent.noteLocal.startRead
  · refine .ite h.setTwn.holdFrame.startRead ?_
    split
    · exact h.setTwn.holdFrame.startRead
    · exact h.setTwn.holdFrame.bump.fstEvent.noteLocal.startRead

theorem Continues.execReadStart {t stream frame : Nat} (h : Continues s₀ s) : ContinuesNext s₀ (execReadStart t stream frame s) := by
  have hs : Continues s₀ (s.at t) := h.at
  unfold Machine.execReadStart
  extract_lets
  split
  · exact .next hs
  · refine .ite (.next hs) (.ite ?_ (.ite ?_ (.next hs.followRead)))
    · split <;> exact .next hs.startRead
    · split
      · exact .ite (.next hs.startRead) (.next hs.decideStream.startRead)
      · exact .next hs.decideStream.startRead

theorem Continues.retagPlace {c : StreamCfg} {p w : Nat} (h : Continues s₀ s) : Continues s₀ (s.retagPlace c p w) := by
  refine h.foldl fun _ _ h => ?_
  split
  · exact h.dramPut
  · exact h

theorem Continues.sowFill {g : Nat} (h : Continues s₀ s) : Continues s₀ (s.sowFill g) :=
  h.foldl fun _ _ h => h.foldl fun _ _ h => h.dramPut

theorem Continues.retireSlot {c : StreamCfg} {addr : Nat} (h : Continues s₀ s) : Continues s₀ (s.retireSlot c addr) :=
  have h2 := h.satFld.fstEvent.raise.setLife.setXpt
  .ite h2.setFst (.ite h2.setFst h2.wrBit.fstEvent.raise.setFst)

theorem Continues.relocate (h : Continues s₀ s) : Continues s₀ s.relocate := by
  refine .setFst (h.foldl fun _ _ h => ?_)
  split
  · exact h.dramPut.setFst
  · exact h

theorem Continues.slotFailed {c : StreamCfg} {addr : Nat} {why : SlotFail} (h : Continues s₀ s) :
    Continues s₀ (s.slotFailed c addr why) := by
  unfold State.slotFailed
  extract_lets at_ old now s1 s2 s3 recent _ s4
  have h1 : Continues s₀ s1 := h.bump.wr.fstEvent
  have h2 : Continues s₀ s2 := by
    unfold s2
    split
    · exact h1.bump
    · exact h1
  have h4 : Continues s₀ s4 := h2.bump64.raise.setFst
  exact .ite h (.ite h4.retireSlot h4)

theorem Continues.readSlot {c : StreamCfg} {x : StreamRun} {late : Bool} {place widx tile : Nat} (h : Continues s₀ s) :
    Continues s₀ (s.readSlot c x late place widx tile).1 := by
  refine .iteFst h (.iteFst h ?_)
  split
  · exact h
  · split
    · exact h
    · exact h.slotFailed

theorem Continues.takeLate {i tile : Nat} (h : Continues s₀ s) : Continues s₀ (s.takeLate i tile) := h.setFst

theorem Continues.useTile {i : Nat} {c : StreamCfg} {place : Nat} {prev : Option (Nat × Nat)} {tile : Nat} (h : Continues s₀ s) :
    Continues s₀ (s.useTile i c place prev tile).1 := by
  unfold State.useTile
  extract_lets
  split
  · next e => exact h.takeLate.readSlot.fst e
  · next e =>
    have h1 := h.takeLate.readSlot.fst e
    split
    · exact h1.bump.fstEvent.noteLocal
    · split
      · next e' => exact (h1.readSlot.fst e').bump.noteLocal
      · next e' => exact (h1.readSlot.fst e').bump.fstEvent.noteLocal

theorem Continues.useContent {c : StreamCfg} {addr : Nat} (h : Continues s₀ s) : Continues s₀ (s.useContent c addr).1 := by
  unfold State.useContent
  extract_lets
  split
  · exact h.bump.fstEvent
  · split
    · exact h
    · exact h.slotFailed.bump.fstEvent

theorem Continues.execSlotRead {t stream tile : Nat} (h : Continues s₀ s) : ContinuesNext s₀ (execSlotRead t stream tile s) := by
  have hs : Continues s₀ (s.at t) := h.at
  unfold Machine.execSlotRead
  extract_lets
  split
  · exact .next hs
  · refine .ite (.next hs) (.ite (.next hs.useContent.emit) ?_)
    split
    · exact .next hs.emit
    · exact .next hs.useTile.setStream.emit

theorem Continues.scrubSlot {i : Nat} {c : StreamCfg} {k : Nat} (h : Continues s₀ s) : Continues s₀ (State.scrubSlot i c s k) := by
  refine .ite h ?_
  split
  · exact h
  · split
    · exact h
    · exact h.slotFailed

theorem Continues.scrubFrom {pos budget : Nat} {cs : List (Nat × StreamCfg)} (h : Continues s₀ s) :
    Continues s₀ (s.scrubFrom pos budget cs).1 := by
  induction cs generalizing s pos budget with
  | nil => exact h
  | cons c cs ih =>
    refine .iteFst (ih h) (.iteFst ?_ (ih ?_)) <;>
      exact h.foldl fun _ _ h => h.scrubSlot

theorem Continues.scrubChunk {g : Nat} (h : Continues s₀ s) : Continues s₀ (s.scrubChunk g) :=
  have h1 := (Continues.ite h.setFst h).scrubFrom.wrBit
  have h3 := h1.setFst.wrBit
  .ite (.ite h3.wrBit h3) h1.setFst

theorem Continues.execScrubChunk {t g : Nat} (h : Continues s₀ s) : ContinuesNext s₀ (execScrubChunk t g s) := by
  have hs : Continues s₀ (s.at t) := h.at
  refine .ite (.next hs) ?_
  split
  · exact .next hs.scrubChunk
  · exact .ite (.next hs.scrubChunk.mntDone) (.next hs.mntRequest)

theorem Continues.execFstSelWrite {t value : Nat} (h : Continues s₀ s) : ContinuesNext s₀ (execFstSelWrite t value s) := .next h.at.wr
theorem Continues.qmaxRead (h : Continues s₀ s) : Continues s₀ s.qmaxRead := h.setStream
theorem Continues.execFstQmaxRead {t : Nat} (h : Continues s₀ s) : ContinuesNext s₀ (execFstQmaxRead t s) := .next h.at.emit.qmaxRead

/-! Embed. Audio on SDI and on ST 2110-31 flows. -/

theorem Continues.deembed {l : Nat} {f : VFormat} {ps : List AncPacket} (h : Continues s₀ s) : Continues s₀ (s.deembed l f ps) := by
  refine h.foldl fun _ _ h => ?_
  split
  · exact h
  · exact h.foldl fun _ _ h => h.pushAudio

/-! Sdi. SDI ports. -/

theorem Continues.setSdi {l : Nat} {x : SdiRun} (h : Continues s₀ s) : Continues s₀ (s.setSdi l x) := h.setSdis

theorem Continues.sdiLose {l : Nat} (h : Continues s₀ s) : Continues s₀ (s.sdiLose l) := by
  refine .ite ?_ h
  extract_lets s1 _ s2 s3
  have h2 : Continues s₀ s2 := h.wrBit.bump.sdiEvent.setSdi.audioLost
  split
  · have h3 : Continues s₀ s3 := h2.foldl fun _ _ h => h.setStream
    exact .ite h3 h3.inputLost
  · exact h2.inputLost

theorem Continues.keepRow {src row : Nat} {samples : List Nat} (h : Continues s₀ s) : Continues s₀ (s.keepRow src row samples) :=
  h.setRows

theorem Continues.feedLine {l : Nat} {ln : SdiLine} {src : Nat} (h : Continues s₀ s) : Continues s₀ (s.feedLine l ln src) := by
  unfold State.feedLine
  split
  · exact h
  · exact .ite (.foldl ((Continues.ite h.openFrame h).foldl fun _ _ h => h.writeRow) fun _ _ h => h.writeAnc) (h.setWin.foldl fun _ _ h => h.keepRow)

theorem Continues.execSdiLine {t lane : Nat} {ln : SdiLine} (h : Continues s₀ s) : ContinuesNext s₀ (execSdiLine t lane ln s) :=
  have hs := h.at
  have h1 := hs.setSdi
  have hA := h1.bump
  have h2 := Continues.ite (.ite hA.sdiEvent hA) h1
  have h3 := Continues.ite h2.bump h2
  have h4 := Continues.ite h3.bump h3
  .ite (.next hs) (.ite (.next h4.sdiLose) (.ite (.next ((Continues.ite h4.bumpBy h4).deembed.foldl fun _ _ h => h.feedLine)) (.next h4)))

theorem Continues.sdiPid {l : Nat} {fr : SdiFrame} {bad : Bool} (h : Continues s₀ s) : Continues s₀ (s.sdiPid l fr bad) :=
  have h1 := h.wr.wrBit
  have h2 := Continues.ite h1 h1.sdiEvent
  have h3 := h2.wrBit
  .ite h2 (.ite h3.bump h3)

theorem Continues.sdiDetect {l : Nat} {f : Option VFormat} {valid : Bool} (h : Continues s₀ s) : Continues s₀ (s.sdiDetect l f valid) := by
  unfold State.sdiDetect
  split
  · exact h.wrBit
  · extract_lets s1 r s2 s3
    have h3 : Continues s₀ s3 := .ite h.wr.wrBit.setSdi h.wr.wrBit.setSdi.sdiEvent
    exact .ite h.wr.wrBit.setSdi (.ite h3 h3.bump)

theorem Continues.sdiSkew {l skew : Nat} (h : Continues s₀ s) : Continues s₀ (s.sdiSkew l skew) :=
  have h1 := h.wrFld.wrBit
  .ite h1.sdiEvent h1

theorem Continues.execSdiReady {t lane : Nat} {fr : SdiFrame} (h : Continues s₀ s) : ContinuesNext s₀ (execSdiReady t lane fr s) :=
  have hs := h.at
  have h1 := hs.wrBit.sdiDetect.sdiPid.sdiSkew
  .ite (.next hs) (.ite (.ite (.next h1) (.next h1.wrBit.sdiEvent.inputReady.audioBack)) (.next h1.sdiLose))

theorem Continues.execSdiLost {t lane cause : Nat} (h : Continues s₀ s) : ContinuesNext s₀ (execSdiLost t lane cause s) :=
  have hs := h.at
  have hA := hs.wrBit
  .ite (.next (Continues.ite (.ite hA hA.sdiEvent) (.ite hs.wrBit hs)).setSdi.sdiLose) (.next hs)

theorem Continues.nextCopy {l : Nat} (h : Continues s₀ s) : Continues s₀ (s.nextCopy l) := h.setSdi

theorem Continues.countCopy {lead l group : Nat} {c : PairCopy} (h : Continues s₀ s) : Continues s₀ (s.countCopy lead l group c) := by
  unfold State.countCopy
  extract_lets good s1 s2
  have h2 : Continues s₀ s2 := .ite (.ite h h.bump.sdiEvent) (Continues.ite h h.bump.sdiEvent).bump.sdiEvent
  refine .ite h.nextCopy ?_
  split
  · exact .ite h2.setSdi.wr h2.setSdi
  · exact h2.nextCopy

theorem Continues.pairComplete {i w : Nat} {useB : Bool} (h : Continues s₀ s) : Continues s₀ (s.pairComplete i w useB) := by
  unfold State.pairComplete
  split
  · exact h
  · extract_lets
    split
    · exact h
    · exact (Continues.ite h h.retagPlace).setStream.setStream

theorem Continues.execPairedFrameComplete {t src : Nat} {a b : PairCopy} (h : Continues s₀ s) :
    ContinuesNext s₀ (execPairedFrameComplete t src a b s) := by
  have hs : Continues s₀ (s.at t) := h.at
  unfold Machine.execPairedFrameComplete
  extract_lets
  split
  · split
    · exact .ite (.next hs) (.ite (.next hs.countCopy.countCopy.setStream.setStream) (.next hs.countCopy.countCopy.bump.pairComplete.joinStored))
    · exact .next hs
  · exact .next hs

/-! Comp. Compositors and the lintel layer as they run. -/

theorem Continues.setCmp {c : Nat} {x : CmpRun} (h : Continues s₀ s) : Continues s₀ (s.setCmp c x) := h.setCmps
theorem Continues.decideCmp {frame c : Nat} (h : Continues s₀ s) : Continues s₀ (State.decideCmp frame s c) := h.setCmp

theorem Continues.sendDecisions {n : Nat} {rs : List DecisionRec} (h : Continues s₀ s) : Continues s₀ (s.sendDecisions n rs) := by
  induction n generalizing s rs with
  | zero => exact h
  | succ n ih => exact .ite h (ih h.sendWall)

theorem Continues.execDecisionInstant {t g frame : Nat} (h : Continues s₀ s) : ContinuesNext s₀ (execDecisionInstant t g frame s) :=
  have hs := h.at
  .ite (.next hs) (.ite (.next (.sendDecisions (.foldl (.foldl (.ite (.foldl (hs.foldl fun _ _ h => h.completeFrame) fun _ _ h =>
    h.decideStream) (hs.foldl fun _ _ h => h.completeFrame)) fun _ _ h => h.decideCmp) fun _ _ h => h.setStream)))
    (.next (.foldl (.foldl (.ite (.foldl (hs.foldl fun _ _ h => h.completeFrame) fun _ _ h => h.decideStream)
    (hs.foldl fun _ _ h => h.completeFrame)) fun _ _ h => h.decideCmp) fun _ _ h => h.setStream)))

theorem Continues.verdictFor {c n frame : Nat} (h : Continues s₀ s) : Continues s₀ (s.verdictFor c n frame).1 := by
  refine .iteFst h ?_
  split
  · exact h
  · exact h.bump.noteLocal

theorem Continues.fetchWith {f : State → Nat → State × List (List Nat)} {ks : List Nat} (h : Continues s₀ s)
    (hf : ∀ t k, Continues s₀ t → Continues s₀ (f t k).1) : Continues s₀ (State.fetchWith f s ks).1 := by
  induction ks generalizing s with
  | nil => exact h
  | cons k ks ih => exact ih (hf s k h)

theorem Continues.contentPic {c : StreamCfg} {base w h' : Nat} (h : Continues s₀ s) : Continues s₀ (s.contentPic c base w h').1 :=
  h.fetchWith fun _ _ h => h.useContent

theorem Continues.storePic {i place : Nat} {span : Nat × Nat × Nat × Nat} (h : Continues s₀ s) :
    Continues s₀ (s.storePic i place span).1 := by
  unfold State.storePic
  split
  · exact h.fetchWith fun _ _ h => h.useTile
  · exact h

theorem Continues.generatorPic {c src : Nat} (h : Continues s₀ s) : Continues s₀ (s.generatorPic c src).1 := by
  refine .iteFst ?_ (.iteFst h h)
  split
  · exact h.contentPic
  · exact h

theorem Continues.pinLayer {i key : Nat} {w : Option Nat} (h : Continues s₀ s) : Continues s₀ (s.pinLayer i key w) := h.setStream

theorem Continues.setLayerState {c n : Nat} {ready holding fallback : Bool} {held : Nat} (h : Continues s₀ s) :
    Continues s₀ (s.setLayerState c n ready holding fallback held) :=
  h.wr

theorem Continues.layerReady {c n frame src : Nat} (h : Continues s₀ s) : Continues s₀ (s.layerReady c n frame src).1 :=
  have h2 := h.pinLayer.setLayerState.wrBit
  .iteFst h2.setCmp h2.setCmp

theorem Continues.showPinned {c src w : Nat} {f : Nat → Shown} (h : Continues s₀ s) : Continues s₀ (s.showPinned c src w f).1 := by
  unfold State.showPinned
  split
  · exact h
  · exact h.cmpEvent

theorem Continues.layerLate {c n src : Nat} (h : Continues s₀ s) : Continues s₀ (s.layerLate c n src).1 := by
  refine .iteFst h.wrBit.bump.cmpEvent.setLayerState ?_
  split
  · exact h.wrBit.bump.cmpEvent.setLayerState
  · exact .iteFst h.wrBit.bump.cmpEvent.pinLayer.setCmp.setLayerState.showPinned h.wrBit.bump.cmpEvent.pinLayer.setCmp.setLayerState.showPinned

theorem Continues.layerTurned {c n src : Nat} (h : Continues s₀ s) : Continues s₀ (s.layerTurned c n src) := by
  refine .ite h (.wrFld (.wrBit (.setCmp ?_)))
  split
  · exact h.pinLayer
  · exact h

theorem Continues.videoLayer {c n frame : Nat} (h : Continues s₀ s) : Continues s₀ (s.videoLayer c n frame).1 := by
  unfold State.videoLayer
  extract_lets src s0 v r
  have hR : Continues s₀ r.1 := .iteFst h.layerTurned.verdictFor.layerReady h.layerTurned.verdictFor.layerLate
  split
  · exact hR
  · exact hR
  · exact hR.storePic
  · exact .iteFst hR hR.generatorPic

theorem Continues.graphicLayer {c n : Nat} (h : Continues s₀ s) : Continues s₀ (s.graphicLayer c n).1 := by
  unfold State.graphicLayer
  split
  · exact h
  · exact .ite h.contentPic.noteLocal h.contentPic

theorem Continues.staticLayers {c : Nat} (h : Continues s₀ s) : Continues s₀ (s.staticLayers c).1 :=
  h.foldlFst fun _ _ h => h.graphicLayer

theorem Continues.writeCache {c b : Nat} {ls : List Layer} (h : Continues s₀ s) : Continues s₀ (s.writeCache c b ls) := by
  unfold State.writeCache
  split
  · exact h
  · exact h.foldl fun _ _ h => h.dramPut

theorem Continues.execCacheRebuild {t c : Nat} (h : Continues s₀ s) : ContinuesNext s₀ (execCacheRebuild t c s) :=
  have hs := h.at
  .ite (.next hs.staticLayers.writeCache.setCmp.bump.wrBit) (.ite (.next hs.staticLayers.writeCache.setCmp) (.next hs))

theorem Continues.cacheHeadland {c : Nat} {key : List (Nat × Word × Word × Word × Word)} (h : Continues s₀ s) :
    Continues s₀ (s.cacheHeadland c key) :=
  have h1 := h.setCmp.wrBit.wrBit.wrBit
  have h2 := Continues.ite h1.setTwn h1
  .ite h2.cmpEvent h2

theorem Continues.lintelChange (h : Continues s₀ s) : Continues s₀ s.lintelChange :=
  have h1 := h.setLin
  .ite h1.sendDecisions h1

theorem Continues.execLintelArmEdge {t : Nat} {level : Bool} (h : Continues s₀ s) : ContinuesNext s₀ (execLintelArmEdge t level s) :=
  have hs := h.at
  .ite (.next hs) (.next hs.setPins.setLin)

theorem Continues.execLintelPinQualified {t : Nat} (h : Continues s₀ s) : ContinuesNext s₀ (execLintelPinQualified t s) := by
  have hs : Continues s₀ (s.at t) := h.at
  refine .ite ?_ (.next hs)
  split
  · exact .next hs.setLin.lintelChange
  · exact .next hs.setLin
  · exact .next hs

theorem Continues.lintelHeadland {g frame : Nat} (h : Continues s₀ s) : Continues s₀ (s.lintelHeadland g frame) :=
  .ite h (h.setLin.foldl fun _ _ h => have hB := h.wrBit; .ite (.ite hB.cmpEvent hB) h)

theorem Continues.lintelPaints {c g : Nat} (h : Continues s₀ s) : Continues s₀ (s.lintelPaints c g).1 := by
  refine .iteFst h (h.foldlFst fun _ _ h => ?_)
  split
  · exact h
  · exact h.contentPic

theorem Continues.layersOf {c frame : Nat} (h : Continues s₀ s) : Continues s₀ (s.layersOf c frame).1 := by
  refine h.foldlFst fun _ _ h => .iteFst (.iteFst ?_ h) (.iteFst (.iteFst h.setLayerState.wrBit h) (.iteFst h.videoLayer h.graphicLayer))
  split
  · exact h.contentPic
  · exact h

theorem Continues.renderCmp {frame c : Nat} (h : Continues s₀ s) : Continues s₀ (State.renderCmp frame s c) :=
  h.layersOf.lintelPaints.setCmp

theorem Continues.selftestFail {source code : Nat} (h : Continues s₀ s) : Continues s₀ (s.selftestFail source code) := h.raise

theorem Continues.execGoldenTileTest {t c : Nat} {ok : Bool} (h : Continues s₀ s) : ContinuesNext s₀ (execGoldenTileTest t c ok s) :=
  have hs := h.at
  have h1 := hs.setCmp
  .ite (.next hs) (.ite (.next hs.setCmp) (.ite (.next h1.raise) (.next h1.selftestFail)))

theorem Continues.execSramBistChunk {t res c : Nat} {ok : Bool} (h : Continues s₀ s) :
    ContinuesNext s₀ (execSramBistChunk t res c ok s) := by
  have hs : Continues s₀ (s.at t) := h.at
  refine .ite ?_ (.next hs)
  split
  · exact .next (.ite hs (.ite hs.selftestFail hs.selftestFail))
  · exact .ite (.next (Continues.ite hs (.ite hs.selftestFail hs.selftestFail)).mntDone) (.next hs.mntRequest)

/-! Media. Media flows. -/

theorem Continues.setRxc {n : Nat} {x : RxRun} (h : Continues s₀ s) : Continues s₀ (s.setRxc n x) := h.setMed
theorem Continues.setTxc {n : Nat} {x : TxRun} (h : Continues s₀ s) : Continues s₀ (s.setTxc n x) := h.setMed

theorem Continues.rxBad {n : Nat} {malformed : Bool} (h : Continues s₀ s) : Continues s₀ (s.rxBad n malformed) :=
  have h1 := h.setRxc.bump
  .ite h1.rxcEvent h1

theorem Continues.rxLate {n : Nat} (h : Continues s₀ s) : Continues s₀ (s.rxLate n) := h.setRxc.bump.rxcEvent

theorem Continues.rxDeadline {n : Nat} {within : CopyRec → Bool} (h : Continues s₀ s) : Continues s₀ (s.rxDeadline n within) := by
  unfold State.rxDeadline
  extract_lets _ _ here
  clear_value here
  cases here with
  | nil => exact h
  | cons => exact .ite h.setRxc h.setRxc.bumpBy.rxcEvent

theorem Continues.rxFrame {n ts : Nat} (h : Continues s₀ s) : Continues s₀ (s.rxFrame n ts) :=
  .ite h (Continues.ite h.wrFld.wrBit h).setRxc

theorem Continues.rxEnds {n : Nat} {p : Rtp} {gs : List Segment} (h : Continues s₀ s) : Continues s₀ (s.rxEnds n p gs) := .ite h.setRxc h
theorem Continues.rxPathUp {n : Nat} {b : Bool} (h : Continues s₀ s) : Continues s₀ (s.rxPathUp n b) := .ite h h.wrBit.rxcEvent

theorem Continues.placeAudio {n : Nat} {p : Rtp} (h : Continues s₀ s) : Continues s₀ (s.placeAudio n p) :=
  .ite h.setAudIn (h.foldl fun _ _ h => h.pushAudio)

theorem Continues.rxPlace {n : Nat} {p : Rtp} {gs : List Segment} (h : Continues s₀ s) : Continues s₀ (s.rxPlace n p gs) := by
  unfold State.rxPlace
  extract_lets
  split
  · split
    exact h.setRxc
  · exact h.setRxc.foldl fun _ _ h => .ite (h.foldl fun _ _ h => h.writeAnc) h.setMed
  · exact h.setRxc.placeAudio

theorem Continues.rxPacket {n : Nat} {b srcOk full : Bool} {bytes : List Byte} (h : Continues s₀ s) :
    Continues s₀ (s.rxPacket n b srcOk full bytes) := by
  unfold State.rxPacket
  split
  · exact h.rxBad
  · refine .ite h.rxBad ?_
    split
    · exact h.rxBad
    · extract_lets
      split
      · exact .ite (Continues.ite h.rxFrame h).setRxc.rxPathUp.rxBad (Continues.ite h.rxFrame h).setRxc.rxPathUp
      · exact .ite (Continues.ite h.rxFrame h).setRxc.rxPathUp.rxLate
          (.ite (Continues.ite h.rxFrame h).setRxc.rxPathUp.rxEnds.rxPlace.setRxc.bump (Continues.ite h.rxFrame h).setRxc.rxPathUp.rxEnds.rxPlace)

theorem Continues.rxRow {n ts row : Nat} (h : Continues s₀ s) : Continues s₀ (s.rxRow n ts row).1 :=
  .setRxc (.ite (h.foldl fun _ _ h => h.noteLocal) h)

theorem Continues.rxNotReady {n : Nat} (h : Continues s₀ s) : Continues s₀ (s.rxNotReady n) :=
  have h1 := h.setRxc
  .ite h1.wrBit.rxcEvent.inputLost.audioLost h1

theorem Continues.execContextReady {t n : Nat} (h : Continues s₀ s) : ContinuesNext s₀ (execContextReady t n s) :=
  have hs := h.at
  .ite (.next hs.wrBit.rxcEvent.inputReady.audioBack) (.next hs)

theorem Continues.execSkewMeasure {t n : Nat} (h : Continues s₀ s) : ContinuesNext s₀ (execSkewMeasure t n s) :=
  have hs := h.at
  have h2 := hs.setRxc.wrFld.wrBit
  .ite (.next hs) (.ite (.next h2.rxcEvent.raise) (.next h2))

theorem Continues.setMac {p : Nat} {x : MacRun} (h : Continues s₀ s) : Continues s₀ (s.setMac p x) := h.setMacs

theorem Continues.putFrame {port kind : Nat} {body : List Byte} (h : Continues s₀ s) : Continues s₀ (s.putFrame port kind body) :=
  h.bump64.bump64.emit.setMac

theorem Continues.sendFrame {port kind : Nat} {body : List Byte} (h : Continues s₀ s) : Continues s₀ (s.sendFrame port kind body) :=
  .ite h.setMac h.putFrame

theorem Continues.txPut {n port : Nat} {body : List Byte} {first : Bool} (h : Continues s₀ s) :
    Continues s₀ (s.txPut n port body first) :=
  have h1 := h.putFrame
  .ite (.ite h1.setTxc.bump64 h1) h.setTxc.bump.txcEvent.bump64

theorem Continues.txOffer {n port dst : Nat} {due : Int} {rtp : List Byte} {first : Bool} (h : Continues s₀ s) :
    Continues s₀ (s.txOffer n port dst due rtp first) :=
  .ite h.setMac h.txPut

theorem Continues.txLateIf {p : Bool} {n : Nat} {due : Int} (h : Continues s₀ s) : Continues s₀ (s.txLateIf p n due) :=
  .ite h.setTxc.bump.txcEvent h

theorem Continues.txSend {n : Nat} {due : Int} {rtp : List Byte} (h : Continues s₀ s) : Continues s₀ (s.txSend n due rtp) :=
  have h1 := h.txOffer
  (Continues.ite h1.txOffer h1).txLateIf

theorem Continues.igmp {port : Nat} {leave : Bool} (h : Continues s₀ s) : Continues s₀ (s.igmp port leave) := .ite h h.sendFrame

theorem Continues.execIgmpReport {t port : Nat} {query : Bool} (h : Continues s₀ s) : ContinuesNext s₀ (execIgmpReport t port query s) :=
  have hs := h.at
  .ite (.next hs) (.next hs.igmp.setMed)

/-! Audio. The audio engine and the serial audio ports. -/

theorem Continues.markNonAudio {src : Tab (List Samp)} (h : Continues s₀ s) : Continues s₀ (s.markNonAudio src) :=
  h.foldl fun _ _ h => h.foldl fun _ _ h => h.setAud

theorem Continues.checkFifo {b i : Nat} (h : Continues s₀ s) : Continues s₀ (State.checkFifo b s i) := by
  refine .ite h ?_
  split
  · refine .ite (.ite h.setAudIn.sendWall h.setAudIn) ?_
    split
    · exact h.setAudIn
    · exact .ite h.setAudIn.bump.audEvent.noteLocal h.setAudIn
  · exact h.setAudIn
  · exact h.setAudIn

theorem Continues.countSlip {i : Nat} (h : Continues s₀ s) : Continues s₀ (s.countSlip i) :=
  have h1 := h.setAudIn.bump.audEvent
  have h2 := Continues.ite h1.setPort.bump h1
  .ite h2 h2.audEvent.raise

theorem Continues.slipQueue {i : Nat} {drop : Bool} (h : Continues s₀ s) : Continues s₀ (s.slipQueue i drop) := .ite h.setPort h

theorem Continues.execSlipApply {t input : Nat} (h : Continues s₀ s) : ContinuesNext s₀ (execSlipApply t input s) := by
  have hs : Continues s₀ (s.at t) := h.at
  unfold Machine.execSlipApply
  extract_lets
  split
  · exact .ite (.ite (.next hs.countSlip.slipQueue.setAudIn.bump.audEvent.noteLocal) (.next hs.countSlip.slipQueue.setAudIn)) (.next hs)
  · exact .next hs

theorem Continues.flowDeadline {b n : Nat} (h : Continues s₀ s) : Continues s₀ (State.flowDeadline b s n) :=
  have h1 := h.rxDeadline
  .ite (.ite h1.wrFld.setRxc h1) h

theorem Continues.takeFrames {ins : List PortFrames} (h : Continues s₀ s) : Continues s₀ (s.takeFrames ins) :=
  h.foldl fun _ _ h => h.foldl fun _ _ h => h.foldl fun _ _ h => h.pushAudio

theorem Continues.startFifos (h : Continues s₀ s) : Continues s₀ s.startFifos := h.setAud
theorem Continues.passBlock {b : Nat} (h : Continues s₀ s) : Continues s₀ (s.passBlock b) := h.setAud
theorem Continues.keepSamples {d b : Nat} {xs : List Samp} (h : Continues s₀ s) : Continues s₀ (s.keepSamples d b xs) := h.setAud

theorem Continues.sendSlots {p k start : Nat} {stamp : Option Nat} {frame : List Nat} (h : Continues s₀ s) :
    Continues s₀ (s.sendSlots p k start stamp frame) := by
  unfold State.sendSlots
  extract_lets
  split
  · exact h.setPort.emit
  · exact h.setPort.emit.setPort

theorem Continues.followFrame {p n : Nat} (h : Continues s₀ s) : Continues s₀ (s.followFrame p n).1 := h.setPort

theorem Continues.steerNco {p : Nat} (h : Continues s₀ s) : Continues s₀ (s.steerNco p) :=
  have h1 := h.freeNext.wr
  .ite h1.setPort.wrBit h1.setPort

theorem Continues.followSlip {p b : Nat} (h : Continues s₀ s) : Continues s₀ (s.followSlip p b) := by
  unfold State.followSlip
  extract_lets
  split
  · exact .ite h.setPort h
  · exact h.setPort

theorem Continues.portBlock {b : Nat} {ins : List PortFrames} {outs : Tab (List Samp)} {p : Nat} (h : Continues s₀ s) :
    Continues s₀ (s.portBlock b ins outs p) := by
  refine .ite h (.ite (h.foldl fun _ _ h => h.sendSlots) (.ite (h.setPort.foldl fun _ _ h => ?_)
    (.ite (.steerNco (h.followSlip.setPort.foldl fun _ _ h => .ite h.followFrame.sendSlots h.sendSlots))
    (h.followSlip.setPort.foldl fun _ _ h => .ite h.followFrame.sendSlots h.sendSlots))))
  extract_lets
  split
  · exact h.setPort.sendSlots
  · exact h.sendSlots

theorem Continues.execDeembPacketError {t lane : Nat} (h : Continues s₀ s) : ContinuesNext s₀ (execDeembPacketError t lane s) :=
  have hs := h.at
  .ite (.next hs.bump.audEvent.noteLocal) (.next hs)

theorem Continues.maskPending {p : Nat} {out : Bool} {m : Nat} (h : Continues s₀ s) : Continues s₀ (s.maskPending p out m) := h.setPort
theorem Continues.maskLoWrite {p : Nat} {out : Bool} {v : Nat} (h : Continues s₀ s) : Continues s₀ (s.maskLoWrite p out v) := h.setPort

theorem Continues.maskHiWrite {p : Nat} {out : Bool} {v : Nat} (h : Continues s₀ s) : Continues s₀ (s.maskHiWrite p out v) :=
  h.maskPending

theorem Continues.execMaskHiWrite {t p : Nat} {out : Bool} {value : Nat} (h : Continues s₀ s) :
    ContinuesNext s₀ (execMaskHiWrite t p out value s) :=
  have hs := h.at
  .ite (.next hs.maskHiWrite) (.next hs)

theorem Continues.applyMasks {p before : Nat} (h : Continues s₀ s) : Continues s₀ (s.applyMasks p before) := by
  refine .setPort ?_
  split
  · refine .wr64 ?_
    split
    · exact h.wr64
    · exact h
  · split
    · exact h.wr64
    · exact h

theorem Continues.execMaskApply {t p : Nat} (h : Continues s₀ s) : ContinuesNext s₀ (execMaskApply t p s) :=
  have hs := h.at
  .ite (.next hs.applyMasks) (.next hs)

theorem Continues.portLead {p : Nat} (h : Continues s₀ s) : Continues s₀ (s.portLead p) := h.applyMasks.setPort.wr

theorem Continues.execPortStart {t p : Nat} (h : Continues s₀ s) : ContinuesNext s₀ (execPortStart t p s) :=
  have hs := h.at
  .ite (.ite (.next hs.wrBit) (.next hs.portLead)) (.next hs)

theorem Continues.execStartLeadEnd {t p : Nat} (h : Continues s₀ s) : ContinuesNext s₀ (execStartLeadEnd t p s) :=
  have hs := h.at
  .ite (.next hs.setPort.wr.audioBack) (.next hs)

theorem Continues.portStop {p : Nat} (h : Continues s₀ s) : Continues s₀ (s.portStop p) := .ite h.setPort.wr.audioLost h

theorem Continues.execPortStop {t p : Nat} (h : Continues s₀ s) : ContinuesNext s₀ (execPortStop t p s) :=
  have hs := h.at
  .ite (.next hs.portStop) (.next hs)

theorem Continues.execPortClockLoss {t p cause : Nat} (h : Continues s₀ s) : ContinuesNext s₀ (execPortClockLoss t p cause s) :=
  have hs := h.at
  have h1 := hs.setPort.wr.bump
  .ite (.next (Continues.ite h1 h1.audEvent).audioLost) (.next hs)

theorem Continues.execPortRecovery {t p : Nat} (h : Continues s₀ s) : ContinuesNext s₀ (execPortRecovery t p s) :=
  have hs := h.at
  .ite (.next hs.portLead.audEvent) (.next hs)

theorem Continues.execFollowRange {t p : Nat} {low : Bool} (h : Continues s₀ s) : ContinuesNext s₀ (execFollowRange t p low s) := by
  have hs : Continues s₀ (s.at t) := h.at
  unfold Machine.execFollowRange
  extract_lets _ _ since
  cases since with
  | none => exact .next hs
  | some => exact .ite (.next hs.wr.wrBit.audEvent.raise.setPort.bump.bump.audEvent) (.next hs)

theorem Continues.switchAudio {d : Nat} {new : Option Nat} {ns : Int} {gen : Nat} (h : Continues s₀ s) :
    Continues s₀ (s.switchAudio d new ns gen) :=
  have h1 := h.setXpt
  .ite h1 h1.setAud

theorem Continues.setGain {d code : Nat} {ns : Int} (h : Continues s₀ s) : Continues s₀ (s.setGain d code ns) := h.wrFld.setAud

/-! Fratin. The Fratin protocol. -/

theorem Continues.sendReply {r : ReplyTo} {bytes : List Byte} (h : Continues s₀ s) : Continues s₀ (s.sendReply r bytes) := by
  unfold State.sendReply
  split
  · exact h.mbxReply
  · exact .ite (.ite h.sendWall h) (.ite h.emit h)

theorem Continues.answer {r : ReplyTo} {type : Nat} {body : List Byte} (h : Continues s₀ s) : Continues s₀ (s.answer r type body) :=
  .ite h h.setXpt.sendReply

theorem Continues.ackMsg {r : ReplyTo} {aflags entries value headland commit : Nat} (h : Continues s₀ s) :
    Continues s₀ (s.ackMsg r aflags entries value headland commit) :=
  h.answer

theorem Continues.nakMsg {r : ReplyTo} {reason index detail detail2 : Nat} (h : Continues s₀ s) :
    Continues s₀ (s.nakMsg r reason index detail detail2) :=
  h.answer

theorem Continues.authFail (h : Continues s₀ s) : Continues s₀ s.authFail := h.bump.xptEvent

theorem Continues.acceptMsg {r : ReplyTo} {x : Sender} {headBad toPair : Bool} {flags : Nat} {body : List Byte} (h : Continues s₀ s) :
    Continues s₀ (s.acceptMsg r x headBad toPair flags body) := by
  refine .ite h.bump.xptEvent ?_
  split
  · exact (Continues.ite (Continues.ite h.setXpt.lintelRefused h.setXpt).bump (.ite h.setXpt.lintelRefused h.setXpt)).nakMsg
  · exact h.setXpt.setXpt

theorem Continues.duplicateMsg {sender seq first : Nat} (h : Continues s₀ s) : Continues s₀ (s.duplicateMsg sender seq first) := by
  refine .ite h.bump ?_
  split
  · exact .ite h.bump h.bump.sendReply
  · exact h.bump

theorem Continues.receiveMsg {path : MsgPath} {ip udp : Nat} {bs : List Byte} (h : Continues s₀ s) :
    Continues s₀ (s.receiveMsg path ip udp bs) := by
  refine .ite h (.ite h.authFail (.ite h ?_))
  extract_lets
  split
  · exact h.acceptMsg
  · exact h.duplicateMsg
  · exact h.bump
  · exact h.bump.xptEvent

theorem Continues.execFratinReceive {t : Nat} {path : MsgPath} {d : Datagram} (h : Continues s₀ s) :
    ContinuesNext s₀ (execFratinReceive t path d s) := by
  have hs : Continues s₀ (s.at t) := h.at
  unfold Machine.execFratinReceive
  extract_lets
  split
  · exact .ite (.next hs.receiveMsg) (.next hs)
  · exact .next hs.receiveMsg

theorem Continues.execMbxInTaken {t : Nat} (h : Continues s₀ s) : ContinuesNext s₀ (execMbxInTaken t s) :=
  have hs := h.at
  .ite (.next hs.wrBit.receiveMsg.cptEvent) (.next hs)

theorem Continues.takeMsg {type : Nat} {m : Msg} {t : State} (h : Continues s₀ s) (e : s.takeMsg type = some (m, t)) :
    Continues s₀ t := by
  unfold State.takeMsg at e
  split at e
  · split at e
    · obtain ⟨_, rfl⟩ : _ ∧ _ = t := by simpa using e
      exact h.setXpt
    · cases e
  · cases e

theorem Continues.queueSalvo {v : Salvo} (h : Continues s₀ s) : Continues s₀ (s.queueSalvo v) := h.setXpt

theorem Continues.execTake {t : Nat} (h : Continues s₀ s) : ContinuesNext s₀ (execTake t s) := by
  have hs : Continues s₀ (s.at t) := h.at
  unfold Machine.execTake
  extract_lets
  split
  · exact .next hs
  · next e =>
    split
    · exact .next (hs.takeMsg e).queueSalvo
    · exact .next (hs.takeMsg e)

theorem Continues.putOpen {o : OpenSalvo} (h : Continues s₀ s) : Continues s₀ (s.putOpen o) := h.setXpt
theorem Continues.closeSalvo {sender id : Nat} (h : Continues s₀ s) : Continues s₀ (s.closeSalvo sender id) := h.setXpt

theorem Continues.execSalvoPart {t : Nat} (h : Continues s₀ s) : ContinuesNext s₀ (execSalvoPart t s) := by
  have hs : Continues s₀ (s.at t) := h.at
  unfold Machine.execSalvoPart
  extract_lets
  split
  · exact .next hs
  · next e =>
    have h1 := hs.takeMsg e
    refine .ite (.next h1) ?_
    extract_lets
    split
    · exact .next h1.putOpen.ackMsg
    · exact .ite (.next h1.nakMsg) (.next h1.putOpen.ackMsg)

theorem Continues.execSalvoCommit {t : Nat} (h : Continues s₀ s) : ContinuesNext s₀ (execSalvoCommit t s) := by
  have hs : Continues s₀ (s.at t) := h.at
  unfold Machine.execSalvoCommit
  extract_lets
  split
  · exact .next hs
  · next e =>
    extract_lets
    split
    · split
      · exact .next (hs.takeMsg e).nakMsg
      · exact .ite (.next (hs.takeMsg e).putOpen.nakMsg) (.next (hs.takeMsg e).closeSalvo.queueSalvo)
    · exact .next (hs.takeMsg e)

theorem Continues.execSalvoOpenTimeout {t : Nat} (h : Continues s₀ s) : ContinuesNext s₀ (execSalvoOpenTimeout t s) := .next h.at.setXpt

theorem Continues.execQuery {t : Nat} (h : Continues s₀ s) : ContinuesNext s₀ (execQuery t s) := by
  have hs : Continues s₀ (s.at t) := h.at
  unfold Machine.execQuery
  extract_lets
  split
  · exact .next hs
  · next e => exact .next (hs.takeMsg e).freeNext.answer

/-! Ptp. Device time, the PTP servo, the best master clock algorithm and PPS. -/

theorem Continues.setDeviceTime {off : Int} (h : Continues s₀ s) : Continues s₀ (s.setDeviceTime off) := h.setTmg.setPtp
theorem Continues.steer (h : Continues s₀ s) : Continues s₀ s.steer := h.freeNext.setPtp.wr

theorem Continues.servoLock {off : Int} (h : Continues s₀ s) : Continues s₀ (s.servoLock off) :=
  have h1 := h.setPtp
  .ite (.ite h1.wrBit.wrBit.wrBit.ptpEvent h1) (.ite h1.wrBit.ptpEvent h1)

theorem Continues.endRefusal (h : Continues s₀ s) : Continues s₀ s.endRefusal := h.setPtp.wrBit

theorem Continues.refuseStep {off : Int} (h : Continues s₀ s) : Continues s₀ (s.refuseStep off) := by
  refine .ptpGlitch ?_
  split
  · exact .ite h.setPtp.wr.setPtp h.setPtp.wr.setPtp
  · exact h.setPtp.wr.setPtp.wrBit.bump.ptpEvent.raise

theorem Continues.servo {off delay : Int} (h : Continues s₀ s) : Continues s₀ (s.servo off delay) :=
  have h1 := h.wr.wr
  .ite h1.setDeviceTime (.ite h1 (.ite h1.refuseStep (Continues.ite h1.endRefusal h1).steer.servoLock))

theorem Continues.bmca (h : Continues s₀ s) : Continues s₀ s.bmca := by
  unfold State.bmca
  extract_lets best s1 slave s2
  have h2 : Continues s₀ s2 := .wrFld (h.foldl fun _ _ h => h.wrFld)
  clear_value slave best
  split
  · extract_lets s3 changed _ s4
    have h3 : Continues s₀ s3 := h2.wrBit.wr.wr
    have h4 : Continues s₀ s4 := h3.setPtp.endRefusal
    exact .ite h3 (.ite h4.bump.ptpEvent.ptpGlitch h4)
  · exact .ite h2.wrBit.wr.wr h2.wrBit

theorem Continues.ptpCount {k domain version : Nat} (h : Continues s₀ s) : Continues s₀ (s.ptpCount k domain version).1 :=
  have h1 := h.bump
  .iteFst h1 h1.bump

theorem Continues.eventMessage {port kind domain version : Nat} {origin stamp correction : Int} (h : Continues s₀ s) :
    Continues s₀ (s.eventMessage port kind domain version origin stamp correction) := by
  refine .ite h (.ite h.ptpCount (.ite h.ptpCount.setPtp ?_))
  split
  · exact h.ptpCount
  · exact h.ptpCount.servo

theorem Continues.execPtpEventReceive {t port kind domain version : Nat} {origin stamp correction : Int} (h : Continues s₀ s) :
    ContinuesNext s₀ (execPtpEventReceive t port kind domain version origin stamp correction s) :=
  .next h.at.eventMessage

theorem Continues.announce {port : Nat} {body : AnnounceBody} (h : Continues s₀ s) : Continues s₀ (s.announce port body) :=
  .ite h (.ite h.ptpCount (.ite h.ptpCount h.ptpCount.setPtp.bmca))

theorem Continues.execAnnounceReceive {t port : Nat} {body : AnnounceBody} (h : Continues s₀ s) :
    ContinuesNext s₀ (execAnnounceReceive t port body s) :=
  .next h.at.announce

theorem Continues.countTimeout {k : Nat} (h : Continues s₀ s) : Continues s₀ (s.countTimeout k) := .ite h.bump.ptpEvent h

theorem Continues.execAnnounceTimeout {t port : Nat} (h : Continues s₀ s) : ContinuesNext s₀ (execAnnounceTimeout t port s) := by
  have hs : Continues s₀ (s.at t) := h.at
  refine .ite (.next hs) ?_
  split
  · exact .ite (.next hs.countTimeout.wrFld.bmca) (.next hs)
  · exact .ite (.next hs) (.ite (.next hs.countTimeout.setPtp.bmca)
      (.next (Continues.ite hs.countTimeout.setPtp.setPtp.wr.wrBit.wrBit.ptpEvent hs.countTimeout.setPtp.setPtp.wr.wrBit).bmca))

theorem Continues.acceptStep (h : Continues s₀ s) : Continues s₀ s.acceptStep := by
  unfold State.acceptStep
  split
  · exact h
  · exact .ite h (.ite (h.endRefusal.ptpEvent.setDeviceTime.foldl fun _ _ h => .ite h.acquire h) h.endRefusal.ptpEvent.setPtp.wrBit)

theorem Continues.execAutoStepAccept {t : Nat} (h : Continues s₀ s) : ContinuesNext s₀ (execAutoStepAccept t s) := by
  have hs : Continues s₀ (s.at t) := h.at
  unfold Machine.execAutoStepAccept
  extract_lets
  split
  · exact .next hs
  · exact .ite (.next hs.acceptStep) (.next hs)

theorem Continues.execAcceptStep {t confirm : Nat} (h : Continues s₀ s) : ContinuesNext s₀ (execAcceptStep t confirm s) :=
  have hs := h.at
  .ite (.next hs.acceptStep) (.next hs)

theorem Continues.execSlewComplete {t : Nat} (h : Continues s₀ s) : ContinuesNext s₀ (execSlewComplete t s) :=
  have hs := h.at
  .ite (.next hs.setPtp.wrBit) (.next hs)

theorem Continues.execPpsInEdge {t stamp : Nat} (h : Continues s₀ s) : ContinuesNext s₀ (execPpsInEdge t stamp s) :=
  have h1 := h.at.setPtp.wr
  .next (Continues.ite h1.wrBit h1).ptpEvent

theorem Continues.execPpsInLost {t : Nat} (h : Continues s₀ s) : ContinuesNext s₀ (execPpsInLost t s) := by
  have hs : Continues s₀ (s.at t) := h.at
  unfold Machine.execPpsInLost
  extract_lets
  split
  · exact .ite (.next hs.setPtp.wrBit.ptpEvent) (.next hs)
  · exact .next hs

theorem Continues.execPpsOutPulse {t : Nat} (h : Continues s₀ s) : ContinuesNext s₀ (execPpsOutPulse t s) :=
  have hs := h.at
  .ite (.next hs.emit) (.next hs)

theorem Continues.timeSnapshot (h : Continues s₀ s) : Continues s₀ s.timeSnapshot := h.wr.wr.wr.wr

theorem Continues.execPtpTimeFracRead {t : Nat} (h : Continues s₀ s) : ContinuesNext s₀ (execPtpTimeFracRead t s) :=
  .next h.at.timeSnapshot.emit

/-! Mac. Ethernet ports. -/

theorem Continues.macCount {lo n : Nat} (h : Continues s₀ s) : Continues s₀ (s.macCount lo n) := h.bump64

theorem Continues.execBlockLockGained {t port : Nat} (h : Continues s₀ s) : ContinuesNext s₀ (execBlockLockGained t port s) :=
  have hs := h.at
  .ite (.next hs.wrBit.wrBit.setMac) (.next hs)

theorem Continues.execLinkUp {t port : Nat} (h : Continues s₀ s) : ContinuesNext s₀ (execLinkUp t port s) := by
  have hs : Continues s₀ (s.at t) := h.at
  unfold Machine.execLinkUp
  extract_lets
  split
  · exact .next hs
  · exact .ite (.next hs.wrFld.macEvent) (.next hs)

theorem Continues.clearHold {p : Nat} (h : Continues s₀ s) : Continues s₀ (s.clearHold p) := h.macCount.wrBit.setMac

theorem Continues.putPtp {p k kind : Nat} {stamp : Int} (h : Continues s₀ s) : Continues s₀ (s.putPtp p k kind stamp) :=
  h.macCount.macCount.bump.setMac.emit

theorem Continues.sendPtp {k kind : Nat} {stamp : Int} (h : Continues s₀ s) : Continues s₀ (s.sendPtp k kind stamp) :=
  .ite h.macCount (.ite h.setMac h.putPtp)

theorem Continues.execPtpSend {t port kind : Nat} (h : Continues s₀ s) : ContinuesNext s₀ (execPtpSend t port kind s) :=
  have hs := h.at
  .ite (.next hs.sendPtp) (.next hs)

theorem Continues.execDelayReqReceive {t port domain version : Nat} (h : Continues s₀ s) :
    ContinuesNext s₀ (execDelayReqReceive t port domain version s) :=
  have hs := h.at
  .ite (.next hs) (.ite (.next hs.ptpCount.sendPtp) (.next hs.ptpCount))

theorem Continues.sendWaiting {p : Nat} (h : Continues s₀ s) : Continues s₀ (s.sendWaiting p) := by
  refine h.setMac.foldl fun _ _ h => ?_
  split
  · exact .ite h.sendPtp h.txPut.txLateIf
  · exact .ite h.putFrame h.macCount

theorem Continues.endHold {p : Nat} (h : Continues s₀ s) : Continues s₀ (s.endHold p) := .ite h.clearHold.sendWaiting h

theorem Continues.execLinkDown {t port cause : Nat} {rx : Bool} (h : Continues s₀ s) :
    ContinuesNext s₀ (execLinkDown t port cause rx s) :=
  have hs := h.at
  have h2 := hs.setMac
  have h1 := Continues.ite hs.wrBit.wrBit.setMac (.ite h2.wrBit h2.wrBit.macEvent)
  have h3 := h1.wrBit.endHold.macEvent.macCount
  .ite (.next hs) (.ite (.next (.ite h3.macCount h3)) (.next h1))

theorem Continues.arpReply {p : Nat} {bs : List Byte} (h : Continues s₀ s) : Continues s₀ (s.arpReply p bs) := h.sendFrame
theorem Continues.icmpReply {p : Nat} {bs : List Byte} (h : Continues s₀ s) : Continues s₀ (s.icmpReply p bs) := h.sendFrame

theorem Continues.reach {n : Nat} {b : Bool} {u : Udp} {full : Bool} (h : Continues s₀ s) : Continues s₀ (s.reach n b u full) :=
  h.rxPacket

theorem Continues.filtered {p : Nat} (h : Continues s₀ s) : Continues s₀ (s.filtered p) := h.macCount
theorem Continues.showFill {p : Nat} (h : Continues s₀ s) : Continues s₀ (s.showFill p) := h.wrFld

theorem Continues.enqueueFrame {p : Nat} {bs : List Byte} (h : Continues s₀ s) : Continues s₀ (s.enqueueFrame p bs).1 :=
  .iteFst h.macCount.macEvent h.setMac.showFill

theorem Continues.drainQueue {p n : Nat} (h : Continues s₀ s) : Continues s₀ (s.drainQueue p n) := .ite h.setMac.showFill h

theorem Continues.takeFrom {n : Nat} {onlyA : Bool} {c : Instr} (h : Continues s₀ s) : Continues s₀ (State.takeFrom n onlyA s c) := by
  unfold State.takeFrom
  split
  · split
    · exact h.foldl fun _ _ h => .ite h h.reach.setRxc
    · exact h
  · exact h

theorem Continues.takePackets {n : Nat} (h : Continues s₀ s) : Continues s₀ (s.takePackets n) :=
  .foldl (h.foldl fun _ _ h => h.takeFrom) fun _ _ h => h.takeFrom

theorem Continues.deliver {p : Nat} {u : Udp} {full : Bool} (h : Continues s₀ s) : Continues s₀ (s.deliver p u full) :=
  h.foldl fun _ _ h => .ite h.setRxc (.reach (.ite (h.foldl fun _ _ h => h.takeFrom) h))

theorem Continues.mediaFilter {p : Nat} {bs : List Byte} {full : Bool} (h : Continues s₀ s) : Continues s₀ (s.mediaFilter p bs full) := by
  refine .ite h.arpReply (.ite h ?_)
  extract_lets other
  have hOther : Continues s₀ other := .ite h h.filtered
  split
  · exact .ite hOther h.deliver
  · exact hOther

theorem Continues.contentFilter {p : Nat} {bs : List Byte} {full : Bool} (h : Continues s₀ s) :
    Continues s₀ (s.contentFilter p bs full) := by
  refine .ite h.arpReply ?_
  split
  · exact .ite (.ite h.enqueueFrame.deliver h.enqueueFrame) h.filtered
  · exact h.filtered

theorem Continues.throughFilter {p : Nat} {bs : List Byte} {full : Bool} (h : Continues s₀ s) :
    Continues s₀ (s.throughFilter p bs full) := by
  refine .ite h.mediaFilter ?_
  split
  · refine .enqueueFrame ?_
    split
    · exact h.deliver
    · exact h
  · refine .filtered ?_
    split
    · exact h.deliver
    · exact h

theorem Continues.controlFilter {p : Nat} {bs : List Byte} (h : Continues s₀ s) : Continues s₀ (s.controlFilter p bs) := by
  refine .ite h.filtered (.ite h.arpReply (.ite (.ite h.setMac.icmpReply h.filtered) (.ite h.sendFrame ?_)))
  split
  · exact .ite h.receiveMsg h.filtered
  · exact h.filtered

theorem Continues.holdFor {p quanta : Nat} (h : Continues s₀ s) : Continues s₀ (s.holdFor p quanta) :=
  have h1 := h.macCount
  .ite h1.endHold (Continues.ite h1.clearHold h1).wrBit.setMac

theorem Continues.macControl {p : Nat} {bs : List Byte} (h : Continues s₀ s) : Continues s₀ (s.macControl p bs) :=
  .ite h.macCount (.ite h.holdFor h.macCount.macEvent)

theorem Continues.classFilter {p : Nat} {bs : List Byte} {full : Bool} (h : Continues s₀ s) : Continues s₀ (s.classFilter p bs full) := by
  unfold State.classFilter
  split
  · exact h.mediaFilter
  · exact h.contentFilter
  · exact h.controlFilter
  · exact h.throughFilter

theorem Continues.countOk {p : Nat} {bs : List Byte} (h : Continues s₀ s) : Continues s₀ (s.countOk p bs) :=
  have h1 := h.macCount.macCount
  .ite h1.macCount (.ite h1.macCount h1)

theorem Continues.countCodes {p : Nat} {fr : EthFrame} (h : Continues s₀ s) : Continues s₀ (s.countCodes p fr) :=
  have h1 := Continues.ite h h.macCount
  have h2 := Continues.ite (.ite (.ite (.ite h1 h1.bumpBy) (Continues.ite h1 h1.bumpBy).bumpBy)
    (Continues.ite (.ite h1 h1.bumpBy) (Continues.ite h1 h1.bumpBy).bumpBy).bumpBy)
    (Continues.ite (.ite (.ite h1 h1.bumpBy) (Continues.ite h1 h1.bumpBy).bumpBy)
    (Continues.ite (.ite h1 h1.bumpBy) (Continues.ite h1 h1.bumpBy).bumpBy).bumpBy).bumpBy
  have h3 := Continues.ite h2 h2.lanEvent
  have h4 := Continues.ite h3 h3.macCount
  .ite h3 (.ite h4 h4.macCount.macEvent)

theorem Continues.execFrameReceive {t port : Nat} {fr : EthFrame} (h : Continues s₀ s) :
    ContinuesNext s₀ (execFrameReceive t port fr s) :=
  have hs := h.at
  have h1 := hs.countCodes.drainQueue
  have h2 := h1.countOk
  .ite (.next hs) (.ite (.next hs.countCodes.macCount) (.ite (.next h1.macCount)
    (.ite (.next h1.macCount) (.ite (.next h1.macCount) (.ite (.next h2.macControl) (.next h2.classFilter))))))

theorem Continues.execPauseHoldExpiry {t port : Nat} (h : Continues s₀ s) : ContinuesNext s₀ (execPauseHoldExpiry t port s) :=
  have hs := h.at
  .ite (.next hs.endHold) (.next hs)

theorem Continues.sendPause {p quanta : Nat} (h : Continues s₀ s) : Continues s₀ (s.sendPause p quanta) := h.macCount.sendFrame.setMac

theorem Continues.execPauseOn {t port : Nat} (h : Continues s₀ s) : ContinuesNext s₀ (execPauseOn t port s) :=
  have hs := h.at
  .ite (.next hs.wrBit.macEvent.sendPause) (.next hs)

theorem Continues.execPauseRefresh {t port : Nat} (h : Continues s₀ s) : ContinuesNext s₀ (execPauseRefresh t port s) :=
  have hs := h.at
  .ite (.next hs.sendPause) (.next hs)

theorem Continues.execPauseOff {t port drained : Nat} (h : Continues s₀ s) : ContinuesNext s₀ (execPauseOff t port drained s) :=
  have hs := h.at
  have h1 := hs.drainQueue
  have h2 := h1.wrBit.macEvent
  .ite (.next hs) (.ite (.next (.ite h2.sendPause h2)) (.next h1))

theorem Continues.execThroughForward {t port : Nat} {launch : Option Nat} (h : Continues s₀ s) :
    ContinuesNext s₀ (execThroughForward t port launch s) := by
  have hs : Continues s₀ (s.at t) := h.at
  unfold Machine.execThroughForward
  extract_lets
  split
  · exact .ite (.next hs) (.ite (.next hs.setMac.showFill.macCount)
      (.ite (.next hs.setMac.showFill.macCount) (.ite (.next hs) (.next hs.setMac.showFill.sendFrame))))
  · exact .next hs

/-! Synth. Clock synthesis. -/

theorem Continues.synRefresh (h : Continues s₀ s) : Continues s₀ s.synRefresh := h.wrBit.wrBit

theorem Continues.shelter {n : Nat} (h : Continues s₀ s) : Continues s₀ (s.shelter n) :=
  have h1 := h.wrBit
  .ite h1.wrBit.setSyn.synRefresh h1.synRefresh

theorem Continues.badWindow {n : Nat} (h : Continues s₀ s) : Continues s₀ (s.badWindow n) := h.setSyn
theorem Continues.setVfs {v x : Nat} (h : Continues s₀ s) : Continues s₀ (s.setVfs v x) := h.wrFld
theorem Continues.vfsLost {v : Nat} {ppm : Int} (h : Continues s₀ s) : Continues s₀ (s.vfsLost v ppm) := h.setSyn.setVfs.synEvent.raise

theorem Continues.execVfsRefLost {t v : Nat} (h : Continues s₀ s) : ContinuesNext s₀ (execVfsRefLost t v s) :=
  have hs := h.at
  have h2 := hs.wrBit.wrFld.setSyn
  .ite (.next hs) (.ite (.next h2.vfsLost) (.next h2))

theorem Continues.execVfsRefRequalified {t v : Nat} {ppm : Int} (h : Continues s₀ s) :
    ContinuesNext s₀ (execVfsRefRequalified t v ppm s) :=
  have hs := h.at
  have h1 := hs.wrBit.wrFld
  .ite (.next hs) (.ite (.next h1.setSyn) (.next h1))

theorem Continues.execVfsTrackingAgain {t v : Nat} (h : Continues s₀ s) : ContinuesNext s₀ (execVfsTrackingAgain t v s) := by
  have hs : Continues s₀ (s.at t) := h.at
  unfold Machine.execVfsTrackingAgain
  extract_lets
  split
  · exact .ite (.next hs.setSyn.setVfs.synEvent) (.next hs)
  · exact .next hs

theorem Continues.execSysRefLost {t : Nat} (h : Continues s₀ s) : ContinuesNext s₀ (execSysRefLost t s) :=
  .next (.cardLinkDown (.raise (.synRefresh (.wrBit (.wrBit (h.at.foldl fun _ _ h => h.wrBit))))))

theorem Continues.execLoopUnlock {t n : Nat} {error : Int} (h : Continues s₀ s) : ContinuesNext s₀ (execLoopUnlock t n error s) :=
  have hs := h.at
  have hW := hs.wrFld
  have h1 := hW.badWindow.shelter.synEvent
  .ite (.next hs) (.ite (.next (.ite hW.badWindow hW)) (.ite (.next h1) (.ite (.next h1.raise)
    (.ite (.next h1.raise) (.ite (.next h1.raise) (.ite (.next h1.cardLinkDown) (.ite (.next h1.vfsLost) (.next h1))))))))

theorem Continues.execLoopRelocked {t n : Nat} (h : Continues s₀ s) : ContinuesNext s₀ (execLoopRelocked t n s) :=
  have hs := h.at
  .ite (.next hs) (.next hs.wrBit.wrBit.wrBit.setSyn.synRefresh.synEvent)

theorem Continues.execLoopShelterTimeout {t n : Nat} (h : Continues s₀ s) : ContinuesNext s₀ (execLoopShelterTimeout t n s) := by
  have hs : Continues s₀ (s.at t) := h.at
  unfold Machine.execLoopShelterTimeout
  extract_lets
  split
  · exact .ite (.next hs.raise) (.next hs)
  · exact .next hs

theorem Continues.execGuardTrip {t n : Nat} (h : Continues s₀ s) : ContinuesNext s₀ (execGuardTrip t n s) :=
  have hs := h.at
  .ite (.next hs.badWindow.shelter.wrBit.wrBit.synEvent) (.next hs)

theorem Continues.relock {n : Nat} (h : Continues s₀ s) : Continues s₀ (s.relock n) := .ite h.badWindow.shelter h

theorem Continues.execRelock {t confirm n : Nat} (h : Continues s₀ s) : ContinuesNext s₀ (execRelock t confirm n s) :=
  have hs := h.at
  .ite (.next hs.relock) (.next hs)

theorem Continues.execMdllLocked {t f : Nat} (h : Continues s₀ s) : ContinuesNext s₀ (execMdllLocked t f s) :=
  have hs := h.at
  .ite (.next hs.wrFld.wrFld.setSyn) (.next hs)

theorem Continues.execMdllNoLock {t f : Nat} (h : Continues s₀ s) : ContinuesNext s₀ (execMdllNoLock t f s) :=
  have hs := h.at
  .ite (.next (.raise (.synEvent (.setSyn (hs.foldl fun _ _ h => .ite h.wrFld.setLane h))))) (.next hs)

theorem Continues.execTxSteerLimit {t lane : Nat} {demand : Int} (h : Continues s₀ s) :
    ContinuesNext s₀ (execTxSteerLimit t lane demand s) :=
  have hs := h.at
  .ite (.next hs) (.ite (.next hs.setSyn) (.next hs.setSyn.raise))

/-! Dram. The DRAM controller. -/

theorem Continues.setDrc {c : Nat} {x : DrcRun} (h : Continues s₀ s) : Continues s₀ (s.setDrc c x) := h.setDrcs

theorem Continues.refreshRank {c rank issued : Nat} {now : Bool} (h : Continues s₀ s) : Continues s₀ (s.refreshRank c rank issued now) :=
  h.setDrc

theorem Continues.execRefreshDue {t c rank : Nat} {burst : Option Nat} {paid : Nat} (h : Continues s₀ s) :
    ContinuesNext s₀ (execRefreshDue t c rank burst paid s) :=
  have hs := h.at
  have h1 := hs.setDrc.wrFld
  .ite (.ite (.next h1.bump.bump.drcEvent) (.next h1)) (.next hs)

theorem Continues.hotBit {g : Nat} (h : Continues s₀ s) : Continues s₀ (s.hotBit g) := h.wrBit

theorem Continues.mr4 {c r0 r1 : Nat} {poll : Bool} (h : Continues s₀ s) : Continues s₀ (s.mr4 c r0 r1 poll) :=
  have h1 := h.wrFld.wrFld
  have hA := h1.wrBit.setDrc
  have hB := Continues.ite hA.wrBit hA
  have hD := Continues.ite hB hB.drcEvent
  have hE := hD.drcEvent
  have h3 := (Continues.ite (.ite (.ite hE hE.raise) hD) (.ite h1.wrFld.setDrc h1.setDrc)).hotBit
  .ite h3.bump h3

theorem Continues.execMr4Poll {t c r0 r1 : Nat} (h : Continues s₀ s) : ContinuesNext s₀ (execMr4Poll t c r0 r1 s) :=
  have hs := h.at
  .ite (.next hs.mr4.setDrc) (.next hs)

theorem Continues.mr4Command {readings : List (Nat × Nat × Nat)} (h : Continues s₀ s) : Continues s₀ (s.mr4Command readings) :=
  h.foldl fun _ _ h => .ite h.mr4 h

theorem Continues.execMr4PollCmd {t confirm : Nat} {readings : List (Nat × Nat × Nat)} (h : Continues s₀ s) :
    ContinuesNext s₀ (execMr4PollCmd t confirm readings s) :=
  have hs := h.at
  .ite (.next hs.mr4Command) (.next hs)

theorem Continues.trainStart (h : Continues s₀ s) : Continues s₀ s.trainStart :=
  .setDrcs (.setDram (.wr (.wrBit (.wrFld (h.foldl fun _ _ h => .ite h.wr.setDrc h)))))

theorem Continues.relockGroups (h : Continues s₀ s) : Continues s₀ s.relockGroups := .ite h (h.foldl fun _ _ h => .ite h.relock h)
theorem Continues.trainCommand (h : Continues s₀ s) : Continues s₀ s.trainCommand := .ite h.relockGroups.trainStart h

theorem Continues.execDramTrainCmd {t confirm : Nat} (h : Continues s₀ s) : ContinuesNext s₀ (execDramTrainCmd t confirm s) :=
  have hs := h.at
  .ite (.next hs.trainCommand) (.next hs)

theorem Continues.rateWrite {rate : Nat} (h : Continues s₀ s) : Continues s₀ (s.rateWrite rate) := .ite h (.ite h.drcEvent h.wrFld)

theorem Continues.execDrcRateWrite {t rate : Nat} (h : Continues s₀ s) : ContinuesNext s₀ (execDrcRateWrite t rate s) :=
  .next h.at.rateWrite

theorem Continues.trainChan {step : Nat} {x : TrainChan} (h : Continues s₀ s) : Continues s₀ (s.trainChan step x).1 := by
  unfold State.trainChan
  extract_lets
  split
  · exact h.wr
  · exact h.wr
  · exact h.wr
  · exact h.foldl fun _ _ h => h.wr
  · exact h.foldl fun _ _ h => h.wr
  · exact h

theorem Continues.trainChans {step : Nat} {xs : List TrainChan} (h : Continues s₀ s) : Continues s₀ (s.trainChans step xs).1 := by
  induction xs generalizing s with
  | nil => exact h
  | cons x xs ih =>
    unfold State.trainChans
    extract_lets r rest
    have hRest : Continues s₀ rest.1 := ih (.iteFst h.trainChan h)
    split <;> exact hRest

theorem Continues.trainStep {xs : List TrainChan} (h : Continues s₀ s) : Continues s₀ (s.trainStep xs).1 := by
  unfold State.trainStep
  extract_lets
  split
  · exact .ite h.trainChans.wr.wrFld.drcEvent h.trainChans.wr.wrFld
  · exact .iteFst (.drcEvent (.wrFld (.wr (h.trainChans.foldl fun _ _ h => .ite h.wrBit h)))) h.trainChans.wrFld

theorem Continues.execZqCalibration {t g : Nat} (h : Continues s₀ s) : ContinuesNext s₀ (execZqCalibration t g s) :=
  have hs := h.at
  .ite (.next hs.mntRequest) (.next hs)

theorem Continues.execZqLatch {t g : Nat} (h : Continues s₀ s) : ContinuesNext s₀ (execZqLatch t g s) :=
  have hs := h.at
  .ite (.next hs.setDrcs.mntDone) (.next hs)

theorem Continues.execRtRequestComplete {t c : Nat} {write : Bool} {deadline stream tile : Nat} (h : Continues s₀ s) :
    ContinuesNext s₀ (execRtRequestComplete t c write deadline stream tile s) :=
  have hs := h.at
  have h1 := hs.bump.drcEvent.raise
  .ite (.next (.ite h1 h1.setFst)) (.next hs)

/-! Life. The life log. -/

theorem Continues.loadTotals {b : List Byte} (h : Continues s₀ s) : Continues s₀ (s.loadTotals b) :=
  .setLife (.foldl (.foldl (h.wr64.wr64.wr64.wr64.wr64.wr64.foldl fun _ _ h => h.wr64) fun _ _ h => h.wr64) fun _ _ h => h.wr)

theorem Continues.loadCalendar (h : Continues s₀ s) : Continues s₀ s.loadCalendar := h.setLife.setPtp
theorem Continues.openSector {n seq : Nat} (h : Continues s₀ s) : Continues s₀ (s.openSector n seq) := h.flashPut.setLife
theorem Continues.eraseSector {n : Nat} (h : Continues s₀ s) : Continues s₀ (s.eraseSector n) := h.flashErase.bump

theorem Continues.readJournal (h : Continues s₀ s) : Continues s₀ s.readJournal := by
  refine .bump64 (.loadCalendar ?_)
  split
  · exact h.setLife.eraseSector.openSector.setLife.lifeEvent
  · refine .setLife ?_
    split
    · exact h.setLife.loadTotals
    · exact h.setLife

theorem Continues.nextSector (h : Continues s₀ s) : Continues s₀ s.nextSector :=
  .eraseSector (h.openSector.foldl fun _ _ h => h.flashPut.setLife)

theorem Continues.programEntry {bs : List Byte} (h : Continues s₀ s) : Continues s₀ (s.programEntry bs) :=
  (Continues.ite h h.nextSector).flashPut.setLife

theorem Continues.writeEntry {w : Option FaultRec} (h : Continues s₀ s) : Continues s₀ (s.writeEntry w) := by
  unfold State.writeEntry
  split
  · exact h.programEntry.lifeEvent.setLife
  · exact h.programEntry.setLife

theorem Continues.queueLife {w : Option FaultRec} (h : Continues s₀ s) : Continues s₀ (s.queueLife w) := .ite h h.setLife.mntRequest

theorem Continues.execCheckpoint {t confirm : Nat} (h : Continues s₀ s) : ContinuesNext s₀ (execCheckpoint t confirm s) :=
  have hs := h.at
  .ite (.next hs.queueLife) (.next hs)

theorem Continues.checkpoint (h : Continues s₀ s) : Continues s₀ s.checkpoint := .ite h.queueLife h.setLife

theorem Continues.execCheckpointDue {t : Nat} (h : Continues s₀ s) : ContinuesNext s₀ (execCheckpointDue t s) :=
  have hs := h.at
  .ite (.next hs) (.ite (.next hs.setLife.checkpoint) (.next hs))

theorem Continues.execLifeWriteDone {t : Nat} {ok : Bool} (h : Continues s₀ s) : ContinuesNext s₀ (execLifeWriteDone t ok s) :=
  have hs := h.at
  .ite (.next hs) (.ite (.next (.mntDone (.setLife (hs.foldl fun _ _ h => h.writeEntry)))) (.next hs.setLife.lifeEvent.raise))

theorem Continues.appendSevere (h : Continues s₀ s) : Continues s₀ s.appendSevere := by
  unfold State.appendSevere
  extract_lets s1 _ s2
  have h2 : Continues s₀ s2 := .setFlt (h.foldl fun _ _ h => h.queueLife)
  exact .ite h2.setLife.queueLife h2

/-! Live. Live-set parameters. -/

theorem Continues.askCrop {c n : Nat} {x : Option (Nat × Nat)} (h : Continues s₀ s) : Continues s₀ (s.askCrop c n x) := h.setCmp

theorem Continues.clampLayer {c n : Nat} {newCrop : Bool} (h : Continues s₀ s) : Continues s₀ (s.clampLayer c n newCrop) := by
  unfold State.clampLayer
  extract_lets
  split
  exact .ite (.ite h.wrFld.wrFld.askCrop.wrBit h.wrFld.wrFld.askCrop.wrBit.bump.cmpEvent) h.wrFld.wrFld.askCrop.wrBit

theorem Continues.applyCmp {e : LiveEntry} (h : Continues s₀ s) : Continues s₀ (s.applyCmp e) := by
  unfold State.applyCmp
  extract_lets
  split
  · exact h.wr.wr
  · exact h.wr
  · exact h.wr
  · exact h.wrFld
  · exact h.wr.wr
  · exact h.wrFld
  · exact h.wrFld
  · exact h.wr
  · exact h.wrFld
  · exact h.wrFld
  · exact h.wrFld
  · exact h.wrBit
  · exact h.wr.wr
  · exact h.wrBit
  · exact h.wrBit
  · exact h

theorem Continues.applyLive {ns : Int} {e : LiveEntry} (h : Continues s₀ s) : Continues s₀ (State.applyLive ns s e) := by
  unfold State.applyLive
  extract_lets
  split
  · exact h.foldl fun _ _ h => h.setGain
  · exact h.foldl fun _ _ h => h.wrBit.wrFld
  · exact h.maskPending
  · exact h.wrFld
  · exact h.wrFld
  · exact h.wrFld
  · exact h.wrFld
  · exact h.wrFld
  · exact h.wrBit
  · exact h.reorderCands
  · exact h.wrFld
  · exact .ite h.acceptStep h.wrBit
  · exact h.wrFld
  · exact h.wrFld.wrFld
  · exact h.wrFld
  · exact h.wrFld
  · exact h.wrFld
  · exact h.setFst
  · exact h.wrFld
  · exact h.wr.wr
  · exact h.wrFld
  · exact h.setEyeSec
  · exact h.wrFld
  · exact h.applyCmp

theorem Continues.clampLive {es : List LiveEntry} (h : Continues s₀ s) : Continues s₀ (s.clampLive es) :=
  h.foldl fun _ _ h => h.clampLayer

theorem Continues.applyLives {ns : Int} {es : List LiveEntry} (h : Continues s₀ s) : Continues s₀ (s.applyLives ns es) :=
  .setXpt (.foldl (.clampLive (h.foldl fun _ _ h => h.applyLive)) fun _ _ h => h.applyStreamSets)

theorem Continues.committed (h : Continues s₀ s) : Continues s₀ s.committed := h.foldl fun _ _ h => h.applyLives

/-! Takes. Takes, salvos and what goes on air at a headland. -/

theorem Continues.sendOrder {o : Order} (h : Continues s₀ s) : Continues s₀ (s.sendOrder o) :=
  have h1 := h.setTwn
  .ite h1.sendWall h1

theorem Continues.commitSalvo {r : Option ReplyTo} {gen : Nat} {es : List Entry} {fs : List (Nat × Nat)} {commit : Nat} (h : Continues s₀ s) :
    Continues s₀ (s.commitSalvo r gen es fs commit) :=
  h.setXpt.wr.bump64.bump64.xptEvent.abortTests

theorem Continues.refuseSalvo {r : ReplyTo} {reason index detail : Nat} (h : Continues s₀ s) :
    Continues s₀ (s.refuseSalvo r reason index detail) :=
  (Continues.ite h.bump.xptEvent.lintelRefused h).bump.xptEvent.wr.nakMsg

theorem Continues.execSalvoValidation {t : Nat} (h : Continues s₀ s) : ContinuesNext s₀ (execSalvoValidation t s) := by
  have hs : Continues s₀ (s.at t) := h.at
  unfold Machine.execSalvoValidation
  extract_lets
  split
  · exact .next hs
  · refine .ite (.next hs) (.ite (.next hs.setXpt) ?_)
    extract_lets
    split
    · exact .next hs.setXpt.refuseSalvo
    · exact .next hs.setXpt.commitSalvo.wr.sendOrder.ackMsg

theorem Continues.commitLive {es : List LiveEntry} {fs : List (Nat × Nat)} {commit : Nat} (h : Continues s₀ s) :
    Continues s₀ (s.commitLive es fs commit) :=
  h.setXpt

theorem Continues.holdRequest {r : ReplyTo} (h : Continues s₀ s) : Continues s₀ (s.holdRequest r) := h.setXpt

theorem Continues.execLiveSet {t : Nat} (h : Continues s₀ s) : ContinuesNext s₀ (execLiveSet t s) := by
  have hs : Continues s₀ (s.at t) := h.at
  unfold Machine.execLiveSet
  extract_lets
  split
  · exact .next hs
  · next e =>
    have h1 := hs.takeMsg e
    refine .ite (.next h1) (.ite (.next h1.holdRequest) ?_)
    extract_lets
    split
    · exact .next (Continues.ite h1.lintelRefused h1).bump.nakMsg
    · exact .next h1.commitLive.sendOrder.ackMsg

theorem Continues.applyLintel {b : List Byte} (h : Continues s₀ s) : Continues s₀ (s.applyLintel b) :=
  .ite h.setLin (.ite h.setLin (.ite h.setLin h.setLin))

theorem Continues.lintelMsg {op : Nat} (h : Continues s₀ s) : Continues s₀ (s.lintelMsg op) := by
  unfold State.lintelMsg
  split
  · exact h
  · next e =>
    refine .ite h (.ite (h.takeMsg e) (.ite (h.takeMsg e).holdRequest ?_))
    split
    · exact (h.takeMsg e).nakMsg
    · exact (h.takeMsg e).applyLintel.sendOrder.lintelChange.ackMsg

theorem Continues.execLintelArmMsg {t : Nat} (h : Continues s₀ s) : ContinuesNext s₀ (execLintelArmMsg t s) := .next h.at.lintelMsg
theorem Continues.execLintelDisarmMsg {t : Nat} (h : Continues s₀ s) : ContinuesNext s₀ (execLintelDisarmMsg t s) := .next h.at.lintelMsg
theorem Continues.execLoadText {t : Nat} (h : Continues s₀ s) : ContinuesNext s₀ (execLoadText t s) := .next h.at.lintelMsg
theorem Continues.execClearText {t : Nat} (h : Continues s₀ s) : ContinuesNext s₀ (execClearText t s) := .next h.at.lintelMsg

theorem Continues.execLatchInstant {t g : Nat} (h : Continues s₀ s) : ContinuesNext s₀ (execLatchInstant t g s) :=
  have hs := h.at
  .ite (.next hs.setXpt) (.next hs)

theorem Continues.airEntry {g gen : Nat} {ns : Int} {e : Entry} (h : Continues s₀ s) : Continues s₀ (State.airEntry g gen ns s e) :=
  (Continues.ite h.setXpt h).setXpt.foldl fun _ _ h => h.switchAudio

theorem Continues.readbackEntries {p : Nat × Nat → Bool} {gen : Nat} {es : List Entry} (h : Continues s₀ s) :
    Continues s₀ (s.readbackEntries p gen es) :=
  h.setXpt

theorem Continues.airLives {g frame : Nat} {ns : Int} (h : Continues s₀ s) : Continues s₀ (s.airLives g frame ns) := .ite h h.applyLives

theorem Continues.airPending {g frame : Nat} {ns : Int} {p : Pending} (h : Continues s₀ s) :
    Continues s₀ (State.airPending g frame ns s p) :=
  .ite (.setXpt (.ite (.readbackEntries (h.foldl fun _ _ h => h.airEntry))
    (.ite (.readbackEntries (h.foldl fun _ _ h => h.airEntry)) (h.foldl fun _ _ h => h.airEntry)))) h

theorem Continues.settlePending (h : Continues s₀ s) : Continues s₀ s.settlePending :=
  have h1 := h.setXpt
  .ite h1 h1.wr.xptEvent

theorem Continues.darkOnAir {before : State} (h : Continues s₀ s) : Continues s₀ (State.darkOnAir before s) :=
  h.foldl fun _ _ h => .ite (.ite h.wrBit h.wrBit.lanEvent) h

theorem Continues.firstHeadland {g : Nat} (h : Continues s₀ s) : Continues s₀ (s.firstHeadland g) :=
  have h1 := h.setXpt
  have h2 := h1.setXpt
  .ite h (.ite h1 (.ite h2 h2.bumpBy.xptEvent.wr))

theorem Continues.takenBlack {g frame : Nat} (h : Continues s₀ s) : Continues s₀ (s.takenBlack g frame) := h.foldl fun _ _ h => h.endBlack

theorem Continues.execSwitchPoint {t g : Nat} (h : Continues s₀ s) : ContinuesNext s₀ (execSwitchPoint t g s) := by
  have hs : Continues s₀ (s.at t) := h.at
  refine .ite (.next hs) ?_
  split
  · exact .next hs
  · extract_lets ns cmps _ s0 keys s1 s2 s3
    have h3 : Continues s₀ s3 := .lintelHeadland (.ite (.takenBlack (.firstHeadland
      (.settlePending (hs.setXpt.airLives.foldl fun _ _ h => h.airPending))))
      (.relocate (.takenBlack (.firstHeadland (.settlePending (hs.setXpt.airLives.foldl fun _ _ h => h.airPending))))))
    exact .next (.setTwn (.foldl (.ite (h3.foldl fun _ _ h => h.cacheHeadland) (.darkOnAir (h3.foldl fun _ _ h => h.cacheHeadland)))
      fun _ _ h => h.renderCmp))

theorem Continues.execOnAirNotify {t : Nat} (h : Continues s₀ s) : ContinuesNext s₀ (execOnAirNotify t s) := by
  have hs : Continues s₀ (s.at t) := h.at
  unfold Machine.execOnAirNotify
  extract_lets
  split
  · exact .next hs
  · exact .next hs.setXpt.ackMsg

theorem Continues.execWindowLeft {t d line : Nat} (h : Continues s₀ s) : ContinuesNext s₀ (execWindowLeft t d line s) :=
  have hs := h.at
  .ite (.next hs) (.next hs.leaveWindow)

theorem Continues.execLagMeasure {t src g : Nat} {least most : Int} (h : Continues s₀ s) :
    ContinuesNext s₀ (execLagMeasure t src g least most s) :=
  have hs := h.at
  have h1 := hs.setXpt
  .ite (.ite (.next h1) (.next (h1.foldl fun _ _ h => h.leaveWindow))) (.next hs)

theorem Continues.windowBack {d : Nat} (h : Continues s₀ s) : Continues s₀ (s.windowBack d) := h.endBlack.tellWindow

theorem Continues.windowFrame {g : Nat} (h : Continues s₀ s) : Continues s₀ (s.windowFrame g) :=
  h.foldl fun _ _ h => .ite h.windowBack h.setXpt.bump

theorem Continues.execFrameStart {t g : Nat} (h : Continues s₀ s) : ContinuesNext s₀ (execFrameStart t g s) :=
  have hs := h.at
  .ite (.next hs.setGrp.lightGroup.windowFrame) (.next hs)

theorem Continues.snapStart {table : Nat} (h : Continues s₀ s) : Continues s₀ (s.snapStart table) := .ite h.wrFld (.ite h.wr h.wr.setXpt)

theorem Continues.execSnapshotStart {t table : Nat} (h : Continues s₀ s) : ContinuesNext s₀ (execSnapshotStart t table s) :=
  .next h.at.snapStart

theorem Continues.execSnapshotDone {t : Nat} (h : Continues s₀ s) : ContinuesNext s₀ (execSnapshotDone t s) :=
  have hs := h.at
  .ite (.next hs.setXpt.wr.wr) (.next hs)

/-! Entry. Health words and scores. -/

theorem Continues.requestState {resync : Bool} {attempts : Nat} (h : Continues s₀ s) : Continues s₀ (s.requestState resync attempts) :=
  h.setTwn.sendWall

theorem Continues.firstEntry (h : Continues s₀ s) : Continues s₀ s.firstEntry := by
  refine .ite h ?_
  extract_lets _ s1
  have h1 : Continues s₀ s1 := h.setCtl.wr
  split
  · exact h1.repairDir
  · exact .ite h1.setBoot.queueDir h1.repairDir

theorem Continues.enterService {r : Role} (h : Continues s₀ s) : Continues s₀ (s.enterService r) :=
  h.setCtl.endClosing.setMode.setRole.firstEntry

theorem Continues.enterJoin (h : Continues s₀ s) : Continues s₀ s.enterJoin :=
  h.keyLow.endClosing.setMode.setRole.firstEntry.setAud.setStreams.requestState

theorem Continues.soloService (h : Continues s₀ s) : Continues s₀ s.soloService := h.setPins.enterService

theorem Continues.closeTrain (h : Continues s₀ s) : Continues s₀ s.closeTrain :=
  have h1 := h.setTwn
  .ite h1.enterJoin h1.enterService

/-! Join. Orders and decisions from the keyholder, and the state transfer of JOIN and resync. -/

theorem Continues.pendOrder {o : Order} {fs : List (Nat × Nat)} (h : Continues s₀ s) : Continues s₀ (s.pendOrder o fs) :=
  .ite h.setLin h.setXpt

theorem Continues.dropHeld {o : Order} (h : Continues s₀ s) : Continues s₀ (s.dropHeld o) := .ite h.setXpt h.setXpt

theorem Continues.storeAck {o : Order} (h : Continues s₀ s) : Continues s₀ (s.storeAck o) := by
  unfold State.storeAck
  split
  · exact h
  · exact h.setXpt

theorem Continues.takeOrder {o : Order} {fs : List (Nat × Nat)} (h : Continues s₀ s) : Continues s₀ (s.takeOrder o fs) :=
  have h1 := h.storeAck.dropHeld
  .ite h1.commitSalvo (.ite h1.commitLive h1.applyLintel.pendOrder)

theorem Continues.orderLate {o : Order} {fs : List (Nat × Nat)} (h : Continues s₀ s) : Continues s₀ (s.orderLate o fs) :=
  .ite h h.bump.twnEvent.setTwn

theorem Continues.applyOrder {o : Order} (h : Continues s₀ s) : Continues s₀ (s.applyOrder o) := h.takeOrder.orderLate

theorem Continues.hearOrder {o : Order} (h : Continues s₀ s) : Continues s₀ (s.hearOrder o) :=
  .ite h (.ite h.setTwn (.ite h.applyOrder h))

theorem Continues.execTakeOrder {t : Nat} {o : Order} (h : Continues s₀ s) : ContinuesNext s₀ (execTakeOrder t o s) :=
  .next h.at.hearOrder

theorem Continues.applyDecision {d : DecisionRec} (h : Continues s₀ s) : Continues s₀ (s.applyDecision d) :=
  .ite h (.ite h.setTwn (.ite h.setAudIn (.ite h.setLin (.ite (.ite h.windowLost h.endBlack) h))))

theorem Continues.hearDecision {recs : List DecisionRec} (h : Continues s₀ s) : Continues s₀ (s.hearDecision recs) :=
  .ite h (.ite h.setTwn (.ite (h.setTwn.foldl fun _ _ h => h.applyDecision) h))

theorem Continues.execDecision {t : Nat} {recs : List DecisionRec} (h : Continues s₀ s) : ContinuesNext s₀ (execDecision t recs s) :=
  .next h.at.hearDecision

theorem Continues.applyQueued (h : Continues s₀ s) : Continues s₀ s.applyQueued :=
  .foldl (h.setTwn.foldl fun _ _ h => h.takeOrder) fun _ _ h => h.applyDecision

theorem Continues.execStateRequest {t : Nat} (h : Continues s₀ s) : ContinuesNext s₀ (execStateRequest t s) :=
  have hs := h.at
  .ite (.next (hs.foldl fun _ _ h => h.sendWall)) (.next hs)

theorem Continues.anchorStream {j : JoinStream} (h : Continues s₀ s) : Continues s₀ (s.anchorStream j) := by
  unfold State.anchorStream
  split
  · exact h
  · refine .ite h.setStream ?_
    extract_lets
    split
    · exact .setStream (h.foldl fun _ _ h => h.retagPlace)
    · exact h.setStream.bump.fstEvent

theorem Continues.anchorAudio {j : JoinAudio} (h : Continues s₀ s) : Continues s₀ (s.anchorAudio j) := .ite h h.setAudIn

theorem Continues.anchorCmp {e : Nat × JoinCmp} (h : Continues s₀ s) : Continues s₀ (s.anchorCmp e) :=
  h.setCmp.foldl fun _ _ h => h.pinLayer

theorem Continues.joinSender {j : JoinSender} (h : Continues s₀ s) : Continues s₀ (s.joinSender j) := h.setXpt

theorem Continues.joinPart {p : PartRec} (h : Continues s₀ s) : Continues s₀ (s.joinPart p) := by
  unfold State.joinPart
  split <;> exact h.putOpen

theorem Continues.applySection {x : Section} (h : Continues s₀ s) : Continues s₀ (s.applySection x) := by
  unfold State.applySection
  split
  · exact h
  · exact h.setTwn.wr.wr
  · exact h.setXpt
  · exact h.setXpt
  · exact h.setXpt.foldl fun _ _ h => h.pendOrder
  · exact .ite h.setXpt h
  · exact h.applyLives
  · exact h.foldl fun _ _ h => h.anchorCmp
  · exact .setLin (h.setLin.foldl fun _ _ h => h.applyLintel)
  · exact .foldl (h.foldl fun _ _ h => h.anchorStream) fun _ _ h => h.anchorAudio
  · exact .foldl (h.setXpt.foldl fun _ _ h => h.joinSender) fun _ _ h => h.joinPart
  · exact h.setXpt
  · exact h.setXpt

theorem Continues.applySnapshot (h : Continues s₀ s) : Continues s₀ s.applySnapshot := by
  refine .setTwn (.applyQueued (.setTwn (h.foldl fun _ _ h => ?_)))
  split
  · exact h.applySection
  · exact h

theorem Continues.execState {t : Nat} {sec : Section} (h : Continues s₀ s) : ContinuesNext s₀ (execState t sec s) :=
  have hs := h.at
  have h1 := hs.setTwn
  .ite (.next hs) (.ite (.next h1.applySnapshot) (.next h1))

theorem Continues.showLatched (h : Continues s₀ s) : Continues s₀ s.showLatched := .ite h.setLin.lintelChange h

theorem Continues.completeJoin (h : Continues s₀ s) : Continues s₀ s.completeJoin :=
  have h1 := h.setTwn
  .ite h1.enterService.showLatched (.ite h1.setRole h)

theorem Continues.execJoinComplete {t : Nat} (h : Continues s₀ s) : ContinuesNext s₀ (execJoinComplete t s) :=
  have hs := h.at
  .ite (.next hs.completeJoin) (.next hs)

theorem Continues.execJoinRetryTimeout {t : Nat} (h : Continues s₀ s) : ContinuesNext s₀ (execJoinRetryTimeout t s) :=
  have hs := h.at
  .ite (.next (Continues.ite hs.raise.twnEvent hs).requestState) (.next hs)

theorem Continues.abandonJoin (h : Continues s₀ s) : Continues s₀ s.abandonJoin := h.setCtl.setTwn.enterService.showLatched
theorem Continues.startResync (h : Continues s₀ s) : Continues s₀ s.startResync := h.setTwn.requestState

/-! Twin. Twin operation. -/

theorem Continues.setKey {k : KeyState} (h : Continues s₀ s) : Continues s₀ (s.setKey k) := h.setTwn
theorem Continues.setWall {w : WallState} (h : Continues s₀ s) : Continues s₀ (s.setWall w) := h.setTwn
theorem Continues.setArb {a : ArbState} (h : Continues s₀ s) : Continues s₀ (s.setArb a) := h.setTwn
theorem Continues.setHo {h' : HandoverState} (h : Continues s₀ s) : Continues s₀ (s.setHo h') := h.setTwn

theorem Continues.execKeyClaim {t : Nat} (h : Continues s₀ s) : ContinuesNext s₀ (execKeyClaim t s) :=
  have hs := h.at
  .ite (.next hs.setKey.setPins) (.next hs)

theorem Continues.becomeKeyholder (h : Continues s₀ s) : Continues s₀ s.becomeKeyholder :=
  have h2 := h.setKey.twnEvent.setTwn
  (Continues.ite h2.enterService h2.setRole).applyQueued.setXpt

theorem Continues.execKeyResample {t : Nat} {level : Bool} (h : Continues s₀ s) : ContinuesNext s₀ (execKeyResample t level s) := by
  have hs : Continues s₀ (s.at t) := h.at
  unfold Machine.execKeyResample
  extract_lets
  split
  · exact .next hs
  · exact .ite (.next hs) (.ite (.ite (.next hs.keyLow.twnEvent.closeTrain) (.next hs.keyLow.twnEvent))
      (.next (Continues.ite hs.setKey hs).becomeKeyholder))

theorem Continues.execKeyInEdge {t : Nat} {level : Bool} (h : Continues s₀ s) : ContinuesNext s₀ (execKeyInEdge t level s) :=
  have hs := h.at
  have h1 := hs.setKey.setPins
  .ite (.next hs) (.ite (.next h1.closeTrain) (.next h1))

theorem Continues.execKeyConflict {t : Nat} (h : Continues s₀ s) : ContinuesNext s₀ (execKeyConflict t s) := by
  have hs : Continues s₀ (s.at t) := h.at
  unfold Machine.execKeyConflict
  extract_lets
  split
  · exact .ite (.next hs.setKey.raise.twnEvent) (.next hs)
  · exact .next hs

theorem Continues.execAlivePeerEdge {t : Nat} {level : Bool} (h : Continues s₀ s) : ContinuesNext s₀ (execAlivePeerEdge t level s) :=
  have hs := h.at
  .ite (.next hs) (.next hs.setKey.setPins)

theorem Continues.execAlivePeerTimeout {t : Nat} (h : Continues s₀ s) : ContinuesNext s₀ (execAlivePeerTimeout t s) :=
  have hs := h.at
  .ite (.next hs.setKey) (.next hs)

theorem Continues.execWallDownKeyTimeout {t : Nat} (h : Continues s₀ s) : ContinuesNext s₀ (execWallDownKeyTimeout t s) :=
  have hs := h.at
  .ite (.next hs.setKey) (.next hs)

theorem Continues.cmdGiveUp (h : Continues s₀ s) : Continues s₀ s.cmdGiveUp := .ite h.cancelHandover.giveUp.setRole h

theorem Continues.execGiveUp {t confirm : Nat} (h : Continues s₀ s) : ContinuesNext s₀ (execGiveUp t confirm s) :=
  have hs := h.at
  .ite (.next hs.cmdGiveUp) (.next hs)

theorem Continues.hearGiveUp {reason : Nat} (h : Continues s₀ s) : Continues s₀ (s.hearGiveUp reason) :=
  have h1 := h.setKey.twnEvent
  .ite h (.ite h1.abandonJoin h1)

theorem Continues.execGiveUpMsg {t reason : Nat} (h : Continues s₀ s) : ContinuesNext s₀ (execGiveUpMsg t reason s) :=
  .next h.at.hearGiveUp

theorem Continues.execHeartbeatSend {t : Nat} (h : Continues s₀ s) : ContinuesNext s₀ (execHeartbeatSend t s) :=
  have hs := h.at
  .ite (.next hs.sendWall.setWall) (.next hs)

theorem Continues.wallUpFollower {h' : Heartbeat} (h : Continues s₀ s) : Continues s₀ (s.wallUpFollower h') :=
  .ite h.startResync (.ite h (.ite h h.startResync))

theorem Continues.closingHeard (h : Continues s₀ s) : Continues s₀ s.closingHeard := .ite h.closeTrain h

theorem Continues.hearHeartbeat {hb : Heartbeat} (h : Continues s₀ s) : Continues s₀ (s.hearHeartbeat hb) :=
  have h1 := h.setKey.setWall.wrFld
  have h2 := Continues.ite h1 h1.twnEvent
  have h3 := Continues.ite h2.cancelHandover h2
  have h4 := Continues.ite h3.wallUpFollower h3
  .ite h (.ite h.bump (Continues.ite h4.requestState h4).closingHeard)

theorem Continues.execHeartbeat {t : Nat} {hb : Heartbeat} (h : Continues s₀ s) : ContinuesNext s₀ (execHeartbeat t hb s) :=
  .next h.at.hearHeartbeat

theorem Continues.clearWall (h : Continues s₀ s) : Continues s₀ s.clearWall := h.setTwn
theorem Continues.clearPeer (h : Continues s₀ s) : Continues s₀ s.clearPeer := .wrFld (h.foldl fun _ _ h => h.wr)

theorem Continues.transferLost (h : Continues s₀ s) : Continues s₀ s.transferLost :=
  have h1 := h.setTwn
  .ite h1.closeTrain h1

theorem Continues.wallDown (h : Continues s₀ s) : Continues s₀ s.wallDown :=
  have h1 := h.clearWall.clearPeer.bump.twnEvent.cancelHandover
  .ite h1.abandonJoin h1.transferLost

theorem Continues.execWallDown {t : Nat} (h : Continues s₀ s) : ContinuesNext s₀ (execWallDown t s) :=
  have hs := h.at
  .ite (.next (Continues.ite hs.completeJoin hs).wallDown) (.next hs)

theorem Continues.ackWall {ack : Nat} (h : Continues s₀ s) : Continues s₀ (s.ackWall ack) := h.setPw.setWall.drainWall

theorem Continues.discardBlock (h : Continues s₀ s) : Continues s₀ s.discardBlock :=
  have h1 := h.bump
  .ite h1 h1.setWall.deal.emit

theorem Continues.resendFrom {p : SentBlock → Bool} (h : Continues s₀ s) : Continues s₀ (s.resendFrom p) :=
  h.setWall.bumpBy.foldl fun _ _ h => h.deal.emit

theorem Continues.execResend {t bseq : Nat} (h : Continues s₀ s) : ContinuesNext s₀ (execResend t bseq s) := .next h.at.resendFrom

theorem Continues.execWallResendTimeout {t : Nat} (h : Continues s₀ s) : ContinuesNext s₀ (execWallResendTimeout t s) := by
  have hs : Continues s₀ (s.at t) := h.at
  unfold Machine.execWallResendTimeout
  extract_lets
  split
  · exact .ite (.next hs.resendFrom) (.next hs)
  · exact .next hs

theorem Continues.execWallRebond {t lane : Nat} {lock : Bool} (h : Continues s₀ s) : ContinuesNext s₀ (execWallRebond t lane lock s) :=
  have hs := h.at
  have h1 := hs.rebond
  .ite (.next hs) (.next (.ite h1 h1.resendFrom))

theorem Continues.startArb {event : Nat} {announce : Bool} (h : Continues s₀ s) : Continues s₀ (s.startArb event announce) :=
  have h1 := h.setArb.bump
  .ite h (.ite h1.sendWall h1)

theorem Continues.diverged {tg frame : Nat} {r : DigestRec} (h : Continues s₀ s) : Continues s₀ (s.diverged tg frame r) :=
  have h4 := h.setTwn.bump.wr.wr64.raise.twnEvent
  .ite (.ite h4.startResync h4) h4.startArb

theorem Continues.compareRec {tg frame : Nat} {p : DigestRec × DigestRec} (h : Continues s₀ s) :
    Continues s₀ (State.compareRec tg frame s p) :=
  .ite h (.ite h.bump.raise h.diverged)

theorem Continues.compareSets {a b : DigestSet} (h : Continues s₀ s) : Continues s₀ (s.compareSets a b) :=
  h.foldl fun _ _ h => h.compareRec

theorem Continues.hearDigest {tg frame : Nat} {recs : List DigestRec} (h : Continues s₀ s) : Continues s₀ (s.hearDigest tg frame recs) := by
  refine .ite h ?_
  split
  · exact h.setTwn.compareSets
  · exact h.setTwn

theorem Continues.execDigest {t tg frame : Nat} {recs : List DigestRec} (h : Continues s₀ s) :
    ContinuesNext s₀ (execDigest t tg frame recs s) :=
  .next h.at.hearDigest

theorem Continues.execDigestMissing {t tg frame : Nat} (h : Continues s₀ s) : ContinuesNext s₀ (execDigestMissing t tg frame s) := by
  have hs : Continues s₀ (s.at t) := h.at
  unfold Machine.execDigestMissing
  extract_lets
  split
  · exact .ite (.next hs.setTwn.bump) (.next hs)
  · exact .next hs

theorem Continues.blameInputs {own peer : List InputRec} (h : Continues s₀ s) : Continues s₀ (s.blameInputs own peer) :=
  h.foldl fun _ _ h => h.raise

theorem Continues.endInputs (h : Continues s₀ s) : Continues s₀ s.endInputs := by
  unfold State.endInputs
  split
  · exact h.setArb.blameInputs
  · exact h

theorem Continues.arbOutcome (h : Continues s₀ s) : Continues s₀ s.arbOutcome := by
  unfold State.arbOutcome
  split
  · exact .ite h.twnEvent.sendWall.endInputs (.ite h.twnEvent.setArb.cancelHandover.giveUp.setRole h.twnEvent.setArb)
  · exact h

theorem Continues.cmdArbitrate (h : Continues s₀ s) : Continues s₀ s.cmdArbitrate := .ite h.freeNext.startArb h

theorem Continues.execArbitrate {t confirm : Nat} (h : Continues s₀ s) : ContinuesNext s₀ (execArbitrate t confirm s) :=
  have hs := h.at
  .ite (.next hs.cmdArbitrate) (.next hs)

theorem Continues.execArbitrateMsg {t phase result event units : Nat} {inputs : List InputRec} (h : Continues s₀ s) :
    ContinuesNext s₀ (execArbitrateMsg t phase result event units inputs s) :=
  have hs := h.at
  .ite (.next hs) (.ite (.next hs.startArb) (.ite (.next hs.setArb.arbOutcome) (.ite (.next hs.setArb.endInputs) (.next hs))))

theorem Continues.execSelftestDone {t units : Nat} {inputs : List InputRec} (h : Continues s₀ s) :
    ContinuesNext s₀ (execSelftestDone t units inputs s) :=
  have hs := h.at
  have h1 := hs.setArb
  .ite (.next hs) (.next (Continues.ite h1.setTwn.raise h1).sendWall.arbOutcome)

theorem Continues.cmdHandoverArm (h : Continues s₀ s) : Continues s₀ s.cmdHandoverArm := .ite h (.ite h.setHo h.setHo.sendWall)

theorem Continues.execHandoverArm {t confirm : Nat} (h : Continues s₀ s) : ContinuesNext s₀ (execHandoverArm t confirm s) :=
  have hs := h.at
  .ite (.next hs.cmdHandoverArm) (.next hs)

theorem Continues.cancelAndTell (h : Continues s₀ s) : Continues s₀ s.cancelAndTell :=
  have h1 := h.cancelHandover
  .ite (.ite h1.sendWall h1) h

theorem Continues.execHandoverCancel {t confirm : Nat} (h : Continues s₀ s) : ContinuesNext s₀ (execHandoverCancel t confirm s) :=
  have hs := h.at
  .ite (.next hs.cancelAndTell) (.next hs)

theorem Continues.answerPropose {tg frame : Nat} (h : Continues s₀ s) : Continues s₀ (s.answerPropose tg frame) :=
  .ite h (.ite h.setHo.sendWall h.sendWall)

theorem Continues.execHandover {t opcode tg frame : Nat} (h : Continues s₀ s) : ContinuesNext s₀ (execHandover t opcode tg frame s) :=
  have hs := h.at
  .ite (.next hs) (.ite (.next hs.answerPropose) (.ite (.next (.ite hs.setHo hs))
    (.ite (.next (.ite hs.cancelHandover hs)) (.ite (.next (.ite hs.cancelHandover hs)) (.next hs)))))

theorem Continues.execHandoverReplyTimeout {t : Nat} (h : Continues s₀ s) : ContinuesNext s₀ (execHandoverReplyTimeout t s) :=
  have hs := h.at
  .ite (.next hs.cancelAndTell) (.next hs)

theorem Continues.execHandoverInstant {t : Nat} (h : Continues s₀ s) : ContinuesNext s₀ (execHandoverInstant t s) :=
  have hs := h.at
  .ite (.next hs) (.next ((Continues.ite hs.setHo hs.setHo.giveUp.setRole).twnEvent.foldl fun _ _ h => h.lightGroup))

theorem Continues.execHealthSend {t : Nat} (h : Continues s₀ s) : ContinuesNext s₀ (execHealthSend t s) :=
  have h1 := h.at.setTwn
  .ite (.next h1.sendWall) (.next h1)

theorem Continues.yieldWatch (h : Continues s₀ s) : Continues s₀ s.yieldWatch := h.setTwn

theorem Continues.execHealth {t score : Nat} {_capped : Bool} {words : List Nat} (h : Continues s₀ s) :
    ContinuesNext s₀ (execHealth t score _capped words s) :=
  have hs := h.at
  .ite (.next hs) (.next (.yieldWatch (.wrFld (hs.foldl fun _ _ h => h.wr))))

theorem Continues.execYield {t : Nat} (h : Continues s₀ s) : ContinuesNext s₀ (execYield t s) := by
  have hs : Continues s₀ (s.at t) := h.at
  unfold Machine.execYield
  extract_lets
  split
  · exact .ite (.next hs.cancelHandover.giveUp.setRole.setTwn) (.next hs)
  · exact .next hs

theorem Continues.cmdResync (h : Continues s₀ s) : Continues s₀ s.cmdResync := .ite h.startResync h

theorem Continues.execResync {t confirm : Nat} (h : Continues s₀ s) : ContinuesNext s₀ (execResync t confirm s) :=
  have hs := h.at
  .ite (.next hs.cmdResync) (.next hs)

theorem Continues.execReplyRelay {t ip udp mgt : Nat} {data : List Byte} (h : Continues s₀ s) :
    ContinuesNext s₀ (execReplyRelay t ip udp mgt data s) :=
  have hs := h.at
  .ite (.next hs.emit) (.next hs)

theorem Continues.placeFragment {data : List Byte} (h : Continues s₀ s) : ContinuesSome s₀ (s.placeFragment data) := by
  unfold State.placeFragment
  split
  · exact .some h.setPw
  · exact .none

theorem Continues.fillPw {n : Nat} (h : Continues s₀ s) : Continues s₀ (s.fillPw n) := by
  induction n generalizing s with
  | zero => exact h
  | succ n ih =>
    unfold State.fillPw
    split
    · exact h
    · split
      · next e => exact ih (h.setPw.placeFragment e)
      · exact h

theorem Continues.mailFragment {data : List Byte} (h : Continues s₀ s) : ContinuesSome s₀ (s.mailFragment data) := by
  refine .ite ?_ (.ite (.some h.setPw) .none)
  split
  · next e => exact .some (h.placeFragment e)
  · exact .some h.setPw

theorem Continues.execPwMailboxFragment {t : Nat} {data : List Byte} (h : Continues s₀ s) :
    ContinuesNext s₀ (execPwMailboxFragment t data s) :=
  have hs := h.at
  .ite (.next hs) (.next (hs.mailFragment.getD hs.discardBlock))

theorem Continues.pwGo {value : Nat} (h : Continues s₀ s) : Continues s₀ (s.pwGo value) := h.foldl fun _ _ h => h.setPw.handFrag
theorem Continues.execPwmbxGo {t value : Nat} (h : Continues s₀ s) : ContinuesNext s₀ (execPwmbxGo t value s) := .next h.at.pwGo
theorem Continues.pwFree {value : Nat} (h : Continues s₀ s) : Continues s₀ (s.pwFree value) := h.setPw.fillPw
theorem Continues.execPwmbxFree {t value : Nat} (h : Continues s₀ s) : ContinuesNext s₀ (execPwmbxFree t value s) := .next h.at.pwFree

theorem Continues.execPwFragmentAcked {t buffer : Nat} (h : Continues s₀ s) : ContinuesNext s₀ (execPwFragmentAcked t buffer s) :=
  .next h.at.setPw

/-! Boot. The boot sequence. -/

theorem Continues.unload (h : Continues s₀ s) : Continues s₀ s.unload :=
  .foldl (.wrFld (h.setRegs.setCfg.setTables.setTmg.setSdis.setStreams.setCmps.setXpt.setSyn.setCtl.setProt.setBoot.foldl fun _ _ h =>
    h.wr)) fun _ _ h => h.wr

theorem Continues.romFallback (h : Continues s₀ s) : Continues s₀ s.romFallback := by
  unfold State.romFallback
  exact h.wrBit.setBoot.unload.enterSafe

theorem Continues.slotRefused {code : Nat} (h : Continues s₀ s) : Continues s₀ (s.slotRefused code) := by
  unfold State.slotRefused
  extract_lets x s1 _ s2 s3
  clear_value x
  have h1 : Continues s₀ s1 := by
    unfold s1
    split <;> exact h.wrFld
  have h3 : Continues s₀ s3 := .ite h1.setBoot h1.setBoot.queueDir
  exact .ite h3.romFallback h3.startReaping

theorem Continues.trySlot {x : Slot} (h : Continues s₀ s) : Continues s₀ (s.trySlot x) := by
  unfold State.trySlot
  extract_lets
  split
  · exact h.setBoot.setBoot
  · exact h.setBoot.setBoot
  · exact h.setBoot.slotRefused

theorem Continues.execDirectoryReadDone {t : Nat} (h : Continues s₀ s) : ContinuesNext s₀ (execDirectoryReadDone t s) := by
  have hs : Continues s₀ (s.at t) := h.at
  refine .ite (.next hs) ?_
  split <;> exact .next hs.wrBit.setBoot.trySlot

theorem Continues.execFlashReadError {t : Nat} (h : Continues s₀ s) : ContinuesNext s₀ (execFlashReadError t s) :=
  have hs := h.at
  .ite (.next hs.slotRefused) (.next hs)

theorem Continues.execFallbackSlotTry {t : Nat} (h : Continues s₀ s) : ContinuesNext s₀ (execFallbackSlotTry t s) :=
  have hs := h.at
  .ite (.next hs.setBoot.trySlot) (.next hs)

theorem Continues.fellBack (h : Continues s₀ s) : Continues s₀ s.fellBack := .ite h.wrBit.setBoot.raise h

theorem Continues.execHeaderReadDone {t : Nat} (h : Continues s₀ s) : ContinuesNext s₀ (execHeaderReadDone t s) := by
  have hs : Continues s₀ (s.at t) := h.at
  refine .ite (.next hs) ?_
  split
  · exact .next hs.slotRefused
  · exact .next hs.setBoot

theorem Continues.execFwHeaderReadDone {t : Nat} (h : Continues s₀ s) : ContinuesNext s₀ (execFwHeaderReadDone t s) := by
  have hs : Continues s₀ (s.at t) := h.at
  refine .ite (.next hs) ?_
  split
  · exact .next hs.slotRefused
  · exact .next hs.setBoot

theorem Continues.execFwSectionLoaded {t : Nat} (h : Continues s₀ s) : ContinuesNext s₀ (execFwSectionLoaded t s) := by
  have hs : Continues s₀ (s.at t) := h.at
  refine .ite (.next hs) ?_
  split
  · exact .next hs.tcmPut.slotRefused
  · exact .next hs.tcmPut.setBoot

theorem Continues.execCfgRecordStreamed {t : Nat} (h : Continues s₀ s) : ContinuesNext s₀ (execCfgRecordStreamed t s) :=
  have hs := h.at
  .ite (.next hs) (.ite (.next hs.slotRefused) (.next hs.setBoot))

theorem Continues.execCfgSignatureChecked {t : Nat} (h : Continues s₀ s) : ContinuesNext s₀ (execCfgSignatureChecked t s) := by
  have hs : Continues s₀ (s.at t) := h.at
  refine .ite (.next hs) ?_
  split
  · exact .next hs.slotRefused
  · exact .next hs.setBoot

/-! Framer. The output framer. -/

theorem Continues.ancDropped {lane n : Nat} (h : Continues s₀ s) : Continues s₀ (s.ancDropped lane n) := .ite h h.bumpBy.sdiEvent

theorem Continues.sendLine {d : Nat} {c : DstCfg} {x : OutRun} {F line : Nat} (h : Continues s₀ s) :
    Continues s₀ (s.sendLine d c x F line).1 :=
  h.emit.ancDropped

theorem Continues.delayLine {d : Nat} {c : DstCfg} {F line : Nat} (h : Continues s₀ s) : Continues s₀ (s.delayLine d c F line) :=
  .foldl ((Continues.ite h.openFrame h).foldl fun _ _ h => h.writeRow) fun _ _ h => h.writeAnc

theorem Continues.runLines {d : Nat} {c : DstCfg} {n : Nat} {x : OutRun} (h : Continues s₀ s) :
    Continues s₀ (State.runLines d c n s x).1 := by
  induction n generalizing s x with
  | zero => exact h
  | succ n ih => exact .iteFst h (ih (.iteFst (Continues.ite h.delayLine h).sendLine (.ite h.delayLine h)))

theorem Continues.runOutput {d : Nat} {c : DstCfg} (h : Continues s₀ s) : Continues s₀ (s.runOutput d c) :=
  .ite h.setXpt h.runLines.setXpt

theorem Continues.tick (h : Continues s₀ s) : Continues s₀ s.tick := h.foldl fun _ _ h => h.runOutput

/-! Launch. Packetisers. -/

theorem Continues.digestPayload {n F : Nat} {fresh : Bool} {payload : List Byte} (h : Continues s₀ s) :
    Continues s₀ (s.digestPayload n F fresh payload) :=
  h.setTxc

theorem Continues.txcDropped {n lost : Nat} (h : Continues s₀ s) : Continues s₀ (s.txcDropped n lost) := .ite h h.setTxc.bumpBy.txcEvent

theorem Continues.execLaunch {t txc frame i ready lineAt : Nat} (h : Continues s₀ s) :
    ContinuesNext s₀ (execLaunch t txc frame i ready lineAt s) := by
  have hs : Continues s₀ (s.at t) := h.at
  refine .ite (.next hs) (.ite ?_ ?_)
  · split
    · exact .next hs
    · exact .ite (.next hs) (.next hs.digestPayload.txcDropped.txSend.wrBit)
  · split
    · exact .next hs
    · exact .ite (.next hs) (.next hs.digestPayload.txSend.wrBit)

/-! Digest. The digests of a frame's outputs, and what makes a record LOCAL_CAUSE. -/

theorem Continues.execDigestSend {t tg frame : Nat} (h : Continues s₀ s) : ContinuesNext s₀ (execDigestSend t tg frame s) := by
  have hs : Continues s₀ (s.at t) := h.at
  refine .ite (.next hs) ?_
  split
  · exact .next hs.sendWall.setTwn.setTwn.compareSets
  · exact .next hs.sendWall.setTwn.setTwn

/-! Flow. What falls due in a receive context. -/

theorem Continues.execLineDeadline {t n ts row : Nat} (h : Continues s₀ s) : ContinuesNext s₀ (execLineDeadline t n ts row s) := by
  refine .ite (.next (h.at.takePackets.rxDeadline.rxRow.setRxc.foldl fun _ _ h => ?_)) (.next h.at.takePackets)
  split
  · exact .ite h h.keepRow
  · exact h

theorem Continues.execBandPass {t n ts band : Nat} (h : Continues s₀ s) : ContinuesNext s₀ (execBandPass t n ts band s) :=
  have hs := h.at.takePackets
  .ite (.next (.setRxc (.foldl (.rxDeadline (.ite (hs.foldl fun _ _ h => h.openFrame) hs)) fun _ _ h => h.rxRow.foldl fun _ _ h =>
    h.writeRow))) (.next hs)

theorem Continues.execContextNotReady {t n cause : Nat} (h : Continues s₀ s) : ContinuesNext s₀ (execContextNotReady t n cause s) :=
  have hs := h.at.takePackets
  .ite (.next hs.rxNotReady) (.next hs)

theorem Continues.execPathInactive {t n path : Nat} (h : Continues s₀ s) : ContinuesNext s₀ (execPathInactive t n path s) :=
  have hs := h.at.takePackets
  .ite (.next hs.wrBit.rxcEvent) (.next hs)

theorem Continues.takeFlows (h : Continues s₀ s) : Continues s₀ s.takeFlows := h.foldl fun _ _ h => h.takePackets

theorem Continues.execAudioBlock {t b : Nat} {ins : List PortFrames} (h : Continues s₀ s) : ContinuesNext s₀ (execAudioBlock t b ins s) :=
  have hs := h.at.takeFlows
  .ite (.next hs) (.next (.foldl (.setAud (.foldl (.passBlock (.foldl (.markNonAudio
    (.setAud (hs.setAud.wr64.takeFrames.startFifos.foldl fun _ _ h => h.checkFifo))) fun _ _ h => have hA1 := h.emit; .ite hA1
    hA1.keepSamples)) fun _ _ h => h.portBlock)) fun _ _ h => h.flowDeadline))

/-! Adjust. What the device makes at boot of image values that it does not refuse. -/

theorem Continues.adjustLanes (h : Continues s₀ s) : Continues s₀ s.adjustLanes :=
  .foldl (h.foldl fun _ _ h => h.wrFld) fun _ _ h => .ite h h.wrFld.wrBit

theorem Continues.markSdi (h : Continues s₀ s) : Continues s₀ s.markSdi := h.foldl fun _ _ h => h.wrBit
theorem Continues.macAdjusted {p : Nat} (h : Continues s₀ s) : Continues s₀ (s.macAdjusted p) := h.wrBit

theorem Continues.adjustMac {p : Nat} (h : Continues s₀ s) : Continues s₀ (s.adjustMac p) :=
  have h1 := Continues.ite h.macAdjusted h
  have h2 := Continues.ite h1.wrFld.macAdjusted h1
  have h3 := Continues.ite h2.wrFld.macAdjusted h2
  .ite (.ite h3 h3.wrFld.wrFld.macAdjusted) h2.wrFld

theorem Continues.adjustMacs (h : Continues s₀ s) : Continues s₀ s.adjustMacs := h.foldl fun _ _ h => h.adjustMac

theorem Continues.adjustPtp (h : Continues s₀ s) : Continues s₀ s.adjustPtp :=
  have h1 := Continues.ite h.wrFld h
  .foldl (.setPtp (.ite (h1.foldl fun _ _ h => .ite h h.wrFld) (.wrFld (h1.foldl fun _ _ h => .ite h h.wrFld)))) fun _ _ h => .ite
    h.wrFld h

theorem Continues.checkContexts (h : Continues s₀ s) : Continues s₀ s.checkContexts := by
  refine .foldl (.foldl (.foldl (h.foldl fun _ _ h => ?_) fun _ _ h => h.wrBit) fun _ _ h => h.wrBit) fun _ _ h => h.wrBit
  split
  · exact h.wrFld
  · exact h

theorem Continues.clampImage (h : Continues s₀ s) : Continues s₀ s.clampImage :=
  .foldl (h.foldl fun _ _ h => h.wrFld) fun _ _ h => h.foldl fun _ _ h => h.clampLayer

theorem Continues.adjustImage (h : Continues s₀ s) : Continues s₀ s.adjustImage :=
  h.adjustLanes.adjustMacs.adjustPtp.markSdi.checkContexts.clampImage

/-! Layout. The capacity of the frame store and where its streams lie. -/

theorem Continues.placeStreams (h : Continues s₀ s) : Continues s₀ s.placeStreams := by
  refine .ite ?_ h
  split
  · exact h.setCfg
  · exact h

/-! Loader. The image loader. -/

theorem Continues.loadReg {off v : Nat} (h : Continues s₀ s) : Continues s₀ (s.loadReg off v) := .ite h h.wr

theorem Continues.loadRegs {off n : Nat} {bs : List Byte} (h : Continues s₀ s) : Continues s₀ (s.loadRegs off n bs) := by
  induction n generalizing s off bs with
  | zero => exact h
  | succ n ih => exact ih h.loadReg

theorem Continues.loadKeys {n : Nat} {b : List Byte} (h : Continues s₀ s) : Continues s₀ (s.loadKeys n b) := by
  induction n generalizing s b with
  | zero => exact h
  | succ n ih =>
    refine ih ?_
    split
    · exact h.setCfg
    · exact h

theorem Continues.loadAudioEntry {table i : Nat} {b : List Byte} (h : Continues s₀ s) : ContinuesSome s₀ (s.loadAudioEntry table i b) := by
  refine .ite (.ite .none (.some h.setCfg)) (.ite (.ite .none (.some h.setCfg)) (.ite .none ?_))
  split
  · exact .none
  · exact .ite (.some h.setCfg) (.some h.setCfg)

theorem Continues.loadAudio {table i n : Nat} {b : List Byte} (h : Continues s₀ s) : ContinuesSome s₀ (s.loadAudio table i n b) := by
  induction n generalizing s i b with
  | zero => exact .some h
  | succ n ih =>
    unfold State.loadAudio
    split
    · next e => exact ih (h.loadAudioEntry e)
    · exact .none

theorem Continues.loadBands {ty i n : Nat} {b : List Byte} (h : Continues s₀ s) : ContinuesSome s₀ (s.loadBands ty i n b) := by
  induction n generalizing s i b with
  | zero => exact .some h
  | succ n ih => exact .ite .none (ih h.setSyn)

theorem Continues.loadInitial {r : InitialRec} (h : Continues s₀ s) : Continues s₀ (s.loadInitial r) := h.setXpt
theorem Continues.loadLintel {r : LintelRec} (h : Continues s₀ s) : Continues s₀ (s.loadLintel r) := h.setCfg

theorem Continues.applyRecord {d : ImageDesc} {p : Nat} (h : Continues s₀ s) : Continues s₀ (s.applyRecord d p).1 := by
  unfold State.applyRecord
  extract_lets ty
  clear_value ty
  split
  · exact h.loadRegs
  · exact h.dramPut
  · exact .iteFst h h.loadKeys
  · split
    · exact h.loadInitial
    · exact h
  · refine .iteFst h ?_
    split
    · next e => exact h.loadAudio e
    · exact h
  · split
    · exact h.loadLintel
    · exact h
  · refine .iteFst h ?_
    split
    · next e => exact h.loadBands e
    · exact h
  · exact h

theorem Continues.applyRecords {n p : Nat} {d : ImageDesc} {bad : List Nat} (h : Continues s₀ s) :
    Continues s₀ (State.applyRecords n p d s bad).1 := by
  induction n generalizing s p d bad with
  | zero => exact h
  | succ n ih => exact .iteFst h (ih h.applyRecord)

theorem Continues.defaultLines (h : Continues s₀ s) : Continues s₀ s.defaultLines := h.foldl fun _ _ h => h.wrFld

theorem Continues.contentAgain {n p : Nat} (h : Continues s₀ s) : Continues s₀ (State.contentAgain n p s) := by
  induction n generalizing s p with
  | zero => exact h
  | succ n ih => exact .ite h (ih (.ite h.dramPut h))

theorem Continues.loadDesc {d : ImageDesc} (h : Continues s₀ s) : Continues s₀ (s.loadDesc d) :=
  .setStreams (.setProt (.setCtl (.setCfg (.foldl (.foldl (h.foldl fun _ _ h => h.wr) fun _ _ h => h.wrFld) fun _ _ h => h.wrBit))))

theorem Continues.setAllowances (h : Continues s₀ s) : Continues s₀ s.setAllowances := h.foldl fun _ _ h => .ite (.ite h.setCfg h) h
theorem Continues.toLoops (h : Continues s₀ s) : Continues s₀ s.toLoops := .setPower (.setBoot (h.foldl fun _ _ h => .ite h h.wrBit))

theorem Continues.applyImage {d : ImageDesc} (h : Continues s₀ s) : Continues s₀ (s.applyImage d).1 :=
  h.applyRecords.wrFld.loadDesc.defaultLines.placeStreams.adjustImage.foLoad.setAllowances

theorem Continues.execRecordsApplied {t : Nat} {d : ImageDesc} (h : Continues s₀ s) : ContinuesNext s₀ (execRecordsApplied t d s) := by
  have hs : Continues s₀ (s.at t) := h.at
  refine .ite (.next hs) ?_
  split
  · next e => exact .next (hs.applyImage.fst e).slotRefused
  · next e => exact .next (hs.applyImage.fst e).toLoops

/-! Power. Resets, sowing and reaping, the end of BOOT and of TRAIN, the adaptive core voltage. -/

/-- The internal reset starts from a fresh record, and hands on the part, the clock, the waiting commands and what was sent (R466). -/
theorem Continues.internalReset (h : Continues s₀ s) : Continues s₀ s.internalReset := ⟨h.dev, h.pending, h.now, h.out⟩
theorem Continues.resetCause {code : Nat} (h : Continues s₀ s) : Continues s₀ (s.resetCause code) := h.wrFld.wrFld
theorem Continues.enterTest (h : Continues s₀ s) : Continues s₀ s.enterTest := h.keyLow.setMode.leaveBoot

theorem Continues.endReset {straps : Nat} (h : Continues s₀ s) : Continues s₀ (s.endReset straps) :=
  have h1 := h.endClosing.setPins.setPower.setBoot.setCtl
  .ite (.ite h1.setBoot.enterTest h1) h

theorem Continues.execPowerOn {t straps : Nat} {resetN : Bool} (h : Continues s₀ s) : ContinuesNext s₀ (execPowerOn t straps resetN s) :=
  .next h.at.setPins.internalReset.setRegs.endReset

theorem Continues.resetBegins {c : ReapCause} (h : Continues s₀ s) : Continues s₀ (s.resetBegins c) := by
  unfold State.resetBegins
  split
  · exact h.reapForReset
  · exact h.reapForReset
  · exact h.reapForReset
  · exact h.reapForReset.queueLife

theorem Continues.execResetNFall {t : Nat} (h : Continues s₀ s) : ContinuesNext s₀ (execResetNFall t s) :=
  have h1 := h.at.setPins
  .ite (.next h1) (.next h1.resetBegins)

theorem Continues.execResetNRelease {t straps : Nat} (h : Continues s₀ s) : ContinuesNext s₀ (execResetNRelease t straps s) :=
  .next h.at.setPins.endReset

theorem Continues.execPowerFail {t : Nat} (h : Continues s₀ s) : ContinuesNext s₀ (execPowerFail t s) :=
  have h1 := h.at.setPins
  .ite (.next h1.wrFld) (.next h1.reapForReset)

theorem Continues.execPowerFailEnd {t straps : Nat} (h : Continues s₀ s) : ContinuesNext s₀ (execPowerFailEnd t straps s) :=
  .next h.at.setPins.endReset

theorem Continues.execTestReset {t : Nat} (h : Continues s₀ s) : ContinuesNext s₀ (execTestReset t s) := .next h.at

theorem Continues.execInternalResetEnd {t straps : Nat} (h : Continues s₀ s) : ContinuesNext s₀ (execInternalResetEnd t straps s) :=
  .next h.at.endReset

theorem Continues.loadBootValues (h : Continues s₀ s) : Continues s₀ s.loadBootValues :=
  .setBoot (.wrFld (h.wr.wr.wr.wr.wr.foldl fun _ _ h => h.wr))

theorem Continues.imageAccepted (h : Continues s₀ s) : Continues s₀ s.imageAccepted :=
  have h1 := h.loadBootValues
  .ite h (.ite h1.enterTest.fellBack h1.setMode.leaveBoot)

theorem Continues.execSynthLoopLocked {t n band : Nat} (h : Continues s₀ s) : ContinuesNext s₀ (execSynthLoopLocked t n band s) :=
  have hs := h.at
  have h1 := hs.setBoot.wr
  have h3 := (Continues.ite h1.setVfs h1).synRefresh
  .ite (.next hs) (.ite (.next h3.imageAccepted) (.next h3))

theorem Continues.execSynthLockTimeout {t n : Nat} (h : Continues s₀ s) : ContinuesNext s₀ (execSynthLockTimeout t n s) := by
  have hs : Continues s₀ (s.at t) := h.at
  unfold Machine.execSynthLockTimeout
  extract_lets
  split
  · exact .ite (.next hs.slotRefused) (.next hs)
  · exact .next hs

theorem Continues.readVoutMode {vout : Option Nat} (h : Continues s₀ s) : Continues s₀ (s.readVoutMode vout) := by
  refine .ite h ?_
  split
  · exact .ite h.wrBit h.orReg
  · exact h.orReg

theorem Continues.execSowStageStart {t : Nat} {vout : Option Nat} (h : Continues s₀ s) : ContinuesNext s₀ (execSowStageStart t vout s) :=
  have hs := h.at
  have h1 := hs.setPower
  .ite (.next hs) (.ite (.next (Continues.ite h1 h1.readJournal).readVoutMode) (.next h1))

theorem Continues.sowLanes {u : Nat} (h : Continues s₀ s) : Continues s₀ (s.sowLanes u) :=
  .setPower ((Continues.ite h.mdllOn h).foldl fun _ _ h => h.setLane.startMove)

theorem Continues.blockRises {b : BlockId} (h : Continues s₀ s) : Continues s₀ (s.blockRises b) := by
  unfold State.blockRises
  split
  · exact h.setBoot
  · exact h.setBoot
  · exact h.sowLanes
  · exact h.sowLanes
  · exact .ite h.sowFill.contentAgain h
  · exact h

theorem Continues.execSowBlock {t : Nat} {rated : List (Nat × Nat)} (h : Continues s₀ s) : ContinuesNext s₀ (execSowBlock t rated s) := by
  have hs : Continues s₀ (s.at t) := h.at
  unfold Machine.execSowBlock
  extract_lets
  split
  · exact .ite (.next hs.takeRails.setPower.blockRises) (.next hs)
  · exact .next hs

theorem Continues.copyTables (h : Continues s₀ s) : Continues s₀ s.copyTables := h.setTables

theorem Continues.stageDone {n : Nat} (h : Continues s₀ s) : Continues s₀ (s.stageDone n) :=
  have h1 := (Continues.ite h h.copyTables).startFree
  .ite h.trainStart (.ite (.ite h1.soloService h1) h)

theorem Continues.execSowStageComplete {t : Nat} (h : Continues s₀ s) : ContinuesNext s₀ (execSowStageComplete t s) :=
  have hs := h.at
  .ite (.next hs) (.next hs.setPower.stageDone)

theorem Continues.execTrainClosingClaim {t : Nat} (h : Continues s₀ s) : ContinuesNext s₀ (execTrainClosingClaim t s) :=
  have hs := h.at
  .ite (.next hs) (.ite (.next hs.soloService) (.ite (.next hs.enterJoin) (.ite (.next hs.closeTrain) (.next hs.setTwn))))

theorem Continues.execDramTrainStepDone {t : Nat} {chans : List TrainChan} (h : Continues s₀ s) :
    ContinuesNext s₀ (execDramTrainStepDone t chans s) := by
  have hs : Continues s₀ (s.at t) := h.at
  refine .ite (.next hs) (.ite (.next hs.trainStep) ?_)
  split
  · exact .next hs.trainStep.slotRefused
  · exact .ite (.next hs.trainStep.contentAgain.fellBack) (.next hs.trainStep)

theorem Continues.reapLanes {u : Nat} (h : Continues s₀ s) : Continues s₀ (s.reapLanes u) :=
  .setPower (.ite (.wrFld (h.foldl fun _ _ h => h.setPstate.wrFld.setLane)) (h.foldl fun _ _ h => h.setPstate.wrFld.setLane))

theorem Continues.leaveGroups (h : Continues s₀ s) : Continues s₀ s.leaveGroups := .ite (.setMed (h.foldl fun _ _ h => .ite h.igmp h)) h

theorem Continues.blockFalls {b : BlockId} (h : Continues s₀ s) : Continues s₀ (s.blockFalls b) := by
  unfold State.blockFalls
  extract_lets
  split
  · exact h.setBoot.wrBit
  · exact h.setBoot.wrBit.wrBit.foldl fun _ _ h => h.setDrc.wr
  · exact h.reapLanes
  · exact h.reapLanes
  · exact h.leaveGroups
  · exact h

theorem Continues.execReapBlock {t : Nat} {rated : List (Nat × Nat)} (h : Continues s₀ s) : ContinuesNext s₀ (execReapBlock t rated s) := by
  have hs : Continues s₀ (s.at t) := h.at
  unfold Machine.execReapBlock
  extract_lets
  split
  · exact .next hs
  · split
    · exact .next hs
    · exact .ite (.next hs.takeRails.setPower.blockFalls) (.next hs)

theorem Continues.execReapingComplete {t : Nat} (h : Continues s₀ s) : ContinuesNext s₀ (execReapingComplete t s) := by
  have hs : Continues s₀ (s.at t) := h.at
  unfold Machine.execReapingComplete
  extract_lets
  split
  · exact .next hs
  · refine .ite (.next hs) ?_
    split
    · exact .ite (.next hs.setPower.setPower.resetBegins) (.next hs.setPower)
    · exact .next hs.setPower.keyLow.endClosing.unload.setMode.enterBoot
    · exact .ite (.next hs.setPower.resetCause.internalReset) (.next hs)

theorem Continues.execStopTailEnd {t p : Nat} (h : Continues s₀ s) : ContinuesNext s₀ (execStopTailEnd t p s) :=
  have hs := h.at
  .ite (.next hs.setPort.wrBit.setPower) (.next hs)

theorem Continues.restart (h : Continues s₀ s) : Continues s₀ s.restart := .ite h.setPower h.resetBegins
theorem Continues.cmdEnterSafe (h : Continues s₀ s) : Continues s₀ s.cmdEnterSafe := h.enterSafe

theorem Continues.execEnterSafe {t confirm : Nat} (h : Continues s₀ s) : ContinuesNext s₀ (execEnterSafe t confirm s) :=
  have hs := h.at
  .ite (.next hs.cmdEnterSafe) (.next hs)

theorem Continues.execAvsTargetCompute {t need : Nat} (h : Continues s₀ s) : ContinuesNext s₀ (execAvsTargetCompute t need s) :=
  have hs := h.at
  .ite (.next (Continues.ite hs.orReg hs).setPower.wrFld) (.next hs)

theorem Continues.pmbusFail (h : Continues s₀ s) : Continues s₀ s.pmbusFail := h.orReg
theorem Continues.voutCommand {mv : Nat} (h : Continues s₀ s) : Continues s₀ (s.voutCommand mv) := (Continues.ite h h.emit).emit

theorem Continues.execAvsStep {t own : Nat} {acked : Bool} (h : Continues s₀ s) : ContinuesNext s₀ (execAvsStep t own acked s) :=
  have hs := h.at
  have h1 := hs.voutCommand.setPower
  .ite (.next hs) (.ite (.next h1.wrFld) (.next h1.pmbusFail))

theorem Continues.execPmbusIoutRead {t : Nat} {iout : Option Nat} (h : Continues s₀ s) : ContinuesNext s₀ (execPmbusIoutRead t iout s) := by
  have hs : Continues s₀ (s.at t) := h.at
  refine .ite (.next hs) ?_
  split
  · exact .next hs.wr
  · exact .next hs.pmbusFail

/-! Session. Write sessions, the directory writes and the commands of BOOT_CTRL and of IMAGE_CHUNK. -/

theorem Continues.lastResult {r : Nat} (h : Continues s₀ s) : Continues s₀ (s.lastResult r) := h.wrFld

theorem Continues.execDirectoryWrite {t : Nat} (h : Continues s₀ s) : ContinuesNext s₀ (execDirectoryWrite t s) :=
  have hs := h.at
  have h1 := hs.flashErase.flashPut.wrBit
  .ite (.next hs) (.next (Continues.ite h1.wrFld h1).setBoot.mntDone)

theorem Continues.setNext {x : Slot} (h : Continues s₀ s) : Continues s₀ (s.setNext x).1 := by
  refine .iteFst h ?_
  split
  · exact h.setBoot.queueDir
  · exact h.setBoot.queueDir
  · exact h

theorem Continues.dropChunks (h : Continues s₀ s) : Continues s₀ s.dropChunks := h.setRes
theorem Continues.closeSession {state : Nat} (h : Continues s₀ s) : Continues s₀ (s.closeSession state) := h.setBoot.dropChunks.wrFld
theorem Continues.cmdSetNext {x : Slot} (h : Continues s₀ s) : Continues s₀ (s.cmdSetNext x) := .ite h.setNext.lastResult h.lastResult

theorem Continues.cmdAbortWrite (h : Continues s₀ s) : Continues s₀ s.cmdAbortWrite :=
  .ite h.lastResult (.ite h.closeSession.lastResult h.lastResult)

theorem Continues.cmdRestart (h : Continues s₀ s) : Continues s₀ s.cmdRestart := .ite h.lastResult h.lastResult.restart

theorem Continues.bootCtrl {confirm cmd : Nat} (h : Continues s₀ s) : Continues s₀ (s.bootCtrl confirm cmd) := by
  refine .ite h ?_
  split
  · exact h
  · exact h.cmdSetNext
  · exact h.cmdSetNext
  · exact h.cmdAbortWrite
  · exact h.cmdRestart
  · exact h.lastResult

theorem Continues.execSetNextA {t confirm : Nat} (h : Continues s₀ s) : ContinuesNext s₀ (execSetNextA t confirm s) := .next h.at.bootCtrl
theorem Continues.execSetNextB {t confirm : Nat} (h : Continues s₀ s) : ContinuesNext s₀ (execSetNextB t confirm s) := .next h.at.bootCtrl

theorem Continues.execAbortWrite {t confirm : Nat} (h : Continues s₀ s) : ContinuesNext s₀ (execAbortWrite t confirm s) :=
  .next h.at.bootCtrl

theorem Continues.execRestart {t confirm : Nat} (h : Continues s₀ s) : ContinuesNext s₀ (execRestart t confirm s) := .next h.at.bootCtrl

theorem Continues.execBadCommand {t confirm cmd : Nat} (h : Continues s₀ s) : ContinuesNext s₀ (execBadCommand t confirm cmd s) :=
  have hs := h.at
  .ite (.next hs.bootCtrl) (.next hs)

theorem Continues.fuseWrite {w : Word} {got : List Byte} (h : Continues s₀ s) : Continues s₀ (s.fuseWrite w got) :=
  have h1 := h.wrFld
  have h2 := h1.setBoot
  .ite (.ite h2 h2.wrBit) h1

theorem Continues.execFuseBurn {t value : Nat} {got : List Byte} (h : Continues s₀ s) : ContinuesNext s₀ (execFuseBurn t value got s) :=
  .next h.at.fuseWrite

theorem Continues.chunkOk {r : ReplyTo} (h : Continues s₀ s) : Continues s₀ (s.chunkOk r) := h.lastResult.ackMsg
theorem Continues.chunkNo {r : ReplyTo} {code : Nat} (h : Continues s₀ s) : Continues s₀ (s.chunkNo r code) := h.lastResult.nakMsg

theorem Continues.takeImage {op : Nat} {m : Msg} {t : State} (h : Continues s₀ s) (e : s.takeImage op = some (m, t)) :
    Continues s₀ t := by
  unfold State.takeImage at e
  split at e
  · next e' =>
    split at e
    · obtain ⟨_, rfl⟩ : _ ∧ _ = t := by simpa using e
      exact h.takeMsg e'
    · cases e
  · cases e

theorem Continues.openSession {m : Msg} (h : Continues s₀ s) : Continues s₀ (s.openSession m) := h.dropChunks.setBoot.queueDir.wr.wr

theorem Continues.execImageStart {t : Nat} (h : Continues s₀ s) : ContinuesNext s₀ (execImageStart t s) := by
  have hs : Continues s₀ (s.at t) := h.at
  unfold Machine.execImageStart
  extract_lets
  split
  · exact .next hs
  · next e =>
    exact .ite (.next (hs.takeImage e)) (.ite (.next (hs.takeImage e).chunkNo)
      (.ite (.next (hs.takeImage e).chunkNo) (.ite (.next (hs.takeImage e).chunkNo)
      (.ite (.next (hs.takeImage e).chunkNo) (.next (hs.takeImage e).openSession.chunkOk)))))

theorem Continues.setSession {w : WriteSession} (h : Continues s₀ s) : Continues s₀ (s.setSession w) := h.setBoot

theorem Continues.queueChunk {w : WriteSession} {c : QueuedChunk} (h : Continues s₀ s) : Continues s₀ (s.queueChunk w c) := by
  unfold State.queueChunk
  extract_lets
  split
  · exact h.setSession.mntRequest.wrFld
  · exact h.setSession.mntRequest

theorem Continues.execImageData {t : Nat} (h : Continues s₀ s) : ContinuesNext s₀ (execImageData t s) := by
  have hs : Continues s₀ (s.at t) := h.at
  unfold Machine.execImageData
  extract_lets
  split
  · exact .next hs
  · next e =>
    refine .ite (.next (hs.takeImage e)) (.ite (.next (hs.takeImage e).chunkNo) ?_)
    split
    · exact .next (hs.takeImage e).chunkNo
    · extract_lets w s2
      have h2 : Continues s₀ s2 := (hs.takeImage e).setSession
      exact .ite (.next h2.chunkNo) (.ite (.next h2.chunkOk) (.ite (.next h2.chunkNo) (.ite (.next h2.chunkNo) (.next h2.queueChunk))))

theorem Continues.eraseFor {x : Slot} {off n : Nat} (h : Continues s₀ s) : Continues s₀ (s.eraseFor x off n) :=
  h.foldl fun _ _ h => h.flashErase

theorem Continues.programChunk {w : WriteSession} {c : QueuedChunk} {ok : Bool} (h : Continues s₀ s) :
    Continues s₀ (s.programChunk w c ok) :=
  have h1 := h.eraseFor
  .ite h1.flashPut.setSession.wr.chunkOk h1.flashPut.freeNext.setSession.raise.chunkNo

theorem Continues.execChunkProgrammed {t : Nat} {ok : Bool} (h : Continues s₀ s) : ContinuesNext s₀ (execChunkProgrammed t ok s) := by
  have hs : Continues s₀ (s.at t) := h.at
  unfold Machine.execChunkProgrammed
  extract_lets
  split
  · refine .ite (.next hs) (.ite (.next hs.mntDone) ?_)
    split
    · exact .next hs.mntDone
    · exact .next (Continues.ite hs.programChunk (.ite hs.setSession.chunkOk hs.setSession.chunkNo)).mntDone
  · exact .ite (.next hs.mntDone) (.next hs)
  · exact .next hs

theorem Continues.execImageEnd {t : Nat} (h : Continues s₀ s) : ContinuesNext s₀ (execImageEnd t s) := by
  have hs : Continues s₀ (s.at t) := h.at
  unfold Machine.execImageEnd
  extract_lets
  split
  · exact .next hs
  · next e =>
    refine .ite (.next (hs.takeImage e)) (.ite (.next (hs.takeImage e).chunkNo) ?_)
    split
    · exact .next (hs.takeImage e).chunkNo
    · exact .ite (.next (hs.takeImage e).setSession.chunkNo)
        (.ite (.next (hs.takeImage e).setSession.closeSession.chunkNo) (.next (hs.takeImage e).setSession.setBoot.queueDir.closeSession.chunkOk))

theorem Continues.execImageSetNext {t : Nat} (h : Continues s₀ s) : ContinuesNext s₀ (execImageSetNext t s) := by
  have hs : Continues s₀ (s.at t) := h.at
  unfold Machine.execImageSetNext
  extract_lets
  split
  · exact .next hs
  · next e =>
    exact .ite (.next (hs.takeImage e)) (.ite (.next (hs.takeImage e).chunkNo)
      (.ite (.next (hs.takeImage e).setNext.chunkOk) (.next (hs.takeImage e).setNext.chunkNo)))

theorem Continues.execImageRestart {t : Nat} (h : Continues s₀ s) : ContinuesNext s₀ (execImageRestart t s) := by
  have hs : Continues s₀ (s.at t) := h.at
  unfold Machine.execImageRestart
  extract_lets
  split
  · exact .next hs
  · next e =>
    exact .ite (.next (hs.takeImage e)) (.ite (.next (hs.takeImage e).chunkNo)
      (.ite (.next (hs.takeImage e).chunkNo) (.next (hs.takeImage e).chunkOk.restart)))

theorem Continues.execImageAbortWrite {t : Nat} (h : Continues s₀ s) : ContinuesNext s₀ (execImageAbortWrite t s) := by
  have hs : Continues s₀ (s.at t) := h.at
  unfold Machine.execImageAbortWrite
  extract_lets
  split
  · exact .next hs
  · next e =>
    refine .ite (.next (hs.takeImage e)) (.ite (.next (hs.takeImage e).chunkNo) ?_)
    split
    · exact .next (hs.takeImage e).chunkNo
    · exact .next (hs.takeImage e).closeSession.chunkOk

theorem Continues.execWriteSessionTimeout {t : Nat} (h : Continues s₀ s) : ContinuesNext s₀ (execWriteSessionTimeout t s) := by
  have hs : Continues s₀ (s.at t) := h.at
  unfold Machine.execWriteSessionTimeout
  extract_lets
  split
  · exact .ite (.next hs.closeSession.lastResult) (.next hs)
  · exact .next hs

/-! Status. Fratin STATUS. -/

theorem Continues.takeStatus {item n : Nat} {m : Msg} {t : State} (h : Continues s₀ s) (e : s.takeStatus item = some (m, n, t)) :
    Continues s₀ t := by
  unfold State.takeStatus at e
  split at e
  · next e' =>
    split at e
    · obtain ⟨_, _, rfl⟩ : _ ∧ _ ∧ _ = t := by simpa using e
      exact h.takeMsg e'
    · cases e
  · cases e

theorem Continues.statusItem {item : Nat} {data : State → Nat → List Byte} (h : Continues s₀ s) : Continues s₀ (s.statusItem item data) := by
  unfold State.statusItem
  split
  · exact h
  · next e => exact (h.takeStatus e).answer

theorem Continues.execStatusDeviceSummary {t : Nat} (h : Continues s₀ s) : ContinuesNext s₀ (execStatusDeviceSummary t s) :=
  .next h.at.statusItem

theorem Continues.execStatusTimingGroup {t : Nat} (h : Continues s₀ s) : ContinuesNext s₀ (execStatusTimingGroup t s) :=
  .next h.at.statusItem

theorem Continues.execStatusStoredStream {t : Nat} (h : Continues s₀ s) : ContinuesNext s₀ (execStatusStoredStream t s) :=
  .next h.at.statusItem

theorem Continues.execStatusFaultSummary {t : Nat} (h : Continues s₀ s) : ContinuesNext s₀ (execStatusFaultSummary t s) :=
  .next h.at.statusItem

theorem Continues.execStatusFlowContext {t : Nat} (h : Continues s₀ s) : ContinuesNext s₀ (execStatusFlowContext t s) :=
  .next h.at.statusItem

theorem Continues.execStatusHealth {t : Nat} (h : Continues s₀ s) : ContinuesNext s₀ (execStatusHealth t s) := .next h.at.statusItem

theorem Continues.execStatusBootRegisters {t : Nat} (h : Continues s₀ s) : ContinuesNext s₀ (execStatusBootRegisters t s) :=
  .next h.at.statusItem

theorem Continues.execStatusLintel {t : Nat} (h : Continues s₀ s) : ContinuesNext s₀ (execStatusLintel t s) := .next h.at.statusItem
theorem Continues.execStatusAudioPort {t : Nat} (h : Continues s₀ s) : ContinuesNext s₀ (execStatusAudioPort t s) := .next h.at.statusItem

/-! Service. The firmware's service period. -/

theorem Continues.serviceAck (h : Continues s₀ s) : Continues s₀ s.serviceAck := h.ack

theorem Continues.serviceLive (h : Continues s₀ s) : Continues s₀ s.serviceLive :=
  .settlePending (.setXpt (h.foldl fun _ _ h => .ite h.applyLives h))

theorem Continues.ringPut {r : FaultRec} (h : Continues s₀ s) : Continues s₀ (s.ringPut r) := h.winWrite.wr
theorem Continues.drainRing (h : Continues s₀ s) : Continues s₀ s.drainRing := .ite (h.setFlt.foldl fun _ _ h => h.ringPut) h

theorem Continues.execServicePeriod {t : Nat} (h : Continues s₀ s) : ContinuesNext s₀ (execServicePeriod t s) :=
  have hs := h.at
  .ite (.next hs) (.next hs.serviceLive.serviceAck.appendSevere.drainRing)

theorem Continues.thumbReady {f : Nat} {bs : List Byte} (h : Continues s₀ s) : Continues s₀ (s.thumbReady f bs) := h.setDma

theorem Continues.execThumbnailInterval {t f : Nat} {pictures : List (List Byte)} (h : Continues s₀ s) :
    ContinuesNext s₀ (execThumbnailInterval t f pictures s) := by
  have hs : Continues s₀ (s.at t) := h.at
  refine .ite (.next hs) ?_
  split
  · exact .next hs.thumbReady.setFst.advance
  · exact .next hs.thumbReady.setFst

/-! RegAccess. Reads and writes of registers from the card port, firmware, DMA and SPI. -/

theorem Continues.readCodes {off : Nat} (h : Continues s₀ s) : Continues s₀ (s.readCodes off).1 := h.freeNext

theorem Continues.countsKept {off : Nat} (h : Continues s₀ s) : Continues s₀ (s.countsKept off) := by
  unfold State.countsKept
  split
  · exact h.setFresh
  · exact h

theorem Continues.readCounter {off : Nat} (h : Continues s₀ s) : Continues s₀ (s.readCounter off).1 := h.wr.countsKept

theorem Continues.readLo {r : RegRow} {off : Nat} (h : Continues s₀ s) : Continues s₀ (s.readLo r off).1 :=
  have h1 := h.setSnap
  .ite h1 h1.wr64.countsKept

theorem Continues.readRow {r : RegRow} {off : Nat} (h : Continues s₀ s) : Continues s₀ (s.readRow r off).1 :=
  .iteFst h.readLo (.iteFst h (.iteFst h h.readCounter))

theorem Continues.readStreamCount {drop : Bool} (h : Continues s₀ s) : Continues s₀ (s.readStreamCount drop) := h.setStream

theorem Continues.busRead {off : Nat} (h : Continues s₀ s) : Continues s₀ (s.busRead off).1 := by
  refine .iteFst h (.iteFst h.freeNext (.iteFst h.readCodes (.iteFst h.popRecord
    (.iteFst h.captureRead (.iteFst h.qmaxRead (.iteFst h.readStreamCount (.iteFst h.readStreamCount
    (.iteFst h.timeSnapshot (.iteFst h.setFlt.readCounter ?_)))))))))
  split
  · exact h.readRow
  · exact h

theorem Continues.readOut {off : Nat} (h : Continues s₀ s) : Continues s₀ (s.readOut off) := h.busRead.emit

theorem Continues.execRcCounterRead {t off : Nat} (h : Continues s₀ s) : ContinuesNext s₀ (execRcCounterRead t off s) := by
  have hs : Continues s₀ (s.at t) := h.at
  unfold Machine.execRcCounterRead
  extract_lets
  split
  · exact .ite (.next hs) (.next hs.readOut)
  · exact .next hs

theorem Continues.execLoSnapshotRead {t off : Nat} (h : Continues s₀ s) : ContinuesNext s₀ (execLoSnapshotRead t off s) := by
  have hs : Continues s₀ (s.at t) := h.at
  unfold Machine.execLoSnapshotRead
  extract_lets
  split
  · exact .ite (.next hs.readOut) (.next hs)
  · exact .next hs

theorem Continues.applyWrite {r : RegRow} {off : Nat} {w : Word} (h : Continues s₀ s) : Continues s₀ (s.applyWrite r off w) :=
  have h0 := h.wr
  (Continues.ite h0.setSnap h0).foldl fun _ _ h => .ite h.irqRise (.ite h.signal h)

theorem Continues.writeControl {x : WriteAux} {off : Nat} {w : Word} (h : Continues s₀ s) : ContinuesSome s₀ (s.writeControl x off w) := by
  refine .ite (.some (.ite h.cmdEnterSafe h)) (.ite (.some h.bootCtrl) (.ite (.some h.fuseWrite)
    (.ite (.ite .none (.some h)) (.ite (.some h.ack) (.ite (.some h.fltKick) (.ite (.some h.ack) (.ite (.some ?_) .none)))))))
  split
  · exact h.cmdGiveUp
  · exact h.cmdHandoverArm
  · exact h.cancelAndTell
  · exact h.cmdResync
  · exact h.cmdArbitrate
  · exact h

theorem Continues.writeTiming {x : WriteAux} {off : Nat} {w : Word} (h : Continues s₀ s) : ContinuesSome s₀ (s.writeTiming x off w) := by
  refine .ite (.some (.ite h.realign h)) (.ite (.some (.ite h.relock h)) (.ite (.some (.ite h.acceptStep h))
    (.ite (.some (.ite h.snapStart h.wrFld)) (.ite (.some ?_) (.ite (.some (.ite h.rateWrite h.rateWrite.wrFld))
    (.ite (.some (.ite h.queueLife h)) .none))))))
  split
  · exact h.trainCommand
  · exact h.mr4Command
  · exact h

theorem Continues.writeLane {x : WriteAux} {off : Nat} {w : Word} (h : Continues s₀ s) : ContinuesSome s₀ (s.writeLane x off w) := by
  refine .ite ?_ .none
  extract_lets i s1 s2
  have h2 : Continues s₀ s2 := .ite h.testFields.testStop (.ite h.testFields.testStart h.testFields)
  split
  · exact .some h.pwrReq
  · exact .some h.setTxEq
  · exact .some h.rxCtrlWrite
  · exact .some h.rxCtrlWrite
  · exact .some (.ite h2.inject h2)
  · exact .some (.ite h.eyeWrite h.eyeFields)
  · exact .none

theorem Continues.writeEssence {off : Nat} {w : Word} (h : Continues s₀ s) : ContinuesSome s₀ (s.writeEssence off w) := by
  refine .ite ?_ (.ite (.some h.lintelRefused) .none)
  split
  · exact .some h.maskLoWrite
  · exact .some h.maskHiWrite
  · exact .some h.maskLoWrite
  · exact .some h.maskHiWrite
  · exact .none

theorem Continues.writePort {card : Bool} {off : Nat} {w : Word} (h : Continues s₀ s) : ContinuesSome s₀ (s.writePort card off w) := by
  refine .ite (.some (.ite (Continues.ite h.wrBit h.dmaDisable).clearErr (.ite h.wrBit h.dmaDisable)))
    (.ite (.ite (.some h.bump.cptEvent) ?_) (.ite (.some (.ite h.mbxGo h.wrFld))
    (.ite (.some h.mbxInWrite) (.ite (.some (.ite h.mbxRelease h)) (.ite (.ite .none (.some h)) (.ite (.some h.wrBit.unmasked) .none))))))
  split
  · exact .some (.ite h.kick h)
  · exact .ite .none (.some h)
  · exact .ite .none (.some h)
  · exact .none

theorem Continues.writeActs {x : WriteAux} {card : Bool} {off : Nat} {w : Word} (h : Continues s₀ s) :
    ContinuesSome s₀ (s.writeActs x card off w) :=
  .ite h.writeControl (.ite h.writeTiming (.ite h.writeEssence (.ite h.writePort (.ite h.writeTiming (.ite h.writeLane h.writeTiming)))))

theorem Continues.busWrite {x : WriteAux} {card : Bool} {off : Nat} {w : Word} (h : Continues s₀ s) :
    Continues s₀ (s.busWrite x card off w) := by
  refine .ite h ?_
  split
  · next e => exact h.writeActs e
  · split
    · exact h.applyWrite
    · exact h

theorem Continues.execRegisterWrite {t off value : Nat} {fromCard full : Bool} {aux : WriteAux} (h : Continues s₀ s) :
    ContinuesNext s₀ (execRegisterWrite t off value fromCard full aux s) :=
  have hs := h.at
  .ite .fault (.ite (.next hs) (.ite (.next hs.bump.cptEvent) (.next hs.busWrite)))

theorem Continues.spiWords {addr n : Nat} (h : Continues s₀ s) : Continues s₀ (s.spiWords addr n) := by
  induction n generalizing s addr with
  | zero => exact h
  | succ n ih => exact ih h.readOut

theorem Continues.execSpiRead {t addr n : Nat} {late : Bool} (h : Continues s₀ s) : ContinuesNext s₀ (execSpiRead t addr n late s) :=
  have hs := h.at
  .ite (.next hs) (.ite (.next hs.busRead.emit.setCard.spiWords) (.next hs.spiWords))

theorem Continues.spiPuts {x : WriteAux} {addr : Nat} {vs : List Nat} (h : Continues s₀ s) : Continues s₀ (s.spiPuts x addr vs) := by
  induction vs generalizing s addr with
  | nil => exact h
  | cons v vs ih => exact ih h.busWrite

theorem Continues.execSpiWrite {t addr : Nat} {words : List Nat} {partial_ : Bool} {aux : WriteAux} (h : Continues s₀ s) :
    ContinuesNext s₀ (execSpiWrite t addr words partial_ aux s) :=
  have hs := h.at
  .ite (.next hs) (.next hs.spiPuts.setCard)

theorem Continues.execSpiStatus {t : Nat} (h : Continues s₀ s) : ContinuesNext s₀ (execSpiStatus t s) :=
  have hs := h.at
  .ite (.next hs) (.next hs.emit.setCard)

theorem Continues.readWords {off : Nat} {fixed : Bool} {n : Nat} (h : Continues s₀ s) : Continues s₀ (s.readWords off fixed n).1 := by
  induction n generalizing s off with
  | zero => exact h
  | succ n ih => exact ih h.busRead

theorem Continues.writeWords {off n : Nat} {bs : List Byte} (h : Continues s₀ s) : Continues s₀ (s.writeWords off n bs) := by
  induction n generalizing s off bs with
  | zero => exact h
  | succ n ih => exact ih h.busWrite

theorem Continues.takeThumb {f n : Nat} (h : Continues s₀ s) : Continues s₀ (s.takeThumb f n).1 := h.setDma

theorem Continues.burstRead {c n : Nat} {host : List Byte} (h : Continues s₀ s) : ContinuesOkFst s₀ (s.burstRead c n host) := by
  unfold State.burstRead
  extract_lets
  split
  · exact .ite (.ok h.takeThumb) (.ok h.readWords)
  · exact h.memRead

theorem Continues.burstWrite {c : Nat} {bs : List Byte} (h : Continues s₀ s) : ContinuesOk s₀ (s.burstWrite c bs) := by
  unfold State.burstWrite
  extract_lets
  split
  · exact .ok h.writeWords
  · exact .ite .error (.ok (.ite (Continues.ite h.pwPuts.pwGo h.pwPuts).pwFree (.ite h.pwPuts.pwGo h.pwPuts)))
  · exact h.memWrite

theorem Continues.burstDone {c n : Nat} (h : Continues s₀ s) : Continues s₀ (s.burstDone c n) := .ite h.setChan.advance h.setChan

theorem Continues.execDmaBurstComplete {t c err : Nat} {host : List Byte} (h : Continues s₀ s) :
    ContinuesNext s₀ (execDmaBurstComplete t c err host s) := by
  have hs : Continues s₀ (s.at t) := h.at
  refine .ite (.next hs) (.ite (.next hs.busError) ?_)
  split
  · exact .next hs.busError
  · next e =>
    have h1 := hs.burstRead e
    split
    · exact .next h1.busError
    · next e' => exact .next (h1.burstWrite e').burstDone

/-! Wall. The party wall's receiver. -/

theorem Continues.hearMessage {ty : Nat} {b : List Byte} (h : Continues s₀ s) : Continues s₀ (s.hearMessage ty b) := by
  unfold State.hearMessage
  extract_lets
  split
  · split
    · exact h.hearHeartbeat
    · exact h.bump
  · exact .ite h.hearGiveUp h.bump
  · split
    · exact h.hearDecision
    · exact h.bump
  · split
    · exact h.hearOrder
    · exact h.bump
  · split
    · exact h.hearDigest
    · exact h.bump
  · exact h.bump

theorem Continues.takeFragment {f : List Byte} (h : Continues s₀ s) : Continues s₀ (s.takeFragment f) :=
  .ite (h.mailFragment.getD h) (.ite h.setWall.hearMessage h.setWall)

theorem Continues.closeBlock {bseq ack : Nat} {data : List Byte} {crc : Nat} (h : Continues s₀ s) :
    Continues s₀ (s.closeBlock bseq ack data crc) := by
  unfold State.closeBlock
  split
  · exact .ite (h.setWall.ackWall.foldl fun _ _ h => h.takeFragment) h.discardBlock
  · exact h.discardBlock

theorem Continues.strayBlock (h : Continues s₀ s) : Continues s₀ s.strayBlock := .ite h h.setWall.discardBlock

theorem Continues.dataBlock {b : List Byte} (h : Continues s₀ s) : Continues s₀ (s.dataBlock b) := by
  unfold State.dataBlock
  split
  · exact .ite h.setWall.discardBlock h.setWall
  · exact h.strayBlock

theorem Continues.tailBlock {b : List Byte} (h : Continues s₀ s) : Continues s₀ (s.tailBlock b) := by
  unfold State.tailBlock
  split
  · exact .ite h.setWall.discardBlock h.setWall.closeBlock
  · exact h.strayBlock

theorem Continues.takeBlock {k : Block66} (h : Continues s₀ s) : Continues s₀ (s.takeBlock k) := by
  refine .ite h.dataBlock ?_
  split
  · exact (Continues.ite h.discardBlock h).setWall
  · exact h.tailBlock
  · exact h.resendFrom
  · exact h.bump

theorem Continues.destripe {lanes : List Nat} {n : Nat} (h : Continues s₀ s) : Continues s₀ (s.destripe lanes n) := by
  induction n generalizing s with
  | zero => exact h
  | succ n ih =>
    unfold State.destripe
    extract_lets
    split
    · exact h
    · exact ih h.setWall.takeBlock

theorem Continues.takeLane {rx : WallRx} {l : Nat} (h : Continues s₀ s) : Continues s₀ (State.takeLane rx s l) :=
  have h1 := Continues.ite (.ite h h.bumpBy) (Continues.ite h h.bumpBy).bumpBy
  .ite h1 h1.setWall

theorem Continues.execWallBlockReceive {t : Nat} {rx : WallRx} (h : Continues s₀ s) : ContinuesNext s₀ (execWallBlockReceive t rx s) :=
  have hs := h.at
  .ite (.next hs) (.ite (.next hs.setWall.discardBlock) (.next (.destripe (hs.foldl fun _ _ h => h.takeLane))))

/-! The commands together, and the step (log 4). -/

/-- Every command leads to a state that continues the one it found. -/
theorem Continues.exec {i : Instr} (h : Continues s₀ s) : ContinuesNext s₀ (exec i s) := by
  cases i
  · exact h.execPowerOn
  · exact h.execResetNFall
  · exact h.execResetNRelease
  · exact h.execPowerFail
  · exact h.execPowerFailEnd
  · exact h.execCardPortReset
  · exact h.execTestReset
  · exact h.execInternalResetEnd
  · exact h.execSowStageStart
  · exact h.execSowBlock
  · exact h.execSowStageComplete
  · exact h.execReapBlock
  · exact h.execReapingComplete
  · exact h.execFurrowMove
  · exact h.execFurrowMoveDone
  · exact h.execStopTailEnd
  · exact h.execAvsTargetCompute
  · exact h.execAvsStep
  · exact h.execPmbusIoutRead
  · exact h.execDirectoryReadDone
  · exact h.execFlashReadError
  · exact h.execHeaderReadDone
  · exact h.execFwHeaderReadDone
  · exact h.execFwSectionLoaded
  · exact h.execCfgRecordStreamed
  · exact h.execCfgSignatureChecked
  · exact h.execRecordsApplied
  · exact h.execSynthLoopLocked
  · exact h.execSynthLockTimeout
  · exact h.execFallbackSlotTry
  · exact h.execDramTrainStepDone
  · exact h.execTrainClosingClaim
  · exact h.execDirectoryWrite
  · exact h.execSetNextA
  · exact h.execSetNextB
  · exact h.execAbortWrite
  · exact h.execRestart
  · exact h.execBadCommand
  · exact h.execFuseBurn
  · exact h.execImageStart
  · exact h.execImageData
  · exact h.execChunkProgrammed
  · exact h.execImageEnd
  · exact h.execImageSetNext
  · exact h.execImageRestart
  · exact h.execImageAbortWrite
  · exact h.execWriteSessionTimeout
  · exact h.execEnterSafe
  · exact h.execServicePeriod
  · exact h.execFratinReceive
  · exact h.execTake
  · exact h.execSalvoPart
  · exact h.execSalvoCommit
  · exact h.execSalvoOpenTimeout
  · exact h.execSalvoValidation
  · exact h.execLiveSet
  · exact h.execQuery
  · exact h.execStatusDeviceSummary
  · exact h.execStatusTimingGroup
  · exact h.execStatusStoredStream
  · exact h.execStatusFaultSummary
  · exact h.execStatusFlowContext
  · exact h.execStatusHealth
  · exact h.execStatusBootRegisters
  · exact h.execStatusLintel
  · exact h.execStatusAudioPort
  · exact h.execLintelArmMsg
  · exact h.execLintelDisarmMsg
  · exact h.execLoadText
  · exact h.execClearText
  · exact h.execLintelArmEdge
  · exact h.execLintelPinQualified
  · exact h.execLatchInstant
  · exact h.execSwitchPoint
  · exact h.execOnAirNotify
  · exact h.execWindowLeft
  · exact h.execLagMeasure
  · exact h.execSnapshotStart
  · exact h.execSnapshotDone
  · exact h.execMbxGo
  · exact h.execMbxInTaken
  · exact h.execMbxOutRelease
  · exact h.execInputFrameComplete
  · exact h.execDecisionInstant
  · exact h.execReadStart
  · exact h.execSlotRead
  · exact h.execScrubChunk
  · exact h.execThumbnailInterval
  · exact h.execCacheRebuild
  · exact h.execGoldenTileTest
  · exact h.execSramBistChunk
  · exact h.execAudioBlock
  · exact h.execSlipApply
  · exact h.execDeembPacketError
  · exact h.execMaskHiWrite
  · exact h.execMaskApply
  · exact h.execPortStart
  · exact h.execStartLeadEnd
  · exact h.execPortStop
  · exact h.execPortClockLoss
  · exact h.execPortRecovery
  · exact h.execFollowRange
  · exact h.execKeyInEdge
  · exact h.execKeyClaim
  · exact h.execKeyResample
  · exact h.execKeyConflict
  · exact h.execAlivePeerEdge
  · exact h.execAlivePeerTimeout
  · exact h.execWallDownKeyTimeout
  · exact h.execGiveUp
  · exact h.execHandoverArm
  · exact h.execHandoverCancel
  · exact h.execResync
  · exact h.execArbitrate
  · exact h.execHeartbeatSend
  · exact h.execHeartbeat
  · exact h.execWallDown
  · exact h.execWallBlockReceive
  · exact h.execResend
  · exact h.execWallResendTimeout
  · exact h.execWallRebond
  · exact h.execGiveUpMsg
  · exact h.execDecision
  · exact h.execTakeOrder
  · exact h.execDigestSend
  · exact h.execDigest
  · exact h.execDigestMissing
  · exact h.execArbitrateMsg
  · exact h.execSelftestDone
  · exact h.execHandover
  · exact h.execHandoverReplyTimeout
  · exact h.execHandoverInstant
  · exact h.execHealthSend
  · exact h.execHealth (_capped := ‹Bool›)
  · exact h.execYield
  · exact h.execStateRequest
  · exact h.execState
  · exact h.execJoinComplete
  · exact h.execJoinRetryTimeout
  · exact h.execReplyRelay
  · exact h.execPwMailboxFragment
  · exact h.execPwmbxGo
  · exact h.execPwmbxFree
  · exact h.execPwFragmentAcked
  · exact h.execCandidateMeasure
  · exact h.execCandidateQualified
  · exact h.execCandidateLoss
  · exact h.execCandidateGlitch
  · exact h.execCandidateRateChange
  · exact h.execCandidateReturn
  · exact h.execGroupAcquire
  · exact h.execDpllLocked
  · exact h.execFrameStart
  · exact h.execFrameOutPulse
  · exact h.execTgRealign
  · exact h.execRealignApply
  · exact h.execVfsRefLost
  · exact h.execVfsRefRequalified
  · exact h.execSysRefLost
  · exact h.execLoopUnlock
  · exact h.execLoopRelocked
  · exact h.execLoopShelterTimeout
  · exact h.execGuardTrip
  · exact h.execRelock
  · exact h.execMdllLocked
  · exact h.execMdllNoLock
  · exact h.execLos
  · exact h.execRxLocked
  · exact h.execPwrReq
  · exact h.execTxEqWrite
  · exact h.execRxCtrlWrite
  · exact h.execTestStart
  · exact h.execTestStop
  · exact h.execTestDurationEnd
  · exact h.execInject
  · exact h.execPrbsResync
  · exact h.execEyePointStart
  · exact h.execEyeScanStart
  · exact h.execEyeDone
  · exact h.execEyePeriodicScan
  · exact h.execSdiLine
  · exact h.execSdiReady
  · exact h.execSdiLost
  · exact h.execPairedFrameComplete
  · exact h.execLinkUp
  · exact h.execLinkDown
  · exact h.execFrameReceive
  · exact h.execPauseHoldExpiry
  · exact h.execPauseOn
  · exact h.execPauseRefresh
  · exact h.execPauseOff
  · exact h.execThroughForward
  · exact h.execLineDeadline
  · exact h.execBandPass
  · exact h.execContextNotReady
  · exact h.execContextReady
  · exact h.execPathInactive
  · exact h.execSkewMeasure
  · exact h.execLaunch
  · exact h.execIgmpReport
  · exact h.execPtpEventReceive
  · exact h.execAnnounceReceive
  · exact h.execAnnounceTimeout
  · exact h.execAutoStepAccept
  · exact h.execAcceptStep
  · exact h.execSlewComplete
  · exact h.execPtpSend
  · exact h.execDelayReqReceive
  · exact h.execPpsInEdge
  · exact h.execPpsInLost
  · exact h.execPpsOutPulse
  · exact h.execRefreshDue
  · exact h.execMr4Poll
  · exact h.execMr4PollCmd
  · exact h.execDramTrainCmd
  · exact h.execDrcRateWrite
  · exact h.execZqCalibration
  · exact h.execZqLatch
  · exact h.execRtRequestComplete
  · exact h.execFaultAccepted
  · exact h.execFaultRecordRemove
  · exact h.execFltAck
  · exact h.execFltOpenClear
  · exact h.execHoldExpiry
  · exact h.execFltKick
  · exact h.execWatchdogExpiry
  · exact h.execAliveEdge
  · exact h.execThermalRead
  · exact h.execMaintenanceRequest
  · exact h.execMaintenanceDone
  · exact h.execCheckpointDue
  · exact h.execCheckpoint
  · exact h.execLifeWriteDone
  · exact h.execBar2Access
  · exact h.execRegisterWrite
  · exact h.execRcCounterRead
  · exact h.execCardPortLinkDown
  · exact h.execCardPortLinkUp
  · exact h.execSpiRead
  · exact h.execSpiWrite
  · exact h.execSpiStatus
  · exact h.execMsixUnmask
  · exact h.execKick
  · exact h.execDescriptorFetched
  · exact h.execDescriptorComplete
  · exact h.execDmaRequest
  · exact h.execDmaBurstComplete
  · exact h.execBusError
  · exact h.execCompletionTimeout
  · exact h.execClearErr
  · exact h.execDmaDisable
  · exact h.execCaptureRead
  · exact h.execFstSelWrite
  · exact h.execFstQmaxRead
  · exact h.execPtpTimeFracRead
  · exact h.execLoSnapshotRead
  · exact h.execSignalDetect
  · exact h.execBlockLockGained
  · exact h.execPrbsCheckerInSync
  · exact h.execDpllLeavesLocked
  · exact h.execTxSteerLimit
  · exact h.execVfsTrackingAgain
  · exact h.execPcieConfigurationRequest

/-- What a step leads to continues the state whose front command is taken. -/
theorem step_continues {t : State} (h : step s = .next t) : Continues (s.setPending s.pending.tail) t := by
  unfold step at h
  split at h
  · next e =>
    have hs : Continues (s.setPending s.pending.tail) s := ⟨rfl, by simp [e], Nat.le_refl _, List.prefix_refl _⟩
    cases h
    exact hs.tick
  · next e =>
    rw [e]
    exact Continues.exec (.refl _) h

/-- Settles O5: taking the front command is all that becomes of the queue, and a command, like a tick, leads to a state that continues the one
it found. -/
theorem clock_queue_and_identity : Obligations.clock_queue_and_identity := by
  intro s t h
  obtain ⟨hDev, hPending, hNow, hOut⟩ := step_continues h
  exact ⟨hDev, hPending, hNow, hOut⟩

/-! The access codes against the rule of the same instant (R444): a write does not clear a W1C flag that the device sets in that instant. -/

/-- A PMBus access fails at the instant 0, and sets PMBUS_FAIL of TOP_PWR_STICKY then. -/
def pmbusFailed : State := State.reset.pmbusFail

/-- The row of TOP_PWR_STICKY: two W1C bits, and no other bit that a write reaches. -/
def powerStickyRow : RegRow := ⟨"TOP_PWR_STICKY", 0x000104, 4, 1, 4, 1, 0, 0, 3, 0, 0, 0, 0, false⟩

/-- The flag set in the instant of the write stays, though the word written has a 1 in its place (R444). -/
theorem pmbusFail_survives_clear_of_its_instant :
    ∃ u, exec (.registerWrite 0 Reg.TOP_PWR_STICKY 1 false true noAux) pmbusFailed = .next u ∧ u.rd Reg.TOP_PWR_STICKY = 1 :=
  ⟨_, rfl, by decide +kernel⟩

/-- Refutes O60: its first clause has every W1C bit written 1 cleared, and leaves out that a flag set in the same instant wins over the write (R444).
Firmware that writes 1 to PMBUS_FAIL in the instant in which the flag is set reads it as 1 afterwards, where the clause gives 0. -/
theorem not_register_accesses_follow_their_codes : ¬ Obligations.register_accesses_follow_their_codes := by
  rintro ⟨hWrite, -⟩
  have hRow : RegMap.rowOf Reg.TOP_PWR_STICKY = some powerStickyRow := by decide +kernel
  have hPlain : (pmbusFailed.at 0).writeActs noAux false Reg.TOP_PWR_STICKY 1 = none := by decide +kernel
  have hPage : pmbusFailed.pagePresent Reg.TOP_PWR_STICKY = true := by decide +kernel
  obtain ⟨u, hNext, hCleared, -⟩ := hWrite 0 Reg.TOP_PWR_STICKY 1 noAux pmbusFailed powerStickyRow 1 (by decide) (by decide) rfl
    hPage hPlain hRow (by decide) (by decide +kernel)
  obtain ⟨u', hNext', hStays⟩ := pmbusFail_survives_clear_of_its_instant
  obtain rfl : u = u' := by simpa using hNext.symm.trans hNext'
  rw [hStays] at hCleared
  revert hCleared
  decide +kernel

end Sys2Proof.Machine
end

section
/-! PROOFS. What tells a device that its peer is gone (R58, R210, R212), and the entry to SERVICE that an abandoned JOIN makes. -/
namespace Sys2Proof.Machine

/-! What leaves the pins and the device's mode and role alone. One relation, `KeepsControl`, says it, and the lemma of an operation carries it along as
`Continues` is carried: `KeepsControl.f` is about what `f` makes of a state. -/

/-- `t` has the pins of `s`, and its mode, role and all that is kept with them. -/
structure KeepsControl (s t : State) : Prop where
  pins : t.pins = s.pins
  ctl : t.ctl = s.ctl

variable {s₀ s : State}

theorem KeepsControl.refl (s : State) : KeepsControl s s := ⟨rfl, rfl⟩

theorem KeepsControl.ite {c : Prop} {inst : Decidable c} {t u : State} (h : KeepsControl s₀ t) (k : KeepsControl s₀ u) :
    KeepsControl s₀ (if c then t else u) := by
  split
  · exact h
  · exact k

theorem KeepsControl.iteFst {β : Type} {c : Prop} {inst : Decidable c} {t u : State × β} (h : KeepsControl s₀ t.1) (k : KeepsControl s₀ u.1) :
    KeepsControl s₀ (if c then t else u).1 := by
  split
  · exact h
  · exact k

theorem KeepsControl.foldl {β : Type} {l : List β} {f : State → β → State} (h : KeepsControl s₀ s)
    (hf : ∀ t b, KeepsControl s₀ t → KeepsControl s₀ (f t b)) : KeepsControl s₀ (l.foldl f s) := by
  induction l generalizing s with
  | nil => exact h
  | cons b l ih => exact ih (hf s b h)

/-! The operations on one part of the state. -/

theorem KeepsControl.wr {off : Nat} {w : Word} (h : KeepsControl s₀ s) : KeepsControl s₀ (s.wr off w) := ⟨h.pins, h.ctl⟩
theorem KeepsControl.wrFld {off hi lo v : Nat} (h : KeepsControl s₀ s) : KeepsControl s₀ (s.wrFld off hi lo v) := h.wr
theorem KeepsControl.emit {o : Output} (h : KeepsControl s₀ s) : KeepsControl s₀ (s.emit o) := ⟨h.pins, h.ctl⟩
theorem KeepsControl.setTwn {x : TwinState} (h : KeepsControl s₀ s) : KeepsControl s₀ (s.setTwn x) := ⟨h.pins, h.ctl⟩
theorem KeepsControl.setLin {x : LintelState} (h : KeepsControl s₀ s) : KeepsControl s₀ (s.setLin x) := ⟨h.pins, h.ctl⟩
theorem KeepsControl.setBoot {x : BootState} (h : KeepsControl s₀ s) : KeepsControl s₀ (s.setBoot x) := ⟨h.pins, h.ctl⟩
theorem KeepsControl.setRes {r : Nat} {x : MntRes} (h : KeepsControl s₀ s) : KeepsControl s₀ (s.setRes r x) := ⟨h.pins, h.ctl⟩
theorem KeepsControl.setLane {i : Nat} {x : LaneRun} (h : KeepsControl s₀ s) : KeepsControl s₀ (s.setLane i x) := ⟨h.pins, h.ctl⟩
theorem KeepsControl.setLife {x : LifeState} (h : KeepsControl s₀ s) : KeepsControl s₀ (s.setLife x) := ⟨h.pins, h.ctl⟩
theorem KeepsControl.setDrcs {x : DrcState} (h : KeepsControl s₀ s) : KeepsControl s₀ (s.setDrcs x) := ⟨h.pins, h.ctl⟩

/-! Messages over the party wall (R217, R218). -/

theorem KeepsControl.deal {bs : List Block66} (h : KeepsControl s₀ s) : KeepsControl s₀ (s.deal bs) := .ite h h.setTwn
theorem KeepsControl.rebond {locked : Nat} (h : KeepsControl s₀ s) : KeepsControl s₀ (s.rebond locked) := h.setTwn

theorem KeepsControl.transmitWall {f : WallFrag} (h : KeepsControl s₀ s) : KeepsControl s₀ (s.transmitWall f) := by
  unfold State.transmitWall
  extract_lets
  split
  · exact h.setTwn.deal.emit
  · exact h.setTwn.deal

theorem KeepsControl.drainWall {n : Nat} (h : KeepsControl s₀ s) : KeepsControl s₀ (s.drainWall n) := by
  induction n generalizing s with
  | zero => exact h
  | succ n ih =>
    unfold State.drainWall
    split
    · exact h
    · exact .ite (ih h.setTwn.transmitWall) h

theorem KeepsControl.handFrag {f : WallFrag} (h : KeepsControl s₀ s) : KeepsControl s₀ (s.handFrag f) := h.setTwn.drainWall

theorem KeepsControl.sendWall {m : WallMsg} (h : KeepsControl s₀ s) : KeepsControl s₀ (s.sendWall m) :=
  h.setTwn.foldl fun _ _ h => h.handFrag

theorem KeepsControl.sendDecisions {n : Nat} {rs : List DecisionRec} (h : KeepsControl s₀ s) : KeepsControl s₀ (s.sendDecisions n rs) := by
  induction n generalizing s rs with
  | zero => exact h
  | succ n ih => exact .ite h (ih h.sendWall)

/-! The lintel layer shows what was latched (R61, R169). -/

theorem KeepsControl.lintelChange (h : KeepsControl s₀ s) : KeepsControl s₀ s.lintelChange :=
  .ite h.setLin.sendDecisions h.setLin

theorem KeepsControl.showLatched (h : KeepsControl s₀ s) : KeepsControl s₀ s.showLatched := .ite h.setLin.lintelChange h

/-! Activities on a resource, and the directory write that the first entry to SERVICE queues (R34, R416). -/

theorem KeepsControl.activityStarts {a : Activity} (h : KeepsControl s₀ s) : KeepsControl s₀ (s.activityStarts a) :=
  have h1 := h.wrFld.setLane
  .ite (.ite h1.rebond h1) (.ite h.setLife (.ite h.setDrcs (.ite (.ite h h.wrFld) h)))

/-- A start that gives way changes at most a register. -/
theorem KeepsControl.givesWay {b a : Activity} {t : State} (h : KeepsControl s₀ s) (e : s.givesWay b a = some t) : KeepsControl s₀ t := by
  unfold State.givesWay at e
  split at e
  · cases e
  · split at e
    · cases e
      exact h.wrFld
    · split at e
      · cases e
        exact h.wrFld
      · cases e
        exact h

theorem KeepsControl.mntRequest {r : Nat} {a : Activity} (h : KeepsControl s₀ s) : KeepsControl s₀ (s.mntRequest r a).1 := by
  unfold State.mntRequest
  extract_lets x
  split
  · exact h.setRes.activityStarts
  · next b _ =>
    refine .iteFst h ?_
    split
    · next t e =>
      have hGivesWay : s.givesWay b a = some t := (Option.ite_none_right_eq_some.mp e).2
      exact (h.givesWay hGivesWay).setRes.activityStarts
    · exact .iteFst h.setRes h.setRes

theorem KeepsControl.queueDir (h : KeepsControl s₀ s) : KeepsControl s₀ s.queueDir := .ite h h.setBoot.mntRequest
theorem KeepsControl.repairDir (h : KeepsControl s₀ s) : KeepsControl s₀ s.repairDir := .ite h.setBoot.queueDir h

/-! Mode and role, and the entry to SERVICE (R55, R56, R70). -/

@[simp] theorem State.setMode_pins (s : State) (m : Mode) : (s.setMode m).pins = s.pins := by unfold State.setMode; split <;> simp
@[simp] theorem State.setRole_pins (s : State) (r : Role) : (s.setRole r).pins = s.pins := by unfold State.setRole; split <;> simp

/-- A mode change names the mode and since when it stands, if it is another one. -/
theorem State.setMode_ctl (s : State) (m : Mode) :
    (s.setMode m).ctl = if s.ctl.mode = m then s.ctl else { s.ctl with mode := m, modeSince := s.now } := by
  unfold State.setMode
  split <;> simp

/-- A role change names the role and nothing else. -/
@[simp] theorem State.setRole_ctl (s : State) (r : Role) : (s.setRole r).ctl = { s.ctl with role := r } := by
  unfold State.setRole
  split
  · next h => rw [← h]
  · simp

@[simp] theorem State.setMode_mode (s : State) (m : Mode) : (s.setMode m).ctl.mode = m := by
  rw [State.setMode_ctl]
  split
  · next h => exact h
  · rfl

@[simp] theorem State.setMode_joinAbandoned (s : State) (m : Mode) : (s.setMode m).ctl.joinAbandoned = s.ctl.joinAbandoned := by
  rw [State.setMode_ctl]
  split <;> rfl

/-- What the first entry does beside marking it done: BOOT_TIME and a directory write (R34, R54). -/
theorem State.firstEntry_keepsControl (s : State) : KeepsControl (s.setCtl { s.ctl with entered := true }) s.firstEntry := by
  unfold State.firstEntry
  split
  · next h => exact ⟨rfl, by simp [← h]⟩
  · extract_lets _ s1
    have h1 : KeepsControl (s.setCtl { s.ctl with entered := true }) s1 := (KeepsControl.refl _).wr
    split
    · exact h1.repairDir
    · exact .ite h1.setBoot.queueDir h1.repairDir

@[simp] theorem State.firstEntry_pins (s : State) : s.firstEntry.pins = s.pins := s.firstEntry_keepsControl.pins
@[simp] theorem State.firstEntry_ctl (s : State) : s.firstEntry.ctl = { s.ctl with entered := true } := s.firstEntry_keepsControl.ctl

/-! An entry to SERVICE names mode and role, moves no pin, and leaves the mark of an abandoned JOIN as it was. -/

@[simp] theorem State.enterService_pins (s : State) (r : Role) : (s.enterService r).pins = s.pins := by
  simp [State.enterService, State.endClosing]

@[simp] theorem State.enterService_mode (s : State) (r : Role) : (s.enterService r).ctl.mode = .service := by
  simp [State.enterService]

@[simp] theorem State.enterService_role (s : State) (r : Role) : (s.enterService r).ctl.role = r := by
  simp [State.enterService]

@[simp] theorem State.enterService_joinAbandoned (s : State) (r : Role) : (s.enterService r).ctl.joinAbandoned = s.ctl.joinAbandoned := by
  simp [State.enterService, State.endClosing]

@[simp] theorem State.showLatched_pins (s : State) : s.showLatched.pins = s.pins := (KeepsControl.refl s).showLatched.pins
@[simp] theorem State.showLatched_ctl (s : State) : s.showLatched.ctl = s.ctl := (KeepsControl.refl s).showLatched.ctl

/-- JOIN abandoned (R58): the device is in SERVICE as FOLLOWER, says so, and has not moved a pin. -/
theorem State.abandonJoin_control (s : State) : s.abandonJoin.ctl.mode = .service ∧ s.abandonJoin.ctl.role = .follower ∧
    s.abandonJoin.ctl.joinAbandoned = true ∧ s.abandonJoin.pins = s.pins := by
  simp [State.abandonJoin]

/-! The commands that watch the peer (R210, R212). -/

/-- An event that was set reads as set. -/
theorem State.rdBit_event_same (s : State) (ev v i : Nat) (h : ev ≠ Reg.MSIX_PENDING (v / 32)) (hi : i < 32) :
    (s.event ev v (maskBit i)).rdBit ev i = true := by
  rw [State.rdBit, State.rd_event_same s ev v _ h, bit, BitVec.getLsbD_or, maskBit, BitVec.getLsbD_ofNat, Nat.testBit_two_pow_self]
  simp [hi]

/-- The 3 ms of ALIVE_PEER, from the last edge or the release of RESET_N, are over, and no arrival of the same instant wins (R210, R213). -/
theorem exec_alivePeerTimeout_of_due {t : Nat} (hDue : max s.twn.key.aliveEdge s.boot.released + 3000000 ≤ max s.now t)
    (hHeartbeat : (s.at t).heartbeatNow = false) (hEdge : (s.at t).alivePeerMoves = false) :
    exec (.alivePeerTimeout t) s = .next ((s.at t).setKey { s.twn.key with peerDead := true }) := by
  change execAlivePeerTimeout t s = _
  simp only [execAlivePeerTimeout, State.at_twn, State.at_boot, State.at_now]
  exact if_pos ⟨hDue, hHeartbeat, hEdge⟩

/-- Before that, the command only carries the clock on. -/
theorem exec_alivePeerTimeout_of_early {t : Nat} (hEarly : max s.now t < max s.twn.key.aliveEdge s.boot.released + 3000000) :
    exec (.alivePeerTimeout t) s = .next (s.at t) := by
  change execAlivePeerTimeout t s = _
  simp only [execAlivePeerTimeout, State.at_twn, State.at_boot, State.at_now]
  exact if_neg fun h => Nat.not_le_of_lt hEarly h.1

/-- An edge of ALIVE_PEER restarts the count, and a peer held dead is so no longer. -/
theorem exec_alivePeerEdge_of_ne {t : Nat} {level : Bool} (h : s.pins.alivePeer ≠ level) : exec (.alivePeerEdge t level) s =
    .next (((s.at t).setKey { s.twn.key with aliveEdge := max s.now t, peerDead := false, aliveSeen := true }).setPins
      { s.pins with alivePeer := level }) := by
  change execAlivePeerEdge t level s = _
  simp only [execAlivePeerEdge, State.at_twn, State.at_pins, State.at_now]
  exact if_neg h

/-- With the wall down and KEY_IN low for 3 ms, a claim is allowed. -/
theorem exec_wallDownKeyTimeout_of_due {t : Nat} (hWall : s.twn.wall.up = false) (hLow : s.pins.keyIn = false)
    (hDue : s.twn.key.keyInEdge + 3000000 ≤ max s.now t) :
    exec (.wallDownKeyTimeout t) s = .next ((s.at t).setKey { s.twn.key with lowLong := true }) := by
  change execWallDownKeyTimeout t s = _
  simp only [execWallDownKeyTimeout, State.at_twn, State.at_pins, State.at_now]
  exact if_pos (by simp [hWall, hLow, hDue])

/-- The peer's announcement, taken in: when it came, and the event. -/
def State.notePeerGaveUp (s : State) : State := (s.setKey { s.twn.key with peerGaveUp := some s.now }).twnEvent 8

@[simp] theorem State.notePeerGaveUp_ctl (s : State) : s.notePeerGaveUp.ctl = s.ctl := by simp [State.notePeerGaveUp]
@[simp] theorem State.notePeerGaveUp_pins (s : State) : s.notePeerGaveUp.pins = s.pins := by simp [State.notePeerGaveUp]
@[simp] theorem State.notePeerGaveUp_dram (s : State) : s.notePeerGaveUp.dram = s.dram := by simp [State.notePeerGaveUp]

@[simp] theorem State.notePeerGaveUp_peerGaveUp (s : State) : s.notePeerGaveUp.twn.key.peerGaveUp = some s.now := by
  simp [State.notePeerGaveUp]

theorem State.notePeerGaveUp_event (s : State) : s.notePeerGaveUp.rdBit Reg.TWN_EVENT 8 = true :=
  State.rdBit_event_same _ _ 3 8 (by decide) (by decide)

/-- A GIVE_UP with a reason of R212 that arrives over the wall is noted, and ends JOIN. -/
theorem exec_giveUpMsg_of_up {t reason : Nat} (hWall : s.twn.wall.up = true) (hLow : 1 ≤ reason) (hHigh : reason ≤ 5) :
    exec (.giveUpMsg t reason) s =
      .next (if s.ctl.mode = .join then (s.at t).notePeerGaveUp.abandonJoin else (s.at t).notePeerGaveUp) := by
  have hTaken : ¬ ((s.at t).twn.wall.up = false ∨ reason = 0 ∨ 5 < reason) := by
    simp only [State.at_twn, hWall, reduceCtorEq, false_or]
    omega
  have hMode : (s.at t).notePeerGaveUp.ctl.mode = s.ctl.mode := by simp
  rw [← hMode]
  exact congrArg _ (if_neg hTaken)

/-- Settles O38: each command that watches the peer has its outcome written out by a lemma of its own; the last clause is the abandoned JOIN. -/
theorem the_peer_is_watched : Obligations.the_peer_is_watched := by
  refine ⟨fun t level s hNe => ?edge, fun t s hDue hHeartbeat hEdge => ?timeout, fun t s => exec_alivePeerTimeout_of_early,
    fun t s hWall hLow hDue => ?wallDown, fun t reason s hWall hLow hHigh hMode => ?giveUp, fun t reason s hWall hLow hHigh hMode => ?giveUpInJoin⟩
  case edge => exact ⟨_, exec_alivePeerEdge_of_ne hNe, by simp⟩
  case timeout => exact ⟨_, exec_alivePeerTimeout_of_due hDue hHeartbeat hEdge, by simp⟩
  case wallDown => exact ⟨_, exec_wallDownKeyTimeout_of_due hWall hLow hDue, by simp⟩
  case giveUp =>
    refine ⟨_, (exec_giveUpMsg_of_up hWall hLow hHigh).trans (congrArg _ (if_neg hMode)), ?_⟩
    exact ⟨by simp, (s.at t).notePeerGaveUp_event, by simp⟩
  case giveUpInJoin =>
    refine ⟨_, (exec_giveUpMsg_of_up hWall hLow hHigh).trans (congrArg _ (if_pos hMode)), ?_⟩
    obtain ⟨hService, hRole, hAbandoned, hPins⟩ := (s.at t).notePeerGaveUp.abandonJoin_control
    exact ⟨hService, hRole, hAbandoned, hPins.trans (by simp)⟩

end Sys2Proof.Machine
end

section
/-! PROOFS. The frame store (R117–R146, R400): frames that become COMPLETE, its two registers with an effect, thumbnails, and what the statements on
reads and on checked slots leave out. -/
namespace Sys2Proof.Machine

variable {s₀ s : State} {i p : Nat}

/-! The run of a stream. -/

theorem State.stream_setStream_same (s : State) (i : Nat) (x : StreamRun) : (s.setStream i x).stream i = x := by
  simp [State.stream]

theorem State.stream_setStream_ne (s : State) {i a : Nat} (x : StreamRun) (h : a ≠ i) : (s.setStream i x).stream a = s.stream a := by
  simp [State.stream, h]

@[simp] theorem State.stream_at (s : State) (t i : Nat) : (s.at t).stream i = s.stream i := by simp [State.stream]
@[simp] theorem State.streamCfg_at (s : State) (t i : Nat) : (s.at t).streamCfg i = s.streamCfg i := by simp [State.streamCfg]
@[simp] theorem State.isPaired_at (s : State) (t i : Nat) : (s.at t).isPaired i = s.isPaired i := by simp [State.isPaired]

/-! What leaves the other streams, the registers and DRAM alone. One relation, `KeepsOthers`, says it, and the lemma of an operation carries it along
as `KeepsControl` is carried. -/

/-- `t` has every stream of `s` but stream `i`, its registers and its DRAM. -/
structure KeepsOthers (i : Nat) (s t : State) : Prop where
  streams : ∀ a, a ≠ i → t.stream a = s.stream a
  regs : t.regs = s.regs
  dram : t.dram = s.dram

theorem KeepsOthers.refl (i : Nat) (s : State) : KeepsOthers i s s := ⟨fun _ _ => rfl, rfl, rfl⟩

theorem KeepsOthers.ite {c : Prop} {inst : Decidable c} {t u : State} (h : KeepsOthers i s₀ t) (k : KeepsOthers i s₀ u) :
    KeepsOthers i s₀ (if c then t else u) := by
  split
  · exact h
  · exact k

theorem KeepsOthers.at {t : Nat} (h : KeepsOthers i s₀ s) : KeepsOthers i s₀ (s.at t) :=
  ⟨fun a ha => (State.stream_at s t a).trans (h.streams a ha), (State.at_regs s t).trans h.regs, (State.at_dram s t).trans h.dram⟩

theorem KeepsOthers.setStream {x : StreamRun} (h : KeepsOthers i s₀ s) : KeepsOthers i s₀ (s.setStream i x) :=
  ⟨fun a ha => (State.stream_setStream_ne s x ha).trans (h.streams a ha), h.regs, h.dram⟩

theorem KeepsOthers.setTwn {x : TwinState} (h : KeepsOthers i s₀ s) : KeepsOthers i s₀ (s.setTwn x) := ⟨h.streams, h.regs, h.dram⟩

theorem KeepsOthers.completeFrame (h : KeepsOthers i s₀ s) : KeepsOthers i s₀ (s.completeFrame i) := by
  unfold State.completeFrame
  extract_lets
  split
  · exact h
  · exact .ite h.setStream h.setStream

theorem KeepsOthers.joinStored {k : Nat} (h : KeepsOthers i s₀ s) : KeepsOthers i s₀ (s.joinStored k) := h.setTwn

/-- The writer of a stream itself, not that of side B's copies (R232). -/
theorem streamOf_of_lt (h : i < 16384) : streamOf i = i := if_pos h

theorem KeepsOthers.openFrame (hi : i < 16384) (h : KeepsOthers i s₀ s) : KeepsOthers i s₀ (s.openFrame i) := by
  unfold State.openFrame
  rw [streamOf_of_lt hi]
  extract_lets
  split
  · exact h
  · exact h.setStream.setStream

theorem KeepsOthers.rd (h : KeepsOthers i s₀ s) (a : Nat) : s.rd a = s₀.rd a := State.rd_congr h.regs a

/-! A frame ends, and the next one begins (R117). -/

/-- The frame held open at place p becomes COMPLETE. -/
theorem State.completeFrame_of_whole (hOpened : (s.stream i).opened = some p) (hWhole : (s.stream i).broken = false) :
    ((s.completeFrame i).stream i).opened = none ∧
      ((s.completeFrame i).stream i).ring = Tab.put coldFrame (s.stream i).ring p { Tab.get coldFrame (s.stream i).ring p with complete := true } ∧
      ((s.completeFrame i).stream i).widxLast = (Tab.get coldFrame (s.stream i).ring p).widx ∧
      ((s.completeFrame i).stream i).nextW = (s.stream i).nextW := by
  simp only [State.completeFrame, hOpened, hWhole, Bool.false_eq_true, if_false, State.stream_setStream_same, and_self]

/-- A frame that was interrupted does not. -/
theorem State.completeFrame_of_broken (hOpened : (s.stream i).opened = some p) (hBroken : (s.stream i).broken = true) :
    ((s.completeFrame i).stream i).opened = none ∧
      ((s.completeFrame i).stream i).ring =
        Tab.put coldFrame (s.stream i).ring p { Tab.get coldFrame (s.stream i).ring p with complete := false } := by
  simp only [State.completeFrame, hOpened, hBroken, if_true, State.stream_setStream_same, and_self]

@[simp] theorem State.completeFrame_streamCfg (s : State) (i k : Nat) : (s.completeFrame i).streamCfg k = s.streamCfg k := by
  unfold State.completeFrame
  extract_lets
  split
  · rfl
  · split <;> rfl

/-- A stream's own writer opens a frame: it uses up a write index, and what the last COMPLETE frame left stays. -/
theorem State.openFrame_stream {c : StreamCfg} (hi : i < 16384) (hCfg : s.streamCfg i = some c) :
    ((s.openFrame i).stream i).opened.isSome = true ∧ ((s.openFrame i).stream i).widxLast = (s.stream i).widxLast ∧
      ((s.openFrame i).stream i).nextW = (s.stream i).nextW + 1 := by
  simp only [State.openFrame, streamOf_of_lt hi, hCfg, State.stream_setStream_same, Option.isSome_some, and_self]

/-- A loss of the input in the instant at hand interrupts the frame being written (R324). -/
def State.lossBreaks (s : State) (i : Nat) : State :=
  if s.lossFalls i then s.setStream i { s.stream i with broken := true } else s

theorem KeepsOthers.lossBreaks (h : KeepsOthers i s₀ s) : KeepsOthers i s₀ (s.lossBreaks i) := .ite h.setStream h

theorem State.lossBreaks_of_none (h : s.lossFalls i = false) : s.lossBreaks i = s := by simp [State.lossBreaks, h]

theorem State.lossBreaks_stream (s : State) (i : Nat) :
    (s.lossBreaks i).stream i = { s.stream i with broken := (s.stream i).broken || s.lossFalls i } := by
  unfold State.lossBreaks
  split
  · next h => rw [State.stream_setStream_same, h, Bool.or_true]
  · next h => simp [h]

/-- INPUT_FRAME_COMPLETE of a frame that is open: it ends, and an output delay opens its next one (R117, R123). -/
theorem exec_inputFrameComplete_of_opened {t : Nat} {c : StreamCfg} (hCfg : s.streamCfg i = some c) (hi : i < 8192)
    (hPaired : s.isPaired i = false) (hOpened : (s.stream i).opened = some p) :
    exec (.inputFrameComplete t i) s = .next
      (let s1 := (s.at t).lossBreaks i
       let s2 := if 4096 ≤ i then (s1.completeFrame i).openFrame i else s1.completeFrame i
       if (s1.stream i).broken then s2 else s2.joinStored i) := by
  change execInputFrameComplete t i s = _
  have hActs : ¬ ((s.streamCfg i).isNone = true ∨ 8192 ≤ i ∨ s.isPaired i = true) := by
    simp only [hCfg, hPaired, Option.isNone_some, Bool.false_eq_true, false_or, or_false]
    omega
  simp only [execInputFrameComplete, State.streamCfg_at, State.isPaired_at, State.stream_at, if_neg hActs, hOpened, Option.isSome_some, if_true,
    State.lossBreaks]

/-- Of an input ring, with no loss: the frame is COMPLETE, and one that a JOIN waits for is stored. -/
theorem exec_inputFrameComplete_of_whole {t : Nat} {c : StreamCfg} (hCfg : s.streamCfg i = some c) (hi : i < 4096)
    (hPaired : s.isPaired i = false) (hOpened : (s.stream i).opened = some p) (hWhole : (s.stream i).broken = false)
    (hLoss : (s.at t).lossFalls i = false) :
    exec (.inputFrameComplete t i) s = .next (((s.at t).completeFrame i).joinStored i) := by
  rw [exec_inputFrameComplete_of_opened hCfg (by omega) hPaired hOpened]
  simp only [State.lossBreaks_of_none hLoss, State.stream_at, hWhole, if_neg (Nat.not_le_of_lt hi), Bool.false_eq_true, if_false]

/-- Of an input ring, interrupted: it ends, and nothing is stored. -/
theorem exec_inputFrameComplete_of_broken {t : Nat} {c : StreamCfg} (hCfg : s.streamCfg i = some c) (hi : i < 4096)
    (hPaired : s.isPaired i = false) (hOpened : (s.stream i).opened = some p) (hBroken : (s.stream i).broken = true) :
    exec (.inputFrameComplete t i) s = .next (((s.at t).lossBreaks i).completeFrame i) := by
  rw [exec_inputFrameComplete_of_opened hCfg (by omega) hPaired hOpened]
  simp only [State.lossBreaks_stream, State.stream_at, hBroken, Bool.true_or, if_true, if_neg (Nat.not_le_of_lt hi)]

/-- Of an output delay: its next frame opens at once. -/
theorem exec_inputFrameComplete_of_delay {t : Nat} {c : StreamCfg} (hCfg : s.streamCfg i = some c) (hDelay : 4096 ≤ i) (hi : i < 8192)
    (hPaired : s.isPaired i = false) (hOpened : (s.stream i).opened = some p) (hWhole : (s.stream i).broken = false)
    (hLoss : (s.at t).lossFalls i = false) :
    exec (.inputFrameComplete t i) s = .next ((((s.at t).completeFrame i).openFrame i).joinStored i) := by
  rw [exec_inputFrameComplete_of_opened hCfg hi hPaired hOpened]
  simp only [State.lossBreaks_of_none hLoss, State.stream_at, hWhole, if_pos hDelay, Bool.false_eq_true, if_false]

/-- Settles O29: the frame held open ends as the stream's run says, and the rest is what `KeepsOthers` carries along. -/
theorem input_frames_become_complete : Obligations.input_frames_become_complete := by
  refine ⟨fun t i s c p hCfg hi hPaired hOpened hWhole hLoss => ?whole, fun t i s c p hCfg hi hPaired hOpened hBroken => ?broken,
    fun t i s c p hCfg hDelay hi hPaired hOpened hWhole hLoss => ?delay⟩
  case whole =>
    refine ⟨_, exec_inputFrameComplete_of_whole hCfg hi hPaired hOpened hWhole hLoss, ?_⟩
    have hKeeps : KeepsOthers i s (((s.at t).completeFrame i).joinStored i) := (KeepsOthers.refl i s).at.completeFrame.joinStored
    obtain ⟨hClosed, hRing, hLast, -⟩ := State.completeFrame_of_whole (s := s.at t) (by simpa using hOpened) (by simpa using hWhole)
    rw [State.stream_at] at hRing hLast
    refine ⟨hClosed, ?_, fun a ha => ?_, hLast, hKeeps.streams, hKeeps.rd, hKeeps.dram⟩
    · exact (congrArg (Tab.get coldFrame · p) hRing).trans (Tab.get_put_same ..)
    · exact (congrArg (Tab.get coldFrame · a) hRing).trans (Tab.get_put_ne _ _ _ ha)
  case broken =>
    refine ⟨_, exec_inputFrameComplete_of_broken hCfg hi hPaired hOpened hBroken, ?_⟩
    have hKeeps : KeepsOthers i s (((s.at t).lossBreaks i).completeFrame i) := (KeepsOthers.refl i s).at.lossBreaks.completeFrame
    obtain ⟨hClosed, hRing⟩ := State.completeFrame_of_broken (s := (s.at t).lossBreaks i) (i := i) (p := p)
      (by simp [State.lossBreaks_stream, hOpened]) (by simp [State.lossBreaks_stream, hBroken])
    rw [State.lossBreaks_stream, State.stream_at] at hRing
    refine ⟨hClosed, ?_, fun a ha => ?_, hKeeps.streams, hKeeps.rd, hKeeps.dram⟩
    · exact (congrArg (Tab.get coldFrame · p) hRing).trans (Tab.get_put_same ..)
    · exact (congrArg (Tab.get coldFrame · a) hRing).trans (Tab.get_put_ne _ _ _ ha)
  case delay =>
    refine ⟨_, exec_inputFrameComplete_of_delay hCfg hDelay hi hPaired hOpened hWhole hLoss, ?_⟩
    have hWriter : i < 16384 := by omega
    have hKeeps : KeepsOthers i s ((((s.at t).completeFrame i).openFrame i).joinStored i) :=
      ((KeepsOthers.refl i s).at.completeFrame.openFrame hWriter).joinStored
    obtain ⟨-, -, hLast, hNext⟩ := State.completeFrame_of_whole (s := s.at t) (by simpa using hOpened) (by simpa using hWhole)
    obtain ⟨hReopened, hSameLast, hCounted⟩ := State.openFrame_stream (s := (s.at t).completeFrame i) (c := c) hWriter
      ((State.completeFrame_streamCfg _ _ _).trans ((State.streamCfg_at s t i).trans hCfg))
    rw [State.stream_at] at hLast hNext
    exact ⟨hReopened, hSameLast.trans hLast, hCounted.trans (congrArg (· + 1) hNext), hKeeps.streams, hKeeps.rd, hKeeps.dram⟩

/-! Registers with an effect, and thumbnails. -/

/-- A read of FST_QMAX answers for the selected stream, and clears its QMAX_HELD (R142). -/
theorem exec_fstQmaxRead {t : Nat} (hSel : i = s.rdFld Reg.FST_SEL 13 0) : exec (.fstQmaxRead t) s = .next
    (((s.at t).emit (.read Reg.FST_QMAX ((s.stream i).qmaxHeld * 256 + (s.stream i).qmaxLast))).setStream i
      { s.stream i with qmaxHeld := 0 }) := by
  have hSame (o : Output) : ((s.at t).emit o).stream = (s.at t).stream := rfl
  change execFstQmaxRead t s = _
  simp only [execFstQmaxRead, State.qmaxValue, State.qmaxRead, State.rdFld, State.rd_emit, State.rd_at, hSame, State.stream_at]
  rw [← State.rdFld, ← hSel]

@[simp] theorem State.inputField_at (s : State) (t : Nat) (x : Input) : (s.at t).inputField x = s.inputField x := by
  cases x <;> simp [State.inputField, State.rxField, State.rdFld]

/-- The video inputs of a field that feed a source (R122). -/
def State.thumbInputs (s : State) (f : Nat) : List Input :=
  (s.cfg.srcs.flatMap fun e => inputsOf e.2).eraseDups.filter fun x => s.inputField x == f

/-- The bytes that an engine writes for the pictures of its inputs: each fills a thumbnail. -/
def thumbData (n : Nat) (ps : List (List Byte)) : List Byte :=
  (ps.take n).flatMap fun p => (p ++ List.replicate thumbBytes 0).take thumbBytes

theorem thumbData_length (n : Nat) (ps : List (List Byte)) : (thumbData n ps).length = thumbBytes * min ps.length n := by
  have hOne (p : List Byte) : ((p ++ List.replicate thumbBytes 0).take thumbBytes).length = thumbBytes := by
    simp only [List.length_take, List.length_append, List.length_replicate]
    omega
  rw [thumbData, List.length_flatMap]
  simp only [hOne, List.map_const', List.sum_replicate_nat, List.length_take]
  rw [Nat.min_comm, Nat.mul_comm]

/-- THUMBNAIL_INTERVAL when the field's interval is over and no channel waits on the engine's request line (R122, R447). -/
theorem exec_thumbnailInterval_of_due {t f : Nat} {ps : List (List Byte)} (hUsed : s.boot.fieldsUsed.testBit f = true)
    (hField : f < s.dev.variant.fields) (hSown : 4 ≤ s.power.stage) (hRate : Tab.get 1000 s.fst.thumbMs f ≠ 0)
    (hDue : Tab.get 0 s.fst.thumbAt f + 1000000 * Tab.get 1000 s.fst.thumbMs f ≤ max s.now t) (hNobody : s.waiters f 32 = []) :
    exec (.thumbnailInterval t f ps) s = .next (((s.at t).thumbReady f (thumbData (s.thumbInputs f).length ps)).setFst
      { s.fst with thumbAt := Tab.put 0 s.fst.thumbAt f (max s.now t) }) := by
  have hStill (bs : List Byte) (x : FstState) : (((s.at t).thumbReady f bs).setFst x).waiters f 32 = [] :=
    (by simp [State.waiters, State.chan] : (s.at t).waiters f 32 = s.waiters f 32).trans hNobody
  change execThumbnailInterval t f ps s = _
  have hActs : ¬ (s.boot.fieldsUsed.testBit f = false ∨ s.dev.variant.fields ≤ f ∨ s.power.stage < 4 ∨ Tab.get 1000 s.fst.thumbMs f = 0 ∨
      max s.now t < Tab.get 0 s.fst.thumbAt f + 1000000 * Tab.get 1000 s.fst.thumbMs f) := by
    simp only [hUsed, hRate, Bool.true_eq_false, false_or]
    omega
  simp only [execThumbnailInterval, State.at_fst, State.at_boot, State.at_dev, State.at_power, State.at_now, State.at_cfg,
    State.inputField_at, if_neg hActs]
  rw [← State.thumbInputs, ← thumbData]
  simp only [hStill]

/-- Settles O32: each command has its outcome written out, by its definition or a lemma above; only FST_SEL_WRITE writes a register. -/
theorem frame_store_registers : Obligations.frame_store_registers := by
  refine ⟨fun t v s => ?select, fun t s i hSel => ?qmax, fun t f ps s hUsed hField hSown hRate hDue hNobody => ?thumbnails⟩
  case select =>
    refine ⟨(s.at t).wr Reg.FST_SEL (BitVec.ofNat 32 (v % 16384)), rfl, State.rd_wr_same .., fun a ha => ?_, by simp⟩
    rw [State.rd_wr_ne _ _ ha, State.rd_at]
  case qmax =>
    refine ⟨_, exec_fstQmaxRead hSel, congrArg (· ++ _) (State.at_out s t), State.stream_setStream_same .., fun a ha => ?_, State.rd_at s t,
      State.at_dram s t⟩
    exact (State.stream_setStream_ne _ _ ha).trans (State.stream_at s t a)
  case thumbnails =>
    refine ⟨_, exec_thumbnailInterval_of_due hUsed hField hSown hRate hDue hNobody, Tab.get_put_same .., ?_, State.rd_at s t, State.at_dram s t⟩
    change (Tab.get [] (Tab.put [] (s.at t).dma.thumbOut f (Tab.get [] (s.at t).dma.thumbOut f ++ _)) f).length = _
    rw [Tab.get_put_same, List.length_append, thumbData_length, State.at_dma, thumbBytes, State.thumbInputs]

/-! The read of a lost input by decision (R119, R124). -/

/-- A stream of one tile and two ring frames, read in timing group 0. -/
def oneTileCfg : StreamCfg where
  code := 0
  stored := 0
  rgb := false
  tiles := 1
  base := 0
  depth := 2
  maxDelay := 0
  ancKib := 2
  readGroup := 0
  mode := 1
  delay := 0

/-- A device whose one stream, number 1, has that form and runs as x. -/
def oneStreamState (x : StreamRun) : State :=
  (State.reset.setCfg { ImageCfg.none with streams := [(1, oneTileCfg)] }).setStream 1 x

/-- Ring frame 0 is COMPLETE with write index 4; the input is ready, but was lost since that frame was stored. -/
def lostInput : StreamRun := { coldStream with mode := 1, ready := true, lost := true, ring := [(0, ⟨4, true, true, 0⟩)] }

/-- The keyholder's decision that stream 1 reads write index 4 in frame 9. -/
def readsFour : DecisionRec := ⟨1, 0, 1, 9, 4⟩

/-- A follower, the wall up, that holds this decision for its lost input. -/
def lostInputFollower : State :=
  let s := oneStreamState lostInput
  (s.setCtl { s.ctl with role := .follower }).setTwn { s.twn with wall := { s.twn.wall with up := true }, decisions := [readsFour] }

/-- Its read is the first of a loss hold, and says so (R124). -/
theorem lostInputFollower_sets_input_hold :
    ∃ u, exec (.readStart 0 1 9) lostInputFollower = .next u ∧ u.rd Reg.FST_EVENT = 0x40 := ⟨_, rfl, by decide +kernel⟩

/-- Refutes O30: its third clause has a follower's read by a held DECISION change no register, and leaves out that a read of a stream whose input was
lost is a frame of a loss hold, the first of which sets FST_EVENT.INPUT_HOLD (R124). An input may be ready again before a new frame is COMPLETE. -/
theorem not_streams_read_what_was_decided : ¬ Obligations.streams_read_what_was_decided := by
  rintro ⟨-, -, hFollows, -⟩
  obtain ⟨u, hNext, -, -, hKept, -⟩ := hFollows 0 1 9 lostInputFollower oneTileCfg readsFour 0 rfl (by decide) (by decide +kernel)
    (by decide +kernel) (by decide) (by decide +kernel) (by decide) (by decide +kernel)
  obtain ⟨u', hNext', hEvent⟩ := lostInputFollower_sets_input_hold
  obtain rfl : u = u' := by simpa using hNext.symm.trans hNext'
  rw [hKept] at hEvent
  revert hEvent
  decide +kernel

/-! The check of a slot that was moved to a spare (R138, R139). -/

/-- The slot of the frame being read was retired and lies at its spare, 2 MiB up, whose bytes are no slot. -/
def movedSlotState : State :=
  (oneStreamState { coldStream with reading := some 0, ring := [(0, ⟨1, true, true, 0⟩)] }).setFst
    { State.reset.fst with retired := [(0, some 0x200000)] }

/-- TILE_CRC names the place where the slot lies: 0x200000 in 32-byte units. -/
theorem movedSlotState_raises_at_spare :
    ∃ u, exec (.slotRead 0 1 0) movedSlotState = .next u ∧ u.flt.inbox = [⟨0, 0x0C0, 0x21, 0x10000, 1⟩] := ⟨_, rfl, by decide +kernel⟩

/-- Refutes O31: its second clause has TILE_CRC name the address at which the layout puts the slot, also for a slot that was retired and now lies at a
spare (R139). The record names the spare, where the bytes that failed were read. -/
theorem not_slots_are_checked_at_use : ¬ Obligations.slots_are_checked_at_use := by
  rintro ⟨-, hFails, -⟩
  obtain ⟨u, hNext, -, hRecord, -⟩ := hFails 0 1 0 movedSlotState oneTileCfg 0 0x200000 rfl (by decide) (by decide) (by decide +kernel)
    (by decide +kernel) (by decide +kernel) (by decide +kernel) (by decide +kernel) (by decide +kernel)
  obtain ⟨u', hNext', hInbox⟩ := movedSlotState_raises_at_spare
  obtain rfl : u = u' := by simpa using hNext.symm.trans hNext'
  rw [hInbox] at hRecord
  revert hRecord
  decide +kernel

end Sys2Proof.Machine
end

section
/-! PROOFS. The state after reset (R207, R209, R410, R452). -/
namespace Sys2Proof.Machine

/-- Settles O2: no register is listed at reset, so that each reads what the register map gives for it; the lists of the memories are empty. -/
theorem reset_state_is_safe_and_as_stated : Obligations.reset_state_is_safe_and_as_stated := by
  have hRead (a : Nat) : State.reset.rd a = RegMap.resetOf a := rfl
  have hSafe : State.reset.keySafe := by decide
  refine ⟨⟨hSafe, rfl, rfl, rfl, rfl, rfl, rfl, rfl, rfl, rfl, rfl⟩, ?_, ?_, hRead⟩
  · rw [hRead]
    decide +kernel
  · rw [hRead]
    decide +kernel

end Sys2Proof.Machine
end

section
/-! PROOFS. What a follower takes from its keyholder (R119, R222, R227, R237). -/
namespace Sys2Proof.Machine

variable {s₀ s : State}

/-! What leaves the committed tables alone. One relation, `KeepsCommitted`, says it, and the lemma of an operation carries it along as `KeepsControl`
is carried. -/

/-- `t` has the committed tables of `s` with their generation, what is on air, the salvos that wait for a headland, mode, role, pins and DRAM. -/
structure KeepsCommitted (s t : State) : Prop where
  pins : t.pins = s.pins
  ctl : t.ctl = s.ctl
  dram : t.dram = s.dram
  vcom : t.xpt.vcom = s.xpt.vcom
  acom : t.xpt.acom = s.xpt.acom
  vout : t.xpt.vout = s.xpt.vout
  pending : t.xpt.pending = s.xpt.pending
  gen : t.rd Reg.XPT_GEN_COMMITTED = s.rd Reg.XPT_GEN_COMMITTED

theorem KeepsCommitted.refl (s : State) : KeepsCommitted s s := ⟨rfl, rfl, rfl, rfl, rfl, rfl, rfl, rfl⟩

theorem KeepsCommitted.ite {c : Prop} {inst : Decidable c} {t u : State} (h : KeepsCommitted s₀ t) (k : KeepsCommitted s₀ u) :
    KeepsCommitted s₀ (if c then t else u) := by
  split
  · exact h
  · exact k

theorem KeepsCommitted.foldl {β : Type} {l : List β} {f : State → β → State} (h : KeepsCommitted s₀ s)
    (hf : ∀ t b, KeepsCommitted s₀ t → KeepsCommitted s₀ (f t b)) : KeepsCommitted s₀ (l.foldl f s) := by
  induction l generalizing s with
  | nil => exact h
  | cons b l ih => exact ih (hf s b h)

/-- An operation that touches none of these parts, nor the generation's register. -/
theorem KeepsCommitted.of_eq {t : State} (h : KeepsCommitted s₀ s) (hPins : t.pins = s.pins) (hCtl : t.ctl = s.ctl) (hDram : t.dram = s.dram)
    (hXpt : t.xpt = s.xpt) (hGen : t.rd Reg.XPT_GEN_COMMITTED = s.rd Reg.XPT_GEN_COMMITTED) : KeepsCommitted s₀ t where
  pins := hPins.trans h.pins
  ctl := hCtl.trans h.ctl
  dram := hDram.trans h.dram
  vcom := (congrArg XptState.vcom hXpt).trans h.vcom
  acom := (congrArg XptState.acom hXpt).trans h.acom
  vout := (congrArg XptState.vout hXpt).trans h.vout
  pending := (congrArg XptState.pending hXpt).trans h.pending
  gen := hGen.trans h.gen

theorem KeepsCommitted.setTwn {x : TwinState} (h : KeepsCommitted s₀ s) : KeepsCommitted s₀ (s.setTwn x) := h.of_eq rfl rfl rfl rfl rfl
theorem KeepsCommitted.setLife {x : LifeState} (h : KeepsCommitted s₀ s) : KeepsCommitted s₀ (s.setLife x) := h.of_eq rfl rfl rfl rfl rfl
theorem KeepsCommitted.setDrcs {x : DrcState} (h : KeepsCommitted s₀ s) : KeepsCommitted s₀ (s.setDrcs x) := h.of_eq rfl rfl rfl rfl rfl
theorem KeepsCommitted.setRes {r : Nat} {x : MntRes} (h : KeepsCommitted s₀ s) : KeepsCommitted s₀ (s.setRes r x) := h.of_eq rfl rfl rfl rfl rfl
theorem KeepsCommitted.setLane {i : Nat} {x : LaneRun} (h : KeepsCommitted s₀ s) : KeepsCommitted s₀ (s.setLane i x) :=
  h.of_eq rfl rfl rfl rfl rfl
theorem KeepsCommitted.noteCount {off v n : Nat} (h : KeepsCommitted s₀ s) : KeepsCommitted s₀ (s.noteCount off v n) :=
  h.of_eq rfl rfl rfl rfl rfl
theorem KeepsCommitted.rebond {locked : Nat} (h : KeepsCommitted s₀ s) : KeepsCommitted s₀ (s.rebond locked) := h.setTwn

/-! Registers: every one but that of the generation may be written. -/

theorem KeepsCommitted.wr {off : Nat} {w : Word} (h : KeepsCommitted s₀ s) (hOff : Reg.XPT_GEN_COMMITTED ≠ off) :
    KeepsCommitted s₀ (s.wr off w) :=
  h.of_eq rfl rfl rfl rfl (State.rd_wr_ne _ _ hOff)

theorem KeepsCommitted.wrFld {off hi lo v : Nat} (h : KeepsCommitted s₀ s) (hOff : Reg.XPT_GEN_COMMITTED ≠ off) :
    KeepsCommitted s₀ (s.wrFld off hi lo v) := h.wr hOff

theorem KeepsCommitted.bump64 {lo hi n : Nat} (h : KeepsCommitted s₀ s) (hLo : Reg.XPT_GEN_COMMITTED ≠ lo) (hHi : Reg.XPT_GEN_COMMITTED ≠ hi) :
    KeepsCommitted s₀ (s.bump64 lo hi n) := ((h.wr hLo).wr hHi).noteCount

theorem KeepsCommitted.bump {off : Nat} (h : KeepsCommitted s₀ s) (hOff : Reg.XPT_GEN_COMMITTED ≠ off) : KeepsCommitted s₀ (s.bump off) :=
  h.of_eq (by simp) (by simp) (by simp) (by simp) (State.rd_bump_ne _ hOff)

/-- An event sets its flags and may set a pending bit, and neither register is that of the generation. -/
theorem KeepsCommitted.event {ev v : Nat} {m : Word} (h : KeepsCommitted s₀ s) (hEv : Reg.XPT_GEN_COMMITTED ≠ ev) :
    KeepsCommitted s₀ (s.event ev v m) :=
  h.of_eq (by simp) (by simp) (by simp) (by simp) (State.rd_event_ne _ _ _ _ _ hEv (by simp only [Reg.XPT_GEN_COMMITTED, Reg.MSIX_PENDING]; omega))

/-- The pages of the lanes lie above the registers of the crosspoint. -/
theorem Reg.genCommitted_lt_lanPage (i : Nat) : Reg.XPT_GEN_COMMITTED < Reg.lanPage i := by
  simp only [Reg.XPT_GEN_COMMITTED, Reg.lanPage]
  split <;> omega

theorem Reg.genCommitted_ne_lan (i k : Nat) : Reg.XPT_GEN_COMMITTED ≠ Reg.lanPage i + k := by
  have := Reg.genCommitted_lt_lanPage i
  omega

/-! A committed salvo ends lane tests (R302). -/

theorem KeepsCommitted.testEnds {i x : Nat} (h : KeepsCommitted s₀ s) : KeepsCommitted s₀ (s.testEnds i x) :=
  ((h.wrFld (Reg.genCommitted_ne_lan i _)).wrFld (Reg.genCommitted_ne_lan i _)).event (Reg.genCommitted_ne_lan i _)

theorem KeepsCommitted.activityStarts {a : Activity} (h : KeepsCommitted s₀ s) : KeepsCommitted s₀ (s.activityStarts a) :=
  have hTest := (h.wrFld (Reg.genCommitted_ne_lan a.unit _)).setLane
  .ite (.ite hTest.rebond hTest) (.ite h.setLife (.ite h.setDrcs (.ite (.ite h (h.wrFld (by decide))) h)))

theorem KeepsCommitted.mntDone {r : Nat} (h : KeepsCommitted s₀ s) : KeepsCommitted s₀ (s.mntDone r) := by
  unfold State.mntDone
  extract_lets
  split
  · exact h.setRes.activityStarts
  · exact h.setRes

theorem KeepsCommitted.mntWithdraw {r : Nat} {a : Activity} (h : KeepsCommitted s₀ s) : KeepsCommitted s₀ (s.mntWithdraw r a) := h.setRes

theorem KeepsCommitted.abortTests (h : KeepsCommitted s₀ s) : KeepsCommitted s₀ s.abortTests :=
  h.foldl fun _ _ h => .ite (.ite (h.testEnds.wrFld (Reg.genCommitted_ne_lan _ _)).mntDone h.mntWithdraw.testEnds) h

/-! An order (R226, R227). -/

/-- The crosspoint's bookkeeping of senders and held messages is none of the tables. -/
theorem KeepsCommitted.setXpt {x : XptState} (h : KeepsCommitted s₀ s) (hVcom : x.vcom = s.xpt.vcom) (hAcom : x.acom = s.xpt.acom)
    (hVout : x.vout = s.xpt.vout) (hPending : x.pending = s.xpt.pending) : KeepsCommitted s₀ (s.setXpt x) :=
  ⟨h.pins, h.ctl, h.dram, hVcom.trans h.vcom, hAcom.trans h.acom, hVout.trans h.vout, hPending.trans h.pending, h.gen⟩

theorem KeepsCommitted.storeAck {o : Order} (h : KeepsCommitted s₀ s) : KeepsCommitted s₀ (s.storeAck o) := by
  unfold State.storeAck
  split
  · exact h
  · exact h.setXpt rfl rfl rfl rfl

theorem KeepsCommitted.dropHeld {o : Order} (h : KeepsCommitted s₀ s) : KeepsCommitted s₀ (s.dropHeld o) :=
  .ite (h.setXpt rfl rfl rfl rfl) (h.setXpt rfl rfl rfl rfl)

theorem KeepsCommitted.orderLate {o : Order} {fs : List (Nat × Nat)} (h : KeepsCommitted s₀ s) : KeepsCommitted s₀ (s.orderLate o fs) :=
  .ite h ((h.bump (by decide)).event (by decide)).setTwn

@[simp] theorem State.storeAck_cfg (s : State) (o : Order) : (s.storeAck o).cfg = s.cfg := by
  unfold State.storeAck
  split <;> rfl

@[simp] theorem State.dropHeld_cfg (s : State) (o : Order) : (s.dropHeld o).cfg = s.cfg := by
  unfold State.dropHeld
  split <;> rfl

/-- What an entry makes of the tables depends on the image alone: any state with that image gives the same. -/
theorem State.applyTables_eq_of_cfg (s : State) : s.applyTables = (State.reset.setCfg s.cfg).applyTables := rfl

theorem State.applyTables_congr {s t : State} (hCfg : t.cfg = s.cfg) : t.applyTables = s.applyTables := by
  rw [State.applyTables_eq_of_cfg t, hCfg, ← State.applyTables_eq_of_cfg s]

/-- What a salvo makes of the committed tables depends on them and on the image. -/
theorem State.tablesAfter_congr {s t : State} (hCfg : t.cfg = s.cfg) (hVcom : t.xpt.vcom = s.xpt.vcom) (hAcom : t.xpt.acom = s.xpt.acom) :
    t.tablesAfter = s.tablesAfter := by
  funext gen es
  rw [State.tablesAfter, State.tablesAfter, State.applyTables_congr hCfg, hVcom, hAcom]

/-- The state in which a salvo has just become committed: its tables, its generation, and its place among those that wait. -/
def State.withCommitted (s : State) (gen : Nat) (es : List Entry) (p : Pending) : State :=
  (s.setXpt { s.xpt with
      vcom := (s.tablesAfter gen es).1, acom := (s.tablesAfter gen es).2, pending := s.xpt.pending ++ [p]
      history := s.xpt.history ++ [.salvo es] }).wr Reg.XPT_GEN_COMMITTED (BitVec.ofNat 32 gen)

/-- Beside that, a commit counts, sets an event and ends lane tests. -/
theorem KeepsCommitted.commitSalvo (s : State) (r : Option ReplyTo) (gen : Nat) (es : List Entry) (fs : List (Nat × Nat)) (commit : Nat) :
    KeepsCommitted (s.withCommitted gen es ⟨0, gen, fs, fs.map Prod.fst, es, [], r, commit⟩) (s.commitSalvo r gen es fs commit) :=
  ((((KeepsCommitted.refl _).bump64 (by decide) (by decide)).bump64 (by decide) (by decide)).event (by decide)).abortTests

/-- A salvo's order, applied: the tables and the generation are its own, and it waits for the headlands that the follower holds. -/
theorem State.applyOrder_of_salvo {o : Order} (hSalvo : o.order = 0) :
    ((s.applyOrder o).xpt.vcom, (s.applyOrder o).xpt.acom) = s.tablesAfter o.gen o.entries ∧
      (s.applyOrder o).rd Reg.XPT_GEN_COMMITTED = BitVec.ofNat 32 o.gen ∧
      (s.applyOrder o).xpt.pending =
        s.xpt.pending ++ [⟨0, o.gen, s.heldFrames o, (s.heldFrames o).map Prod.fst, o.entries, [], none, o.commit⟩] ∧
      (s.applyOrder o).xpt.vout = s.xpt.vout ∧ (s.applyOrder o).ctl = s.ctl ∧ (s.applyOrder o).pins = s.pins ∧
      (s.applyOrder o).dram = s.dram := by
  have hFound : KeepsCommitted s ((s.storeAck o).dropHeld o) := (KeepsCommitted.refl s).storeAck.dropHeld
  have hTables : ((s.storeAck o).dropHeld o).tablesAfter = s.tablesAfter :=
    State.tablesAfter_congr (by simp) hFound.vcom hFound.acom
  have hTaken : s.takeOrder o (s.heldFrames o) = ((s.storeAck o).dropHeld o).commitSalvo none o.gen o.entries (s.heldFrames o) o.commit :=
    if_pos hSalvo
  have hMade := (KeepsCommitted.commitSalvo ((s.storeAck o).dropHeld o) none o.gen o.entries (s.heldFrames o) o.commit).orderLate (o := o)
    (fs := s.heldFrames o)
  rw [← hTaken] at hMade
  refine ⟨Prod.ext ?_ ?_, hMade.gen.trans (State.rd_wr_same ..), ?_, hMade.vout.trans hFound.vout, hMade.ctl.trans hFound.ctl,
    hMade.pins.trans hFound.pins, hMade.dram.trans hFound.dram⟩
  · exact hMade.vcom.trans (congrArg (fun f => (f o.gen o.entries).1) hTables)
  · exact hMade.acom.trans (congrArg (fun f => (f o.gen o.entries).2) hTables)
  · exact hMade.pending.trans (congrArg (· ++ _) hFound.pending)

/-! What arrives over the wall (R222, R237). -/

@[simp] theorem State.joining_at (s : State) (t : Nat) : (s.at t).joining = s.joining := by simp [State.joining]

/-- A device whose wall is up and whose state transfer has no snapshot yet keeps decisions. -/
theorem State.hearDecision_of_joining {recs : List DecisionRec} (hUp : s.twn.wall.up = true) (hJoining : s.joining = true) :
    s.hearDecision recs = s.setTwn { s.twn with decisions := s.twn.decisions ++ recs } := by
  simp only [State.hearDecision, hUp, hJoining, Bool.true_eq_false, if_false, if_true]

/-- It keeps orders as well. -/
theorem State.hearOrder_of_joining {o : Order} (hUp : s.twn.wall.up = true) (hJoining : s.joining = true) :
    s.hearOrder o = s.setTwn { s.twn with orders := s.twn.orders ++ [o] } := by
  simp only [State.hearOrder, hUp, hJoining, Bool.true_eq_false, if_false, if_true]

/-- A follower in SERVICE or JOIN applies decisions. -/
theorem State.hearDecision_of_follower {recs : List DecisionRec} (hUp : s.twn.wall.up = true) (hMode : s.ctl.mode = .service ∨ s.ctl.mode = .join)
    (hRole : s.ctl.role = .follower) (hApplied : s.joining = false) :
    s.hearDecision recs = recs.foldl State.applyDecision (s.setTwn { s.twn with following := true }) := by
  simp only [State.hearDecision, hUp, hApplied, hMode, hRole, Bool.true_eq_false, Bool.false_eq_true, if_false, true_or, and_self, if_true]

/-- It applies orders as well. -/
theorem State.hearOrder_of_follower {o : Order} (hUp : s.twn.wall.up = true) (hMode : s.ctl.mode = .service ∨ s.ctl.mode = .join)
    (hRole : s.ctl.role = .follower) (hApplied : s.joining = false) : s.hearOrder o = s.applyOrder o := by
  simp only [State.hearOrder, hUp, hApplied, hMode, hRole, Bool.true_eq_false, Bool.false_eq_true, if_false, true_or, and_self, if_true]

/-- With the wall down nothing is heard, nor by a device that follows nobody and asks for no state. -/
theorem State.hears_nothing (h : s.twn.wall.up = false ∨ (s.ctl.role ≠ .follower ∧ s.twn.join.active = false)) (recs : List DecisionRec)
    (o : Order) : s.hearDecision recs = s ∧ s.hearOrder o = s := by
  rcases h with hDown | ⟨hRole, hIdle⟩
  · exact ⟨if_pos hDown, if_pos hDown⟩
  · have hApplied : s.joining = false := by simp [State.joining, hIdle]
    simp only [State.hearDecision, State.hearOrder, hApplied, hRole, hIdle, Bool.false_eq_true, or_self, and_false, if_false, ite_self, and_self]

/-- A frame read, or a verdict that comes in time, is held for its frame (R119, R163). -/
theorem State.applyDecision_of_held {d : DecisionRec}
    (hHeld : d.kind = 1 ∨ (d.kind = 2 ∧ (s.deviceTime : Int) ≤ s.cmpReadStart (d.index / 16) d.at_)) :
    s.applyDecision d = s.setTwn { s.twn with decisions := s.twn.decisions ++ [d] } := by
  have hInTime : ¬ (d.kind = 2 ∧ s.cmpReadStart (d.index / 16) d.at_ < (s.deviceTime : Int)) := by omega
  have hKind : d.kind = 1 ∨ d.kind = 2 := by omega
  rw [State.applyDecision, if_neg hInTime, if_pos hKind]

/-- Settles O42: a follower's decisions are held one by one and its salvo is committed as `applyOrder_of_salvo` says; a device that waits for its
snapshot only queues; a device that hears nothing only carries the clock on. -/
theorem follower_takes_orders_and_decisions : Obligations.follower_takes_orders_and_decisions := by
  refine ⟨fun t s d hUp hMode hRole hApplied hHeld => ?held, fun t s recs hUp hJoining => ?decisionsQueue,
    fun t s o hUp hMode hRole hApplied hSalvo => ?salvo, fun t s o hUp hJoining => ?orderQueues, fun t s o recs hDeaf => ?deaf⟩
  case held =>
    have hHeard : (s.at t).hearDecision [d] = ((s.at t).setTwn { (s.at t).twn with following := true }).applyDecision d :=
      State.hearDecision_of_follower (by simpa using hUp) (by simpa using hMode) (by simpa using hRole) (by simpa using hApplied)
    refine ⟨_, congrArg Host.Outcome.next (hHeard.trans (State.applyDecision_of_held hHeld)), ?_⟩
    simp
  case decisionsQueue =>
    refine ⟨_, congrArg Host.Outcome.next (State.hearDecision_of_joining (by simpa using hUp) (by simpa using hJoining)), ?_⟩
    simp
  case salvo =>
    have hHeard : (s.at t).hearOrder o = (s.at t).applyOrder o :=
      State.hearOrder_of_follower (by simpa using hUp) (by simpa using hMode) (by simpa using hRole) (by simpa using hApplied)
    refine ⟨_, congrArg Host.Outcome.next hHeard, ?_⟩
    have hTables : (s.at t).tablesAfter = s.tablesAfter := State.tablesAfter_congr (by simp) (by simp) (by simp)
    obtain ⟨hCommitted, hGen, hPending, hVout, hCtl, hPins, hDram⟩ := State.applyOrder_of_salvo (s := s.at t) hSalvo
    rw [hTables] at hCommitted
    rw [State.at_xpt] at hPending hVout
    exact ⟨hCommitted, hGen, hPending, hVout, hCtl.trans (State.at_ctl s t), hPins.trans (State.at_pins s t), hDram.trans (State.at_dram s t)⟩
  case orderQueues =>
    refine ⟨_, congrArg Host.Outcome.next (State.hearOrder_of_joining (by simpa using hUp) (by simpa using hJoining)), ?_⟩
    simp
  case deaf =>
    obtain ⟨hDecision, hOrder⟩ := State.hears_nothing (s := s.at t) (by simpa using hDeaf) recs o
    exact ⟨congrArg _ hDecision, congrArg _ hOrder⟩

end Sys2Proof.Machine
end

section
/-! PROOFS. The static cache of a compositor and the background self-tests (R157, R158, R414). -/
namespace Sys2Proof.Machine

variable {s : State} {t c : Nat}

/-! A compositor's run, a bit of a register, a fault raised. -/

theorem State.cmpRun_setCmp_same (s : State) (c : Nat) (x : CmpRun) : (s.setCmp c x).cmpRun c = x := by simp [State.cmpRun]

theorem State.cmpRun_setCmp_ne (s : State) {a : Nat} (x : CmpRun) (h : a ≠ c) : (s.setCmp c x).cmpRun a = s.cmpRun a := by
  simp [State.cmpRun, h]

@[simp] theorem State.cmpRun_at (s : State) (t c : Nat) : (s.at t).cmpRun c = s.cmpRun c := by simp [State.cmpRun]
@[simp] theorem State.cmpActive_at (s : State) (t c : Nat) : (s.at t).cmpActive c = s.cmpActive c := by simp [State.cmpActive, State.rdBit]
@[simp] theorem State.staticSet_at (s : State) (t c : Nat) : (s.at t).staticSet c = s.staticSet c := by
  simp [State.staticSet, State.zOrder, State.rdFld, State.rdBit]

/-- A bit that was set reads as set. -/
theorem State.rdBit_wrBit_same (s : State) {off i : Nat} (h : i < 32) : (s.wrBit off i true).rdBit off i = true := by
  rw [State.rdBit, State.rd_wrBit_same, bit, setFld_getLsbD _ _ _ _ _ h]
  simp [b2n]

theorem State.mem_inbox_raise (s : State) (src kind addr cls : Nat) :
    (⟨s.now, src, kind, addr % 4294967296, cls⟩ : FaultMsg) ∈ (s.raise src kind addr cls).flt.inbox := FaultMsg.mem_insert ..

/-! Reading the static set and writing the cache leaves what is on air alone: of the crosspoint, a slot that fails adds to the history only. -/

@[simp] theorem State.retireSlot_vout (s : State) (k : StreamCfg) (addr : Nat) : (s.retireSlot k addr).xpt.vout = s.xpt.vout := by
  unfold State.retireSlot
  extract_lets _ _ _ s1 _ _ s2 flagged
  have hRaised : s1.xpt.vout = s.xpt.vout := by simp [s1]
  have hRecorded : s2.xpt.vout = s.xpt.vout := hRaised
  split
  · exact hRecorded
  · split
    · exact hRecorded
    · simpa [flagged] using hRecorded

@[simp] theorem State.slotFailed_vout (s : State) (k : StreamCfg) (addr : Nat) (why : SlotFail) :
    (s.slotFailed k addr why).xpt.vout = s.xpt.vout := by
  unfold State.slotFailed
  extract_lets _ _ _ s1 s2 _ _ _ s4
  have hCounted : s2.xpt = s.xpt := by cases why <;> simp [s2, s1]
  have hNoted : s4.xpt.vout = s.xpt.vout := congrArg XptState.vout hCounted
  split
  · rfl
  · split
    · exact (State.retireSlot_vout ..).trans hNoted
    · exact hNoted

@[simp] theorem State.useContent_vout (s : State) (k : StreamCfg) (addr : Nat) : (s.useContent k addr).1.xpt.vout = s.xpt.vout := by
  unfold State.useContent
  extract_lets gone
  have hGone (a : State) : (gone a).1.xpt.vout = a.xpt.vout := by simp [gone]
  split
  · exact hGone s
  · split
    · rfl
    · exact (hGone _).trans (State.slotFailed_vout ..)

theorem State.fetchWith_vout {f : State → Nat → State × List (List Nat)} (hf : ∀ a k, (f a k).1.xpt.vout = a.xpt.vout) (s : State)
    (ks : List Nat) : (State.fetchWith f s ks).1.xpt.vout = s.xpt.vout := by
  induction ks generalizing s with
  | nil => rfl
  | cons k ks ih => exact (ih _).trans (hf s k)

@[simp] theorem State.contentPic_vout (s : State) (k : StreamCfg) (base w h : Nat) : (s.contentPic k base w h).1.xpt.vout = s.xpt.vout :=
  State.fetchWith_vout (fun a _ => State.useContent_vout a k _) s _

@[simp] theorem State.graphicLayer_vout (s : State) (c n : Nat) : (s.graphicLayer c n).1.xpt.vout = s.xpt.vout := by
  unfold State.graphicLayer
  split
  · rfl
  · extract_lets
    split <;> exact State.contentPic_vout ..

@[simp] theorem State.staticLayers_vout (s : State) (c : Nat) : (s.staticLayers c).1.xpt.vout = s.xpt.vout :=
  List.foldlRecOn (motive := fun r : State × List Layer => r.1.xpt.vout = s.xpt.vout) _ _ rfl
    fun _ ih _ _ => (State.graphicLayer_vout ..).trans ih

@[simp] theorem State.writeCache_vout (s : State) (c b : Nat) (ls : List Layer) : (s.writeCache c b ls).xpt.vout = s.xpt.vout := by
  unfold State.writeCache
  split
  · rfl
  · exact List.foldlRecOn (motive := fun a : State => a.xpt.vout = s.xpt.vout) _ _ rfl fun _ ih _ _ => ih

/-! The commands. -/

/-- A compositor's static set, read and written into the buffer of its cache that is not in use (R157). -/
def State.withCacheWritten (s : State) (c : Nat) : State :=
  (s.staticLayers c).1.writeCache c (1 - (s.cmpRun c).buffer % 2) (s.staticLayers c).2

@[simp] theorem State.withCacheWritten_vout (s : State) (c : Nat) : (s.withCacheWritten c).xpt.vout = s.xpt.vout := by
  simp [State.withCacheWritten]

/-- A compositor's run with a cache of these static layers just built: no change is due, and the 4 frames count anew (R158). -/
def CmpRun.rebuilt (x : CmpRun) (layers : List Nat) : CmpRun :=
  { x with since := 0, change := false, building := true, fresh := true, buildSet := layers }

theorem exec_cacheRebuild_of_due (hActive : s.cmpActive c = true) (hChange : (s.cmpRun c).change = true) (hSince : 4 ≤ (s.cmpRun c).since) :
    exec (.cacheRebuild t c) s = .next (((((s.at t).withCacheWritten c).setCmp c
      ((((s.at t).withCacheWritten c).cmpRun c).rebuilt (s.staticSet c))).bump (Reg.CMP_CNT_REBUILD c)).wrBit (Reg.CMP_STATUS c) 30 true) := by
  have hDue : (s.cmpActive c && (s.cmpRun c).change && decide (4 ≤ (s.cmpRun c).since)) = true := by simp [hActive, hChange, hSince]
  change execCacheRebuild t c s = _
  simp only [execCacheRebuild, State.cmpActive_at, State.cmpRun_at, State.staticSet_at, hDue, if_true, State.withCacheWritten, CmpRun.rebuilt]

theorem exec_goldenTileTest_of_hit (hActive : s.cmpActive c = true) :
    exec (.goldenTileTest t c true) s = .next ((s.at t).setCmp c { s.cmpRun c with misses := 0 }) := by
  change execGoldenTileTest t c true s = _
  simp only [execGoldenTileTest, State.cmpActive_at, State.cmpRun_at, hActive, Bool.true_eq_false, if_false, if_true]

/-- The tile of a compositor missed once more. -/
def State.tileMissed (s : State) (c : Nat) : State := s.setCmp c { s.cmpRun c with misses := (s.cmpRun c).misses + 1 }

@[simp] theorem State.tileMissed_misses (s : State) (c : Nat) : ((s.tileMissed c).cmpRun c).misses = (s.cmpRun c).misses + 1 :=
  congrArg CmpRun.misses (State.cmpRun_setCmp_same ..)

/-- A miss that follows no other raises GOLDEN_MISS at the frame of the compositor's group (R414). -/
theorem exec_goldenTileTest_of_first_miss (hActive : s.cmpActive c = true) (hMisses : (s.cmpRun c).misses = 0) :
    exec (.goldenTileTest t c false) s =
      .next (((s.at t).tileMissed c).raise (0x040 + c) 0x0A (s.grp (s.cmpGroup c)).frame 1) := by
  have hGroup : ((s.at t).tileMissed c).cmpGroup c = s.cmpGroup c := by simp [State.tileMissed, State.cmpGroup, State.rdFld, State.rd]
  have hFrame (g : Nat) : ((s.at t).tileMissed c).grp g = s.grp g := by simp [State.tileMissed, State.grp]
  change execGoldenTileTest t c false s = _
  rw [← hGroup, ← hFrame]
  simp only [execGoldenTileTest, State.tileMissed, State.cmpActive_at, State.cmpRun_at, hActive, hMisses, Bool.true_eq_false,
    Bool.false_eq_true, if_false, if_true]

/-- A miss that follows another raises SELFTEST_FAIL (R414). -/
theorem exec_goldenTileTest_of_repeated_miss (hActive : s.cmpActive c = true) (hMisses : (s.cmpRun c).misses ≠ 0) :
    exec (.goldenTileTest t c false) s = .next (((s.at t).tileMissed c).selftestFail (0x040 + c) 1) := by
  change execGoldenTileTest t c false s = _
  simp only [execGoldenTileTest, State.tileMissed, State.cmpActive_at, State.cmpRun_at, hActive, hMisses, Bool.true_eq_false,
    Bool.false_eq_true, if_false]

/-- A good chunk of an idle resource changes nothing, whether the part has the resource or not. -/
theorem exec_sramBistChunk_of_good {r : Nat} (hIdle : (s.res r).running = none) :
    exec (.sramBistChunk t r c true) s = .next (s.at t) := by
  have hIdle' : ((s.at t).res r).running = none := by simpa [State.res] using hIdle
  change execSramBistChunk t r c true s = _
  simp only [execSramBistChunk, hIdle', if_true, ite_self]

/-- A bad chunk of the line exchange, which every part has, while its resource is idle. -/
theorem exec_sramBistChunk_of_bad_exchange (hIdle : (s.res 75).running = none) :
    exec (.sramBistChunk t 75 c false) s = .next ((s.at t).selftestFail 0x011 2) := by
  have hIdle' : ((s.at t).res 75).running = none := by simpa [State.res] using hIdle
  have hPresent : (s.at t).resPresent 75 = true := rfl
  change execSramBistChunk t 75 c false s = _
  simp only [execSramBistChunk, hIdle', hPresent, true_or, and_self, if_true, Bool.false_eq_true, if_false]

/-- Settles O33: each command has its outcome by a lemma above; a rebuild leaves what is on air alone, and a test raises at most its own fault. -/
theorem compositor_caches_and_self_tests : Obligations.compositor_caches_and_self_tests := by
  refine ⟨fun t c s hActive hChange hSince => ?rebuild, fun t c s hActive => ?hit, fun t c s hActive => ?miss,
    fun t r c s _ hIdle => ?good, fun t c s hIdle => ?bad⟩
  case rebuild =>
    have hRun (a : State) (x : CmpRun) :
        (((a.setCmp c x).bump (Reg.CMP_CNT_REBUILD c)).wrBit (Reg.CMP_STATUS c) 30 true).cmpRun c = x := by simp [State.cmpRun]
    refine ⟨_, exec_cacheRebuild_of_due hActive hChange hSince, ?_, ?_, ?_, State.rdBit_wrBit_same _ (by decide), ?_⟩
    · exact congrArg CmpRun.since (hRun ..)
    · exact congrArg CmpRun.change (hRun ..)
    · exact congrArg CmpRun.building (hRun ..)
    · simp
  case hit =>
    exact ⟨_, exec_goldenTileTest_of_hit hActive, State.cmpRun_setCmp_same .., fun a ha => (State.cmpRun_setCmp_ne _ _ ha).trans (by simp),
      State.rd_at s t, State.at_flt s t, State.at_dram s t⟩
  case miss =>
    have hMissed : ((s.at t).tileMissed c).now = max s.now t := State.at_now s t
    have hMisses : (((s.at t).tileMissed c).cmpRun c).misses = (s.cmpRun c).misses + 1 := by simp
    by_cases hFirst : (s.cmpRun c).misses = 0
    · refine ⟨_, exec_goldenTileTest_of_first_miss hActive hFirst, hMisses, fun _ => ?_, fun h => absurd hFirst h, State.rd_at s t,
        State.at_dram s t⟩
      exact hMissed ▸ State.mem_inbox_raise ..
    · refine ⟨_, exec_goldenTileTest_of_repeated_miss hActive hFirst, hMisses, fun h => absurd h hFirst, fun _ => ?_, State.rd_at s t,
        State.at_dram s t⟩
      exact hMissed ▸ State.mem_inbox_raise ..
  case good => exact ⟨_, exec_sramBistChunk_of_good hIdle, State.at_flt s t, State.at_mnt s t, State.rd_at s t, State.at_dram s t⟩
  case bad =>
    refine ⟨_, exec_sramBistChunk_of_bad_exchange hIdle, ?_, State.at_mnt s t, State.rd_at s t, State.at_dram s t⟩
    exact State.at_now s t ▸ State.mem_inbox_raise ..

end Sys2Proof.Machine
end

section
/-! PROOFS. Audio blocks (R188, R190, R361): a packet of a FOREIGN flow that arrives in the instant of a block is in time for it. -/
namespace Sys2Proof.Machine

/-- The origin of an audio source channel: channel 0 of receive context 0, a FOREIGN flow of 48 kHz (R179). -/
def foreignFlow : Origin where
  kind := 2
  rate := 1
  place := 0
  channel := 0
  foreign := true
  tg := 0

/-- An RTP packet of 6 samples of one channel, 16 bits each, all 0, over UDP without checksum and IPv4, all addresses and ports 0. -/
def sixSamplePacket : List Byte :=
  let rtp := [0x80] ++ List.replicate 23 0
  let udp := [0, 0, 0, 0] ++ toBe 2 (8 + rtp.length) ++ [0, 0] ++ rtp
  List.replicate 12 0 ++ [0x08, 0x00, 0x45, 0] ++ toBe 2 (20 + udp.length) ++ [0, 0, 0, 0, 64, 17] ++ List.replicate 10 0 ++ udp

/-- The frame of that packet, with its FCS. -/
def sixSampleFrame : EthFrame where
  bytes := sixSamplePacket ++ toLe 4 (crc32 sixSamplePacket)
  marked := false
  drained := 0
  storeFull := false
  codes := ⟨0, 0, 0, 0, 0, 0, 0⟩

/-- An input that is ready and read, with one block of 6 samples of channel 0 in its FIFO. -/
def oneBlockIn : AudIn := { coldIn with notReady := false, going := true, fifo := [(0, List.replicate 6 ⟨1, none⟩)] }

/-- SERVICE. Lane 0 carries a 10 Gb/s Ethernet port whose link is up, receive context 0 takes packets of 6 samples there for input 1,024, which holds one
block; such a packet waits to be received in the present instant. -/
def arrivingBlockState : State :=
  let s := State.reset.setCtl { State.reset.ctl with mode := .service }
  let s := ((s.wr (Reg.LAN_CFG 0) 0x30000000).wr (Reg.MAC_CFG 0) 0x05EE0000).wr (Reg.MAC_STATUS 0) 0x80000000
  let s := (s.wr (Reg.RXC_CFG 0) 0x90008000).setCfg { ImageCfg.none with asrc := [(1, foreignFlow)] }
  (s.setAudIn 1024 oneBlockIn).setPending [.frameReceive 0 0 sixSampleFrame]

/-- With the packet the FIFO holds the two blocks that need no repeat. -/
theorem arrivingBlockState_fill : (arrivingBlockState.audIn 1024).fill = 1 ∧ (arrivingBlockState.takeFlows.audIn 1024).fill = 2 := by decide +kernel

/-- The slip order that an outcome leaves at an input. -/
def slipAfter (o : Host.Outcome State Fault Refusal) (i : Nat) : Option (Nat × Bool × Bool) :=
  match o with
  | .next u => (u.audIn i).slip
  | _ => none

theorem arrivingBlockState_orders_no_slip : slipAfter (exec (.audioBlock 0 1 []) arrivingBlockState) 1024 = none := by decide +kernel

/-- Refutes O34: its second clause has a repeat ordered for every input whose FIFO held fewer than two blocks before the command, and leaves out that a
packet which reaches a FOREIGN flow in the instant of the block is in time for it (R361) and enters the FIFO first. Here it brings the second block, and
no slip is ordered. -/
theorem not_audio_blocks_and_slips : ¬ Obligations.audio_blocks_and_slips := by
  rintro ⟨-, hOrders, -⟩
  have hLow : (arrivingBlockState.audIn 1024).fill < 2 := by
    rw [arrivingBlockState_fill.1]
    decide
  obtain ⟨u, hNext, hSlip, -⟩ := hOrders 0 1 1024 arrivingBlockState (by decide) (by decide) (by decide +kernel) (by decide +kernel)
    (by decide +kernel) (by decide +kernel) (by decide +kernel) (.inr hLow)
  have hNone := arrivingBlockState_orders_no_slip
  rw [hNext] at hNone
  exact absurd (hNone.symm.trans hSlip) (by simp)

end Sys2Proof.Machine
end

section
/-! PROOFS. Serial audio ports (R195–R198): masks that wait for their frame, start, stop, clock loss, recovery and the limit of a follow port. -/
namespace Sys2Proof.Machine

variable {s₀ s : State} {t p : Nat}

/-! Fields and bits of a word, and of a register. -/

theorem bit_setFld (w : Word) (hi lo v : Nat) {i : Nat} (h : hi < 32) :
    bit (setFld w hi lo v) i = if lo ≤ i ∧ i ≤ hi then v.testBit (i - lo) else bit w i := setFld_getLsbD _ _ _ _ _ h

/-- The low bits of a field. -/
theorem fld_low (w : Word) {hi mid : Nat} (lo : Nat) (h : mid ≤ hi) : fld w mid lo = fld w hi lo % 2 ^ (mid + 1 - lo) :=
  (Nat.mod_mod_of_dvd _ (Nat.pow_dvd_pow 2 (by omega))).symm

@[simp] theorem State.rdBit_at (s : State) (t a i : Nat) : (s.at t).rdBit a i = s.rdBit a i := by simp [State.rdBit]
@[simp] theorem State.rdFld_at (s : State) (t a hi lo : Nat) : (s.at t).rdFld a hi lo = s.rdFld a hi lo := by simp [State.rdFld]

theorem State.rd_wr64_ne (s : State) {lo hi a : Nat} (v : Nat) (hLo : a ≠ lo) (hHi : a ≠ hi) : (s.wr64 lo hi v).rd a = s.rd a := by
  rw [State.wr64, State.rd_wr_ne _ _ hHi, State.rd_wr_ne _ _ hLo]

theorem State.rd64_wr64_same (s : State) {lo hi v : Nat} (hNe : lo ≠ hi) (hv : v < 18446744073709551616) : (s.wr64 lo hi v).rd64 lo hi = v := by
  rw [State.rd64, State.wr64, State.rd_wr_same, State.rd_wr_ne _ _ hNe, State.rd_wr_same, BitVec.toNat_ofNat, BitVec.toNat_ofNat]
  omega

/-- An event leaves a flag of its register that is set already. -/
theorem State.rdBit_event_of_set {ev v i : Nat} (m : Word) (hev : ev ≠ Reg.MSIX_PENDING (v / 32)) (h : s.rdBit ev i = true) :
    (s.event ev v m).rdBit ev i = true := by
  rw [State.rdBit, bit] at h ⊢
  rw [State.rd_event_same _ _ _ _ hev, BitVec.getLsbD_or, h, Bool.true_or]

/-- An audio event writes no register but its own and the pending bits of the first 32 vectors. -/
theorem State.rd_audEvent_ne (s : State) {i a : Nat} (hEvent : a ≠ Reg.AUD_EVENT) (hPending : a ≠ Reg.MSIX_PENDING 0) :
    (s.audEvent i).rd a = s.rd a := State.rd_event_ne s _ 9 a _ hEvent hPending

/-- So it writes neither AP_STATUS nor AP_NCO of a port. -/
theorem State.rd_audEvent_port (s : State) {i a : Nat} (h : a = Reg.AP_STATUS p ∨ a = Reg.AP_NCO p) : (s.audEvent i).rd a = s.rd a :=
  State.rd_audEvent_ne s (by simp at h ⊢; omega) (by simp at h ⊢; omega)

theorem State.rdBit_audEvent_same (s : State) {i : Nat} (hi : i < 32) : (s.audEvent i).rdBit Reg.AUD_EVENT i = true :=
  State.rdBit_event_same s _ 9 i (by decide) hi

/-! A port's run. -/

theorem State.port_setPort_same (s : State) (p : Nat) (x : PortRun) : (s.setPort p x).port p = x := by simp [State.port]

theorem State.port_setPort_ne (s : State) {a : Nat} (x : PortRun) (h : a ≠ p) : (s.setPort p x).port a = s.port a := by simp [State.port, h]

theorem State.rd_setPort (s : State) (p : Nat) (x : PortRun) (a : Nat) : (s.setPort p x).rd a = s.rd a := rfl

/-- Ports are read from their table alone. -/
theorem State.port_congr {u : State} (h : u.aud.ports = s.aud.ports) (p : Nat) : u.port p = s.port p := congrArg (Tab.get coldPort · p) h

@[simp] theorem State.port_at (s : State) (t p : Nat) : (s.at t).port p = s.port p := State.port_congr (by simp) p
@[simp] theorem State.port_audEvent (s : State) (i p : Nat) : (s.audEvent i).port p = s.port p := State.port_congr (by simp) p
@[simp] theorem State.portSlots_at (s : State) (t p : Nat) : (s.at t).portSlots p = s.portSlots p := by simp [State.portSlots]
@[simp] theorem State.portClock_at (s : State) (t p : Nat) : (s.at t).portClock p = s.portClock p := by simp [State.portClock]
@[simp] theorem State.portBadCfg_at (s : State) (t p : Nat) : (s.at t).portBadCfg p = s.portBadCfg p := by
  rw [State.portBadCfg, State.portClock_at, State.rdFld_at, State.portBadCfg]
@[simp] theorem State.audioRuns_at (s : State) (t : Nat) : (s.at t).audioRuns = s.audioRuns := by simp [State.audioRuns]

/-! The input of a port becomes ready or not ready (R177): no register and no port changes. -/

theorem State.audioLost_frame (s : State) (i : Nat) : (s.audioLost i).regs = s.regs ∧ (s.audioLost i).aud.ports = s.aud.ports ∧
    (s.audioLost i).dram = s.dram := by
  unfold State.audioLost
  extract_lets
  split <;> exact ⟨rfl, rfl, rfl⟩

theorem State.audioBack_frame (s : State) (i : Nat) : (s.audioBack i).regs = s.regs ∧ (s.audioBack i).aud.ports = s.aud.ports ∧
    (s.audioBack i).dram = s.dram := by
  unfold State.audioBack
  extract_lets
  split <;> exact ⟨rfl, rfl, rfl⟩

@[simp] theorem State.rd_audioLost (s : State) (i a : Nat) : (s.audioLost i).rd a = s.rd a := State.rd_congr (s.audioLost_frame i).1 a
@[simp] theorem State.rd_audioBack (s : State) (i a : Nat) : (s.audioBack i).rd a = s.rd a := State.rd_congr (s.audioBack_frame i).1 a
@[simp] theorem State.rdBit_audioLost (s : State) (i a j : Nat) : (s.audioLost i).rdBit a j = s.rdBit a j := by simp [State.rdBit]
@[simp] theorem State.rdBit_audioBack (s : State) (i a j : Nat) : (s.audioBack i).rdBit a j = s.rdBit a j := by simp [State.rdBit]
@[simp] theorem State.port_audioLost (s : State) (i p : Nat) : (s.audioLost i).port p = s.port p :=
  State.port_congr (s.audioLost_frame i).2.1 p
@[simp] theorem State.port_audioBack (s : State) (i p : Nat) : (s.audioBack i).port p = s.port p :=
  State.port_congr (s.audioBack_frame i).2.1 p

/-! Masks (R195). -/

/-- A port's run in which a mask waits. -/
def PortRun.withPending (x : PortRun) (out : Bool) (m : Nat × Nat) : PortRun :=
  if out then { x with pendOut := some m } else { x with pendIn := some m }

/-- The mask that a write of the HI register completes (R5). -/
def PortRun.pairWith (x : PortRun) (out : Bool) (v : Nat) : Nat := (if out then x.loOut else x.loIn) + 4294967296 * (v % 4294967296)

theorem exec_maskHiWrite_of_port {out : Bool} {v : Nat} (hp : p < s.dev.variant.ports) : exec (.maskHiWrite t p out v) s =
    .next ((s.at t).setPort p ((s.port p).withPending out ((s.port p).pairWith out v % 2 ^ s.portSlots p, max s.now t))) := by
  change execMaskHiWrite t p out v s = _
  rw [← State.port_at s t p, ← State.portSlots_at s t p, ← State.at_now s t]
  exact if_pos (by rwa [State.at_dev])

theorem exec_maskApply_of_running (hp : p < s.dev.variant.ports) (hPhase : (s.port p).phase = 1 ∨ (s.port p).phase = 2) :
    exec (.maskApply t p) s = .next ((s.at t).applyMasks p (max s.now t)) := by
  change execMaskApply t p s = _
  rw [← State.at_now s t]
  exact if_pos ⟨by rwa [State.at_dev], by rwa [State.port_at]⟩

/-- A port's masks are written. -/
def State.withMasks (s : State) (p m n : Nat) : State :=
  (s.wr64 (Reg.AP_MASK_IN_LO p) (Reg.AP_MASK_IN_HI p) m).wr64 (Reg.AP_MASK_OUT_LO p) (Reg.AP_MASK_OUT_HI p) n

section
variable {m n : Nat}

theorem State.rd_withMasks_ne (s : State) {a : Nat} (hInLo : a ≠ Reg.AP_MASK_IN_LO p) (hInHi : a ≠ Reg.AP_MASK_IN_HI p)
    (hOutLo : a ≠ Reg.AP_MASK_OUT_LO p) (hOutHi : a ≠ Reg.AP_MASK_OUT_HI p) : (s.withMasks p m n).rd a = s.rd a := by
  rw [State.withMasks, State.rd_wr64_ne _ _ hOutLo hOutHi, State.rd_wr64_ne _ _ hInLo hInHi]

theorem State.port_withMasks (s : State) (p m n a : Nat) : (s.withMasks p m n).port a = s.port a := rfl

theorem State.portSlots_withMasks (s : State) (p m n : Nat) : (s.withMasks p m n).portSlots p = s.portSlots p := by
  rw [State.portSlots, State.rdFld, State.rd_withMasks_ne]
  · rfl
  all_goals simp

theorem State.portMask_setPort (s : State) (a : Nat) (x : PortRun) (p : Nat) (out : Bool) : (s.setPort a x).portMask p out = s.portMask p out := rfl

/-- Masks written that lie below the slot count and in 64 bits are in force. -/
theorem State.portMask_withMasks (s : State) (hm : m < 2 ^ s.portSlots p) (hn : n < 2 ^ s.portSlots p) (hm64 : m < 18446744073709551616)
    (hn64 : n < 18446744073709551616) : (s.withMasks p m n).portMask p false = m ∧ (s.withMasks p m n).portMask p true = n := by
  have hIn : (s.withMasks p m n).rd64 (Reg.AP_MASK_IN_LO p) (Reg.AP_MASK_IN_HI p) = m := by
    have hRead {a : Nat} (hLo : a ≠ Reg.AP_MASK_OUT_LO p) (hHi : a ≠ Reg.AP_MASK_OUT_HI p) :
        (s.withMasks p m n).rd a = (s.wr64 (Reg.AP_MASK_IN_LO p) (Reg.AP_MASK_IN_HI p) m).rd a := State.rd_wr64_ne _ _ hLo hHi
    rw [State.rd64, hRead (by simp) (by simp), hRead (by simp) (by simp)]
    exact State.rd64_wr64_same s (by simp) hm64
  have hOut : (s.withMasks p m n).rd64 (Reg.AP_MASK_OUT_LO p) (Reg.AP_MASK_OUT_HI p) = n := State.rd64_wr64_same _ (by simp) hn64
  constructor
  · rw [State.portMask, if_neg Bool.false_ne_true, hIn, State.portSlots_withMasks, Nat.mod_eq_of_lt hm]
  · rw [State.portMask, if_pos rfl, hOut, State.portSlots_withMasks, Nat.mod_eq_of_lt hn]

end

/-- The mask of a pair that completed before an instant. -/
def dueMask (before : Nat) (pend : Option (Nat × Nat)) : Option Nat := pend.bind fun e => if e.2 < before then some e.1 else none

/-- A pair that did not. -/
def waitingPair (before : Nat) (pend : Option (Nat × Nat)) : Option (Nat × Nat) := pend.filter fun e => decide (before ≤ e.2)

section
variable {before m k : Nat}

theorem dueMask_of_lt (h : k < before) : dueMask before (some (m, k)) = some m := if_pos h
theorem dueMask_of_le (h : before ≤ k) : dueMask before (some (m, k)) = none := if_neg (Nat.not_lt.mpr h)
theorem waitingPair_of_lt (h : k < before) : waitingPair before (some (m, k)) = none := Option.filter_some_neg (by simpa using h)
theorem waitingPair_of_le (h : before ≤ k) : waitingPair before (some (m, k)) = some (m, k) := Option.filter_some_pos (by simpa using h)

end

/-- A port's run without the pairs that completed before an instant. -/
def PortRun.afterMasks (x : PortRun) (before : Nat) : PortRun :=
  { x with pendIn := waitingPair before x.pendIn, pendOut := waitingPair before x.pendOut }

/-- A mask that is due is written. -/
def State.writeMask (s : State) (lo hi : Nat) (due : Option Nat) : State :=
  match due with
  | some m => s.wr64 lo hi m
  | none => s

theorem State.applyMasks_eq (s : State) (p before : Nat) : s.applyMasks p before =
    ((s.writeMask (Reg.AP_MASK_IN_LO p) (Reg.AP_MASK_IN_HI p) (dueMask before (s.port p).pendIn)).writeMask
      (Reg.AP_MASK_OUT_LO p) (Reg.AP_MASK_OUT_HI p) (dueMask before (s.port p).pendOut)).setPort p ((s.port p).afterMasks before) := rfl

@[simp] theorem State.writeMask_aud (s : State) (lo hi : Nat) (due : Option Nat) : (s.writeMask lo hi due).aud = s.aud := by
  cases due <;> rfl
@[simp] theorem State.writeMask_dram (s : State) (lo hi : Nat) (due : Option Nat) : (s.writeMask lo hi due).dram = s.dram := by
  cases due <;> rfl

/-- Pairs that completed before the boundary take effect. -/
theorem exec_maskApply_of_due {m n j k : Nat} (hp : p < s.dev.variant.ports) (hPhase : (s.port p).phase = 1 ∨ (s.port p).phase = 2)
    (hIn : (s.port p).pendIn = some (m, j)) (hOut : (s.port p).pendOut = some (n, k)) (hj : j < max s.now t) (hk : k < max s.now t) :
    exec (.maskApply t p) s = .next (((s.at t).withMasks p m n).setPort p { s.port p with pendIn := none, pendOut := none }) := by
  have hRun : (s.port p).afterMasks (max s.now t) = { s.port p with pendIn := none, pendOut := none } := by
    rw [PortRun.afterMasks, hIn, hOut, waitingPair_of_lt hj, waitingPair_of_lt hk]
  rw [exec_maskApply_of_running hp hPhase, State.applyMasks_eq, State.port_at, hRun, hIn, hOut, dueMask_of_lt hj, dueMask_of_lt hk]
  rfl

/-- One that completes with the boundary waits. -/
theorem exec_maskApply_of_waiting {m k : Nat} (hp : p < s.dev.variant.ports) (hPhase : (s.port p).phase = 1 ∨ (s.port p).phase = 2)
    (hIn : (s.port p).pendIn = none) (hOut : (s.port p).pendOut = some (m, k)) (hk : max s.now t ≤ k) :
    exec (.maskApply t p) s = .next ((s.at t).setPort p (s.port p)) := by
  have hRun : (s.port p).afterMasks (max s.now t) = s.port p := by
    rw [PortRun.afterMasks, hOut, waitingPair_of_le hk, ← hOut, hIn]
    change { s.port p with pendIn := none } = s.port p
    rw [← hIn]
  rw [exec_maskApply_of_running hp hPhase, State.applyMasks_eq, State.port_at, hRun, hIn, hOut, dueMask_of_le hk]
  rfl

/-- Settles O35: a write of the HI register makes the pair wait, and MASK_APPLY writes the masks of the pairs that completed before the boundary; each
command has its outcome by a lemma above. -/
theorem audio_masks_wait_for_their_frame : Obligations.audio_masks_wait_for_their_frame := by
  refine ⟨fun t p v s hp => ?writeOut, fun t p v s hp => ?writeIn,
    fun t p s m n j k hp hPhase hIn hOut hj hk hm hn hm64 hn64 => ?due, fun t p s m k hp hPhase hIn hOut hk => ?waits⟩
  case writeOut =>
    exact ⟨_, exec_maskHiWrite_of_port hp, congrArg PortRun.pendOut (State.port_setPort_same ..),
      (congrArg PortRun.pendIn (State.port_setPort_same ..)).trans rfl, State.rd_at s t,
      fun a ha => (State.port_setPort_ne _ _ ha).trans (State.port_at s t a), State.at_dram s t⟩
  case writeIn =>
    exact ⟨_, exec_maskHiWrite_of_port hp, congrArg PortRun.pendIn (State.port_setPort_same ..),
      (congrArg PortRun.pendOut (State.port_setPort_same ..)).trans rfl, State.rd_at s t,
      fun a ha => (State.port_setPort_ne _ _ ha).trans (State.port_at s t a), State.at_dram s t⟩
  case due =>
    obtain ⟨hMaskIn, hMaskOut⟩ := State.portMask_withMasks (s.at t) (by simpa using hm) (by simpa using hn) hm64 hn64
    refine ⟨_, exec_maskApply_of_due hp hPhase hIn hOut hj hk, (State.portMask_setPort ..).trans hMaskIn,
      (State.portMask_setPort ..).trans hMaskOut, congrArg PortRun.pendIn (State.port_setPort_same ..),
      congrArg PortRun.pendOut (State.port_setPort_same ..), fun a ha => ?_, fun a hInLo hInHi hOutLo hOutHi => ?_⟩
    · rw [State.port_setPort_ne _ _ ha, State.port_withMasks, State.port_at]
    · rw [State.rd_setPort, State.rd_withMasks_ne _ hInLo hInHi hOutLo hOutHi, State.rd_at]
  case waits =>
    exact ⟨_, exec_maskApply_of_waiting hp hPhase hIn hOut (Nat.le_of_eq hk.symm), (congrArg PortRun.pendOut (State.port_setPort_same ..)).trans hOut,
      State.rd_at s t, fun a ha => (State.port_setPort_ne _ _ ha).trans (State.port_at s t a), State.at_dram s t⟩

/-! What leaves the other ports and DRAM alone. One relation, `KeepsOtherPorts`, says it, and the lemma of an operation carries it along as
`KeepsControl` is carried. -/

/-- `t` has every port of `s` but port p, and its DRAM. -/
structure KeepsOtherPorts (p : Nat) (s t : State) : Prop where
  ports : ∀ a, a ≠ p → t.port a = s.port a
  dram : t.dram = s.dram

theorem KeepsOtherPorts.at (s : State) (t p : Nat) : KeepsOtherPorts p s (s.at t) := ⟨fun a _ => State.port_at s t a, State.at_dram s t⟩

theorem KeepsOtherPorts.of_eq {t : State} (h : KeepsOtherPorts p s₀ s) (hPorts : t.aud.ports = s.aud.ports) (hDram : t.dram = s.dram) :
    KeepsOtherPorts p s₀ t :=
  ⟨fun a ha => (State.port_congr hPorts a).trans (h.ports a ha), hDram.trans h.dram⟩

theorem KeepsOtherPorts.setPort {x : PortRun} (h : KeepsOtherPorts p s₀ s) : KeepsOtherPorts p s₀ (s.setPort p x) :=
  ⟨fun a ha => (State.port_setPort_ne s x ha).trans (h.ports a ha), h.dram⟩

theorem KeepsOtherPorts.wr {off : Nat} {w : Word} (h : KeepsOtherPorts p s₀ s) : KeepsOtherPorts p s₀ (s.wr off w) := ⟨h.ports, h.dram⟩

theorem KeepsOtherPorts.bump {off : Nat} (h : KeepsOtherPorts p s₀ s) : KeepsOtherPorts p s₀ (s.bump off) := h.of_eq (by simp) (by simp)

theorem KeepsOtherPorts.audEvent {i : Nat} (h : KeepsOtherPorts p s₀ s) : KeepsOtherPorts p s₀ (s.audEvent i) := h.of_eq (by simp) (by simp)

theorem KeepsOtherPorts.audioLost {i : Nat} (h : KeepsOtherPorts p s₀ s) : KeepsOtherPorts p s₀ (s.audioLost i) :=
  h.of_eq (s.audioLost_frame i).2.1 (s.audioLost_frame i).2.2

theorem KeepsOtherPorts.audioBack {i : Nat} (h : KeepsOtherPorts p s₀ s) : KeepsOtherPorts p s₀ (s.audioBack i) :=
  h.of_eq (s.audioBack_frame i).2.1 (s.audioBack_frame i).2.2

theorem KeepsOtherPorts.applyMasks {before : Nat} (h : KeepsOtherPorts p s₀ s) : KeepsOtherPorts p s₀ (s.applyMasks p before) := by
  rw [State.applyMasks_eq]
  exact (h.of_eq (by simp) (by simp)).setPort

theorem KeepsOtherPorts.portLead (h : KeepsOtherPorts p s₀ s) : KeepsOtherPorts p s₀ (s.portLead p) := h.applyMasks.setPort.wr

/-! Start and lead (R196). -/

theorem exec_portStart_of_enabled (hp : p < s.dev.variant.ports) (hEnabled : s.rdBit (Reg.AP_CFG p) 31 = true) (hRuns : s.audioRuns = true)
    (hPhase : (s.port p).phase = 0) (hMode : s.ctl.mode ≠ .safe) (hSown : 5 ≤ s.power.stage) (hReaping : s.power.reaping = none)
    (hCfg : s.portBadCfg p = false) : exec (.portStart t p) s = .next ((s.at t).portLead p) := by
  change execPortStart t p s = _
  simp only [execPortStart, State.at_dev, State.at_ctl, State.at_power, State.rdBit_at, State.audioRuns_at, State.port_at, State.portBadCfg_at,
    hCfg, Bool.false_eq_true, if_false]
  exact if_pos ⟨hp, hEnabled, hRuns, hMode, hSown, hReaping, hPhase⟩

/-- A port in its lead: since now, for as long as AP_LEAD says. -/
theorem State.portLead_port (s : State) (p : Nat) : ((s.portLead p).port p).phase = 1 ∧ ((s.portLead p).port p).since = s.now ∧
    ((s.portLead p).port p).lead = s.rdFld (Reg.AP_LEAD p) 15 0 := by
  have hRun : (s.portLead p).port p = _ := State.port_setPort_same _ p _
  rw [hRun]
  exact ⟨rfl, rfl, rfl⟩

/-- AP_STATUS of a port in its lead: LEAD, neither data nor loss of clock. -/
theorem State.portLead_status (s : State) (p : Nat) :
    (s.portLead p).rdBit (Reg.AP_STATUS p) 27 = true ∧ (s.portLead p).rdFld (Reg.AP_STATUS p) 31 30 = 0 := by
  have hWord : (s.portLead p).rd (Reg.AP_STATUS p) = setFld (setFld (s.rd (Reg.AP_STATUS p)) 31 30 0) 27 25 4 := State.rd_wr_same ..
  rw [State.rdBit, State.rdFld, hWord, fld_setFld_other _ _ _ _ _ _ (by decide) (by decide), fld_setFld_same _ _ _ _ (by decide)]
  simp [bit_setFld, Nat.testBit]

/-- The port's data begin. -/
def State.leadDone (s : State) (p : Nat) : State :=
  (s.setPort p { s.port p with phase := 2, since := s.now }).wr (Reg.AP_STATUS p)
    (setFld (setFld (s.rd (Reg.AP_STATUS p)) 31 31 1) 27 27 0)

/-- AP_STATUS of a port that carries data: data, no lead. -/
theorem State.leadDone_status (s : State) (p : Nat) :
    (s.leadDone p).rdBit (Reg.AP_STATUS p) 31 = true ∧ (s.leadDone p).rdBit (Reg.AP_STATUS p) 27 = false := by
  have hWord : (s.leadDone p).rd (Reg.AP_STATUS p) = setFld (setFld (s.rd (Reg.AP_STATUS p)) 31 31 1) 27 27 0 := State.rd_wr_same ..
  rw [State.rdBit, State.rdBit, hWord]
  simp [bit_setFld]

theorem exec_startLeadEnd_of_due (hp : p < s.dev.variant.ports) (hPhase : (s.port p).phase = 1)
    (hDue : (s.port p).since + framesToNs (s.port p).lead ≤ max s.now t) :
    exec (.startLeadEnd t p) s = .next (((s.at t).leadDone p).audioBack (9216 + p)) := by
  change execStartLeadEnd t p s = _
  rw [← State.port_at s t p] at hPhase hDue
  rw [← State.at_now s t] at hDue
  exact if_pos ⟨by rwa [State.at_dev], hPhase, hDue⟩

/-! Stop (R196). -/

/-- The port's fade and tail begin. -/
def State.stopped (s : State) (p : Nat) : State :=
  (s.setPort p { s.port p with
    phase := 3, since := s.now, carried := decide ((s.port p).phase = 2)
    tail := if s.portClock p = 1 then 0 else s.rdFld (Reg.AP_LEAD p) 31 16 }).wr (Reg.AP_STATUS p)
    (setFld (setFld (s.rd (Reg.AP_STATUS p)) 31 30 0) 27 26 0)

theorem State.stopped_status (s : State) (p : Nat) :
    (s.stopped p).rdBit (Reg.AP_STATUS p) 31 = false ∧ (s.stopped p).rdBit (Reg.AP_STATUS p) 27 = false := by
  have hWord : (s.stopped p).rd (Reg.AP_STATUS p) = setFld (setFld (s.rd (Reg.AP_STATUS p)) 31 30 0) 27 26 0 := State.rd_wr_same ..
  rw [State.rdBit, State.rdBit, hWord]
  simp [bit_setFld]

theorem exec_portStop_of_active (hp : p < s.dev.variant.ports)
    (hWhy : s.power.reaping.isSome = true ∨ s.rdBit (Reg.AP_CFG p) 31 = false ∨ s.ctl.mode = .safe)
    (hPhase : (s.port p).phase = 1 ∨ (s.port p).phase = 2 ∨ (s.port p).phase = 4) :
    exec (.portStop t p) s = .next (((s.at t).stopped p).audioLost (9216 + p)) := by
  have hStop : (s.at t).portStop p = ((s.at t).stopped p).audioLost (9216 + p) := if_pos (by rwa [State.port_at])
  change execPortStop t p s = _
  rw [← hStop]
  exact if_pos ⟨by rwa [State.at_dev], by rwa [State.at_power, State.rdBit_at, State.at_ctl]⟩

/-! Loss of clock and recovery (R197). -/

/-- The port's clock is lost for a cause. -/
def State.clockLost (s : State) (p cause : Nat) : State :=
  ((s.setPort p { s.port p with phase := 4, since := s.now, losses := (s.port p).losses + 1 }).wr (Reg.AP_STATUS p)
    (setFld (setFld (s.rd (Reg.AP_STATUS p)) 31 28 (4 + cause)) 27 27 0)).bump (Reg.AP_CNT_CLOCK_LOST p)

theorem State.clockLost_port (s : State) (p cause : Nat) :
    (s.clockLost p cause).port p = { s.port p with phase := 4, since := s.now, losses := (s.port p).losses + 1 } :=
  (State.port_congr (congrArg AudState.ports (State.bump_aud ..)) p).trans (State.port_setPort_same s p _)

theorem State.clockLost_status (s : State) (p : Nat) {cause : Nat} (hLow : 1 ≤ cause) (hHigh : cause ≤ 3) :
    (s.clockLost p cause).rdBit (Reg.AP_STATUS p) 31 = false ∧ (s.clockLost p cause).rdBit (Reg.AP_STATUS p) 30 = true ∧
      (s.clockLost p cause).rdFld (Reg.AP_STATUS p) 29 28 = cause := by
  have hWord : (s.clockLost p cause).rd (Reg.AP_STATUS p) = setFld (setFld (s.rd (Reg.AP_STATUS p)) 31 28 (4 + cause)) 27 27 0 :=
    (State.rd_bump_ne _ (by simp)).trans (State.rd_wr_same ..)
  have hBits : (4 + cause).testBit 3 = false ∧ (4 + cause).testBit 2 = true := by
    obtain rfl | rfl | rfl : cause = 1 ∨ cause = 2 ∨ cause = 3 := by omega
    all_goals decide
  rw [State.rdBit, State.rdBit, State.rdFld, hWord, fld_setFld_other _ _ _ _ _ _ (by decide) (by decide),
    fld_low _ _ (by decide : 29 ≤ 31), fld_setFld_same _ _ _ _ (by decide)]
  refine ⟨?_, ?_, ?_⟩
  · simpa [bit_setFld] using hBits.1
  · simpa [bit_setFld] using hBits.2
  · omega

theorem exec_portClockLoss_of_data {cause : Nat} (hp : p < s.dev.variant.ports) (hSlave : s.portClock p = 1) (hLow : 1 ≤ cause) (hHigh : cause ≤ 3)
    (hPhase : (s.port p).phase = 2) :
    exec (.portClockLoss t p cause) s = .next ((((s.at t).clockLost p cause).audEvent 1).audioLost (9216 + p)) := by
  have hPhase' : ((s.at t).port p).phase = 2 := by rwa [State.port_at]
  change execPortClockLoss t p cause s = _
  refine (if_pos ⟨by rwa [State.at_dev], by rwa [State.portClock_at], hLow, hHigh, .inr (.inl hPhase')⟩).trans ?_
  rw [hPhase', if_neg (by decide)]
  rfl

theorem exec_portRecovery_of_due (hp : p < s.dev.variant.ports) (hPhase : (s.port p).phase = 4)
    (hDue : (s.port p).since + 100000000 ≤ max s.now t) : exec (.portRecovery t p) s = .next (((s.at t).portLead p).audEvent 2) := by
  change execPortRecovery t p s = _
  rw [← State.port_at s t p] at hPhase hDue
  rw [← State.at_now s t] at hDue
  exact if_pos ⟨by rwa [State.at_dev], hPhase, hDue⟩

/-! The limit of a follow port (R198). -/

/-- The oscillator of a follow port holds at its limit. -/
def State.heldAtLimit (s : State) (p : Nat) (low : Bool) : State :=
  ((s.wr (Reg.AP_NCO p) (BitVec.ofInt 32 (if low then -10000 else 10000))).wrBit (Reg.AP_STATUS p) 26 true).audEvent 3

/-- Its FIFO is to slip, which is counted. -/
def State.slipOrdered (s : State) (p : Nat) (x : PortRun) : State :=
  (((s.setPort p x).bump (Reg.AP_CNT_SLIP p)).bump Reg.AUD_CNT_SLIP).audEvent 0

theorem State.heldAtLimit_regs (s : State) (p : Nat) (low : Bool) :
    (s.heldAtLimit p low).rd (Reg.AP_NCO p) = BitVec.ofInt 32 (if low then -10000 else 10000) ∧
      (s.heldAtLimit p low).rdBit (Reg.AP_STATUS p) 26 = true ∧ (s.heldAtLimit p low).rdBit Reg.AUD_EVENT 3 = true := by
  refine ⟨?_, ?_, State.rdBit_audEvent_same _ (by decide)⟩
  · rw [State.heldAtLimit, State.rd_audEvent_port _ (.inr rfl), State.rd_wrBit_ne _ _ _ (by simp), State.rd_wr_same]
  · rw [State.rdBit, State.heldAtLimit, State.rd_audEvent_port _ (.inl rfl)]
    exact State.rdBit_wrBit_same _ (by decide)

@[simp] theorem State.slipOrdered_flt (s : State) (p : Nat) (x : PortRun) : (s.slipOrdered p x).flt = s.flt := by simp [State.slipOrdered]

theorem State.slipOrdered_port (s : State) (p : Nat) (x : PortRun) : (s.slipOrdered p x).port p = x := by
  simp [State.slipOrdered, State.port]

theorem State.rd_slipOrdered_port (s : State) (x : PortRun) {a : Nat} (h : a = Reg.AP_STATUS p ∨ a = Reg.AP_NCO p) :
    (s.slipOrdered p x).rd a = s.rd a := by
  rw [State.slipOrdered, State.rd_audEvent_port _ h, State.rd_bump_ne _ (by simp at h ⊢; omega), State.rd_bump_ne _ (by simp at h ⊢; omega),
    State.rd_setPort]

/-- The slip's own event leaves the others that are set. -/
theorem State.slipOrdered_event (s : State) (x : PortRun) {i : Nat} (h : s.rdBit Reg.AUD_EVENT i = true) :
    (s.slipOrdered p x).rdBit Reg.AUD_EVENT i = true := by
  refine State.rdBit_event_of_set _ (by decide) ?_
  rw [State.rdBit, State.rd_bump_ne _ (by decide), State.rd_bump_ne _ (by simp; omega)]
  exact h

theorem exec_followRange_of_due {low : Bool} {at_ : Nat} (hp : p < s.dev.variant.ports) (hFollow : s.portClock p = 2) (hPhase : (s.port p).phase = 2)
    (hLimit : (s.port p).atLimit = some (low, at_)) (hDue : at_ + 1000000000 ≤ max s.now t) :
    exec (.followRange t p low) s = .next ((((s.at t).heldAtLimit p low).raise (0x030 + p) 0x31 p 2).slipOrdered p
      { s.port p with slips := (s.port p).slips + 1, slip := some (s.aud.block, !low, false) }) := by
  change execFollowRange t p low s = _
  simp only [execFollowRange, State.port_at, hLimit, if_true, State.at_dev, State.portClock_at, State.at_now, State.at_aud]
  exact if_pos ⟨hp, hFollow, hPhase, hDue⟩

/-- Settles O36: each command has its outcome by a lemma above. A start and a recovery share the lead's run and status; that no other port changes is
`KeepsOtherPorts`, carried through the operations. -/
theorem audio_ports_start_and_stop : Obligations.audio_ports_start_and_stop := by
  refine ⟨fun t p s hp hEnabled hRuns hPhase hMode hSown hReaping hCfg => ?start, fun t p s hp hPhase hDue => ?leadEnd,
    fun t p s hp hWhy hPhase => ?stop, fun t p cause s hp hSlave hLow hHigh hPhase => ?loss, fun t p s hp hPhase hDue => ?recovery,
    fun t p low at_ s hp hFollow hPhase hLimit hDue => ?limit⟩
  case start =>
    obtain ⟨hLeads, hSince, hLead⟩ := (s.at t).portLead_port p
    obtain ⟨hLeadFlag, hData⟩ := (s.at t).portLead_status p
    obtain ⟨hOthers, hDram⟩ := (KeepsOtherPorts.at s t p).portLead
    exact ⟨_, exec_portStart_of_enabled hp hEnabled hRuns hPhase hMode hSown hReaping hCfg, hLeads, hSince.trans (State.at_now s t),
      hLead.trans (State.rdFld_at ..), hLeadFlag, hData, hOthers, hDram⟩
  case leadEnd =>
    obtain ⟨hData, hLeadFlag⟩ := (s.at t).leadDone_status p
    obtain ⟨hOthers, hDram⟩ : KeepsOtherPorts p s (((s.at t).leadDone p).audioBack (9216 + p)) := (KeepsOtherPorts.at s t p).setPort.wr.audioBack
    have hRun : (((s.at t).leadDone p).audioBack (9216 + p)).port p = _ :=
      (State.port_audioBack ..).trans (State.port_setPort_same (s.at t) p _)
    refine ⟨_, exec_startLeadEnd_of_due hp hPhase hDue, congrArg PortRun.phase hRun, (State.rdBit_audioBack ..).trans hData,
      (State.rdBit_audioBack ..).trans hLeadFlag, hOthers, fun a ha => ?_, hDram⟩
    rw [State.rd_audioBack, State.leadDone, State.rd_wr_ne _ _ ha, State.rd_setPort, State.rd_at]
  case stop =>
    obtain ⟨hData, hLeadFlag⟩ := (s.at t).stopped_status p
    obtain ⟨hOthers, hDram⟩ : KeepsOtherPorts p s (((s.at t).stopped p).audioLost (9216 + p)) := (KeepsOtherPorts.at s t p).setPort.wr.audioLost
    have hRun : (((s.at t).stopped p).audioLost (9216 + p)).port p = _ :=
      (State.port_audioLost ..).trans (State.port_setPort_same (s.at t) p _)
    refine ⟨_, exec_portStop_of_active hp hWhy hPhase, congrArg PortRun.phase hRun, (congrArg PortRun.since hRun).trans (State.at_now s t),
      (State.rdBit_audioLost ..).trans hData, (State.rdBit_audioLost ..).trans hLeadFlag, (congrArg PortRun.tail hRun).trans ?_, hOthers,
      fun a ha => ?_, hDram⟩
    · rw [State.portClock_at, State.rdFld_at]
    · rw [State.rd_audioLost, State.stopped, State.rd_wr_ne _ _ ha, State.rd_setPort, State.rd_at]
  case loss =>
    obtain ⟨hData, hLost, hCause⟩ := (s.at t).clockLost_status p hLow hHigh
    obtain ⟨hOthers, hDram⟩ : KeepsOtherPorts p s ((((s.at t).clockLost p cause).audEvent 1).audioLost (9216 + p)) :=
      (KeepsOtherPorts.at s t p).setPort.wr.bump.audEvent.audioLost
    have hRun : ((((s.at t).clockLost p cause).audEvent 1).audioLost (9216 + p)).port p =
        { s.port p with phase := 4, since := max s.now t, losses := (s.port p).losses + 1 } := by
      rw [State.port_audioLost, State.port_audEvent, State.clockLost_port, State.port_at, State.at_now]
    have hStatus : ((((s.at t).clockLost p cause).audEvent 1).audioLost (9216 + p)).rd (Reg.AP_STATUS p) =
        ((s.at t).clockLost p cause).rd (Reg.AP_STATUS p) := (State.rd_audioLost ..).trans (State.rd_audEvent_port _ (.inl rfl))
    refine ⟨_, exec_portClockLoss_of_data hp hSlave hLow hHigh hPhase, congrArg PortRun.phase hRun, congrArg PortRun.losses hRun,
      (congrArg (bit · 31) hStatus).trans hData, (congrArg (bit · 30) hStatus).trans hLost, (congrArg (fld · 29 28) hStatus).trans hCause,
      ?_, hOthers, hDram⟩
    rw [State.rdBit_audioLost]
    exact State.rdBit_audEvent_same _ (by decide)
  case recovery =>
    obtain ⟨hLeads, hSince, -⟩ := (s.at t).portLead_port p
    obtain ⟨hLeadFlag, -⟩ := (s.at t).portLead_status p
    obtain ⟨hOthers, hDram⟩ := (KeepsOtherPorts.at s t p).portLead.audEvent (i := 2)
    refine ⟨_, exec_portRecovery_of_due hp hPhase hDue, ?_, ?_, ?_, State.rdBit_audEvent_same _ (by decide), hOthers, hDram⟩
    · rw [State.port_audEvent, hLeads]
    · rw [State.port_audEvent, hSince, State.at_now]
    · exact (congrArg (bit · 27) (State.rd_audEvent_port _ (.inl rfl))).trans hLeadFlag
  case limit =>
    have hNow : ((s.at t).heldAtLimit p low).now = max s.now t := (State.event_now ..).trans (State.at_now s t)
    obtain ⟨hOscillator, hHeld, hEvent⟩ := (s.at t).heldAtLimit_regs p low
    refine ⟨_, exec_followRange_of_due hp hFollow hPhase hLimit hDue, ?_, ?_, ?_, congrArg PortRun.slips (State.slipOrdered_port ..), ?_, ?_⟩
    · rw [State.rd_slipOrdered_port _ _ (.inr rfl), State.rd_raise, hOscillator]
    · exact (congrArg (bit · 26) (State.rd_slipOrdered_port _ _ (.inl rfl))).trans hHeld
    · rw [State.slipOrdered_flt, ← hNow]
      exact State.mem_inbox_raise ..
    · exact State.slipOrdered_event _ _ hEvent
    · simp [State.slipOrdered, State.heldAtLimit]

end Sys2Proof.Machine
end

section
/-! PROOFS. Reference candidates (R253–R256): what a measurement, a qualification, a fault and a return make of a candidate, and what they keep. -/
namespace Sys2Proof.Machine

variable {s u : State} {t g k : Nat} {c : Cand}

/-! Groups and their candidates. -/

theorem State.grp_congr (h : u.tmg = s.tmg) (g : Nat) : u.grp g = s.grp g := congrArg (Tab.get Group.init · g) h

@[simp] theorem State.grp_at (s : State) (t g : Nat) : (s.at t).grp g = s.grp g := State.grp_congr (State.at_tmg s t) g

@[simp] theorem State.grp_setGrp_same (s : State) (g : Nat) (x : Group) : (s.setGrp g x).grp g = x := Tab.get_put_same ..

@[simp] theorem Group.cand_setCand_same (x : Group) (k : Nat) (c : Cand) : (x.setCand k c).cand k = c := Tab.get_put_same ..

theorem Group.cand_setCand_ne (x : Group) {j k : Nat} (c : Cand) (h : j ≠ k) : (x.setCand k c).cand j = x.cand j := Tab.get_put_ne _ _ _ h

/-- Activation picks a candidate: candidates, frame count and frame start stay. -/
theorem Group.activate_frame (x : Group) (o : Option Nat) :
    (x.activate o).cands = x.cands ∧ (x.activate o).frame = x.frame ∧ (x.activate o).start = x.start := by
  unfold Group.activate
  split
  · exact ⟨rfl, rfl, rfl⟩
  · cases o <;> exact ⟨rfl, rfl, rfl⟩

/-! Sticky bits and the status of a genlock input are registers: no group and no memory changes. -/

@[simp] theorem State.tgSticky_tmg (s : State) (g m : Nat) : (s.tgSticky g m).tmg = s.tmg := by
  unfold State.tgSticky
  extract_lets s1
  split
  · rfl
  · split <;> simp [s1]

@[simp] theorem State.tgSticky_dram (s : State) (g m : Nat) : (s.tgSticky g m).dram = s.dram := by
  unfold State.tgSticky
  extract_lets s1
  split
  · rfl
  · split <;> simp [s1]

@[simp] theorem State.glStatus_tmg (s : State) (g k : Nat) : (s.glStatus g k).tmg = s.tmg := by
  unfold State.glStatus
  extract_lets
  split
  · exact State.wr_tmg ..
  · exact State.wr_tmg ..
  · rfl

@[simp] theorem State.glStatus_dram (s : State) (g k : Nat) : (s.glStatus g k).dram = s.dram := by
  unfold State.glStatus
  extract_lets
  split
  · exact State.wr_dram ..
  · exact State.wr_dram ..
  · rfl

/-! One candidate set. The relation `SetsCand` says what a command makes of its candidate, and that no other group, no frame count and no memory
changes. -/

/-- `t` has candidate k of group g set to c. The group's frame stays, and so do the other groups and DRAM. -/
structure SetsCand (g k : Nat) (c : Cand) (s t : State) : Prop where
  cand : (t.grp g).cand k = c
  frame : (t.grp g).frame = (s.grp g).frame
  start : (t.grp g).start = (s.grp g).start
  others : ∀ a, a ≠ g → t.grp a = s.grp a
  dram : t.dram = s.dram

/-- The group stored with that candidate and with its frame as it was. -/
theorem SetsCand.of_put {x : Group} (hTmg : u.tmg = Tab.put Group.init s.tmg g x) (hDram : u.dram = s.dram) (hCand : x.cand k = c)
    (hFrame : x.frame = (s.grp g).frame) (hStart : x.start = (s.grp g).start) : SetsCand g k c s u := by
  have hGroup : u.grp g = x := (congrArg (Tab.get Group.init · g) hTmg).trans (Tab.get_put_same ..)
  refine ⟨?_, ?_, ?_, fun a ha => ?_, hDram⟩
  · rw [hGroup, hCand]
  · rw [hGroup, hFrame]
  · rw [hGroup, hStart]
  · exact (congrArg (Tab.get Group.init · a) hTmg).trans (Tab.get_put_ne _ _ _ ha)

/-- The same, when neither the groups nor DRAM change after that. -/
theorem SetsCand.of_eq {v : State} (h : SetsCand g k c s u) (hTmg : v.tmg = u.tmg) (hDram : v.dram = u.dram) : SetsCand g k c s v where
  cand := by rw [State.grp_congr hTmg, h.cand]
  frame := by rw [State.grp_congr hTmg, h.frame]
  start := by rw [State.grp_congr hTmg, h.start]
  others a ha := (State.grp_congr hTmg a).trans (h.others a ha)
  dram := hDram.trans h.dram

/-- The same, when only the group's candidates changed before that. -/
theorem SetsCand.of_setGrp {x : Group} (h : SetsCand g k c (s.setGrp g x) u) (hFrame : x.frame = (s.grp g).frame)
    (hStart : x.start = (s.grp g).start) : SetsCand g k c s u where
  cand := h.cand
  frame := by rw [h.frame, State.grp_setGrp_same, hFrame]
  start := by rw [h.start, State.grp_setGrp_same, hStart]
  others a ha := (h.others a ha).trans (Tab.get_put_ne _ _ _ ha)
  dram := h.dram

/-- The same, when the clock was carried on before that. -/
theorem SetsCand.of_at (h : SetsCand g k c (s.at t) u) : SetsCand g k c s u := by
  obtain ⟨hCand, hFrame, hStart, hOthers, hDram⟩ := h
  simp only [State.grp_at, State.at_dram] at hFrame hStart hOthers hDram
  exact ⟨hCand, hFrame, hStart, hOthers, hDram⟩

theorem SetsCand.tgSticky {m : Nat} (h : SetsCand g k c s u) : SetsCand g k c s (u.tgSticky g m) := h.of_eq (by simp) (by simp)

theorem SetsCand.glStatus {j : Nat} (h : SetsCand g k c s u) : SetsCand g k c s (u.glStatus g j) := h.of_eq (by simp) (by simp)

section
variable {x : Group} (hCand : x.cand k = c) (hFrame : x.frame = (s.grp g).frame) (hStart : x.start = (s.grp g).start)
include hCand hFrame hStart

theorem SetsCand.updGrp : SetsCand g k c s (s.updGrp g x) :=
  .tgSticky (.of_put rfl rfl hCand hFrame hStart)

/-- The candidate that a selection makes active is chosen from the group's, which stay. -/
theorem SetsCand.reselect : SetsCand g k c s (s.reselect g x) := by
  obtain ⟨hCands, hSameFrame, hSameStart⟩ := x.activate_frame (s.selectCand x g)
  exact .tgSticky (.of_put rfl rfl ((congrArg (Tab.get Cand.init · k) hCands).trans hCand) (hSameFrame.trans hFrame) (hSameStart.trans hStart))

end

/-! The candidates that a group lists (R257, R268). -/

/-- Group g is used and lists, at priority k, a candidate that is not FREE. -/
structure ListsCand (s : State) (g k : Nat) : Prop where
  used : s.tgUsed g = true
  prio : k ≤ 3
  listed : s.candKind g k ≠ 0
  notFree : s.candKind g k ≠ 5

@[simp] theorem State.tgUsed_at (s : State) (t g : Nat) : (s.at t).tgUsed g = s.tgUsed g := by simp [State.tgUsed, State.tgRate]

@[simp] theorem State.candKind_at (s : State) (t g k : Nat) : (s.at t).candKind g k = s.candKind g k := by simp [State.candKind]

@[simp] theorem State.candFits_at (s : State) (t g k : Nat) : (s.at t).candFits g k = s.candFits g k := by
  unfold State.at
  extract_lets
  split <;> rfl

theorem ListsCand.at (h : ListsCand s g k) (t : Nat) : ListsCand (s.at t) g k := by
  obtain ⟨hUsed, hPrio, hListed, hNotFree⟩ := h
  exact ⟨by simpa, hPrio, by simpa, by simpa⟩

/-- The kind that TG_CAND names for priority k. -/
def State.namedKind (s : State) (g k : Nat) : Nat := s.rdFld (Reg.TG_CAND g) (8 * k + 3) (8 * k)

/-- A kind named twice counts at its higher priority only. -/
theorem State.candKind_cases (s : State) (g k : Nat) :
    s.candKind g k = 0 ∨ (s.candKind g k = s.namedKind g k ∧ ∀ j < k, s.namedKind g j ≠ s.namedKind g k) := by
  unfold State.candKind
  extract_lets
  split
  · exact .inl rfl
  · split
    · exact .inl rfl
    · next hFirst =>
      refine .inr ⟨rfl, fun j hj hSame => hFirst ?_⟩
      exact List.any_eq_true.mpr ⟨j, List.mem_range.mpr hj, beq_iff_eq.mpr hSame⟩

theorem State.candKind_ne_of_lt {j : Nat} (hLt : j < k) (hListed : s.candKind g k ≠ 0) : s.candKind g j ≠ s.candKind g k := by
  obtain hNone | ⟨hNamed, hFirst⟩ := s.candKind_cases g k
  · exact absurd hNone hListed
  · obtain hNone | ⟨hEarlier, -⟩ := s.candKind_cases g j
    · rw [hNone]
      exact hListed.symm
    · rw [hEarlier, hNamed]
      exact hFirst j hLt

/-- So the priority of a listed candidate's kind is its own. -/
theorem ListsCand.prioOf (h : ListsCand s g k) : s.prioOf g (s.candKind g k) = k := by
  have hFound : (List.range 4).find? (fun j => s.candKind g j == s.candKind g k) = some k := by
    refine List.find?_range_eq_some.mpr ⟨beq_self_eq_true _, List.mem_range.mpr (Nat.lt_succ_of_le h.prio), fun j hj => ?_⟩
    simpa using State.candKind_ne_of_lt hj h.listed
  rw [State.prioOf, hFound, Option.getD_some]

/-- The test by which the commands pass over a candidate that is not listed. -/
theorem ListsCand.not_skipped (h : ListsCand s g k) :
    (!s.tgUsed g || decide (3 < k) || s.candKind g k == 0 || s.candKind g k == 5) = false := by
  simp [h.used, h.prio, h.listed, h.notFree]

/-- Without a service period in this instant nothing of a LIVE_SET counts yet (R263). -/
theorem State.timingNow_of_quiet (h : s.serviceFalls = false) (g : Nat) : s.timingNow g = s := by
  simp only [State.timingNow, h, Bool.false_eq_true, if_false]

/-! A fault (R256). -/

/-- A candidate after a fault. -/
def Cand.faulted (c : Cand) (now cause : Nat) (lost gone : Bool) : Cand :=
  { c.disqualify now cause with
    lost := c.lost || lost, present := c.present && !gone, means := if lost then c.means.drop 1 else c.means }

/-- The group forgets the measurement of its active candidate that spans the periods before the candidate was found lost. -/
def Group.forgetLast (x : Group) (k : Nat) (lost : Bool) : Group :=
  if lost ∧ x.active = some k then { x with hold := x.hold.drop 1 } else x

theorem Group.forgetLast_frame (x : Group) (k : Nat) (lost : Bool) :
    (x.forgetLast k lost).frame = x.frame ∧ (x.forgetLast k lost).start = x.start := by
  unfold Group.forgetLast
  split <;> exact ⟨rfl, rfl⟩

/-- What completes its qualification in this instant changes neither the group's frame nor a candidate's presence. -/
theorem State.qualifyNow_frame (s : State) (g k : Nat) : (s.qualifyNow g).frame = (s.grp g).frame ∧ (s.qualifyNow g).start = (s.grp g).start ∧
    ((s.qualifyNow g).cand k).present = ((s.grp g).cand k).present := by
  refine List.foldlRecOn (motive := fun x : Group => x.frame = (s.grp g).frame ∧ x.start = (s.grp g).start ∧
    (x.cand k).present = ((s.grp g).cand k).present) _ _ ⟨rfl, rfl, rfl⟩ fun x ⟨hFrame, hStart, hPresent⟩ j _ => ?_
  split
  · refine ⟨hFrame, hStart, ?_⟩
    by_cases hj : k = j
    · subst hj
      rwa [Group.cand_setCand_same]
    · rwa [Group.cand_setCand_ne _ _ hj]
  · exact ⟨hFrame, hStart, hPresent⟩

/-- The fault of candidate k itself, with the order and the qualifications that count for it. -/
def State.failCand (s : State) (g k cause : Nat) (lost gone : Bool) : State :=
  let x := ((s.grp g).forgetLast k lost).setCand k (((s.grp g).cand k).faulted s.now cause lost gone)
  let s1 := (List.range 4).foldl (fun a j => a.glStatus g j) (s.reselect g x)
  if lost then s1.tgSticky g 16 else s1

theorem State.failCand_setsCand (s : State) (g k cause : Nat) (lost gone : Bool) :
    SetsCand g k (((s.grp g).cand k).faulted s.now cause lost gone) s (s.failCand g k cause lost gone) := by
  obtain ⟨hFrame, hStart⟩ := (s.grp g).forgetLast_frame k lost
  have hSelected := SetsCand.reselect (s := s)
    (Group.cand_setCand_same ((s.grp g).forgetLast k lost) k (((s.grp g).cand k).faulted s.now cause lost gone)) hFrame hStart
  have hShown := List.foldlRecOn (List.range 4) (fun a j => a.glStatus g j) hSelected fun _ h _ _ => h.glStatus
  unfold State.failCand
  extract_lets
  split
  · exact hShown.tgSticky
  · exact hShown

theorem State.candFault_of_listed (hCand : ListsCand s g k) (hQuiet : s.serviceFalls = false) (cause : Nat) (lost gone : Bool) :
    s.candFault g k cause lost gone = (s.setGrp g (s.qualifyNow g)).failCand g k cause lost gone := by
  have hTiming : (s.setGrp g (s.qualifyNow g)).timingNow g = s.setGrp g (s.qualifyNow g) :=
    State.timingNow_of_quiet (s := s.setGrp g (s.qualifyNow g)) hQuiet g
  have hPrio : (s.setGrp g (s.qualifyNow g)).prioOf g (s.candKind g k) = k := hCand.prioOf
  refine (if_neg (Bool.eq_false_iff.mp hCand.not_skipped)).trans ?_
  change (((s.setGrp g (s.qualifyNow g)).timingNow g).failCand g
    (((s.setGrp g (s.qualifyNow g)).timingNow g).prioOf g (s.candKind g k)) cause lost gone) = _
  rw [hTiming, hPrio]

theorem State.candFault_setsCand (hCand : ListsCand s g k) (hQuiet : s.serviceFalls = false) (cause : Nat) (lost gone : Bool) :
    SetsCand g k (((s.qualifyNow g).cand k).faulted s.now cause lost gone) s (s.candFault g k cause lost gone) := by
  obtain ⟨hFrame, hStart, -⟩ := s.qualifyNow_frame g k
  have hFailed := ((s.setGrp g (s.qualifyNow g)).failCand_setsCand g k cause lost gone).of_setGrp hFrame hStart
  rwa [State.grp_setGrp_same, ← State.candFault_of_listed hCand hQuiet] at hFailed

/-! A measurement (R252–R255). -/

/-- A candidate with one more measurement, of those of the last 10 s, and its phase error, tested against the tolerance. -/
def Cand.measured (c : Cand) (now : Nat) (offset phi tol : Int) (fits : Bool) : Cand :=
  let c1 := { c with means := ((now, offset) :: c.means).filter (fun m => decide (now < m.1 + 10000000000)), phi := phi }
  let a : Int := c1.mean.natAbs
  let drift := if tol < 2 * a then true else if 5 * a < 2 * tol then false else c.drift
  let inside := if c.disqualified then decide (5 * a < 4 * tol) else decide (a ≤ tol)
  let c2 := { c1 with drift := drift }
  if !fits then { c2 with qualified := false, cause := 5 }
  else if c.qualified then (if tol < a then c2.disqualify now 4 else c2)
  else if inside then c2 else { c2 with cleanSince := now }

/-- Whatever the test finds, the measurements and the phase error are as taken. -/
theorem Cand.measured_means (c : Cand) (now : Nat) (offset phi tol : Int) (fits : Bool) :
    (c.measured now offset phi tol fits).means = ((now, offset) :: c.means).filter (fun m => decide (now < m.1 + 10000000000)) ∧
      (c.measured now offset phi tol fits).phi = phi := by
  unfold Cand.measured
  extract_lets _ _ _ inside
  split
  · exact ⟨rfl, rfl⟩
  · split
    · split <;> exact ⟨rfl, rfl⟩
    · clear_value inside
      split <;> exact ⟨rfl, rfl⟩

/-- A candidate that does not fit the group is not qualified. -/
theorem Cand.measured_of_unfit (c : Cand) (now : Nat) (offset phi tol : Int) : (c.measured now offset phi tol false).qualified = false := rfl

/-- A measured candidate of a group. -/
def State.measuredCand (s : State) (g k : Nat) (offset mark : Int) : Cand :=
  ((s.grp g).cand k).measured s.now offset (s.phaseError g k mark) (s.tolerance g) (s.candFits g k)

theorem State.measuredCand_means (s : State) (g k : Nat) (offset mark : Int) :
    (s.measuredCand g k offset mark).means =
        ((s.now, offset) :: ((s.grp g).cand k).means).filter (fun m => decide (s.now < m.1 + 10000000000)) ∧
      (s.measuredCand g k offset mark).phi = s.phaseError g k mark := Cand.measured_means ..

theorem State.measuredCand_of_unfit {offset mark : Int} (h : s.candFits g k = false) : (s.measuredCand g k offset mark).qualified = false := by
  rw [State.measuredCand, h, Cand.measured_of_unfit]

/-- A group with a measured candidate: of the active one it stores the phase error and the measurement. -/
def Group.store (x : Group) (k : Nat) (c : Cand) (offset phi : Int) : Group :=
  let x1 := x.setCand k c
  if x.active = some k then { x1 with phi := phi, hold := (offset :: x1.hold).take 600 } else x1

theorem Group.store_frame (x : Group) (k : Nat) (c : Cand) (offset phi : Int) : (x.store k c offset phi).cand k = c ∧
    (x.store k c offset phi).frame = x.frame ∧ (x.store k c offset phi).start = x.start := by
  unfold Group.store
  extract_lets
  split <;> exact ⟨Group.cand_setCand_same .., rfl, rfl⟩

/-- The measurement of candidate k itself, with the tolerance and the order that count for it. -/
def State.measure (s : State) (g k : Nat) (offset mark : Int) : State :=
  (s.reselect g ((s.grp g).store k (s.measuredCand g k offset mark) offset (s.phaseError g k mark))).glStatus g k

theorem State.measure_setsCand (s : State) (g k : Nat) (offset mark : Int) :
    SetsCand g k (s.measuredCand g k offset mark) s (s.measure g k offset mark) := by
  obtain ⟨hCand, hFrame, hStart⟩ := (s.grp g).store_frame k (s.measuredCand g k offset mark) offset (s.phaseError g k mark)
  exact .glStatus (.reselect hCand hFrame hStart)

theorem exec_candidateMeasure_of_due {offset mark : Int} (hCand : ListsCand s g k) (hPresent : ((s.grp g).cand k).present = true)
    (hDue : ((s.grp g).cand k).measureDue (max s.now t) = true) (hQuiet : (s.at t).serviceFalls = false) :
    exec (.candidateMeasure t g k offset mark) s = .next ((s.at t).measure g k offset mark) := by
  change execCandidateMeasure t g k offset mark s = _
  refine (if_neg ?_).trans ?_
  · rw [(hCand.at t).not_skipped, State.grp_at, State.at_now, hPresent, hDue]
    exact Bool.false_ne_true
  · change Host.Outcome.next (((s.at t).timingNow g).measure g (((s.at t).timingNow g).prioOf g ((s.at t).candKind g k)) offset mark) = _
    rw [State.timingNow_of_quiet hQuiet, (hCand.at t).prioOf]

/-! Qualification and return (R254, R256). -/

theorem State.mayQualify_iff (s : State) (g k : Nat) : s.mayQualify g k = true ↔ ListsCand s g k ∧ ((s.grp g).cand k).present = true ∧
    ((s.grp g).cand k).qualified = false ∧ s.candFits g k = true ∧
    max ((s.grp g).cand k).presentSince ((s.grp g).cand k).cleanSince + 60000000000 ≤ s.now := by
  simp only [State.mayQualify, Bool.and_eq_true, decide_eq_true_eq, bne_iff_ne, Bool.not_eq_true', and_assoc]
  constructor
  · rintro ⟨hUsed, hPrio, hListed, hNotFree, hRest⟩
    exact ⟨⟨hUsed, hPrio, hListed, hNotFree⟩, hRest⟩
  · rintro ⟨⟨hUsed, hPrio, hListed, hNotFree⟩, hRest⟩
    exact ⟨hUsed, hPrio, hListed, hNotFree, hRest⟩

/-- Candidate k qualified, and a selection run. -/
def State.qualify (s : State) (g k : Nat) : State := (s.reselect g ((s.grp g).setCand k ((s.grp g).cand k).qualify)).glStatus g k

theorem State.qualify_setsCand (s : State) (g k : Nat) : SetsCand g k ((s.grp g).cand k).qualify s (s.qualify g k) :=
  .glStatus (.reselect (Group.cand_setCand_same ..) rfl rfl)

theorem exec_candidateQualified_of_due (hMay : (s.at t).mayQualify g k = true) (hSound : (s.at t).candFaultFalls g k = false) :
    exec (.candidateQualified t g k) s = .next ((s.at t).qualify g k) := by
  change execCandidateQualified t g k s = _
  refine if_pos ?_
  rw [hMay, hSound]
  rfl

theorem exec_candidateQualified_of_early (h : (s.at t).mayQualify g k = false) : exec (.candidateQualified t g k) s = .next (s.at t) := by
  change execCandidateQualified t g k s = _
  refine if_neg ?_
  rw [h]
  exact Bool.false_ne_true

/-- A candidate that is present again. -/
def Cand.returned (c : Cand) (now : Nat) : Cand := { c with present := true, presentSince := now, lost := false, means := [] }

/-- Candidate k present again. -/
def State.returnCand (s : State) (g k : Nat) : State :=
  (s.updGrp g ((s.grp g).setCand k (((s.grp g).cand k).returned s.now))).glStatus g k

theorem State.return_setsCand (s : State) (g k : Nat) : SetsCand g k (((s.grp g).cand k).returned s.now) s (s.returnCand g k) :=
  .glStatus (.updGrp (Group.cand_setCand_same ..) rfl rfl)

theorem exec_candidateReturn_of_absent (hCand : ListsCand s g k) (hAbsent : ((s.grp g).cand k).present = false) :
    exec (.candidateReturn t g k) s = .next ((s.at t).returnCand g k) := by
  obtain ⟨hUsed, hPrio, hListed, hNotFree⟩ := hCand
  change execCandidateReturn t g k s = _
  refine if_pos ?_
  simp [hUsed, hPrio, hListed, hNotFree, hAbsent]

/-- Settles O47: `SetsCand` says what each command makes of its candidate and what it leaves alone; the faults share `candFault_setsCand`. -/
theorem candidates_qualify_and_fall : Obligations.candidates_qualify_and_fall := by
  have hFault {t g k : Nat} {s : State} (hCand : ListsCand s g k) (hQuiet : (s.at t).serviceFalls = false) (cause : Nat) (lost gone : Bool) :
      SetsCand g k ((((s.at t).qualifyNow g).cand k).faulted (s.at t).now cause lost gone) s ((s.at t).candFault g k cause lost gone) :=
    (State.candFault_setsCand (hCand.at t) hQuiet cause lost gone).of_at
  refine ⟨fun t g k offset mark s hUsed hPrio hListed hNotFree hPresent hDue hQuiet => ?measure,
    fun t g k s hUsed hPrio hListed hNotFree hPresent hUnqualified hFits hDue hSound => ?qualified, fun t g k s hEarly => ?early,
    fun t g k s hUsed hPrio hListed hNotFree hQuiet => ?loss, fun t g k s hUsed hPrio hListed hNotFree hQuiet => ?glitch,
    fun t g k s hUsed hPrio hListed hNotFree hQuiet => ?rateChange, fun t g k s hUsed hPrio hListed hNotFree hAbsent => ?returns⟩
  case measure =>
    obtain ⟨hCand, hFrame, hStart, hOthers, hDram⟩ := ((s.at t).measure_setsCand g k offset mark).of_at
    obtain ⟨hMeans, hPhi⟩ := (s.at t).measuredCand_means g k offset mark
    refine ⟨_, exec_candidateMeasure_of_due ⟨hUsed, hPrio, hListed, hNotFree⟩ hPresent hDue hQuiet, ?_, ?_, fun hUnfit => ?_, hFrame, hStart, hOthers,
      hDram⟩
    · rw [hCand, hMeans, State.grp_at, State.at_now]
    · rw [hCand, hPhi]
    · rw [hCand, State.measuredCand_of_unfit (by rwa [State.candFits_at])]
  case qualified =>
    have hMay : (s.at t).mayQualify g k = true := by
      refine (State.mayQualify_iff ..).mpr ⟨ListsCand.at ⟨hUsed, hPrio, hListed, hNotFree⟩ t, ?_⟩
      rw [State.grp_at, State.candFits_at, State.at_now]
      exact ⟨hPresent, hUnqualified, hFits, hDue⟩
    obtain ⟨hCand, hFrame, hStart, hOthers, hDram⟩ := ((s.at t).qualify_setsCand g k).of_at
    exact ⟨_, exec_candidateQualified_of_due hMay hSound, congrArg Cand.qualified hCand, congrArg Cand.cause hCand, hFrame, hStart, hOthers, hDram⟩
  case early =>
    refine exec_candidateQualified_of_early (Bool.eq_false_iff.mpr fun hMay => ?_)
    obtain ⟨-, -, -, -, hDue⟩ := (State.mayQualify_iff ..).mp hMay
    rw [State.grp_at, State.at_now] at hDue
    omega
  case loss =>
    obtain ⟨hCand, hFrame, hStart, hOthers, hDram⟩ := hFault ⟨hUsed, hPrio, hListed, hNotFree⟩ hQuiet 1 true true
    exact ⟨_, rfl, congrArg Cand.qualified hCand, (congrArg Cand.present hCand).trans (Bool.and_false _),
      (congrArg Cand.lost hCand).trans (Bool.or_true _), congrArg Cand.cause hCand, hFrame, hStart, hOthers, hDram⟩
  case glitch =>
    obtain ⟨hCand, hFrame, -, hOthers, hDram⟩ := hFault ⟨hUsed, hPrio, hListed, hNotFree⟩ hQuiet 2 false false
    obtain ⟨-, -, hPresent⟩ := (s.at t).qualifyNow_frame g k
    rw [State.grp_at] at hPresent
    exact ⟨_, rfl, congrArg Cand.qualified hCand, ((congrArg Cand.present hCand).trans (Bool.and_true _)).trans hPresent, congrArg Cand.cause hCand,
      hFrame, hOthers, hDram⟩
  case rateChange =>
    obtain ⟨hCand, hFrame, -, hOthers, hDram⟩ := hFault ⟨hUsed, hPrio, hListed, hNotFree⟩ hQuiet 3 false true
    exact ⟨_, rfl, congrArg Cand.qualified hCand, (congrArg Cand.present hCand).trans (Bool.and_false _), congrArg Cand.cause hCand, hFrame, hOthers,
      hDram⟩
  case returns =>
    obtain ⟨hCand, hFrame, -, hOthers, hDram⟩ := ((s.at t).return_setsCand g k).of_at
    rw [State.at_now, State.grp_at] at hCand
    exact ⟨_, exec_candidateReturn_of_absent ⟨hUsed, hPrio, hListed, hNotFree⟩ hAbsent, congrArg Cand.present hCand, congrArg Cand.presentSince hCand,
      congrArg Cand.lost hCand, (congrArg Cand.qualified hCand).trans rfl, congrArg Cand.means hCand, hFrame, hOthers, hDram⟩

end Sys2Proof.Machine
end

section
/-! PROOFS. The loss of REFCLK_SYS (R272): the card port stops with it, and a host read in flight fails (R429, R449). -/
namespace Sys2Proof.Machine

/-- Channel 0 in the middle of a descriptor with END and WB (R445): it reads 32 bytes of host memory into TCM. -/
def hostReadChan : Chan where
  st := .run
  prev := .idle
  failed := false
  phase := .burst
  kickPending := false
  src := 0x8000000000
  dst := 0x10000000
  srcAt := 0x8000000000
  dstAt := 0x10000000
  remain := 32
  control := 0xA0000000
  link := 0
  err := 0

/-- The bytes of that descriptor. -/
def hostReadDesc : List Byte :=
  toLe 8 hostReadChan.src ++ toLe 8 hostReadChan.dst ++ toLe 4 hostReadChan.remain ++ toLe 4 hostReadChan.control ++ toLe 8 hostReadChan.link

/-- SERVICE with the card link up and channel group 0 in use. The channel's read is outstanding, and its descriptor lies at offset 0 of DRAM. -/
def hostReadState : State :=
  let s := State.reset.setCtl { State.reset.ctl with mode := .service }
  let s1 := (s.setPcie { s.pcie with linkUp := true, busMaster := true }).setCard { s.card with outstanding := [(0, 0)] }
  let s2 := ((s1.wr Reg.TOP_USAGE 0x01000000).wr Reg.CPT_OBW_CTRL 1).wr64 (Reg.DMACH_DESC_LO 0) (Reg.DMACH_DESC_HI 0) 0x100000000
  (s2.dramPut 0 hostReadDesc).setChan 0 hostReadChan

/-- The read fails with LINK_DOWN, code 5, which the channel writes back into bits 27:24 of the descriptor's CONTROL at 0x14. -/
theorem sysRefLost_writes_linkDown_back :
    ∃ u, exec (.sysRefLost 0) hostReadState = .next u ∧ hostReadState.dramByte 0x17 = 0xA0 ∧ u.dramByte 0x17 = 0xA5 :=
  ⟨_, rfl, by decide +kernel⟩

/-- Refutes O49: its fourth clause has the loss of REFCLK_SYS leave DRAM as it was, in every state, and leaves out that the card port stops with the
reference (R272): a DMA channel whose host read is in flight fails (R429), and writes its error back into a descriptor that may lie in DRAM (R445,
R449). -/
theorem not_loops_and_references : ¬ Obligations.loops_and_references := by
  rintro ⟨-, -, -, hRefLost, -⟩
  obtain ⟨u, hNext, -, -, -, -, -, hDram⟩ := hRefLost 0 hostReadState
  obtain ⟨u', hNext', hBefore, hAfter⟩ := sysRefLost_writes_linkDown_back
  obtain rfl : u = u' := by simpa using hNext.symm.trans hNext'
  have hSame : u.dramByte 0x17 = hostReadState.dramByte 0x17 := congrArg (Tab.get Config.blankByte · 0x17) hDram
  rw [hAfter, hBefore] at hSame
  revert hSame
  decide

end Sys2Proof.Machine
end

section
/-! PROOFS. Lanes that the sowing sequencer moves between power states, a furrow at a time (R297, R298), and the tail of a port that stopped (R196). -/
namespace Sys2Proof.Machine

variable {s u v : State} {t i j x : Nat}

/-! A lane's run. -/

theorem State.lane_congr (h : u.lan = s.lan) (i : Nat) : u.lane i = s.lane i := congrArg (Tab.get coldLane · i) h

@[simp] theorem State.lane_at (s : State) (t i : Nat) : (s.at t).lane i = s.lane i := State.lane_congr (State.at_lan s t) i
@[simp] theorem State.lane_lanEvent (s : State) (j b i : Nat) : (s.lanEvent j b).lane i = s.lane i := State.lane_congr (by simp) i
@[simp] theorem State.lane_wrFld (s : State) (off hi lo w i : Nat) : (s.wrFld off hi lo w).lane i = s.lane i := State.lane_congr (by simp) i

theorem State.lane_setLane_same (s : State) (i : Nat) (r : LaneRun) : (s.setLane i r).lane i = r := Tab.get_put_same ..

theorem State.lane_setLane_ne (s : State) {i j : Nat} (r : LaneRun) (h : i ≠ j) : (s.setLane j r).lane i = s.lane i := Tab.get_put_ne _ _ _ h

/-! Lanes whose register pages do not overlap (R308). -/

/-- The pages of lanes i and j lie apart. -/
def LanesApart (i j : Nat) : Prop := Reg.lanPage i + 0x400 ≤ Reg.lanPage j ∨ Reg.lanPage j + 0x400 ≤ Reg.lanPage i

theorem LanesApart.ne (h : LanesApart i j) : i ≠ j := by
  rintro rfl
  unfold LanesApart at h
  omega

theorem LanesApart.reg_ne {k l : Nat} (h : LanesApart i j) (hk : k < 0x400) (hl : l < 0x400) : Reg.lanPage i + k ≠ Reg.lanPage j + l := by
  unfold LanesApart at h
  omega

theorem Reg.lan_ne_pending (i k : Nat) : Reg.lanPage i + k ≠ Reg.MSIX_PENDING 0 := by
  simp only [Reg.lanPage, Reg.MSIX_PENDING]
  split <;> omega

/-- The lanes of a unit, each once. -/
theorem unitLanes_nodup (x : Nat) : (unitLanes x).Nodup := by
  unfold unitLanes
  split
  · exact List.Pairwise.map _ (fun _ _ hNe hSame => hNe (Nat.add_left_cancel hSame)) List.nodup_range
  · exact List.pairwise_singleton _ _

theorem unitLanes_apart (hi : i ∈ unitLanes x) (hj : j ∈ unitLanes x) (hNe : i ≠ j) : LanesApart i j := by
  by_cases hx : x < 64
  · simp only [unitLanes, if_pos hx, List.mem_map, List.mem_range] at hi hj
    obtain ⟨a, ha, rfl⟩ := hi
    obtain ⟨b, hb, rfl⟩ := hj
    simp only [LanesApart, Reg.lanPage, if_pos (by omega : 16 * x + a < 1024), if_pos (by omega : 16 * x + b < 1024)]
    omega
  · simp only [unitLanes, if_neg hx] at hi hj
    exact absurd ((List.mem_singleton.mp hi).trans (List.mem_singleton.mp hj).symm) hNe

/-! What leaves one lane alone. One relation, `KeepsLane`, says it, and the lemma of an operation on another lane carries it along as `KeepsControl` is
carried. -/

/-- `t` has lane i's run and register page of `s`, the power sequencer, the clock and DRAM. -/
structure KeepsLane (i : Nat) (s t : State) : Prop where
  lane : t.lane i = s.lane i
  page : ∀ k < 0x400, t.rd (Reg.lanPage i + k) = s.rd (Reg.lanPage i + k)
  now : t.now = s.now
  power : t.power = s.power
  dram : t.dram = s.dram

theorem KeepsLane.refl (i : Nat) (s : State) : KeepsLane i s s := ⟨rfl, fun _ _ => rfl, rfl, rfl, rfl⟩

theorem KeepsLane.trans (h : KeepsLane i s u) (k : KeepsLane i u v) : KeepsLane i s v :=
  ⟨k.lane.trans h.lane, fun a ha => (k.page a ha).trans (h.page a ha), k.now.trans h.now, k.power.trans h.power, k.dram.trans h.dram⟩

theorem KeepsLane.ite {c : Prop} {inst : Decidable c} (h : KeepsLane i s u) (k : KeepsLane i s v) : KeepsLane i s (if c then u else v) := by
  split
  · exact h
  · exact k

theorem KeepsLane.freeNext (h : KeepsLane i s u) : KeepsLane i s u.freeNext := ⟨h.lane, h.page, h.now, h.power, h.dram⟩

section
variable (hApart : LanesApart i j)
include hApart

theorem KeepsLane.setLane {r : LaneRun} (h : KeepsLane i s u) : KeepsLane i s (u.setLane j r) :=
  ⟨(State.lane_setLane_ne u r hApart.ne).trans h.lane, h.page, h.now, h.power, h.dram⟩

theorem KeepsLane.wrFld {l hi lo w : Nat} (hl : l < 0x400) (h : KeepsLane i s u) : KeepsLane i s (u.wrFld (Reg.lanPage j + l) hi lo w) :=
  ⟨h.lane, fun k hk => (State.rd_wrFld_ne u hi lo w (hApart.reg_ne hk hl)).trans (h.page k hk), h.now, h.power, h.dram⟩

theorem KeepsLane.setPstate {p : Nat} (h : KeepsLane i s u) : KeepsLane i s (u.setPstate j p) := h.wrFld hApart (by decide)

theorem KeepsLane.holdCodes (h : KeepsLane i s u) : KeepsLane i s (u.holdCodes j) :=
  .ite ((h.freeNext.wrFld hApart (by decide)).wrFld hApart (by decide)) h

theorem KeepsLane.lanEvent {b : Nat} (h : KeepsLane i s u) : KeepsLane i s (u.lanEvent j b) where
  lane := (State.lane_lanEvent ..).trans h.lane
  page k hk := (State.rd_event_ne _ _ _ _ _ (hApart.reg_ne hk (by decide)) (Reg.lan_ne_pending i k)).trans (h.page k hk)
  now := by simpa using h.now
  power := by simpa using h.power
  dram := by simpa using h.dram

theorem KeepsLane.startMove {off : Bool} (h : KeepsLane i s u) : KeepsLane i s (State.startMove off u j) := by
  unfold State.startMove
  split
  · exact h
  · exact .ite (h.setLane hApart) (.ite ((h.setPstate hApart).setLane hApart) (h.setLane hApart))

theorem KeepsLane.endMove {locked : Bool} (h : KeepsLane i s u) : KeepsLane i s (State.endMove locked u j) := by
  have hArrives {v : State} {p : Nat} {r : LaneRun} (hv : KeepsLane i s v) : KeepsLane i s ((v.setPstate j p).setLane j r) :=
    (hv.setPstate hApart).setLane hApart
  unfold State.endMove
  split
  · exact h
  · exact .ite h ((KeepsLane.ite ((hArrives (h.holdCodes hApart)).wrFld hApart (by decide))
      (.ite ((hArrives h).wrFld hApart (by decide)) (hArrives h))).lanEvent hApart)

end

/-- Among operations on the lanes of a unit, one for each, the lane's own finds it as it was before them, and the others leave it as it is then. -/
theorem foldl_unitLanes_at {f : State → Nat → State} (hi : i ∈ unitLanes x) (hf : ∀ v j, LanesApart i j → KeepsLane i v (f v j)) (s : State) :
    ∃ v, KeepsLane i s v ∧ KeepsLane i (f v i) ((unitLanes x).foldl f s) := by
  have hOthers (l : List Nat) (hl : ∀ j ∈ l, LanesApart i j) (v : State) : KeepsLane i v (l.foldl f v) :=
    List.foldlRecOn (motive := KeepsLane i v) l f (.refl i v) fun _ h j hj => h.trans (hf _ j (hl j hj))
  have hApart (j : Nat) (hj : j ∈ unitLanes x) (hNe : j ≠ i) : LanesApart i j := unitLanes_apart hi hj hNe.symm
  have hNodup := unitLanes_nodup x
  obtain ⟨l, l', hSplit⟩ := List.append_of_mem hi
  rw [hSplit] at hApart hNodup ⊢
  rw [List.foldl_append, List.foldl_cons]
  obtain ⟨-, hNodup', hDisjoint⟩ := List.nodup_append.mp hNodup
  refine ⟨l.foldl f s, hOthers l (fun j hj => hApart j (by simp [hj]) ?_) s, hOthers l' (fun j hj => hApart j (by simp [hj]) ?_) _⟩
  · exact hDisjoint j hj i (by simp)
  · rintro rfl
    exact (List.nodup_cons.mp hNodup').1 hj

/-! A move starts (R297, R298). -/

theorem State.startMove_of_want {off : Bool} {w : Nat} (h : (s.lane i).want = some w) :
    ((State.startMove off s i).lane i).want = none ∧ ((State.startMove off s i).lane i).goal.map Prod.fst = some w ∧
      (State.startMove off s i).power = s.power ∧ (State.startMove off s i).dram = s.dram := by
  simp only [State.startMove, h]
  split
  · next hw => exact ⟨by rw [State.lane_setLane_same], by rw [State.lane_setLane_same, hw]; rfl, rfl, rfl⟩
  · split <;> exact ⟨by rw [State.lane_setLane_same], by rw [State.lane_setLane_same]; rfl, rfl, rfl⟩

/-- Rails taken change neither lanes nor clock nor DRAM. -/
theorem State.takeRails_frame (s : State) (rated : List (Nat × Nat)) : (s.takeRails rated).lan = s.lan ∧ (s.takeRails rated).now = s.now ∧
    (s.takeRails rated).dram = s.dram :=
  List.foldlRecOn (motive := fun a : State => a.lan = s.lan ∧ a.now = s.now ∧ a.dram = s.dram) _ _ ⟨rfl, rfl, rfl⟩ fun _ h _ _ => h

/-- The unit at the front of the queue has its turn: it takes its rails and leaves the queue. -/
def State.takeTurn (s : State) (rest : List Nat) : State :=
  let s1 := s.takeRails moveRated
  s1.setPower { s1.power with moves := rest, lastMove := s1.now }

theorem State.takeTurn_frame (s : State) (rest : List Nat) : (s.takeTurn rest).lan = s.lan ∧ (s.takeTurn rest).power.moves = rest ∧
    (s.takeTurn rest).power.lastMove = s.now ∧ (s.takeTurn rest).dram = s.dram := by
  obtain ⟨hLan, hNow, hDram⟩ := s.takeRails_frame moveRated
  simp [State.takeTurn, hLan, hNow, hDram]

/-- Is a unit a furrow whose MDLL is not locked (R278)? -/
def State.mdllOff (s : State) (x : Nat) : Bool := decide (x < 64) && !s.rdBit (Reg.SYN_FURROW_STATUS x) 31

/-- A furrow's MDLL that is off is turned on if a lane of the furrow is to leave LD. -/
def State.mdllForExit (s : State) (x : Nat) : State :=
  if ((unitLanes x).any fun i => s.pstate i == 2 && decide ((s.lane i).want = some 0 ∨ (s.lane i).want = some 1)) && s.mdllOff x
  then s.mdllOn x else s

theorem State.mdllForExit_frame (s : State) (x : Nat) : (s.mdllForExit x).lan = s.lan ∧ (s.mdllForExit x).power = s.power ∧
    (s.mdllForExit x).dram = s.dram := by
  unfold State.mdllForExit
  split <;> exact ⟨rfl, rfl, rfl⟩

theorem exec_furrowMove_of_due {rest : List Nat} (hMoves : s.power.moves = x :: rest) (hDue : s.power.lastMove + 100000 ≤ max s.now t)
    (hRails : (s.at t).railsFree moveRated = true) : exec (.furrowMove t) s = .next ((unitLanes x).foldl
      (State.startMove (((s.at t).takeTurn rest).mdllOff x)) (((s.at t).takeTurn rest).mdllForExit x)) := by
  rw [← State.at_power s t] at hMoves hDue
  rw [← State.at_now s t] at hDue
  change execFurrowMove t s = _
  unfold execFurrowMove
  extract_lets
  split
  · next hNone => exact absurd (hMoves.symm.trans hNone) (List.cons_ne_nil x rest)
  · next hFront =>
    obtain ⟨rfl, rfl⟩ := List.cons.inj (hMoves.symm.trans hFront)
    exact if_pos ⟨hDue, hRails⟩

/-! A move ends (R297). -/

/-- Lane i reaches a power state. -/
def State.arrive (s : State) (i g : Nat) : State := (s.setPstate i g).setLane i { s.lane i with goal := none }

theorem State.pstate_setPstate (s : State) (i : Nat) {g : Nat} (hg : g < 4) : (s.setPstate i g).pstate i = g := by
  rw [State.pstate, State.rdFld, State.setPstate, State.rd_wrFld_same, fld_setFld_same _ _ _ _ (by decide)]
  exact Nat.mod_eq_of_lt hg

/-- A write of LANn_STATUS beside the power state. -/
theorem State.pstate_wrFld_beside (s : State) (i : Nat) {hi lo w : Nat} (h : hi < 32) (hBeside : 29 < lo ∨ hi < 28) :
    (s.wrFld (Reg.LAN_STATUS i) hi lo w).pstate i = s.pstate i := by
  rw [State.pstate, State.rdFld, State.rd_wrFld_same, fld_setFld_other _ _ _ _ _ _ h hBeside, State.pstate, State.rdFld]

theorem State.arrive_lane {g : Nat} (hg : g < 4) (s : State) (i : Nat) : (s.arrive i g).pstate i = g ∧ ((s.arrive i g).lane i).goal = none ∧
    (s.arrive i g).dram = s.dram := by
  refine ⟨State.pstate_setPstate s i hg, ?_, by simp [State.arrive, State.setPstate]⟩
  rw [State.arrive, State.lane_setLane_same]

/-- Lane i has reached a power state: into LD its codes are held and its receiver goes, into L0 DARK_ON_AIR ends. -/
def State.moveOver (s : State) (i g : Nat) : State :=
  if g = 2 then ((s.holdCodes i).arrive i g).wrFld (Reg.LAN_STATUS i) 31 30 0
  else if g = 0 then (s.arrive i g).wrBit (Reg.LAN_STATUS i) 27 false
  else s.arrive i g

/-- Codes held change no lane's run and no DRAM. -/
theorem State.holdCodes_frame (s : State) (i : Nat) : (s.holdCodes i).lan = s.lan ∧ (s.holdCodes i).dram = s.dram := by
  unfold State.holdCodes
  split
  · simp
  · exact ⟨rfl, rfl⟩

theorem State.endMove_of_due {locked : Bool} {g n : Nat} (hGoal : (s.lane i).goal = some (g, n)) (hDue : n ≤ s.now)
    (hLocked : g = 2 ∨ locked = true) : State.endMove locked s i = (s.moveOver i g).lanEvent i 2 := by
  simp only [State.endMove, hGoal, State.moveOver, State.arrive, State.lane_congr (s.holdCodes_frame i).1 i]
  refine if_neg ?_
  rintro (hEarly | ⟨hExit, hUnlocked⟩)
  · omega
  · rcases hLocked with hInto | hLocked
    · exact hExit hInto
    · simp [hLocked] at hUnlocked

theorem State.moveOver_lane {g : Nat} (hg : g < 4) (s : State) (i : Nat) : (s.moveOver i g).pstate i = g ∧
    ((s.moveOver i g).lane i).goal = none ∧ (s.moveOver i g).dram = s.dram := by
  obtain ⟨hState, hGoal, hDram⟩ := s.arrive_lane hg i
  obtain ⟨hDownState, hDownGoal, hDownDram⟩ := (s.holdCodes i).arrive_lane hg i
  unfold State.moveOver
  split
  · rw [State.pstate_wrFld_beside _ _ (by decide) (by decide), State.lane_wrFld, State.wrFld_dram]
    exact ⟨hDownState, hDownGoal, hDownDram.trans (s.holdCodes_frame i).2⟩
  · split
    · rw [State.wrBit, State.pstate_wrFld_beside _ _ (by decide) (by decide), State.lane_wrFld, State.wrFld_dram]
      exact ⟨hState, hGoal, hDram⟩
    · exact ⟨hState, hGoal, hDram⟩

/-- A lane's event writes no other register of a lane. -/
theorem State.rd_lanEvent_ne (s : State) {k b : Nat} (h : Reg.lanPage i + k ≠ Reg.LAN_EVENT j) :
    (s.lanEvent j b).rd (Reg.lanPage i + k) = s.rd (Reg.lanPage i + k) := State.rd_event_ne _ _ _ _ _ h (Reg.lan_ne_pending i k)

theorem State.rdBit_lanEvent_same (s : State) (i : Nat) {b : Nat} (hb : b < 32) : (s.lanEvent i b).rdBit (Reg.LAN_EVENT i) b = true :=
  State.rdBit_event_same s _ 13 b (Reg.lan_ne_pending i 8) hb

/-- The MDLL of a furrow is turned off once all its lanes are in LD (R278). -/
def State.mdllForRest (s : State) (x : Nat) : State :=
  if x < 64 ∧ ((unitLanes x).all fun i => s.pstate i == 2) = true then s.wrFld (Reg.SYN_FURROW_STATUS x) 31 30 0 else s

theorem exec_furrowMoveDone : exec (.furrowMoveDone t x) s = .next (State.mdllForRest ((unitLanes x).foldl
    (State.endMove (decide (64 ≤ x) || s.rdBit (Reg.SYN_FURROW_STATUS x) 31)) (s.at t)) x) := by
  rw [← State.rdBit_at s t]
  exact (apply_ite Host.Outcome.next ..).symm

theorem KeepsLane.mdllForRest (h : KeepsLane i s u) : KeepsLane i s (u.mdllForRest x) := by
  unfold State.mdllForRest
  split
  · next hx =>
    have hNe (k : Nat) : Reg.lanPage i + k ≠ Reg.SYN_FURROW_STATUS x := by
      simp only [Reg.lanPage, Reg.SYN_FURROW_STATUS]
      split <;> omega
    exact ⟨h.lane, fun k hk => (State.rd_wrFld_ne u 31 30 0 (hNe k)).trans (h.page k hk), h.now, h.power, h.dram⟩
  · exact h

/-! The tail of a port ends (R196). -/

/-- A port stopped, its tail over. -/
def State.tailOver (s : State) (p : Nat) : State :=
  let s1 := (s.setPort p { s.port p with phase := 0, since := s.now }).wrBit (Reg.AP_STATUS p) 27 false
  s1.setPower { s1.power with tails := s1.power.tails.filter (· != p) }

theorem State.rd_tailOver (s : State) (p a : Nat) : (s.tailOver p).rd a = (s.wrBit (Reg.AP_STATUS p) 27 false).rd a :=
  State.rd_congr (State.setPower_regs ..) a

theorem State.tailOver_port (s : State) (p : Nat) : ((s.tailOver p).port p).phase = 0 ∧ (s.tailOver p).rdBit (Reg.AP_STATUS p) 27 = false ∧
    p ∉ (s.tailOver p).power.tails ∧ (s.tailOver p).dram = s.dram := by
  refine ⟨?_, ?_, ?_, ?_⟩
  · simp [State.tailOver, State.port]
  · rw [State.rdBit, State.rd_tailOver, State.rd_wrBit_same, bit_setFld _ _ _ _ (by decide)]
    rfl
  · simp [State.tailOver]
  · simp [State.tailOver]

theorem exec_stopTailEnd_of_due {p : Nat} (hPhase : (s.port p).phase = 3) (hDue : (s.port p).since + (s.at t).portTailNs p ≤ max s.now t) :
    exec (.stopTailEnd t p) s = .next ((s.at t).tailOver p) := by
  rw [← State.port_at s t p] at hPhase hDue
  rw [← State.at_now s t] at hDue
  exact if_pos ⟨hPhase, hDue⟩

/-- Settles O11: of the lanes of a unit each starts or ends its own move, and `KeepsLane` says that the others leave it alone. -/
theorem furrow_moves_and_tails : Obligations.furrow_moves_and_tails := by
  refine ⟨fun t s x rest i w hMoves hDue hRails hi hWant => ?starts, fun t x s i g n hi hGoal hDue hg hLocked => ?ends,
    fun t p s hPhase hDue => ?tail⟩
  case starts =>
    obtain ⟨hTurnLan, hTurnMoves, hTurnLast, hTurnDram⟩ := (s.at t).takeTurn_frame rest
    obtain ⟨hLan, hPower, hDram⟩ := ((s.at t).takeTurn rest).mdllForExit_frame x
    obtain ⟨v, hBefore, hAfter⟩ := foldl_unitLanes_at (f := State.startMove (((s.at t).takeTurn rest).mdllOff x)) hi
      (fun v j hApart => .startMove hApart (.refl i v)) (((s.at t).takeTurn rest).mdllForExit x)
    have hLane : v.lane i = s.lane i := by
      rw [hBefore.lane, State.lane_congr hLan, State.lane_congr hTurnLan, State.lane_at]
    obtain ⟨hStarted, hLeads, hSamePower, hSameDram⟩ := State.startMove_of_want (off := ((s.at t).takeTurn rest).mdllOff x) (hLane ▸ hWant)
    refine ⟨_, exec_furrowMove_of_due hMoves hDue hRails, ?_, ?_, ?_, ?_, fun a => congrArg (Tab.get Config.blankByte · a) ?_⟩
    · rw [hAfter.power, hSamePower, hBefore.power, hPower, hTurnMoves]
    · rw [hAfter.power, hSamePower, hBefore.power, hPower, hTurnLast, State.at_now]
    · rw [hAfter.lane, hStarted]
    · rw [hAfter.lane, hLeads]
    · rw [hAfter.dram, hSameDram, hBefore.dram, hDram, hTurnDram, State.at_dram]
  case ends =>
    obtain ⟨v, hBefore, hAfter⟩ := foldl_unitLanes_at (f := State.endMove (decide (64 ≤ x) || s.rdBit (Reg.SYN_FURROW_STATUS x) 31)) hi
      (fun v j hApart => .endMove hApart (.refl i v)) (s.at t)
    have hGoal' : (v.lane i).goal = some (g, n) := by rw [hBefore.lane, State.lane_at, hGoal]
    have hDue' : n ≤ v.now := by rwa [hBefore.now, State.at_now]
    have hLocked' : g = 2 ∨ (decide (64 ≤ x) || s.rdBit (Reg.SYN_FURROW_STATUS x) 31) = true := by simpa using hLocked
    rw [State.endMove_of_due hGoal' hDue' hLocked'] at hAfter
    obtain ⟨hLane, hPage, -, -, hDram⟩ := hAfter.mdllForRest (x := x)
    obtain ⟨hState, hOver, hSameDram⟩ := v.moveOver_lane hg i
    refine ⟨_, exec_furrowMoveDone, ?_, ?_, ?_, fun a => congrArg (Tab.get Config.blankByte · a) ?_⟩
    · refine (congrArg (fld · 29 28) ((hPage 4 (by decide)).trans (State.rd_lanEvent_ne _ ?_))).trans hState
      simp
    · rw [hLane, State.lane_lanEvent, hOver]
    · exact (congrArg (bit · 2) (hPage 8 (by decide))).trans (State.rdBit_lanEvent_same _ i (by decide))
    · rw [hDram, State.lanEvent_eq, State.event_dram, hSameDram, hBefore.dram, State.at_dram]
  case tail =>
    obtain ⟨hStopped, hFlag, hTails, hDram⟩ := (s.at t).tailOver_port p
    refine ⟨_, exec_stopTailEnd_of_due hPhase hDue, hStopped, hFlag, hTails, fun a ha => ?_, fun a => congrArg (Tab.get Config.blankByte · a) ?_⟩
    · rw [State.rd_tailOver, State.rd_wrBit_ne _ _ _ ha, State.rd_at]
    · rw [hDram, State.at_dram]

end Sys2Proof.Machine
end

section
/-! PROOFS. A power request during reaping (R299, R467). -/
namespace Sys2Proof.Machine

/-- A restart from SERVICE whose reaping has taken MGT0 to LD, with furrow 0 still to go. -/
def mgtReaped : State := (inMode .service).setPower { PowerState.reset with stage := 3, sown := [.furrow 0], reaping := some .restart }

/-- Asked for LS, MGT0 would leave LD: the request is discarded, and REFUSED stays 0. -/
theorem pwrReq_discarded_during_reaping :
    ∃ u, exec (.pwrReq 0 1032 1) mgtReaped = .next u ∧ u.pstate 1032 = 2 ∧ u.rdBit (Reg.LAN_PWR 1032) 31 = false :=
  ⟨_, rfl, by decide +kernel, by decide +kernel⟩

/-- Refutes O50: its fifth clause has every request for LS on a lane that carries traffic set REFUSED, and leaves out that an exit from LD that is asked
for during reaping is discarded (R467). MGT0 carries traffic as long as the mode is SERVICE (R300), and so still does once it is reaped. -/
theorem not_lanes_lock_take_settings_and_run_tests : ¬ Obligations.lanes_lock_take_settings_and_run_tests := by
  rintro ⟨-, -, -, -, hRefused, -⟩
  have hPresent : mgtReaped.lanePresent 1032 = true := by decide
  have hUsed : mgtReaped.pers 1032 ≠ 0 := by decide +kernel
  have hTraffic : mgtReaped.carriesTraffic 1032 = true := by decide +kernel
  obtain ⟨u, hNext, hFlag, -⟩ := hRefused 0 1032 1 mgtReaped hPresent (.inl rfl) rfl hUsed (Nat.le_refl 3) hTraffic
  obtain ⟨u', hNext', -, hClear⟩ := pwrReq_discarded_during_reaping
  obtain rfl : u = u' := by simpa using hNext.symm.trans hNext'
  exact Bool.false_ne_true (hClear.symm.trans hFlag)

end Sys2Proof.Machine
end

section
/-! PROOFS. Fields and bits of a register after a write beside them or of themselves. -/
namespace Sys2Proof.Machine

variable {s : State} {a off hi lo v i j : Nat}

/-- A field written reads as written. -/
theorem State.rdFld_wrFld_same (h : hi < 32) : (s.wrFld off hi lo v).rdFld off hi lo = v % 2 ^ (hi + 1 - lo) := by
  rw [State.rdFld, State.rd_wrFld_same, fld_setFld_same _ _ _ _ h]

/-- A field beside the one written, in its register, reads as before. -/
theorem State.rdFld_wrFld_beside {hi' lo' : Nat} (h : hi < 32) (hBeside : hi' < lo ∨ hi < lo') :
    (s.wrFld off hi lo v).rdFld off hi' lo' = s.rdFld off hi' lo' := by
  rw [State.rdFld, State.rd_wrFld_same, fld_setFld_other _ _ _ _ _ _ h hBeside, State.rdFld]

/-- A bit inside a field written reads as the bit written. -/
theorem State.rdBit_wrFld_inside (h : hi < 32) (hLo : lo ≤ i) (hHi : i ≤ hi) : (s.wrFld off hi lo v).rdBit off i = v.testBit (i - lo) := by
  rw [State.rdBit, State.rd_wrFld_same, bit_setFld _ _ _ _ h, if_pos ⟨hLo, hHi⟩]

/-- A bit beside a field written reads as before. -/
theorem State.rdBit_wrFld_beside (h : hi < 32) (hBeside : i < lo ∨ hi < i) : (s.wrFld off hi lo v).rdBit off i = s.rdBit off i := by
  rw [State.rdBit, State.rd_wrFld_same, bit_setFld _ _ _ _ h, if_neg (by omega), State.rdBit]

/-- A bit written reads as written. -/
theorem State.rdBit_wrBit (b : Bool) (h : i < 32) : (s.wrBit off i b).rdBit off i = b := by
  rw [State.wrBit, State.rdBit_wrFld_inside h (Nat.le_refl i) (Nat.le_refl i), Nat.sub_self]
  cases b <;> rfl

/-- A bit beside the one written, in its register, reads as before. -/
theorem State.rdBit_wrBit_beside (b : Bool) (h : i < 32) (hBeside : j ≠ i) : (s.wrBit off i b).rdBit off j = s.rdBit off j :=
  State.rdBit_wrFld_beside h (by omega)

/-- A field that holds the bit written does not reach beyond it. -/
theorem State.rdFld_wrBit_beside (b : Bool) (h : i < 32) (hBeside : hi < i ∨ i < lo) : (s.wrBit off i b).rdFld off hi lo = s.rdFld off hi lo :=
  State.rdFld_wrFld_beside h hBeside

theorem State.rdFld_congr {u : State} (h : u.rd a = s.rd a) : u.rdFld a hi lo = s.rdFld a hi lo := congrArg (fld · hi lo) h
theorem State.rdBit_congr {u : State} (h : u.rd a = s.rd a) : u.rdBit a i = s.rdBit a i := congrArg (bit · i) h

/-- A flag that is ored in reads as set. -/
theorem State.rdBit_orReg_same (h : i < 32) : (s.orReg off (maskBit i)).rdBit off i = true := by
  rw [State.rdBit, State.rd_orReg_same, bit, BitVec.getLsbD_or, maskBit, BitVec.getLsbD_ofNat, Nat.testBit_two_pow_self]
  simp [h]

end Sys2Proof.Machine
end

section
/-! PROOFS. The step (R444), resets (R464, R466, R467) and the adaptive core voltage (R462, R463). -/
namespace Sys2Proof.Machine

variable {s : State} {t : Nat}

/-- Settles O1: both clauses are the two branches of the step. -/
theorem step_runs_front_command : Obligations.step_runs_front_command := by
  refine ⟨fun c rest s => rfl, fun s hEmpty => ?_⟩
  rw [step, hEmpty]

/-! The internal reset and its end. -/

@[simp] theorem State.setRegs_rd (x : Tab Word) (a : Nat) : (s.setRegs x).rd a = (Tab.find? x a).getD (RegMap.resetOf a) := rfl

/-- Held low, RESET_N keeps the device in reset. -/
theorem State.endReset_of_held {straps : Nat} (h : s.pins.resetN = false) : s.endReset straps = s := by
  simp [State.endReset, h]

/-- The reset ends in BOOT, at the choice of the slot, unless TEST_EN is high and the key fuse blank. -/
theorem State.endReset_of_boot {straps : Nat} (hReset : s.power.inReset = true) (hResetN : s.pins.resetN = true) (hPwrgood : s.pins.pwrgood = true)
    (hBoot : straps / 4 % 2 = 0 ∨ s.boot.fuse ≠ none) : s.endReset straps =
    (((s.endClosing.setPins { s.pins with straps := straps % 16, keyOut := false }).setPower { s.power with inReset := false }).setBoot
      (BootState.reset s.boot.fuse s.now)).setCtl { s.ctl with mode := .boot, modeSince := s.now } := by
  have hNot : ¬ (straps / 4 % 2 = 1 ∧ s.boot.fuse.isNone = true) := by
    rintro ⟨hStrap, hBlank⟩
    exact hBoot.elim (by omega) (· (Option.isNone_iff_eq_none.mp hBlank))
  rw [State.endReset, if_pos ⟨hReset, hResetN, hPwrgood⟩]
  exact if_neg hNot

/-- With TEST_EN high and the key fuse blank it ends in TEST (R47). -/
theorem State.endReset_of_test {straps : Nat} (hReset : s.power.inReset = true) (hResetN : s.pins.resetN = true) (hPwrgood : s.pins.pwrgood = true)
    (hStrap : straps / 4 % 2 = 1) (hBlank : s.boot.fuse = none) : ∃ v : State, v.pins.keyOut = false ∧ v.power.inReset = false ∧
    s.endReset straps = v.enterTest := by
  rw [State.endReset, if_pos ⟨hReset, hResetN, hPwrgood⟩]
  exact ⟨_, rfl, rfl, if_pos ⟨hStrap, by rw [hBlank]; rfl⟩⟩

@[simp] theorem State.setMode_power (s : State) (m : Mode) : (s.setMode m).power = s.power := by unfold State.setMode; split <;> simp [State.topEvent]

/-- In TEST the device is alive; an interlock that is low stays low (R57, R410). -/
theorem State.enterTest_of_low (h : s.pins.keyOut = false) : s.enterTest.ctl.mode = .test ∧ s.enterTest.power = s.power ∧
    s.enterTest.pins.keyOut = false ∧ s.enterTest.flt.aliveRuns = true := by
  simp [State.enterTest, State.leaveBoot, State.keyLow, h]

/-- The device at the end of a power-on, its reset still held (R464): no register is listed, so that each reads what the map gives it. -/
def State.poweredOn (s : State) (resetN : Bool) : State :=
  (s.setPins { s.pins with pwrgood := true, resetN := resetN }).internalReset.setRegs []

theorem exec_powerOn {straps : Nat} {resetN : Bool} : exec (.powerOn t straps resetN) s = .next (((s.at t).poweredOn resetN).endReset straps) := rfl

theorem State.poweredOn_frame (s : State) (resetN : Bool) : (∀ a, (s.poweredOn resetN).rd a = RegMap.resetOf a) ∧
    (s.poweredOn resetN).ctl.mode = .boot ∧ (s.poweredOn resetN).ctl.role = .solo ∧
    (s.poweredOn resetN).power = { PowerState.reset with inReset := true } ∧
    (s.poweredOn resetN).pins = { s.pins with pwrgood := true, resetN := resetN, keyOut := false, alive := false } ∧
    (s.poweredOn resetN).flash = s.flash ∧ (s.poweredOn resetN).boot.fuse = s.boot.fuse ∧ (s.poweredOn resetN).dram = [] ∧
    (s.poweredOn resetN).tcm = [] :=
  ⟨fun _ => rfl, rfl, rfl, rfl, rfl, rfl, rfl, rfl, rfl⟩

/-- Settles O6: the end of the reset that follows, in BOOT, in TEST, or none yet. -/
theorem power_on_resets_everything : Obligations.power_on_resets_everything := by
  refine ⟨fun t straps s hBoot => ?_, fun t straps s hStrap hBlank => ?_, fun t straps s => ?_⟩
  · obtain ⟨hRegs, -, hRole, hPower, hPins, hFlash, hFuse, hDram, hTcm⟩ := (s.at t).poweredOn_frame true
    refine ⟨_, exec_powerOn, ?_⟩
    rw [State.endReset_of_boot (by rw [hPower]) (by rw [hPins]) (by rw [hPins]) (by rwa [hFuse, State.at_boot])]
    generalize (s.at t).poweredOn true = v at *
    exact ⟨hRegs, rfl, hRole, rfl, rfl, congrArg PowerState.stage hPower, rfl, rfl, hFlash.trans (s.at_flash t),
      hFuse.trans (congrArg _ (s.at_boot t)), hDram, hTcm⟩
  · obtain ⟨-, -, -, hPower, hPins, -, hFuse, -⟩ := (s.at t).poweredOn_frame true
    obtain ⟨v, hKey, hReset, hEnd⟩ := State.endReset_of_test (by rw [hPower]) (by rw [hPins]) (by rw [hPins]) hStrap
      (hFuse.trans ((congrArg _ (s.at_boot t)).trans hBlank))
    obtain ⟨hMode, hPower', hKey', hAlive⟩ := State.enterTest_of_low hKey
    exact ⟨v.enterTest, exec_powerOn.trans (congrArg _ hEnd), hMode, (congrArg _ hPower').trans hReset, hKey', hAlive⟩
  · obtain ⟨hRegs, hMode, -, hPower, hPins, hFlash, hFuse, -⟩ := (s.at t).poweredOn_frame false
    refine ⟨_, exec_powerOn, ?_⟩
    rw [State.endReset_of_held (by rw [hPins])]
    exact ⟨hRegs, hMode, congrArg _ hPower, congrArg _ hPins, hFlash.trans (s.at_flash t), hFuse.trans (congrArg _ (s.at_boot t))⟩

/-! Reaping for a reset. -/

/-- What neither the flash's resource nor the life log's queue touches: the pins, the mode, the power sequencer, the twin, the collector and the
memories. -/
structure KeepsReset (s t : State) : Prop where
  pins : t.pins = s.pins
  ctl : t.ctl = s.ctl
  power : t.power = s.power
  twn : t.twn = s.twn
  flt : t.flt = s.flt
  dram : t.dram = s.dram
  flash : t.flash = s.flash

variable {s₀ : State}

theorem KeepsReset.refl (s : State) : KeepsReset s s := ⟨rfl, rfl, rfl, rfl, rfl, rfl, rfl⟩
theorem KeepsReset.wrFld {r hi lo v : Nat} (h : KeepsReset s₀ s) : KeepsReset s₀ (s.wrFld r hi lo v) := ⟨h.1, h.2, h.3, h.4, h.5, h.6, h.7⟩
theorem KeepsReset.setRes {r : Nat} {x : MntRes} (h : KeepsReset s₀ s) : KeepsReset s₀ (s.setRes r x) := ⟨h.1, h.2, h.3, h.4, h.5, h.6, h.7⟩
theorem KeepsReset.setLife {x : LifeState} (h : KeepsReset s₀ s) : KeepsReset s₀ (s.setLife x) := ⟨h.1, h.2, h.3, h.4, h.5, h.6, h.7⟩

/-- What gives way to a checkpoint shows it in a register. -/
theorem KeepsReset.givesWay {b a : Activity} {u : State} (h : KeepsReset s₀ s) (e : s.givesWay b a = some u) : KeepsReset s₀ u := by
  unfold State.givesWay at e
  split at e
  · cases e
  · split at e
    · exact Option.some.inj e ▸ h.wrFld
    · split at e
      · exact Option.some.inj e ▸ h.wrFld
      · exact Option.some.inj e ▸ h

/-- A life-log write asks for the flash. -/
theorem KeepsReset.mntRequest_life {r : Nat} (h : KeepsReset s₀ s) : KeepsReset s₀ (s.mntRequest r ⟨1, 0⟩).1 := by
  unfold State.mntRequest
  extract_lets x
  split
  · exact h.setRes.setLife
  · next b _ =>
    split
    · exact h
    · split
      · next u e => exact (h.givesWay (Option.ite_none_right_eq_some.mp e).2).setRes.setLife
      · split
        · exact h.setRes
        · exact h.setRes

theorem KeepsReset.queueLife {w : Option FaultRec} (h : KeepsReset s₀ s) : KeepsReset s₀ (s.queueLife w) := by
  unfold State.queueLife
  split
  · exact h
  · exact h.setLife.mntRequest_life

/-- What a reset does before anything is reaped (R464): ALIVE stops, KEY_OUT falls, the outputs go dark. -/
def State.quieted (s : State) : State := s.aliveStop.keyLow.endClosing.cancelHandover.darken

theorem State.keyLow_frame (s : State) : s.keyLow.pins = { s.pins with keyOut := false } ∧ s.keyLow.ctl = s.ctl ∧ s.keyLow.power = s.power ∧
    s.keyLow.flt = s.flt ∧ s.keyLow.dram = s.dram ∧ s.keyLow.flash = s.flash := by
  by_cases h : s.pins.keyOut = true
  · simp [State.keyLow, h, State.twnEvent]
  · have hPins : s.pins = { s.pins with keyOut := false } := by rw [← Bool.eq_false_of_not_eq_true h]
    simp [State.keyLow, h, ← hPins]

theorem State.cancelHandover_eq (s : State) : s.cancelHandover = s.setTwn s.cancelHandover.twn := by
  unfold State.cancelHandover
  split <;> rfl

theorem State.quieted_frame (s : State) : s.quieted.pins = { s.pins with keyOut := false } ∧ s.quieted.ctl = s.ctl ∧ s.quieted.power = s.power ∧
    s.quieted.twn.lit = 0 ∧ s.quieted.flt.aliveRuns = false ∧ s.quieted.dram = s.dram ∧ s.quieted.flash = s.flash := by
  obtain ⟨hPins, hCtl, hPower, hFlt, hDram, hFlash⟩ := s.aliveStop.keyLow_frame
  generalize hv : s.aliveStop.keyLow = v at *
  rw [State.quieted, hv, State.cancelHandover_eq]
  generalize State.twn (State.cancelHandover _) = x
  exact ⟨hPins, hCtl, hPower, rfl, congrArg FaultState.aliveRuns hFlt, hDram, hFlash⟩

theorem State.reapForReset_eq (s : State) (c : ReapCause) : s.reapForReset c =
    if s.power.reaping.all (·.rank < c.rank) then
      (s.quieted.startReaping c).setPower { (s.quieted.startReaping c).power with finalCheckpoint := decide (c ≠ .powerFail) }
    else s.quieted := by
  have hPower := s.quieted_frame.2.2.1
  rw [← hPower]
  unfold State.reapForReset
  change (match s.quieted.power.reaping with | some r => _ | none => _) = _
  split
  · next r e => simp only [e, Option.all_some, decide_eq_true_eq]; rfl
  · next e => simp only [e, Option.all_none, if_true]; rfl

/-- A reset for a cause that no reaping under way outweighs (R467). -/
theorem State.reapForReset_of_weaker {c : ReapCause} (h : s.power.reaping.all (·.rank < c.rank) = true) :
    (s.reapForReset c).power.reaping = some c ∧ (s.reapForReset c).power.finalCheckpoint = decide (c ≠ .powerFail) ∧
    (s.reapForReset c).power.toSow = [] ∧ (s.reapForReset c).power.sowing = false ∧
    s.reapForReset c = s.quieted.setPower (s.reapForReset c).power := by
  rw [State.reapForReset_eq, if_pos h]
  exact ⟨rfl, rfl, rfl, rfl, rfl⟩

/-- Of the causes only a power fail is not outweighed by a power fail. -/
theorem ReapCause.rank_lt_powerFail (c : ReapCause) : c.rank < ReapCause.powerFail.rank ↔ c ≠ .powerFail := by
  cases c <;> decide

theorem exec_resetNFall_of_high (hPwrgood : s.pins.pwrgood = true) (hReset : s.power.inReset = false) (hReaping : s.power.reaping = none) :
    exec (.resetNFall t) s = .next ((((s.at t).setPins { s.pins with resetN := false }).reapForReset .pin).queueLife none) := by
  change execResetNFall t s = _
  simp [execResetNFall, hPwrgood, hReset, State.resetBegins, hReaping]

theorem exec_powerFail_of_running (hReset : s.power.inReset = false) :
    exec (.powerFail t) s = .next (((s.at t).setPins { s.pins with pwrgood := false }).reapForReset .powerFail) := by
  change execPowerFail t s = _
  simp [execPowerFail, hReset]

theorem exec_powerFail_of_held (hReset : s.power.inReset = true) :
    exec (.powerFail t) s = .next (((s.at t).setPins { s.pins with pwrgood := false }).wrFld Reg.TOP_RESET_CAUSE 2 0 3) := by
  change execPowerFail t s = _
  simp [execPowerFail, hReset]

/-- Settles O8: a reset begins with `State.quieted`; the reaping that it starts is that of the stronger cause. -/
theorem reset_sources_start_reaping : Obligations.reset_sources_start_reaping := by
  refine ⟨fun t s hPwrgood hReset hReaping => ?_, fun t s hReset => ?_, fun t s hReset => ?_, fun t s => rfl⟩
  · have hWeaker : ((s.at t).setPins { s.pins with resetN := false }).power.reaping.all (·.rank < ReapCause.pin.rank) = true := by simp [hReaping]
    obtain ⟨hCause, hOwed, hToSow, hSowing, hEq⟩ := State.reapForReset_of_weaker hWeaker
    obtain ⟨hPins, hCtl, -, hLit, hAlive, hDram, hFlash⟩ := ((s.at t).setPins { s.pins with resetN := false }).quieted_frame
    refine ⟨_, exec_resetNFall_of_high hPwrgood hReset hReaping, ?_⟩
    have hKeeps := (KeepsReset.refl (((s.at t).setPins { s.pins with resetN := false }).reapForReset .pin)).queueLife (w := none)
    simp only [State.dramByte, hKeeps.pins, hKeeps.ctl, hKeeps.power, hKeeps.twn, hKeeps.flt, hKeeps.dram, hKeeps.flash, hCause, hOwed, hToSow, hSowing]
    rw [hEq]
    simp [hPins, hCtl, hLit, hAlive, hDram, hFlash]
  · obtain ⟨hPins, hCtl, hPower, hLit, hAlive, hDram, hFlash⟩ := ((s.at t).setPins { s.pins with pwrgood := false }).quieted_frame
    refine ⟨_, exec_powerFail_of_running hReset, ?_⟩
    by_cases hFail : s.power.reaping = some .powerFail
    · have hHeld : ((s.at t).setPins { s.pins with pwrgood := false }).power.reaping.all (·.rank < ReapCause.powerFail.rank) = false := by
        simp [hFail]
      rw [State.reapForReset_eq, hHeld]
      simp [State.dramByte, hPins, hCtl, hPower, hLit, hAlive, hDram, hFlash, hFail]
    · have hWeaker : ((s.at t).setPins { s.pins with pwrgood := false }).power.reaping.all (·.rank < ReapCause.powerFail.rank) = true := by
        simp only [State.setPins_power, State.at_power, Option.all_eq_true, decide_eq_true_eq, ReapCause.rank_lt_powerFail]
        rintro c hc rfl
        exact hFail hc
      obtain ⟨hCause, hOwed, -, -, hEq⟩ := State.reapForReset_of_weaker hWeaker
      rw [hEq]
      simp [State.dramByte, hPins, hCtl, hCause, hOwed, hLit, hAlive, hDram, hFlash]
  · refine ⟨_, exec_powerFail_of_held hReset, State.rdFld_wrFld_same (by decide), fun a ha => ?_, by simp, by simp⟩
    rw [State.rd_wrFld_ne _ _ _ _ ha]
    exact State.rd_at s t a

/-! The internal reset (R466). -/

theorem exec_reapingComplete_of_reset {c : ReapCause} (hCause : s.power.reaping = some c) (hReset : c = .pin ∨ c = .restart ∨ c = .powerFail)
    (hSown : s.power.sown = []) (hTails : s.power.tails = []) (hCheckpoint : s.power.finalCheckpoint = false ∨ s.life.queued = []) :
    exec (.reapingComplete t) s = .next ((((s.at t).setPower
      { s.power with reaping := none, stage := min s.power.stage (s.reapFloor c) }).resetCause c.resetCode).internalReset) := by
  have hDone : (s.at t).checkpointDone = true := by
    rcases hCheckpoint with h | h <;> simp [State.checkpointDone, h]
  have hFloor : (s.at t).reapFloor c = s.reapFloor c := by simp [State.reapFloor]
  change execReapingComplete t s = _
  rcases hReset with rfl | rfl | rfl <;> simp [execReapingComplete, hCause, hSown, hTails, hDone, hFloor]

/-- The cause stands beside the count of resets, which saturates (R469). -/
theorem State.resetCause_fields (s : State) {code : Nat} (h : code < 8) : (s.resetCause code).rdFld Reg.TOP_RESET_CAUSE 2 0 = code ∧
    (s.resetCause code).rdFld Reg.TOP_RESET_CAUSE 15 8 = min 255 (s.rdFld Reg.TOP_RESET_CAUSE 15 8 + 1) := by
  rw [State.resetCause, State.rdFld_wrFld_beside (by decide) (by decide), State.rdFld_wrFld_same (by decide), State.rdFld_wrFld_same (by decide)]
  omega

/-- The internal reset keeps TOP_RESET_CAUSE alone of the registers (R466). -/
theorem State.internalReset_rd (s : State) (a : Nat) :
    s.internalReset.rd a = if a = Reg.TOP_RESET_CAUSE then s.rd a else RegMap.resetOf a := by
  change (Tab.find? (s.regs.filter fun e => e.1 == Reg.TOP_RESET_CAUSE) a).getD (RegMap.resetOf a) = _
  rw [Tab.find?_filter_key]
  split
  · rfl
  · rfl

theorem State.internalReset_frame (s : State) : s.internalReset.power.inReset = true ∧ s.internalReset.dram = [] ∧ s.internalReset.tcm = [] ∧
    s.internalReset.flash = s.flash ∧ s.internalReset.boot.fuse = s.boot.fuse ∧
    s.internalReset.pins = { s.pins with keyOut := false, alive := false } ∧ s.internalReset.ctl.mode = .boot :=
  ⟨rfl, rfl, rfl, rfl, rfl, rfl, rfl⟩

theorem ReapCause.resetCode_of_reset {c : ReapCause} (h : c = .pin ∨ c = .restart ∨ c = .powerFail) :
    c.resetCode = if c = .pin then 1 else if c = .restart then 2 else 3 := by
  rcases h with rfl | rfl | rfl <;> rfl

/-- Settles O9: the cause is written before the internal reset, which keeps its register. -/
theorem internal_reset_keeps_flash_and_fuses : Obligations.internal_reset_keeps_flash_and_fuses := by
  intro t s c hCause hReset hSown hTails hCheckpoint
  refine ⟨_, exec_reapingComplete_of_reset hCause hReset hSown hTails hCheckpoint, ?_⟩
  have hCode : c.resetCode < 8 := by cases c <;> decide
  generalize hv : (s.at t).setPower { s.power with reaping := none, stage := min s.power.stage (s.reapFloor c) } = v
  obtain ⟨hCauseFld, hCountFld⟩ := v.resetCause_fields hCode
  obtain ⟨hHeld, hDram, hTcm, hFlash, hFuse, hPins, hMode⟩ := (v.resetCause c.resetCode).internalReset_frame
  have hRd := (v.resetCause c.resetCode).internalReset_rd
  have hCount : v.rdFld Reg.TOP_RESET_CAUSE 15 8 = s.rdFld Reg.TOP_RESET_CAUSE 15 8 := by rw [← hv]; exact State.rdFld_at ..
  have hFrame : v.flash = s.flash ∧ v.boot = s.boot ∧ v.pins = s.pins := by rw [← hv]; simp
  refine ⟨hHeld, fun a ha => (hRd a).trans (if_neg ha), ?_, ?_, hDram, hTcm, hFlash.trans hFrame.1,
    hFuse.trans (congrArg BootState.fuse hFrame.2.1), congrArg Pins.keyOut hPins, hMode, ?_, ?_⟩
  · rw [State.rdFld_congr ((hRd _).trans (if_pos rfl)), hCauseFld, ReapCause.resetCode_of_reset hReset]
  · rw [State.rdFld_congr ((hRd _).trans (if_pos rfl)), hCountFld, hCount]
  · exact (congrArg Pins.pwrgood hPins).trans (show v.pins.pwrgood = _ by rw [hFrame.2.2])
  · exact (congrArg Pins.resetN hPins).trans (show v.pins.resetN = _ by rw [hFrame.2.2])

/-! The adaptive core voltage. -/

@[simp] theorem State.avsRuns_at (s : State) (t : Nat) : (s.at t).avsRuns = s.avsRuns := by simp [State.avsRuns]
@[simp] theorem State.s1Runs_at (s : State) (t : Nat) : (s.at t).s1Runs = s.s1Runs := by simp [State.s1Runs]

/-- The lowest multiple of 5 mV at or above the need, 700 mV or more (R463). -/
def avsNeed (need : Nat) : Nat := max 700 ((need + 4) / 5 * 5)

/-- The target set, with AVS_LIMIT where the need lies above 800 mV. -/
def State.withAvsTarget (s : State) (mv : Nat) : State :=
  let s1 := if 800 < mv then s.orReg Reg.TOP_PWR_STICKY 2 else s
  (s1.setPower { s1.power with avsTarget := min 800 mv }).wrFld Reg.TOP_AVS_STATUS 25 16 (min 800 mv)

theorem exec_avsTargetCompute_of_runs {need : Nat} (h : s.avsRuns = true) :
    exec (.avsTargetCompute t need) s = .next ((s.at t).withAvsTarget (avsNeed need)) := by
  change execAvsTargetCompute t need s = _
  rw [execAvsTargetCompute, State.avsRuns_at, if_pos h]
  rfl

theorem State.withAvsTarget_regs (s : State) (mv : Nat) : (s.withAvsTarget mv).rdFld Reg.TOP_AVS_STATUS 25 16 = min 800 mv ∧
    (800 < mv → (s.withAvsTarget mv).rdBit Reg.TOP_PWR_STICKY 1 = true) ∧
    ∀ a, a ≠ Reg.TOP_AVS_STATUS → a ≠ Reg.TOP_PWR_STICKY → (s.withAvsTarget mv).rd a = s.rd a := by
  refine ⟨?_, fun hLimit => ?_, fun a hStatus hSticky => ?_⟩
  · rw [State.withAvsTarget, State.rdFld_wrFld_same (by decide)]
    omega
  · rw [State.withAvsTarget, if_pos hLimit, State.rdBit_congr (State.rd_wrFld_ne _ _ _ _ (by decide))]
    exact State.rdBit_orReg_same (i := 1) (by decide)
  · rw [State.withAvsTarget, State.rd_wrFld_ne _ _ _ _ hStatus]
    split
    · exact State.rd_orReg_ne _ _ hSticky
    · rfl

/-- The setpoint of the next step of 5 mV towards the target. -/
def avsNext (last target : Nat) : Nat := if last < target then min (last + 5) target else max (last - 5) target

theorem exec_avsStep_of_due {own : Nat} {acked : Bool} (hRuns : s.avsRuns = true) (hTarget : s.power.avsTarget ≠ 0)
    (hLast : s.rdFld Reg.TOP_AVS_STATUS 9 0 ≠ 0) (hMoves : s.rdFld Reg.TOP_AVS_STATUS 9 0 ≠ s.power.avsTarget)
    (hDue : s.power.lastAvs + 100000000 ≤ max s.now t) : ∃ v : State, v.regs = s.regs ∧ v.power.lastAvs = max s.now t ∧
    exec (.avsStep t own acked) s = .next (if acked then
      v.wrFld Reg.TOP_AVS_STATUS 9 0 (avsNext (s.rdFld Reg.TOP_AVS_STATUS 9 0) s.power.avsTarget) else v.pmbusFail) := by
  have hNotEarly : ¬ max s.now t < s.power.lastAvs + 100000000 := by omega
  refine ⟨((s.at t).voutCommand (avsNext (s.rdFld Reg.TOP_AVS_STATUS 9 0) s.power.avsTarget)).setPower
    { (s.at t).power with lastAvs := (s.at t).now }, ?_, State.at_now s t, ?_⟩
  · simp only [State.voutCommand]
    split <;> simp
  · change execAvsStep t own acked s = _
    simp only [execAvsStep, State.avsRuns_at, State.rdFld_at, State.at_power, State.at_now]
    generalize s.rdFld Reg.TOP_AVS_STATUS 9 0 = last at *
    cases acked <;> simp [hRuns, hTarget, hLast, hMoves, hNotEarly, avsNext]

theorem State.pmbusFail_regs (s : State) : s.pmbusFail.rdBit Reg.TOP_PWR_STICKY 0 = true ∧
    ∀ a, a ≠ Reg.TOP_PWR_STICKY → s.pmbusFail.rd a = s.rd a :=
  ⟨State.rdBit_orReg_same (i := 0) (by decide), fun _ h => State.rd_orReg_ne _ _ h⟩

theorem exec_pmbusIoutRead_of_s1 {iout : Option Nat} (h : s.s1Runs = true) : exec (.pmbusIoutRead t iout) s = .next
    (match iout with | some v => (s.at t).wr Reg.TOP_CORE_IOUT (BitVec.ofNat 32 (min 65535 v)) | none => (s.at t).pmbusFail) := by
  change execPmbusIoutRead t iout s = _
  simp only [execPmbusIoutRead, State.s1Runs_at, h]
  cases iout <;> rfl

/-- Settles O12: the target, the step and the current, each by the registers that its command writes. -/
theorem adaptive_voltage_steps : Obligations.adaptive_voltage_steps := by
  refine ⟨fun t need s hRuns => ?_, fun t own s hRuns hTarget hHigh hLast hMoves hDue => ?_,
    fun t own s hRuns hTarget hLast hMoves hDue => ?_, fun t v s hRuns => ?_, fun t s hRuns => ?_⟩
  · obtain ⟨hFld, hLimit, hOthers⟩ := (s.at t).withAvsTarget_regs (avsNeed need)
    have hPower : ((s.at t).withAvsTarget (avsNeed need)).power.avsTarget = min 800 (avsNeed need) := rfl
    refine ⟨_, exec_avsTargetCompute_of_runs hRuns, ?_⟩
    rw [hPower, hFld]
    unfold avsNeed at *
    exact ⟨by omega, by omega, by omega, by omega, by omega, by omega, rfl, fun h => hLimit (by omega),
      fun a hStatus hSticky => (hOthers a hStatus hSticky).trans (State.rd_at s t a)⟩
  · obtain ⟨v, hRegs, hNow, hExec⟩ := exec_avsStep_of_due (own := own) (acked := true) hRuns hTarget hLast hMoves hDue
    have hBound : s.rdFld Reg.TOP_AVS_STATUS 9 0 < 2 ^ 10 := fld_lt _ 9 0
    refine ⟨_, hExec, hNow, fun hLow => ?_, fun hAbove => ?_, fun a ha => ?_⟩
    · rw [if_pos rfl, State.rdFld_wrFld_same (by decide), avsNext, if_pos hLow]
      omega
    · rw [if_pos rfl, State.rdFld_wrFld_same (by decide), avsNext, if_neg (by omega)]
      omega
    · rw [if_pos rfl, State.rd_wrFld_ne _ _ _ _ ha, State.rd_congr hRegs]
  · obtain ⟨v, hRegs, -, hExec⟩ := exec_avsStep_of_due (own := own) (acked := false) hRuns hTarget hLast hMoves hDue
    exact ⟨_, hExec, v.pmbusFail_regs.1, fun a ha => (v.pmbusFail_regs.2 a ha).trans (State.rd_congr hRegs a)⟩
  · exact ⟨_, exec_pmbusIoutRead_of_s1 hRuns, State.rd_wr_same .., fun a ha => (State.rd_wr_ne _ _ ha).trans (State.rd_at s t a)⟩
  · exact ⟨_, exec_pmbusIoutRead_of_s1 hRuns, (s.at t).pmbusFail_regs.1,
      fun a ha => ((s.at t).pmbusFail_regs.2 a ha).trans (State.rd_at s t a)⟩

end Sys2Proof.Machine
end

section
/-! PROOFS. Mailbox replies (R433). -/
namespace Sys2Proof.Machine

variable {s : State} {t : Nat}

/-! The words of the buffer. -/

/-- Byte j of a little-endian number. -/
theorem le_byte (bs : List Byte) (j : Nat) : le bs / 2 ^ (8 * j) % 256 = (bs.getD j 0).toNat := by
  induction bs generalizing j with
  | nil => simp [le]
  | cons b bs ih =>
    have hb := b.isLt
    cases j with
    | zero => simp only [le, Nat.mul_zero, Nat.pow_zero, Nat.div_one, List.getD_cons_zero]; omega
    | succ j =>
      have hPow : 2 ^ (8 * (j + 1)) = 256 * 2 ^ (8 * j) := by rw [Nat.mul_succ, Nat.pow_add, Nat.mul_comm]
      have hRest : le (b :: bs) / 256 = le bs := by simp only [le]; omega
      rw [List.getD_cons_succ, ← ih, hPow, ← Nat.div_div_eq_div_mul, hRest]

/-- Byte k of a message stands in word k / 4 of the buffer, in bits 8 (k mod 4) + 7 to 8 (k mod 4) (R432). -/
theorem byte_of_loWord (bs : List Byte) (k : Nat) :
    BitVec.ofNat 8 (loWord (le (slice bs (k / 4 * 4) 4)) >>> (8 * (k % 4))).toNat = bs.getD k 0 := by
  have hByte : (slice bs (k / 4 * 4) 4).getD (k % 4) 0 = bs.getD k 0 := by
    have hLt : k % 4 < 4 := Nat.mod_lt _ (by decide)
    have hIndex : k / 4 * 4 + k % 4 = k := by omega
    simp [slice, List.getD_eq_getElem?_getD, List.getElem?_drop, hLt, hIndex]
  have hLe := le_byte (slice bs (k / 4 * 4) 4) (k % 4)
  rw [hByte] at hLe
  apply BitVec.eq_of_toNat_eq
  rw [← hLe, loWord, BitVec.toNat_ofNat, BitVec.toNat_ushiftRight, BitVec.toNat_ofNat, Nat.shiftRight_eq_div_pow]
  have hCases : k % 4 = 0 ∨ k % 4 = 1 ∨ k % 4 = 2 ∨ k % 4 = 3 := by omega
  rcases hCases with h | h | h | h <;> rw [h] <;> omega

/-- The card port's page is in every part. -/
theorem State.view_of_card {off : Nat} (hLow : 0x110000 ≤ off) (hHigh : off < 0x120000) : s.view off = (s.viewCpt off).getD (s.rd off) := by
  have hUnit : s.dev.variant.hasUnit off = true := by
    unfold Variant.hasUnit
    repeat rw [if_neg (by omega)]
    rw [if_pos (by omega)]
  have hPage : s.pagePresent off = true := by
    rw [State.pagePresent, hUnit, if_neg (by omega), if_neg (by omega)]
    rfl
  have hOf : s.viewOf off = s.viewCpt off := by
    unfold State.viewOf
    repeat rw [if_neg (by omega)]
    rw [if_pos (by omega)]
  rw [State.view, hPage, hOf]
  cases s.viewCpt off <;> rfl

theorem State.view_mbxOut {off : Nat} (hLow : 0x118000 ≤ off) (hHigh : off < 0x11A328) :
    s.view off = loWord (le (slice s.card.mbxOut (off - 0x118000) 4)) := by
  have hOf : s.viewCpt off = some (loWord (le (slice s.card.mbxOut (off - 0x118000) 4))) := by
    have hNe {k : Nat} (h : k < 0x118000) : off ≠ k := by omega
    have hBeyond : ¬ off < 0x110180 := by omega
    simp [State.viewCpt, hNe, hBeyond, hLow, hHigh]
  rw [State.view_of_card (by omega) (by omega), hOf]
  rfl

theorem State.view_mbxOutStatus : s.view Reg.CPT_MBX_OUT_STATUS =
    word [(s.card.mbxOut.length, 0), (s.card.mbxQueue.length, 16), (b2n (!s.card.mbxOut.isEmpty), 31)] := by
  rw [State.view_of_card (by decide) (by decide)]
  rfl

/-- The fields of CPT_MBX_OUT_STATUS do not reach into one another. -/
theorem mbxOutStatus_fields {n q : Nat} (hn : n ≤ 9000) (hq : q ≤ 16) :
    bit (word [(n, 0), (q, 16), (1, 31)]) 31 = true ∧ fld (word [(n, 0), (q, 16), (1, 31)]) 13 0 = n := by
  have hWord : (word [(n, 0), (q, 16), (1, 31)]).toNat = n + q * 65536 + 2147483648 := by
    have hSum : [(n, 0), (q, 16), (1, 31)].foldl (fun a f => a + f.1 * 2 ^ f.2) 0 = n + q * 65536 + 2147483648 := by norm_num
    rw [word, hSum, BitVec.toNat_ofNat]
    omega
  constructor
  · rw [bit, BitVec.getLsbD, hWord, Nat.testBit_eq_decide_div_mod_eq, decide_eq_true_eq]
    norm_num
    omega
  · rw [fld, hWord]
    omega

/-! Presenting, queueing and releasing. -/

theorem State.rd_cptEvent_ne {i a : Nat} (hEvent : a ≠ Reg.CPT_EVENT) (hPending : a ≠ Reg.MSIX_PENDING 0) : (s.cptEvent i).rd a = s.rd a :=
  State.rd_event_ne _ _ _ _ _ hEvent hPending

theorem State.rdBit_cptEvent_same {i : Nat} (hi : i < 32) : (s.cptEvent i).rdBit Reg.CPT_EVENT i = true :=
  State.rdBit_event_same s Reg.CPT_EVENT 0 i (by decide) hi

/-- A reply for the mailbox reaches no gate. -/
theorem State.sendReply_of_mailbox {r : ReplyTo} {bs : List Byte} (h : r.path = .mailbox) : s.sendReply r bs = s.mbxReply bs := by
  rw [State.sendReply, h]

theorem State.mbxReply_of_free {bs : List Byte} (h : s.card.mbxOut = []) :
    s.mbxReply bs = (s.setCard { s.card with mbxOut := bs }).cptEvent 0 := by
  rw [State.mbxReply, h]
  rfl

theorem State.mbxReply_of_room {bs : List Byte} (hTaken : s.card.mbxOut ≠ []) (hRoom : s.card.mbxQueue.length < 16) :
    s.mbxReply bs = s.setCard { s.card with mbxQueue := s.card.mbxQueue ++ [bs] } := by
  rw [State.mbxReply, if_neg (by simpa using hTaken), if_pos hRoom]

theorem State.mbxReply_of_full {bs : List Byte} (hTaken : s.card.mbxOut ≠ []) (hFull : 16 ≤ s.card.mbxQueue.length) :
    s.mbxReply bs = s.bump Reg.CPT_CNT_MBX_REPLY_DROP := by
  rw [State.mbxReply, if_neg (by simpa using hTaken), if_neg (by omega)]

theorem State.mbxRelease_of_queued {q : List Byte} {rest : List (List Byte)} (hTaken : s.card.mbxOut ≠ []) (hQueue : s.card.mbxQueue = q :: rest) :
    s.mbxRelease = (s.setCard { s.card with mbxOut := q, mbxQueue := rest }).cptEvent 0 := by
  rw [State.mbxRelease, if_neg (by simpa using hTaken), hQueue]

theorem State.mbxRelease_of_none (hQueue : s.card.mbxQueue = []) : s.mbxRelease = s.setCard { s.card with mbxOut := [] } := by
  rw [State.mbxRelease, hQueue]
  split
  · next h =>
    rw [List.isEmpty_iff] at h
    have hCard : { s.card with mbxOut := [] } = s.card := by rw [← h]
    rw [hCard]
    rfl
  · rfl

theorem exec_mbxOutRelease : exec (.mbxOutRelease t) s = .next (s.at t).mbxRelease := rfl

/-- Settles O58: no clause looks at the key pins, since a reply for the mailbox is `State.mbxReply` and its release `State.mbxRelease` in every
state of theirs. -/
theorem mailbox_replies_are_presented_queued_and_never_gated : Obligations.mailbox_replies_are_presented_queued_and_never_gated := by
  refine ⟨fun s r bs hPath hFree hReply hLength hQueue => ?_, fun s r bs hPath hTaken hRoom => ?_, fun s r bs hPath hTaken hFull hCount => ?_,
    fun t s r q rest hOut hTaken hQueue => ?_, fun t s hQueue => ?_⟩
  · rw [State.sendReply_of_mailbox hPath, State.mbxReply_of_free hFree]
    have hCard : ((s.setCard { s.card with mbxOut := bs }).cptEvent 0).card = { s.card with mbxOut := bs } := by simp [State.cptEvent]
    obtain ⟨hValid, hLen⟩ := mbxOutStatus_fields hLength hQueue
    have hStatus : word [(bs.length, 0), (s.card.mbxQueue.length, 16), (b2n (!bs.isEmpty), 31)] =
        word [(bs.length, 0), (s.card.mbxQueue.length, 16), (1, 31)] := by simp [hReply, b2n]
    refine ⟨congrArg _ hCard, ?_, ?_, fun k hk => ?_, State.rdBit_cptEvent_same (by decide)⟩
    · rw [State.view_mbxOutStatus, hCard, hStatus, hValid]
    · rw [State.view_mbxOutStatus, hCard, hStatus, hLen]
    · rw [State.view_mbxOut (by omega) (by omega), hCard, Nat.add_sub_cancel_left, byte_of_loWord]
  · rw [State.sendReply_of_mailbox hPath, State.mbxReply_of_room hTaken hRoom]
    exact ⟨rfl, fun a => rfl⟩
  · rw [State.sendReply_of_mailbox hPath, State.mbxReply_of_full hTaken hFull]
    exact ⟨by simp, State.rd_bump_same _ _ hCount⟩
  · subst hOut
    refine ⟨_, exec_mbxOutRelease, ?_⟩
    rw [State.mbxRelease_of_queued (by simpa using hTaken) (by simpa using hQueue)]
    refine ⟨by simp [State.cptEvent], State.rdBit_cptEvent_same (by decide), fun a ha => ?_, by simp [State.cptEvent], by simp [State.cptEvent],
      by simp [State.cptEvent], by simp [State.cptEvent]⟩
    simp only [List.mem_cons, not_or] at ha
    exact (State.rd_cptEvent_ne ha.1 ha.2.1).trans (State.rd_at s t a)
  · refine ⟨_, exec_mbxOutRelease, ?_⟩
    rw [State.mbxRelease_of_none (by simpa using hQueue)]
    exact ⟨by simp, State.rd_at s t, s.at_ctl t, s.at_pins t, s.at_cfg t, s.at_dram t⟩

end Sys2Proof.Machine
end

section
/-! PROOFS. Training and the end of TRAIN (R395, R396, R45, R56, R207). -/
namespace Sys2Proof.Machine

variable {s s₀ u : State} {t : Nat}

/-! What a training step writes: the registers of the channels, beside its own. -/

/-- `t` differs from `s` in the registers of the DRAM channels' pages alone. -/
structure OnlyChannels (s t : State) : Prop where
  eq : t = s.setRegs t.regs
  rd : ∀ a, a < 0x121000 → t.rd a = s.rd a

theorem OnlyChannels.refl (s : State) : OnlyChannels s s := ⟨rfl, fun _ _ => rfl⟩

theorem OnlyChannels.trans {v : State} (h : OnlyChannels s u) (k : OnlyChannels u v) : OnlyChannels s v where
  eq := by rw [k.eq, h.eq]; rfl
  rd a ha := (k.rd a ha).trans (h.rd a ha)

theorem OnlyChannels.wr {off : Nat} {w : Word} (h : OnlyChannels s u) (hOff : 0x121000 ≤ off) : OnlyChannels s (u.wr off w) where
  eq := by rw [h.eq]; rfl
  rd a ha := (State.rd_wr_ne _ _ (by omega)).trans (h.rd a ha)

theorem OnlyChannels.wrBit {off i : Nat} {b : Bool} (h : OnlyChannels s u) (hOff : 0x121000 ≤ off) : OnlyChannels s (u.wrBit off i b) := h.wr hOff

theorem OnlyChannels.foldl {β : Type} {l : List β} {f : State → β → State} (h : OnlyChannels s u)
    (hf : ∀ v b, OnlyChannels s v → OnlyChannels s (f v b)) : OnlyChannels s (l.foldl f u) := by
  induction l generalizing u with
  | nil => exact h
  | cons b bs ih => exact ih (hf u b h)

theorem State.trainChan_onlyChannels (s : State) (step : Nat) (x : TrainChan) : OnlyChannels s (s.trainChan step x).1 := by
  have hs := OnlyChannels.refl s
  unfold State.trainChan
  extract_lets c g
  split
  · exact hs.wr (Nat.le_add_right_of_le (by decide))
  · exact hs.wr (Nat.le_add_right_of_le (by decide))
  · exact hs.wr (Nat.le_add_right_of_le (by decide))
  · exact hs.foldl fun _ _ hv => hv.wr (by simp only [Reg.DRCC_REYE]; omega)
  · exact hs.foldl fun _ _ hv => hv.wr (by simp only [Reg.DRCC_WEYE]; omega)
  · exact hs

theorem State.trainChans_onlyChannels (s : State) (step : Nat) (xs : List TrainChan) : OnlyChannels s (s.trainChans step xs).1 := by
  induction xs generalizing s with
  | nil => exact .refl s
  | cons x xs ih =>
    have hFirst : OnlyChannels s (if s.chanUsed x.chan then s.trainChan step x else (s, none)).1 := by
      split
      · exact s.trainChan_onlyChannels step x
      · exact .refl s
    unfold State.trainChans
    extract_lets r rest
    have hRest : OnlyChannels s rest.1 := hFirst.trans (ih r.1)
    split
    · split
      · exact hRest
      · exact hRest
    · exact hRest
    · exact hRest

/-- A step before the last that passes leads to the next (R395). -/
theorem State.trainStep_of_next {xs : List TrainChan} (hStep : s.rdFld Reg.DRC_TRAIN_STATUS 31 28 < 6) (hPass : (s.trainStep xs).2 = none) :
    (s.trainStep xs).1.rdFld Reg.DRC_TRAIN_STATUS 31 28 = s.rdFld Reg.DRC_TRAIN_STATUS 31 28 + 1 ∧ (s.trainStep xs).1.ctl = s.ctl := by
  have hChans := s.trainChans_onlyChannels (s.rdFld Reg.DRC_TRAIN_STATUS 31 28) xs
  revert hPass
  unfold State.trainStep
  extract_lets step r
  split
  · exact nofun
  · intro hPass
    rw [if_neg (by omega)]
    refine ⟨?_, (congrArg State.ctl hChans.eq).trans rfl⟩
    rw [State.rdFld_wrFld_same (by decide)]
    omega

theorem State.rd_drcEvent_ne {i a : Nat} (hEvent : a ≠ Reg.DRC_EVENT) (hPending : a ≠ Reg.MSIX_PENDING 0) : (s.drcEvent i).rd a = s.rd a :=
  State.rd_event_ne _ _ _ _ _ hEvent hPending

theorem State.rdBit_drcEvent_same {i : Nat} (hi : i < 32) : (s.drcEvent i).rdBit Reg.DRC_EVENT i = true :=
  State.rdBit_event_same s Reg.DRC_EVENT 10 i (by decide) hi

/-- The last step that passes ends the training in READY (R395). -/
theorem State.trainStep_of_last {xs : List TrainChan} (hStep : s.rdFld Reg.DRC_TRAIN_STATUS 31 28 = 6) (hPass : (s.trainStep xs).2 = none) :
    (s.trainStep xs).1.rdFld Reg.DRC_TRAIN_STATUS 31 28 = 7 ∧ (s.trainStep xs).1.rdFld Reg.DRC_STATUS 31 30 = 2 ∧
    (s.trainStep xs).1.rdBit Reg.DRC_EVENT 0 = true ∧ (s.trainStep xs).1.ctl = s.ctl := by
  have hChans := s.trainChans_onlyChannels (s.rdFld Reg.DRC_TRAIN_STATUS 31 28) xs
  revert hPass
  unfold State.trainStep
  extract_lets step r s1
  split
  · exact nofun
  · intro hPass
    rw [if_pos (by omega)]
    have hFold : OnlyChannels s s1 := hChans.foldl fun v c hv => by
      split
      · exact hv.wrBit (Nat.le_add_right_of_le (by decide))
      · exact hv
    have hMs : s.trainMs ≤ 1023 := Nat.min_le_left _ _
    refine ⟨?_, ?_, State.rdBit_drcEvent_same (by decide), ?_⟩
    · rw [State.rdFld_congr (State.rd_drcEvent_ne (by decide) (by decide)), State.rdFld_congr (State.rd_wrFld_ne _ _ _ _ (by decide)),
        State.rdFld, State.rd_wr_same, fld, BitVec.toNat_ofNat]
      omega
    · rw [State.rdFld_congr (State.rd_drcEvent_ne (by decide) (by decide)), State.rdFld_wrFld_same (by decide)]
      rfl
    · simp only [State.drcEvent, State.event_ctl, State.wrFld_ctl, State.wr_ctl]
      exact (congrArg State.ctl hFold.eq).trans rfl

/-- A step that fails ends the training (R396). -/
theorem State.trainStep_of_failed {xs : List TrainChan} {code : Nat} (hMode : s.ctl.mode ≠ .test) (hFail : (s.trainStep xs).2 = some code) :
    code < 256 ∧ (s.trainStep xs).1.rdFld Reg.DRC_STATUS 31 30 = 0 ∧ (s.trainStep xs).1.boot = s.boot := by
  have hChans := s.trainChans_onlyChannels (s.rdFld Reg.DRC_TRAIN_STATUS 31 28) xs
  revert hFail
  unfold State.trainStep
  extract_lets step r s1
  split
  · next c k h =>
    extract_lets s2
    intro hFail
    have hCode : code = if step = 2 then 0x32 else 0x31 := (Option.some.inj hFail).symm
    rw [if_neg hMode]
    exact ⟨by split at hCode <;> omega, State.rdFld_wrFld_same (by decide), (congrArg State.boot hChans.eq).trans rfl⟩
  · split
    · exact nofun
    · exact nofun

/-! What refuses a slot. -/

/-- A directory write that is asked for keeps the boot state and the power sequencer; of the registers it may write BOOT_WR_STATUS, and LAN_TEST of
a lane whose test gives way. -/
structure KeepsBoot (s t : State) : Prop where
  boot : t.boot = s.boot
  power : t.power = s.power
  rd : ∀ a, a ≠ Reg.BOOT_WR_STATUS → a < 0x3FC000 → t.rd a = s.rd a

theorem KeepsBoot.refl (s : State) : KeepsBoot s s := ⟨rfl, rfl, fun _ _ _ => rfl⟩
theorem KeepsBoot.setRes {r : Nat} {x : MntRes} (h : KeepsBoot s₀ s) : KeepsBoot s₀ (s.setRes r x) := ⟨h.boot, h.power, h.rd⟩

theorem Reg.lanPage_ge (i : Nat) : 0x3FC000 ≤ Reg.lanPage i := by
  unfold Reg.lanPage
  split <;> omega

theorem KeepsBoot.givesWay {b a : Activity} (h : KeepsBoot s₀ s) (e : s.givesWay b a = some u) : KeepsBoot s₀ u := by
  have hWrFld {off : Nat} (hOff : off = Reg.BOOT_WR_STATUS ∨ 0x3FC000 ≤ off) (hi lo v : Nat) : KeepsBoot s₀ (s.wrFld off hi lo v) :=
    ⟨h.boot, h.power, fun a hStatus hLow => (State.rd_wrFld_ne _ _ _ _ (by omega)).trans (h.rd a hStatus hLow)⟩
  unfold State.givesWay at e
  split at e
  · cases e
  · split at e
    · exact Option.some.inj e ▸ hWrFld (.inr (Nat.le_add_right_of_le (Reg.lanPage_ge b.unit))) ..
    · split at e
      · exact Option.some.inj e ▸ hWrFld (.inl rfl) ..
      · exact Option.some.inj e ▸ h

theorem KeepsBoot.mntRequest_directory {r : Nat} (h : KeepsBoot s₀ s) : KeepsBoot s₀ (s.mntRequest r ⟨2, 0⟩).1 := by
  unfold State.mntRequest
  extract_lets x
  split
  · exact h.setRes
  · next b _ =>
    split
    · exact h
    · split
      · next u e => exact (h.givesWay (Option.ite_none_right_eq_some.mp e).2).setRes
      · split
        · exact h.setRes
        · exact h.setRes

theorem State.queueDir_keepsBoot (s : State) : ∃ n, KeepsBoot (s.setBoot { s.boot with dirQueued := n }) s.queueDir := by
  unfold State.queueDir
  split
  · exact ⟨s.boot.dirQueued, .refl s⟩
  · exact ⟨1, (KeepsBoot.refl _).mntRequest_directory⟩

theorem slotState_withSlotState (d : Directory) (x : Slot) (st : SlotState) : slotState (withSlotState d x st) x = st := by
  cases x <;> rfl

/-- The field of BOOT_STATUS that shows why a slot was refused. -/
def State.showRefusal (s : State) (x : Slot) (code : Nat) : State :=
  match x with
  | .a => s.wrFld Reg.BOOT_STATUS 23 16 code
  | .b => s.wrFld Reg.BOOT_STATUS 31 24 code

theorem State.showRefusal_regs (s : State) (x : Slot) {code : Nat} (hCode : code < 256) :
    (s.showRefusal x code).rdFld Reg.BOOT_STATUS (if x = .a then 23 else 31) (if x = .a then 16 else 24) = code ∧
    (s.showRefusal x code).boot = s.boot ∧ ∀ a, a ≠ Reg.BOOT_STATUS → (s.showRefusal x code).rd a = s.rd a := by
  cases x with
  | a => exact ⟨(State.rdFld_wrFld_same (by decide)).trans (Nat.mod_eq_of_lt hCode), rfl, fun a ha => State.rd_wrFld_ne _ _ _ _ ha⟩
  | b => exact ⟨(State.rdFld_wrFld_same (by decide)).trans (Nat.mod_eq_of_lt hCode), rfl, fun a ha => State.rd_wrFld_ne _ _ _ _ ha⟩

/-- The boot state of a slot refused while the other has not been tried. -/
def BootState.refused (b : BootState) (x : Slot) (code : Nat) : BootState :=
  { b with
    stage := .fallback, booted := none
    firstRefusal := if b.otherTried then b.firstRefusal else code
    dirDue := if code = 2 then b.dirDue else withSlotState b.dirDue x .failed }

/-- The first slot that is refused is shown with its code, and reaped for the other (R45). -/
theorem State.slotRefused_of_first {code : Nat} (hCode : code < 256) (hFirst : s.boot.otherTried = false) :
    (s.slotRefused code).refusedWith s.boot.slot code ∧ (s.slotRefused code).rdFld Reg.DRC_STATUS 31 30 = s.rdFld Reg.DRC_STATUS 31 30 := by
  obtain ⟨hShown, hBoot, hOthers⟩ := s.showRefusal_regs s.boot.slot hCode
  generalize hShow : s.showRefusal s.boot.slot code = v at *
  have hAsked : ∃ w n, KeepsBoot (v.setBoot { s.boot.refused s.boot.slot code with dirQueued := n }) w ∧ s.slotRefused code = w.startReaping .fallback := by
    have hRefused : s.slotRefused code = (fun s3 : State => if s3.boot.otherTried then s3.romFallback else s3.startReaping .fallback)
        (if code = 2 then v.setBoot (v.boot.refused s.boot.slot code) else (v.setBoot (v.boot.refused s.boot.slot code)).queueDir) := by
      rw [← hShow]
      rfl
    rw [hBoot] at hRefused
    obtain ⟨w, n, hKeeps, hW⟩ : ∃ w n, KeepsBoot (v.setBoot { s.boot.refused s.boot.slot code with dirQueued := n }) w ∧
        (if code = 2 then v.setBoot (s.boot.refused s.boot.slot code) else (v.setBoot (s.boot.refused s.boot.slot code)).queueDir) = w := by
      by_cases hTwo : code = 2
      · exact ⟨_, s.boot.dirQueued, .refl _, if_pos hTwo⟩
      · obtain ⟨n, hKeeps⟩ := (v.setBoot (s.boot.refused s.boot.slot code)).queueDir_keepsBoot
        exact ⟨_, n, hKeeps, if_neg hTwo⟩
    have hTried : w.boot.otherTried = false := by rw [hKeeps.boot]; exact hFirst
    exact ⟨w, n, hKeeps, by rw [hRefused, hW]; simp only [hTried]; rfl⟩
  obtain ⟨w, n, hKeeps, hEq⟩ := hAsked
  rw [hEq]
  refine ⟨⟨?_, congrArg BootState.stage hKeeps.boot, rfl, fun hTwo => ?_⟩, ?_⟩
  · rw [← hShown]
    exact State.rdFld_congr (hKeeps.rd _ (by decide) (by decide))
  · refine (congrArg (fun b : BootState => slotState b.dirDue s.boot.slot) hKeeps.boot).trans ?_
    simp only [State.setBoot_boot, BootState.refused, if_neg hTwo, slotState_withSlotState]
  · exact State.rdFld_congr ((hKeeps.rd _ (by decide) (by decide)).trans (hOthers _ (by decide)))

/-! The end of a training step. -/

/-- The image's content, written again, and the fallback that is made good leave the registers of the DRAM controllers alone. -/
theorem State.contentAgain_frame (fuel p : Nat) (s : State) :
    (State.contentAgain fuel p s).regs = s.regs ∧ (State.contentAgain fuel p s).ctl = s.ctl := by
  induction fuel generalizing p s with
  | zero => exact ⟨rfl, rfl⟩
  | succ fuel ih =>
    unfold State.contentAgain
    split
    · exact ⟨rfl, rfl⟩
    · extract_lets s1
      have hPut : s1.regs = s.regs ∧ s1.ctl = s.ctl := by
        unfold s1
        split <;> exact ⟨rfl, rfl⟩
      exact ⟨(ih _ s1).1.trans hPut.1, (ih _ s1).2.trans hPut.2⟩

theorem State.fellBack_frame (s : State) : s.fellBack.ctl = s.ctl ∧ ∀ a, a ≠ Reg.BOOT_STATUS → s.fellBack.rd a = s.rd a := by
  unfold State.fellBack
  split
  · exact ⟨rfl, fun a ha => State.rd_wrBit_ne s _ _ ha⟩
  · exact ⟨rfl, fun _ _ => rfl⟩

/-- A step that passes leaves what the training wrote, in TRAIN after the content was written again. -/
theorem exec_dramTrainStepDone_of_pass {xs : List TrainChan} (hRuns : s.rdBit Reg.DRC_STATUS 30 = true) (hPass : ((s.at t).trainStep xs).2 = none) :
    ∃ v : State, exec (.dramTrainStepDone t xs) s = .next v ∧ v.ctl = ((s.at t).trainStep xs).1.ctl ∧
    ∀ a, a ≠ Reg.BOOT_STATUS → v.rd a = ((s.at t).trainStep xs).1.rd a := by
  change ∃ v : State, execDramTrainStepDone t xs s = .next v ∧ _
  rw [execDramTrainStepDone, State.rdBit_at, hRuns, if_neg (by decide)]
  generalize (s.at t).trainStep xs = r at hPass ⊢
  simp only [hPass]
  split
  · exact ⟨_, rfl, rfl, fun _ _ => rfl⟩
  · split
    · obtain ⟨hRegs, hCtl⟩ := State.contentAgain_frame (r.1.cfgBody / 16) 0 r.1
      generalize State.contentAgain (r.1.cfgBody / 16) 0 r.1 = v at *
      exact ⟨_, rfl, v.fellBack_frame.1.trans hCtl, fun a ha => (v.fellBack_frame.2 a ha).trans (State.rd_congr hRegs a)⟩
    · exact ⟨_, rfl, rfl, fun _ _ => rfl⟩

theorem exec_dramTrainStepDone_of_failed {xs : List TrainChan} {code : Nat} (hRuns : s.rdBit Reg.DRC_STATUS 30 = true) (hMode : s.ctl.mode = .train)
    (hFail : ((s.at t).trainStep xs).2 = some code) : exec (.dramTrainStepDone t xs) s = .next (((s.at t).trainStep xs).1.slotRefused code) := by
  change execDramTrainStepDone t xs s = _
  simp only [execDramTrainStepDone, State.rdBit_at, State.at_ctl, hRuns, hMode, hFail]
  rfl

/-! The ways out of TRAIN. -/

@[simp] theorem State.peerHolds_at (s : State) (t : Nat) : (s.at t).peerHolds = s.peerHolds := by simp [State.peerHolds]

/-- A message over the party wall leaves the state of a JOIN alone. -/
theorem State.sendWall_join (s : State) (m : WallMsg) : (s.sendWall m).twn.join = s.twn.join := by
  have hDeal (v : State) (bs : List Block66) : (v.deal bs).twn.join = v.twn.join := by
    unfold State.deal
    extract_lets
    split <;> rfl
  have hTransmit (v : State) (f : WallFrag) : (v.transmitWall f).twn.join = v.twn.join := by
    unfold State.transmitWall
    extract_lets
    split <;> exact hDeal _ _
  have hDrain (n : Nat) (v : State) : (v.drainWall n).twn.join = v.twn.join := by
    induction n generalizing v with
    | zero => rfl
    | succ n ih =>
      unfold State.drainWall
      split
      · rfl
      · split
        · exact (ih _).trans (hTransmit _ _)
        · rfl
  have hFold (l : List (List Byte × Nat)) (f : State → List Byte × Nat → State) (hf : ∀ v b, (f v b).twn.join = v.twn.join) (v : State) :
      (l.foldl f v).twn.join = v.twn.join := by
    induction l generalizing v with
    | nil => rfl
    | cons b bs ih => exact (ih _).trans (hf v b)
  have hHand (v : State) (f : WallFrag) : (v.handFrag f).twn.join = v.twn.join := hDrain _ _
  exact hFold _ _ (fun v _ => hHand v _) _

theorem State.requestState_frame (s : State) (resync : Bool) (n : Nat) : (s.requestState resync n).pins = s.pins ∧
    (s.requestState resync n).ctl = s.ctl ∧ (s.requestState resync n).twn.join.active = true := by
  have hControl := (KeepsControl.refl (s.setTwn { s.twn with join := { idleJoin with
    active := true, resync := resync, requestedAt := s.now, attempts := n } })).sendWall (m := .state .request)
  exact ⟨hControl.pins, hControl.ctl, congrArg JoinState.active (State.sendWall_join _ _)⟩

/-- JOIN is entered as follower, with KEY_OUT low (R56, R209). -/
theorem State.enterJoin_control (s : State) : s.enterJoin.ctl.mode = .join ∧ s.enterJoin.ctl.role = .follower ∧ s.enterJoin.pins.keyOut = false ∧
    s.enterJoin.twn.join.active = true := by
  obtain ⟨x, y, hEnter⟩ : ∃ x y, s.enterJoin =
      (((((((s.keyLow.endClosing).setMode .join).setRole .follower).firstEntry).setAud x).setStreams y).requestState false 1) := ⟨_, _, rfl⟩
  rw [hEnter]
  have hPins0 : ((((s.keyLow.endClosing).setMode .join).setRole .follower).firstEntry).pins = { s.pins with keyOut := false } := by
    simpa [State.endClosing] using s.keyLow_frame.1
  have hCtl0 : ((((s.keyLow.endClosing).setMode .join).setRole .follower).firstEntry).ctl.mode = .join ∧
      ((((s.keyLow.endClosing).setMode .join).setRole .follower).firstEntry).ctl.role = .follower := by simp
  generalize (((s.keyLow.endClosing).setMode .join).setRole .follower).firstEntry = s0 at *
  obtain ⟨hPins, hCtl, hActive⟩ := ((s0.setAud x).setStreams y).requestState_frame false 1
  exact ⟨(congrArg Ctl.mode hCtl).trans hCtl0.1, (congrArg Ctl.role hCtl).trans hCtl0.2,
    (congrArg Pins.keyOut hPins).trans (congrArg Pins.keyOut hPins0), hActive⟩

/-- Settles O16: a training step by `State.trainStep`, the end of TRAIN by the branches of its last command. -/
theorem train_ends_in_its_mode : Obligations.train_ends_in_its_mode := by
  refine ⟨fun t xs s hRuns hStep hPass => ?_, fun t xs s hRuns hStep hPass => ?_, fun t xs s code hRuns hMode hFirst hFail => ?_,
    fun t s hMode hStage hSolo => ?_, fun t s hMode hStage hJoin => ?_, fun t s hMode hStage hPaired hJoin hWall hPeer => ?_,
    fun t s hMode hStage hPaired hWall hPeer => ?_⟩
  · obtain ⟨v, hExec, hCtl, hRd⟩ := exec_dramTrainStepDone_of_pass hRuns hPass
    obtain ⟨hNext, hCtl'⟩ := State.trainStep_of_next (by rwa [State.rdFld_at]) hPass
    exact ⟨v, hExec, ((State.rdFld_congr (hRd _ (by decide))).trans hNext).trans (by rw [State.rdFld_at]), (hCtl.trans hCtl').trans (s.at_ctl t)⟩
  · obtain ⟨v, hExec, hCtl, hRd⟩ := exec_dramTrainStepDone_of_pass hRuns hPass
    obtain ⟨hStatus, hReady, hEvent, hCtl'⟩ := State.trainStep_of_last (by rwa [State.rdFld_at]) hPass
    exact ⟨v, hExec, (State.rdFld_congr (hRd _ (by decide))).trans hStatus, (State.rdFld_congr (hRd _ (by decide))).trans hReady,
      (State.rdBit_congr (hRd _ (by decide))).trans hEvent, (hCtl.trans hCtl').trans (s.at_ctl t)⟩
  · obtain ⟨hCode, hStopped, hBoot⟩ := State.trainStep_of_failed (by simp [hMode]) hFail
    rw [State.at_boot] at hBoot
    have hRefused := State.slotRefused_of_first hCode (s := ((s.at t).trainStep xs).1) (by rw [hBoot]; exact hFirst)
    rw [hBoot, hStopped] at hRefused
    exact ⟨_, exec_dramTrainStepDone_of_failed hRuns hMode hFail, hRefused⟩
  · have hExec : exec (.trainClosingClaim t) s = .next (s.at t).soloService := by
      change execTrainClosingClaim t s = _
      simp [execTrainClosingClaim, hMode, hStage, hSolo]
    exact ⟨_, hExec, by simp [State.soloService]⟩
  · have hPaired : s.ctl.paired = true := by
      simp only [State.joinCond, Bool.and_eq_true, State.at_ctl] at hJoin
      exact hJoin.1.1.1
    have hExec : exec (.trainClosingClaim t) s = .next (s.at t).enterJoin := by
      change execTrainClosingClaim t s = _
      simp [execTrainClosingClaim, hMode, hStage, hPaired, hJoin]
    exact ⟨_, hExec, (s.at t).enterJoin_control⟩
  · have hExec : exec (.trainClosingClaim t) s = .next (s.at t).closeTrain := by
      change execTrainClosingClaim t s = _
      simp [execTrainClosingClaim, hMode, hStage, hPaired, hJoin, hWall, hPeer]
    refine ⟨_, hExec, ?_⟩
    have hStill : ((s.at t).setTwn { (s.at t).twn with key := { (s.at t).twn.key with closing := false, claimAt := none } }).joinCond = false := hJoin
    rw [State.closeTrain, hStill]
    simp
  · have hJoin : (s.at t).joinCond = false := by simp [State.joinCond, hPeer]
    have hExec : exec (.trainClosingClaim t) s =
        .next ((s.at t).setTwn { (s.at t).twn with key := { (s.at t).twn.key with closing := true } }) := by
      change execTrainClosingClaim t s = _
      simp [execTrainClosingClaim, hMode, hStage, hPaired, hJoin, hWall, hPeer]
    exact ⟨_, hExec, rfl, s.at_ctl t, s.at_pins t, State.rd_at s t⟩

end Sys2Proof.Machine
end

section
/-! PROOFS. Polls of MR4 (R394): one before the poll interval has passed reads nothing. -/
namespace Sys2Proof.Machine

/-- Channel 0, used and trained, is kept refreshed in TEST; it has two ranks and was polled in this very instant. -/
def justPolledState : State :=
  ((((inMode .test).wrFld Reg.TOP_USAGE 31 24 1).wrBit Reg.DRC_CFG 28 true).wrBit (Reg.DRCC_STATUS 0) 30 true).setDrc 0
    { coldDrc with polled := some 0 }

theorem justPolledState_refreshes : justPolledState.refreshes 0 = true ∧ justPolledState.ranks = 2 ∧
    justPolledState.rdBit (Reg.DRCC_STATUS 0) 29 = false ∧ justPolledState.pollDue 0 = false := by
  decide +kernel

/-- A poll that is not due changes nothing but the clock. -/
theorem exec_mr4Poll_of_early {s : State} {t c r0 r1 : Nat} (h : (s.at t).pollDue c = false) : exec (.mr4Poll t c r0 r1) s = .next (s.at t) := by
  change execMr4Poll t c r0 r1 s = _
  simp [execMr4Poll, h]

/-- Refutes O55: its clause on a reading of 4 does not ask that the poll is due. Polled again in the instant of the last poll, the channel does not
take the reading, and its refresh is not doubled. -/
theorem not_dram_is_refreshed_trained_and_calibrated : ¬ Obligations.dram_is_refreshed_trained_and_calibrated := by
  rintro ⟨-, -, -, -, hPoll, -⟩
  obtain ⟨hRefreshes, hRanks, hNormal, hEarly⟩ := justPolledState_refreshes
  obtain ⟨u, hNext, hDoubled, -⟩ := hPoll 0 0 4 4 justPolledState hRefreshes hRanks (by decide) (by decide) (by decide) (by decide) hNormal
  have hAt : justPolledState.at 0 = justPolledState := State.at_self _ (Nat.zero_le _)
  obtain rfl : justPolledState = u :=
    Host.Outcome.next.inj (((exec_mr4Poll_of_early (by rwa [hAt])).trans (congrArg _ hAt)).symm.trans hNext)
  exact Bool.false_ne_true (hNormal.symm.trans hDoubled)

end Sys2Proof.Machine
end

section
/-! PROOFS. The card port (R431): a BAR2 read that starts inside the management area and leaves it. -/
namespace Sys2Proof.Machine

/-- The card port's link is up, channel 0 is used, and the management area is the first MiB of DRAM. Its last byte is 0x5A. -/
def lastByteState : State :=
  ((((inMode .service).wrFld Reg.TOP_USAGE 31 24 1).wrFld Reg.CPT_MGMT_SIZE 10 0 1).setPcie { State.reset.pcie with linkUp := true }).setDram
    [(1048575, 0x5A)]

theorem lastByteState_card : lastByteState.pcie.linkUp = true ∧ lastByteState.pcie.d3hot = false ∧ lastByteState.mgmtSize = 1048576 ∧
    (lastByteState.rd Reg.CPT_CNT_BAR2_OUTSIDE).toNat + 1 < 4294967296 ∧ lastByteState.winRead (lastByteState.mgmtBase + 1048575) 1 = (lastByteState, [0x5A]) := by
  decide +kernel

/-- A read that leaves the management area returns the bytes inside it and zeros for the rest. -/
theorem exec_bar2Access_of_straddle {s : State} {t x n : Nat} (hAt : s.at t = s) (hUp : s.pcie.linkUp = true) (hOn : s.pcie.d3hot = false)
    (hBar : x < 1073741824) (hIn : x < s.mgmtSize) (hOut : s.mgmtSize < x + n) :
    exec (.bar2Access t x n false []) s = .next ((s.winRead (s.mgmtBase + x) (s.mgmtSize - x)).1.bar2Outside.emit
      (.readBytes x ((s.winRead (s.mgmtBase + x) (s.mgmtSize - x)).2 ++ List.replicate (n - (s.mgmtSize - x)) 0))) := by
  change execBar2Access t x n false [] s = _
  have hLong : ¬ n ≤ s.mgmtSize - x := by omega
  have hSome : s.mgmtSize - x ≠ 0 := by omega
  unfold execBar2Access
  simp only [hAt, hUp, hOn, hBar, hLong, hSome, Bool.not_true, Bool.or_self, Bool.false_or, decide_eq_true_eq, Nat.not_le_of_lt, if_false,
    Bool.false_eq_true]

/-- Refutes O57: its clause on a BAR2 read outside the management area claims zeros for the whole read. A read of two bytes that starts at the
area's last byte returns that byte first. -/
theorem not_card_port_resets_links_and_transfers : ¬ Obligations.card_port_resets_links_and_transfers := by
  rintro ⟨-, -, -, -, -, -, -, -, -, -, -, hOutside, -⟩
  obtain ⟨hUp, hOn, hSize, hCount, hByte⟩ := lastByteState_card
  obtain ⟨u, hNext, hZeros, -⟩ := hOutside 0 1048575 2 lastByteState hUp hOn (by decide) (by omega) hCount
  have hRead := exec_bar2Access_of_straddle (n := 2) (State.at_self _ (Nat.zero_le _)) hUp hOn (x := 1048575) (by decide) (by omega) (by omega)
  rw [hSize, hByte] at hRead
  obtain rfl := Host.Outcome.next.inj (hRead.symm.trans hNext)
  simp [State.emit] at hZeros

end Sys2Proof.Machine
end

section
/-! PROOFS. Completion timeouts (R428): the completion that arrives in the very instant is in time. -/
namespace Sys2Proof.Machine

/-- DMA is on. Channel 0 read host memory 10 ms ago, and its burst completes in this instant. -/
noncomputable def completedInTimeState : State :=
  (((((inMode .service).setNow 10000000).wrBit Reg.DMA_CTRL 31 true).setChan 0 { idleChan with st := .run, phase := .burst }).setCard
    { State.reset.card with outstanding := [(0, 0)] }).setPending [.dmaBurstComplete 10000000 0 0 []]

theorem completedInTimeState_waits : completedInTimeState.dmaOn = true ∧ Tab.find? completedInTimeState.card.outstanding 0 = some 0 ∧
    (completedInTimeState.chan 0).phase = .burst ∧ ctlBit (completedInTimeState.chan 0).control 29 = false ∧
    completedInTimeState.completionFalls 0 = true ∧ (completedInTimeState.chan 0).st = .run := by
  decide +kernel

/-- A completion of the same instant keeps the timeout from falling. -/
theorem exec_completionTimeout_of_completion {s : State} {t c : Nat} (hAt : s.at t = s) (h : s.completionFalls c = true) :
    exec (.completionTimeout t c) s = .next s := by
  change execCompletionTimeout t c s = _
  unfold execCompletionTimeout
  cases hFind : Tab.find? s.card.outstanding c with
  | none => simp only [hAt, hFind]
  | some v => simp only [hAt, hFind, h, Bool.true_eq_false, and_false, if_false]

/-- Refutes O59: its clause on COMPLETION_TIMEOUT does not ask that no completion arrives in the same instant. Where the channel's burst completes
10 ms after its read, the timeout stops no channel. -/
theorem not_dma_channels_run_stop_and_resume : ¬ Obligations.dma_channels_run_stop_and_resume := by
  rintro ⟨-, -, -, -, -, -, -, -, -, -, -, -, -, -, hTimeout, -⟩
  obtain ⟨hOn, hFind, hBurst, hNoIgnore, hFalls, hRun⟩ := completedInTimeState_waits
  obtain ⟨u, hNext, -, hStopped, -⟩ := hTimeout 10000000 0 completedInTimeState 0 (by decide) hOn hFind (Nat.le_max_right _ _) hBurst hNoIgnore
  have hStays := exec_completionTimeout_of_completion (State.at_self completedInTimeState (Nat.le_refl 10000000)) hFalls
  obtain rfl := Host.Outcome.next.inj (hStays.symm.trans hNext)
  exact absurd (hRun.symm.trans hStopped) (by decide)

end Sys2Proof.Machine
end

section
/-! PROOFS. Through ports (R360, R361): a scheduled launch of the partner in the very instant goes first. -/
namespace Sys2Proof.Machine

/-- Ports 0 and 1 are Ethernet ports of class THROUGH and partners; port 1 is up. A frame waits at port 0, and transmit context 0 launches on port 1
in this instant. -/
noncomputable def launchFirstState : State :=
  ((((((((((((inMode .service).wrFld (Reg.LAN_CFG 0) 31 28 3).wrFld (Reg.LAN_CFG 1) 31 28 3).wrFld (Reg.MAC_CFG 0) 31 30 3).wrFld (Reg.MAC_CFG 1) 31 30 3).wrFld
    (Reg.MAC_CFG 1) 29 16 1522).wrBit (Reg.MAC_STATUS 1) 31 true).wrBit (Reg.MED_THROUGH_PAIR 0) 31 true).wrFld (Reg.MED_THROUGH_PAIR 0) 9 0 1).wrBit
    (Reg.TXC_CFG 0) 31 true).wrFld (Reg.TXC_PATHS 0) 9 0 1).setMac 0 { coldMac with queue := [(0, List.replicate 64 0)] }).setPending
    [.launch 0 0 0 0 0 0]

theorem launchFirstState_waits : launchFirstState.portClass 0 = 3 ∧ launchFirstState.throughPartner 0 = some 1 ∧
    (launchFirstState.macRun 0).queue = [(0, List.replicate 64 0)] ∧ launchFirstState.portUp 1 = true ∧
    64 ≤ launchFirstState.rdFld (Reg.MAC_CFG 1) 29 16 ∧ launchFirstState.rdBit (Reg.MAC_STATUS 1) 27 = false ∧ launchFirstState.launchFalls 1 = true := by
  decide +kernel

/-- While a scheduled launch of the partner falls due, nothing is forwarded. -/
theorem exec_throughForward_of_launch {s : State} {t p q : Nat} {l : Option Nat} (hAt : s.at t = s) (hPartner : s.throughPartner p = some q)
    (h : s.launchFalls q = true) : exec (.throughForward t p l) s = .next s := by
  change execThroughForward t p l s = _
  unfold execThroughForward
  simp only [hAt, hPartner]
  split
  · rename_i hSome _
    rw [← Option.some.inj hSome, h, if_pos rfl]
  · rfl

/-- Refutes O52: its clauses on THROUGH_FORWARD do not ask that no scheduled launch of the partner falls in the same instant. Where one does, the
frame stays in the queue. -/
theorem not_ethernet_links_frames_and_pause : ¬ Obligations.ethernet_links_frames_and_pause := by
  rintro ⟨-, -, -, -, -, -, -, -, -, -, -, -, hForward, -⟩
  obtain ⟨hClass, hPartner, hQueue, hUp, hLen, hFree, hFalls⟩ := launchFirstState_waits
  obtain ⟨u, hNext, hGone, -⟩ := hForward 0 0 launchFirstState 1 0 (List.replicate 64 0) [] hClass hPartner hQueue (by decide) hUp hLen hFree
  have hStays := exec_throughForward_of_launch (l := none) (State.at_self launchFirstState (Nat.zero_le _)) hPartner hFalls
  obtain rfl := Host.Outcome.next.inj (hStays.symm.trans hNext)
  exact absurd (hQueue.symm.trans hGone) (by decide)

end Sys2Proof.Machine
end

section
/-! PROOFS. The announce timeout (R373, R381): an Announce of the very instant is in time. -/
namespace Sys2Proof.Machine

/-- PTP port 0 follows the master whose Announce it took at time 0. Ten seconds later, in this instant, the next Announce arrives. -/
noncomputable def announcedInTimeState : State :=
  ((((((inMode .service).setNow 10000000000).wrFld (Reg.LAN_CFG 0) 31 28 3).wrBit (Reg.PTPP_CFG 0) 31 true).wrFld (Reg.PTPP_STATE 0) 27 24 9).setPtp
    { State.reset.ptp with best := [(0, (⟨128, 6, 0x21, 0, 128, 1, 1, 1⟩, 0))] }).setPending
    [.announceReceive 10000000000 0 ⟨State.reset.rdFld Reg.PTP_CFG 7 0, 2, 128, 6, 0x21, 0, 128, 1, 0, 1⟩]

theorem announcedInTimeState_follows :
    Tab.find? announcedInTimeState.ptp.best 0 = some (⟨128, 6, 0x21, 0, 128, 1, 1, 1⟩, 0) ∧
    announcedInTimeState.rdFld Reg.PTP_INTERVALS 3 0 * logNs (toSigned 8 (announcedInTimeState.rdFld Reg.PTP_INTERVALS 23 16)) ≤ 10000000000 ∧
    announcedInTimeState.ptpPort 0 = 9 := by
  decide +kernel

theorem announcedInTimeState_announceFalls : announcedInTimeState.announceFalls 0 = true := by
  decide +kernel

/-- An Announce that the port takes in the same instant keeps the timeout from falling. -/
theorem exec_announceTimeout_of_announce {s : State} {t k : Nat} (hAt : s.at t = s) (h : s.announceFalls k = true) :
    exec (.announceTimeout t k) s = .next s := by
  change execAnnounceTimeout t k s = _
  unfold execAnnounceTimeout
  simp only [hAt, h, if_true]

/-- Refutes O54: its clause on ANNOUNCE_TIMEOUT of the slave port does not ask that no Announce arrives in the same instant. Where one does, the
port keeps its master. -/
theorem not_device_time_ptp_and_pps : ¬ Obligations.device_time_ptp_and_pps := by
  rintro ⟨-, -, -, -, hTimeout, -⟩
  obtain ⟨hBest, hLimit, hSlave⟩ := announcedInTimeState_follows
  obtain ⟨u, hNext, hForgotten, -⟩ := hTimeout 10000000000 0 announcedInTimeState _ 0 hBest
    ((Nat.zero_add _).trans_le (hLimit.trans (Nat.le_max_right _ _))) hSlave
  have hStays := exec_announceTimeout_of_announce (State.at_self announcedInTimeState (Nat.le_refl 10000000000)) announcedInTimeState_announceFalls
  obtain rfl := Host.Outcome.next.inj (hStays.symm.trans hNext)
  exact absurd (hBest.symm.trans hForgotten) (by simp)

end Sys2Proof.Machine
end

section
/-! PROOFS. SDI ports (R314, R315, R317): what an input's loss and return leave alone, the check of a line, readiness. -/
namespace Sys2Proof.Machine

variable {s s₀ u : State} {t l : Nat}

/-! An input is lost or comes back (R75, R117, R177). Neither writes a register above the card port's pages, nor the run of a port or of a context. -/

/-- `t` has what `s` has outside the crosspoint's state, the streams, the audio inputs and the lower register pages. -/
structure KeepsIntake (s t : State) : Prop where
  pins : t.pins = s.pins
  ctl : t.ctl = s.ctl
  cfg : t.cfg = s.cfg
  dram : t.dram = s.dram
  sdi : t.sdi = s.sdi
  med : t.med = s.med
  win : t.win = s.win
  rd : ∀ a, 0x120000 ≤ a → t.rd a = s.rd a

theorem KeepsIntake.refl (s : State) : KeepsIntake s s := ⟨rfl, rfl, rfl, rfl, rfl, rfl, rfl, fun _ _ => rfl⟩

theorem KeepsIntake.ite {c : Prop} {inst : Decidable c} {t u : State} (h : KeepsIntake s₀ t) (k : KeepsIntake s₀ u) :
    KeepsIntake s₀ (if c then t else u) := by
  split
  · exact h
  · exact k

theorem KeepsIntake.foldl {β : Type} {l : List β} {f : State → β → State} (h : KeepsIntake s₀ s)
    (hf : ∀ t b, KeepsIntake s₀ t → KeepsIntake s₀ (f t b)) : KeepsIntake s₀ (l.foldl f s) := by
  induction l generalizing s with
  | nil => exact h
  | cons b l ih => exact ih (hf s b h)

theorem KeepsIntake.setTwn {x : TwinState} (h : KeepsIntake s₀ s) : KeepsIntake s₀ (s.setTwn x) := ⟨h.1, h.2, h.3, h.4, h.5, h.6, h.7, h.8⟩
theorem KeepsIntake.setXpt {x : XptState} (h : KeepsIntake s₀ s) : KeepsIntake s₀ (s.setXpt x) := ⟨h.1, h.2, h.3, h.4, h.5, h.6, h.7, h.8⟩
theorem KeepsIntake.setAud {x : AudState} (h : KeepsIntake s₀ s) : KeepsIntake s₀ (s.setAud x) := ⟨h.1, h.2, h.3, h.4, h.5, h.6, h.7, h.8⟩
theorem KeepsIntake.setStream {i : Nat} {x : StreamRun} (h : KeepsIntake s₀ s) : KeepsIntake s₀ (s.setStream i x) :=
  ⟨h.1, h.2, h.3, h.4, h.5, h.6, h.7, h.8⟩
theorem KeepsIntake.emit {o : Output} (h : KeepsIntake s₀ s) : KeepsIntake s₀ (s.emit o) := ⟨h.1, h.2, h.3, h.4, h.5, h.6, h.7, h.8⟩
theorem KeepsIntake.raise {a b c d : Nat} (h : KeepsIntake s₀ s) : KeepsIntake s₀ (s.raise a b c d) := ⟨h.1, h.2, h.3, h.4, h.5, h.6, h.7, h.8⟩

theorem KeepsIntake.bump {off : Nat} (hOff : off < 0x120000) (h : KeepsIntake s₀ s) : KeepsIntake s₀ (s.bump off) where
  pins := by simpa using h.pins
  ctl := by simpa using h.ctl
  cfg := by simpa using h.cfg
  dram := by simpa using h.dram
  sdi := by simpa using h.sdi
  med := by simpa using h.med
  win := by simpa using h.win
  rd a ha := (State.rd_bump_ne s (by omega)).trans (h.rd a ha)

theorem KeepsIntake.xptEvent {i : Nat} (h : KeepsIntake s₀ s) : KeepsIntake s₀ (s.xptEvent i) where
  pins := by simpa using h.pins
  ctl := by simpa using h.ctl
  cfg := by simpa using h.cfg
  dram := by simpa using h.dram
  sdi := by simpa using h.sdi
  med := by simpa using h.med
  win := by simpa using h.win
  rd a ha := (State.rd_event_ne s _ 7 a _ (by simp; omega) (by simp; omega)).trans (h.rd a ha)

theorem KeepsIntake.deal {bs : List Block66} (h : KeepsIntake s₀ s) : KeepsIntake s₀ (s.deal bs) := .ite h h.setTwn

theorem KeepsIntake.transmitWall {f : WallFrag} (h : KeepsIntake s₀ s) : KeepsIntake s₀ (s.transmitWall f) := by
  unfold State.transmitWall
  extract_lets
  split
  · exact h.setTwn.deal.emit
  · exact h.setTwn.deal

theorem KeepsIntake.drainWall {n : Nat} (h : KeepsIntake s₀ s) : KeepsIntake s₀ (s.drainWall n) := by
  induction n generalizing s with
  | zero => exact h
  | succ n ih =>
    unfold State.drainWall
    split
    · exact h
    · exact .ite (ih h.setTwn.transmitWall) h

theorem KeepsIntake.sendWall {m : WallMsg} (h : KeepsIntake s₀ s) : KeepsIntake s₀ (s.sendWall m) :=
  h.setTwn.foldl fun _ _ h => h.setTwn.drainWall

theorem KeepsIntake.leaveWindow {d frame line : Nat} (h : KeepsIntake s₀ s) : KeepsIntake s₀ (s.leaveWindow d frame line) :=
  have hLost : KeepsIntake s₀ (s.windowLost d frame line) := .ite h (h.setXpt.xptEvent.bump (by decide)).raise
  .ite h (.ite hLost.sendWall hLost)

theorem KeepsIntake.sourceLost {src : Nat} (h : KeepsIntake s₀ s) : KeepsIntake s₀ (s.sourceLost src) := by
  unfold State.sourceLost
  split
  · exact h
  · exact .ite h.setStream (h.setXpt.foldl fun _ _ h => h.leaveWindow)

theorem KeepsIntake.sourceReady {src : Nat} (h : KeepsIntake s₀ s) : KeepsIntake s₀ (s.sourceReady src) := by
  unfold State.sourceReady
  split
  · exact h
  · exact .ite h.setStream h

theorem KeepsIntake.inputLost {x : Input} (h : KeepsIntake s₀ s) : KeepsIntake s₀ (s.inputLost x) := h.foldl fun _ _ h => h.sourceLost
theorem KeepsIntake.inputReady {x : Input} (h : KeepsIntake s₀ s) : KeepsIntake s₀ (s.inputReady x) := h.foldl fun _ _ h => h.sourceReady
theorem KeepsIntake.audioLost {i : Nat} (h : KeepsIntake s₀ s) : KeepsIntake s₀ (s.audioLost i) := .ite h h.setTwn.setAud
theorem KeepsIntake.audioBack {i : Nat} (h : KeepsIntake s₀ s) : KeepsIntake s₀ (s.audioBack i) := .ite h.setTwn.setAud h

end Sys2Proof.Machine
end

section
/-! PROOFS. SDI ports (R311–R318, R323): the check of a line, readiness, and paired copies. -/
namespace Sys2Proof.Machine

variable {s u : State} {t l : Nat}

/-! What a port reads is the same at a later instant. -/

@[simp] theorem State.pers_at (s : State) (t i : Nat) : (s.at t).pers i = s.pers i := by simp [State.pers]
@[simp] theorem State.isSdi_at (s : State) (t i : Nat) : (s.at t).isSdi i = s.isSdi i := by simp [State.isSdi]
@[simp] theorem State.rxLead_at (s : State) (t i : Nat) : (s.at t).rxLead i = s.rxLead i := by simp [State.rxLead]
@[simp] theorem State.rxLanes_at (s : State) (t i : Nat) : (s.at t).rxLanes i = s.rxLanes i := by simp [State.rxLanes]
@[simp] theorem State.sdiPort_at (s : State) (t l : Nat) : (s.at t).sdiPort l = s.sdiPort l := by simp [State.sdiPort, State.lanePresent]
@[simp] theorem State.sdiIsReady_at (s : State) (t l : Nat) : (s.at t).sdiIsReady l = s.sdiIsReady l := by simp [State.sdiIsReady]
@[simp] theorem State.sdiRun_at (s : State) (t l : Nat) : (s.at t).sdiRun l = s.sdiRun l := by simp [State.sdiRun]
@[simp] theorem State.sdiExpected_at (s : State) (t l : Nat) : (s.at t).sdiExpected l = s.sdiExpected l := by simp [State.sdiExpected]
@[simp] theorem State.sourcesOf_at (s : State) (t : Nat) (x : Input) : (s.at t).sourcesOf x = s.sourcesOf x := by simp [State.sourcesOf]
@[simp] theorem State.lossHolds_at (s : State) (t l cause : Nat) : (s.at t).lossHolds l cause = s.lossHolds l cause := by simp [State.lossHolds]

/-- A port's lane is one of the first 1,024. -/
theorem State.lt_of_sdiPort (h : s.sdiPort l = true) : l < 1024 := by
  simp only [State.sdiPort, Bool.and_eq_true, decide_eq_true_eq] at h
  exact h.1.1.1.1

theorem State.rd_sdiEvent_ne {i a : Nat} (hEvent : a ≠ Reg.SDI_EVENT l) (hPending : a ≠ Reg.MSIX_PENDING 0) : (s.sdiEvent l i).rd a = s.rd a :=
  State.rd_event_ne s _ 14 a _ hEvent hPending

theorem State.rdBit_sdiEvent_same {i : Nat} (hi : i < 32) : (s.sdiEvent l i).rdBit (Reg.SDI_EVENT l) i = true :=
  State.rdBit_event_same s _ 14 i (by simp; omega) hi

@[simp] theorem State.sdiRun_setSdi_same (s : State) (l : Nat) (x : SdiRun) : (s.setSdi l x).sdiRun l = x := by simp [State.sdiRun, State.setSdi]

@[simp] theorem State.rd_setSdi (s : State) (l : Nat) (x : SdiRun) (a : Nat) : (s.setSdi l x).rd a = s.rd a := State.rd_congr rfl a

@[simp] theorem State.sdiIsReady_setSdi (s : State) (l : Nat) (x : SdiRun) (k : Nat) : (s.setSdi l x).sdiIsReady k = s.sdiIsReady k :=
  State.rdBit_congr (State.rd_setSdi s l x _)

/-! A ready port is lost (R315). -/

/-- A port out of ready: its count, its event, and the counter of its time stamps forgotten. -/
def State.sdiDown (s : State) (l : Nat) : State :=
  let a := ((s.wrBit (Reg.SDI_STATUS l) 31 false).bump (Reg.SDI_CNT_LOSS l)).sdiEvent l 0
  a.setSdi l { a.sdiRun l with lastCount := none }

/-- What follows a port's loss is the loss of what it feeds. -/
theorem State.sdiLose_of_ready (h : s.sdiIsReady l = true) : KeepsIntake (s.sdiDown l) (s.sdiLose l) := by
  have hDown : KeepsIntake (s.sdiDown l) ((s.sdiDown l).audioLost l) := (KeepsIntake.refl _).audioLost
  unfold State.sdiLose
  rw [if_pos h]
  change KeepsIntake (s.sdiDown l) (match ((s.sdiDown l).audioLost l).pairPartner l with | some p => _ | none => _)
  split
  · exact .ite (hDown.foldl fun _ _ h => h.setStream) (hDown.foldl fun _ _ h => h.setStream).inputLost
  · exact hDown.inputLost

theorem State.sdiDown_frame (s : State) (l : Nat) : (s.sdiDown l).ctl = s.ctl ∧ (s.sdiDown l).pins = s.pins ∧ (s.sdiDown l).cfg = s.cfg ∧
    (s.sdiDown l).dram = s.dram ∧ (s.sdiDown l).win = s.win ∧ ((s.sdiDown l).sdiRun l).bad = (s.sdiRun l).bad := by
  simp [State.sdiDown, State.setSdi, State.sdiRun]

theorem State.rd_sdiDown {r : Nat} (hLow : 0x120000 ≤ r) (hEvent : r ≠ Reg.SDI_EVENT l) :
    (s.sdiDown l).rd r = ((s.wrBit (Reg.SDI_STATUS l) 31 false).bump (Reg.SDI_CNT_LOSS l)).rd r :=
  State.rd_sdiEvent_ne (s := (s.wrBit (Reg.SDI_STATUS l) 31 false).bump (Reg.SDI_CNT_LOSS l)) (i := 0) hEvent (by simp; omega)

theorem State.sdiDown_regs (s : State) (l : Nat) : (s.sdiDown l).sdiIsReady l = false ∧ (s.sdiDown l).rdBit (Reg.SDI_EVENT l) 0 = true ∧
    ∀ i, i ≠ 31 → (s.sdiDown l).rdBit (Reg.SDI_STATUS l) i = s.rdBit (Reg.SDI_STATUS l) i := by
  have hStatus : (s.sdiDown l).rd (Reg.SDI_STATUS l) = (s.wrBit (Reg.SDI_STATUS l) 31 false).rd (Reg.SDI_STATUS l) :=
    (State.rd_sdiDown (by simp; omega) (by simp)).trans (State.rd_bump_ne _ (by simp))
  refine ⟨?_, State.rdBit_sdiEvent_same (s := (s.wrBit (Reg.SDI_STATUS l) 31 false).bump (Reg.SDI_CNT_LOSS l)) (by decide), fun i hi => ?_⟩
  · rw [State.sdiIsReady, State.rdBit_congr hStatus, State.rdBit_wrBit _ (by decide)]
  · rw [State.rdBit_congr hStatus, State.rdBit_wrBit_beside _ (by decide) hi]

theorem State.rd_sdiDown_loss (hCount : (s.rd (Reg.SDI_CNT_LOSS l)).toNat + 1 < 4294967296) :
    (s.sdiDown l).rd (Reg.SDI_CNT_LOSS l) = BitVec.ofNat 32 ((s.rd (Reg.SDI_CNT_LOSS l)).toNat + 1) := by
  have hLoss : (s.wrBit (Reg.SDI_STATUS l) 31 false).rd (Reg.SDI_CNT_LOSS l) = s.rd (Reg.SDI_CNT_LOSS l) := State.rd_wrBit_ne _ _ _ (by simp)
  rw [State.rd_sdiDown (by simp; omega) (by simp), State.rd_bump_same _ _ (by rwa [hLoss]), hLoss]

/-- A port that is lost is not ready. -/
theorem State.sdiLose_plant (s : State) (l : Nat) : (s.sdiLose l).sdiIsReady l = false ∧ (s.sdiLose l).ctl = s.ctl ∧ (s.sdiLose l).pins = s.pins ∧
    (s.sdiLose l).cfg = s.cfg ∧ (s.sdiLose l).dram = s.dram := by
  cases hReady : s.sdiIsReady l with
  | false => simp [State.sdiLose, hReady]
  | true =>
    have hKeeps := State.sdiLose_of_ready hReady
    obtain ⟨hCtl, hPins, hCfg, hDram, -, -⟩ := s.sdiDown_frame l
    exact ⟨(State.rdBit_congr (hKeeps.rd _ (by simp; omega))).trans (s.sdiDown_regs l).1, hKeeps.ctl.trans hCtl, hKeeps.pins.trans hPins,
      hKeeps.cfg.trans hCfg, hKeeps.dram.trans hDram⟩

/-- A ready port that is lost is counted and has its event; its run and the rest of its status stay. -/
theorem State.sdiLose_port (h : s.sdiIsReady l = true) (hCount : (s.rd (Reg.SDI_CNT_LOSS l)).toNat + 1 < 4294967296) :
    (s.sdiLose l).rd (Reg.SDI_CNT_LOSS l) = BitVec.ofNat 32 ((s.rd (Reg.SDI_CNT_LOSS l)).toNat + 1) ∧
    (s.sdiLose l).rdBit (Reg.SDI_EVENT l) 0 = true ∧ (∀ i, i ≠ 31 → (s.sdiLose l).rdBit (Reg.SDI_STATUS l) i = s.rdBit (Reg.SDI_STATUS l) i) ∧
    ((s.sdiLose l).sdiRun l).bad = (s.sdiRun l).bad ∧ (s.sdiLose l).win = s.win := by
  have hKeeps := State.sdiLose_of_ready h
  obtain ⟨-, hEvent, hStatus⟩ := s.sdiDown_regs l
  obtain ⟨-, -, -, -, hWin, hBad⟩ := s.sdiDown_frame l
  have hSdi : (s.sdiLose l).sdiRun l = (s.sdiDown l).sdiRun l := congrArg (Tab.get coldSdi · l) hKeeps.sdi
  refine ⟨(hKeeps.rd _ (by simp; omega)).trans (State.rd_sdiDown_loss hCount), ?_, fun i hi => ?_, (congrArg SdiRun.bad hSdi).trans hBad,
    hKeeps.win.trans hWin⟩
  · exact (State.rdBit_congr (hKeeps.rd _ (by simp; omega))).trans hEvent
  · exact (State.rdBit_congr (hKeeps.rd _ (by simp; omega))).trans (hStatus i hi)

/-! The check of a line (R317, R318). -/

/-- Does a line take its port out of ready? -/
def lineWrong (ln : SdiLine) : Bool := ln.lnBad || ln.trsBad || ln.lengthBad

/-- The CRCs of a line, from those its port has run up. -/
def State.lineCrcs (s : State) (l : Nat) (ln : SdiLine) : Bool × List Nat := checkCrc (s.sdiExpected l) (s.sdiRun l).lineCrc ln.line ln.words

/-- Has a line a CRC error: found before it came, or by its port? -/
def State.crcWrong (s : State) (l : Nat) (ln : SdiLine) : Bool := ln.crcBad || (s.lineCrcs l ln).1

/-- A port's run as a line finds it: line 1 begins anew. -/
def State.runAtLine (s : State) (l : Nat) (ln : SdiLine) : SdiRun :=
  if ln.line = 1 then { s.sdiRun l with bad := false, crcLines := 0 } else s.sdiRun l

/-- A port's run after a line. -/
def State.runAfterLine (s : State) (l : Nat) (ln : SdiLine) : SdiRun :=
  { s.runAtLine l ln with
    bad := (s.runAtLine l ln).bad || lineWrong ln, crcLines := (s.runAtLine l ln).crcLines + b2n (s.crcWrong l ln)
    lineCrc := if lineWrong ln then [] else (s.lineCrcs l ln).2 }

/-- A line's CRC error is counted; the first of a frame is an event. -/
def State.crcCounted (s : State) (l : Nat) (ln : SdiLine) : State :=
  let s1 := s.setSdi l (s.runAfterLine l ln)
  if s.crcWrong l ln then
    (let a := s1.bump (Reg.SDI_CNT_CRC l); if (s.runAtLine l ln).crcLines = 0 then a.sdiEvent l 4 else a) else s1

/-- A line's errors are counted. -/
def State.lineCounted (s : State) (l : Nat) (ln : SdiLine) : State :=
  let s3 := if ln.lnBad then (s.crcCounted l ln).bump (Reg.SDI_CNT_LN_ERR l) else s.crcCounted l ln
  if ln.trsCorrected then s3.bump (Reg.SDI_CNT_TRS_ERR l) else s3

theorem exec_sdiLine_of_wrong {ln : SdiLine} (hPort : s.sdiPort l = true) (h : lineWrong ln = true) :
    exec (.sdiLine t l ln) s = .next (((s.at t).lineCounted l ln).sdiLose l) := by
  have hAt : (s.at t).sdiPort l = true := by rwa [State.sdiPort_at]
  change execSdiLine t l ln s = _
  unfold execSdiLine
  generalize s.at t = a at hAt
  exact (if_neg (by simp [hAt])).trans (if_pos h)

/-- What a line of a ready port feeds: the audio of the port, then each source. -/
def State.lineFeeds (s : State) (l : Nat) (ln : SdiLine) : State :=
  let f := s.sdiExpected l
  let packets := lineAnc f ln.line ln.words
  let extracts := (s.sourcesOf (.sdi l)).any fun src => match Tab.find? s.cfg.srcs src with
    | some c => c.synced
    | none => false
  (s.sourcesOf (.sdi l)).foldl (fun a src => a.feedLine l ln src)
    ((if extracts then s.bumpBy (Reg.SDI_CNT_ANC_CSUM l) (packets.countP fun p => p.bad) else s).deembed l f packets)

theorem exec_sdiLine_of_right {ln : SdiLine} (hPort : s.sdiPort l = true) (h : lineWrong ln = false) : exec (.sdiLine t l ln) s =
    .next (if ((s.at t).lineCounted l ln).sdiIsReady l then ((s.at t).lineCounted l ln).lineFeeds l ln else (s.at t).lineCounted l ln) := by
  have hAt : (s.at t).sdiPort l = true := by rwa [State.sdiPort_at]
  change execSdiLine t l ln s = _
  unfold execSdiLine
  generalize s.at t = a at hAt
  have hRight : ¬ lineWrong ln = true := by simp [h]
  exact (if_neg (by simp [hAt])).trans ((if_neg hRight).trans (apply_ite Host.Outcome.next _ _ _).symm)

theorem State.crcCounted_of_right {ln : SdiLine} (h : s.crcWrong l ln = false) : s.crcCounted l ln = s.setSdi l (s.runAfterLine l ln) := by
  simp [State.crcCounted, h]

theorem State.lineCounted_of_right {ln : SdiLine} (hLn : ln.lnBad = false) (hTrs : ln.trsCorrected = false) :
    s.lineCounted l ln = s.crcCounted l ln := by
  simp [State.lineCounted, hLn, hTrs]

theorem State.crcCounted_frame (s : State) (l : Nat) (ln : SdiLine) : (s.crcCounted l ln).sdi = (s.setSdi l (s.runAfterLine l ln)).sdi ∧
    (s.crcCounted l ln).win = s.win ∧ (s.crcCounted l ln).rows = s.rows ∧ (s.crcCounted l ln).ctl = s.ctl ∧ (s.crcCounted l ln).pins = s.pins ∧
    (s.crcCounted l ln).cfg = s.cfg ∧ (s.crcCounted l ln).dram = s.dram := by
  unfold State.crcCounted
  extract_lets s1 a
  split
  · split <;> simp [a, s1, State.setSdi]
  · simp [s1, State.setSdi]

theorem State.rd_crcCounted {ln : SdiLine} {a : Nat} (hCrc : a ≠ Reg.SDI_CNT_CRC l) (hEvent : a ≠ Reg.SDI_EVENT l) (hPending : a ≠ Reg.MSIX_PENDING 0) :
    (s.crcCounted l ln).rd a = s.rd a := by
  have hBump : ((s.setSdi l (s.runAfterLine l ln)).bump (Reg.SDI_CNT_CRC l)).rd a = s.rd a := State.rd_bump_ne _ hCrc
  unfold State.crcCounted
  extract_lets s1 b
  split
  · split
    · exact (State.rd_sdiEvent_ne hEvent hPending).trans hBump
    · exact hBump
  · rfl

theorem State.lineCounted_frame (s : State) (l : Nat) (ln : SdiLine) : (s.lineCounted l ln).sdiRun l = s.runAfterLine l ln ∧
    (s.lineCounted l ln).win = s.win ∧ (s.lineCounted l ln).rows = s.rows ∧ (s.lineCounted l ln).ctl = s.ctl ∧ (s.lineCounted l ln).pins = s.pins ∧
    (s.lineCounted l ln).cfg = s.cfg ∧ (s.lineCounted l ln).dram = s.dram := by
  obtain ⟨hSdi, hRest⟩ := s.crcCounted_frame l ln
  have hRun : (s.crcCounted l ln).sdiRun l = s.runAfterLine l ln := by
    rw [State.sdiRun, hSdi]
    exact State.sdiRun_setSdi_same s l _
  unfold State.lineCounted
  extract_lets s3
  have h3 : s3.sdiRun l = s.runAfterLine l ln ∧ s3.win = s.win ∧ s3.rows = s.rows ∧ s3.ctl = s.ctl ∧ s3.pins = s.pins ∧ s3.cfg = s.cfg ∧
      s3.dram = s.dram := by
    unfold s3
    split
    · simpa [State.sdiRun] using And.intro hRun hRest
    · exact ⟨hRun, hRest⟩
  split
  · simpa [State.sdiRun] using h3
  · exact h3

theorem State.rd_lineCounted {ln : SdiLine} {a : Nat} (hCrc : a ≠ Reg.SDI_CNT_CRC l) (hEvent : a ≠ Reg.SDI_EVENT l) (hLn : a ≠ Reg.SDI_CNT_LN_ERR l)
    (hTrs : a ≠ Reg.SDI_CNT_TRS_ERR l) (hPending : a ≠ Reg.MSIX_PENDING 0) : (s.lineCounted l ln).rd a = s.rd a := by
  have hCounted : (s.crcCounted l ln).rd a = s.rd a := State.rd_crcCounted hCrc hEvent hPending
  unfold State.lineCounted
  extract_lets s3
  have h3 : s3.rd a = s.rd a := by
    unfold s3
    split
    · exact (State.rd_bump_ne _ hLn).trans hCounted
    · exact hCounted
  split
  · exact (State.rd_bump_ne _ hTrs).trans h3
  · exact h3

/-- The CRC count of a line with a CRC error. -/
theorem State.rd_crcCounted_of_wrong {ln : SdiLine} (h : s.crcWrong l ln = true) (hCount : (s.rd (Reg.SDI_CNT_CRC l)).toNat + 1 < 4294967296) :
    (s.crcCounted l ln).rd (Reg.SDI_CNT_CRC l) = BitVec.ofNat 32 ((s.rd (Reg.SDI_CNT_CRC l)).toNat + 1) := by
  have hBump : ((s.setSdi l (s.runAfterLine l ln)).bump (Reg.SDI_CNT_CRC l)).rd (Reg.SDI_CNT_CRC l) =
      BitVec.ofNat 32 ((s.rd (Reg.SDI_CNT_CRC l)).toNat + 1) := State.rd_bump_same _ _ hCount
  unfold State.crcCounted
  extract_lets s1 b
  rw [if_pos h]
  split
  · exact (State.rd_sdiEvent_ne (by simp) (by simp; omega)).trans hBump
  · exact hBump

/-! What a line feeds. -/

/-- The samples of a line reach audio inputs and audio ports alone. -/
theorem State.deembed_eq (s : State) (l : Nat) (f : VFormat) (ps : List AncPacket) : s.deembed l f ps = s.setAud (s.deembed l f ps).aud := by
  have hFold {β : Type} (f : State → β → State) (hf : ∀ v b, f v b = v.setAud (f v b).aud) (xs : List β) (v : State) :
      xs.foldl f v = v.setAud (xs.foldl f v).aud := by
    induction xs generalizing v with
    | nil => rfl
    | cons x xs ih =>
      rw [List.foldl_cons, ih, hf v x]
      rfl
  have hPush (v : State) (i c : Nat) (x : Samp) : v.pushAudio i c x = v.setAud (v.pushAudio i c x).aud := by
    refine (hFold _ (fun _ _ => rfl) _ _).trans ?_
    change (ite _ _ _ : State).setAud (v.pushAudio i c x).aud = _
    split <;> rfl
  refine hFold _ (fun v p => ?_) _ _
  split
  · rfl
  · exact hFold _ (fun _ _ => hPush _ _ _ _) _ _

/-- A line of one source on the line exchange: the line, and its picture rows. -/
theorem State.feedLine_of_exchanged {ln : SdiLine} {x : Nat} {c : SrcCfg} (hFind : Tab.find? s.cfg.srcs x = some c) (hSynced : c.synced = false) :
    s.feedLine l ln x = (s.setWin (Tab.put noLine s.win (lineKey x ln.line) ln)).setRows
      ((lineRows c.fmt ln.line ln.words).foldl (fun r e => Tab.put [] r (lineKey x e.1) e.2) s.rows) := by
  have hFold (xs : List (Nat × List Nat)) (v : State) : xs.foldl (fun a r => a.keepRow x r.1 r.2) v =
      v.setRows (xs.foldl (fun r e => Tab.put [] r (lineKey x e.1) e.2) v.rows) := by
    induction xs generalizing v with
    | nil => rfl
    | cons y ys ih => exact ih _
  simp only [State.feedLine, hFind, hSynced]
  exact hFold _ _

/-- A port without a source feeds audio alone. -/
theorem State.lineFeeds_of_none {ln : SdiLine} (h : s.sourcesOf (.sdi l) = []) : ∃ y, s.lineFeeds l ln = s.setAud y := by
  unfold State.lineFeeds
  simp only [h, List.any_nil, Bool.false_eq_true, if_false, List.foldl_nil]
  exact ⟨_, s.deembed_eq l _ _⟩

/-- A port with one source, on the line exchange, feeds audio and that source. -/
theorem State.lineFeeds_of_exchanged {ln : SdiLine} {x : Nat} {c : SrcCfg} (h : s.sourcesOf (.sdi l) = [x]) (hFind : Tab.find? s.cfg.srcs x = some c)
    (hSynced : c.synced = false) : ∃ y, s.lineFeeds l ln = ((s.setAud y).setWin (Tab.put noLine s.win (lineKey x ln.line) ln)).setRows
      ((lineRows c.fmt ln.line ln.words).foldl (fun r e => Tab.put [] r (lineKey x e.1) e.2) s.rows) := by
  unfold State.lineFeeds
  simp only [h, List.any_cons, List.any_nil, hFind, hSynced, Bool.or_self, Bool.false_eq_true, if_false, List.foldl_cons, List.foldl_nil]
  refine ⟨(s.deembed l (s.sdiExpected l) (lineAnc (s.sdiExpected l) ln.line ln.words)).aud, ?_⟩
  rw [State.deembed_eq]
  exact State.feedLine_of_exchanged (s := s.setAud _) hFind hSynced

theorem State.sourcesOf_congr {x : Input} (h : u.cfg = s.cfg) : u.sourcesOf x = s.sourcesOf x := by simp only [State.sourcesOf, h]

/-- A right line of a port without a source is counted, and feeds at most audio. -/
theorem exec_sdiLine_of_unfed {ln : SdiLine} (hPort : s.sdiPort l = true) (h : lineWrong ln = false) (hLn : ln.lnBad = false)
    (hTrs : ln.trsCorrected = false) (hNone : s.sourcesOf (.sdi l) = []) :
    ∃ y, exec (.sdiLine t l ln) s = .next (((s.at t).crcCounted l ln).setAud y) := by
  rw [exec_sdiLine_of_right hPort h, State.lineCounted_of_right hLn hTrs]
  obtain ⟨-, -, -, -, -, hCfg, -⟩ := (s.at t).crcCounted_frame l ln
  have hNone' : ((s.at t).crcCounted l ln).sourcesOf (.sdi l) = [] := by rw [State.sourcesOf_congr hCfg, State.sourcesOf_at, hNone]
  generalize (s.at t).crcCounted l ln = a at hNone' ⊢
  split
  · obtain ⟨y, hFed⟩ := State.lineFeeds_of_none (ln := ln) hNone'
    exact ⟨y, congrArg _ hFed⟩
  · exact ⟨a.aud, rfl⟩

/-- A good line of a ready port with one source, on the line exchange. -/
theorem exec_sdiLine_of_exchanged {ln : SdiLine} {x : Nat} {c : SrcCfg} (hPort : s.sdiPort l = true) (hReady : s.sdiIsReady l = true)
    (h : lineWrong ln = false) (hLn : ln.lnBad = false) (hTrs : ln.trsCorrected = false) (hCrc : s.crcWrong l ln = false)
    (hOne : s.sourcesOf (.sdi l) = [x]) (hFind : Tab.find? s.cfg.srcs x = some c) (hSynced : c.synced = false) :
    ∃ u, exec (.sdiLine t l ln) s = .next u ∧ u.win = Tab.put noLine s.win (lineKey x ln.line) ln ∧
    u.rows = (lineRows c.fmt ln.line ln.words).foldl (fun r e => Tab.put [] r (lineKey x e.1) e.2) s.rows ∧ u.regs = s.regs ∧ u.ctl = s.ctl ∧
    u.pins = s.pins ∧ u.cfg = s.cfg ∧ u.dram = s.dram := by
  have hCrc' : (s.at t).crcWrong l ln = false := by simpa [State.crcWrong, State.lineCrcs] using hCrc
  rw [exec_sdiLine_of_right hPort h, State.lineCounted_of_right hLn hTrs, State.crcCounted_of_right hCrc']
  have hReady' : (s.at t).sdiIsReady l = true := by simpa using hReady
  have hOne' : (s.at t).sourcesOf (.sdi l) = [x] := by simpa using hOne
  have hFind' : Tab.find? (s.at t).cfg.srcs x = some c := by simpa using hFind
  rw [← State.at_win s t, ← State.at_rows s t, ← State.at_regs s t, ← State.at_ctl s t, ← State.at_pins s t, ← State.at_cfg s t, ← State.at_dram s t]
  generalize (s.at t).runAfterLine l ln = r
  generalize s.at t = a at *
  obtain ⟨y, hFed⟩ := State.lineFeeds_of_exchanged (s := a.setSdi l r) (l := l) (ln := ln) hOne' hFind' hSynced
  rw [State.sdiIsReady_setSdi, if_pos hReady', hFed]
  refine ⟨_, rfl, ?_⟩
  simp [State.setSdi]

end Sys2Proof.Machine
end

section
/-! PROOFS. SDI ports (R312–R316, R322, R323): the measurements of a frame, readiness, and the copies of a paired input. -/
namespace Sys2Proof.Machine

variable {s s₀ u : State} {t l : Nat}

/-! What the counts, events and measurements of a port leave alone. -/

/-- `t` has the pins, the mode and role, the image, the DRAM and the crosspoint's state of `s`. -/
structure KeepsPlant (s t : State) : Prop where
  pins : t.pins = s.pins
  ctl : t.ctl = s.ctl
  cfg : t.cfg = s.cfg
  dram : t.dram = s.dram
  xpt : t.xpt = s.xpt

theorem KeepsPlant.refl (s : State) : KeepsPlant s s := ⟨rfl, rfl, rfl, rfl, rfl⟩

theorem KeepsPlant.at (s : State) (t : Nat) : KeepsPlant s (s.at t) := ⟨by simp, by simp, by simp, by simp, by simp⟩

theorem KeepsPlant.ite {c : Prop} {inst : Decidable c} {t u : State} (h : KeepsPlant s₀ t) (k : KeepsPlant s₀ u) :
    KeepsPlant s₀ (if c then t else u) := by
  split
  · exact h
  · exact k

theorem KeepsPlant.wr {off : Nat} {w : Word} (h : KeepsPlant s₀ s) : KeepsPlant s₀ (s.wr off w) := ⟨h.1, h.2, h.3, h.4, h.5⟩
theorem KeepsPlant.wrFld {off hi lo v : Nat} (h : KeepsPlant s₀ s) : KeepsPlant s₀ (s.wrFld off hi lo v) := h.wr
theorem KeepsPlant.wrBit {off i : Nat} {b : Bool} (h : KeepsPlant s₀ s) : KeepsPlant s₀ (s.wrBit off i b) := h.wr
theorem KeepsPlant.setSdi {l : Nat} {x : SdiRun} (h : KeepsPlant s₀ s) : KeepsPlant s₀ (s.setSdi l x) := ⟨h.1, h.2, h.3, h.4, h.5⟩
theorem KeepsPlant.setMed {x : MedState} (h : KeepsPlant s₀ s) : KeepsPlant s₀ (s.setMed x) := ⟨h.1, h.2, h.3, h.4, h.5⟩
theorem KeepsPlant.setMac {p : Nat} {x : MacRun} (h : KeepsPlant s₀ s) : KeepsPlant s₀ (s.setMac p x) := ⟨h.1, h.2, h.3, h.4, h.5⟩
theorem KeepsPlant.setStream {i : Nat} {x : StreamRun} (h : KeepsPlant s₀ s) : KeepsPlant s₀ (s.setStream i x) := ⟨h.1, h.2, h.3, h.4, h.5⟩
theorem KeepsPlant.setTwn {x : TwinState} (h : KeepsPlant s₀ s) : KeepsPlant s₀ (s.setTwn x) := ⟨h.1, h.2, h.3, h.4, h.5⟩
theorem KeepsPlant.emit {o : Output} (h : KeepsPlant s₀ s) : KeepsPlant s₀ (s.emit o) := ⟨h.1, h.2, h.3, h.4, h.5⟩
theorem KeepsPlant.raise {a b c d : Nat} (h : KeepsPlant s₀ s) : KeepsPlant s₀ (s.raise a b c d) := ⟨h.1, h.2, h.3, h.4, h.5⟩
theorem KeepsPlant.noteCount {off v n : Nat} (h : KeepsPlant s₀ s) : KeepsPlant s₀ (s.noteCount off v n) :=
  ⟨by simpa using h.1, by simpa using h.2, by simpa using h.3, by simpa using h.4, by simpa using h.5⟩
theorem KeepsPlant.bump64 {lo hi n : Nat} (h : KeepsPlant s₀ s) : KeepsPlant s₀ (s.bump64 lo hi n) := KeepsPlant.noteCount h.wr.wr
theorem KeepsPlant.bumpBy {off n : Nat} (h : KeepsPlant s₀ s) : KeepsPlant s₀ (s.bumpBy off n) :=
  ⟨by simpa using h.1, by simpa using h.2, by simpa using h.3, by simpa using h.4, by simpa using h.5⟩
theorem KeepsPlant.bump {off : Nat} (h : KeepsPlant s₀ s) : KeepsPlant s₀ (s.bump off) := h.bumpBy
theorem KeepsPlant.event {ev v : Nat} {m : Word} (h : KeepsPlant s₀ s) : KeepsPlant s₀ (s.event ev v m) :=
  ⟨by simpa using h.1, by simpa using h.2, by simpa using h.3, by simpa using h.4, by simpa using h.5⟩
theorem KeepsPlant.sdiEvent {l i : Nat} (h : KeepsPlant s₀ s) : KeepsPlant s₀ (s.sdiEvent l i) := h.event

theorem KeepsPlant.sdiDetect {f : Option VFormat} {valid : Bool} (h : KeepsPlant s₀ s) : KeepsPlant s₀ (s.sdiDetect l f valid) := by
  unfold State.sdiDetect
  split
  · exact h.wrBit
  · extract_lets s1 r s2 s3
    have h3 : KeepsPlant s₀ s3 := .ite h.wr.wrBit.setSdi h.wr.wrBit.setSdi.sdiEvent
    exact .ite h.wr.wrBit.setSdi (.ite h3 h3.bump)

theorem KeepsPlant.sdiPid {fr : SdiFrame} {bad : Bool} (h : KeepsPlant s₀ s) : KeepsPlant s₀ (s.sdiPid l fr bad) :=
  have h2 : KeepsPlant s₀ (if s.rd (Reg.SDI_PID_RX l) = BitVec.ofNat 32 (fr.pid.getD 0) then _ else _) := .ite h.wr.wrBit h.wr.wrBit.sdiEvent
  .ite h2 (.ite h2.wrBit.bump h2.wrBit)

theorem KeepsPlant.sdiSkew {skew : Nat} (h : KeepsPlant s₀ s) : KeepsPlant s₀ (s.sdiSkew l skew) :=
  .ite h.wrFld.wrBit.sdiEvent h.wrFld.wrBit

/-! The measurements of a frame. -/

/-- A port with the measurements of a frame: clean, format, payload ID, skew. -/
def State.sdiMeasured (s : State) (l : Nat) (fr : SdiFrame) : State :=
  let expected := s.sdiExpected l
  let pidBad := fr.pid.isNone || decide (fr.pidFormat ≠ some expected)
  (((s.wrBit (Reg.SDI_STATUS l) 30 (fr.clean && !(s.sdiRun l).bad)).sdiDetect l (sdiResolve fr.fits fr.pidFormat expected) fr.rateOk).sdiPid l fr
    pidBad).sdiSkew l fr.skew

/-- Does a frame meet R314? -/
def State.sdiMeets (s : State) (l : Nat) (fr : SdiFrame) : Bool :=
  fr.clean && !(s.sdiRun l).bad && fr.rateOk && decide (sdiResolve fr.fits fr.pidFormat (s.sdiExpected l) = some (s.sdiExpected l)) &&
    decide (fr.skew ≤ 1000) && mapCarries (s.sdiExpected l) &&
    !(s.rdFld (Reg.SDI_RX_CFG l) 15 14 == 2 && (fr.pid.isNone || decide (fr.pidFormat ≠ some (s.sdiExpected l))))

/-- A port becomes ready: its event, its sources, its audio. -/
def State.sdiGain (s : State) (l : Nat) : State :=
  (((s.wrBit (Reg.SDI_STATUS l) 31 true).sdiEvent l 1).inputReady (.sdi l)).audioBack l

theorem exec_sdiReady {fr : SdiFrame} (hPort : s.sdiPort l = true) (hLanes : ((s.rxLanes l).all fun i => s.rdBit (Reg.LAN_STATUS i) 31) = true) :
    exec (.sdiReady t l fr) s = .next (if (s.at t).sdiMeets l fr then
      (if ((s.at t).sdiMeasured l fr).sdiIsReady l then (s.at t).sdiMeasured l fr else ((s.at t).sdiMeasured l fr).sdiGain l)
      else ((s.at t).sdiMeasured l fr).sdiLose l) := by
  have hAt : ¬((s.at t).sdiPort l = false ∨ (((s.at t).rxLanes l).all fun i => (s.at t).rdBit (Reg.LAN_STATUS i) 31) = false) := by
    simp only [State.sdiPort_at, State.rxLanes_at, State.rdBit_at, hPort, hLanes]
    decide
  change execSdiReady t l fr s = _
  unfold execSdiReady
  generalize s.at t = a at hAt
  refine (if_neg hAt).trans ?_
  rw [apply_ite Host.Outcome.next, apply_ite Host.Outcome.next]
  rfl

theorem KeepsPlant.sdiMeasured {fr : SdiFrame} (h : KeepsPlant s₀ s) : KeepsPlant s₀ (s.sdiMeasured l fr) :=
  h.wrBit.sdiDetect.sdiPid.sdiSkew

/-- The payload ID of a frame writes its own bits of the status, and no register of the port's beside its own. -/
theorem State.sdiPid_regs {fr : SdiFrame} {bad : Bool} :
    (∀ i, i ≠ 27 → i ≠ 28 → (s.sdiPid l fr bad).rdBit (Reg.SDI_STATUS l) i = s.rdBit (Reg.SDI_STATUS l) i) ∧
    (s.sdiPid l fr bad).rd (Reg.SDI_FORMAT l) = s.rd (Reg.SDI_FORMAT l) := by
  unfold State.sdiPid
  extract_lets v s1 s2 s3
  have h1 : (∀ i, i ≠ 28 → s1.rdBit (Reg.SDI_STATUS l) i = s.rdBit (Reg.SDI_STATUS l) i) ∧ s1.rd (Reg.SDI_FORMAT l) = s.rd (Reg.SDI_FORMAT l) := by
    refine ⟨fun i hi => ?_, (State.rd_wrBit_ne _ _ _ (by simp)).trans (State.rd_wr_ne _ _ (by simp))⟩
    rw [State.rdBit_wrBit_beside _ (by decide) hi]
    exact State.rdBit_congr (State.rd_wr_ne _ _ (by simp))
  have h2 : (∀ i, i ≠ 28 → s2.rdBit (Reg.SDI_STATUS l) i = s.rdBit (Reg.SDI_STATUS l) i) ∧ s2.rd (Reg.SDI_FORMAT l) = s.rd (Reg.SDI_FORMAT l) := by
    unfold s2
    split
    · exact h1
    · exact ⟨fun i hi => (State.rdBit_congr (State.rd_sdiEvent_ne (by simp) (by simp; omega))).trans (h1.1 i hi),
        (State.rd_sdiEvent_ne (by simp) (by simp; omega)).trans h1.2⟩
  have h3 : (∀ i, i ≠ 27 → i ≠ 28 → s3.rdBit (Reg.SDI_STATUS l) i = s.rdBit (Reg.SDI_STATUS l) i) ∧
      s3.rd (Reg.SDI_FORMAT l) = s.rd (Reg.SDI_FORMAT l) :=
    ⟨fun i hi hi' => (State.rdBit_wrBit_beside _ (by decide) hi).trans (h2.1 i hi'), (State.rd_wrBit_ne _ _ _ (by simp)).trans h2.2⟩
  split
  · exact ⟨fun i _ hi' => h2.1 i hi', h2.2⟩
  · split
    · exact ⟨fun i hi hi' => (State.rdBit_congr (State.rd_bump_ne _ (by simp))).trans (h3.1 i hi hi'), (State.rd_bump_ne _ (by simp)).trans h3.2⟩
    · exact h3

/-- The skew of a frame writes the low half of the status and its bit 26, and no register of the port's beside the status and the event. -/
theorem State.sdiSkew_regs {skew : Nat} : (s.sdiSkew l skew).rdFld (Reg.SDI_STATUS l) 15 0 = min skew 65535 ∧
    (∀ i, 15 < i → i ≠ 26 → (s.sdiSkew l skew).rdBit (Reg.SDI_STATUS l) i = s.rdBit (Reg.SDI_STATUS l) i) ∧
    (s.sdiSkew l skew).rd (Reg.SDI_FORMAT l) = s.rd (Reg.SDI_FORMAT l) := by
  unfold State.sdiSkew
  extract_lets r s1
  have h1 : s1.rdFld r 15 0 = min skew 65535 ∧ (∀ i, 15 < i → i ≠ 26 → s1.rdBit r i = s.rdBit r i) ∧
      s1.rd (Reg.SDI_FORMAT l) = s.rd (Reg.SDI_FORMAT l) := by
    refine ⟨?_, fun i hi hi' => ?_, (State.rd_wrBit_ne _ _ _ (by simp [r])).trans (State.rd_wrFld_ne _ _ _ _ (by simp [r]))⟩
    · rw [State.rdFld_wrBit_beside _ (by decide) (by decide), State.rdFld_wrFld_same (by decide)]
      exact Nat.mod_eq_of_lt (by omega)
    · rw [State.rdBit_wrBit_beside _ (by decide) hi', State.rdBit_wrFld_beside (by decide) (.inr hi)]
  obtain ⟨hSkew, hBits, hFormat⟩ := h1
  have hEvent : (s1.sdiEvent l 7).rd r = s1.rd r := State.rd_sdiEvent_ne (by simp [r]) (by simp [r]; omega)
  split
  · exact ⟨(State.rdFld_congr hEvent).trans hSkew, fun i hi hi' => (State.rdBit_congr hEvent).trans (hBits i hi hi'),
      (State.rd_sdiEvent_ne (by simp) (by simp; omega)).trans hFormat⟩
  · exact ⟨hSkew, hBits, hFormat⟩

/-- The format that a port expects ends the mismatch, and is shown. -/
theorem State.sdiDetect_of_expected {valid : Bool} :
    (∀ i, i ≠ 29 → (s.sdiDetect l (some (s.sdiExpected l)) valid).rdBit (Reg.SDI_STATUS l) i = s.rdBit (Reg.SDI_STATUS l) i) ∧
    (s.sdiDetect l (some (s.sdiExpected l)) valid).rdBit (Reg.SDI_STATUS l) 29 = false ∧
    (s.sdiDetect l (some (s.sdiExpected l)) valid).rd (Reg.SDI_FORMAT l) = BitVec.ofNat 32 (formatWord (s.sdiExpected l) valid) := by
  let a := s.wr (Reg.SDI_FORMAT l) (BitVec.ofNat 32 (formatWord (s.sdiExpected l) valid))
  have hRd (r : Nat) : (s.sdiDetect l (some (s.sdiExpected l)) valid).rd r = (a.wrBit (Reg.SDI_STATUS l) 29 false).rd r := by
    simp only [State.sdiDetect, if_true, State.rd_setSdi, a]
  refine ⟨fun i hi => (State.rdBit_congr (hRd _)).trans ?_, (State.rdBit_congr (hRd _)).trans (State.rdBit_wrBit _ (by decide)), (hRd _).trans ?_⟩
  · exact (State.rdBit_wrBit_beside _ (by decide) hi).trans (State.rdBit_congr (State.rd_wr_ne _ _ (by simp)))
  · exact (State.rd_wrBit_ne _ _ _ (by simp)).trans (State.rd_wr_same _ _ _)

/-- The measurements of a frame of the expected format. -/
theorem State.sdiMeasured_of_expected {fr : SdiFrame} (hFormat : sdiResolve fr.fits fr.pidFormat (s.sdiExpected l) = some (s.sdiExpected l)) :
    (s.sdiMeasured l fr).sdiIsReady l = s.sdiIsReady l ∧
    (s.sdiMeasured l fr).rdBit (Reg.SDI_STATUS l) 30 = (fr.clean && !(s.sdiRun l).bad) ∧ (s.sdiMeasured l fr).rdBit (Reg.SDI_STATUS l) 29 = false ∧
    (s.sdiMeasured l fr).rd (Reg.SDI_FORMAT l) = BitVec.ofNat 32 (formatWord (s.sdiExpected l) fr.rateOk) ∧
    (s.sdiMeasured l fr).rdFld (Reg.SDI_STATUS l) 15 0 = min fr.skew 65535 := by
  unfold State.sdiMeasured
  extract_lets expected pidBad
  have hReady : (s.wrBit (Reg.SDI_STATUS l) 30 (fr.clean && !(s.sdiRun l).bad)).rdBit (Reg.SDI_STATUS l) 31 = s.sdiIsReady l :=
    State.rdBit_wrBit_beside _ (by decide) (by decide)
  have hClean : (s.wrBit (Reg.SDI_STATUS l) 30 (fr.clean && !(s.sdiRun l).bad)).rdBit (Reg.SDI_STATUS l) 30 = (fr.clean && !(s.sdiRun l).bad) :=
    State.rdBit_wrBit _ (by decide)
  have hExpected : (s.wrBit (Reg.SDI_STATUS l) 30 (fr.clean && !(s.sdiRun l).bad)).sdiExpected l = s.sdiExpected l := by simp [State.sdiExpected]
  rw [hFormat, ← hExpected]
  generalize s.wrBit (Reg.SDI_STATUS l) 30 (fr.clean && !(s.sdiRun l).bad) = a at hReady hClean
  obtain ⟨hBits, hMatch, hWord⟩ := State.sdiDetect_of_expected (s := a) (l := l) (valid := fr.rateOk)
  generalize a.sdiDetect l (some (a.sdiExpected l)) fr.rateOk = b at hBits hMatch hWord ⊢
  obtain ⟨hPidBits, hPidFormat⟩ := State.sdiPid_regs (s := b) (l := l) (fr := fr) (bad := pidBad)
  generalize b.sdiPid l fr pidBad = c at hPidBits hPidFormat ⊢
  obtain ⟨hSkew, hSkewBits, hSkewFormat⟩ := State.sdiSkew_regs (s := c) (l := l) (skew := fr.skew)
  have hBit (i : Nat) (hHigh : 28 < i) : (c.sdiSkew l fr.skew).rdBit (Reg.SDI_STATUS l) i = b.rdBit (Reg.SDI_STATUS l) i :=
    (hSkewBits i (by omega) (by omega)).trans (hPidBits i (by omega) (by omega))
  refine ⟨?_, ?_, ?_, hSkewFormat.trans (hPidFormat.trans hWord), hSkew⟩
  · exact (hBit 31 (by decide)).trans ((hBits 31 (by decide)).trans hReady)
  · exact (hBit 30 (by decide)).trans ((hBits 30 (by decide)).trans hClean)
  · exact (hBit 29 (by decide)).trans hMatch

/-- A port that becomes ready. -/
theorem State.sdiGain_regs (s : State) (l : Nat) : (s.sdiGain l).sdiIsReady l = true ∧ (s.sdiGain l).rdBit (Reg.SDI_EVENT l) 1 = true ∧
    (∀ i, i ≠ 31 → (s.sdiGain l).rdBit (Reg.SDI_STATUS l) i = s.rdBit (Reg.SDI_STATUS l) i) ∧
    (s.sdiGain l).rdFld (Reg.SDI_STATUS l) 15 0 = s.rdFld (Reg.SDI_STATUS l) 15 0 ∧
    (s.sdiGain l).rd (Reg.SDI_FORMAT l) = s.rd (Reg.SDI_FORMAT l) := by
  let a := s.wrBit (Reg.SDI_STATUS l) 31 true
  have hKeeps : KeepsIntake (a.sdiEvent l 1) (s.sdiGain l) := (KeepsIntake.refl _).inputReady.audioBack
  have hRd (r : Nat) (hr : 0x120000 ≤ r) (hEvent : r ≠ Reg.SDI_EVENT l) : (s.sdiGain l).rd r = a.rd r :=
    (hKeeps.rd r hr).trans (State.rd_sdiEvent_ne (s := a) (i := 1) hEvent (by simp; omega))
  have hStatus := hRd (Reg.SDI_STATUS l) (by simp; omega) (by simp)
  refine ⟨(State.rdBit_congr hStatus).trans (State.rdBit_wrBit _ (by decide)), (State.rdBit_congr (hKeeps.rd _ (by simp; omega))).trans
    (State.rdBit_sdiEvent_same (s := a) (by decide)), fun i hi => (State.rdBit_congr hStatus).trans (State.rdBit_wrBit_beside _ (by decide) hi),
    (State.rdFld_congr hStatus).trans (State.rdFld_wrBit_beside _ (by decide) (by decide)),
    (hRd _ (by simp; omega) (by simp)).trans (State.rd_wrBit_ne _ _ _ (by simp))⟩

theorem State.sdiGain_keeps (s : State) (l : Nat) : (s.sdiGain l).ctl = s.ctl ∧ (s.sdiGain l).pins = s.pins ∧ (s.sdiGain l).cfg = s.cfg ∧
    (s.sdiGain l).dram = s.dram := by
  have hKeeps : KeepsIntake ((s.wrBit (Reg.SDI_STATUS l) 31 true).sdiEvent l 1) (s.sdiGain l) := (KeepsIntake.refl _).inputReady.audioBack
  have hEvent : KeepsPlant s ((s.wrBit (Reg.SDI_STATUS l) 31 true).sdiEvent l 1) := (KeepsPlant.refl s).wrBit.sdiEvent
  exact ⟨hKeeps.ctl.trans hEvent.ctl, hKeeps.pins.trans hEvent.pins, hKeeps.cfg.trans hEvent.cfg, hKeeps.dram.trans hEvent.dram⟩

/-! A port is lost (R315). -/

/-- The cause of a loss in the port's status. -/
def State.lossShown (s : State) (l cause : Nat) : State :=
  if cause = 2 then
    (let a := s.wrBit (Reg.SDI_STATUS l) 26 true; if s.rdBit (Reg.SDI_STATUS l) 26 then a else a.sdiEvent l 7)
  else if cause = 0 then s.wrBit (Reg.SDI_STATUS l) 30 false else s

theorem exec_sdiLost_of_cause {cause : Nat} (hPort : s.sdiPort l = true) (hCause : s.lossHolds l cause = true) : exec (.sdiLost t l cause) s =
    .next ((((s.at t).lossShown l cause).setSdi l { ((s.at t).lossShown l cause).sdiRun l with bad := true }).sdiLose l) := by
  have hAt : ((s.at t).sdiPort l && (s.at t).lossHolds l cause) = true := by simp [hPort, hCause]
  change execSdiLost t l cause s = _
  unfold execSdiLost
  generalize s.at t = a at hAt
  exact if_pos hAt

theorem State.lossShown_keeps (s : State) (l cause : Nat) : KeepsPlant s (s.lossShown l cause) :=
  have h := KeepsPlant.refl s
  .ite (.ite h.wrBit h.wrBit.sdiEvent) (.ite h.wrBit h)

theorem State.lossShown_regs (s : State) (l cause : Nat) : (s.lossShown l cause).sdiIsReady l = s.sdiIsReady l ∧
    (s.lossShown l cause).rd (Reg.SDI_CNT_LOSS l) = s.rd (Reg.SDI_CNT_LOSS l) ∧
    (cause = 2 → (s.lossShown l cause).rdBit (Reg.SDI_STATUS l) 26 = true) := by
  have hReady (i : Nat) (b : Bool) (hi : i ≠ 31) (hi' : i < 32) : (s.wrBit (Reg.SDI_STATUS l) i b).sdiIsReady l = s.sdiIsReady l :=
    State.rdBit_wrBit_beside _ hi' hi.symm
  have hLoss (i : Nat) (b : Bool) : (s.wrBit (Reg.SDI_STATUS l) i b).rd (Reg.SDI_CNT_LOSS l) = s.rd (Reg.SDI_CNT_LOSS l) :=
    State.rd_wrBit_ne _ _ _ (by simp)
  have hSkew : (s.wrBit (Reg.SDI_STATUS l) 26 true).rdBit (Reg.SDI_STATUS l) 26 = true := State.rdBit_wrBit _ (by decide)
  unfold State.lossShown
  extract_lets a
  split
  · split
    · exact ⟨hReady 26 true (by decide) (by decide), hLoss 26 true, fun _ => hSkew⟩
    · have hRd (r : Nat) (hr : 0x120000 ≤ r) (hEvent : r ≠ Reg.SDI_EVENT l) : (a.sdiEvent l 7).rd r = a.rd r :=
        State.rd_sdiEvent_ne hEvent (by simp; omega)
      exact ⟨(State.rdBit_congr (hRd _ (by simp; omega) (by simp))).trans (hReady 26 true (by decide) (by decide)),
        (hRd _ (by simp; omega) (by simp)).trans (hLoss 26 true), fun _ => (State.rdBit_congr (hRd _ (by simp; omega) (by simp))).trans hSkew⟩
  · split
    · exact ⟨hReady 30 false (by decide) (by decide), hLoss 30 false, fun h => absurd h ‹_›⟩
    · exact ⟨rfl, rfl, fun h => absurd h ‹_›⟩

/-! Paired copies (R323). -/

/-- A good copy on side A of a pair is counted, while side B is still written. -/
def State.pairCounted (s : State) (la lb n : Nat) : State :=
  (((s.setSdi la { s.sdiRun la with lastCount := some n }).wr (Reg.SDI_LAST_TSP_FRAME la) (BitVec.ofNat 32 n)).nextCopy lb).bump (Reg.SDI_CNT_PAIR_A la)

theorem State.pairCounted_frame (s : State) (la lb n : Nat) : (s.pairCounted la lb n).streams = s.streams ∧
    (s.pairCounted la lb n).cfg = s.cfg ∧ (s.pairCounted la lb n).ctl = s.ctl := by
  simp [State.pairCounted, State.nextCopy, State.setSdi]

theorem State.rd_pairCounted (s : State) (la lb n a : Nat) (h : a ≠ Reg.SDI_CNT_PAIR_A la) :
    (s.pairCounted la lb n).rd a = if a = Reg.SDI_LAST_TSP_FRAME la then BitVec.ofNat 32 n else s.rd a := by
  rw [State.pairCounted, State.rd_bump_ne _ h, State.nextCopy, State.rd_setSdi, State.rd_wr, State.rd_setSdi]

theorem State.rd_pairCounted_count {la lb n : Nat} (h : (s.rd (Reg.SDI_CNT_PAIR_A la)).toNat + 1 < 4294967296) :
    (s.pairCounted la lb n).rd (Reg.SDI_CNT_PAIR_A la) = BitVec.ofNat 32 ((s.rd (Reg.SDI_CNT_PAIR_A la)).toNat + 1) := by
  have hBefore : (((s.setSdi la { s.sdiRun la with lastCount := some n }).wr (Reg.SDI_LAST_TSP_FRAME la) (BitVec.ofNat 32 n)).nextCopy lb).rd
      (Reg.SDI_CNT_PAIR_A la) = s.rd (Reg.SDI_CNT_PAIR_A la) := by
    rw [State.nextCopy, State.rd_setSdi, State.rd_wr_ne _ _ (by simp), State.rd_setSdi]
  rw [State.pairCounted, State.rd_bump_same _ _ (by rwa [hBefore]), hBefore]

/-- A source's frame is completed from side A, whose copy is good while side B is still written. -/
theorem exec_pairedFrameComplete_of_goodA {x la lb n g p : Nat} {a b : PairCopy} {c : SrcCfg} {sc : StreamCfg}
    (hSrc : Tab.find? s.cfg.srcs x = some c) (hStream : s.streamCfg x = some sc) (hInput : c.input = .sdi la) (hPair : c.pairB = some lb)
    (hDone : a.writing = false) (hBusy : b.writing = true) (hPacket : a.packet = some (n, true, g))
    (hExpected : s.copyExpected la (s.grp sc.readGroup).frame a.packet = true) (hDigest : a.digestOk = true) (hCrc : (s.sdiRun la).crcLines = 0)
    (hWhole : (s.stream x).broken = false) (hOpen : (s.stream x).opened = some p) : exec (.pairedFrameComplete t x a b) s =
      .next ((((s.at t).pairCounted la lb n).pairComplete x (extendNear n (s.grp sc.readGroup).frame) false).joinStored x) := by
  have hSrc' : Tab.find? (s.at t).cfg.srcs x = some c := by simpa using hSrc
  have hStream' : (s.at t).streamCfg x = some sc := by simpa using hStream
  have hExpected' : (s.at t).copyExpected la ((s.at t).grp sc.readGroup).frame (some (n, true, g)) = true := by
    rw [← hPacket]
    simpa [State.copyExpected] using hExpected
  have hCrc' : ((s.at t).sdiRun la).crcLines = 0 := by simpa using hCrc
  have hWhole' : ((s.at t).stream x).broken = false := by simpa using hWhole
  have hOpen' : ((s.at t).stream x).opened = some p := by simpa using hOpen
  change execPairedFrameComplete t x a b s = _
  unfold execPairedFrameComplete
  rw [← State.grp_at s t]
  generalize s.at t = v at *
  simp [hSrc', hStream', hInput, hPair, hDone, hPacket, hExpected', hDigest, hCrc', hWhole', hOpen', State.countCopy, hBusy, State.pairCounted]

/-- A new index in the slots of a frame touches the DRAM alone. -/
theorem State.retagPlace_eq (s : State) (c : StreamCfg) (p w : Nat) : s.retagPlace c p w = s.setDram (s.retagPlace c p w).dram := by
  have hFold (f : State → Nat → State) (hf : ∀ v n, f v n = v.setDram (f v n).dram) (ns : List Nat) (v : State) :
      ns.foldl f v = v.setDram (ns.foldl f v).dram := by
    induction ns generalizing v with
    | nil => rfl
    | cons n ns ih =>
      rw [List.foldl_cons, ih, hf v n]
      rfl
  refine hFold _ (fun v n => ?_) _ _
  split <;> rfl

/-- The open frame of a source becomes its newest, complete and stored, under its index. -/
theorem State.pairComplete_frame {x w p : Nat} {c : StreamCfg} (hCfg : s.streamCfg x = some c) (hOpen : (s.stream x).opened = some p) :
    Tab.get coldFrame ((s.pairComplete x w false).stream x).ring p = ⟨w, true, true, (Tab.get coldFrame (s.stream x).ring p).at_⟩ ∧
    ((s.pairComplete x w false).stream x).opened = none ∧ (s.pairComplete x w false).regs = s.regs ∧ (s.pairComplete x w false).ctl = s.ctl ∧
    (s.pairComplete x w false).cfg = s.cfg := by
  have hRing (d : Tab Byte) (ring : Tab RingFrame) (y z : StreamRun) (f : RingFrame) (hy : y.ring = Tab.put coldFrame ring p f) (hNone : y.opened = none) :
      let u := ((s.setDram d).setStream x y).setStream (x + 16384) z
      Tab.get coldFrame (u.stream x).ring p = f ∧ (u.stream x).opened = none ∧ u.regs = s.regs ∧ u.ctl = s.ctl ∧ u.cfg = s.cfg := by
    have hStream : (((s.setDram d).setStream x y).setStream (x + 16384) z).stream x = y := by simp [State.stream, State.setStream]
    exact ⟨by rw [hStream, hy, Tab.get_put_same], by rw [hStream, hNone], rfl, rfl, rfl⟩
  have hStored (d : Tab Byte) : (s.setDram d).stream x = s.stream x := rfl
  simp only [State.pairComplete, hCfg, Bool.false_eq_true, if_false, hOpen]
  split
  · exact hRing s.dram _ _ _ _ rfl rfl
  · rw [State.retagPlace_eq]
    exact hRing _ _ _ _ _ rfl rfl

/-! The obligation, clause by clause. -/

/-- A wrong line takes a ready port out of ready. -/
theorem sdiLine_of_wrong_outcome :
    ∀ t l ln s, s.sdiPort l = true → s.sdiIsReady l = true → ln.lnBad = true ∨ ln.trsBad = true ∨ ln.lengthBad = true →
    (s.rd (Reg.SDI_CNT_LOSS l)).toNat + 1 < 4294967296 → ∃ u, exec (.sdiLine t l ln) s = .next u ∧ u.sdiIsReady l = false ∧
    u.rd (Reg.SDI_CNT_LOSS l) = BitVec.ofNat 32 ((s.rd (Reg.SDI_CNT_LOSS l)).toNat + 1) ∧ u.rdBit (Reg.SDI_EVENT l) 0 = true ∧
    (u.sdiRun l).bad = true ∧ u.win = s.win ∧ u.ctl = s.ctl ∧ u.pins = s.pins ∧ u.cfg = s.cfg ∧ u.dram = s.dram := by
  intro t l ln s hPort hReady hWrong hCount
  have hLine : lineWrong ln = true := by simpa [lineWrong, or_assoc] using hWrong
  rw [exec_sdiLine_of_wrong hPort hLine]
  obtain ⟨hRun, hWin, -, hCtl, hPins, hCfg, hDram⟩ := (s.at t).lineCounted_frame l ln
  have hRd (r : Nat) (hr : r = Reg.SDI_STATUS l ∨ r = Reg.SDI_CNT_LOSS l) : ((s.at t).lineCounted l ln).rd r = s.rd r := by
    rw [State.rd_lineCounted, State.rd_at] <;> rcases hr with rfl | rfl <;> simp <;> omega
  have hLoss := hRd _ (.inr rfl)
  have hStill : ((s.at t).lineCounted l ln).sdiIsReady l = true := (State.rdBit_congr (hRd _ (.inl rfl))).trans hReady
  have hBad : (((s.at t).lineCounted l ln).sdiRun l).bad = true := by simp [hRun, State.runAfterLine, hLine]
  generalize (s.at t).lineCounted l ln = a at *
  obtain ⟨hNot, hCtl', hPins', hCfg', hDram'⟩ := a.sdiLose_plant l
  obtain ⟨hCounted, hEvent, -, hBad', hWin'⟩ := State.sdiLose_port hStill (by rwa [hLoss])
  exact ⟨_, rfl, hNot, by rw [hCounted, hLoss], hEvent, hBad'.trans hBad, by rw [hWin', hWin, State.at_win], by rw [hCtl', hCtl, State.at_ctl],
    by rw [hPins', hPins, State.at_pins], by rw [hCfg', hCfg, State.at_cfg], by rw [hDram', hDram, State.at_dram]⟩

/-- A line with a CRC error is counted and leaves its port as ready as it was. -/
theorem sdiLine_of_crcError_outcome :
    ∀ t l ln s, s.sdiPort l = true → ln.crcBad = true → ln.lnBad = false → ln.trsBad = false → ln.trsCorrected = false →
    ln.lengthBad = false → s.sourcesOf (.sdi l) = [] → (s.rd (Reg.SDI_CNT_CRC l)).toNat + 1 < 4294967296 →
    ∃ u, exec (.sdiLine t l ln) s = .next u ∧ u.sdiIsReady l = s.sdiIsReady l ∧
    u.rd (Reg.SDI_CNT_CRC l) = BitVec.ofNat 32 ((s.rd (Reg.SDI_CNT_CRC l)).toNat + 1) ∧ (ln.line ≠ 1 →
    (u.sdiRun l).crcLines = (s.sdiRun l).crcLines + 1) ∧
    (∀ a, a ∉ [Reg.SDI_CNT_CRC l, Reg.SDI_EVENT l, Reg.SDI_CNT_ANC_CSUM l, Reg.MSIX_PENDING 0, Reg.MSIX_PENDING 1] → u.rd a = s.rd a) ∧
    u.ctl = s.ctl ∧ u.pins = s.pins ∧ u.cfg = s.cfg ∧ u.dram = s.dram := by
  intro t l ln s hPort hCrc hLn hTrs hCorrected hLen hNone hCount
  have hLine : lineWrong ln = false := by simp [lineWrong, hLn, hTrs, hLen]
  have hWrong : (s.at t).crcWrong l ln = true := by simp [State.crcWrong, hCrc]
  have hRun : ln.line ≠ 1 → ((s.at t).runAfterLine l ln).crcLines = (s.sdiRun l).crcLines + 1 := fun hLater => by
    simp [State.runAfterLine, State.runAtLine, hLater, hWrong, b2n]
  obtain ⟨y, hNext⟩ := exec_sdiLine_of_unfed (t := t) hPort hLine hLn hCorrected hNone
  obtain ⟨hSdi, -, -, hCtl, hPins, hCfg, hDram⟩ := (s.at t).crcCounted_frame l ln
  have hCounted := State.rd_crcCounted_of_wrong hWrong (by simpa using hCount)
  have hSdi' : ((s.at t).crcCounted l ln).sdiRun l = (s.at t).runAfterLine l ln := by rw [State.sdiRun, hSdi, ← State.sdiRun, State.sdiRun_setSdi_same]
  have hRd (r : Nat) (hCrc : r ≠ Reg.SDI_CNT_CRC l) (hEvent : r ≠ Reg.SDI_EVENT l) (hPending : r ≠ Reg.MSIX_PENDING 0) :
      ((s.at t).crcCounted l ln).rd r = s.rd r := (State.rd_crcCounted hCrc hEvent hPending).trans (State.rd_at s t r)
  refine ⟨_, hNext, State.rdBit_congr (hRd _ (by simp) (by simp) (by simp; omega)), ?_,
    fun hLater => (congrArg SdiRun.crcLines hSdi').trans (hRun hLater), fun r hr => ?_, hCtl.trans (s.at_ctl t), hPins.trans (s.at_pins t),
    hCfg.trans (s.at_cfg t), hDram.trans (s.at_dram t)⟩
  · rwa [State.rd_at] at hCounted
  · simp only [List.mem_cons, List.not_mem_nil, or_false, not_or] at hr
    exact hRd r hr.1 hr.2.1 hr.2.2.2.1

/-- A good line of a ready port is kept with its picture rows. -/
theorem sdiLine_of_good_outcome :
    ∀ t l ln s x c, s.sdiPort l = true → s.sdiIsReady l = true → ln.crcBad = false →
    (checkCrc (s.sdiExpected l) (s.sdiRun l).lineCrc ln.line ln.words).1 = false → ln.lnBad = false → ln.trsBad = false →
    ln.trsCorrected = false → ln.lengthBad = false → s.sourcesOf (.sdi l) = [x] → Tab.find? s.cfg.srcs x = some c → c.synced = false →
    ∃ u, exec (.sdiLine t l ln) s = .next u ∧ Tab.get noLine u.win (lineKey x ln.line) = ln ∧ (∀ a, a ≠ lineKey x ln.line →
    Tab.get noLine u.win a = Tab.get noLine s.win a) ∧
    u.rows = (lineRows c.fmt ln.line ln.words).foldl (fun r e => Tab.put [] r (lineKey x e.1) e.2) s.rows ∧ (∀ a, u.rd a = s.rd a) ∧
    u.ctl = s.ctl ∧ u.pins = s.pins ∧ u.cfg = s.cfg ∧ u.dram = s.dram := by
  intro t l ln s x c hPort hReady hCrc hRun hLn hTrs hCorrected hLen hOne hFind hSynced
  have hLine : lineWrong ln = false := by simp [lineWrong, hLn, hTrs, hLen]
  have hRight : s.crcWrong l ln = false := by simp [State.crcWrong, State.lineCrcs, hCrc, hRun]
  obtain ⟨u, hNext, hWin, hRows, hRegs, hPlant⟩ := exec_sdiLine_of_exchanged (t := t) hPort hReady hLine hLn hCorrected hRight hOne hFind hSynced
  refine ⟨u, hNext, ?_, fun a ha => ?_, hRows, State.rd_congr hRegs, hPlant⟩
  · rw [hWin, Tab.get_put_same]
  · rw [hWin, Tab.get_put_ne _ _ _ ha]

/-- A clean, matching frame makes a port ready. -/
theorem sdiReady_of_clean_outcome :
    ∀ t l fr s, s.sdiPort l = true → ((s.rxLanes l).all fun i => s.rdBit (Reg.LAN_STATUS i) 31) = true → s.sdiIsReady l = false →
    fr.clean = true → (s.sdiRun l).bad = false → fr.rateOk = true →
    sdiResolve fr.fits fr.pidFormat (s.sdiExpected l) = some (s.sdiExpected l) → fr.skew ≤ 1000 → mapCarries (s.sdiExpected l) = true →
    s.rdFld (Reg.SDI_RX_CFG l) 15 14 ≠ 2 → ∃ u, exec (.sdiReady t l fr) s = .next u ∧ u.sdiIsReady l = true ∧
    u.rdBit (Reg.SDI_STATUS l) 30 = true ∧ u.rdBit (Reg.SDI_STATUS l) 29 = false ∧ u.rdBit (Reg.SDI_EVENT l) 1 = true ∧
    u.rd (Reg.SDI_FORMAT l) = BitVec.ofNat 32 (formatWord (s.sdiExpected l) true) ∧ u.rdFld (Reg.SDI_STATUS l) 15 0 = fr.skew ∧
    u.ctl = s.ctl ∧ u.pins = s.pins ∧ u.cfg = s.cfg ∧ u.dram = s.dram := by
  intro t l fr s hPort hLanes hReady hClean hBad hRate hFormat hSkew hMap hReq
  have hMeets : (s.at t).sdiMeets l fr = true := by
    rw [State.sdiMeets, State.rdFld_at, beq_false_of_ne hReq]
    simp [hClean, hBad, hRate, hFormat, hSkew, hMap]
  have hKeeps := (KeepsPlant.at s t).sdiMeasured (l := l) (fr := fr)
  obtain ⟨hStill, hGood, hMatch, hWord, hLow⟩ := State.sdiMeasured_of_expected (s := s.at t) (l := l) (fr := fr) (by simpa using hFormat)
  rw [exec_sdiReady hPort hLanes, if_pos hMeets]
  simp only [State.sdiIsReady_at, State.sdiRun_at, State.sdiExpected_at, hReady, hClean, hBad, hRate] at hStill hGood hWord
  generalize (s.at t).sdiMeasured l fr = a at *
  obtain ⟨hUp, hEvent, hBits, hFld, hFormat'⟩ := a.sdiGain_regs l
  have hGain := a.sdiGain_keeps l
  refine ⟨a.sdiGain l, by simp [hStill], hUp, (hBits 30 (by decide)).trans hGood, (hBits 29 (by decide)).trans hMatch, hEvent, hFormat'.trans hWord,
    (hFld.trans hLow).trans (min_eq_left (by omega)), hGain.1.trans hKeeps.ctl, hGain.2.1.trans hKeeps.pins, hGain.2.2.1.trans hKeeps.cfg,
    hGain.2.2.2.trans hKeeps.dram⟩

/-- A frame that does not meet R314 leaves its port not ready. -/
theorem sdiReady_of_unmet_outcome :
    ∀ t l fr s, s.sdiPort l = true → ((s.rxLanes l).all fun i => s.rdBit (Reg.LAN_STATUS i) 31) = true → fr.clean = false ∨
    fr.rateOk = false ∨ 1000 < fr.skew ∨ sdiResolve fr.fits fr.pidFormat (s.sdiExpected l) ≠ some (s.sdiExpected l) →
    ∃ u, exec (.sdiReady t l fr) s = .next u ∧ u.sdiIsReady l = false ∧ u.ctl = s.ctl ∧ u.pins = s.pins ∧ u.cfg = s.cfg ∧ u.dram = s.dram := by
  intro t l fr s hPort hLanes hFails
  have hMeets : (s.at t).sdiMeets l fr = false := by
    rw [← Bool.not_eq_true]
    intro h
    simp [State.sdiMeets] at h
    obtain ⟨⟨⟨⟨⟨⟨hClean, -⟩, hRate⟩, hFormat⟩, hSkew⟩, -⟩, -⟩ := h
    simp [hClean, hRate, hFormat] at hFails
    omega
  have hKeeps := (KeepsPlant.at s t).sdiMeasured (l := l) (fr := fr)
  rw [exec_sdiReady hPort hLanes, hMeets, if_neg Bool.false_ne_true]
  obtain ⟨hNot, hCtl, hPins, hCfg, hDram⟩ := ((s.at t).sdiMeasured l fr).sdiLose_plant l
  exact ⟨_, rfl, hNot, hCtl.trans hKeeps.ctl, hPins.trans hKeeps.pins, hCfg.trans hKeeps.cfg, hDram.trans hKeeps.dram⟩

/-- A cause of R315 takes a ready port out of ready. -/
theorem sdiLost_outcome :
    ∀ t l cause s, s.sdiPort l = true → s.sdiIsReady l = true → cause = 1 ∨ cause = 2 ∨ (cause = 3 ∧ s.rdFld (Reg.SDI_RX_CFG l) 15 14 = 2) ∨
    (cause = 0 ∧ ((s.rxLanes l).any fun i => !s.rdBit (Reg.LAN_STATUS i) 31) = true) → (s.rd (Reg.SDI_CNT_LOSS l)).toNat + 1 < 4294967296 →
    ∃ u, exec (.sdiLost t l cause) s = .next u ∧ u.sdiIsReady l = false ∧
    u.rd (Reg.SDI_CNT_LOSS l) = BitVec.ofNat 32 ((s.rd (Reg.SDI_CNT_LOSS l)).toNat + 1) ∧ u.rdBit (Reg.SDI_EVENT l) 0 = true ∧ (cause = 2 →
    u.rdBit (Reg.SDI_STATUS l) 26 = true) ∧ u.ctl = s.ctl ∧ u.pins = s.pins ∧ u.cfg = s.cfg ∧ u.dram = s.dram := by
  intro t l cause s hPort hReady hCause hCount
  have hHolds : s.lossHolds l cause = true := by
    rcases hCause with rfl | rfl | ⟨rfl, hReq⟩ | ⟨rfl, hLos⟩
    · rfl
    · rfl
    · exact beq_of_eq hReq
    · simpa [State.lossHolds] using hLos
  obtain ⟨hStill, hLoss, hSkew⟩ := (s.at t).lossShown_regs l cause
  have hKeeps := (s.at t).lossShown_keeps l cause
  rw [State.sdiIsReady_at, hReady] at hStill
  rw [State.rd_at] at hLoss
  rw [exec_sdiLost_of_cause hPort hHolds]
  generalize (s.at t).lossShown l cause = a at *
  let b := a.setSdi l { a.sdiRun l with bad := true }
  have hStill' : b.sdiIsReady l = true := hStill
  have hLoss' : b.rd (Reg.SDI_CNT_LOSS l) = s.rd (Reg.SDI_CNT_LOSS l) := hLoss
  obtain ⟨hNot, hCtl, hPins, hCfg, hDram⟩ := b.sdiLose_plant l
  obtain ⟨hCounted, hEvent, hStatus, -, -⟩ := State.sdiLose_port hStill' (by rwa [hLoss'])
  exact ⟨_, rfl, hNot, by rw [hCounted, hLoss'], hEvent, fun h => (hStatus 26 (by decide)).trans (hSkew h), hCtl.trans (hKeeps.ctl.trans (s.at_ctl t)),
    hPins.trans (hKeeps.pins.trans (s.at_pins t)), hCfg.trans (hKeeps.cfg.trans (s.at_cfg t)), hDram.trans (hKeeps.dram.trans (s.at_dram t))⟩

/-- A good copy A completes the source's frame. -/
theorem pairedFrameComplete_of_goodA_outcome :
    ∀ t x a0 b0 s c sc la lb n g p, Tab.find? s.cfg.srcs x = some c → s.streamCfg x = some sc → c.input = .sdi la → c.pairB = some lb →
    a0.writing = false → b0.writing = true → a0.packet = some (n, true, g) → s.copyExpected la (s.grp sc.readGroup).frame a0.packet = true →
    a0.digestOk = true → (s.sdiRun la).crcLines = 0 → (s.stream x).broken = false → (s.stream x).opened = some p →
    (s.rd (Reg.SDI_CNT_PAIR_A la)).toNat + 1 < 4294967296 → ∃ u, exec (.pairedFrameComplete t x a0 b0) s = .next u ∧
    Tab.get coldFrame (u.stream x).ring p = ⟨extendNear n (s.grp sc.readGroup).frame, true, true, (Tab.get coldFrame (s.stream x).ring p).at_⟩ ∧
    (u.stream x).opened = none ∧ u.rd (Reg.SDI_CNT_PAIR_A la) = BitVec.ofNat 32 ((s.rd (Reg.SDI_CNT_PAIR_A la)).toNat + 1) ∧
    u.rd (Reg.SDI_LAST_TSP_FRAME la) = BitVec.ofNat 32 n ∧ (∀ a, a ∉ [Reg.SDI_CNT_PAIR_A la, Reg.SDI_LAST_TSP_FRAME la] → u.rd a = s.rd a) ∧
    u.ctl = s.ctl ∧ u.cfg = s.cfg := by
  intro t x a b s c sc la lb n g p hSrc hStream hInput hPair hDone hBusy hPacket hExpected hDigest hCrc hWhole hOpen hCount
  rw [exec_pairedFrameComplete_of_goodA hSrc hStream hInput hPair hDone hBusy hPacket hExpected hDigest hCrc hWhole hOpen]
  obtain ⟨hStreams, hCfg, hCtl⟩ := (s.at t).pairCounted_frame la lb n
  have hRd := (s.at t).rd_pairCounted la lb n
  have hCounted := State.rd_pairCounted_count (s := s.at t) (la := la) (lb := lb) (n := n) (by rwa [State.rd_at])
  have hRun : ((s.at t).pairCounted la lb n).stream x = s.stream x := by rw [State.stream, hStreams, State.at_streams, State.stream]
  have hStream' : ((s.at t).pairCounted la lb n).streamCfg x = some sc := by rw [State.streamCfg, hCfg, State.at_cfg, ← State.streamCfg, hStream]
  simp only [State.rd_at] at hRd hCounted
  rw [State.at_cfg] at hCfg
  rw [State.at_ctl] at hCtl
  generalize (s.at t).pairCounted la lb n = v at *
  obtain ⟨hRing, hNone, hRegs, hCtl', hCfg'⟩ := State.pairComplete_frame (w := extendNear n (s.grp sc.readGroup).frame) hStream' (hRun ▸ hOpen)
  refine ⟨_, rfl, hRun ▸ hRing, hNone, (State.rd_congr hRegs _).trans hCounted, (State.rd_congr hRegs _).trans ?_, fun r hr => ?_,
    hCtl'.trans hCtl, hCfg'.trans hCfg⟩
  · rw [hRd _ (by simp), if_pos rfl]
  · simp only [List.mem_cons, List.not_mem_nil, or_false, not_or] at hr
    exact (State.rd_congr hRegs _).trans ((hRd r hr.1).trans (if_neg hr.2))

/-- While copy A is written, nothing is completed. -/
theorem pairedFrameComplete_of_writing_outcome :
    ∀ t x a0 b0 s, a0.writing = true → exec (.pairedFrameComplete t x a0 b0) s = .next (s.at t) := by
  intro t x a b s hBusy
  change execPairedFrameComplete t x a b s = _
  unfold execPairedFrameComplete
  generalize s.at t = v
  simp only [hBusy, Bool.not_true, Bool.false_and, Bool.not_false, Bool.true_and, Bool.true_or, if_true]
  split
  · split <;> rfl
  · rfl


/-- Settles O51, clause by clause: a wrong line, a CRC error, a good line; a frame that meets R314 and one that does not; a loss; a pair whose copy A
is good, and one whose copy A is still written. -/
theorem sdi_ports_check_and_become_ready : Obligations.sdi_ports_check_and_become_ready :=
  ⟨sdiLine_of_wrong_outcome, sdiLine_of_crcError_outcome, sdiLine_of_good_outcome,
    sdiReady_of_clean_outcome, sdiReady_of_unmet_outcome, sdiLost_outcome,
    pairedFrameComplete_of_goodA_outcome, pairedFrameComplete_of_writing_outcome⟩

end Sys2Proof.Machine
end

section
/-! PROOFS. Media receivers (R345–R359): what comes due for a context, its readiness, its paths and its skew. -/
namespace Sys2Proof.Machine

variable {s s₀ u : State} {t n : Nat}

/-! What a context reads is the same at a later instant. -/

@[simp] theorem State.rxUsed_at (s : State) (t n : Nat) : (s.at t).rxUsed n = s.rxUsed n := by simp [State.rxUsed]
@[simp] theorem State.rxEssence_at (s : State) (t n : Nat) : (s.at t).rxEssence n = s.rxEssence n := by simp [State.rxEssence]
@[simp] theorem State.rxLineExchange_at (s : State) (t n : Nat) : (s.at t).rxLineExchange n = s.rxLineExchange n := by simp [State.rxLineExchange]
@[simp] theorem State.rxc_at (s : State) (t n : Nat) : (s.at t).rxc n = s.rxc n := by simp [State.rxc]
@[simp] theorem State.rxField_at (s : State) (t n : Nat) : (s.at t).rxField n = s.rxField n := by simp [State.rxField]

@[simp] theorem State.rxc_setRxc_same (s : State) (n : Nat) (x : RxRun) : (s.setRxc n x).rxc n = x := by simp [State.rxc, State.setRxc]
@[simp] theorem State.rd_setRxc (s : State) (n : Nat) (x : RxRun) (a : Nat) : (s.setRxc n x).rd a = s.rd a := State.rd_congr rfl a

theorem State.rxc_congr (h : u.med = s.med) : u.rxc n = s.rxc n := congrArg (fun m : MedState => Tab.get coldRx m.rx n) h

theorem State.rd_rxcEvent_ne {i a : Nat} (hEvent : a ≠ Reg.RXC_EVENT n) (hPending : a ≠ Reg.MSIX_PENDING 0) : (s.rxcEvent n i).rd a = s.rd a :=
  State.rd_event_ne s _ 15 a _ hEvent hPending

theorem State.rdBit_rxcEvent_same {i : Nat} (hi : i < 32) : (s.rxcEvent n i).rdBit (Reg.RXC_EVENT n) i = true :=
  State.rdBit_event_same s _ 15 i (by simp; omega) hi

theorem KeepsPlant.trans {v : State} (h : KeepsPlant s u) (k : KeepsPlant u v) : KeepsPlant s v :=
  ⟨k.1.trans h.1, k.2.trans h.2, k.3.trans h.3, k.4.trans h.4, k.5.trans h.5⟩

theorem KeepsPlant.setRxc {x : RxRun} (h : KeepsPlant s₀ s) : KeepsPlant s₀ (s.setRxc n x) := h.setMed
theorem KeepsPlant.rxcEvent {i : Nat} (h : KeepsPlant s₀ s) : KeepsPlant s₀ (s.rxcEvent n i) := h.event

/-! Lines and bands that come due (R354, R357). -/

/-- A row that was read with its concealment: what it leaves of the context, and the notes of a local cause. -/
theorem State.rxRow_eq (s : State) (n ts row : Nat) : ∃ tw g, (s.rxRow n ts row).1 = (s.setTwn tw).setRxc n { s.rxc n with
    groups := g, concealed := (s.rxc n).concealed ||
      ((s.rxc n).rowGroups (s.rdFld (Reg.RXC_CFG n) 15 14) (rasterSize (s.rdFld (Reg.RXC_CFG n) 23 20)).1 ts row).2 } := by
  have hFold (ks : List Nat) (v : State) : ∃ tw, ks.foldl State.noteLocal v = v.setTwn tw := by
    induction ks generalizing v with
    | nil => exact ⟨v.twn, rfl⟩
    | cons k ks ih => exact ih (v.noteLocal k)
  unfold State.rxRow
  extract_lets c x w r base kept s1
  have h1 : ∃ tw, s1 = s.setTwn tw := by
    unfold s1
    split
    · exact hFold _ _
    · exact ⟨s.twn, rfl⟩
  obtain ⟨tw, h1⟩ := h1
  exact ⟨tw, _, congrArg (State.setRxc · n _) h1⟩

theorem State.rxRow_samples (s : State) (n ts row : Nat) : (s.rxRow n ts row).2 = inCarried (s.rdFld (Reg.RXC_CFG n) 15 14)
    (((s.rxc n).rowGroups (s.rdFld (Reg.RXC_CFG n) 15 14) (rasterSize (s.rdFld (Reg.RXC_CFG n) 23 20)).1 ts row).1.flatMap
      (groupSamples (s.rdFld (Reg.RXC_CFG n) 15 14))) := rfl

/-- A context that has read a row notes it as passed. -/
def State.rowNoted (s : State) (n ts row : Nat) : State :=
  let a := (s.rxRow n ts row).1
  a.setRxc n { a.rxc n with passed := (ts * 65536 + row) :: (a.rxc n).passed.filter fun e => e / 65536 == ts }

/-- A row goes to the sources of a context that are on the line exchange. -/
def State.rowFed (s : State) (n row : Nat) (samples : List Nat) : State :=
  (s.sourcesOf (.rxc n)).foldl (fun a src => match Tab.find? a.cfg.srcs src with
    | some c => if c.synced then a else a.keepRow src row samples
    | none => a) s

/-- A row that comes due is noted and passed on. -/
def State.rowFeeds (s : State) (n ts row : Nat) : State := (s.rowNoted n ts row).rowFed n row (s.rxRow n ts row).2

theorem exec_lineDeadline_of_due {ts row : Nat} (hUsed : s.rxUsed n = true) (hEss : s.rxEssence n = 0) (hLine : s.rxLineExchange n = true)
    (hRow : row < (rasterSize (s.rdFld (Reg.RXC_CFG n) 23 20)).2) (hTake : (s.at t).takePackets n = s.at t) (hDue : (s.at t).lineDue n ts row = true) :
    exec (.lineDeadline t n ts row) s = .next (((s.at t).rxDeadline n fun c => c.ts == ts && decide (c.pos ≤ row)).rowFeeds n ts row) := by
  change execLineDeadline t n ts row s = _
  unfold execLineDeadline
  rw [hTake]
  refine if_pos ?_
  simp only [State.rxUsed_at, State.rxEssence_at, State.rxLineExchange_at, State.rdFld_at, hUsed, hEss, hLine, hRow, hDue, decide_true]
  rfl

theorem State.rowNoted_frame (s : State) (n ts row : Nat) : (s.rowNoted n ts row).regs = s.regs ∧ (s.rowNoted n ts row).rows = s.rows ∧
    ((s.rowNoted n ts row).rxc n).doneSeq = (s.rxc n).doneSeq ∧ ((s.rowNoted n ts row).rxc n).copies = (s.rxc n).copies ∧
    ((s.rowNoted n ts row).rxc n).concealed = ((s.rxc n).concealed ||
      ((s.rxc n).rowGroups (s.rdFld (Reg.RXC_CFG n) 15 14) (rasterSize (s.rdFld (Reg.RXC_CFG n) 23 20)).1 ts row).2) ∧
    KeepsPlant s (s.rowNoted n ts row) := by
  obtain ⟨tw, g, hRow⟩ := s.rxRow_eq n ts row
  unfold State.rowNoted
  rw [hRow]
  simp only [State.rxc_setRxc_same]
  exact ⟨rfl, rfl, trivial, trivial, trivial, (KeepsPlant.refl s).setTwn.setRxc.setRxc⟩

theorem State.rowFed_of_none {row : Nat} {xs : List Nat} (h : s.sourcesOf (.rxc n) = []) : s.rowFed n row xs = s := by
  rw [State.rowFed, h, List.foldl_nil]

theorem State.rowFed_of_exchanged {row x : Nat} {xs : List Nat} {c : SrcCfg} (h : s.sourcesOf (.rxc n) = [x])
    (hFind : Tab.find? s.cfg.srcs x = some c) (hSynced : c.synced = false) : s.rowFed n row xs = s.keepRow x row xs := by
  simp [State.rowFed, h, hFind, hSynced]

/-! Numbers that no path delivered (R352). -/

theorem State.rxDeadline_of_none {within : CopyRec → Bool} (h : (s.rxc n).copies = []) : s.rxDeadline n within = s := by
  simp [State.rxDeadline, h]

theorem State.rxDeadline_of_one {within : CopyRec → Bool} {c : CopyRec} {d : Nat} (hCopies : (s.rxc n).copies = [c]) (hWithin : within c = true)
    (hDone : (s.rxc n).doneSeq = some d) (hGap : d + 1 < c.seq) : ∃ k, s.rxDeadline n within =
      ((s.setRxc n { s.rxc n with copies := [c], doneSeq := some c.seq, lost := k }).bumpBy (Reg.RXC_CNT_LOST n) (c.seq - d - 1)).rxcEvent n 2 := by
  have hOpen : d < c.seq := by omega
  have hKept : c.seq < c.seq + 65536 := by omega
  have hSome : ¬ c.seq - d - 1 = 0 := by omega
  refine ⟨(s.rxc n).lost + (c.seq - d - 1), ?_⟩
  simp [State.rxDeadline, hCopies, hWithin, hDone, hOpen, hKept, hSome]

/-! The obligation's clauses on receivers. -/

/-- A row that comes due is kept for the source of its context, concealed where packets are missing. -/
theorem lineDeadline_kept_outcome :
    ∀ t n ts row s x c r, s.rxUsed n = true → s.rxEssence n = 0 → s.rxLineExchange n = true →
    row < (rasterSize (s.rdFld (Reg.RXC_CFG n) 23 20)).2 → (s.at t).takePackets n = s.at t → (s.at t).lineDue n ts row = true →
    (s.rxc n).copies = [] → s.sourcesOf (.rxc n) = [x] → Tab.find? s.cfg.srcs x = some c → c.synced = false →
    r = (s.rxc n).rowGroups (s.rdFld (Reg.RXC_CFG n) 15 14) (rasterSize (s.rdFld (Reg.RXC_CFG n) 23 20)).1 ts row →
    ∃ u, exec (.lineDeadline t n ts row) s = .next u ∧
    Tab.get [] u.rows (lineKey x row) = inCarried (s.rdFld (Reg.RXC_CFG n) 15 14) (r.1.flatMap (groupSamples (s.rdFld (Reg.RXC_CFG n) 15 14))) ∧
    (u.rxc n).concealed = or (s.rxc n).concealed r.2 ∧ (∀ a, a ≠ lineKey x row → Tab.get [] u.rows a = Tab.get [] s.rows a) ∧
    (∀ a, u.rd a = s.rd a) ∧ u.ctl = s.ctl ∧ u.pins = s.pins ∧ u.cfg = s.cfg ∧ u.dram = s.dram := by
  intro t n ts row s x c r hUsed hEss hLine hRow hTake hDue hNoCopies hOne hFind hSynced hr
  rw [exec_lineDeadline_of_due hUsed hEss hLine hRow hTake hDue, State.rxDeadline_of_none (by rw [State.rxc_at, hNoCopies])]
  obtain ⟨hRegs, hRows, -, -, hConcealed, hKeeps⟩ := (s.at t).rowNoted_frame n ts row
  have hSamples := (s.at t).rxRow_samples n ts row
  simp only [State.rxc_at, State.rdFld_at, ← hr] at hConcealed hSamples
  rw [State.at_rows] at hRows
  rw [State.at_regs] at hRegs
  have hPlant : KeepsPlant s ((s.at t).rowNoted n ts row) := (KeepsPlant.at s t).trans hKeeps
  rw [State.rowFeeds, hSamples]
  generalize (s.at t).rowNoted n ts row = a at *
  rw [State.rowFed_of_exchanged ((State.sourcesOf_congr hPlant.cfg).trans hOne) (hPlant.cfg ▸ hFind) hSynced]
  refine ⟨_, rfl, Tab.get_put_same _ _ _ _, hConcealed, fun k hk => ?_, State.rd_congr hRegs, hPlant.ctl, hPlant.pins, hPlant.cfg, hPlant.dram⟩
  rw [← hRows]
  exact Tab.get_put_ne _ _ _ hk

/-- Numbers that no path delivered are counted lost at their line's deadline. -/
theorem lineDeadline_lost_outcome :
    ∀ t n ts row s c d, s.rxUsed n = true → s.rxEssence n = 0 → s.rxLineExchange n = true →
    row < (rasterSize (s.rdFld (Reg.RXC_CFG n) 23 20)).2 → (s.at t).takePackets n = s.at t → (s.at t).lineDue n ts row = true →
    (s.rxc n).copies = [c] → c.ts = ts → c.pos ≤ row → (s.rxc n).doneSeq = some d → d + 1 < c.seq → s.sourcesOf (.rxc n) = [] →
    (s.rd (Reg.RXC_CNT_LOST n)).toNat + (c.seq - d - 1) < 4294967296 → ∃ u, exec (.lineDeadline t n ts row) s = .next u ∧
    u.rd (Reg.RXC_CNT_LOST n) = BitVec.ofNat 32 ((s.rd (Reg.RXC_CNT_LOST n)).toNat + (c.seq - d - 1)) ∧ (u.rxc n).doneSeq = some c.seq ∧
    (u.rxc n).copies = (s.rxc n).copies ∧ u.rdBit (Reg.RXC_EVENT n) 2 = true ∧
    (∀ a, a ∉ [Reg.RXC_CNT_LOST n, Reg.RXC_EVENT n, Reg.MSIX_PENDING 0, Reg.MSIX_PENDING 1] → u.rd a = s.rd a) ∧ u.ctl = s.ctl ∧
    u.pins = s.pins ∧ u.cfg = s.cfg ∧ u.dram = s.dram := by
  intro t n ts row s c d hUsed hEss hLine hRow hTake hDue hCopies hTs hPos hDone hGap hNone hCount
  obtain ⟨k, hDeadline⟩ := State.rxDeadline_of_one (s := s.at t) (within := fun c => c.ts == ts && decide (c.pos ≤ row)) (by rwa [State.rxc_at])
    (by simp [hTs, hPos]) (by rwa [State.rxc_at]) hGap
  rw [exec_lineDeadline_of_due hUsed hEss hLine hRow hTake hDue, hDeadline]
  have hPlant := (KeepsPlant.at s t).setRxc (n := n) (x := { (s.at t).rxc n with copies := [c], doneSeq := some c.seq, lost := k })
  have hRd (a : Nat) := (State.rd_setRxc (s.at t) n { (s.at t).rxc n with copies := [c], doneSeq := some c.seq, lost := k } a).trans (State.rd_at s t a)
  have hRun := State.rxc_setRxc_same (s.at t) n { (s.at t).rxc n with copies := [c], doneSeq := some c.seq, lost := k }
  generalize (s.at t).setRxc n _ = v at *
  have hLost := State.rd_bumpBy_same v (Reg.RXC_CNT_LOST n) (c.seq - d - 1) (by rwa [hRd])
  rw [hRd] at hLost
  have hEvented (a : Nat) := State.rd_rxcEvent_ne (s := v.bumpBy (Reg.RXC_CNT_LOST n) (c.seq - d - 1)) (n := n) (i := 2) (a := a)
  have hEvent := State.rdBit_rxcEvent_same (s := v.bumpBy (Reg.RXC_CNT_LOST n) (c.seq - d - 1)) (n := n) (i := 2) (by decide)
  have hPlant' : KeepsPlant s ((v.bumpBy (Reg.RXC_CNT_LOST n) (c.seq - d - 1)).rxcEvent n 2) := hPlant.bumpBy.rxcEvent
  have hRun' : ((v.bumpBy (Reg.RXC_CNT_LOST n) (c.seq - d - 1)).rxcEvent n 2).rxc n = v.rxc n := State.rxc_congr (by simp)
  generalize (v.bumpBy (Reg.RXC_CNT_LOST n) (c.seq - d - 1)).rxcEvent n 2 = w at *
  obtain ⟨hRegs, -, hDone', hCopies', -, hKeeps⟩ := w.rowNoted_frame n ts row
  rw [State.rowFeeds, State.rowFed_of_none ((State.sourcesOf_congr (hKeeps.cfg.trans hPlant'.cfg)).trans hNone)]
  have hAll := hPlant'.trans hKeeps
  rw [hRun', hRun] at hDone' hCopies'
  refine ⟨_, rfl, (State.rd_congr hRegs _).trans ((hEvented _ (by simp) (by simp; omega)).trans hLost), hDone', hCopies'.trans hCopies.symm,
    (State.rdBit_congr (State.rd_congr hRegs _)).trans hEvent, fun a ha => ?_, hAll.ctl, hAll.pins, hAll.cfg, hAll.dram⟩
  simp only [List.mem_cons, List.not_mem_nil, or_false, not_or] at ha
  obtain ⟨hNotLost, hNotEvent, hNotPending, -⟩ := ha
  exact (State.rd_congr hRegs _).trans ((hEvented _ hNotEvent hNotPending).trans ((State.rd_bumpBy_ne _ _ hNotLost).trans (hRd a)))

/-! Bands (R357): the write engine's part. -/

/-- `t` has the pins, the mode and role, the image and the crosspoint's state of `s`. -/
structure KeepsScene (s t : State) : Prop where
  pins : t.pins = s.pins
  ctl : t.ctl = s.ctl
  cfg : t.cfg = s.cfg
  xpt : t.xpt = s.xpt

theorem KeepsPlant.scene (h : KeepsPlant s u) : KeepsScene s u := ⟨h.pins, h.ctl, h.cfg, h.xpt⟩

theorem KeepsScene.trans {v : State} (h : KeepsScene s u) (k : KeepsScene u v) : KeepsScene s v :=
  ⟨k.1.trans h.1, k.2.trans h.2, k.3.trans h.3, k.4.trans h.4⟩

theorem KeepsScene.foldl {β : Type} {l : List β} {f : State → β → State} (h : KeepsScene s₀ s)
    (hf : ∀ t b, KeepsScene s₀ t → KeepsScene s₀ (f t b)) : KeepsScene s₀ (l.foldl f s) := by
  induction l generalizing s with
  | nil => exact h
  | cons b l ih => exact ih (hf s b h)

theorem KeepsScene.setStream {i : Nat} {x : StreamRun} (h : KeepsScene s₀ s) : KeepsScene s₀ (s.setStream i x) := ⟨h.1, h.2, h.3, h.4⟩
theorem KeepsScene.dramPut {a : Nat} {bs : List Byte} (h : KeepsScene s₀ s) : KeepsScene s₀ (s.dramPut a bs) := ⟨h.1, h.2, h.3, h.4⟩
theorem KeepsScene.setRxc {x : RxRun} (h : KeepsScene s₀ s) : KeepsScene s₀ (s.setRxc n x) := ⟨h.1, h.2, h.3, h.4⟩

theorem KeepsScene.openFrame {k : Nat} (h : KeepsScene s₀ s) : KeepsScene s₀ (s.openFrame k) := by
  unfold State.openFrame
  extract_lets
  split
  · exact h
  · exact h.setStream.setStream

theorem KeepsScene.writeTile {k tile : Nat} {planes : List (List Nat)} (h : KeepsScene s₀ s) : KeepsScene s₀ (s.writeTile k tile planes) := by
  unfold State.writeTile
  extract_lets
  split
  · extract_lets
    split
    · exact h.setStream.dramPut
    · exact h.setStream
  · exact h

theorem KeepsScene.writeRow {k raster row : Nat} {samples : List Nat} (h : KeepsScene s₀ s) : KeepsScene s₀ (s.writeRow k raster row samples) := by
  unfold State.writeRow
  split
  · exact h
  · extract_lets
    split
    · exact h.setStream
    · exact h.setStream.foldl fun _ _ h => h.writeTile

theorem KeepsPlant.rxDeadline {within : CopyRec → Bool} (h : KeepsPlant s₀ s) : KeepsPlant s₀ (s.rxDeadline n within) := by
  unfold State.rxDeadline
  extract_lets _ _ here
  clear_value here
  cases here with
  | nil => exact h
  | cons => exact .ite h.setRxc h.setRxc.bumpBy.rxcEvent

theorem KeepsPlant.rxRow (s : State) (n ts row : Nat) : KeepsPlant s (s.rxRow n ts row).1 := by
  obtain ⟨tw, g, hRow⟩ := s.rxRow_eq n ts row
  rw [hRow]
  exact (KeepsPlant.refl s).setTwn.setRxc

/-- The rows of a band go to the write engine; the first band of a frame opens its frame. -/
def State.bandWritten (s : State) (n ts band : Nat) : State :=
  let raster := s.rdFld (Reg.RXC_CFG n) 23 20
  let srcs := (s.sourcesOf (.rxc n)).filter fun src => (s.streamCfg src).isSome
  let s1 := if !(s.rxc n).passed.any fun e => e / 65536 == ts then srcs.foldl State.openFrame s else s
  ((List.range 8).filter fun k => decide (8 * band + k < (rasterSize raster).2)).foldl (fun a k =>
    let r := a.rxRow n ts (8 * band + k)
    srcs.foldl (fun b src => b.writeRow src raster (8 * band + k) r.2) r.1)
    (s1.rxDeadline n fun c => c.ts == ts && decide (c.pos < 8 * (band + 1)))

theorem State.bandWritten_keeps (s : State) (n ts band : Nat) : KeepsScene s (s.bandWritten n ts band) := by
  have hOpen (ks : List Nat) : KeepsScene s (ks.foldl State.openFrame s) := (KeepsPlant.refl s).scene.foldl fun _ _ h => h.openFrame
  refine KeepsScene.foldl ?_ fun v k h => (h.trans (KeepsPlant.rxRow v n ts _).scene).foldl fun _ _ h => h.writeRow
  refine KeepsScene.trans ?_ (KeepsPlant.refl _).rxDeadline.scene
  split
  · exact hOpen _
  · exact (KeepsPlant.refl s).scene

theorem exec_bandPass_of_due {ts band : Nat} (hUsed : s.rxUsed n = true) (hEss : s.rxEssence n = 0) (hStore : s.rxLineExchange n = false)
    (hRows : 8 * band < (rasterSize (s.rdFld (Reg.RXC_CFG n) 23 20)).2) (hFresh : (s.rxc n).passed.contains (ts * 65536 + band) = false)
    (hTake : (s.at t).takePackets n = s.at t) (hDue : (s.at t).bandDue n ts band = true) : exec (.bandPass t n ts band) s =
      .next (((s.at t).bandWritten n ts band).setRxc n { ((s.at t).bandWritten n ts band).rxc n with
        passed := (ts * 65536 + band) :: (((s.at t).bandWritten n ts band).rxc n).passed.filter fun e => e / 65536 == ts }) := by
  change execBandPass t n ts band s = _
  unfold execBandPass
  rw [hTake]
  refine if_pos ?_
  rw [State.rxUsed_at, State.rxEssence_at, State.rxLineExchange_at, State.rdFld_at, State.rxc_at, hUsed, hEss, hStore, hFresh, hDue, decide_eq_true hRows]
  rfl

/-- A band that comes due passes, and is noted. -/
theorem bandPass_outcome :
    ∀ t n ts band s, s.rxUsed n = true → s.rxEssence n = 0 → s.rxLineExchange n = false →
    8 * band < (rasterSize (s.rdFld (Reg.RXC_CFG n) 23 20)).2 → (s.rxc n).passed.contains (ts * 65536 + band) = false →
    (s.at t).takePackets n = s.at t → (s.at t).bandDue n ts band = true → ∃ u, exec (.bandPass t n ts band) s = .next u ∧
    (ts * 65536 + band) ∈ (u.rxc n).passed ∧ u.ctl = s.ctl ∧ u.pins = s.pins ∧ u.cfg = s.cfg ∧ u.xpt = s.xpt := by
  intro t n ts band s hUsed hEss hStore hRows hFresh hTake hDue
  have hKeeps := (KeepsPlant.at s t).scene.trans ((s.at t).bandWritten_keeps n ts band)
  rw [exec_bandPass_of_due hUsed hEss hStore hRows hFresh hTake hDue]
  generalize (s.at t).bandWritten n ts band = a at *
  refine ⟨_, rfl, ?_, hKeeps.ctl, hKeeps.pins, hKeeps.cfg, hKeeps.xpt⟩
  rw [State.rxc_setRxc_same]
  exact List.mem_cons_self

/-! Readiness (R350). -/

/-- A context that becomes ready. -/
def State.rxGain (s : State) (n : Nat) : State :=
  (((s.wrBit (Reg.RXC_STATUS n) 31 true).rxcEvent n 1).inputReady (.rxc n)).audioBack (1024 + n)

theorem State.rd_inputReady (s : State) (x : Input) (a : Nat) : (s.inputReady x).rd a = s.rd a := by
  have hSource (v : State) (k : Nat) : (v.sourceReady k).rd a = v.rd a := by
    unfold State.sourceReady
    split
    · rfl
    · split <;> rfl
  unfold State.inputReady
  induction s.sourcesOf x generalizing s with
  | nil => rfl
  | cons k ks ih => exact (ih _).trans (hSource s k)

theorem State.rxGain_outcome (s : State) (n : Nat) : (s.rxGain n).rdBit (Reg.RXC_STATUS n) 31 = true ∧ (s.rxGain n).rdBit (Reg.RXC_EVENT n) 1 = true ∧
    (∀ a, a ∉ [Reg.RXC_STATUS n, Reg.RXC_EVENT n, Reg.MSIX_PENDING 0, Reg.MSIX_PENDING 1] → (s.rxGain n).rd a = s.rd a) ∧
    (s.rxGain n).med = s.med ∧ (s.rxGain n).ctl = s.ctl ∧ (s.rxGain n).pins = s.pins ∧ (s.rxGain n).cfg = s.cfg ∧ (s.rxGain n).dram = s.dram := by
  let a := s.wrBit (Reg.RXC_STATUS n) 31 true
  have hIntake : KeepsIntake (a.rxcEvent n 1) (s.rxGain n) := (KeepsIntake.refl _).inputReady.audioBack
  have hPlant : KeepsPlant s (a.rxcEvent n 1) := (KeepsPlant.refl s).wrBit.rxcEvent
  have hRd (r : Nat) : (s.rxGain n).rd r = (a.rxcEvent n 1).rd r := (State.rd_audioBack _ _ r).trans (State.rd_inputReady _ _ r)
  have hMed : (a.rxcEvent n 1).med = s.med := by simp [a]
  refine ⟨?_, (State.rdBit_congr (hRd _)).trans (State.rdBit_rxcEvent_same (s := a) (by decide)), fun r hr => (hRd r).trans ?_, hIntake.med.trans hMed,
    hIntake.ctl.trans hPlant.ctl, hIntake.pins.trans hPlant.pins, hIntake.cfg.trans hPlant.cfg, hIntake.dram.trans hPlant.dram⟩
  · rw [State.rdBit_congr ((hRd _).trans (State.rd_rxcEvent_ne (s := a) (by simp) (by simp; omega))), State.rdBit_wrBit _ (by decide)]
  · simp only [List.mem_cons, List.not_mem_nil, or_false, not_or] at hr
    obtain ⟨hStatus, hEvent, hPending, -⟩ := hr
    exact (State.rd_rxcEvent_ne (s := a) hEvent hPending).trans (State.rd_wrBit_ne _ _ _ hStatus)

/-- Is a context clean long enough to become ready: a frame of video or ancillary data, else 2 ms of packets? -/
def State.rxMeets (s : State) (n : Nat) : Bool :=
  if s.rxEssence n = 0 ∨ s.rxEssence n = 3 then (s.rxc n).clean
  else match (s.rxc n).since with
    | some a => decide (a + 2000000 ≤ s.now) && ((s.rxc n).pathA.recent s.now || (s.rxc n).pathB.recent s.now)
    | none => false

theorem exec_contextReady_of_met (hUsed : s.rxUsed n = true) (hStatus : s.rdBit (Reg.RXC_STATUS n) 31 = false) (hMet : (s.at t).rxMeets n = true) :
    exec (.contextReady t n) s = .next ((s.at t).rxGain n) := by
  change execContextReady t n s = _
  unfold execContextReady
  refine if_pos ?_
  change ((s.at t).rxUsed n && (s.at t).rxMeets n && !(s.at t).rdBit (Reg.RXC_STATUS n) 31) = true
  rw [State.rxUsed_at, hUsed, hMet, State.rdBit_at, hStatus]
  rfl

/-- A context that meets R350 becomes ready. -/
theorem State.contextReady_of_met (hUsed : s.rxUsed n = true) (hStatus : s.rdBit (Reg.RXC_STATUS n) 31 = false) (hMet : (s.at t).rxMeets n = true) :
    ∃ u, exec (.contextReady t n) s = .next u ∧ u.rdBit (Reg.RXC_STATUS n) 31 = true ∧ u.rdBit (Reg.RXC_EVENT n) 1 = true ∧
    (∀ a, a ∉ [Reg.RXC_STATUS n, Reg.RXC_EVENT n, Reg.MSIX_PENDING 0, Reg.MSIX_PENDING 1] → u.rd a = s.rd a) ∧ u.med = s.med ∧ u.ctl = s.ctl ∧
    u.pins = s.pins ∧ u.cfg = s.cfg ∧ u.dram = s.dram := by
  obtain ⟨hReady, hEvent, hRd, hMed, hCtl, hPins, hCfg, hDram⟩ := (s.at t).rxGain_outcome n
  exact ⟨_, exec_contextReady_of_met hUsed hStatus hMet, hReady, hEvent, fun a ha => (hRd a ha).trans (s.rd_at t a), hMed.trans (s.at_med t),
    hCtl.trans (s.at_ctl t), hPins.trans (s.at_pins t), hCfg.trans (s.at_cfg t), hDram.trans (s.at_dram t)⟩

theorem contextReady_of_clean_outcome :
    ∀ t n s, s.rxUsed n = true → s.rxEssence n = 0 ∨ s.rxEssence n = 3 → s.rdBit (Reg.RXC_STATUS n) 31 = false → (s.rxc n).clean = true →
    ∃ u, exec (.contextReady t n) s = .next u ∧ u.rdBit (Reg.RXC_STATUS n) 31 = true ∧ u.rdBit (Reg.RXC_EVENT n) 1 = true ∧
    (∀ a, a ∉ [Reg.RXC_STATUS n, Reg.RXC_EVENT n, Reg.MSIX_PENDING 0, Reg.MSIX_PENDING 1] → u.rd a = s.rd a) ∧ u.med = s.med ∧
    u.ctl = s.ctl ∧ u.pins = s.pins ∧ u.cfg = s.cfg ∧ u.dram = s.dram := by
  intro t n s hUsed hEss hStatus hClean
  refine State.contextReady_of_met hUsed hStatus ?_
  rw [State.rxMeets, State.rxEssence_at, State.rxc_at, if_pos hEss, hClean]

theorem contextReady_of_packets_outcome :
    ∀ t n s v, s.rxUsed n = true → s.rxEssence n = 1 ∨ s.rxEssence n = 2 → s.rdBit (Reg.RXC_STATUS n) 31 = false → (s.rxc n).since = some v →
    v + 2000000 ≤ max s.now t → (s.rxc n).pathA.recent (max s.now t) = true → ∃ u, exec (.contextReady t n) s = .next u ∧
    u.rdBit (Reg.RXC_STATUS n) 31 = true ∧ u.rdBit (Reg.RXC_EVENT n) 1 = true ∧
    (∀ a, a ∉ [Reg.RXC_STATUS n, Reg.RXC_EVENT n, Reg.MSIX_PENDING 0, Reg.MSIX_PENDING 1] → u.rd a = s.rd a) ∧ u.med = s.med ∧
    u.ctl = s.ctl ∧ u.pins = s.pins ∧ u.cfg = s.cfg ∧ u.dram = s.dram := by
  intro t n s v hUsed hEss hStatus hSince hLong hRecent
  refine State.contextReady_of_met hUsed hStatus ?_
  rw [State.rxMeets, State.rxEssence_at, State.rxc_at, if_neg (by omega), hSince, State.at_now, hRecent]
  simpa using hLong

/-- A context whose paths are both silent is not ready. -/
theorem contextNotReady_outcome :
    ∀ t n s, s.rxUsed n = true → s.rdBit (Reg.RXC_STATUS n) 31 = true → (s.at t).takePackets n = s.at t →
    (s.rxc n).pathA.recent (max s.now t) = false → (s.rxc n).pathB.recent (max s.now t) = false →
    ∃ u, exec (.contextNotReady t n 0) s = .next u ∧ u.rdBit (Reg.RXC_STATUS n) 31 = false ∧ u.rdBit (Reg.RXC_EVENT n) 0 = true ∧
    (u.rxc n).clean = false ∧ (u.rxc n).since = none ∧ u.ctl = s.ctl ∧ u.pins = s.pins ∧ u.cfg = s.cfg ∧ u.dram = s.dram := by
  intro t n s hUsed hReady hTake hA hB
  have hRun : exec (.contextNotReady t n 0) s = .next ((s.at t).rxNotReady n) := by
    change execContextNotReady t n 0 s = _
    unfold execContextNotReady
    rw [hTake]
    refine if_pos ?_
    rw [if_pos rfl, State.rxUsed_at, State.rxc_at, State.at_now, hUsed, hA, hB]
    rfl
  rw [hRun]
  have hReady' : (s.at t).rdBit (Reg.RXC_STATUS n) 31 = true := by rwa [State.rdBit_at]
  let a := (s.at t).setRxc n { (s.at t).rxc n with clean := false, since := none }
  let b := a.wrBit (Reg.RXC_STATUS n) 31 false
  have hLost : (s.at t).rxNotReady n = ((b.rxcEvent n 0).inputLost (.rxc n)).audioLost (1024 + n) := if_pos hReady'
  have hIntake : KeepsIntake (b.rxcEvent n 0) ((s.at t).rxNotReady n) := hLost ▸ (KeepsIntake.refl _).inputLost.audioLost
  have hPlant : KeepsPlant s (b.rxcEvent n 0) := (KeepsPlant.at s t).setRxc.wrBit.rxcEvent
  have hMed : (b.rxcEvent n 0).med = a.med := by simp [b]
  have hStatus : b.rdBit (Reg.RXC_STATUS n) 31 = false := State.rdBit_wrBit _ (by decide)
  have hRun : ((s.at t).rxNotReady n).rxc n = a.rxc n := State.rxc_congr (hIntake.med.trans hMed)
  have hRun' : a.rxc n = { (s.at t).rxc n with clean := false, since := none } := State.rxc_setRxc_same _ _ _
  clear_value b
  refine ⟨_, rfl, ?_, (State.rdBit_congr (hIntake.rd _ (by simp; omega))).trans (State.rdBit_rxcEvent_same (by decide)), ?_, ?_,
    hIntake.ctl.trans hPlant.ctl, hIntake.pins.trans hPlant.pins, hIntake.cfg.trans hPlant.cfg, hIntake.dram.trans hPlant.dram⟩
  · exact (State.rdBit_congr ((hIntake.rd _ (by simp; omega)).trans (State.rd_rxcEvent_ne (by simp) (by simp; omega)))).trans hStatus
  · rw [hRun, hRun']
  · rw [hRun, hRun']

/-! Paths and skew (R351). -/

/-- A silent path B is inactive. -/
theorem pathInactive_outcome :
    ∀ t n s, s.rdBit (Reg.RXC_STATUS n) 29 = true → (s.at t).takePackets n = s.at t → (s.rxc n).pathB.recent (max s.now t) = false →
    ∃ u, exec (.pathInactive t n 1) s = .next u ∧ u.rdBit (Reg.RXC_STATUS n) 29 = false ∧ u.rdBit (Reg.RXC_EVENT n) 4 = true ∧
    (∀ a, a ∉ [Reg.RXC_STATUS n, Reg.RXC_EVENT n, Reg.MSIX_PENDING 0, Reg.MSIX_PENDING 1] → u.rd a = s.rd a) ∧ u.med = s.med ∧
    u.ctl = s.ctl ∧ u.pins = s.pins ∧ u.cfg = s.cfg ∧ u.dram = s.dram := by
  intro t n s hActive hTake hSilent
  have hRun : exec (.pathInactive t n 1) s = .next (((s.at t).wrBit (Reg.RXC_STATUS n) 29 false).rxcEvent n 4) := by
    change execPathInactive t n 1 s = _
    unfold execPathInactive
    rw [hTake]
    refine if_pos ?_
    rw [if_neg (by decide), if_neg (by decide), State.rdBit_at, State.rxc_at, State.at_now, hActive, hSilent]
    rfl
  have hPlant : KeepsPlant s ((s.at t).wrBit (Reg.RXC_STATUS n) 29 false) := (KeepsPlant.at s t).wrBit
  have hBit : ((s.at t).wrBit (Reg.RXC_STATUS n) 29 false).rdBit (Reg.RXC_STATUS n) 29 = false := State.rdBit_wrBit _ (by decide)
  have hRd (a : Nat) (ha : a ≠ Reg.RXC_STATUS n) : ((s.at t).wrBit (Reg.RXC_STATUS n) 29 false).rd a = s.rd a :=
    (State.rd_wrBit_ne _ _ _ ha).trans (State.rd_at s t a)
  have hMed : ((s.at t).wrBit (Reg.RXC_STATUS n) 29 false).med = s.med := s.at_med t
  generalize (s.at t).wrBit (Reg.RXC_STATUS n) 29 false = a at *
  have hEnd : KeepsPlant s (a.rxcEvent n 4) := hPlant.rxcEvent
  refine ⟨_, hRun, (State.rdBit_congr (State.rd_rxcEvent_ne (by simp) (by simp; omega))).trans hBit, State.rdBit_rxcEvent_same (by decide),
    fun r hr => ?_, by simpa using hMed, hEnd.ctl, hEnd.pins, hEnd.cfg, hEnd.dram⟩
  simp only [List.mem_cons, List.not_mem_nil, or_false, not_or] at hr
  obtain ⟨hStatus, hEvent, hPending, -⟩ := hr
  exact (State.rd_rxcEvent_ne hEvent hPending).trans (hRd r hStatus)

/-- The mean skew since the last measurement, in µs. -/
def State.meanSkew (s : State) (n : Nat) : Int := (s.rxc n).skewSum / (s.rxc n).skewN / 1000

/-- A context with its mean skew shown, and tested against its limit. -/
def State.skewShown (s : State) (n : Nat) (beyond : Bool) : State :=
  ((s.setRxc n { s.rxc n with skewSum := 0, skewN := 0 }).wrFld (Reg.RXC_SKEW n) 31 16
    (ofSigned 16 (clampInt (-32768) 32767 (s.meanSkew n)))).wrBit (Reg.RXC_STATUS n) 28 beyond

theorem exec_skewMeasure (hUsed : s.rxUsed n = true) (hSome : (s.rxc n).skewN ≠ 0) : exec (.skewMeasure t n) s =
    .next (if s.rdFld (Reg.RXC_SKEW n) 15 0 < (s.meanSkew n).natAbs then
      (((s.at t).skewShown n true).rxcEvent n 6).raise (0x500 + s.rxField n) 0x51 n 2 else (s.at t).skewShown n false) := by
  change execSkewMeasure t n s = _
  have hMean : (s.at t).meanSkew n = s.meanSkew n := by simp [State.meanSkew]
  unfold execSkewMeasure
  rw [← hMean, ← State.rdFld_at s t, ← State.rxField_at s t]
  rw [← State.rxUsed_at s t] at hUsed
  rw [← State.rxc_at s t] at hSome
  generalize s.at t = a at *
  refine (if_neg (by simp [hUsed, hSome])).trans ?_
  by_cases h : a.rdFld (Reg.RXC_SKEW n) 15 0 < (a.meanSkew n).natAbs
  · have hBeyond : decide (a.rdFld (Reg.RXC_SKEW n) 15 0 < ((a.rxc n).skewSum / (a.rxc n).skewN / 1000).natAbs) = true := decide_eq_true h
    rw [if_pos h]
    simp only [hBeyond]
    rfl
  · have hWithin : decide (a.rdFld (Reg.RXC_SKEW n) 15 0 < ((a.rxc n).skewSum / (a.rxc n).skewN / 1000).natAbs) = false := decide_eq_false h
    rw [if_neg h]
    simp only [hWithin]
    rfl

theorem State.skewShown_frame (s : State) (n : Nat) (beyond : Bool) : (s.skewShown n beyond).rdBit (Reg.RXC_STATUS n) 28 = beyond ∧
    (s.skewShown n beyond).rdFld (Reg.RXC_SKEW n) 31 16 = ofSigned 16 (clampInt (-32768) 32767 (s.meanSkew n)) ∧
    ((s.skewShown n beyond).rxc n).skewN = 0 ∧ ((s.skewShown n beyond).rxc n).skewSum = 0 ∧
    (∀ a, a ∉ [Reg.RXC_SKEW n, Reg.RXC_STATUS n] → (s.skewShown n beyond).rd a = s.rd a) ∧ (s.skewShown n beyond).now = s.now ∧
    (s.skewShown n beyond).flt = s.flt := by
  have hSmall : ofSigned 16 (clampInt (-32768) 32767 (s.meanSkew n)) < 65536 := by
    unfold ofSigned
    omega
  have hRun : (s.skewShown n beyond).rxc n = { s.rxc n with skewSum := 0, skewN := 0 } := State.rxc_setRxc_same _ _ _
  refine ⟨State.rdBit_wrBit _ (by decide), ?_, by rw [hRun], by rw [hRun], fun a ha => ?_, rfl, rfl⟩
  · rw [State.skewShown, State.rdFld_congr (State.rd_wrBit_ne _ _ _ (by simp)), State.rdFld_wrFld_same (by decide)]
    exact Nat.mod_eq_of_lt hSmall
  · simp only [List.mem_cons, List.not_mem_nil, or_false, not_or] at ha
    rw [State.skewShown, State.rd_wrBit_ne _ _ _ ha.2, State.rd_wrFld_ne _ _ _ _ ha.1, State.rd_setRxc]

theorem KeepsPlant.skewShown {beyond : Bool} (h : KeepsPlant s₀ s) : KeepsPlant s₀ (s.skewShown n beyond) := h.setRxc.wrFld.wrBit

/-- A mean skew within its limit is shown. -/
theorem skewMeasure_within_outcome :
    ∀ t n s, s.rxUsed n = true → (s.rxc n).skewN ≠ 0 → ((s.rxc n).skewSum / (s.rxc n).skewN / 1000).natAbs ≤ s.rdFld (Reg.RXC_SKEW n) 15 0 →
    ∃ u, exec (.skewMeasure t n) s = .next u ∧ u.rdBit (Reg.RXC_STATUS n) 28 = false ∧ (u.rxc n).skewN = 0 ∧ (u.rxc n).skewSum = 0 ∧
    u.flt = s.flt ∧ (∀ a, a ∉ [Reg.RXC_SKEW n, Reg.RXC_STATUS n] → u.rd a = s.rd a) ∧ u.ctl = s.ctl ∧ u.pins = s.pins ∧ u.cfg = s.cfg ∧
    u.dram = s.dram := by
  intro t n s hUsed hSome hWithin
  rw [exec_skewMeasure hUsed hSome, if_neg (show ¬ _ < (s.meanSkew n).natAbs from Nat.not_lt.mpr hWithin)]
  obtain ⟨hBit, -, hN, hSum, hRd, -, hFlt⟩ := (s.at t).skewShown_frame n false
  have hPlant := (KeepsPlant.at s t).skewShown (n := n) (beyond := false)
  exact ⟨_, rfl, hBit, hN, hSum, hFlt.trans (s.at_flt t), fun a ha => (hRd a ha).trans (s.rd_at t a), hPlant.ctl, hPlant.pins, hPlant.cfg, hPlant.dram⟩

/-- A mean skew beyond its limit is shown, with its event and its record of class 2. -/
theorem skewMeasure_beyond_outcome :
    ∀ t n s (us : Int), s.rxUsed n = true → (s.rxc n).skewN ≠ 0 → us = (s.rxc n).skewSum / (s.rxc n).skewN / 1000 →
    s.rdFld (Reg.RXC_SKEW n) 15 0 < us.natAbs → ∃ u, exec (.skewMeasure t n) s = .next u ∧ u.rdBit (Reg.RXC_STATUS n) 28 = true ∧
    u.rdFld (Reg.RXC_SKEW n) 31 16 = ofSigned 16 (clampInt (-32768) 32767 us) ∧ u.rdBit (Reg.RXC_EVENT n) 6 = true ∧
    (⟨max s.now t, 0x500 + s.rxField n, 0x51, n, 2⟩ : FaultMsg) ∈ u.flt.inbox ∧ u.ctl = s.ctl ∧ u.pins = s.pins ∧ u.cfg = s.cfg ∧
    u.dram = s.dram := by
  intro t n s us hUsed hSome hMean hBeyond
  have hMean' : (s.at t).meanSkew n = us := by rw [State.meanSkew, State.rxc_at, hMean]
  have hLow : n % 4294967296 = n := by
    have hBound : n < 8192 := by
      simp only [State.rxUsed, Bool.and_eq_true, decide_eq_true_eq] at hUsed
      exact hUsed.1.1
    omega
  rw [exec_skewMeasure hUsed hSome, if_pos (by rwa [State.meanSkew, ← hMean])]
  obtain ⟨hBit, hFld, -, -, -, hNow, -⟩ := (s.at t).skewShown_frame n true
  have hPlant := (KeepsPlant.at s t).skewShown (n := n) (beyond := true)
  rw [hMean'] at hFld
  rw [State.at_now] at hNow
  generalize (s.at t).skewShown n true = a at *
  have hEnd : KeepsPlant s ((a.rxcEvent n 6).raise (0x500 + s.rxField n) 0x51 n 2) := hPlant.rxcEvent.raise
  have hRaised := State.mem_inbox_raise (a.rxcEvent n 6) (0x500 + s.rxField n) 0x51 n 2
  rw [hLow, show (a.rxcEvent n 6).now = max s.now t by simpa using hNow] at hRaised
  exact ⟨_, rfl, (State.rdBit_congr (State.rd_rxcEvent_ne (by simp) (by simp; omega))).trans hBit,
    (State.rdFld_congr (State.rd_rxcEvent_ne (by simp) (by simp; omega))).trans hFld, State.rdBit_rxcEvent_same (s := a) (by decide), hRaised, hEnd.ctl,
    hEnd.pins, hEnd.cfg, hEnd.dram⟩

end Sys2Proof.Machine
end

section
/-! PROOFS. Media senders and membership (R346–R348, R359): a packet is launched, or dropped while its link is down; a port reports its groups. -/
namespace Sys2Proof.Machine

variable {s s₀ u : State} {t n : Nat}

@[simp] theorem State.txc_setTxc_same (s : State) (n : Nat) (x : TxRun) : (s.setTxc n x).txc n = x := by simp [State.txc, State.setTxc]
theorem State.txc_congr (h : u.med = s.med) : u.txc n = s.txc n := congrArg (fun m : MedState => Tab.get coldTx m.tx n) h
@[simp] theorem State.txc_at (s : State) (t n : Nat) : (s.at t).txc n = s.txc n := State.txc_congr (s.at_med t)
@[simp] theorem State.portUp_at (s : State) (t p : Nat) : (s.at t).portUp p = s.portUp p := by simp [State.portUp]
@[simp] theorem State.txLit_at (s : State) (t g p : Nat) : (s.at t).txLit g p = s.txLit g p := by simp [State.txLit, State.pstate]
@[simp] theorem State.txDst_at (s : State) (t n : Nat) : (s.at t).txDst n = s.txDst n := by simp [State.txDst]
@[simp] theorem State.isEth_at (s : State) (t p : Nat) : (s.at t).isEth p = s.isEth p := by simp [State.isEth]
@[simp] theorem State.memberships_at (s : State) (t p : Nat) : (s.at t).memberships p = s.memberships p := by
  simp [State.memberships, State.rxcs, State.contexts]
@[simp] theorem State.tgRate_at (s : State) (t g : Nat) : (s.at t).tgRate g = s.tgRate g := by simp [State.tgRate]
@[simp] theorem State.rtpHead_at (s : State) (t n seq ts : Nat) (m : Bool) : (s.at t).rtpHead n seq ts m = s.rtpHead n seq ts m := by
  simp [State.rtpHead]

theorem State.txFrame_congr {port dst : Nat} {rtp : List Byte} (h : u.regs = s.regs) : u.txFrame n port dst rtp = s.txFrame n port dst rtp := by
  have hRd (a : Nat) : u.rd a = s.rd a := State.rd_congr h a
  simp only [State.txFrame, State.rdFld, hRd]

theorem State.portUp_congr {p : Nat} (h : u.regs = s.regs) : u.portUp p = s.portUp p := State.rdBit_congr (State.rd_congr h _)

theorem State.rd_txcEvent_ne {i a : Nat} (hEvent : a ≠ Reg.TXC_EVENT n) (hPending : a ≠ Reg.MSIX_PENDING 0) : (s.txcEvent n i).rd a = s.rd a :=
  State.rd_event_ne s _ 15 a _ hEvent hPending

@[simp] theorem State.rd_setMac (s : State) (p : Nat) (x : MacRun) (a : Nat) : (s.setMac p x).rd a = s.rd a := State.rd_congr rfl a

theorem State.rd_bump64_ne (s : State) {lo hi a : Nat} (k : Nat) (hLo : a ≠ lo) (hHi : a ≠ hi) : (s.bump64 lo hi k).rd a = s.rd a :=
  State.rd_wr64_ne s _ hLo hHi

theorem KeepsPlant.setTxc {x : TxRun} (h : KeepsPlant s₀ s) : KeepsPlant s₀ (s.setTxc n x) := h.setMed
theorem KeepsPlant.txcEvent {i : Nat} (h : KeepsPlant s₀ s) : KeepsPlant s₀ (s.txcEvent n i) := h.event
theorem KeepsPlant.putFrame {p k : Nat} {body : List Byte} (h : KeepsPlant s₀ s) : KeepsPlant s₀ (s.putFrame p k body) := h.bump64.bump64.emit.setMac
theorem KeepsPlant.txLateIf {b : Bool} {due : Int} (h : KeepsPlant s₀ s) : KeepsPlant s₀ (s.txLateIf b n due) := .ite h.setTxc.bump.txcEvent h

/-! A packet on its port (R330, R347, R348). -/

theorem State.putFrame_frame (s : State) (p k : Nat) (body : List Byte) :
    (s.putFrame p k body).out = s.out ++ [.frame p k (padTo 60 body ++ toLe 4 (crc32 (padTo 60 body)))] ∧ (s.putFrame p k body).med = s.med ∧
    (s.putFrame p k body).now = s.now ∧ ∀ a, a ∉ [Reg.MAC_CNT_TX_OK_LO p, Reg.MAC_CNT_TX_OK_HI p, Reg.MAC_CNT_TX_OCTETS_LO p, Reg.MAC_CNT_TX_OCTETS_HI p] →
      (s.putFrame p k body).rd a = s.rd a := by
  unfold State.putFrame
  extract_lets padded whole s1 x
  refine ⟨by simp [State.setMac, s1, State.emit, padded, whole], by simp [State.setMac, s1], by simp [State.setMac, s1], fun a ha => ?_⟩
  simp only [List.mem_cons, List.not_mem_nil, or_false, not_or] at ha
  obtain ⟨hOkLo, hOkHi, hOctLo, hOctHi⟩ := ha
  rw [State.rd_setMac, State.rd_emit, State.rd_bump64_ne _ _ hOctLo hOctHi, State.rd_bump64_ne _ _ hOkLo hOkHi]

/-- Counting a packet late leaves what was sent and dropped. -/
theorem State.txLateIf_frame (s : State) (b : Bool) (n : Nat) (due : Int) : ((s.txLateIf b n due).txc n).sent = (s.txc n).sent ∧
    ((s.txLateIf b n due).txc n).drop = (s.txc n).drop ∧ (s.txLateIf b n due).rd (Reg.TXC_CNT_DROP n) = s.rd (Reg.TXC_CNT_DROP n) := by
  unfold State.txLateIf
  split
  · let a := s.setTxc n { s.txc n with late := (s.txc n).late + 1 }
    have hRun : ((a.bump (Reg.TXC_CNT_LATE n)).txcEvent n 0).txc n = a.txc n := State.txc_congr (by simp)
    have hRun' : a.txc n = { s.txc n with late := (s.txc n).late + 1 } := State.txc_setTxc_same _ _ _
    have hRd : ((a.bump (Reg.TXC_CNT_LATE n)).txcEvent n 0).rd (Reg.TXC_CNT_DROP n) = a.rd (Reg.TXC_CNT_DROP n) :=
      (State.rd_txcEvent_ne (by simp) (by simp; omega)).trans (State.rd_bump_ne _ (by simp))
    have hSame : a.rd (Reg.TXC_CNT_DROP n) = s.rd (Reg.TXC_CNT_DROP n) := State.rd_congr rfl _
    have hEnd := hRun.trans hRun'
    exact ⟨(congrArg TxRun.sent hEnd :), (congrArg TxRun.drop hEnd :), hRd.trans hSame⟩
  · exact ⟨rfl, rfl, rfl⟩

/-- A packet on a port that is up leaves it, and is counted. -/
theorem State.txOffer_of_up {port dst : Nat} {due : Int} {rtp : List Byte} (hUp : s.portUp port = true) (hFree : s.rdBit (Reg.MAC_STATUS port) 27 = false) :
    s.txOffer n port dst due rtp true = ((s.putFrame port 0 (s.txFrame n port dst rtp)).setTxc n { s.txc n with sent := (s.txc n).sent + 1 }).bump64
      (Reg.TXC_CNT_SENT_LO n) (Reg.TXC_CNT_SENT_HI n) 1 := by
  rw [State.txOffer, hFree, if_neg (by simp), State.txPut, if_pos hUp, if_pos rfl]

/-- A packet on a port that is down is dropped, and counted. -/
theorem State.txOffer_of_down {port dst : Nat} {due : Int} {rtp : List Byte} (hDown : s.portUp port = false) :
    s.txOffer n port dst due rtp true = (((s.setTxc n { s.txc n with drop := (s.txc n).drop + 1 }).bump (Reg.TXC_CNT_DROP n)).txcEvent n 1).bump64
      (Reg.MAC_CNT_TX_DROP_LINK_LO port) (Reg.MAC_CNT_TX_DROP_LINK_HI port) 1 := by
  rw [State.txOffer, hDown, if_neg (by simp), State.txPut, hDown, if_neg (by simp)]

/-! A launch (R346). -/

/-- Packets of a frame of a transmit context. -/
def State.txPackets (s : State) (n : Nat) : Nat := max 1 (s.rdFld (Reg.TXC_PKT n) 15 0)

/-- The sequence number of a packet. -/
def State.txSeq (s : State) (n frame i : Nat) : Nat := (frame * s.txPackets n + i) % 4294967296

/-- The payload of a video packet. -/
def State.txPayload (s : State) (n d : Nat) (c : DstCfg) (frame i : Nat) : List Byte :=
  videoPayload c.fmt (s.txPackets n) i (s.txSeq n frame i) (s.videoData d c frame (s.txPackets n) i)

/-- Is a packet the last of its frame or field? -/
def State.txLast (s : State) (n : Nat) (c : DstCfg) (i : Nat) : Bool :=
  if twoFields c.fmt.raster then (i + 1) % max 1 (s.txPackets n / 2) == 0 else i + 1 == s.txPackets n

/-- A video packet goes out on its context's paths. -/
def State.videoLaunched (s : State) (n d : Nat) (c : DstCfg) (frame i ready la : Nat) : State :=
  ((s.digestPayload n frame (i == 0) (s.txPayload n d c frame i)).txSend n (s.launchDue n frame i ready la c)
    (s.rtpHead n (s.txSeq n frame i) (frameStamp (s.tgRate c.tg) frame) (s.txLast n c i) ++ s.txPayload n d c frame i)).wrBit (Reg.TXC_STATUS n) 31 true

theorem State.txcDropped_none (s : State) (n : Nat) : s.txcDropped n 0 = s := if_pos rfl

/-- A context on, of essence 0. -/
theorem topNibble_of_video {w : Word} (h : fld w 31 28 = 8) : bit w 31 = true ∧ fld w 30 28 = 0 := by
  have hw := w.isLt
  have hTop : w.toNat / 268435456 % 16 = 8 := h
  refine ⟨?_, ?_⟩
  · rw [bit, BitVec.getLsbD, Nat.testBit_eq_decide_div_mod_eq, decide_eq_true_eq]
    omega
  · change w.toNat / 268435456 % 8 = 0
    omega

theorem exec_launch_of_video {frame i ready la d : Nat} {c : DstCfg} (hn : n < 8192) (hOn : s.rdFld (Reg.TXC_CFG n) 31 28 = 8)
    (hFree : s.rdBit (Reg.TXC_STATUS n) 30 = false) (hDst : s.txDst n = some (d, c)) (hLit : s.txLit c.tg (s.rdFld (Reg.TXC_PATHS n) 9 0) = true)
    (hDue : (s.at t).launchDue n frame i ready la c ≤ ((s.at t).deviceTime : Int)) :
    exec (.launch t n frame i ready la) s = .next ((s.at t).videoLaunched n d c frame i ready la) := by
  rw [← State.rdFld_at s t] at hOn
  obtain ⟨hOn', hVideo⟩ := topNibble_of_video hOn
  rw [← State.rdBit_at s t] at hFree
  rw [← State.txDst_at s t] at hDst
  rw [← State.txLit_at s t, ← State.rdFld_at s t (Reg.TXC_PATHS n)] at hLit
  change execLaunch t n frame i ready la s = _
  unfold execLaunch
  generalize s.at t = a at *
  simp only [hOn', hFree, Nat.not_le.mpr hn, hVideo, hDst, hLit, Int.not_lt.mpr hDue, Bool.true_eq_false, Bool.false_eq_true, or_self, true_or, if_true, if_false,
    ite_self, State.txcDropped_none]
  rfl

/-- On one path a packet is offered once. -/
theorem State.txSend_of_one {due : Int} {rtp : List Byte} (hOne : s.rdBit (Reg.TXC_PATHS n) 31 = false) : s.txSend n due rtp =
    (s.txOffer n (s.rdFld (Reg.TXC_PATHS n) 9 0) (s.rd (Reg.TXC_DST_A n)).toNat due rtp true).txLateIf
      (!s.rdBit (Reg.MAC_STATUS (s.rdFld (Reg.TXC_PATHS n) 9 0)) 27) n due := by
  have hBit : bit (s.rd (Reg.TXC_PATHS n)) 31 = false := hOne
  rw [State.txSend]
  simp only [hBit, Bool.false_eq_true, if_false]
  rfl

/-- A packet on one path whose port is up and not held: its frame is the first output. -/
theorem State.txSend_of_up {due : Int} {rtp : List Byte} {port : Nat} (hOne : s.rdBit (Reg.TXC_PATHS n) 31 = false)
    (hPort : s.rdFld (Reg.TXC_PATHS n) 9 0 = port) (hUp : s.portUp port = true) (hHeld : s.rdBit (Reg.MAC_STATUS port) 27 = false) :
    KeepsPlant s (s.txSend n due rtp) ∧ ((s.txSend n due rtp).txc n).sent = (s.txc n).sent + 1 ∧ ((s.txSend n due rtp).txc n).drop = (s.txc n).drop ∧
    s.out ++ [.frame port 0 (padTo 60 (s.txFrame n port (s.rd (Reg.TXC_DST_A n)).toNat rtp) ++
      toLe 4 (crc32 (padTo 60 (s.txFrame n port (s.rd (Reg.TXC_DST_A n)).toNat rtp))))] <+: (s.txSend n due rtp).out := by
  subst hPort
  rw [State.txSend_of_one hOne, State.txOffer_of_up hUp hHeld]
  generalize s.rdFld (Reg.TXC_PATHS n) 9 0 = port at *
  obtain ⟨hOut, hMed, -, -⟩ := s.putFrame_frame port 0 (s.txFrame n port (s.rd (Reg.TXC_DST_A n)).toNat rtp)
  have hPlant := (KeepsPlant.refl s).putFrame (p := port) (k := 0) (body := s.txFrame n port (s.rd (Reg.TXC_DST_A n)).toNat rtp)
  generalize s.putFrame port 0 _ = a at hOut hPlant ⊢
  let b := (a.setTxc n { s.txc n with sent := (s.txc n).sent + 1 }).bump64 (Reg.TXC_CNT_SENT_LO n) (Reg.TXC_CNT_SENT_HI n) 1
  have hRun : b.txc n = { s.txc n with sent := (s.txc n).sent + 1 } := (State.txc_congr (by simp [b])).trans (State.txc_setTxc_same a n _)
  have hOut' : b.out = a.out := by simp [b, State.setTxc]
  have hPlant' : KeepsPlant s b := hPlant.setTxc.bump64
  change KeepsPlant s (b.txLateIf _ n due) ∧ ((b.txLateIf _ n due).txc n).sent = _ ∧ ((b.txLateIf _ n due).txc n).drop = _ ∧ _ <+: (b.txLateIf _ n due).out
  obtain ⟨hSent, hDrop, -⟩ := b.txLateIf_frame (!s.rdBit (Reg.MAC_STATUS port) 27) n due
  have hMore : b.out <+: (b.txLateIf (!s.rdBit (Reg.MAC_STATUS port) 27) n due).out := ((Continues.refl b).txLateIf).out
  refine ⟨hPlant'.txLateIf, hSent.trans (by rw [hRun]), hDrop.trans (by rw [hRun]), ?_⟩
  rwa [hOut', hOut] at hMore

/-- A packet on one path whose port is down. -/
theorem State.txSend_of_down {due : Int} {rtp : List Byte} (hOne : s.rdBit (Reg.TXC_PATHS n) 31 = false) (hn : n < 8192)
    (hDown : s.portUp (s.rdFld (Reg.TXC_PATHS n) 9 0) = false) (hCount : (s.rd (Reg.TXC_CNT_DROP n)).toNat + 1 < 4294967296) :
    KeepsPlant s (s.txSend n due rtp) ∧ ((s.txSend n due rtp).txc n).drop = (s.txc n).drop + 1 ∧ ((s.txSend n due rtp).txc n).sent = (s.txc n).sent ∧
    (s.txSend n due rtp).rd (Reg.TXC_CNT_DROP n) = BitVec.ofNat 32 ((s.rd (Reg.TXC_CNT_DROP n)).toNat + 1) := by
  have hLane : s.rdFld (Reg.TXC_PATHS n) 9 0 < 1024 := Nat.mod_lt _ (by decide)
  rw [State.txSend_of_one hOne, State.txOffer_of_down hDown]
  generalize s.rdFld (Reg.TXC_PATHS n) 9 0 = port at *
  let a := s.setTxc n { s.txc n with drop := (s.txc n).drop + 1 }
  let b := ((a.bump (Reg.TXC_CNT_DROP n)).txcEvent n 1).bump64 (Reg.MAC_CNT_TX_DROP_LINK_LO port) (Reg.MAC_CNT_TX_DROP_LINK_HI port) 1
  have hRun : b.txc n = { s.txc n with drop := (s.txc n).drop + 1 } := (State.txc_congr (s := a) (by simp [b])).trans (State.txc_setTxc_same s n _)
  have hPlant : KeepsPlant s b := (KeepsPlant.refl s).setTxc.bump.txcEvent.bump64
  have hBefore : a.rd (Reg.TXC_CNT_DROP n) = s.rd (Reg.TXC_CNT_DROP n) := State.rd_congr rfl _
  have hCounted : b.rd (Reg.TXC_CNT_DROP n) = BitVec.ofNat 32 ((s.rd (Reg.TXC_CNT_DROP n)).toNat + 1) := by
    have hLo : Reg.TXC_CNT_DROP n ≠ Reg.MAC_CNT_TX_DROP_LINK_LO port := by simp [hLane]; omega
    have hHi : Reg.TXC_CNT_DROP n ≠ Reg.MAC_CNT_TX_DROP_LINK_HI port := by simp [hLane]; omega
    rw [State.rd_bump64_ne _ _ hLo hHi, State.rd_txcEvent_ne (by simp) (by simp; omega), State.rd_bump_same _ _ (by rwa [hBefore]), hBefore]
  change KeepsPlant s (b.txLateIf _ n due) ∧ ((b.txLateIf _ n due).txc n).drop = _ ∧ ((b.txLateIf _ n due).txc n).sent = _ ∧
    (b.txLateIf _ n due).rd _ = _
  obtain ⟨hSent, hDrop, hRd⟩ := b.txLateIf_frame (!s.rdBit (Reg.MAC_STATUS port) 27) n due
  exact ⟨hPlant.txLateIf, hDrop.trans (by rw [hRun]), hSent.trans (by rw [hRun]), hRd.trans hCounted⟩

/-- The digest of a payload leaves what was sent and dropped, and every register. -/
theorem State.digestPayload_frame (s : State) (n frame : Nat) (b : Bool) (p : List Byte) : (s.digestPayload n frame b p).regs = s.regs ∧
    (s.digestPayload n frame b p).out = s.out ∧ ((s.digestPayload n frame b p).txc n).sent = (s.txc n).sent ∧
    ((s.digestPayload n frame b p).txc n).drop = (s.txc n).drop ∧ KeepsPlant s (s.digestPayload n frame b p) := by
  unfold State.digestPayload
  extract_lets x c
  exact ⟨rfl, rfl, (congrArg TxRun.sent (State.txc_setTxc_same _ _ _) :), (congrArg TxRun.drop (State.txc_setTxc_same _ _ _) :), (KeepsPlant.refl s).setTxc⟩

/-- A packet whose instant has come leaves its port. -/
theorem launch_sent_outcome :
    ∀ t n frame i ready la s d c port rtp, n < 8192 → s.rdFld (Reg.TXC_CFG n) 31 28 = 8 → s.rdBit (Reg.TXC_STATUS n) 30 = false →
    port = s.rdFld (Reg.TXC_PATHS n) 9 0 → s.rdBit (Reg.TXC_PATHS n) 31 = false → s.txDst n = some (d, c) → s.txLit c.tg port = true →
    s.portUp port = true → s.rdBit (Reg.MAC_STATUS port) 27 = false → twoFields c.fmt.raster = false →
    (s.at t).launchDue n frame i ready la c ≤ ((s.at t).deviceTime : Int) →
    rtp = s.rtpHead n ((frame * max 1 (s.rdFld (Reg.TXC_PKT n) 15 0) + i) % 4294967296) (frameStamp (s.tgRate c.tg) frame) (i + 1 == max 1 (s.rdFld (Reg.TXC_PKT n) 15 0)) ++ videoPayload c.fmt (max 1 (s.rdFld (Reg.TXC_PKT n) 15 0)) i ((frame * max 1 (s.rdFld (Reg.TXC_PKT n) 15 0) + i) % 4294967296) ((s.at t).videoData d c frame (max 1 (s.rdFld (Reg.TXC_PKT n) 15 0)) i) →
    ∃ u, exec (.launch t n frame i ready la) s = .next u ∧
    (u.out.drop s.out.length).head? = some (.frame port 0 (padTo 60 (s.txFrame n port (s.rd (Reg.TXC_DST_A n)).toNat rtp) ++ toLe 4 (crc32 (padTo 60 (s.txFrame n port (s.rd (Reg.TXC_DST_A n)).toNat rtp))))) ∧
    (u.txc n).sent = (s.txc n).sent + 1 ∧ (u.txc n).drop = (s.txc n).drop ∧ u.rdBit (Reg.TXC_STATUS n) 31 = true ∧ u.xpt = s.xpt ∧
    u.ctl = s.ctl ∧ u.pins = s.pins ∧ u.cfg = s.cfg ∧ u.dram = s.dram := by
  intro t n frame i ready la s d c port rtp hn hOn hFree hPort hOne hDst hLit hUp hHeld hFields hDue hRtp
  have hPayload : (s.at t).rtpHead n ((s.at t).txSeq n frame i) (frameStamp ((s.at t).tgRate c.tg) frame) ((s.at t).txLast n c i) ++
      (s.at t).txPayload n d c frame i = rtp := by
    simp only [hRtp, State.txPayload, State.txSeq, State.txLast, State.txPackets, hFields, Bool.false_eq_true, if_false, State.rtpHead_at,
      State.rdFld_at, State.tgRate_at]
  rw [exec_launch_of_video hn hOn hFree hDst (hPort ▸ hLit) hDue, State.videoLaunched, hPayload]
  obtain ⟨hRegs, hOut, hSent, hDrop, hKeeps⟩ := (s.at t).digestPayload_frame n frame (i == 0) ((s.at t).txPayload n d c frame i)
  rw [State.at_regs] at hRegs
  rw [State.at_out] at hOut
  rw [State.txc_at] at hSent hDrop
  have hPlant := (KeepsPlant.at s t).trans hKeeps
  generalize (s.at t).launchDue n frame i ready la c = due
  generalize (s.at t).digestPayload n frame (i == 0) _ = a at *
  have hRd (r : Nat) : a.rd r = s.rd r := State.rd_congr hRegs r
  obtain ⟨hKeeps', hSent', hDrop', hFrame⟩ := State.txSend_of_up (s := a) (n := n) (due := due) (rtp := rtp) (port := port)
    ((State.rdBit_congr (hRd _)).trans hOne) ((State.rdFld_congr (hRd _)).trans hPort.symm) ((State.portUp_congr hRegs).trans hUp)
    ((State.rdBit_congr (hRd _)).trans hHeld)
  rw [hOut, State.txFrame_congr hRegs, hRd] at hFrame
  generalize a.txSend n due rtp = b at *
  have hEnd := (hPlant.trans hKeeps').wrBit (off := Reg.TXC_STATUS n) (i := 31) (b := true)
  obtain ⟨more, hMore⟩ := hFrame
  refine ⟨_, rfl, ?_, hSent'.trans (by rw [hSent]), hDrop'.trans hDrop, State.rdBit_wrBit _ (by decide), hEnd.xpt, hEnd.ctl, hEnd.pins, hEnd.cfg, hEnd.dram⟩
  rw [show (b.wrBit (Reg.TXC_STATUS n) 31 true).out = b.out from rfl, ← hMore]
  simp

/-- A packet whose link is down is dropped. -/
theorem launch_dropped_outcome :
    ∀ t n frame i ready la s d c, n < 8192 → s.rdFld (Reg.TXC_CFG n) 31 28 = 8 → s.rdBit (Reg.TXC_STATUS n) 30 = false →
    s.rdBit (Reg.TXC_PATHS n) 31 = false → s.txDst n = some (d, c) → s.txLit c.tg (s.rdFld (Reg.TXC_PATHS n) 9 0) = true →
    s.portUp (s.rdFld (Reg.TXC_PATHS n) 9 0) = false → (s.rdFld (Reg.TXC_CFG n) 30 28 = 0 →
    (s.at t).launchDue n frame i ready la c ≤ ((s.at t).deviceTime : Int)) → (s.rd (Reg.TXC_CNT_DROP n)).toNat + 1 < 4294967296 →
    ∃ u, exec (.launch t n frame i ready la) s = .next u ∧ (u.txc n).drop = (s.txc n).drop + 1 ∧ (u.txc n).sent = (s.txc n).sent ∧
    u.rd (Reg.TXC_CNT_DROP n) = BitVec.ofNat 32 ((s.rd (Reg.TXC_CNT_DROP n)).toNat + 1) ∧ u.xpt = s.xpt ∧ u.ctl = s.ctl ∧ u.pins = s.pins ∧
    u.cfg = s.cfg ∧ u.dram = s.dram := by
  intro t n frame i ready la s d c hn hOn hFree hOne hDst hLit hDown hDue hCount
  have hVideo : s.rdFld (Reg.TXC_CFG n) 30 28 = 0 := (topNibble_of_video hOn).2
  rw [exec_launch_of_video hn hOn hFree hDst hLit (hDue hVideo), State.videoLaunched]
  obtain ⟨hRegs, -, hSent, hDrop, hKeeps⟩ := (s.at t).digestPayload_frame n frame (i == 0) ((s.at t).txPayload n d c frame i)
  rw [State.at_regs] at hRegs
  rw [State.txc_at] at hSent hDrop
  have hPlant := (KeepsPlant.at s t).trans hKeeps
  generalize (s.at t).digestPayload n frame (i == 0) _ = a at *
  have hRd (r : Nat) : a.rd r = s.rd r := State.rd_congr hRegs r
  generalize (s.at t).launchDue n frame i ready la c = due
  generalize (s.at t).rtpHead n _ _ _ ++ _ = rtp
  have hPath : a.rdFld (Reg.TXC_PATHS n) 9 0 = s.rdFld (Reg.TXC_PATHS n) 9 0 := State.rdFld_congr (hRd _)
  obtain ⟨hKeeps', hDrop', hSent', hCounted⟩ := State.txSend_of_down (s := a) (n := n) (due := due) (rtp := rtp)
    ((State.rdBit_congr (hRd _)).trans hOne) hn (by rw [hPath, State.portUp_congr hRegs, hDown]) (by rwa [hRd])
  generalize a.txSend n due rtp = b at *
  have hEnd := (hPlant.trans hKeeps').wrBit (off := Reg.TXC_STATUS n) (i := 31) (b := true)
  exact ⟨_, rfl, hDrop'.trans (by rw [hDrop]), hSent'.trans hSent, (State.rd_wrBit_ne _ _ _ (by simp)).trans (by rw [hCounted, hRd]), hEnd.xpt, hEnd.ctl,
    hEnd.pins, hEnd.cfg, hEnd.dram⟩

/-- A port with groups sends one report. -/
theorem igmpReport_outcome :
    ∀ t p q s, 4 ≤ s.power.stage → s.isEth p = true → s.portUp p = true → s.rdBit (Reg.MAC_STATUS p) 27 = false → s.power.reaping = none →
    s.memberships p ≠ [] → s.rd (Reg.MED_PORT_IPV4 p) ≠ 0 → s.rdFld (Reg.MAC_CFG p) 31 30 ≠ 1 → ∃ u, exec (.igmpReport t p q) s = .next u ∧
    u.med.joined = true ∧ u.med.reported = (if q then s.med.reported else some (max s.now t)) ∧ u.out.length = s.out.length + 1 ∧
    (∀ a, a ∉ [Reg.MAC_CNT_TX_OK_LO p, Reg.MAC_CNT_TX_OK_HI p, Reg.MAC_CNT_TX_OCTETS_LO p, Reg.MAC_CNT_TX_OCTETS_HI p] → u.rd a = s.rd a) ∧
    u.ctl = s.ctl ∧ u.pins = s.pins ∧ u.cfg = s.cfg ∧ u.dram = s.dram := by
  intro t p q s hStage hEth hUp hHeld hReaping hGroups hAddress hClass
  have hGuard : ¬((s.at t).power.stage < 4 ∨ (s.at t).isEth p = false ∨ (s.at t).portUp p = false ∨ (s.at t).power.reaping.isSome = true) := by
    simp [hStage, hEth, hUp, hReaping]
  have hSends : ¬((s.at t).rd (Reg.MED_PORT_IPV4 p) = 0 ∨ (s.at t).memberships p = [] ∨ (s.at t).rdFld (Reg.MAC_CFG p) 31 30 = 1) := by
    rw [State.rd_at, State.memberships_at, State.rdFld_at]
    simp only [hAddress, hGroups, hClass, or_self, not_false_eq_true]
  have hFree : ¬(3 ≠ 5 ∧ (s.at t).rdBit (Reg.MAC_STATUS p) 27 = true) := by
    rw [State.rdBit_at, hHeld]
    simp
  have hRun : ∃ body, exec (.igmpReport t p q) s = .next (((s.at t).putFrame p 3 body).setMed { ((s.at t).putFrame p 3 body).med with
      joined := true, reported := if q then ((s.at t).putFrame p 3 body).med.reported else some ((s.at t).putFrame p 3 body).now }) := by
    change ∃ body, execIgmpReport t p q s = _
    unfold execIgmpReport
    generalize s.at t = a at *
    rw [if_neg hGuard, State.igmp, if_neg hSends, State.sendFrame, if_neg hFree]
    exact ⟨_, rfl⟩
  obtain ⟨body, hRun⟩ := hRun
  obtain ⟨hOut, hMed, hNow, hRd⟩ := (s.at t).putFrame_frame p 3 body
  have hPlant := (KeepsPlant.at s t).putFrame (p := p) (k := 3) (body := body)
  rw [State.at_out] at hOut
  rw [State.at_med] at hMed
  rw [State.at_now] at hNow
  simp only [State.rd_at] at hRd
  generalize (s.at t).putFrame p 3 body = a at *
  have hEnd := hPlant.setMed (x := { a.med with joined := true, reported := if q then a.med.reported else some a.now })
  refine ⟨_, hRun, rfl, ?_, ?_, fun r hr => hRd r hr, hEnd.ctl, hEnd.pins, hEnd.cfg, hEnd.dram⟩
  · rw [← hMed, ← hNow]
    rfl
  · exact (congrArg List.length hOut).trans (by simp)

/-- Settles O53, clause by clause: a row kept, numbers lost, a band passed; not ready, ready of either kind, a silent path, the skew within and beyond its
limit; a packet sent, a packet dropped; a membership report. -/
theorem media_contexts_receive_and_send : Obligations.media_contexts_receive_and_send :=
  ⟨lineDeadline_kept_outcome, lineDeadline_lost_outcome, bandPass_outcome, contextNotReady_outcome, contextReady_of_clean_outcome,
    contextReady_of_packets_outcome, pathInactive_outcome, skewMeasure_within_outcome, skewMeasure_beyond_outcome, launch_sent_outcome,
    launch_dropped_outcome, igmpReport_outcome⟩

end Sys2Proof.Machine
end
